-- ==== Sys2Proof/Word.lean ====
section
/-! DEFINITION. The plainest value types of the module: bytes, and the codes that registers and fields hold. -/

namespace Sys2Proof

/-- One byte of module memory, host memory or a message (R11). -/
abbrev Byte := BitVec 8

/-- The bits of a field, an object entry, a command or a tensor element, bit 0 the least significant (R11).
The width of a code is the width of the place that holds it; `bits` and `setBits` of Machine/Bits.lean cut it. -/
abbrev Code := Nat

/-- An object number of the dictionary as one number: group x 256 + member (the section "Objects, access and persistence"
of spec/00_scope.md: the group is 16 bits, the member 8 bits). -/
abbrev ObjCode := Nat

end Sys2Proof
end

