-- ==== Sys2Proof/Config.lean ====
section
/-! DEFINITION. The values the spec leaves open and the functions it names without defining: constants with no body, so
that no proof can see a value of them. -/

namespace Sys2Proof

/-- A free value: what the module produces where the spec lets it go on and states no value. The first argument is the
counter `State.free` at that moment, the second numbers the values drawn together (an element of a tile, a byte of a
range). Log entry 3. -/
opaque Config.freeVal : Nat → Nat → Nat

/-- How many copies the queue of the mirror endpoint holds (R277): the spec gives no number. Log entry 23. -/
opaque Config.mirrorDepth : Nat

/-- SM3 of a byte string, as a number of 256 bits. The spec names the algorithm (R505 to R513) and does not define it.
Log entry 4. -/
opaque Config.sm3 : List Byte → Nat

/-- HMAC-SM3 under a key, as a number of 256 bits (R510, R430). Log entry 4. -/
opaque Config.hmacSm3 : Nat → List Byte → Nat

/-- Whether an SM2 signature over a message verifies under a public key (R506, R513). Log entry 4. -/
opaque Config.sm2Verify : Nat → List Byte → List Byte → Bool

/-- The SM2 signature of a message under a private key (R512). Log entry 4. -/
opaque Config.sm2Sign : Nat → List Byte → List Byte

/-- A number derived from key material by the SM2 key exchange or by a key derivation, under a label that says which
(R509, R510, R514). Log entry 4. -/
opaque Config.kdf : Nat → List Nat → Nat

/-- Whether a device certificate's chain ends at the device CA (R514); the first argument is the CA certificate. The spec
names X.509 and does not define it. Log entry 4. -/
opaque Config.certChain : Nat → Nat → Bool

/-- SM4 in the mode the spec names, over the bytes of a message, under a key and a counter: the cipher's output
(R430, R514 to R516). Log entry 4. -/
opaque Config.sm4 : Nat → Nat → List Byte → List Byte

/-- The authentication tag of a cipher group (R516). Log entry 4. -/
opaque Config.sm4Tag : Nat → Nat → List Byte → Nat

/-- What the ROM finds in a firmware slot that has been written: the SVN and the digests of its AOP and unit firmware, none
where the slot does not verify with the vendor root key. The spec does not lay out a slot (R506). Log entry 4. -/
opaque Config.fwCheck : List (Nat × Byte) → Option (Nat × Nat × Nat)

end Sys2Proof
end

