-- ==== Sys2Proof/Syntax.lean ====
section
/-! DEFINITION. The commands of the module: one constructor for each row of spec/opcode_table.json, in the table's order.
A row's operands are what the outside world brings to it: the number of the unit it concerns, the value written, the
message that arrives, the outcome of a physical event. -/

namespace Sys2Proof

/-- A frame of the fabric as a unit sees it: the 32-byte header as one number, bit 0 the least significant of the header
as the layouts number it (R186, R247, R348, R443), and the payload bytes. -/
structure Frame where
  hdr : Nat
  payload : List Byte
  deriving DecidableEq, Repr

/-- What the error codes of a memory find in a read (R165 to R168): the codewords that hold an error, each with its number in
the read, 0 the one that holds the first byte, and the extent of the error in the unit its code counts: bits of a word of
TM, stack SRAM or the arena, symbols of a word of HBM4, devices of a burst of DDR5. It is the outside world's input: the
spec gives no cause for a bit error. -/
structure Ecc where
  flaws : List (Nat × Nat)
  deriving DecidableEq, Repr

/-- No codeword of the read holds an error. -/
abbrev Ecc.clean : Ecc := ⟨[]⟩
/-- The first codeword holds an error that every code corrects (R165). -/
abbrev Ecc.corrected : Ecc := ⟨[(0, 1)]⟩
/-- The first codeword holds an error that every code detects and none corrects (R165). -/
abbrev Ecc.uncorrectable : Ecc := ⟨[(0, 2)]⟩

/-- What the TRAIN blocks of a peer have told (R238 step 4): its serial number, its port number, its device ID, and whether
its cipher is on. -/
structure TrainData where
  serial : Nat
  port : Nat
  device : Nat
  cipher : Bool
  deriving DecidableEq, Repr

/-- What stands in the bays and sockets as the units are released: sockets with a DIMM as a mask; power stages and ELSs with the
identity that the module reads of each; and for each host cage its state (0 a module the port takes, 2 none, 3 a refused
one). -/
structure Bays where
  dimms : Nat
  stages : List (Nat × Nat)
  lasers : List (Nat × Nat)
  cages : List Nat
  deriving DecidableEq, Repr


/-- A CDP message as it arrives (R416, R417): over UDP on IPv6 (0) or IPv4 (1) at host port `hp` from an address and port, or
over the fabric (2) from the device `addr` in a frame whose header bits [191:0] are `mgt`; the 32-byte header as one number,
the payload, the 32-byte tag if one follows, and whether one of the 256 reply buffers is free (R426). -/
structure CdpMsg where
  via : Nat
  hp : Nat
  addr : Nat
  udpPort : Nat
  mgt : Nat
  hdr : Nat
  payload : List Byte
  tag : Option Nat
  room : Bool
  deriving DecidableEq, Repr

/-- The commands (spec/opcode_table.json). -/
inductive Instr
  /-- NOP (R89). Sequencer NOP issues and does nothing beyond its wait and post. -/
  | nop (core : Nat)
  /-- END (R89). Sequencer END stops issue so that the core can finish once every issued command completes. -/
  | sqEnd (core : Nat)
  /-- PACE (R89). PACE requires a gap of at least n strides before the next paced command dispatches. -/
  | pace (core : Nat)
  /-- WAIT (R89). SQ WAIT stops issue until the flag is at least count, then subtracts count unless KEEP is set. -/
  | wait (core : Nat)
  /-- POST (R89). SQ POST adds count to a flag. -/
  | post (core : Nat)
  /-- FLAGSET (R89). FLAGSET sets a flag to a value. -/
  | flagset (core : Nat)
  /-- PSET (R89). PSET copies one bit of a summary slot's status word into a predicate. -/
  | pset (core : Nat)
  /-- PLOGIC (R89). PLOGIC combines two predicates into a destination predicate. -/
  | plogic (core : Nat)
  /-- SKIP (R90). SKIP passes over the next n commands, or halts with BAD_OPCODE reason 4 if its target lies outside the stream. -/
  | skip (core : Nat)
  /-- LAPSET (R89). LAPSET loads a lap counter. -/
  | lapset (core : Nat)
  /-- LAP (R91). LAP decrements a non-zero lap counter and restarts the segment n commands back. -/
  | lap (core : Nat)
  /-- DRAIN (R89). SQ DRAIN stops issue until every queue is empty and every issued command has completed. -/
  | drain (core : Nat)
  /-- MARK (R89). MARK records a value in the MARK field of the core's halt record. -/
  | mark (core : Nat)
  /-- MMA (R113). MMA is issued into the MXE queue after the chain rules of its accumulator set are checked. -/
  | mma (core : Nat)
  /-- MOUT (R116). MOUT scales and rounds an accumulator set into TM or a tile register. -/
  | mout (core : Nat)
  /-- MPART (R116). MPART rounds an accumulator set to unscaled FP32 in a tile register. -/
  | mpart (core : Nat)
  /-- MCLR (R115). MCLR clears an accumulator set and its flags. -/
  | mclr (core : Nat)
  /-- VOP (R123). VOP performs element-wise arithmetic, select, max or min on tile registers. -/
  | vop (core : Nat)
  /-- VCMP (R126). VCMP writes a comparison bitmap or a mask operation to a mask register. -/
  | vcmp (core : Nat)
  /-- VFUNC (R127). VFUNC computes EXP2, LOG2, RCP or RSQRT of each element, correctly rounded. -/
  | vfunc (core : Nat)
  /-- VRED (R128). VRED reduces rows, columns or a whole tile and can write a summary slot. -/
  | vred (core : Nat)
  /-- VCVT (R129). VCVT converts FP32 tile elements to a stored format with the descriptor's factors. -/
  | vcvt (core : Nat)
  /-- VWIDEN (R129). VWIDEN converts a TM tensor to FP32 tile registers with a scale. -/
  | vwiden (core : Nat)
  /-- VLD (R129). VLD moves an FP32 tile from TM to a tile register. -/
  | vld (core : Nat)
  /-- VST (R129). VST moves an FP32 tile register to TM. -/
  | vst (core : Nat)
  /-- VBMP (R129). VBMP writes the non-zero bitmap of a tile to TM. -/
  | vbmp (core : Nat)
  /-- RAKE (R145). RAKE ANDs the A bitmap with the B union and compacts the surviving positions for the MXE. -/
  | rake (core : Nat)
  /-- RMASK (R153). RMASK compares an actual bitmap with a predicted one and writes a record. -/
  | rmask (core : Nat)
  /-- SETA (R191). SETA loads an LDE address register with a global address. -/
  | seta (core : Nat)
  /-- LOAD (R190). LOAD moves memory to TM in GMU requests of at most 4,096 bytes. -/
  | load (core : Nat)
  /-- STORE (R190). STORE moves TM to memory, optionally on an ordered stream. -/
  | store (core : Nat)
  /-- COPY (R190). COPY moves memory to memory through the GMU. -/
  | copy (core : Nat)
  /-- ATOM (R201). ATOM sends a memory-side atomic and writes the old value to TM. -/
  | atom (core : Nat)
  /-- FENCE (R200). LDE FENCE on an ordered stream posts when everything earlier on the stream is performed and visible. -/
  | fence (core : Nat)
  /-- SIGNAL (R191). FXE SIGNAL sends a request that adds 1 to a flag of a named core of a named module. -/
  | signal (core : Nat)
  /-- COLL (R346). FXE COLL hands chunks of a collective to the CLE under a group context. -/
  | coll (core : Nat)
  /-- PACED_DISPATCH (R86). A paced command dispatches at the first stride at which its gap, engine, wait and governor conditions all hold. -/
  | pacedDispatch (core : Nat) (ecc : Ecc)
  /-- QUEUE_DISPATCH (R82). An LDE or FXE command dispatches from its queue head once its engine and wait allow. -/
  | queueDispatch (core : Nat) (engine : Nat) (ecc : Ecc)
  /-- PACED_RESULT (R94). A paced command reaches the end of its result latency, its result becomes readable and its post takes place. -/
  | pacedResult (core : Nat) (ecc : Ecc)
  /-- WAIT_LIMIT (R96). A wait's stride count reaches its limit and the core halts with WAIT_LIMIT, recording every waiter. -/
  | waitLimit (core : Nat)
  /-- CORE_COMPLETE (R105). After END, truncation or halt the last outstanding command completes and the core becomes DONE or HALTED with its completion record. -/
  | coreComplete (core : Nat)
  /-- ICACHE_FILL (R100). An instruction-cache line arrives from HBM and issue resumes. -/
  | icacheFill (core : Nat) (line : Nat) (parity : Bool) (ecc : Ecc)
  /-- CORE_LAUNCH (R104). A write to 2000.02 launches a core from a descriptor or refuses it with a code. -/
  | coreLaunch (value : Nat) (ecc : Ecc)
  /-- CORE_STOP (R536). A write to 2000.03 stops a running core's issue so that it ends TRUNCATED, detail 1. -/
  | coreStop (value : Nat)
  /-- TOTAL_CLEAR (R75). A write to 2800.03 clears the saturated and flushed totals of one core or of all cores. -/
  | totalClear (value : Nat)
  /-- STRIDE_WINDOW_END (R80). A window of 2^20 reference ticks ends and STRIDE_RATE of each core is updated. -/
  | strideWindowEnd
  /-- RKE_SERVICE_START (R150). The shared RKE starts serving the next RAKE or RMASK in order of arrival. -/
  | rkeServiceStart (engine : Nat) (ecc : Ecc)
  /-- RKE_RESULT (R149). An RKE command reaches service start + 24 and writes its area, record, slot and post. -/
  | rkeResult (engine : Nat) (ecc : Ecc)
  /-- RAKE_TOTAL_CLEAR (R155). A write to 2090.05 clears the Rake totals of one core or of all cores. -/
  | rakeTotalClear (value : Nat)
  /-- PATROL_READ (R167). A patrol read of a codeword is made once per patrol period, correcting as needed. -/
  | patrolRead (region : Nat) (off : Nat) (ecc : Ecc)
  /-- ONDIE_CE_POLL (R166). Corrections by each HBM4 stack's on-die code are read once per second and counted. -/
  | ondieCePoll (ctrl : Nat) (count : Nat)
  /-- RECAL_START (R170). A controller's temperature change or 2 s interval starts a recalibration hold. -/
  | recalStart (ctrl : Nat) (temp : Nat)
  /-- RECAL_END (R171). A hold ends, owed refreshes and held requests are performed, and new traffic is admitted. -/
  | recalEnd (ctrl : Nat)
  /-- RECAL_FORCED (R172). In on-command mode a 16 °C change forces an immediate recalibration. -/
  | recalForced (ctrl : Nat) (temp : Nat)
  /-- RECAL_NOW (R180). A write to 3300.02 requests recalibration of one HBM or DDR5 controller. -/
  | recalNow (value : Nat)
  /-- DIMM_DRAIN (R175). DRAIN on 3400.02 starts copying a DIMM window to a target range, or is refused. -/
  | dimmDrain (chan : Nat)
  /-- DIMM_POWER_OFF (R177). POWER_OFF ramps a socket down and releases its latch lock. -/
  | dimmPowerOff (chan : Nat)
  /-- DIMM_POWER_ON (R181). POWER_ON powers a socket. -/
  | dimmPowerOn (chan : Nat)
  /-- DIMM_RETURN (R173). RETURN copies the content back from the redirect target and clears the redirect. -/
  | dimmReturn (chan : Nat)
  /-- DRAIN_CANCEL (R178). CANCEL discards a drain, or ends a return with the redirect left valid. -/
  | drainCancel (chan : Nat)
  /-- DRAIN_BLOCK_COPIED (R173). A 4 KiB block copy completes and the current block advances, the redirect switching after the last block. -/
  | drainBlockCopied (ecc : Ecc)
  /-- DIMM_LATCH_CLOSE (R177). The latch of a powered-off socket closes and the socket is powered with a ramp and trained. -/
  | dimmLatchClose (chan : Nat)
  /-- DIMM_TRAINED (R164). DIMM training ends and the socket becomes IN_SERVICE, READY or REFUSED. -/
  | dimmTrained (chan : Nat) (capacity : Nat) (ident : Nat) (mrdimm : Bool) (eccX4 : Bool) (checksum : Bool) (trained : Bool)
  /-- DIMM_LATCH_OPEN (R177). A latch opens outside POWERED_OFF and is treated as an uncorrectable read of the channel. -/
  | dimmLatchOpen (chan : Nat)
  /-- GMU_REPLY (R192). A reply arrives at the requester GMU, which completes the request and posts when every request of the command is OK. -/
  | gmuReply (f : Frame) (ecc : Ecc)
  /-- REPLAY_AFTER_EXPIRY (R196). REPLAY_AFTER expires for a stream's oldest unacknowledged request and the stream is cut. -/
  | replayAfterExpiry (entry : Nat)
  /-- ABANDON_AFTER_EXPIRY (R206). An unordered request without a reply ends LOST and its tag is quarantined. -/
  | abandonAfterExpiry (tag : Nat)
  /-- TAG_QUARANTINE_END (R189). The 10 ms quarantine of an abandoned tag ends and the tag can be reused. -/
  | tagQuarantineEnd (tag : Nat)
  /-- STREAM_RESET (R197). A write to 4200.04 resets a BROKEN stream with a releasing FENCE. -/
  | streamReset (value : Nat)
  /-- REQ_READ (R186). A READ request is performed at the owning GMU slice and answered. -/
  | reqRead (f : Frame) (ecc : Ecc)
  /-- REQ_WRITE (R194). A WRITE request is performed, in stream order when ordered. -/
  | reqWrite (f : Frame) (ecc : Ecc)
  /-- REQ_ATOMIC (R202). An ATOMIC request is performed indivisibly at the owning slice. -/
  | reqAtomic (f : Frame) (ecc : Ecc)
  /-- REQ_FENCE (R200). A FENCE request is answered when everything earlier on its stream is performed and visible. -/
  | reqFence (f : Frame)
  /-- REQ_SIGNAL (R191). A SIGNAL request increments the named flag of a present core. -/
  | reqSignal (f : Frame)
  /-- REQ_PDELTA (R212). A parity member XORs a PDELTA into its parity and logs it. -/
  | reqPdelta (f : Frame) (ecc : Ecc)
  /-- REQ_PCLOSE (R212). A PCLOSE frees the delta log entry of its WRITE_ID. -/
  | reqPclose (f : Frame)
  /-- GUARD_PARITY_REPLIED (R211). Both parity replies arrive, the new bytes are written, the requester is answered and PCLOSE is sent. -/
  | guardParityReplied (ctx : Nat)
  /-- GUARD_ACTIVATE (R213). ACTIVATE on 4400.03 makes a Guard descriptor active, taking the log and park ranges for the first one. -/
  | guardActivate (entry : Nat)
  /-- GUARD_DEACTIVATE (R217). DEACTIVATE makes a Guard descriptor invalid when no delta is open. -/
  | guardDeactivate (entry : Nat)
  /-- GUARD_QUIET (R215). Every survivor of a QUIESCING group is quiet and the group becomes REBUILDING. -/
  | guardQuiet (entry : Nat)
  /-- STRIPE_DEMAND_REBUILD (R215). A spare rebuilds a stripe when the first read, store or PDELTA for it arrives. -/
  | stripeDemandRebuild (entry : Nat) (stripe : Nat) (symbols : List (Nat × List Byte))
  /-- LINK_BLOCK_RECEIVE (R230). A link block is received, checked by LCRC, and its ACK, NAK, XOFF and cell are acted on. -/
  | linkBlockReceive (port : Nat) (block : List Byte) (errors : List Nat) (train : Option TrainData)
  /-- LINK_REPLAY_TIMEOUT (R230). The oldest stored block is unacknowledged for LOOP + 200 ns and is replayed. -/
  | linkReplayTimeout (port : Nat)
  /-- LOS (R241). Loss of light or lock on a lane takes the port down and starts self-test check 4. -/
  | portLos (port : Nat) (light : Bool)
  /-- FEC_RATE (R241). The pre-FEC error ratio over one second exceeds the threshold and the port goes down. -/
  | fecRate (port : Nat) (lanes : List (Nat × Nat)) (errors : Nat)
  /-- LOOP_MEASURE (R236). An UP port sends a LOOP probe once per second. -/
  | loopMeasure (port : Nat)
  /-- TRAINING_START (R238). A port in MODE FABRIC starts a training attempt. -/
  | trainingStart (port : Nat)
  /-- TRAINING_RETRY (R238). 100 ms after a failed attempt began, a new attempt starts. -/
  | trainingRetry (port : Nat)
  /-- PORT_UP (R238). Training completes, headroom is reserved and the port becomes UP. -/
  | portUp (port : Nat)
  /-- CIPHER_KEY_AGREED (R514). The SM4 key agreement carried in TRAIN blocks completes or fails with CIPHER_MISMATCH. -/
  | cipherKeyAgreed (port : Nat) (cert : Nat) (owner : Nat) (point : Nat) (confirm : Nat)
  /-- PORT_ENABLE (R244). ENABLE on 5000.03 lets a port train. -/
  | portEnable (port : Nat)
  /-- PORT_DISABLE (R244). DISABLE on 5000.03 darkens a port. -/
  | portDisable (port : Nat)
  /-- RETRAIN (R244). RETRAIN on 5000.03 takes a port down and trains it again. -/
  | retrain (port : Nat)
  /-- PORT_SELFTEST (R240). SELFTEST on 5000.03 runs self-test check 4 on a port. -/
  | portSelftest (port : Nat)
  /-- SELFTEST_LOOPBACK_DONE (R240). Check 4 completes and classifies the port event as outside or internal. -/
  | selftestLoopbackDone (port : Nat) (passed : Bool)
  /-- OE_SELFTEST (R240). A continuous OE check fails and the module scratches itself with cause OE_SELFTEST. -/
  | oeSelftest (oe : Nat) (check : Nat)
  /-- ELS_OUTPUT_LOSS (R221). One ELS of a sharing pair loses its output and the partner is driven to full output. -/
  | elsOutputLoss (els : Nat)
  /-- ELS_PARTNER_FULL (R221). The partner reaches full output and the states become FAILED and ALONE. -/
  | elsPartnerFull (els : Nat)
  /-- ELS_REMOVE (R223). REMOVE on 5200.03 ramps a sharing ELS down and its partner up. -/
  | elsRemove (els : Nat)
  /-- ELS_CANCEL (R244). CANCEL on 5200.03 cancels an ELS removal. -/
  | elsCancel (els : Nat)
  /-- ELS_RAMP_DONE (R223). The removal ramp ends and the ELS becomes SAFE_TO_REMOVE with its latch released. -/
  | elsRampDone (els : Nat)
  /-- ELS_INSERT (R224). An ELS is inserted, identified, and refused or powered to STARTING. -/
  | elsInsert (els : Nat) (info : Nat) (qualified : Bool)
  /-- ELS_START_DONE (R224). Wavelengths lock and the new ELS shares the light with its partner. -/
  | elsStartDone (els : Nat)
  /-- ELS_LATCH_OPEN (R223). An ELS latch opens outside SAFE_TO_REMOVE and is treated as a loss of output. -/
  | elsLatchOpen (els : Nat)
  /-- FRAME_LOOKUP (R262). The first cell of a unicast frame is looked up and the frame is routed, delivered, diverted or dropped. -/
  | frameLookup (pos : Nat) (f : Frame)
  /-- MC_LOOKUP (R272). An accepted multicast frame is stored once and a copy is queued for each usable port and named local channel. -/
  | mcLookup (pos : Nat) (f : Frame)
  /-- CELL_MATCH (R254). In each cell time, request, grant and accept rounds match bank read ports to egress positions. -/
  | cellMatch
  /-- FRAME_DEPARTURE (R255). A frame or copy begins to leave its egress position. -/
  | frameDeparture (egress : Nat)
  /-- FWD_AGE_EXPIRY (R281). An unchecked FWD frame waits beyond FWD_AGE_NS at its egress and is dropped. -/
  | fwdAgeExpiry (egress : Nat)
  /-- ROUTE_COMMIT (R267). A write of 1 to 6300.05 checks all shadows and swaps them into the active copies at one cell-time boundary. -/
  | routeCommit (value : Nat)
  /-- FLOW_ENQUEUE (R287). A copy takes its place in a flow of its port, policed first where the flow has a policer. -/
  | flowEnqueue (port : Nat)
  /-- TMG_PICK (R293). The TMG picks a port's next candidate by colour, priority and deficit round-robin and debits shapers and credits. -/
  | tmgPick (port : Nat)
  /-- FLOW_CREATE (R288). CREATE on 7100.02 makes the lowest free flow valid for a port, class and key. -/
  | flowCreate (value : Nat)
  /-- FLOW_DELETE (R288). DELETE on 7100.02 sets a flow DRAINING. -/
  | flowDelete (flow : Nat)
  /-- SU_FRAME_DELIVER (R309). A frame for an SU is written into a free baton slot of its binding or dropped. -/
  | suFrameDeliver (ingress : Nat) (f : Frame)
  /-- SU_RUN_START (R310). An SU starts the run of the oldest waiting frame at instruction 0. -/
  | suRunStart (su : Nat)
  /-- ECMEL_NOP (R315). Ecmel NOP does nothing. -/
  | ecmelNop (su : Nat)
  /-- ECMEL_END (R312). Ecmel END ends the run and releases the frame's baton slot. -/
  | ecmelEnd (su : Nat)
  /-- DROP (R312). Ecmel DROP ends the run and drops the frame. -/
  | ecmelDrop (su : Nat)
  /-- BRZ (R315). BRZ branches forward when a register is zero. -/
  | brz (su : Nat)
  /-- BRNZ (R315). BRNZ branches forward when a register is not zero. -/
  | brnz (su : Nat)
  /-- MOVI (R315). MOVI loads a sign-extended immediate. -/
  | movi (su : Nat)
  /-- ALU (R315). ALU performs an arithmetic, logical or comparison operation on two registers. -/
  | ecmelAlu (su : Nat)
  /-- GET (R315). GET loads a frame or binding property into a register. -/
  | ecmelGet (su : Nat)
  /-- HDR (R315). HDR loads a word of the input header. -/
  | ecmelHdr (su : Nat)
  /-- LDP (R315). LDP loads 8 payload bytes. -/
  | ldp (su : Nat)
  /-- PADD (R315). PADD adds into a kept register modulo 2^64. -/
  | padd (su : Nat)
  /-- OHDR (R315). OHDR writes a word of the output header. -/
  | ohdr (su : Nat)
  /-- OPUT (R315). OPUT writes 8 bytes of the output buffer. -/
  | oput (su : Nat)
  /-- OCOPY (R315). OCOPY copies payload bytes into the output buffer. -/
  | ocopy (su : Nat)
  /-- SEND (R313). SEND injects output bytes as a new frame with fixed-up header fields. -/
  | ecmelSend (su : Nat)
  /-- RSUM (R321). RSUM adds the payload as one ranked contribution to a sum record and outputs the result on completion. -/
  | ecmelRsum (su : Nat)
  /-- GATH (R324). GATH places the payload by rank into a gather record and outputs it when complete. -/
  | ecmelGath (su : Nat)
  /-- FILT (R326). FILT removes records by their bitmap bits and compacts the rest. -/
  | ecmelFilt (su : Nat)
  /-- MERGE (R328). MERGE adds a sorted run to a merge context and outputs the top K on completion. -/
  | ecmelMerge (su : Nat)
  /-- BTEST (R315). BTEST reads a bit of the slot's bitmap region. -/
  | btest (su : Nat)
  /-- BSET (R315). BSET writes a bit of the slot's bitmap region. -/
  | bset (su : Nat)
  /-- GFMAC (R330). GFMAC XORs GF(2^8) products of payload bytes into the output buffer. -/
  | gfmac (su : Nat)
  /-- OZERO (R315). OZERO clears output bytes. -/
  | ozero (su : Nat)
  /-- GUARD_RUN (R331). The Guard program forms the two parity deltas of a Guard store ahead of waiting frames. -/
  | guardRun (ctx : Nat)
  /-- PROGRAM_LOAD (R317). LOAD on 8000.02 checks a staged Ecmel program and loads it into a slot. -/
  | programLoad (slot : Nat)
  /-- PROGRAM_CLEAR (R320). CLEAR on 8000.02 clears an unbound slot's program. -/
  | programClear (slot : Nat)
  /-- BIND (R319). BIND on 8100.03 binds a slot and reserves its baton slots. -/
  | bind (slot : Nat) (ecc : Ecc)
  /-- UNBIND (R320). UNBIND on 8100.03 unbinds an idle slot. -/
  | unbind (slot : Nat)
  /-- FORCE_UNBIND (R320). FORCE_UNBIND discards a slot's frames and records and returns its baton slots. -/
  | forceUnbind (slot : Nat)
  /-- BITMAP_CLEAR (R335). A write to 8300.02 clears an SU's bitmap memory between runs. -/
  | bitmapClear (su : Nat)
  /-- GROUP_SETUP (R338). SETUP on 9000.04 checks a group descriptor and opens a CLE context with its baton slots and SU slots. -/
  | groupSetup (ecc : Ecc)
  /-- GROUP_DESTROY (R341). DESTROY on 9000.04 frees a context that is not RUNNING. -/
  | groupDestroy (ctx : Nat)
  /-- GROUP_RESUME (R364). RESUME on 9000.04 returns an ABORTED context to READY with a new epoch. -/
  | groupResume (ctx : Nat)
  /-- CHUNK_SEND (R356). A member sends a contribution chunk once it lies within its window. -/
  | chunkSend (ctx : Nat) (ecc : Ecc)
  /-- CONTRIB (R351). A reduction point takes a CONTRIB part and hands a verified contribution to the stream units. -/
  | contribFrame (f : Frame) (op : Nat)
  /-- RESULT_ASSEMBLE (R353). All result parts of a chunk are present and the RP checks and sends the result. -/
  | resultAssemble (ctx : Nat) (target : Nat)
  /-- RESULT (R354). A member takes a RESULT part and writes a verified chunk to DST. -/
  | resultFrame (f : Frame)
  /-- DIRECT (R358). A receiver takes a DIRECT part of an exchange pair and writes the verified chunk. -/
  | directFrame (f : Frame)
  /-- GRANT (R358). A sender receives a GRANT allowing more chunks of a pair. -/
  | grantFrame (f : Frame)
  /-- RETRY (R361). A RETRY control frame makes the source send the chunk again with TRY 1. -/
  | retryFrame (f : Frame) (ecc : Ecc)
  /-- DONE (R354). A verified DONE control frame counts as the chunk received. -/
  | doneFrame (f : Frame)
  /-- ABORT (R363). An ABORT control frame aborts the collective at every CLE of the group. -/
  | abortFrame (f : Frame)
  /-- CHUNK_TIMEOUT (R361). A chunk's parts are not all present within CHUNK_TIMEOUT, so it fails its check and is retried or aborted. -/
  | chunkTimeout (ctx : Nat)
  /-- RESULT_TIMEOUT (R361). No result, DONE or grant arrives within RESULT_TIMEOUT, so the chunk is retried or the collective aborts. -/
  | resultTimeout (ctx : Nat)
  /-- RESERVE (R374). RESERVE pops n buffers for an owner, all or none. -/
  | bpmReserve (owner : Nat) (pool : Nat) (n : Nat) (ecc : Ecc)
  /-- ALLOC_HIGH (R374). A HIGH allocation pops one buffer. -/
  | bpmAllocHigh (owner : Nat) (pool : Nat) (ecc : Ecc)
  /-- ALLOC_LOW (R374). A LOW allocation pops one buffer unless the pool is in CRUST or DRY. -/
  | bpmAllocLow (owner : Nat) (pool : Nat) (ecc : Ecc)
  /-- HANDOVER (R374). HANDOVER names a new owner of a buffer. -/
  | bpmHandover (owner : Nat) (pool : Nat) (buffer : Nat) (taker : Nat)
  /-- FREE (R375). FREE pushes a buffer back, or is rejected if the caller is not its owner. -/
  | bpmFree (owner : Nat) (pool : Nat) (buffer : Nat)
  /-- POOL_INIT (R372). INIT on A000.03 builds the free list of a DISABLED pool. -/
  | poolInit (pool : Nat)
  /-- POOL_INIT_DONE (R372). INIT finishes writing the link words and the pool leaves INITIALISING. -/
  | poolInitDone (pool : Nat)
  /-- POOL_DISABLE (R389). DISABLE on A000.03 disables a pool that holds no buffers. -/
  | poolDisable (pool : Nat)
  /-- OWNER_QUERY (R389). A write to A000.07 returns the owner of a buffer. -/
  | ownerQuery (value : Nat)
  /-- CVU_START (R379). START loads INIT into a CVU's register and zeroes its byte count. -/
  | cvuStart (cvu : Nat)
  /-- CVU_FINISH (R379). FINISH forms a CVU's result from its register. -/
  | cvuFinish (cvu : Nat)
  /-- CVU_SUSPEND (R384). SUSPEND holds a running CVU at the next 64-byte boundary. -/
  | cvuSuspend (cvu : Nat) (fed : Nat)
  /-- CVU_RESUME (R384). RESUME continues a held feed. -/
  | cvuResume (cvu : Nat)
  /-- FEED (R383). FEED queues a memory range to be fed to a free CVU. -/
  | feed (cvu : Nat)
  /-- CVU_CANCEL (R384). CANCEL discards a CVU's feeds and makes it IDLE. -/
  | cvuCancel (cvu : Nat) (fed : Nat)
  /-- FEED_DONE (R383). A feed finishes and the next waiting feed starts. -/
  | feedDone (cvu : Nat) (ecc : Ecc)
  /-- SCAN_SUBMIT (R385). SUBMIT on A200.02 queues a scan job. -/
  | scanSubmit
  /-- SCAN_CANCEL (R386). CANCEL on A200.02 ends a queued or running job. -/
  | scanCancel (entry : Nat) (done : Nat)
  /-- SCAN_JOB_START (R386). A queued job starts when its CVU is IDLE with no feed waiting. -/
  | scanJobStart
  /-- SCAN_JOB_END (R386). A FILL, CHECK or COMPUTE job ends OK or MISMATCH. -/
  | scanJobEnd (ecc : Ecc)
  /-- STARTUP_FILL (R387). After a reset that keeps no memory, TM, SRAM, HBM and the arena are zero-filled before IN_SERVICE. -/
  | startupFill
  /-- HOST_FRAME_RECEIVE (R392). A frame on a host port is dispatched to RoCEv2, CDP, fabric injection or the port, or dropped. -/
  | hostFrameReceive (hp : Nat) (len : Nat) (udp : Nat) (etype : Nat) (fcsOk : Bool) (toIp : Bool) (toMac : Bool) (neighbour : Bool) (vlan : Option Nat) (bad : Option (Nat × Nat))
  /-- RDMA_WRITE (R398). An RDMA WRITE through an access window is performed and acknowledged after its GMU requests. -/
  | rdmaWrite (qp : Nat) (psn : Nat) (rkey : Nat) (va : Nat) (data : List Byte) (ce : Bool)
  /-- RDMA_READ (R398). An RDMA READ through an access window is performed and answered. -/
  | rdmaRead (qp : Nat) (psn : Nat) (rkey : Nat) (va : Nat) (length : Nat) (ce : Bool)
  /-- RDMA_SEND (R401). A SEND is placed in a pool buffer, logged, handed to the host, flagged and acknowledged. -/
  | rdmaSend (qp : Nat) (psn : Nat) (data : List Byte) (ce : Bool) (ecc : Ecc)
  /-- RDMA_ATOMIC (R399). A fetch-add or compare-swap is performed as a U64 atomic. -/
  | rdmaAtomic (qp : Nat) (psn : Nat) (rkey : Nat) (va : Nat) (swap : Bool) (operand : Nat) (compare : Nat) (ce : Bool)
  /-- CNP (R403). A received CNP halves the queue pair's send rate. -/
  | cnp (qp : Nat)
  /-- RATE_RAISE (R403). 55 µs without a CNP raise a queue pair's rate by 5 Gbit/s. -/
  | rateRaise (qp : Nat)
  /-- ACK_TIMEOUT (R404). The module's request has no acknowledgement within its timeout and is retried until RETRY_CNT runs out. -/
  | ackTimeout (qp : Nat)
  /-- QP_CONNECT (R395). CONNECT on B100.02 makes a queue pair READY from its entry. -/
  | qpConnect (qp : Nat)
  /-- QP_RESET (R395). RESET on B100.02 returns a queue pair to RESET. -/
  | qpReset (qp : Nat)
  /-- RING_POLL (R406). A running ring reads PI every RING_POLL_NS and reads pending commands in batches. -/
  | ringPoll (ring : Nat)
  /-- RING_NOP (R413). A ring NOP completes at start. -/
  | ringNop (ring : Nat)
  /-- RING_LAUNCH (R413). A ring LAUNCH launches a core and completes when it is DONE or HALTED. -/
  | ringLaunch (ring : Nat) (ecc : Ecc)
  /-- RING_COLL (R413). A ring COLL starts a collective on behalf of OWNER_CORE. -/
  | ringColl (ring : Nat) (ecc : Ecc)
  /-- RING_POWER (R413). A ring POWER requests a power state. -/
  | ringPower (ring : Nat)
  /-- RING_POOL_FREE (R413). A ring POOL_FREE frees host-owned buffers. -/
  | ringPoolFree (ring : Nat)
  /-- RING_COMPLETION (R410). A ring command completes and its completion record is written after its data. -/
  | ringCompletion (ring : Nat) (n : Nat)
  /-- RING_START (R414). START on B300.02 starts a stopped ring. -/
  | ringStart (ring : Nat)
  /-- RING_STOP (R414). STOP on B300.02 stops a running or faulted ring. -/
  | ringStop (ring : Nat)
  /-- FWD_OUTBOUND (R415). A FWD frame delivered to the HA leaves on FWD_PORT as Ethernet. -/
  | fwdOutbound (f : Frame)
  /-- FWD_INBOUND (R415). A host frame with FWD_ETYPE is injected as a FWD frame. -/
  | fwdInbound (hp : Nat) (bytes : List Byte)
  /-- MIRROR_OUT (R415). A mirror copy leaves on MIRROR_PORT. -/
  | mirrorOut
  /-- CDP_READ (R420). A CDP READ returns bytes of an object. -/
  | cdpRead (m : CdpMsg)
  /-- CDP_WRITE (R420). A CDP WRITE applies bytes to an object under its rules. -/
  | cdpWrite (m : CdpMsg) (fed : Nat) (reachable : Bool) (ecc : Ecc)
  /-- DESCRIBE (R427). DESCRIBE returns an object's type, access, persistence, size and default. -/
  | describe (m : CdpMsg)
  /-- NEXT (R418). NEXT returns the next existing object. -/
  | cdpNext (m : CdpMsg)
  /-- NV_WRITE (R434). NV_WRITE appends a SET record to the active journal. -/
  | nvWrite (m : CdpMsg)
  /-- NV_ERASE (R434). NV_ERASE appends an ERASE record to the active journal. -/
  | nvErase (m : CdpMsg)
  /-- SESSION_OPEN (R510). SESSION_OPEN starts an SM2 key exchange and assigns a session number. -/
  | sessionOpen (m : CdpMsg)
  /-- SESSION_FINISH (R510). SESSION_FINISH confirms the exchange and opens the session. -/
  | sessionFinish (m : CdpMsg)
  /-- SESSION_CLOSE (R422). SESSION_CLOSE closes a session. -/
  | sessionClose (m : CdpMsg)
  /-- IMAGE_WRITE (R437). IMAGE_WRITE writes image bytes into the erased standby bank or firmware slot. -/
  | imageWrite (m : CdpMsg)
  /-- CDP_IDLE_EXPIRY (R422). A session without a request for CDP_IDLE_S closes. -/
  | cdpIdleExpiry (session : Nat)
  /-- SESSION_FINISH_TIMEOUT (R510). A session not finished within 100 ms is discarded. -/
  | sessionFinishTimeout (session : Nat)
  /-- NV_BANK_ERASE (R437). ERASE on E100.02 erases the standby NV bank. -/
  | nvBankErase
  /-- NV_BANK_ERASE_DONE (R437). The standby bank erase completes. -/
  | nvBankEraseDone
  /-- NV_VERIFY (R437). VERIFY on E100.02 checks the standby bank. -/
  | nvVerify
  /-- NV_ACTIVATE (R437). ACTIVATE on E100.02 marks the verified bank for the next reset. -/
  | nvActivate
  /-- HEARTBEAT_SEND (R445). A module sends a HEARTBEAT every 50 µs. -/
  | heartbeatSend
  /-- HEARTBEAT (R446). A received heartbeat resets a module's miss count and clears suspicion. -/
  | heartbeatMsg (f : Frame)
  /-- HEARTBEAT_MISS (R446). A heartbeat interval passes without one, and at the fourth miss the module is suspected and probed. -/
  | heartbeatMiss (dev : Nat)
  /-- PROBE_RELAY_TIMEOUT (R446). 100 µs after the first probe without an answer, probes are relayed through neighbours. -/
  | probeRelayTimeout (dev : Nat)
  /-- PROBE_FAIL_TIMEOUT (R446). 200 µs after the first probe without an answer, the manager decides a scratch. -/
  | probeFailTimeout (dev : Nat)
  /-- PROBE (R444). A module answers a PROBE with PROBE_ACK. -/
  | probeMsg (f : Frame)
  /-- PROBE_ACK (R446). A PROBE_ACK clears the subject's misses and suspicion. -/
  | probeAckMsg (f : Frame)
  /-- REPORT_SEND (R452). Every 10 ms a module sends a REPORT of its events. -/
  | reportSend
  /-- REPORT (R452). The manager accumulates a received REPORT. -/
  | reportMsg (f : Frame) (scratched : List Nat)
  /-- SCORE_WINDOW_END (R455). At each 10 ms window end the manager updates scores and decides expulsions. -/
  | scoreWindowEnd
  /-- SUSPECT (R197). A SUSPECT message holds every stream to its subject. -/
  | suspectMsg (f : Frame)
  /-- CLEARED (R197). A CLEARED message releases held streams to its subject with a cut. -/
  | clearedMsg (f : Frame)
  /-- LOST (R461). A LOST message holds streams, aborts groups and quiesces Guard groups of the lost modules. -/
  | lostMsg (f : Frame)
  /-- MARSHAL_FENCE (R448). A FENCE message puts every port facing its subject into PEER_SCRATCHED. -/
  | marshalFenceMsg (f : Frame)
  /-- STEP_ACK (R461). The manager records a STEP_ACK and advances the epoch when a step is done. -/
  | stepAckMsg (f : Frame)
  /-- STEP_TIMEOUT (R462). An addressee fails to acknowledge a step within STEP_TIMEOUT and the epoch is raised. -/
  | stepTimeout
  /-- RELAY (R459). A spare takes a rank ID and the rank's Guard descriptors in REBUILDING. -/
  | relayMsg (f : Frame) (rest : List Byte)
  /-- REROUTE (R458). Every module copies route entries from spare IDs to rank IDs with the effect of a commit. -/
  | rerouteMsg (f : Frame)
  /-- RELAYED (R461). RELAYED releases held streams with a cut and sets Guard groups REBUILDING. -/
  | relayedMsg (f : Frame)
  /-- REBUILT (R461). The manager records a spare's REBUILT and ends the epoch when all have arrived. -/
  | rebuiltMsg (f : Frame)
  /-- HELLO_SEND (R442). A module without a device ID sends HELLO every 10 ms on every UP port. -/
  | helloSend
  /-- HELLO (R442). A neighbour forwards a HELLO to the manager, which may answer with ASSIGN. -/
  | helloMsg (port : Nat) (f : Frame)
  /-- ASSIGN (R442). A new module takes its device ID and becomes SPARE or IN_SERVICE. -/
  | assignMsg (f : Frame)
  /-- MANAGER_CHANGE (R449). Modules redirect heartbeats and reports to the new manager and standby. -/
  | managerChangeMsg (f : Frame)
  /-- GUARD_SYNC (R459). The manager and standby store a written or activated Guard descriptor. -/
  | guardSyncMsg (f : Frame)
  /-- REST_QUERY (R468). A neighbour answers whether it routes transit through the resting module. -/
  | restQueryMsg (f : Frame)
  /-- REST_ANSWER (R468). The manager collects answers and marks the module RESTING when all are 0. -/
  | restAnswerMsg (f : Frame)
  /-- REST_QUERY_RETRY (R468). Every 10 ms while a DEEP REST request stands, the manager queries again. -/
  | restQueryRetry (dev : Nat)
  /-- ADMIT (R474). ADMIT on C100.03 admits a serial number with a device ID. -/
  | marshalAdmit
  /-- SPARE_READY (R442). SPARE_READY on C100.03 makes a spare available for relay. -/
  | spareReady (dev : Nat)
  /-- MARSHAL_SCRATCH (R447). SCRATCH on C100.03 scratches a module by decision. -/
  | marshalScratch (dev : Nat)
  /-- TAKE_MANAGER (R451). TAKE_MANAGER on C100.03 makes this module manager in a new epoch. -/
  | takeManager (reachable : Bool)
  /-- GUARD_STRIPE_REBUILD (R465). A spare rebuilds and verifies one background stripe in ascending order. -/
  | guardStripeRebuild (entry : Nat) (symbols : List (Nat × List Byte)) (checks : List (Nat × Nat))
  /-- SCRATCH_NOW (R40). A write of 0x5C to 1020.04 scratches the module with cause HOST. -/
  | scratchNow
  /-- DIP (R477). The input falls below 31.0 V for DIP_FILTER and recovers, and the dip is counted. -/
  | inputDip (low : Nat) (ns : Nat) (after : Nat)
  /-- OV_WARN (R476). The input stays above 42.0 V for 5 µs and OV_WARN_SEEN is set. -/
  | ovWarn (volts : Nat) (ns : Nat)
  /-- TRIP_UV (R478). An undervoltage trip opens the input switch and turns off every supply but the AOP's. -/
  | tripUv (volts : Nat) (ns : Nat)
  /-- TRIP_OV (R478). An overvoltage trip opens the input switch and turns off every supply but the AOP's. -/
  | tripOv (volts : Nat) (ns : Nat)
  /-- TRIP_RESTART (R476). After 10 ms in range following a trip, a cold reset starts. -/
  | tripRestart (volts : Nat) (ns : Nat)
  /-- POWER_ON (R479). Input power is applied with the AOP stopped, precharge runs and a cold reset starts. -/
  | powerOn
  /-- AOP_FLOOR (R476). The input falls below 18.0 V and the AOP and AOS stop. -/
  | aopFloor (volts : Nat)
  /-- REVERSE_BLOCK (R481). Reverse current makes the input switch block within 1 µs. -/
  | reverseBlock
  /-- REVERSE_CONDUCT (R481). The bus again exceeds the capacitor voltage and the switch conducts with limited slew. -/
  | reverseConduct
  /-- GOVERNOR_UPDATE (R482). Every 1 µs the governor updates its power model and the duty D. -/
  | governorUpdate (volts : Nat) (amps : Nat) (power : Nat) (demand : Nat)
  /-- THERMAL_LIMIT (R531). A sensor reaches its limit and the module scratches itself within 1 ms. -/
  | thermalLimit (sensor : Nat) (unit : Nat) (reading : Nat)
  /-- LOOP_LOST (R530). A coolant loop's flow falls below 1 L/min and it is marked lost. -/
  | loopLost (loop : Nat) (flow : Nat)
  /-- STAGE_REMOVE (R488). REMOVE on D400.03 ramps a power stage out and bleeds it. -/
  | stageRemove (stage : Nat)
  /-- STAGE_CANCEL (R504). CANCEL on D400.03 cancels a stage removal. -/
  | stageCancel (stage : Nat)
  /-- STAGE_SAFE (R488). A removed stage's capacitors are below 5 V and it becomes SAFE_TO_REMOVE. -/
  | stageSafe (stage : Nat) (volts : Nat)
  /-- STAGE_INSERT (R488). A stage is latched in, identified, precharged and ramped into the share. -/
  | stageInsert (stage : Nat) (info : Nat) (qualified : Bool)
  /-- STAGE_FAIL (R489). A stage fails, and the others take its load or the module scratches with cause POWER. -/
  | stageFail (stage : Nat)
  /-- POWER_RUN (R491). A request for RUN, a wake from REST or DEEP REST. -/
  | powerRun
  /-- POWER_HOLD (R491). A request for HOLD. -/
  | powerHold
  /-- POWER_REST (R493). A request for REST starts its entry steps. -/
  | powerRest
  /-- POWER_DEEP_REST (R495). A request for DEEP REST waits for Marshal's permission. -/
  | powerDeepRest
  /-- REST_ABORT_POINT (R494). The entry reaches an abort point and a pending wake undoes it. -/
  | restAbortPoint
  /-- REST_ENTERED (R493). The entry's last step ends and the state is entered with its completion record. -/
  | restEntered
  /-- DEEP_REST_PERMIT (R495). Marshal permits DEEP REST and the entry steps start. -/
  | deepRestPermit
  /-- WAKE_DONE (R497). A wake's exit steps complete and POWER_STATE reads RUN or HOLD. -/
  | wakeDone
  /-- WARM (R499). A write of 0x57 to D300.01 starts a warm reset 1 ms after the reply. -/
  | warmReset
  /-- UNIT_RESET_CORE (R500). UNIT_RESET of a core returns its volatile state to default. -/
  | unitResetCore (core : Nat)
  /-- UNIT_RESET_SU (R500). UNIT_RESET of an SU clears its slots' programs and state. -/
  | unitResetSu (su : Nat)
  /-- UNIT_RESET_CVU (R500). UNIT_RESET of a CVU clears its register and feeds. -/
  | unitResetCvu (cvu : Nat)
  /-- UNIT_RESET_HOST_PORT (R500). UNIT_RESET of a host port restarts it. -/
  | unitResetHostPort (hp : Nat)
  /-- RESET_N_ASSERT (R522). RESET_n low for at least 10 µs starts a RESET_n reset. -/
  | resetNAssert (ns : Nat)
  /-- RESET_N_RELEASE (R522). RESET_n high for 1 ms releases the start-up. -/
  | resetNRelease (ns : Nat)
  /-- BOOT (R506). The ROM verifies firmware slots, measures and releases the units. -/
  | boot (bays : Bays)
  /-- COMMISSION (R509). COMMISSION installs owner and operator keys, derives the NV key and warm-resets. -/
  | commission
  /-- DECOMMISSION (R509). DECOMMISSION erases banks and keys and returns the module to FACTORY. -/
  | decommission (owner : Bool)
  /-- KEYS (R509). KEYS replaces the operator keys. -/
  | keysCmd (owner : Bool)
  /-- ROLLBACK_COMMIT (R508). ROLLBACK_COMMIT raises the rollback counter. -/
  | rollbackCommit (owner : Bool)
  /-- SVN_COMMIT (R508). SVN_COMMIT blows SVN fuses to the running slot's SVN. -/
  | svnCommit (owner : Bool)
  /-- FW_ERASE (R507). FW_ERASE erases the standby firmware slot. -/
  | fwErase
  /-- FW_VERIFY (R507). FW_VERIFY checks the standby firmware slot. -/
  | fwVerify
  /-- FW_ACTIVATE (R507). FW_ACTIVATE marks the verified slot for the next warm reset. -/
  | fwActivate
  /-- ATTEST (R512). A write of 1 to E200.02 produces a signed attestation report. -/
  | attest
  /-- EXTEND (R511). A write to E200.04 extends MR6 or MR7. -/
  | extendMr (reg : Nat) (digest : Nat)
  /-- SMBUS_BLOCK_READ (R523). A sideband block read returns the 64-byte status block. -/
  | smbusBlockRead (addr : Nat) (ga : Nat) (code : Nat) (write : Bool) (pec : Bool)
  /-- SIDEBAND_UPDATE (R523). Every 1 ms the sideband block is updated. -/
  | sidebandUpdate (status : Nat) (temps : List Nat)
  /-- REGISTER_WRITE (R13). A write to an object without a row of its own is applied or refused by its access code and rules. -/
  | registerWrite (obj : Nat) (index : Nat) (offset : Nat) (data : List Byte)
  /-- LIGHT_RETURNS (R241). Light returns on the lanes of a port held PEER_REST, and the port retrains. -/
  | lightReturns (port : Nat)
  /-- TRAINING_CHECK_EXPIRY (R238). The lock or pre-FEC measurement window of a training attempt runs out, so the check fails or training moves on. -/
  | trainingCheckExpiry (port : Nat) (light : Nat) (lock : Nat) (other : Bool) (errors : Nat)
  /-- STAGE_LATCH_OPEN (R488). A power stage's bay latch opens: a SAFE_TO_REMOVE stage leaves and the bay becomes EMPTY, and in any other state the stage is lost. -/
  | stageLatchOpen (stage : Nat)
  /-- OSFP_INSERT (R527). An OSFP module is inserted in a host cage, identified through CMIS, and refused or powered. -/
  | osfpInsert (hp : Nat) (medium : Nat) (watts : Nat)
  /-- OSFP_REMOVE (R527). An OSFP module is removed, and its host port goes DOWN and then NO_MODULE. -/
  | osfpRemove (hp : Nat)
  /-- HOST_PORT_UP (R391). A host port's 400GbE link comes up and HOST_PORT_STATE becomes UP. -/
  | hostPortUp (hp : Nat)
  /-- HOST_PORT_DOWN (R391). A host port's link goes down and HOST_PORT_STATE becomes DOWN. -/
  | hostPortDown (hp : Nat)
  /-- ACKNOWLEDGEMENT (R404). An ACK, NAK or RDMA READ response arrives from the host for a request the module sent as requester. -/
  | acknowledgement (qp : Nat) (psn : Nat) (code : Nat) (data : List Byte)
  /-- FW_ERASE_DONE (R507). The erase of the standby firmware slot completes and SECURITY_CMD leaves BUSY. -/
  | fwEraseDone
  /-- INTERNAL_FAULT (R38). An uncorrectable fault inside a unit of R20 scratches the module with cause CORE_FAULT or FABRIC_FAULT. -/
  | internalFault (fabric : Bool)
  /-- INLET_HIGH (R535). A coolant inlet stays above 40 °C for 1 s and INLET_HIGH is set in THERMAL_EVENTS. -/
  | inletHigh (temp : Nat) (ns : Nat)
  deriving DecidableEq, Repr

end Sys2Proof
end

