-- ==== Sys2Proof/WellFormed.lean ====
section
/-! DEFINITION. Which commands are well formed: every number fits the place it comes from (a unit number below the count of
that unit, R2; a written value in the width of its object, R12; a header in 32 bytes, R20). -/

namespace Sys2Proof

/-- A frame whose header fits 32 bytes (R20, R185). -/
def Frame.wf (f : Frame) : Bool := decide (f.hdr < 2 ^ 256)

/-- Whether a CDP message fits its transport and its header (R416, R417). -/
def CdpMsg.wf (m : CdpMsg) : Bool :=
  decide (m.via < 3) && decide (m.hp < 2) && decide (m.addr < 2 ^ 128) && decide (m.udpPort < 2 ^ 16) && decide (m.mgt < 2 ^ 192)
    && decide (m.hdr < 2 ^ 256) && (match m.tag with | some t => decide (t < 2 ^ 256) | none => true)

/-- Whether a command is well formed. -/
def Instr.wf (i : Instr) : Bool :=
  match i with
  | .nop core => decide (core < 96)
  | .sqEnd core => decide (core < 96)
  | .pace core => decide (core < 96)
  | .wait core => decide (core < 96)
  | .post core => decide (core < 96)
  | .flagset core => decide (core < 96)
  | .pset core => decide (core < 96)
  | .plogic core => decide (core < 96)
  | .skip core => decide (core < 96)
  | .lapset core => decide (core < 96)
  | .lap core => decide (core < 96)
  | .drain core => decide (core < 96)
  | .mark core => decide (core < 96)
  | .mma core => decide (core < 96)
  | .mout core => decide (core < 96)
  | .mpart core => decide (core < 96)
  | .mclr core => decide (core < 96)
  | .vop core => decide (core < 96)
  | .vcmp core => decide (core < 96)
  | .vfunc core => decide (core < 96)
  | .vred core => decide (core < 96)
  | .vcvt core => decide (core < 96)
  | .vwiden core => decide (core < 96)
  | .vld core => decide (core < 96)
  | .vst core => decide (core < 96)
  | .vbmp core => decide (core < 96)
  | .rake core => decide (core < 96)
  | .rmask core => decide (core < 96)
  | .seta core => decide (core < 96)
  | .load core => decide (core < 96)
  | .store core => decide (core < 96)
  | .copy core => decide (core < 96)
  | .atom core => decide (core < 96)
  | .fence core => decide (core < 96)
  | .signal core => decide (core < 96)
  | .coll core => decide (core < 96)
  | .pacedDispatch core _ => decide (core < 96)
  | .queueDispatch core engine _ => decide (core < 96) && (engine == 3 || engine == 5)
  | .pacedResult core _ => decide (core < 96)
  | .waitLimit core => decide (core < 96)
  | .coreComplete core => decide (core < 96)
  | .icacheFill core line _ _ => decide (core < 96) && decide (line < 2 ^ 26)
  | .coreLaunch value _ => decide (value < 2 ^ 64)
  | .coreStop value => decide (value < 2 ^ 8)
  | .totalClear value => decide (value < 2 ^ 8)
  | .strideWindowEnd => true
  | .rkeServiceStart engine _ => decide (engine < 48)
  | .rkeResult engine _ => decide (engine < 48)
  | .rakeTotalClear value => decide (value < 2 ^ 8)
  | .patrolRead region off _ => decide (region < 16) && decide (off < 2 ^ 44)
  | .ondieCePoll ctrl count => decide (ctrl < 24) && decide (count < 2 ^ 64)
  | .recalStart ctrl temp => decide (ctrl < 44) && decide (temp < 2 ^ 32)
  | .recalEnd ctrl => decide (ctrl < 44)
  | .recalForced ctrl temp => decide (ctrl < 44) && decide (temp < 2 ^ 32)
  | .recalNow value => decide (value < 2 ^ 16)
  | .dimmDrain chan => decide (chan < 12)
  | .dimmPowerOff chan => decide (chan < 12)
  | .dimmPowerOn chan => decide (chan < 12)
  | .dimmReturn chan => decide (chan < 12)
  | .drainCancel chan => decide (chan < 12)
  | .drainBlockCopied _ => true
  | .dimmLatchClose chan => decide (chan < 12)
  | .dimmTrained chan capacity ident _ _ _ _ => decide (chan < 12) && decide (capacity < 2 ^ 8) && decide (ident < 2 ^ 176)
  | .dimmLatchOpen chan => decide (chan < 12)
  | .gmuReply f _ => f.wf
  | .replayAfterExpiry entry => decide (entry < 4096)
  | .abandonAfterExpiry tag => decide (tag < 2 ^ 16)
  | .tagQuarantineEnd tag => decide (tag < 2 ^ 16)
  | .streamReset value => decide (value < 2 ^ 16)
  | .reqRead f _ => f.wf
  | .reqWrite f _ => f.wf
  | .reqAtomic f _ => f.wf
  | .reqFence f => f.wf
  | .reqSignal f => f.wf
  | .reqPdelta f _ => f.wf
  | .reqPclose f => f.wf
  | .guardParityReplied ctx => decide (ctx < 4096)
  | .guardActivate entry => decide (entry < 64)
  | .guardDeactivate entry => decide (entry < 64)
  | .guardQuiet entry => decide (entry < 64)
  | .stripeDemandRebuild entry stripe _ => decide (entry < 64) && decide (stripe < 2 ^ 32)
  | .linkBlockReceive port _ _ _ => decide (port < 64)
  | .linkReplayTimeout port => decide (port < 64)
  | .portLos port _ => decide (port < 64)
  | .fecRate port _ errors => decide (port < 64) && decide (errors < 2 ^ 64)
  | .loopMeasure port => decide (port < 64)
  | .trainingStart port => decide (port < 64)
  | .trainingRetry port => decide (port < 64)
  | .portUp port => decide (port < 64)
  | .cipherKeyAgreed port cert owner point confirm => decide (port < 64) && decide (cert < 2 ^ 8192) && decide (owner < 2 ^ 256) && decide (point < 2 ^ 520) && decide (confirm < 2 ^ 256)
  | .portEnable port => decide (port < 64)
  | .portDisable port => decide (port < 64)
  | .retrain port => decide (port < 64)
  | .portSelftest port => decide (port < 64)
  | .selftestLoopbackDone port _ => decide (port < 64)
  | .oeSelftest oe check => decide (oe < 8) && decide (check < 8)
  | .elsOutputLoss els => decide (els < 16)
  | .elsPartnerFull els => decide (els < 16)
  | .elsRemove els => decide (els < 16)
  | .elsCancel els => decide (els < 16)
  | .elsRampDone els => decide (els < 16)
  | .elsInsert els info _ => decide (els < 16) && decide (info < 2 ^ 256)
  | .elsStartDone els => decide (els < 16)
  | .elsLatchOpen els => decide (els < 16)
  | .frameLookup pos f => decide (pos < 80) && f.wf
  | .mcLookup pos f => decide (pos < 80) && f.wf
  | .cellMatch => true
  | .frameDeparture egress => decide (egress < 80)
  | .fwdAgeExpiry egress => decide (egress < 80)
  | .routeCommit value => decide (value < 2 ^ 8)
  | .flowEnqueue port => decide (port < 64)
  | .tmgPick port => decide (port < 64)
  | .flowCreate value => decide (value < 2 ^ 64)
  | .flowDelete flow => decide (flow < 2 ^ 17)
  | .suFrameDeliver ingress f => decide (ingress < 80) && f.wf
  | .suRunStart su => decide (su < 32)
  | .ecmelNop su => decide (su < 32)
  | .ecmelEnd su => decide (su < 32)
  | .ecmelDrop su => decide (su < 32)
  | .brz su => decide (su < 32)
  | .brnz su => decide (su < 32)
  | .movi su => decide (su < 32)
  | .ecmelAlu su => decide (su < 32)
  | .ecmelGet su => decide (su < 32)
  | .ecmelHdr su => decide (su < 32)
  | .ldp su => decide (su < 32)
  | .padd su => decide (su < 32)
  | .ohdr su => decide (su < 32)
  | .oput su => decide (su < 32)
  | .ocopy su => decide (su < 32)
  | .ecmelSend su => decide (su < 32)
  | .ecmelRsum su => decide (su < 32)
  | .ecmelGath su => decide (su < 32)
  | .ecmelFilt su => decide (su < 32)
  | .ecmelMerge su => decide (su < 32)
  | .btest su => decide (su < 32)
  | .bset su => decide (su < 32)
  | .gfmac su => decide (su < 32)
  | .ozero su => decide (su < 32)
  | .guardRun ctx => decide (ctx < 4096)
  | .programLoad slot => decide (slot < 256)
  | .programClear slot => decide (slot < 256)
  | .bind slot _ => decide (slot < 256)
  | .unbind slot => decide (slot < 256)
  | .forceUnbind slot => decide (slot < 256)
  | .bitmapClear su => decide (su < 32)
  | .groupSetup _ => true
  | .groupDestroy ctx => decide (ctx < 64)
  | .groupResume ctx => decide (ctx < 64)
  | .chunkSend ctx _ => decide (ctx < 64)
  | .contribFrame f op => f.wf && decide (op < 16)
  | .resultAssemble ctx target => decide (ctx < 64) && decide (target < 4096)
  | .resultFrame f => f.wf
  | .directFrame f => f.wf
  | .grantFrame f => f.wf
  | .retryFrame f _ => f.wf
  | .doneFrame f => f.wf
  | .abortFrame f => f.wf
  | .chunkTimeout ctx => decide (ctx < 64)
  | .resultTimeout ctx => decide (ctx < 64)
  | .bpmReserve owner pool n _ => decide (owner < 2 ^ 16) && decide (pool < 64) && decide (n < 2 ^ 32)
  | .bpmAllocHigh owner pool _ => decide (owner < 2 ^ 16) && decide (pool < 64)
  | .bpmAllocLow owner pool _ => decide (owner < 2 ^ 16) && decide (pool < 64)
  | .bpmHandover owner pool buffer taker => decide (owner < 2 ^ 16) && decide (pool < 64) && decide (buffer < 2 ^ 32) && decide (taker < 2 ^ 16)
  | .bpmFree owner pool buffer => decide (owner < 2 ^ 16) && decide (pool < 64) && decide (buffer < 2 ^ 32)
  | .poolInit pool => decide (pool < 64)
  | .poolInitDone pool => decide (pool < 64)
  | .poolDisable pool => decide (pool < 64)
  | .ownerQuery value => decide (value < 2 ^ 64)
  | .cvuStart cvu => decide (cvu < 16)
  | .cvuFinish cvu => decide (cvu < 16)
  | .cvuSuspend cvu fed => decide (cvu < 16) && decide (fed < 2 ^ 32)
  | .cvuResume cvu => decide (cvu < 16)
  | .feed cvu => decide (cvu < 16)
  | .cvuCancel cvu fed => decide (cvu < 16) && decide (fed < 2 ^ 32)
  | .feedDone cvu _ => decide (cvu < 16)
  | .scanSubmit => true
  | .scanCancel entry done => decide (entry < 16) && decide (done < 2 ^ 44)
  | .scanJobStart => true
  | .scanJobEnd _ => true
  | .startupFill => true
  | .hostFrameReceive hp len udp etype _ _ _ _ _ _ => decide (hp < 2) && decide (len < 2 ^ 14) && decide (udp < 2 ^ 16) && decide (etype < 2 ^ 16)
  | .rdmaWrite qp psn rkey va _ _ => decide (qp < 512) && decide (psn < 2 ^ 24) && decide (rkey < 2 ^ 32) && decide (va < 2 ^ 64)
  | .rdmaRead qp psn rkey va length _ => decide (qp < 512) && decide (psn < 2 ^ 24) && decide (rkey < 2 ^ 32) && decide (va < 2 ^ 64) && decide (length < 2 ^ 32)
  | .rdmaSend qp psn _ _ _ => decide (qp < 512) && decide (psn < 2 ^ 24)
  | .rdmaAtomic qp psn rkey va _ operand compare _ => decide (qp < 512) && decide (psn < 2 ^ 24) && decide (rkey < 2 ^ 32) && decide (va < 2 ^ 64) && decide (operand < 2 ^ 64) && decide (compare < 2 ^ 64)
  | .cnp qp => decide (qp < 512)
  | .rateRaise qp => decide (qp < 512)
  | .ackTimeout qp => decide (qp < 512)
  | .qpConnect qp => decide (qp < 512)
  | .qpReset qp => decide (qp < 512)
  | .ringPoll ring => decide (ring < 64)
  | .ringNop ring => decide (ring < 64)
  | .ringLaunch ring _ => decide (ring < 64)
  | .ringColl ring _ => decide (ring < 64)
  | .ringPower ring => decide (ring < 64)
  | .ringPoolFree ring => decide (ring < 64)
  | .ringCompletion ring n => decide (ring < 64) && decide (n < 2 ^ 32)
  | .ringStart ring => decide (ring < 64)
  | .ringStop ring => decide (ring < 64)
  | .fwdOutbound f => f.wf
  | .fwdInbound hp _ => decide (hp < 2)
  | .mirrorOut => true
  | .cdpRead m => m.wf
  | .cdpWrite m fed _ _ => m.wf && decide (fed < 2 ^ 44)
  | .describe m => m.wf
  | .cdpNext m => m.wf
  | .nvWrite m => m.wf
  | .nvErase m => m.wf
  | .sessionOpen m => m.wf
  | .sessionFinish m => m.wf
  | .sessionClose m => m.wf
  | .imageWrite m => m.wf
  | .cdpIdleExpiry session => decide (session < 17)
  | .sessionFinishTimeout session => decide (session < 17)
  | .nvBankErase => true
  | .nvBankEraseDone => true
  | .nvVerify => true
  | .nvActivate => true
  | .heartbeatSend => true
  | .heartbeatMsg f => f.wf
  | .heartbeatMiss dev => decide (dev < 4096)
  | .probeRelayTimeout dev => decide (dev < 4096)
  | .probeFailTimeout dev => decide (dev < 4096)
  | .probeMsg f => f.wf
  | .probeAckMsg f => f.wf
  | .reportSend => true
  | .reportMsg f _ => f.wf
  | .scoreWindowEnd => true
  | .suspectMsg f => f.wf
  | .clearedMsg f => f.wf
  | .lostMsg f => f.wf
  | .marshalFenceMsg f => f.wf
  | .stepAckMsg f => f.wf
  | .stepTimeout => true
  | .relayMsg f _ => f.wf
  | .rerouteMsg f => f.wf
  | .relayedMsg f => f.wf
  | .rebuiltMsg f => f.wf
  | .helloSend => true
  | .helloMsg port f => decide (port < 64) && f.wf
  | .assignMsg f => f.wf
  | .managerChangeMsg f => f.wf
  | .guardSyncMsg f => f.wf
  | .restQueryMsg f => f.wf
  | .restAnswerMsg f => f.wf
  | .restQueryRetry dev => decide (dev < 4096)
  | .marshalAdmit => true
  | .spareReady dev => decide (dev < 4096)
  | .marshalScratch dev => decide (dev < 4096)
  | .takeManager _ => true
  | .guardStripeRebuild entry _ _ => decide (entry < 64)
  | .scratchNow => true
  | .inputDip low _ after => decide (low < 2 ^ 16) && decide (after < 2 ^ 16)
  | .ovWarn volts _ => decide (volts < 2 ^ 16)
  | .tripUv volts _ => decide (volts < 2 ^ 16)
  | .tripOv volts _ => decide (volts < 2 ^ 16)
  | .tripRestart volts _ => decide (volts < 2 ^ 16)
  | .powerOn => true
  | .aopFloor volts => decide (volts < 2 ^ 16)
  | .reverseBlock => true
  | .reverseConduct => true
  | .governorUpdate volts amps power demand => decide (volts < 2 ^ 16) && decide (amps < 2 ^ 16) && decide (power < 2 ^ 16) && decide (demand < 2 ^ 16)
  | .thermalLimit sensor unit reading => decide (sensor < 5) && decide (unit < 2 ^ 8) && (sensor != 3 || decide (unit < 8)) && decide (reading < 2 ^ 16)
  | .loopLost loop flow => decide (loop < 2) && decide (flow < 2 ^ 16)
  | .stageRemove stage => decide (stage < 16)
  | .stageCancel stage => decide (stage < 16)
  | .stageSafe stage volts => decide (stage < 13) && decide (volts < 2 ^ 16)
  | .stageInsert stage info _ => decide (stage < 13) && decide (info < 2 ^ 256)
  | .stageFail stage => decide (stage < 13)
  | .powerRun => true
  | .powerHold => true
  | .powerRest => true
  | .powerDeepRest => true
  | .restAbortPoint => true
  | .restEntered => true
  | .deepRestPermit => true
  | .wakeDone => true
  | .warmReset => true
  | .unitResetCore core => decide (core < 2 ^ 8)
  | .unitResetSu su => decide (su < 2 ^ 8)
  | .unitResetCvu cvu => decide (cvu < 2 ^ 8)
  | .unitResetHostPort hp => decide (hp < 2 ^ 8)
  | .resetNAssert _ => true
  | .resetNRelease _ => true
  | .boot _ => true
  | .commission => true
  | .decommission _ => true
  | .keysCmd _ => true
  | .rollbackCommit _ => true
  | .svnCommit _ => true
  | .fwErase => true
  | .fwVerify => true
  | .fwActivate => true
  | .attest => true
  | .extendMr reg digest => decide (reg < 2) && decide (digest < 2 ^ 256)
  | .smbusBlockRead addr ga code _ _ => decide (addr < 128) && decide (ga < 8) && decide (code < 256)
  | .sidebandUpdate status _ => decide (status < 2 ^ 384)
  | .registerWrite obj index offset _ => decide (obj < 2 ^ 24) && decide (index < 2 ^ 32) && decide (offset < 2 ^ 32)
  | .lightReturns port => decide (port < 64)
  | .trainingCheckExpiry port light lock _ errors => decide (port < 64) && decide (light < 2 ^ 8) && decide (lock < 2 ^ 8) && decide (errors < 2 ^ 64)
  | .stageLatchOpen stage => decide (stage < 13)
  | .osfpInsert hp medium watts => decide (hp < 2) && decide (medium < 2 ^ 8) && decide (watts < 2 ^ 8)
  | .osfpRemove hp => decide (hp < 2)
  | .hostPortUp hp => decide (hp < 2)
  | .hostPortDown hp => decide (hp < 2)
  | .acknowledgement qp psn code _ => decide (qp < 512) && decide (psn < 2 ^ 24) && decide (code < 16)
  | .fwEraseDone => true
  | .internalFault _ => true
  | .inletHigh temp _ => decide (temp < 2 ^ 16)

end Sys2Proof
end

