-- ==== Sys2Proof/Decode.lean ====
section
/-! DEFINITION. The command a word spells by the table's bits. spec/opcode_table.json gives no row any bits: every row is an
event, a register access or a message with operands, so no word spells a command (NOTES.md, Scope). -/

namespace Sys2Proof

/-- The command that `nbits` bits `w` spell: none, since no row of the table gives bits. -/
def decodeTableWord (_nbits _w : Nat) : Option Instr := none

end Sys2Proof
end

