-- ==== Sys2Proof/Machine/Bits.lean ====
section
/-! DEFINITION. Helpers that no one unit owns: bit fields of a code, byte orders, sparse sorted maps, and the check
codes the spec defines (the link CRC, the CRC-32C of the check-value units, the GF(2^8) of the Guard groups are beside
their units; the generic shift loops are here). -/

namespace Sys2Proof.Machine

/-- Bits [lo+w-1 : lo] of a code. -/
def bits (v lo w : Nat) : Nat := (v >>> lo) % 2 ^ w

/-- One bit of a code. -/
def bitOf (v i : Nat) : Bool := v.testBit i

/-- The code `v` with bits [lo+w-1 : lo] replaced by `x`. -/
def setBits (v lo w x : Nat) : Nat :=
  v - ((v >>> lo) % 2 ^ w) <<< lo + (x % 2 ^ w) <<< lo

/-- A truth value as a bit. -/
def b2n (b : Bool) : Nat := if b then 1 else 0

/-- The smallest number of units of `d` that hold `n`. -/
def ceilDiv (n d : Nat) : Nat := (n + d - 1) / d

/-- A number of `w` bits read as two's complement. -/
def signed (v w : Nat) : Int := if v.testBit (w - 1) then (v % 2 ^ w : Nat) - (2 ^ w : Nat) else (v % 2 ^ w : Nat)

/-- The two's-complement code of `w` bits of an integer. -/
def unsigned (x : Int) (w : Nat) : Nat := (x % (2 ^ w : Nat)).toNat

/-- `n` bytes of a code, least significant first (R11: memory, rings, records). -/
def leBytes : Nat → Nat → List Byte
  | 0, _ => []
  | n + 1, v => BitVec.ofNat 8 v :: leBytes n (v / 256)

/-- The code whose bytes, least significant first, are given. -/
def leCode : List Byte → Nat
  | [] => 0
  | b :: bs => b.toNat + 256 * leCode bs

/-- `n` bytes of a code, most significant first (R11: frame headers and CDP messages). -/
def beBytes (n v : Nat) : List Byte := (leBytes n v).reverse

/-- The code whose bytes, most significant first, are given. -/
def beCode (bs : List Byte) : Nat := leCode bs.reverse

/-- The list padded with zero bytes to `n`, or cut to it. -/
def fitBytes : Nat → List Byte → List Byte
  | 0, _ => []
  | n + 1, [] => 0 :: fitBytes n []
  | n + 1, b :: bs => b :: fitBytes n bs

/-- Bytes [off, off+n) of a list, absent bytes zero. -/
def sliceBytes (bs : List Byte) (off n : Nat) : List Byte := fitBytes n (bs.drop off)

/-- The list with `new` laid over it from `off`; bytes past the end are dropped. -/
def overlay : List Byte → Nat → List Byte → List Byte
  | bs, 0, new => new.take bs.length ++ bs.drop new.length
  | [], _ + 1, _ => []
  | b :: bs, off + 1, new => b :: overlay bs off new

/-- The number of bits of `v` below `w` that are 1. -/
def popCount (v : Nat) : Nat → Nat
  | 0 => 0
  | w + 1 => b2n (v.testBit w) + popCount v w

/-- The lowest set bit of `v` at or above `lo` and below `lo + w`, if there is one. -/
def lowestBit (v : Nat) : Nat → Nat → Option Nat
  | _, 0 => none
  | lo, w + 1 => if v.testBit lo then some lo else lowestBit v (lo + 1) w

/-- The positions of the set bits of `v` below `w`, ascending. -/
def setBitsOf (v w : Nat) : List Nat := (List.range w).filter (v.testBit ·)

/-- A code whose bits under a mask are those of another. -/
def mergeBits (old new mask : Nat) : Nat := (old ^^^ (old &&& mask)) ||| (new &&& mask)

/-- Addition that stops at 2^w - 1 (a total "that reaches 2^64 - 1 stays there", R75, R155). -/
def satAdd (w a b : Nat) : Nat := min (a + b) (2 ^ w - 1)

/-- The first index at which a predicate holds. -/
def firstIdx {α : Type} (p : α → Bool) (l : List α) : Option Nat := l.findIdx? p

/-- The list with element `i` replaced by `f` of it. -/
def modifyNth {α : Type} (f : α → α) : Nat → List α → List α
  | _, [] => []
  | 0, a :: l => f a :: l
  | i + 1, a :: l => a :: modifyNth f i l

/-- The list without element `i`. -/
def dropNth {α : Type} : Nat → List α → List α
  | _, [] => []
  | 0, _ :: l => l
  | i + 1, a :: l => a :: dropNth i l

/-- The search of `firstBelow`: the first of the `n` numbers from `k` on that a test accepts. -/
def firstFrom (p : Nat → Bool) : Nat → Nat → Option Nat
  | 0, _ => none
  | n + 1, k => if p k then some k else firstFrom p n (k + 1)

/-- The lowest number below `n` that a test accepts. -/
def firstBelow (n : Nat) (p : Nat → Bool) : Option Nat := firstFrom p n 0

/-- Repeats `f` on a state `n` times, counting up from `i`. -/
def foldUp {α : Type} (f : Nat → α → α) : Nat → Nat → α → α
  | _, 0, a => a
  | i, n + 1, a => foldUp f (i + 1) n (f i a)

/-! ### Sparse maps

A map from numbers to values is a list of pairs with strictly rising keys that lists no pair whose value is what an
unlisted key reads as. `find` and `put` are written so that their laws need no such premise. -/

/-- A sparse map. -/
abbrev KMap (α : Type) := List (Nat × α)

/-- What the list holds under a key. -/
def KMap.find {α : Type} : KMap α → Nat → Option α
  | [], _ => none
  | (k', v) :: m, k => if k' = k then some v else KMap.find m k

/-- The list with the pair put in its place among rising keys. -/
def KMap.put {α : Type} : KMap α → Nat → α → KMap α
  | [], k, v => [(k, v)]
  | (k', v') :: m, k, v =>
    if k' = k then (k, v) :: m
    else if k < k' then (k, v) :: (k', v') :: m
    else (k', v') :: KMap.put m k v

/-- The list without any pair of the key. -/
def KMap.del {α : Type} : KMap α → Nat → KMap α
  | [], _ => []
  | (k', v') :: m, k => if k' = k then KMap.del m k else (k', v') :: KMap.del m k

/-- What the map reads under a key, `d` for an unlisted one. -/
def KMap.get {α : Type} (m : KMap α) (d : α) (k : Nat) : α := (m.find k).getD d

/-- The map with a value written under a key whose unlisted value is `d`. -/
def KMap.set {α : Type} [DecidableEq α] (m : KMap α) (d : α) (k : Nat) (v : α) : KMap α :=
  if v = d then m.del k else m.put k v

/-- The keys rise strictly, the first of them above `lo` where a bound is given. -/
def KMap.rising {α : Type} : Option Nat → KMap α → Bool
  | _, [] => true
  | none, (k, _) :: m => KMap.rising (some k) m
  | some lo, (k, _) :: m => decide (lo < k) && KMap.rising (some k) m

/-- The canonical form: keys strictly rising and no pair equal to what the key reads as unlisted. -/
def KMap.wf {α : Type} [DecidableEq α] (d : Nat → α) (m : KMap α) : Bool :=
  KMap.rising none m && m.all (fun p => !decide (p.2 = d p.1))

/-! ### Cyclic redundancy codes -/

/-- One bit of a reflected CRC register of any width: shifted right, with the reflected polynomial XORed in when the bit
shifted out is 1. -/
def crcBitR (poly reg : Nat) : Nat := if reg % 2 = 1 then (reg / 2) ^^^ poly else reg / 2

/-- Eight bits of a reflected CRC register. -/
def crcByteR (poly reg : Nat) (b : Byte) : Nat :=
  foldUp (fun _ r => crcBitR poly r) 0 8 (reg ^^^ b.toNat)

/-- A reflected CRC register after a byte string. -/
def crcR (poly reg : Nat) (bs : List Byte) : Nat := bs.foldl (crcByteR poly) reg

/-- One bit, most significant first, of an unreflected CRC register of `w` bits. -/
def crcBitN (w poly reg : Nat) (bit : Bool) : Nat :=
  let top := reg.testBit (w - 1)
  let sh := (reg * 2) % 2 ^ w
  if top != bit then sh ^^^ poly else sh

end Sys2Proof.Machine
end

