-- ==== Sys2Proof/Machine/Formats.lean ====
section
/-! DEFINITION. Number formats, exact values, and the roundings of spec/02_number_formats.md (R42 to R74). -/

namespace Sys2Proof.Machine

/-- The formats of R42. -/
inductive Fmt
  | fp32 | bf16 | fp16 | e4m3 | e5m2 | e3m2 | e2m1 | int8 | int4 | int32
  deriving DecidableEq, Repr

/-- Width of a code in bits (R42). -/
def Fmt.width : Fmt → Nat
  | .fp32 => 32 | .bf16 => 16 | .fp16 => 16 | .e4m3 => 8 | .e5m2 => 8 | .e3m2 => 6 | .e2m1 => 4
  | .int8 => 8 | .int4 => 4 | .int32 => 32

/-- Mantissa bits of a floating format (R42); 0 for the integer formats. -/
def Fmt.man : Fmt → Nat
  | .fp32 => 23 | .bf16 => 7 | .fp16 => 10 | .e4m3 => 3 | .e5m2 => 2 | .e3m2 => 2 | .e2m1 => 1
  | _ => 0

/-- Exponent bias of a floating format (R42). -/
def Fmt.bias : Fmt → Nat
  | .fp32 => 127 | .bf16 => 127 | .fp16 => 15 | .e4m3 => 7 | .e5m2 => 15 | .e3m2 => 3 | .e2m1 => 1
  | _ => 0

/-- The integer formats (R42). -/
def Fmt.isInt : Fmt → Bool
  | .int8 => true | .int4 => true | .int32 => true | _ => false

/-- The positive code of the greatest finite value (R42, R44). -/
def Fmt.maxCode : Fmt → Nat
  | .fp32 => 0x7F7FFFFF | .bf16 => 0x7F7F | .fp16 => 0x7BFF | .e4m3 => 0x7E | .e5m2 => 0x7B | .e3m2 => 0x1F
  | .e2m1 => 0x7 | .int8 => 127 | .int4 => 7 | .int32 => 0x7FFFFFFF

/-- The positive infinity code, where the format has one (R44). -/
def Fmt.infCode : Fmt → Option Nat
  | .fp32 => some 0x7F800000 | .bf16 => some 0x7F80 | .fp16 => some 0x7C00 | .e5m2 => some 0x7C | _ => none

/-- The canonical NaN, where the format has one (R44). -/
def Fmt.nanCode : Fmt → Option Nat
  | .fp32 => some 0x7FC00000 | .bf16 => some 0x7FC0 | .fp16 => some 0x7E00 | .e5m2 => some 0x7E | .e4m3 => some 0x7F
  | _ => none

/-- The format named by a 4-bit format code, none for a reserved one (R110). -/
def Fmt.ofCode : Nat → Option Fmt
  | 0 => some .fp32 | 1 => some .bf16 | 2 => some .fp16 | 3 => some .e4m3 | 4 => some .e5m2 | 5 => some .e3m2
  | 6 => some .e2m1 | 7 => some .int8 | 8 => some .int4 | _ => none

/-! ### Exact values -/

/-- An exact value: NaN, an infinity, or (-1)^neg x mant x 2^exp, a signed zero where mant is 0. -/
inductive XVal
  | nan
  | inf (neg : Bool)
  | fin (neg : Bool) (mant : Nat) (exp : Int)
  deriving DecidableEq, Repr

/-- +0. -/
def XVal.zero : XVal := .fin false 0 0

/-- The sign of a value; NaN counts as positive (R44: sign 0). -/
def XVal.neg : XVal → Bool
  | .nan => false | .inf s => s | .fin s _ _ => s

/-- Whether the value is a zero of either sign. -/
def XVal.isZero : XVal → Bool
  | .fin _ 0 _ => true | _ => false

/-- Whether the value is NaN. -/
def XVal.isNan : XVal → Bool
  | .nan => true | _ => false

/-- Whether the value is an infinity. -/
def XVal.isInf : XVal → Bool
  | .inf _ => true | _ => false

/-- An integer as an exact value. -/
def XVal.ofInt (x : Int) : XVal := .fin (x < 0) x.natAbs 0

/-- The value of a code of a format (R43 to R48). The code is cut to the format's width. -/
def decode (f : Fmt) (c : Code) : XVal :=
  let w := f.width
  let c := c % 2 ^ w
  if f.isInt then .ofInt (signed c w)
  else
    let neg := c.testBit (w - 1)
    let mag := c % 2 ^ (w - 1)
    let e := mag >>> f.man
    let m := mag % 2 ^ f.man
    if f = .e4m3 ∧ mag = 0x7F then .nan
    else if f.infCode.isSome ∧ e = 2 ^ (w - 1 - f.man) - 1 then (if m = 0 then .inf neg else .nan)
    else if e = 0 then .fin neg m (1 - f.bias - f.man)
    else .fin neg (2 ^ f.man + m) (e - f.bias - f.man)

/-- The exact product, with the IEEE rules for special operands (R67). An infinity by an infinity, which R58 does not name, is the
infinity of the product's sign (DESIGN CHOICE, log entry 85). -/
def XVal.mul : XVal → XVal → XVal
  | .nan, _ => .nan
  | _, .nan => .nan
  | .inf s, .inf t => .inf (s != t)
  | .inf s, .fin t m _ => if m = 0 then .nan else .inf (s != t)
  | .fin s m _, .inf t => if m = 0 then .nan else .inf (s != t)
  | .fin s m e, .fin t n k => .fin (s != t) (m * n) (e + k)

/-- The value with its sign inverted; NaN stays NaN. -/
def XVal.negate : XVal → XVal
  | .nan => .nan | .inf s => .inf (!s) | .fin s m e => .fin (!s) m e

/-- The exact sum. An exact zero sum is -0 only where both terms are -0 (R123). -/
def XVal.add : XVal → XVal → XVal
  | .nan, _ => .nan
  | _, .nan => .nan
  | .inf s, .inf t => if s = t then .inf s else .nan
  | .inf s, .fin _ _ _ => .inf s
  | .fin _ _ _, .inf t => .inf t
  | .fin s m e, .fin t n k =>
    if m = 0 ∧ n = 0 then .fin (s && t) 0 0
    else if m = 0 then .fin t n k
    else if n = 0 then .fin s m e
    else
      let q := min e k
      let a : Int := (m <<< (e - q).toNat : Nat)
      let b : Int := (n <<< (k - q).toNat : Nat)
      let x := (if s then -a else a) + (if t then -b else b)
      .fin (decide (x < 0)) x.natAbs q

/-- Numerical comparison of two values neither of which is NaN: the sign of a - b, zeros equal. -/
def XVal.cmp (a b : XVal) : Ordering :=
  match a, b with
  | .inf s, .inf t => if s = t then .eq else if s then .lt else .gt
  | .inf s, _ => if s then .lt else .gt
  | _, .inf t => if t then .gt else .lt
  | _, _ =>
    match a.add b.negate with
    | .fin s m _ => if m = 0 then .eq else if s then .lt else .gt
    | _ => .eq

/-! ### Rounding -/

/-- The rounding control of R50: stochastic or to nearest even, IEEE or saturating on overflow. -/
structure Rnd where
  stochastic : Bool
  ieee : Bool
  deriving DecidableEq, Repr

/-- R50: code 0b00 RNE SAT, 0b01 RNE IEEE, 0b10 stochastic SAT, 0b11 stochastic IEEE. -/
def Rnd.ofCode (c : Nat) : Rnd := ⟨c.testBit 1, c.testBit 0⟩

/-- How an element counts (R74). -/
inductive Count
  | none | saturated | flushed
  deriving DecidableEq, Repr

/-- |v| = m x 2^e on the grid of step 2^q, to nearest with ties to even. -/
def gridRne (m : Nat) (e q : Int) : Nat :=
  if q ≤ e then m <<< (e - q).toNat
  else
    let s := (q - e).toNat
    if m.log2 + 1 < s then 0
    else
      let n := m >>> s
      let r := m % 2 ^ s
      let half := 2 ^ (s - 1)
      if half < r then n + 1 else if r = half then n + n % 2 else n

/-- |v| = m x 2^e on the grid of step 2^q, rounded stochastically with 24 random bits (R53). -/
def gridStochastic (m : Nat) (e q : Int) (random : Nat) : Nat :=
  if q ≤ e then m <<< (e - q).toNat
  else
    let s := (q - e).toNat
    if m.log2 + 24 < s then 0
    else
      let n := m >>> s
      let r := m % 2 ^ s
      let d := (r <<< 24) >>> s
      if 2 ^ 24 ≤ d + random % 2 ^ 24 then n + 1 else n

/-- The step of the grid of a floating format at a non-zero value m x 2^e, subnormal grid at the bottom, unbounded at
the top (R52 step 5). -/
def Fmt.grid (f : Fmt) (m : Nat) (e : Int) : Int :=
  max ((m.log2 : Int) + e - f.man) (1 - f.bias - f.man)

/-- The magnitude code of n x 2^q for a floating format, q the grid step of the value; the exponent field may run past
the format's, so that comparison with `maxCode` tests overflow. -/
def Fmt.magCode (f : Fmt) (n : Nat) (q : Int) : Nat :=
  if n < 2 ^ f.man then n
  else
    let carry := 2 ^ (f.man + 1) ≤ n
    let n' := if carry then n / 2 else n
    let q' := if carry then q + 1 else q
    ((q' + f.man + f.bias).toNat) <<< f.man + (n' - 2 ^ f.man)

/-- A magnitude code with its sign. -/
def Fmt.withSign (f : Fmt) (neg : Bool) (mag : Nat) : Code := if neg then mag + 2 ^ (f.width - 1) else mag

/-- The largest value of a sign: the maximum finite value, or for a negative integer result the most negative one
(R55). -/
def Fmt.satCode (f : Fmt) (neg : Bool) : Code :=
  if f.isInt then (if neg then 2 ^ (f.width - 1) else f.maxCode) else f.withSign neg f.maxCode

/-- The result of an overflow (step 5 of R52). -/
def Fmt.overflow (f : Fmt) (r : Rnd) (neg : Bool) : Code :=
  if r.ieee then
    match f.infCode with
    | some c => f.withSign neg c
    | none => if f = .e4m3 then 0x7F else f.satCode neg
  else f.satCode neg

/-- The final rounding of an exact value into a format (R52, R53, R55), with how the element counts. `random` is the 24
bits of R53, used by a stochastic rounding. -/
def roundFinal (f : Fmt) (r : Rnd) (random : Nat) : XVal → Code × Count
  | .nan => match f.nanCode with | some c => (c, .none) | none => (0, .saturated)
  | .inf s =>
    match r.ieee, f.infCode with
    | true, some c => (f.withSign s c, .none)
    | _, _ => (f.overflow r s, .saturated)
  | .fin s m e =>
    if m = 0 then (if f.isInt then 0 else f.withSign s 0, .none)
    else if f.isInt then
      let n := if r.stochastic then gridStochastic m e 0 random else gridRne m e 0
      let lim := if s then 2 ^ (f.width - 1) else f.maxCode
      if lim < n then (f.overflow r s, .saturated)
      else (unsigned (if s then -(n : Int) else n) f.width, .none)
    else if (m.log2 : Int) + e < 1 - f.bias - f.man then (f.withSign s 0, .flushed)
    else
      let q := f.grid m e
      let n := if r.stochastic then gridStochastic m e q random else gridRne m e q
      let c := f.magCode n q
      if f.maxCode < c then (f.overflow r s, .saturated) else (f.withSign s c, .none)

/-- An intermediate rounding into FP32: to nearest even with IEEE overflow and gradual underflow (R51). -/
def rne32 : XVal → Code
  | .nan => 0x7FC00000
  | .inf s => Fmt.fp32.withSign s 0x7F800000
  | .fin s m e =>
    if m = 0 then Fmt.fp32.withSign s 0
    else
      let q := Fmt.fp32.grid m e
      let c := Fmt.fp32.magCode (gridRne m e q) q
      Fmt.fp32.withSign s (if 0x7F7FFFFF < c then 0x7F800000 else c)

/-- The sum of two FP32 codes, rounded by R51. -/
def add32 (a b : Code) : Code := rne32 ((decode .fp32 a).add (decode .fp32 b))

/-- The product of two FP32 codes, rounded by R51. -/
def mul32 (a b : Code) : Code := rne32 ((decode .fp32 a).mul (decode .fp32 b))

/-- R66: a product whose exponent leaves -512 to 511 counts as an overflow or a flush; anything else is rounded by
R52. -/
def roundScaled (f : Fmt) (r : Rnd) (random : Nat) (v : XVal) : Code × Count :=
  match v with
  | .fin s m e =>
    if m ≠ 0 ∧ 511 < (m.log2 : Int) + e then (f.overflow r s, .saturated)
    else if m ≠ 0 ∧ (m.log2 : Int) + e < -512 then (if f.isInt then 0 else f.withSign s 0, .flushed)
    else roundFinal f r random v
  | v => roundFinal f r random v

/-! ### Order (R69 to R72) -/

/-- The order of maximum and minimum: numerical, with -0 below +0; neither value is NaN. -/
def XVal.below (a b : XVal) : Bool :=
  match a.cmp b with
  | .lt => true
  | .gt => false
  | .eq => a.isZero && b.isZero && a.neg && !b.neg

/-- Maximum (R69), as FP32 codes. -/
def max32 (a b : Code) : Code :=
  let x := decode .fp32 a
  let y := decode .fp32 b
  if x.isNan || y.isNan then 0x7FC00000 else if x.below y then b % 2 ^ 32 else a % 2 ^ 32

/-- Minimum (R69), as FP32 codes. -/
def min32 (a b : Code) : Code :=
  let x := decode .fp32 a
  let y := decode .fp32 b
  if x.isNan || y.isNan then 0x7FC00000 else if x.below y then a % 2 ^ 32 else b % 2 ^ 32

/-- The comparisons of R70, numbered as VCMP numbers them (R126): 0 EQ, 1 NE, 2 LT, 3 LE, 4 GT, 5 GE. -/
def compare32 (op : Nat) (a b : XVal) : Bool :=
  if a.isNan || b.isNan then op == 1
  else
    match op, a.cmp b with
    | 0, .eq => true
    | 1, .lt => true | 1, .gt => true
    | 2, .lt => true
    | 3, .lt => true | 3, .eq => true
    | 4, .gt => true
    | 5, .gt => true | 5, .eq => true
    | _, _ => false

/-- The place of a key of `w` bits in the totalOrder of R72, as an integer: negative codes below positive ones, in
reverse. -/
def totalOrderKey (w : Nat) (c : Code) : Int :=
  let c := c % 2 ^ w
  if c.testBit (w - 1) then -((c % 2 ^ (w - 1) : Nat) : Int) - 1 else (c : Int)

/-- The sort key of a value of a format (R72): totalOrder for the floating formats, the signed value for integers. -/
def sortKey (f : Fmt) (c : Code) : Int :=
  if f.isInt then signed c f.width else totalOrderKey f.width c

/-! ### Accumulators (R56, R58, R62) -/

/-- An exact accumulator with its special flags: the sum counts units of the accumulator's bit 0 (2^-32 in the MXE,
2^-136 in the stream units). -/
structure ExactAcc where
  sum : Int
  nan : Bool
  posInf : Bool
  negInf : Bool
  deriving DecidableEq, Repr

/-- The cleared accumulator. -/
def ExactAcc.zero : ExactAcc := ⟨0, false, false, false⟩

/-- An accumulator with a value added that is a multiple of 2^-unit; a special value sets its flag (R58). -/
def ExactAcc.add (unit : Nat) (a : ExactAcc) : XVal → ExactAcc
  | .nan => { a with nan := true }
  | .inf true => { a with negInf := true }
  | .inf false => { a with posInf := true }
  | .fin s m e =>
    let x : Int := (gridRne m e (-(unit : Int)) : Nat)
    { a with sum := a.sum + (if s then -x else x) }

/-- The accumulated value (R58): NaN, an infinity, or the fixed-point sum, a zero sum being +0. -/
def ExactAcc.value (unit : Nat) (a : ExactAcc) : XVal :=
  if a.nan || (a.posInf && a.negInf) then .nan
  else if a.posInf then .inf false
  else if a.negInf then .inf true
  else .fin (decide (a.sum < 0)) a.sum.natAbs (-(unit : Int))

/-- Adjacent pairs of a list combined, an odd last element kept. -/
def pairUp (op : Code → Code → Code) : List Code → List Code
  | a :: b :: l => op a b :: pairUp op l
  | l => l

/-- `levels` levels of adjacent pairs (R59: five levels of 32 inputs; R61: six of 64): the tree's root. -/
def treeRed (op : Code → Code → Code) (id : Code) : Nat → List Code → Code
  | 0, l => l.headD id
  | n + 1, l => treeRed op id n (pairUp op l)

/-- A list cut into blocks of `n`, the last filled with `fill`. -/
def blocksOf (n : Nat) (fill : Code) : Nat → List Code → List (List Code)
  | 0, _ => []
  | k + 1, l =>
    if l.isEmpty then []
    else
      let b := l.take n
      (b ++ List.replicate (n - b.length) fill) :: blocksOf n fill k (l.drop n)

/-- The products of a TREE chain added to a running value (R59): each block of 32 through five levels of pairs, then the
block sum onto the accumulator, or the accumulator itself where the chain is empty. -/
def treeAccumulate (acc : Option Code) (ps : List Code) : Option Code :=
  (blocksOf 32 0 ps.length ps).foldl
    (fun a b =>
      let q := treeRed add32 0 5 b
      match a with | none => some q | some x => some (add32 x q)) acc

/-! ### Packing (R49) -/

/-- The bytes that `n` elements of a format take. -/
def Fmt.packed (f : Fmt) (n : Nat) : Nat :=
  match f with
  | .e3m2 => 3 * ceilDiv n 4
  | _ => ceilDiv (n * f.width) 8

/-- Element `i` of a packed code (R49: elements lie in ascending bit positions; the four FP6 codes of a triple do
too). -/
def Fmt.elem (f : Fmt) (packedCode i : Nat) : Code := bits packedCode (i * f.width) f.width

/-- The packed code of a list of elements. -/
def Fmt.packCode (f : Fmt) : List Code → Nat
  | [] => 0
  | c :: cs => c % 2 ^ f.width + 2 ^ f.width * f.packCode cs

/-! ### Element functions, correctly rounded (R127)

Each gives an exact value that rounds as the real one does: a dyadic mantissa long enough, its last bit set where the
real value is not exact. -/

/-- 1/m for a positive mantissa, to 300 bits below its leading bit, with a sticky last bit. -/
def recipMant (m : Nat) : Nat × Int :=
  let k := m.log2 + 300
  let q := 2 ^ k / m
  (2 * q + (if 2 ^ k % m = 0 then 0 else 1), -(k : Int) - 1)

/-- Reciprocal (R127). -/
def XVal.rcp : XVal → XVal
  | .nan => .nan
  | .inf s => .fin s 0 0
  | .fin s m e => if m = 0 then .inf s else let r := recipMant m; .fin s r.1 (r.2 - e)

/-- The integer square root by bits: the greatest r with r^2 at most n, built from the top bit down. -/
def isqrtGo (n : Nat) : Nat → Nat → Nat
  | 0, r => r
  | k + 1, r => let r' := r + 2 ^ k; isqrtGo n k (if r' * r' ≤ n then r' else r)

/-- The integer square root. -/
def isqrt (n : Nat) : Nat := isqrtGo n (n.log2 / 2 + 1) 0

/-- Reciprocal square root (R127): of m x 2^e with e made even, the square root of 2^(2k)/m with a sticky last bit. -/
def XVal.rsqrt : XVal → XVal
  | .nan => .nan
  | .inf s => if s then .nan else .zero
  | .fin s m e =>
    if m = 0 then .inf s
    else if s then .nan
    else
      let odd := e % 2 ≠ 0
      let m' := if odd then 2 * m else m
      let e' := if odd then e - 1 else e
      let k : Nat := 400
      let q := 2 ^ (2 * k) / m'
      let r := isqrt q
      let exact := r * r = q ∧ 2 ^ (2 * k) % m' = 0
      .fin false (2 * r + (if exact then 0 else 1)) (-(k : Int) - 1 - e' / 2)

/-- The 2^(2^-j) chain in fixed point with 200 fraction bits: the product of the factors of the set bits of a fraction,
`root` being 2^(2^-j) at each stage. -/
def exp2Go (frac : Nat) (fracBits : Nat) : Nat → Nat → Nat → Nat
  | 0, _, acc => acc
  | n + 1, root, acc =>
    let root' := isqrt (root <<< 200)
    let i := fracBits - (n + 1)
    exp2Go frac fracBits n root' (if frac.testBit (fracBits - 1 - i) then (acc * root') >>> 200 else acc)

/-- 2^x (R127): x = n + f with 0 at most f and f below 1; an integer x is exact, any other has a sticky last bit. Beyond
2^14 in magnitude the result is past every limit and one value stands for all. -/
def XVal.exp2 : XVal → XVal
  | .nan => .nan
  | .inf s => if s then .zero else .inf false
  | .fin s m e =>
    if m = 0 then .fin false 1 0
    else if 14 < (m.log2 : Int) + e then .fin false 1 (if s then -20000 else 20000)
    else if (m.log2 : Int) + e < -180 then
      -- 2^x is 1 with a tail too small to reach any rounding bit but the sticky one
      .fin false (if s then 2 ^ 200 - 1 else 2 ^ 200 + 1) (-200)
    else
      let fb := (-(min e 0)).toNat
      let x : Int := (if s then -1 else 1) * ((m <<< (max e 0).toNat : Nat) : Int)
      let n := x / ((2 ^ fb : Nat) : Int)
      let f := (x % ((2 ^ fb : Nat) : Int)).toNat
      if f = 0 then .fin false 1 n
      else
        let y := exp2Go f fb fb (2 ^ 201) (2 ^ 200)
        .fin false (2 * y + 1) (n - 201)

/-- The fraction bits of log2 of a mantissa y in [1,2) with 400 fraction bits, by repeated squaring. -/
def log2Go : Nat → Nat → Nat → Nat
  | 0, _, acc => acc
  | n + 1, y, acc =>
    let y2 := (y * y) >>> 400
    if 2 ^ 401 ≤ y2 then log2Go n (y2 / 2) (2 * acc + 1) else log2Go n y2 (2 * acc)

/-- log2 of a value (R127): an exact power of two is exact, any other has a sticky last bit. -/
def XVal.log2 : XVal → XVal
  | .nan => .nan
  | .inf s => if s then .nan else .inf false
  | .fin s m e =>
    if m = 0 then .inf true
    else if s then .nan
    else
      let n : Int := (m.log2 : Int) + e
      if m = 2 ^ m.log2 then (if n = 0 then .zero else .ofInt n)
      else
        let fracBits := 120
        let y := (m <<< 400) >>> m.log2
        let f := log2Go fracBits y 0
        -- n + f/2^120, with a sticky bit below
        let x : Int := 2 * (n * ((2 ^ fracBits : Nat) : Int) + f) + 1
        .fin (decide (x < 0)) x.natAbs (-(fracBits : Int) - 1)

end Sys2Proof.Machine
end

