-- ==== Sys2Proof/Machine/Objects.lean ====
section
/-! DEFINITION. The object dictionary: the number of every object, its type, entry size, entry count, access code and
persistence code, as the object tables of spec/ give them. Values are held in `State.objs`; what an unlisted entry reads
as is the factory default (`factory`, R15). -/

namespace Sys2Proof.Machine

/-- 1000.01 GRADE_CODE (R2, 00_scope.md). -/
abbrev Obj.gradeCode : ObjCode := 0x100001
/-- 1000.02 PART_NUMBER (R2, 00_scope.md). -/
abbrev Obj.partNumber : ObjCode := 0x100002
/-- 1000.03 SERIAL_NUMBER (R2, 00_scope.md). -/
abbrev Obj.serialNumber : ObjCode := 0x100003
/-- 1010.01 CORE_PRESENT (R2, 00_scope.md). -/
abbrev Obj.corePresent : ObjCode := 0x101001
/-- 1010.02 STACK_PRESENT (R2, 00_scope.md). -/
abbrev Obj.stackPresent : ObjCode := 0x101002
/-- 1010.03 RAKE_PRESENT (R2, 00_scope.md). -/
abbrev Obj.rakePresent : ObjCode := 0x101003
/-- 1010.04 HBM_PRESENT (R2, 00_scope.md). -/
abbrev Obj.hbmPresent : ObjCode := 0x101004
/-- 1010.05 DDR5_SOCKET_PRESENT (R2, 00_scope.md). -/
abbrev Obj.ddr5SocketPresent : ObjCode := 0x101005
/-- 1010.06 PORT_PRESENT (R2, 00_scope.md). -/
abbrev Obj.portPresent : ObjCode := 0x101006
/-- 1010.07 SM4_PRESENT (R2, 00_scope.md). -/
abbrev Obj.sm4Present : ObjCode := 0x101007
/-- 1020.01 SERVICE_STATE (R40, 01_module_overview.md). -/
abbrev Obj.serviceState : ObjCode := 0x102001
/-- 1020.02 SCRATCH_CAUSE (R40, 01_module_overview.md). -/
abbrev Obj.scratchCause : ObjCode := 0x102002
/-- 1020.03 SCRATCH_TIME (R40, 01_module_overview.md). -/
abbrev Obj.scratchTime : ObjCode := 0x102003
/-- 1020.04 SCRATCH_NOW (R40, 01_module_overview.md). -/
abbrev Obj.scratchNow : ObjCode := 0x102004
/-- 2000.01 CORE_STATE (R108, 03_core_sequencer.md). -/
abbrev Obj.coreState : ObjCode := 0x200001
/-- 2000.02 CORE_LAUNCH (R108, 03_core_sequencer.md). -/
abbrev Obj.coreLaunch : ObjCode := 0x200002
/-- 2000.03 CORE_STOP (R108, 03_core_sequencer.md). -/
abbrev Obj.coreStop : ObjCode := 0x200003
/-- 2000.04 WAIT_LIMIT_DEFAULT (R108, 03_core_sequencer.md). -/
abbrev Obj.waitLimitDefault : ObjCode := 0x200004
/-- 2000.05 ICACHE_REFETCH (R108, 03_core_sequencer.md). -/
abbrev Obj.icacheRefetch : ObjCode := 0x200005
/-- 2010.01 STRIDE_RATE (R80, 03_core_sequencer.md). -/
abbrev Obj.strideRate : ObjCode := 0x201001
/-- 2010.02 STRIDE_COUNT (R80, 03_core_sequencer.md). -/
abbrev Obj.strideCount : ObjCode := 0x201002
/-- 2020.01 HALT_RECORD (R108, 03_core_sequencer.md). -/
abbrev Obj.haltRecord : ObjCode := 0x202001
/-- 2030.01 FLAGS (R108, 03_core_sequencer.md). -/
abbrev Obj.flags : ObjCode := 0x203001
/-- 2040.01 SEQ_STATE (R108, 03_core_sequencer.md). -/
abbrev Obj.seqState : ObjCode := 0x204001
/-- 2050.01 SUMMARY_SLOTS (R135, 04_matrix_and_vector_engines.md). -/
abbrev Obj.summarySlots : ObjCode := 0x205001
/-- 2060.01 PACED_BUSY (R135, 04_matrix_and_vector_engines.md). -/
abbrev Obj.pacedBusy : ObjCode := 0x206001
/-- 2060.02 DESC_IGNORED (R135, 04_matrix_and_vector_engines.md). -/
abbrev Obj.descIgnored : ObjCode := 0x206002
/-- 2070.01 TILE_REGS (R135, 04_matrix_and_vector_engines.md). -/
abbrev Obj.tileRegs : ObjCode := 0x207001
/-- 2070.02 MASK_REGS (R135, 04_matrix_and_vector_engines.md). -/
abbrev Obj.maskRegs : ObjCode := 0x207002
/-- 2090.01 RAKE_OVER_TOTAL (R155, 05_sparse_operands_rake.md). -/
abbrev Obj.rakeOverTotal : ObjCode := 0x209001
/-- 2090.02 RAKE_OOR_TOTAL (R155, 05_sparse_operands_rake.md). -/
abbrev Obj.rakeOorTotal : ObjCode := 0x209002
/-- 2090.03 RAKE_MALFORMED_TOTAL (R155, 05_sparse_operands_rake.md). -/
abbrev Obj.rakeMalformedTotal : ObjCode := 0x209003
/-- 2090.04 RMASK_OUTSIDE_TOTAL (R155, 05_sparse_operands_rake.md). -/
abbrev Obj.rmaskOutsideTotal : ObjCode := 0x209004
/-- 2090.05 RAKE_TOTAL_CLEAR (R155, 05_sparse_operands_rake.md). -/
abbrev Obj.rakeTotalClear : ObjCode := 0x209005
/-- 2090.06 RKE_STRIDE_RATE (R155, 05_sparse_operands_rake.md). -/
abbrev Obj.rkeStrideRate : ObjCode := 0x209006
/-- 2800.01 SAT_TOTAL (R75, 02_number_formats.md). -/
abbrev Obj.satTotal : ObjCode := 0x280001
/-- 2800.02 FLUSH_TOTAL (R75, 02_number_formats.md). -/
abbrev Obj.flushTotal : ObjCode := 0x280002
/-- 2800.03 TOTAL_CLEAR (R75, 02_number_formats.md). -/
abbrev Obj.totalClear : ObjCode := 0x280003
/-- 3000.01 TM_CE_COUNT (R179, 06_local_memory_tiers.md). -/
abbrev Obj.tmCeCount : ObjCode := 0x300001
/-- 3000.02 SSRAM_CE_COUNT (R179, 06_local_memory_tiers.md). -/
abbrev Obj.ssramCeCount : ObjCode := 0x300002
/-- 3000.03 SRAM_SCRUB_PERIOD (R179, 06_local_memory_tiers.md). -/
abbrev Obj.sramScrubPeriod : ObjCode := 0x300003
/-- 3010.01 MEM_UE_RECORD (R179, 06_local_memory_tiers.md). -/
abbrev Obj.memUeRecord : ObjCode := 0x301001
/-- 3010.02 MEM_UE_EXTRA (R179, 06_local_memory_tiers.md). -/
abbrev Obj.memUeExtra : ObjCode := 0x301002
/-- 3100.01 HBM_CE_COUNT (R180, 06_local_memory_tiers.md). -/
abbrev Obj.hbmCeCount : ObjCode := 0x310001
/-- 3100.02 HBM_ONDIE_CE_COUNT (R180, 06_local_memory_tiers.md). -/
abbrev Obj.hbmOndieCeCount : ObjCode := 0x310002
/-- 3100.03 HBM_SCRUB_PERIOD (R180, 06_local_memory_tiers.md). -/
abbrev Obj.hbmScrubPeriod : ObjCode := 0x310003
/-- 3100.04 HBM_TEMP (R180, 06_local_memory_tiers.md). -/
abbrev Obj.hbmTemp : ObjCode := 0x310004
/-- 3100.05 HBM_HOLD (R180, 06_local_memory_tiers.md). -/
abbrev Obj.hbmHold : ObjCode := 0x310005
/-- 3200.01 DIMM_STATE (R180, 06_local_memory_tiers.md). -/
abbrev Obj.dimmState : ObjCode := 0x320001
/-- 3200.02 DIMM_INFO (R180, 06_local_memory_tiers.md). -/
abbrev Obj.dimmInfo : ObjCode := 0x320002
/-- 3200.03 DIMM_CE_COUNT (R180, 06_local_memory_tiers.md). -/
abbrev Obj.dimmCeCount : ObjCode := 0x320003
/-- 3200.04 DDR_SCRUB_PERIOD (R180, 06_local_memory_tiers.md). -/
abbrev Obj.ddrScrubPeriod : ObjCode := 0x320004
/-- 3200.05 DIMM_TEMP (R180, 06_local_memory_tiers.md). -/
abbrev Obj.dimmTemp : ObjCode := 0x320005
/-- 3200.06 DDR_HOLD (R180, 06_local_memory_tiers.md). -/
abbrev Obj.ddrHold : ObjCode := 0x320006
/-- 3300.01 RECAL_MODE (R180, 06_local_memory_tiers.md). -/
abbrev Obj.recalMode : ObjCode := 0x330001
/-- 3300.02 RECAL_NOW (R180, 06_local_memory_tiers.md). -/
abbrev Obj.recalNow : ObjCode := 0x330002
/-- 3400.01 DRAIN_DESC (R181, 06_local_memory_tiers.md). -/
abbrev Obj.drainDesc : ObjCode := 0x340001
/-- 3400.02 DRAIN_CMD (R181, 06_local_memory_tiers.md). -/
abbrev Obj.drainCmd : ObjCode := 0x340002
/-- 3400.03 DRAIN_PROGRESS (R181, 06_local_memory_tiers.md). -/
abbrev Obj.drainProgress : ObjCode := 0x340003
/-- 3400.04 REDIRECT (R181, 06_local_memory_tiers.md). -/
abbrev Obj.redirect : ObjCode := 0x340004
/-- 4000.01 DEVICE_ID (R217, 07_global_memory_space.md). -/
abbrev Obj.deviceId : ObjCode := 0x400001
/-- 4100.01 DEADLINE_NS (R217, 07_global_memory_space.md). -/
abbrev Obj.deadlineNs : ObjCode := 0x410001
/-- 4100.02 REPLAY_AFTER_NS (R217, 07_global_memory_space.md). -/
abbrev Obj.replayAfterNs : ObjCode := 0x410002
/-- 4100.03 ABANDON_AFTER_US (R217, 07_global_memory_space.md). -/
abbrev Obj.abandonAfterUs : ObjCode := 0x410003
/-- 4100.04 LATE_BY_DEST (R217, 07_global_memory_space.md). -/
abbrev Obj.lateByDest : ObjCode := 0x410004
/-- 4100.05 LOST_COUNT (R217, 07_global_memory_space.md). -/
abbrev Obj.lostCount : ObjCode := 0x410005
/-- 4100.06 CORE_REQ_TC (R217, 07_global_memory_space.md). -/
abbrev Obj.coreReqTc : ObjCode := 0x410006
/-- 4100.07 STREAM_TC (R217, 07_global_memory_space.md). -/
abbrev Obj.streamTc : ObjCode := 0x410007
/-- 4200.01 SRC_STREAMS (R217, 07_global_memory_space.md). -/
abbrev Obj.srcStreams : ObjCode := 0x420001
/-- 4200.02 DST_STREAMS (R217, 07_global_memory_space.md). -/
abbrev Obj.dstStreams : ObjCode := 0x420002
/-- 4200.03 STREAM_EVENTS (R217, 07_global_memory_space.md). -/
abbrev Obj.streamEvents : ObjCode := 0x420003
/-- 4200.04 STREAM_RESET (R217, 07_global_memory_space.md). -/
abbrev Obj.streamReset : ObjCode := 0x420004
/-- 4300.01 GMU_ERROR (R217, 07_global_memory_space.md). -/
abbrev Obj.gmuError : ObjCode := 0x430001
/-- 4400.01 GUARD_DESC (R217, 07_global_memory_space.md). -/
abbrev Obj.guardDesc : ObjCode := 0x440001
/-- 4400.02 GUARD_STATE (R217, 07_global_memory_space.md). -/
abbrev Obj.guardState : ObjCode := 0x440002
/-- 4400.03 GUARD_CMD (R217, 07_global_memory_space.md). -/
abbrev Obj.guardCmd : ObjCode := 0x440003
/-- 5000.01 PORT_STATE (R244, 08_fabric_ports_optics.md). -/
abbrev Obj.portState : ObjCode := 0x500001
/-- 5000.02 PORT_CONFIG (R244, 08_fabric_ports_optics.md). -/
abbrev Obj.portConfig : ObjCode := 0x500002
/-- 5000.03 PORT_CMD (R244, 08_fabric_ports_optics.md). -/
abbrev Obj.portCmd : ObjCode := 0x500003
/-- 5000.04 PORT_INFO (R244, 08_fabric_ports_optics.md). -/
abbrev Obj.portInfo : ObjCode := 0x500004
/-- 5000.05 HEADROOM_LIMIT (R244, 08_fabric_ports_optics.md). -/
abbrev Obj.headroomLimit : ObjCode := 0x500005
/-- 5000.06 HEADROOM_USED (R244, 08_fabric_ports_optics.md). -/
abbrev Obj.headroomUsed : ObjCode := 0x500006
/-- 5000.07 PORT_DAMP (R244, 08_fabric_ports_optics.md). -/
abbrev Obj.portDamp : ObjCode := 0x500007
/-- 5100.01 PORT_ERRORS (R244, 08_fabric_ports_optics.md). -/
abbrev Obj.portErrors : ObjCode := 0x510001
/-- 5100.02 LANE_STATUS (R244, 08_fabric_ports_optics.md). -/
abbrev Obj.laneStatus : ObjCode := 0x510002
/-- 5200.01 ELS_STATE (R244, 08_fabric_ports_optics.md). -/
abbrev Obj.elsState : ObjCode := 0x520001
/-- 5200.02 ELS_INFO (R244, 08_fabric_ports_optics.md). -/
abbrev Obj.elsInfo : ObjCode := 0x520002
/-- 5200.03 ELS_CMD (R244, 08_fabric_ports_optics.md). -/
abbrev Obj.elsCmd : ObjCode := 0x520003
/-- 5300.01 OE_SELFTEST (R244, 08_fabric_ports_optics.md). -/
abbrev Obj.oeSelftest : ObjCode := 0x530001
/-- 6000.01 TC_KIND (R282, 09_switch_core.md). -/
abbrev Obj.tcKind : ObjCode := 0x600001
/-- 6000.02 CLASS_CHECKED (R282, 09_switch_core.md). -/
abbrev Obj.classChecked : ObjCode := 0x600002
/-- 6000.03 FWD_AGE_NS (R282, 09_switch_core.md). -/
abbrev Obj.fwdAgeNs : ObjCode := 0x600003
/-- 6000.04 HOP_INIT (R282, 09_switch_core.md). -/
abbrev Obj.hopInit : ObjCode := 0x600004
/-- 6000.05 PORT_SAF (R282, 09_switch_core.md). -/
abbrev Obj.portSaf : ObjCode := 0x600005
/-- 6100.01 CLASS_BUF (R282, 09_switch_core.md). -/
abbrev Obj.classBuf : ObjCode := 0x610001
/-- 6100.02 BUF_USAGE (R282, 09_switch_core.md). -/
abbrev Obj.bufUsage : ObjCode := 0x610002
/-- 6100.03 POSITION_COUNT (R282, 09_switch_core.md). -/
abbrev Obj.positionCount : ObjCode := 0x610003
/-- 6300.01 ROUTE_SHADOW (R283, 09_switch_core.md). -/
abbrev Obj.routeShadow : ObjCode := 0x630001
/-- 6300.02 ROUTE_ACTIVE (R283, 09_switch_core.md). -/
abbrev Obj.routeActive : ObjCode := 0x630002
/-- 6300.03 ORIENT_SHADOW (R283, 09_switch_core.md). -/
abbrev Obj.orientShadow : ObjCode := 0x630003
/-- 6300.04 ORIENT_ACTIVE (R283, 09_switch_core.md). -/
abbrev Obj.orientActive : ObjCode := 0x630004
/-- 6300.05 ROUTE_COMMIT (R283, 09_switch_core.md). -/
abbrev Obj.routeCommit : ObjCode := 0x630005
/-- 6300.06 COMMIT_RESULT (R283, 09_switch_core.md). -/
abbrev Obj.commitResult : ObjCode := 0x630006
/-- 6300.07 PORT_USABLE (R283, 09_switch_core.md). -/
abbrev Obj.portUsable : ObjCode := 0x630007
/-- 6310.01 MC_SHADOW (R283, 09_switch_core.md). -/
abbrev Obj.mcShadow : ObjCode := 0x631001
/-- 6310.02 MC_ACTIVE (R283, 09_switch_core.md). -/
abbrev Obj.mcActive : ObjCode := 0x631002
/-- 6310.03 MC_RESIDUE (R283, 09_switch_core.md). -/
abbrev Obj.mcResidue : ObjCode := 0x631003
/-- 6310.04 MC_COPY_DROPPED (R283, 09_switch_core.md). -/
abbrev Obj.mcCopyDropped : ObjCode := 0x631004
/-- 6320.01 DROP_COUNTS (R284, 09_switch_core.md). -/
abbrev Obj.dropCounts : ObjCode := 0x632001
/-- 6400.01 MIRROR_SESSION (R284, 09_switch_core.md). -/
abbrev Obj.mirrorSession : ObjCode := 0x640001
/-- 6400.02 MIRROR_COUNTS (R284, 09_switch_core.md). -/
abbrev Obj.mirrorCounts : ObjCode := 0x640002
/-- 6500.01 MARK_THRESHOLD (R284, 09_switch_core.md). -/
abbrev Obj.markThreshold : ObjCode := 0x650001
/-- 6500.02 MARK_COUNT (R284, 09_switch_core.md). -/
abbrev Obj.markCount : ObjCode := 0x650002
/-- 6500.03 MARK_RECEIVED (R284, 09_switch_core.md). -/
abbrev Obj.markReceived : ObjCode := 0x650003
/-- 7000.01 PORT_NODE (R304, 10_traffic_manager.md). -/
abbrev Obj.portNode : ObjCode := 0x700001
/-- 7000.02 CLASS_NODE (R304, 10_traffic_manager.md). -/
abbrev Obj.classNode : ObjCode := 0x700002
/-- 7000.03 GROUP_NODE (R304, 10_traffic_manager.md). -/
abbrev Obj.groupNode : ObjCode := 0x700003
/-- 7100.01 FLOW_TABLE (R304, 10_traffic_manager.md). -/
abbrev Obj.flowTable : ObjCode := 0x710001
/-- 7100.02 FLOW_CMD (R304, 10_traffic_manager.md). -/
abbrev Obj.flowCmd : ObjCode := 0x710002
/-- 7100.03 FLOW_KEY (R304, 10_traffic_manager.md). -/
abbrev Obj.flowKey : ObjCode := 0x710003
/-- 7200.01 POLICER (R304, 10_traffic_manager.md). -/
abbrev Obj.policer : ObjCode := 0x720001
/-- 7200.02 POLICER_COUNTS (R304, 10_traffic_manager.md). -/
abbrev Obj.policerCounts : ObjCode := 0x720002
/-- 7300.01 TMG_COUNTS (R304, 10_traffic_manager.md). -/
abbrev Obj.tmgCounts : ObjCode := 0x730001
/-- 7F00.01 H40_PORT_RATE (R430, 14_host_attachment_and_dictionary.md). -/
abbrev Obj.h40PortRate : ObjCode := 0x7F0001
/-- 7F00.02 H40_PORT_BURST (R430, 14_host_attachment_and_dictionary.md). -/
abbrev Obj.h40PortBurst : ObjCode := 0x7F0002
/-- 8000.01 PROGRAM_STAGE (R334, 11_stream_programs.md). -/
abbrev Obj.programStage : ObjCode := 0x800001
/-- 8000.02 PROGRAM_LOAD (R334, 11_stream_programs.md). -/
abbrev Obj.programLoad : ObjCode := 0x800002
/-- 8000.03 PROGRAM_INFO (R334, 11_stream_programs.md). -/
abbrev Obj.programInfo : ObjCode := 0x800003
/-- 8000.04 PROGRAM_TEXT (R334, 11_stream_programs.md). -/
abbrev Obj.programText : ObjCode := 0x800004
/-- 8100.01 BIND_STATE (R334, 11_stream_programs.md). -/
abbrev Obj.bindState : ObjCode := 0x810001
/-- 8100.02 BIND_DESC (R334, 11_stream_programs.md). -/
abbrev Obj.bindDesc : ObjCode := 0x810002
/-- 8100.03 BIND_CMD (R334, 11_stream_programs.md). -/
abbrev Obj.bindCmd : ObjCode := 0x810003
/-- 8100.04 DIVERT_MAP (R334, 11_stream_programs.md). -/
abbrev Obj.divertMap : ObjCode := 0x810004
/-- 8100.05 MC_SU_MAP (R334, 11_stream_programs.md). -/
abbrev Obj.mcSuMap : ObjCode := 0x810005
/-- 8200.01 SU_COUNTS (R335, 11_stream_programs.md). -/
abbrev Obj.suCounts : ObjCode := 0x820001
/-- 8200.02 SU_FAULT (R335, 11_stream_programs.md). -/
abbrev Obj.suFault : ObjCode := 0x820002
/-- 8200.03 SU_BUSY (R335, 11_stream_programs.md). -/
abbrev Obj.suBusy : ObjCode := 0x820003
/-- 8200.04 SU_UNMAPPED (R335, 11_stream_programs.md). -/
abbrev Obj.suUnmapped : ObjCode := 0x820004
/-- 8300.01 SU_BITMAP (R335, 11_stream_programs.md). -/
abbrev Obj.suBitmap : ObjCode := 0x830001
/-- 8300.02 BITMAP_CLEAR (R335, 11_stream_programs.md). -/
abbrev Obj.bitmapClear : ObjCode := 0x830002
/-- 9000.01 GROUP_DESC (R367, 12_collectives.md). -/
abbrev Obj.groupDesc : ObjCode := 0x900001
/-- 9000.02 MEMBER_TABLE (R367, 12_collectives.md). -/
abbrev Obj.memberTable : ObjCode := 0x900002
/-- 9000.03 RP_TABLE (R367, 12_collectives.md). -/
abbrev Obj.rpTable : ObjCode := 0x900003
/-- 9000.04 GROUP_CMD (R367, 12_collectives.md). -/
abbrev Obj.groupCmd : ObjCode := 0x900004
/-- 9000.05 CTX_STATE (R367, 12_collectives.md). -/
abbrev Obj.ctxState : ObjCode := 0x900005
/-- 9000.06 COLL_TIMEOUT (R367, 12_collectives.md). -/
abbrev Obj.collTimeout : ObjCode := 0x900006
/-- 9100.01 CTX_COUNTS (R367, 12_collectives.md). -/
abbrev Obj.ctxCounts : ObjCode := 0x910001
/-- 9100.02 COLL_ERROR (R367, 12_collectives.md). -/
abbrev Obj.collError : ObjCode := 0x910002
/-- A000.01 POOL_CONFIG (R389, 13_buffer_pools_and_check_values.md). -/
abbrev Obj.poolConfig : ObjCode := 0xA00001
/-- A000.02 POOL_STATE (R389, 13_buffer_pools_and_check_values.md). -/
abbrev Obj.poolState : ObjCode := 0xA00002
/-- A000.03 POOL_CMD (R389, 13_buffer_pools_and_check_values.md). -/
abbrev Obj.poolCmd : ObjCode := 0xA00003
/-- A000.04 POOL_FLAGS (R389, 13_buffer_pools_and_check_values.md). -/
abbrev Obj.poolFlags : ObjCode := 0xA00004
/-- A000.05 POOL_COUNTS (R389, 13_buffer_pools_and_check_values.md). -/
abbrev Obj.poolCounts : ObjCode := 0xA00005
/-- A000.06 POOL_REJECT (R389, 13_buffer_pools_and_check_values.md). -/
abbrev Obj.poolReject : ObjCode := 0xA00006
/-- A000.07 OWNER_QUERY (R389, 13_buffer_pools_and_check_values.md). -/
abbrev Obj.ownerQuery : ObjCode := 0xA00007
/-- A000.08 ARENA_SCRUB_PERIOD (R389, 13_buffer_pools_and_check_values.md). -/
abbrev Obj.arenaScrubPeriod : ObjCode := 0xA00008
/-- A000.09 ARENA_CE_COUNT (R389, 13_buffer_pools_and_check_values.md). -/
abbrev Obj.arenaCeCount : ObjCode := 0xA00009
/-- A100.01 CVU_PARAMS (R390, 13_buffer_pools_and_check_values.md). -/
abbrev Obj.cvuParams : ObjCode := 0xA10001
/-- A100.02 CVU_RUN (R390, 13_buffer_pools_and_check_values.md). -/
abbrev Obj.cvuRun : ObjCode := 0xA10002
/-- A100.03 CVU_STATE (R390, 13_buffer_pools_and_check_values.md). -/
abbrev Obj.cvuState : ObjCode := 0xA10003
/-- A100.04 CVU_CMD (R390, 13_buffer_pools_and_check_values.md). -/
abbrev Obj.cvuCmd : ObjCode := 0xA10004
/-- A100.05 FEED_DESC (R390, 13_buffer_pools_and_check_values.md). -/
abbrev Obj.feedDesc : ObjCode := 0xA10005
/-- A100.06 CLE_CVUS (R390, 13_buffer_pools_and_check_values.md). -/
abbrev Obj.cleCvus : ObjCode := 0xA10006
/-- A200.01 SCAN_DESC (R390, 13_buffer_pools_and_check_values.md). -/
abbrev Obj.scanDesc : ObjCode := 0xA20001
/-- A200.02 SCAN_CMD (R390, 13_buffer_pools_and_check_values.md). -/
abbrev Obj.scanCmd : ObjCode := 0xA20002
/-- A200.03 SCAN_RESULT (R390, 13_buffer_pools_and_check_values.md). -/
abbrev Obj.scanResult : ObjCode := 0xA20003
/-- A200.04 SCAN_INTERNAL (R390, 13_buffer_pools_and_check_values.md). -/
abbrev Obj.scanInternal : ObjCode := 0xA20004
/-- B000.01 HOST_PORT_STATE (R438, 14_host_attachment_and_dictionary.md). -/
abbrev Obj.hostPortState : ObjCode := 0xB00001
/-- B000.02 HOST_PORT_CONFIG (R438, 14_host_attachment_and_dictionary.md). -/
abbrev Obj.hostPortConfig : ObjCode := 0xB00002
/-- B000.03 HOST_PORT_COUNTS (R438, 14_host_attachment_and_dictionary.md). -/
abbrev Obj.hostPortCounts : ObjCode := 0xB00003
/-- B100.01 QP_TABLE (R438, 14_host_attachment_and_dictionary.md). -/
abbrev Obj.qpTable : ObjCode := 0xB10001
/-- B100.02 QP_CMD (R438, 14_host_attachment_and_dictionary.md). -/
abbrev Obj.qpCmd : ObjCode := 0xB10002
/-- B100.03 QP_COUNTS (R438, 14_host_attachment_and_dictionary.md). -/
abbrev Obj.qpCounts : ObjCode := 0xB10003
/-- B200.01 ACCESS_WINDOW (R438, 14_host_attachment_and_dictionary.md). -/
abbrev Obj.accessWindow : ObjCode := 0xB20001
/-- B300.01 RING_DESC (R438, 14_host_attachment_and_dictionary.md). -/
abbrev Obj.ringDesc : ObjCode := 0xB30001
/-- B300.02 RING_CMD (R438, 14_host_attachment_and_dictionary.md). -/
abbrev Obj.ringCmd : ObjCode := 0xB30002
/-- B300.03 RING_STATE (R438, 14_host_attachment_and_dictionary.md). -/
abbrev Obj.ringState : ObjCode := 0xB30003
/-- B300.04 RING_POLL_NS (R438, 14_host_attachment_and_dictionary.md). -/
abbrev Obj.ringPollNs : ObjCode := 0xB30004
/-- B400.01 HOST_ETHER (R438, 14_host_attachment_and_dictionary.md). -/
abbrev Obj.hostEther : ObjCode := 0xB40001
/-- B500.01 CDP_CONFIG (R439, 14_host_attachment_and_dictionary.md). -/
abbrev Obj.cdpConfig : ObjCode := 0xB50001
/-- B500.02 CDP_SESSIONS (R439, 14_host_attachment_and_dictionary.md). -/
abbrev Obj.cdpSessions : ObjCode := 0xB50002
/-- B500.03 CDP_COUNTS (R439, 14_host_attachment_and_dictionary.md). -/
abbrev Obj.cdpCounts : ObjCode := 0xB50003
/-- B500.04 WINDOW_ACCESS (R439, 14_host_attachment_and_dictionary.md). -/
abbrev Obj.windowAccess : ObjCode := 0xB50004
/-- C000.01 MARSHAL_CONFIG (R474, 15_failure_recovery_reproducibility.md). -/
abbrev Obj.marshalConfig : ObjCode := 0xC00001
/-- C000.02 STEP_TIMEOUT_US (R474, 15_failure_recovery_reproducibility.md). -/
abbrev Obj.stepTimeoutUs : ObjCode := 0xC00002
/-- C100.01 MEMBERSHIP (R474, 15_failure_recovery_reproducibility.md). -/
abbrev Obj.membership : ObjCode := 0xC10001
/-- C100.02 EXPEL_GROUP (R474, 15_failure_recovery_reproducibility.md). -/
abbrev Obj.expelGroup : ObjCode := 0xC10002
/-- C100.03 MARSHAL_CMD (R474, 15_failure_recovery_reproducibility.md). -/
abbrev Obj.marshalCmd : ObjCode := 0xC10003
/-- C100.04 ADMIT_DESC (R474, 15_failure_recovery_reproducibility.md). -/
abbrev Obj.admitDesc : ObjCode := 0xC10004
/-- C200.01 SCORE_CONFIG (R474, 15_failure_recovery_reproducibility.md). -/
abbrev Obj.scoreConfig : ObjCode := 0xC20001
/-- C300.01 RECOVERY_STATE (R475, 15_failure_recovery_reproducibility.md). -/
abbrev Obj.recoveryState : ObjCode := 0xC30001
/-- C300.02 MARSHAL_LOG (R475, 15_failure_recovery_reproducibility.md). -/
abbrev Obj.marshalLog : ObjCode := 0xC30002
/-- C300.03 LOG_NEXT (R475, 15_failure_recovery_reproducibility.md). -/
abbrev Obj.logNext : ObjCode := 0xC30003
/-- C400.01 GUARD_REBUILD (R475, 15_failure_recovery_reproducibility.md). -/
abbrev Obj.guardRebuild : ObjCode := 0xC40001
/-- C400.02 REBUILD_SHARE (R475, 15_failure_recovery_reproducibility.md). -/
abbrev Obj.rebuildShare : ObjCode := 0xC40002
/-- C800.01 REPRO_MODE (R475, 15_failure_recovery_reproducibility.md). -/
abbrev Obj.reproMode : ObjCode := 0xC80001
/-- C800.02 RNG_SEED (R475, 15_failure_recovery_reproducibility.md). -/
abbrev Obj.rngSeed : ObjCode := 0xC80002
/-- D000.01 INPUT_STATUS (R503, 16_power_energy_states_resets.md). -/
abbrev Obj.inputStatus : ObjCode := 0xD00001
/-- D000.02 INPUT_EVENTS (R503, 16_power_energy_states_resets.md). -/
abbrev Obj.inputEvents : ObjCode := 0xD00002
/-- D000.03 INPUT_COUNTS (R503, 16_power_energy_states_resets.md). -/
abbrev Obj.inputCounts : ObjCode := 0xD00003
/-- D000.04 DIP_FILTER_US (R503, 16_power_energy_states_resets.md). -/
abbrev Obj.dipFilterUs : ObjCode := 0xD00004
/-- D100.01 GOVERNOR_STATE (R503, 16_power_energy_states_resets.md). -/
abbrev Obj.governorState : ObjCode := 0xD10001
/-- D100.02 POWER_CAP (R503, 16_power_energy_states_resets.md). -/
abbrev Obj.powerCap : ObjCode := 0xD10002
/-- D200.01 POWER_STATE (R504, 16_power_energy_states_resets.md). -/
abbrev Obj.powerState : ObjCode := 0xD20001
/-- D200.02 POWER_CMD (R504, 16_power_energy_states_resets.md). -/
abbrev Obj.powerCmd : ObjCode := 0xD20002
/-- D300.01 RESET_CMD (R504, 16_power_energy_states_resets.md). -/
abbrev Obj.resetCmd : ObjCode := 0xD30001
/-- D300.02 UNIT_RESET (R504, 16_power_energy_states_resets.md). -/
abbrev Obj.unitReset : ObjCode := 0xD30002
/-- D300.03 LAST_RESET (R504, 16_power_energy_states_resets.md). -/
abbrev Obj.lastReset : ObjCode := 0xD30003
/-- D400.01 STAGE_STATE (R504, 16_power_energy_states_resets.md). -/
abbrev Obj.stageState : ObjCode := 0xD40001
/-- D400.02 STAGE_INFO (R504, 16_power_energy_states_resets.md). -/
abbrev Obj.stageInfo : ObjCode := 0xD40002
/-- D400.03 STAGE_CMD (R504, 16_power_energy_states_resets.md). -/
abbrev Obj.stageCmd : ObjCode := 0xD40003
/-- D500.01 AOS_USAGE (R503, 16_power_energy_states_resets.md). -/
abbrev Obj.aosUsage : ObjCode := 0xD50001
/-- D600.01 THERMAL_STATUS (R535, 18_physical_electrical_thermal.md). -/
abbrev Obj.thermalStatus : ObjCode := 0xD60001
/-- D600.02 THERMAL_EVENTS (R535, 18_physical_electrical_thermal.md). -/
abbrev Obj.thermalEvents : ObjCode := 0xD60002
/-- D600.03 THERM_LIMIT (R535, 18_physical_electrical_thermal.md). -/
abbrev Obj.thermLimit : ObjCode := 0xD60003
/-- D600.04 STACK_TEMP (R535, 18_physical_electrical_thermal.md). -/
abbrev Obj.stackTemp : ObjCode := 0xD60004
/-- E000.01 SECURITY_STATE (R517, 17_security_and_images.md). -/
abbrev Obj.securityState : ObjCode := 0xE00001
/-- E000.02 DEVICE_CERT (R517, 17_security_and_images.md). -/
abbrev Obj.deviceCert : ObjCode := 0xE00002
/-- E000.03 CA_CERT (R517, 17_security_and_images.md). -/
abbrev Obj.caCert : ObjCode := 0xE00003
/-- E000.04 COMMISSION_DESC (R517, 17_security_and_images.md). -/
abbrev Obj.commissionDesc : ObjCode := 0xE00004
/-- E000.05 SECURITY_CMD (R517, 17_security_and_images.md). -/
abbrev Obj.securityCmd : ObjCode := 0xE00005
/-- E100.01 NV_STATE (R439, 14_host_attachment_and_dictionary.md). -/
abbrev Obj.nvState : ObjCode := 0xE10001
/-- E100.02 NV_CMD (R439, 14_host_attachment_and_dictionary.md). -/
abbrev Obj.nvCmd : ObjCode := 0xE10002
/-- E100.03 NV_VERIFY (R439, 14_host_attachment_and_dictionary.md). -/
abbrev Obj.nvVerify : ObjCode := 0xE10003
/-- E200.01 ATTEST_NONCE (R517, 17_security_and_images.md). -/
abbrev Obj.attestNonce : ObjCode := 0xE20001
/-- E200.02 ATTEST (R517, 17_security_and_images.md). -/
abbrev Obj.attest : ObjCode := 0xE20002
/-- E200.03 MEASUREMENT (R517, 17_security_and_images.md). -/
abbrev Obj.measurement : ObjCode := 0xE20003
/-- E200.04 EXTEND (R517, 17_security_and_images.md). -/
abbrev Obj.extend : ObjCode := 0xE20004
/-- E300.01 CIPHER_STATUS (R517, 17_security_and_images.md). -/
abbrev Obj.cipherStatus : ObjCode := 0xE30001

/-- The type of a value or of the entries of a TABLE (R427). -/
inductive ObjType
  | bool | u8 | u16 | u32 | u64 | i16 | i32 | i64 | f32 | bits8 | bits16 | bits32 | bits64 | addr64 | octets | string
  | cmd
  deriving DecidableEq, Repr

/-- The access codes of R13. -/
inductive Access
  | ro | rw | wo | w1c | cmd | rwq
  deriving DecidableEq, Repr

/-- The persistence codes of R14. -/
inductive Persist
  | f | n | v | s | k
  deriving DecidableEq, Repr

/-- One row of an object table: `bytes` is the size of the value or of one entry (a CMD's read width), `entries` the
entry count of a TABLE (0 for any other object), `writeBytes` the write width of a CMD (R419), `dflt` the factory default
where it is one value for all entries. -/
structure ObjInfo where
  code : ObjCode
  type : ObjType
  bytes : Nat
  entries : Nat
  access : Access
  persist : Persist
  writeBytes : Nat
  dflt : Nat
  deriving DecidableEq, Repr

/-- The objects of groups 1xxx, ascending. -/
def objTable1 : List ObjInfo :=
  [⟨Obj.gradeCode, .u8, 1, 0, .ro, .f, 0, 0⟩,
   ⟨Obj.partNumber, .string, 16, 0, .ro, .f, 0, 0⟩,
   ⟨Obj.serialNumber, .string, 16, 0, .ro, .f, 0, 0⟩,
   ⟨Obj.corePresent, .octets, 12, 0, .ro, .f, 0, 0⟩,
   ⟨Obj.stackPresent, .bits8, 1, 0, .ro, .f, 0, 0⟩,
   ⟨Obj.rakePresent, .bits64, 8, 0, .ro, .f, 0, 0⟩,
   ⟨Obj.hbmPresent, .bits32, 4, 0, .ro, .f, 0, 0⟩,
   ⟨Obj.ddr5SocketPresent, .bits16, 2, 0, .ro, .f, 0, 0⟩,
   ⟨Obj.portPresent, .bits64, 8, 0, .ro, .f, 0, 18446744073709551615⟩,
   ⟨Obj.sm4Present, .bool, 1, 0, .ro, .f, 0, 0⟩,
   ⟨Obj.serviceState, .u8, 1, 0, .ro, .v, 0, 0⟩,
   ⟨Obj.scratchCause, .bits16, 2, 0, .w1c, .s, 0, 0⟩,
   ⟨Obj.scratchTime, .u64, 8, 0, .ro, .s, 0, 0⟩,
   ⟨Obj.scratchNow, .cmd, 1, 0, .cmd, .v, 1, 0⟩]

/-- The objects of groups 2xxx, ascending. -/
def objTable2 : List ObjInfo :=
  [⟨Obj.coreState, .u8, 1, 96, .ro, .v, 0, 0⟩,
   ⟨Obj.coreLaunch, .cmd, 1, 0, .cmd, .v, 8, 0⟩,
   ⟨Obj.coreStop, .cmd, 1, 0, .cmd, .v, 1, 0⟩,
   ⟨Obj.waitLimitDefault, .u32, 4, 0, .rw, .n, 0, 4194304⟩,
   ⟨Obj.icacheRefetch, .u64, 8, 96, .ro, .v, 0, 0⟩,
   ⟨Obj.strideRate, .u32, 4, 96, .ro, .v, 0, 0⟩,
   ⟨Obj.strideCount, .u64, 8, 96, .ro, .v, 0, 0⟩,
   ⟨Obj.haltRecord, .octets, 128, 96, .ro, .v, 0, 0⟩,
   ⟨Obj.flags, .u32, 4, 24576, .rwq, .v, 0, 0⟩,
   ⟨Obj.seqState, .octets, 32, 96, .ro, .v, 0, 0⟩,
   ⟨Obj.summarySlots, .octets, 16, 768, .ro, .v, 0, 0⟩,
   ⟨Obj.pacedBusy, .u64, 8, 288, .ro, .v, 0, 0⟩,
   ⟨Obj.descIgnored, .u64, 8, 96, .ro, .v, 0, 0⟩,
   ⟨Obj.tileRegs, .octets, 16384, 3072, .rwq, .v, 0, 0⟩,
   ⟨Obj.maskRegs, .octets, 512, 768, .rwq, .v, 0, 0⟩,
   ⟨Obj.rakeOverTotal, .u64, 8, 96, .ro, .v, 0, 0⟩,
   ⟨Obj.rakeOorTotal, .u64, 8, 96, .ro, .v, 0, 0⟩,
   ⟨Obj.rakeMalformedTotal, .u64, 8, 96, .ro, .v, 0, 0⟩,
   ⟨Obj.rmaskOutsideTotal, .u64, 8, 96, .ro, .v, 0, 0⟩,
   ⟨Obj.rakeTotalClear, .cmd, 1, 0, .cmd, .v, 1, 0⟩,
   ⟨Obj.rkeStrideRate, .u32, 4, 48, .ro, .v, 0, 0⟩,
   ⟨Obj.satTotal, .u64, 8, 96, .ro, .v, 0, 0⟩,
   ⟨Obj.flushTotal, .u64, 8, 96, .ro, .v, 0, 0⟩,
   ⟨Obj.totalClear, .cmd, 1, 0, .cmd, .v, 1, 0⟩]

/-- The objects of groups 3xxx, ascending. -/
def objTable3 : List ObjInfo :=
  [⟨Obj.tmCeCount, .u64, 8, 96, .ro, .v, 0, 0⟩,
   ⟨Obj.ssramCeCount, .u64, 8, 8, .ro, .v, 0, 0⟩,
   ⟨Obj.sramScrubPeriod, .u32, 4, 0, .rw, .n, 0, 3600⟩,
   ⟨Obj.memUeRecord, .octets, 32, 0, .ro, .s, 0, 0⟩,
   ⟨Obj.memUeExtra, .u32, 4, 0, .ro, .s, 0, 0⟩,
   ⟨Obj.hbmCeCount, .u64, 8, 24, .ro, .v, 0, 0⟩,
   ⟨Obj.hbmOndieCeCount, .u64, 8, 24, .ro, .v, 0, 0⟩,
   ⟨Obj.hbmScrubPeriod, .u32, 4, 0, .rw, .n, 0, 43200⟩,
   ⟨Obj.hbmTemp, .i32, 4, 24, .ro, .v, 0, 0⟩,
   ⟨Obj.hbmHold, .octets, 16, 24, .ro, .v, 0, 0⟩,
   ⟨Obj.dimmState, .u8, 1, 12, .ro, .v, 0, 0⟩,
   ⟨Obj.dimmInfo, .octets, 32, 12, .ro, .v, 0, 0⟩,
   ⟨Obj.dimmCeCount, .u64, 8, 12, .ro, .v, 0, 0⟩,
   ⟨Obj.ddrScrubPeriod, .u32, 4, 0, .rw, .n, 0, 86400⟩,
   ⟨Obj.dimmTemp, .i32, 4, 12, .ro, .v, 0, 0⟩,
   ⟨Obj.ddrHold, .octets, 16, 12, .ro, .v, 0, 0⟩,
   ⟨Obj.recalMode, .u8, 1, 0, .rw, .n, 0, 0⟩,
   ⟨Obj.recalNow, .cmd, 1, 0, .cmd, .v, 2, 0⟩,
   ⟨Obj.drainDesc, .octets, 32, 0, .rw, .v, 0, 0⟩,
   ⟨Obj.drainCmd, .cmd, 1, 0, .cmd, .v, 2, 0⟩,
   ⟨Obj.drainProgress, .octets, 16, 0, .ro, .v, 0, 0⟩,
   ⟨Obj.redirect, .octets, 16, 12, .ro, .k, 0, 0⟩]

/-- The objects of groups 4xxx, ascending. -/
def objTable4 : List ObjInfo :=
  [⟨Obj.deviceId, .u16, 2, 0, .ro, .v, 0, 65535⟩,
   ⟨Obj.deadlineNs, .u32, 4, 8, .rw, .n, 0, 4000⟩,
   ⟨Obj.replayAfterNs, .u32, 4, 0, .rw, .n, 0, 8000⟩,
   ⟨Obj.abandonAfterUs, .u32, 4, 0, .rw, .n, 0, 64⟩,
   ⟨Obj.lateByDest, .octets, 16, 4096, .ro, .v, 0, 0⟩,
   ⟨Obj.lostCount, .u64, 8, 0, .ro, .v, 0, 0⟩,
   ⟨Obj.coreReqTc, .u8, 1, 97, .rw, .n, 0, 1⟩,
   ⟨Obj.streamTc, .u8, 1, 4096, .rw, .n, 0, 1⟩,
   ⟨Obj.srcStreams, .octets, 16, 4096, .ro, .v, 0, 0⟩,
   ⟨Obj.dstStreams, .octets, 16, 4096, .ro, .v, 0, 0⟩,
   ⟨Obj.streamEvents, .octets, 48, 0, .ro, .v, 0, 0⟩,
   ⟨Obj.streamReset, .cmd, 1, 0, .cmd, .v, 2, 0⟩,
   ⟨Obj.gmuError, .octets, 32, 96, .ro, .v, 0, 0⟩,
   ⟨Obj.guardDesc, .octets, 64, 64, .rw, .k, 0, 0⟩,
   ⟨Obj.guardState, .u8, 1, 64, .ro, .k, 0, 0⟩,
   ⟨Obj.guardCmd, .cmd, 1, 0, .cmd, .v, 2, 0⟩]

/-- The objects of groups 5xxx, ascending. -/
def objTable5 : List ObjInfo :=
  [⟨Obj.portState, .u8, 1, 64, .ro, .v, 0, 0⟩,
   ⟨Obj.portConfig, .u8, 1, 64, .rwq, .n, 0, 1⟩,
   ⟨Obj.portCmd, .cmd, 1, 0, .cmd, .v, 2, 0⟩,
   ⟨Obj.portInfo, .octets, 32, 64, .ro, .v, 0, 0⟩,
   ⟨Obj.headroomLimit, .u32, 4, 0, .rw, .n, 0, 196608⟩,
   ⟨Obj.headroomUsed, .u32, 4, 0, .ro, .v, 0, 0⟩,
   ⟨Obj.portDamp, .u32, 4, 0, .rw, .n, 0, 3932164⟩,
   ⟨Obj.portErrors, .octets, 64, 64, .ro, .v, 0, 0⟩,
   ⟨Obj.laneStatus, .octets, 8, 512, .ro, .v, 0, 0⟩,
   ⟨Obj.elsState, .u8, 1, 16, .ro, .v, 0, 0⟩,
   ⟨Obj.elsInfo, .octets, 32, 16, .ro, .v, 0, 0⟩,
   ⟨Obj.elsCmd, .cmd, 1, 0, .cmd, .v, 2, 0⟩,
   ⟨Obj.oeSelftest, .octets, 16, 8, .ro, .s, 0, 0⟩]

/-- The objects of groups 6xxx, ascending. -/
def objTable6 : List ObjInfo :=
  [⟨Obj.tcKind, .u8, 1, 8, .rwq, .n, 0, 0⟩,
   ⟨Obj.classChecked, .bits8, 1, 0, .rwq, .n, 0, 31⟩,
   ⟨Obj.fwdAgeNs, .u32, 4, 0, .rw, .n, 0, 100000⟩,
   ⟨Obj.hopInit, .u8, 1, 0, .rw, .n, 0, 32⟩,
   ⟨Obj.portSaf, .bits8, 1, 64, .rw, .n, 0, 0⟩,
   ⟨Obj.classBuf, .octets, 8, 5, .rwq, .n, 0, 0⟩,
   ⟨Obj.bufUsage, .octets, 32, 0, .ro, .v, 0, 0⟩,
   ⟨Obj.positionCount, .u32, 4, 400, .ro, .v, 0, 0⟩,
   ⟨Obj.routeShadow, .u32, 4, 327680, .rw, .v, 0, 0⟩,
   ⟨Obj.routeActive, .u32, 4, 327680, .ro, .k, 0, 0⟩,
   ⟨Obj.orientShadow, .u8, 1, 64, .rw, .v, 0, 0⟩,
   ⟨Obj.orientActive, .u8, 1, 64, .ro, .k, 0, 0⟩,
   ⟨Obj.routeCommit, .cmd, 1, 0, .cmd, .v, 1, 0⟩,
   ⟨Obj.commitResult, .octets, 16, 0, .ro, .v, 0, 0⟩,
   ⟨Obj.portUsable, .bits64, 8, 0, .ro, .v, 0, 0⟩,
   ⟨Obj.mcShadow, .octets, 16, 4096, .rw, .v, 0, 0⟩,
   ⟨Obj.mcActive, .octets, 16, 4096, .ro, .k, 0, 0⟩,
   ⟨Obj.mcResidue, .u32, 4, 0, .ro, .v, 0, 0⟩,
   ⟨Obj.mcCopyDropped, .u64, 8, 0, .ro, .v, 0, 0⟩,
   ⟨Obj.dropCounts, .octets, 96, 0, .ro, .v, 0, 0⟩,
   ⟨Obj.mirrorSession, .octets, 32, 16, .rw, .v, 0, 0⟩,
   ⟨Obj.mirrorCounts, .octets, 16, 16, .ro, .v, 0, 0⟩,
   ⟨Obj.markThreshold, .u32, 4, 5, .rw, .n, 0, 0⟩,
   ⟨Obj.markCount, .u64, 8, 405, .ro, .v, 0, 0⟩,
   ⟨Obj.markReceived, .u64, 8, 5, .ro, .v, 0, 0⟩]

/-- The objects of groups 7xxx, ascending. -/
def objTable7 : List ObjInfo :=
  [⟨Obj.portNode, .octets, 32, 64, .rw, .n, 0, 0⟩,
   ⟨Obj.classNode, .octets, 32, 512, .rw, .n, 0, 0⟩,
   ⟨Obj.groupNode, .octets, 32, 16384, .rw, .n, 0, 0⟩,
   ⟨Obj.flowTable, .octets, 16, 131072, .rw, .v, 0, 0⟩,
   ⟨Obj.flowCmd, .cmd, 4, 0, .cmd, .v, 8, 0⟩,
   ⟨Obj.flowKey, .u8, 1, 8, .rwq, .n, 0, 2⟩,
   ⟨Obj.policer, .octets, 32, 65536, .rw, .n, 0, 0⟩,
   ⟨Obj.policerCounts, .octets, 24, 65536, .ro, .v, 0, 0⟩,
   ⟨Obj.tmgCounts, .octets, 32, 0, .ro, .v, 0, 0⟩,
   ⟨Obj.h40PortRate, .u32, 4, 64, .rw, .n, 0, 0⟩,
   ⟨Obj.h40PortBurst, .u32, 4, 64, .rw, .n, 0, 0⟩]

/-- The objects of groups 8xxx, ascending. -/
def objTable8 : List ObjInfo :=
  [⟨Obj.programStage, .octets, 2056, 0, .rw, .v, 0, 0⟩,
   ⟨Obj.programLoad, .cmd, 4, 0, .cmd, .v, 2, 0⟩,
   ⟨Obj.programInfo, .octets, 16, 256, .ro, .v, 0, 0⟩,
   ⟨Obj.programText, .octets, 2056, 256, .ro, .v, 0, 0⟩,
   ⟨Obj.bindState, .octets, 32, 256, .ro, .v, 0, 0⟩,
   ⟨Obj.bindDesc, .octets, 32, 0, .rw, .v, 0, 0⟩,
   ⟨Obj.bindCmd, .cmd, 1, 0, .cmd, .v, 2, 0⟩,
   ⟨Obj.divertMap, .u16, 2, 8192, .rw, .v, 0, 0⟩,
   ⟨Obj.mcSuMap, .u16, 2, 4096, .rw, .v, 0, 0⟩,
   ⟨Obj.suCounts, .octets, 128, 256, .ro, .v, 0, 0⟩,
   ⟨Obj.suFault, .octets, 32, 256, .ro, .v, 0, 0⟩,
   ⟨Obj.suBusy, .u64, 8, 32, .ro, .v, 0, 0⟩,
   ⟨Obj.suUnmapped, .u64, 8, 0, .ro, .v, 0, 0⟩,
   ⟨Obj.suBitmap, .octets, 2097152, 32, .rw, .v, 0, 0⟩,
   ⟨Obj.bitmapClear, .cmd, 1, 0, .cmd, .v, 1, 0⟩]

/-- The objects of groups 9xxx, ascending. -/
def objTable9 : List ObjInfo :=
  [⟨Obj.groupDesc, .octets, 32, 0, .rw, .v, 0, 0⟩,
   ⟨Obj.memberTable, .u16, 2, 4096, .rw, .v, 0, 0⟩,
   ⟨Obj.rpTable, .u16, 2, 64, .rw, .v, 0, 0⟩,
   ⟨Obj.groupCmd, .cmd, 4, 0, .cmd, .v, 2, 0⟩,
   ⟨Obj.ctxState, .octets, 32, 64, .ro, .v, 0, 0⟩,
   ⟨Obj.collTimeout, .octets, 8, 0, .rw, .n, 0, 0⟩,
   ⟨Obj.ctxCounts, .octets, 64, 64, .ro, .v, 0, 0⟩,
   ⟨Obj.collError, .octets, 16, 96, .ro, .v, 0, 0⟩]

/-- The objects of groups Axxx, ascending. -/
def objTableA : List ObjInfo :=
  [⟨Obj.poolConfig, .octets, 32, 64, .rwq, .n, 0, 0⟩,
   ⟨Obj.poolState, .octets, 32, 64, .ro, .v, 0, 0⟩,
   ⟨Obj.poolCmd, .cmd, 8, 0, .cmd, .v, 8, 0⟩,
   ⟨Obj.poolFlags, .bits8, 1, 64, .w1c, .s, 0, 0⟩,
   ⟨Obj.poolCounts, .octets, 64, 64, .ro, .v, 0, 0⟩,
   ⟨Obj.poolReject, .octets, 16, 64, .ro, .v, 0, 0⟩,
   ⟨Obj.ownerQuery, .cmd, 4, 0, .cmd, .v, 8, 0⟩,
   ⟨Obj.arenaScrubPeriod, .u32, 4, 0, .rw, .n, 0, 3600⟩,
   ⟨Obj.arenaCeCount, .u64, 8, 0, .ro, .v, 0, 0⟩,
   ⟨Obj.cvuParams, .octets, 32, 16, .rwq, .n, 0, 0⟩,
   ⟨Obj.cvuRun, .octets, 16, 16, .rwq, .v, 0, 0⟩,
   ⟨Obj.cvuState, .octets, 32, 16, .ro, .v, 0, 0⟩,
   ⟨Obj.cvuCmd, .cmd, 1, 0, .cmd, .v, 2, 0⟩,
   ⟨Obj.feedDesc, .octets, 16, 0, .rw, .v, 0, 0⟩,
   ⟨Obj.cleCvus, .u8, 1, 0, .rwq, .n, 0, 12⟩,
   ⟨Obj.scanDesc, .octets, 64, 0, .rw, .v, 0, 0⟩,
   ⟨Obj.scanCmd, .cmd, 4, 0, .cmd, .v, 2, 0⟩,
   ⟨Obj.scanResult, .octets, 48, 16, .ro, .v, 0, 0⟩,
   ⟨Obj.scanInternal, .octets, 16, 0, .ro, .v, 0, 0⟩]

/-- The objects of groups Bxxx, ascending. -/
def objTableB : List ObjInfo :=
  [⟨Obj.hostPortState, .u8, 1, 2, .ro, .v, 0, 0⟩,
   ⟨Obj.hostPortConfig, .octets, 48, 2, .rwq, .n, 0, 0⟩,
   ⟨Obj.hostPortCounts, .octets, 64, 2, .ro, .v, 0, 0⟩,
   ⟨Obj.qpTable, .octets, 64, 512, .rwq, .v, 0, 0⟩,
   ⟨Obj.qpCmd, .cmd, 1, 0, .cmd, .v, 2, 0⟩,
   ⟨Obj.qpCounts, .octets, 32, 512, .ro, .v, 0, 0⟩,
   ⟨Obj.accessWindow, .octets, 32, 256, .rw, .v, 0, 0⟩,
   ⟨Obj.ringDesc, .octets, 64, 64, .rwq, .v, 0, 0⟩,
   ⟨Obj.ringCmd, .cmd, 1, 0, .cmd, .v, 2, 0⟩,
   ⟨Obj.ringState, .octets, 16, 64, .ro, .v, 0, 0⟩,
   ⟨Obj.ringPollNs, .u32, 4, 0, .rw, .n, 0, 1000⟩,
   ⟨Obj.hostEther, .octets, 32, 0, .rw, .n, 0, 0⟩,
   ⟨Obj.cdpConfig, .octets, 8, 0, .rw, .n, 0, 0⟩,
   ⟨Obj.cdpSessions, .octets, 32, 16, .ro, .v, 0, 0⟩,
   ⟨Obj.cdpCounts, .octets, 48, 0, .ro, .v, 0, 0⟩,
   ⟨Obj.windowAccess, .u8, 1, 0, .rw, .n, 0, 0⟩]

/-- The objects of groups Cxxx, ascending. -/
def objTableC : List ObjInfo :=
  [⟨Obj.marshalConfig, .octets, 16, 0, .rwq, .n, 0, 0⟩,
   ⟨Obj.stepTimeoutUs, .u32, 4, 0, .rw, .n, 0, 5000⟩,
   ⟨Obj.membership, .octets, 32, 4096, .ro, .v, 0, 0⟩,
   ⟨Obj.expelGroup, .u8, 1, 4096, .rw, .n, 0, 0⟩,
   ⟨Obj.marshalCmd, .cmd, 1, 0, .cmd, .v, 4, 0⟩,
   ⟨Obj.admitDesc, .octets, 32, 0, .rw, .v, 0, 0⟩,
   ⟨Obj.scoreConfig, .octets, 16, 0, .rw, .n, 0, 0⟩,
   ⟨Obj.recoveryState, .octets, 32, 0, .ro, .k, 0, 0⟩,
   ⟨Obj.marshalLog, .octets, 32, 256, .ro, .v, 0, 0⟩,
   ⟨Obj.logNext, .u32, 4, 0, .ro, .v, 0, 0⟩,
   ⟨Obj.guardRebuild, .octets, 16, 64, .ro, .v, 0, 0⟩,
   ⟨Obj.rebuildShare, .u8, 1, 0, .rw, .n, 0, 25⟩,
   ⟨Obj.reproMode, .bool, 1, 0, .rw, .n, 0, 0⟩,
   ⟨Obj.rngSeed, .u64, 8, 0, .rw, .n, 0, 0⟩]

/-- The objects of groups Dxxx, ascending. -/
def objTableD : List ObjInfo :=
  [⟨Obj.inputStatus, .octets, 16, 0, .ro, .v, 0, 0⟩,
   ⟨Obj.inputEvents, .bits8, 1, 0, .w1c, .s, 0, 0⟩,
   ⟨Obj.inputCounts, .octets, 32, 0, .ro, .s, 0, 0⟩,
   ⟨Obj.dipFilterUs, .u8, 1, 0, .rw, .n, 0, 5⟩,
   ⟨Obj.governorState, .octets, 32, 0, .ro, .v, 0, 0⟩,
   ⟨Obj.powerCap, .u16, 2, 0, .rw, .n, 0, 4400⟩,
   ⟨Obj.powerState, .octets, 16, 0, .ro, .v, 0, 0⟩,
   ⟨Obj.powerCmd, .cmd, 2, 0, .cmd, .v, 1, 0⟩,
   ⟨Obj.resetCmd, .cmd, 1, 0, .cmd, .v, 1, 0⟩,
   ⟨Obj.unitReset, .cmd, 1, 0, .cmd, .v, 2, 0⟩,
   ⟨Obj.lastReset, .u8, 1, 0, .ro, .v, 0, 0⟩,
   ⟨Obj.stageState, .u8, 1, 13, .ro, .v, 0, 0⟩,
   ⟨Obj.stageInfo, .octets, 32, 13, .ro, .v, 0, 0⟩,
   ⟨Obj.stageCmd, .cmd, 1, 0, .cmd, .v, 2, 0⟩,
   ⟨Obj.aosUsage, .octets, 16, 0, .ro, .v, 0, 0⟩,
   ⟨Obj.thermalStatus, .octets, 48, 0, .ro, .v, 0, 0⟩,
   ⟨Obj.thermalEvents, .bits8, 1, 0, .w1c, .s, 0, 0⟩,
   ⟨Obj.thermLimit, .u8, 1, 0, .rw, .n, 0, 100⟩,
   ⟨Obj.stackTemp, .i16, 2, 10, .ro, .v, 0, 0⟩]

/-- The objects of groups Exxx, ascending. -/
def objTableE : List ObjInfo :=
  [⟨Obj.securityState, .octets, 32, 0, .ro, .v, 0, 0⟩,
   ⟨Obj.deviceCert, .octets, 1024, 0, .ro, .f, 0, 0⟩,
   ⟨Obj.caCert, .octets, 1024, 0, .ro, .f, 0, 0⟩,
   ⟨Obj.commissionDesc, .octets, 640, 0, .rw, .v, 0, 0⟩,
   ⟨Obj.securityCmd, .cmd, 1, 0, .cmd, .v, 1, 0⟩,
   ⟨Obj.nvState, .octets, 48, 0, .ro, .v, 0, 0⟩,
   ⟨Obj.nvCmd, .cmd, 1, 0, .cmd, .v, 1, 0⟩,
   ⟨Obj.nvVerify, .octets, 8, 0, .ro, .v, 0, 0⟩,
   ⟨Obj.attestNonce, .octets, 32, 0, .rw, .v, 0, 0⟩,
   ⟨Obj.attest, .cmd, 448, 0, .cmd, .v, 1, 0⟩,
   ⟨Obj.measurement, .octets, 32, 8, .ro, .v, 0, 0⟩,
   ⟨Obj.extend, .octets, 32, 2, .wo, .v, 0, 0⟩,
   ⟨Obj.cipherStatus, .octets, 16, 64, .ro, .v, 0, 0⟩]

/-- Every object of the dictionary, ascending (R429). -/
def objTable : List ObjInfo :=
  objTable1 ++ objTable2 ++ objTable3 ++ objTable4 ++ objTable5 ++ objTable6 ++ objTable7 ++ objTable8 ++ objTable9 ++ objTableA ++ objTableB ++ objTableC ++ objTableD ++ objTableE

/-- The row of an object number, if the dictionary has one. -/
def objInfo (c : ObjCode) : Option ObjInfo := objTable.find? (fun o => o.code == c)

/-- The factory entry of CLASS_BUF (R282): GUAR and ALPHA of MGT, RSP, REQ, COL and FWD. -/
def factoryClassBuf : Nat → Nat
  | 0 => 17 + 1 * 2 ^ 32
  | 4 => 256 + 2 * 2 ^ 32
  | _ => 256 + 4 * 2 ^ 32

/-- The factory TC_KIND of a traffic class (R282: 2, 1, 1, 1, 1, 2, 3, 0). -/
def factoryTcKind : Nat → Nat
  | 0 => 2 | 5 => 2 | 6 => 3 | 7 => 0 | _ => 1

/-- The factory MARK_THRESHOLD of a buffer class (R284: 0, 0, 128, 512, 256). -/
def factoryMark : Nat → Nat
  | 2 => 128 | 3 => 512 | 4 => 256 | _ => 0

/-- The factory node entry (R301): WAKE 1, shapers off, with a PRIO and a QUANTUM. -/
def factoryNode (prio quantum : Nat) : Nat := prio + 4 + quantum * 2 ^ 32

/-- The factory CRC-32C parameters of a check-value unit (R390). -/
def factoryCvu : Nat :=
  32 + 2 ^ 7 + 2 ^ 8 + 0x1EDC6F41 * 2 ^ 64 + 0xFFFFFFFF * 2 ^ 128 + 0xFFFFFFFF * 2 ^ 192

/-- The factory SCORE_CONFIG (R474). -/
def factoryScore : Nat :=
  1 + 0 * 2 ^ 8 + 16 * 2 ^ 16 + 64 * 2 ^ 24 + 64 * 2 ^ 32 + 192 * 2 ^ 48 + 1 * 2 ^ 56 + 60 * 2 ^ 64 + 2 * 2 ^ 80

/-- The factory QP_TABLE entry of a queue pair (R396). -/
def factoryQp (q : Nat) : Nat :=
  (0x100 + q) * 2 ^ 8 + 26 * 2 ^ 240 + 2 * 2 ^ 304 + 7 * 2 ^ 306 + 7 * 2 ^ 309 + 14 * 2 ^ 312

/-- The objects whose factory default is one value other than 0 for every entry. -/
def factoryConst : List (ObjCode × Nat) :=
  [(Obj.portPresent, 18446744073709551615),
   (Obj.waitLimitDefault, 4194304),
   (Obj.sramScrubPeriod, 3600),
   (Obj.hbmScrubPeriod, 43200),
   (Obj.ddrScrubPeriod, 86400),
   (Obj.deviceId, 65535),
   (Obj.deadlineNs, 4000),
   (Obj.replayAfterNs, 8000),
   (Obj.abandonAfterUs, 64),
   (Obj.coreReqTc, 1),
   (Obj.streamTc, 1),
   (Obj.portConfig, 1),
   (Obj.headroomLimit, 196608),
   (Obj.portDamp, 3932164),
   (Obj.classChecked, 31),
   (Obj.fwdAgeNs, 100000),
   (Obj.hopInit, 32),
   (Obj.flowKey, 2),
   (Obj.arenaScrubPeriod, 3600),
   (Obj.cleCvus, 12),
   (Obj.ringPollNs, 1000),
   (Obj.stepTimeoutUs, 5000),
   (Obj.rebuildShare, 25),
   (Obj.dipFilterUs, 5),
   (Obj.powerCap, 4400),
   (Obj.thermLimit, 100)]

/-- The factory default of an entry (R15: the Default column): what an entry reads that `State.objs` does not list.
The values are in window byte order, as one number, bit 0 the least significant. -/
def factory (c : ObjCode) (i : Nat) : Nat :=
  if c = Obj.tcKind then factoryTcKind i
  else if c = Obj.classBuf then factoryClassBuf i
  else if c = Obj.markThreshold then factoryMark i
  else if c = Obj.portNode then factoryNode 0 0
  else if c = Obj.classNode then factoryNode (if factoryTcKind (i % 8) = 0 then 0 else 1) 16384
  else if c = Obj.groupNode then factoryNode 0 16384
  else if c = Obj.flowTable then
    (if i < 512 then 1 + 4 + (i / 8) * 2 ^ 3 + (i % 8) * 2 ^ 9 + 16384 * 2 ^ 48 else 16384 * 2 ^ 48)
  else if c = Obj.collTimeout then 20000 + 100000 * 2 ^ 32
  else if c = Obj.cvuParams then factoryCvu
  else if c = Obj.poolConfig then 2 ^ 192
  else if c = Obj.hostEther then 0x88B5 * 2 ^ 8 + 0x88B6 * 2 ^ 24
  else if c = Obj.cdpConfig then 3 + 60 * 2 ^ 16
  else if c = Obj.qpTable then factoryQp i
  else if c = Obj.scoreConfig then factoryScore
  else if c = Obj.maskRegs ∧ i % 8 = 0 then 2 ^ 4096 - 1
  else ((factoryConst.find? (fun p => p.1 == c)).map (·.2)).getD 0


end Sys2Proof.Machine
end

