-- ==== Sys2Proof/Machine/State.lean ====
section
/-! DEFINITION. The state of the module: everything the spec gives it, as plain data, and the state after reset. Objects
of the dictionary are held once, in `objs`; what has no object number is a field of its own. -/

namespace Sys2Proof.Machine

/-- What manufacture fixes of a module (R1, R2): the grade code, the labels, which cores and HBM controllers exist, the
device certificates and the device's own secrets. -/
structure Ident where
  grade : Nat
  partNumber : Nat
  serial : Nat
  corePresent : Nat
  hbmPresent : Nat
  deviceCert : Nat
  caCert : Nat
  deviceSecret : Nat
  firmware : Nat × Nat × Nat
  deriving DecidableEq, Repr

/-- The 16 bytes of an ASCII label, padded with zeros (R2), as a code. -/
def labelCode (s : String) : Nat :=
  leCode (fitBytes 16 (s.toList.map fun c => BitVec.ofNat 8 c.toNat))

/-- A UDX-J96-M with every unit of its grade (R1). The per-module labels and certificates are DESIGN CHOICE values (log
entry 1). -/
def Ident.j96 : Ident :=
  { grade := 1, partNumber := 0x4D2D36394A2D584455, serial := 0, corePresent := 2 ^ 96 - 1,
    hbmPresent := 2 ^ 24 - 1, deviceCert := 0, caCert := 0, deviceSecret := 0, firmware := (0, 0, 0) }

/-- The addressing of a message sent on a host port (R391, R396): the VLAN tag if the port carries one, the MAC addresses, and
for a queue pair's message the host's IP address, queue pair number and the DSCP. -/
structure HostHead where
  vlan : Option Nat
  srcMac : Nat
  dstMac : Nat
  ip : Nat
  dscp : Nat
  remoteQp : Nat
  deriving DecidableEq, Repr

/-- What the module sends to the outside world. -/
inductive Out
  /-- A frame handed to the Track by a local endpoint (R20, R185). -/
  | frame (f : Frame)
  /-- A frame that the CLE injects on one of its channels, 76 or 77 (R365). -/
  | channel (n : Nat) (f : Frame)
  /-- A frame delivered whole to a local endpoint (R262, R274): the endpoint's code and the frame. -/
  | deliver (endpoint : Nat) (f : Frame)
  /-- A block sent on a fabric port (R227). -/
  | block (port : Nat) (kind : Nat) (body : List Byte)
  /-- A reply of the dictionary engine (R416): the transport's source and the message bytes. -/
  | reply (source : Nat) (bytes : List Byte)
  /-- An Ethernet or RoCEv2 message sent on a host port (R391), with the addressing of its frames. -/
  | host (port : Nat) (kind : Nat) (qp : Nat) (head : HostHead) (bytes : List Byte)
  /-- A request over the stack network to a slice of this module (R22). -/
  | stack (slice : Nat) (f : Frame)
  /-- A link-local MGT frame offered to the Track at channel 79, with the fabric port it is to leave by (R21, R266). -/
  | linkLocal (port : Nat) (f : Frame)
  /-- The sideband block read over the management pins, with its PEC (R523). -/
  | sideband (bytes : List Byte) (pec : Byte)
  /-- A sideband transfer answered with a NACK (R523). -/
  | sidebandNack
  /-- The answer to a write of an object, without the transport's envelope (R421). -/
  | status (code : Nat)
  deriving DecidableEq, Repr

/-- Where the module is in its start (R476, R478, R499, R506, R507, R522): without supplies; held by RESET_n before step 3;
at step 1 of R506 (the ROM starts); at step 3 (the AOP runs); filling its memories; up; or in RECOVERY. -/
inductive Boot
  | off | held | rom | aop | fill | up | recovery
  deriving DecidableEq, Repr

/-! ### Compute cores (spec/03_core_sequencer.md, spec/04_matrix_and_vector_engines.md) -/

/-- Why a core's sequencer issues no more commands (R84, R105). -/
inductive IssueStop
  | running | ended | truncated (detail : Nat) | halted
  deriving DecidableEq, Repr

/-- What the sequencer waits for in the middle of a command (R84, R89, R536). -/
inductive SqPhase
  | waitSel | sqWait | drain | room
  deriving DecidableEq, Repr

/-- The sequencer's waiting point: the phase, the flag and count it needs, what it takes of the flag (nothing with KEEP), the
limit and the strides counted (R96); and the flag that the command's WAIT_SEL has taken from before this point, 0 where it
has none (R536). -/
structure SqWait where
  phase : SqPhase
  flag : Nat
  need : Nat
  take : Nat
  limit : Nat
  waited : Nat
  taken : Nat
  deriving DecidableEq, Repr

/-- A command issued and not yet dispatched (R83 to R86). `gap` is the g of R86, `waited` the strides of R96. -/
structure QCmd where
  engine : Nat
  word : Nat
  ord : Nat
  pos : Nat
  void : Bool
  gap : Nat
  waited : Nat
  deriving DecidableEq, Repr

/-- A place a command reads: a TM range, a tile register, a mask register, an accumulator set. -/
inductive Place
  | tm (off len : Nat)
  | tile (t : Nat)
  | mask (m : Nat)
  | set (k : Nat)
  deriving DecidableEq, Repr

/-- One accumulator of a set: the exact accumulator of an EXACT chain (R56, R58), or the running FP32 value of a TREE
chain, none where the chain is empty (R59). -/
structure Acc where
  exact : ExactAcc
  tree : Option Code
  deriving DecidableEq, Repr

/-- An input of a command in flight: the place, the last stride of its read window (R130), the content read from it as
one code, and the accumulators where the place is a set. -/
structure Input where
  place : Place
  last : Nat
  content : Nat
  accs : List Acc
  deriving DecidableEq, Repr

/-- A paced command between its dispatch and the end of its result latency (R98, R130): the stride of its result, its
inputs, whether a clear of its accumulator set fell into its flight (R115), and the random seed and logical rank that it
read at dispatch (R470). -/
structure Flight where
  cmd : QCmd
  dispatch : Nat
  due : Nat
  inputs : List Input
  clash : Bool
  seed : Nat
  rank : Option Nat
  deriving DecidableEq, Repr

/-- A dispatched LDE or FXE command that has not completed (R99): how many of its GMU requests have not ended, and whether
one of them ended with another status than OK (R192). -/
structure VarCmd where
  cmd : QCmd
  left : Nat
  failed : Bool
  deriving DecidableEq, Repr

/-- An accumulator set with its chain state (R113): family 0 none, 1 EXACT, 2 TREE; products accumulated; whether the K
of the last MMA was a multiple of 32; the 4,096 accumulators, an empty list standing for a cleared set. -/
structure AccSet where
  family : Nat
  count : Nat
  last32 : Bool
  accs : List Acc
  deriving DecidableEq, Repr

/-- The cleared set. -/
def AccSet.clear : AccSet := ⟨0, 0, true, []⟩

/-- What a core holds beside its dictionary objects; `ahead` are the strides that its commands have carried it past the time
of the reference counter (R7; log entry 6). -/
structure CoreSt where
  descAddr : Nat
  streamAddr : Nat
  streamLen : Nat
  truncAt : Nat
  waitLimit : Nat
  launchStride : Nat
  lastIssue : Option Nat
  stop : IssueStop
  lastPos : Nat
  sq : Option SqWait
  paceGap : Nat
  paced : List QCmd
  lde : List QCmd
  fxe : List QCmd
  flights : List Flight
  varCmds : List VarCmd
  lastDispatch : Option Nat
  mxeFree : Nat
  vxeFree : Nat
  rkeFree : Nat
  ac0 : AccSet
  ac1 : AccSet
  areg : List Nat
  icache : KMap Nat
  incNow : KMap Nat
  decNow : List Nat
  rkeOut : Nat
  windowStart : Nat
  ahead : Nat
  deriving DecidableEq, Repr

/-- A core as reset leaves it. -/
def CoreSt.init : CoreSt :=
  { descAddr := 0, streamAddr := 0, streamLen := 0, truncAt := 0, waitLimit := 0, launchStride := 0, lastIssue := none,
    stop := .ended, lastPos := 0, sq := none, paceGap := 1, paced := [], lde := [], fxe := [], flights := [],
    varCmds := [], lastDispatch := none, mxeFree := 0, vxeFree := 0, rkeFree := 0, ac0 := .clear, ac1 := .clear,
    areg := List.replicate 16 0, icache := [], incNow := [], decNow := [], rkeOut := 0, windowStart := 0, ahead := 0 }

/-- What a RAKE or RMASK will write (R145, R149, R153): codes of the rows of the compacted area and the record, as TM
offset, bytes and code; the record's place, last of all; the status word of an RMASK; and what enters the totals: OVER,
OOR, MALFORMED and OUTSIDE. -/
structure RakeOut where
  writes : List (Nat × Nat × Nat)
  status : Nat
  overs : Nat
  oor : Nat
  malformed : Nat
  outside : Nat
  deriving DecidableEq, Repr

/-- A command handed to a shared Rake engine, with the engine's stride of its arrival (R150). -/
structure RkeJob where
  core : Nat
  cmd : QCmd
  arrival : Nat
  deriving DecidableEq, Repr

/-- An RKE command in service (R150): the stride of its result, the TM ranges it reads, what of them has been written
meanwhile (R151; offset, bytes and the bits written), and what it will write. -/
structure RkeRun where
  job : RkeJob
  due : Nat
  places : List Place
  raced : List (Nat × Nat × Nat)
  result : RakeOut
  deriving DecidableEq, Repr

/-- A shared Rake engine: the commands of its two cores in order of service, those in service, the stride at which its
occupancy ends, the stride count of its own ring, the count at the start of the current rate window (R80, R150, R155), and
the strides by which it is ahead of the reference counter (R7). -/
structure RkeSt where
  queue : List RkeJob
  runs : List RkeRun
  busyUntil : Nat
  stride : Nat
  windowStart : Nat
  ahead : Nat
  deriving DecidableEq, Repr

/-- A Rake engine as reset leaves it. -/
def RkeSt.init : RkeSt := { queue := [], runs := [], busyUntil := 0, stride := 0, windowStart := 0, ahead := 0 }

/-! ### Local memory (spec/06_local_memory_tiers.md) and the ranges the Guard takes (R213) -/

/-- The two ranges that Guard descriptors take (R213): mapped as ordinary memory, held, or being filled with zeros before
they are mapped again. -/
inductive GuardRanges
  | free | held | releasing
  deriving DecidableEq, Repr

/-- A DIMM copy in progress, beside DRAIN_PROGRESS (R173, R181): the length in blocks, the target and the share, as the
descriptor held them when the copy was accepted. -/
structure DimmCopy where
  len : Nat
  target : Nat
  share : Nat
  deriving DecidableEq, Repr

/-- A recalibration (R170 to R172, R180) of one controller: whether it holds traffic and since when, whether a request of
3300.02 is still to be done, when it last ran, and at what temperature (units of 0.01 degrees, as a two's-complement code
of 32 bits); and when the corrections of an HBM4 stack's own code were last read (R166). -/
structure RecalSt where
  holding : Bool
  wanted : Bool
  start : Nat
  last : Nat
  temp : Nat
  polled : Nat
  deriving DecidableEq, Repr

/-- A controller as reset leaves it. -/
def RecalSt.init : RecalSt := { holding := false, wanted := false, start := 0, last := 0, temp := 0, polled := 0 }

/-- The patrol of one memory (R167): the codeword that it reads next, and the time before which the next round does not
begin. -/
structure Patrol where
  next : Nat
  since : Nat
  deriving DecidableEq, Repr

/-- A patrol as reset leaves it. -/
def Patrol.init : Patrol := ⟨0, 0⟩

/-- A hot-plug bay whose supply ramps up (R486): the power reserved for it in units of 0.5 W, and when the ramp began; none
while it still waits for the governor. -/
structure Ramp where
  power : Nat
  began : Option Nat
  deriving DecidableEq, Repr

/-! ### The global memory units (spec/07_global_memory_space.md) -/

/-- What a GMU request was made for: a command of a core (its ordinal), with the global address that a COPY's data go on
to; the PDELTA to parity member `parity` (0 plain, 1 weighted) of the Guard store `id` (descriptor x 2^32 + WRITE_ID) that
stream `ctx` waits for; a PCLOSE of a descriptor; a PDELTA or FENCE of a roll forward; a FENCE of GSTREAM while a group quiesces; the reset of a stream entry; a host request. -/
inductive ReqOwner
  | core (n ord : Nat)
  | copy (n ord target : Nat)
  | guard (ctx parity id : Nat)
  | close (desc : Nat)
  | roll (desc : Nat)
  | quiet (desc : Nat)
  | reset (entry : Nat)
  | host (id : Nat)
  deriving DecidableEq, Repr

/-- A GMU request at its requester (R186, R189, R195): what it asks, the tile memory of its core that it reads or fills,
its slice and tag, its place in its stream, when it was first and last sent, and whether its stream was cut meanwhile. -/
structure GReq where
  owner : ReqOwner
  op : Nat
  addr : Nat
  len : Nat
  aop : Nat
  atype : Nat
  opnd : Nat
  ord : Bool
  stream : Nat
  release : Bool
  tc : Nat
  tm : Nat
  payload : List Byte
  slice : Nat
  tag : Nat
  entry : Nat
  seq : Nat
  gen : Nat
  first : Nat
  last : Nat
  cut : Bool
  deriving DecidableEq, Repr

/-- What a source stream entry holds beside SRC_STREAMS (R195, R197): whether it carries PDELTA, and how often and when
last the FENCE of its reset was sent. -/
structure SrcSt where
  guard : Bool
  resetSends : Nat
  resetLast : Nat
  deriving DecidableEq, Repr

/-- A source stream entry as reset leaves it. -/
def SrcSt.init : SrcSt := ⟨false, 0, 0⟩

/-- A Guard store of a data member between its arrival and its completion (R211): the request, the descriptor and stripe,
its WRITE_ID, the old and new bytes, the phase (0 waiting for its stripe, 1 its deltas are formed in an SU, 2 waiting for
the parity replies, 3 both are there), the parity replies that are OK, a status that
ended it otherwise, and the outcome of the read of the old bytes. -/
structure GuardStore where
  frame : Frame
  desc : Nat
  stripe : Nat
  wid : Nat
  old : List Byte
  phase : Nat
  replied : List Nat
  failed : Option Nat
  ecc : Ecc
  deriving DecidableEq, Repr

/-- An entry of the delta log (R212): WRITE_ID, the descriptor, the data symbol, the byte offset in the range, the payload. -/
structure DeltaEntry where
  wid : Nat
  desc : Nat
  symbol : Nat
  off : Nat
  payload : List Byte
  deriving DecidableEq, Repr

/-- What a destination context holds beside DST_STREAMS (R194, R212): whether its gap has been told, the replies of
the last 64 requests (sequence number, status, old value), the delta log, and the Guard store that it waits for. -/
structure DstSt where
  gapTold : Bool
  ring : List (Nat × Nat × Nat)
  log : List DeltaEntry
  store : Option GuardStore
  deriving DecidableEq, Repr

/-- A context as reset leaves it. -/
def DstSt.init : DstSt := ⟨false, [], [], none⟩

/-- A rebuilt stripe whose check is still to come (R465, R466): the stripe, the surviving symbols and the check entries that
were read, and whether it has been decoded for the second time. -/
structure Trial where
  stripe : Nat
  symbols : List (Nat × List Byte)
  checks : List (Nat × Nat)
  second : Bool
  deriving DecidableEq, Repr

/-- What a Guard descriptor's group holds beside GUARD_DESC and GUARD_STATE (R210, R212, R215, R463 to R466): the next WRITE_ID,
the symbols lost, whether this member's own symbol is to be rebuilt here, the stripes rebuilt, whether a lost rank is
vacant, the PCLOSEs of its stores that have not been answered, and the open deltas of lost data members that this parity
member holds while it rolls them forward, the rebuilt stripe whose check is still to come, and the controller whose share of
time its last background stripe uses and until when. -/
structure GuardSt where
  nextWid : Nat
  lost : List Nat
  missing : Bool
  done : List Nat
  vacant : Bool
  closes : Nat
  rolled : List DeltaEntry
  trial : Option Trial
  shareOn : Option Nat
  shareEnd : Nat
  deriving DecidableEq, Repr

/-- A group as ACTIVATE leaves it. -/
def GuardSt.init : GuardSt := ⟨0, [], false, [], false, 0, [], none, none, 0⟩

/-! ### The Track and the traffic manager (spec/09_switch_core.md, spec/10_traffic_manager.md) -/

/-- A frame in the cell buffer (R246, R252): a number that rises in the order in which headers arrived, its ingress
position, header and payload as far as they have arrived, its buffer class, the bank of every cell written, whether its
last cell is written, whether it has been looked up, whether it was dropped or abandoned, when it arrived, and how many of
its cells have been released. -/
structure TrackFrame where
  id : Nat
  ingress : Nat
  hdr : Nat
  payload : List Byte
  cls : Nat
  banks : List Nat
  complete : Bool
  looked : Bool
  dropped : Bool
  aborted : Bool
  freed : Nat
  deriving DecidableEq, Repr

/-- A copy of a frame at an egress position (R255, R272): the frame's number, the position, the header it leaves with,
whether it is a multicast copy, its flow once it has one (`queued`), its place among the copies that the TMG has picked,
the cells read into staging, the cells sent, whether it has begun to leave, and when it was queued. -/
structure TrackCopy where
  frame : Nat
  egress : Nat
  hdr : Nat
  mcast : Bool
  queued : Bool
  flow : Nat
  pick : Option Nat
  staged : List Nat
  sent : Nat
  began : Bool
  time : Nat
  deriving DecidableEq, Repr

/-- A shaper's or policer's buckets (R295, R296): token counts in units of 2^-20 byte and the time of the last refill. An
unlisted one is full. -/
structure Bucket where
  tc : Int
  tp : Int
  last : Nat
  deriving DecidableEq, Repr

/-- A mirror copy that waits at the mirror endpoint (R277). -/
structure MirrorCopy where
  session : Nat
  bytes : List Byte
  deriving DecidableEq, Repr

/-- A mirror copy of a frame that has departed and whose last cell is not yet written (R256, R277): the frame, the header as
it left, how many of its bytes are copied, the session, the prefix. -/
structure MirrorHeld where
  frame : Nat
  hdr : Nat
  keep : Nat
  session : Nat
  pre : List Byte
  deriving DecidableEq, Repr

/-- A CELL block in a replay buffer (R230): its number, class, the time it was last sent, and its body in clear. -/
structure StoredCell where
  seq : Nat
  cls : Nat
  time : Nat
  body : List Byte
  deriving DecidableEq, Repr

/-- The link layer and training of a fabric port beside its objects (R227 to R243, R514 to R516): the sequence number of
the next CELL and the one expected, the replay buffer, the OFF classes the peer shows, whether this end asks for replay,
the oldest block of the last replay, its time and how many replays in a row began with it, the number of SCRATCH blocks in
a row, the time of the last periodic loop probe, the loop measurements of this training; the step of training (0 none yet,
1 the last attempt failed, 2 to 5 the steps of R238, 6 ready, 7 key agreement), when the attempt and its step began; the
times of the counted downs; whether check 4 runs and whether its passing classifies a down as outside; whether a FENCE
holds the port; and the cipher: whether keys are agreed, the keys of the two directions, the counter of the group being
sent, the bodies of that group, the class and body of the cells received in the group not yet closed; the ACK, NAK and XOFF
of the last block sent, as `State.linkCode` codes them (0 none yet); and when the present second of the symbol error ratio
began (R241). -/
structure PortSt where
  nextSeq : Nat
  expect : Nat
  stored : List StoredCell
  peerXoff : Nat
  nakOut : Bool
  replayFrom : Option Nat
  replayTime : Nat
  replayRow : Nat
  scratchRow : Nat
  probe : Nat
  loops : List Nat
  step : Nat
  attempt : Nat
  stepAt : Nat
  downs : List Nat
  checking : Bool
  judge : Bool
  fenced : Bool
  keyed : Bool
  keyOut : Nat
  keyIn : Nat
  groupOut : Nat
  openOut : List (List Byte)
  openIn : List (Nat × List Byte)
  shown : Nat
  second : Nat
  deriving DecidableEq, Repr

/-- A port as reset leaves it: ACK starts at 4,095, so the first CELL has number 0 (R230). -/
def PortSt.init : PortSt :=
  { nextSeq := 0, expect := 0, stored := [], peerXoff := 0, nakOut := false, replayFrom := none, replayTime := 0,
    replayRow := 0, scratchRow := 0, probe := 0, loops := [], step := 0, attempt := 0, stepAt := 0, downs := [],
    checking := false, judge := false, fenced := false, keyed := false, keyOut := 0, keyIn := 0, groupOut := 0,
    openOut := [], openIn := [], shown := 0, second := 0 }

/-! ### Buffer pools, check-value units, the scan engine (spec/13_buffer_pools_and_check_values.md) -/

/-- A pool beside POOL_CONFIG and POOL_STATE (R370, R377): the buffer at the head of the free list, none at its end; the
CRUST flag; the number of INITs; and the entries into SKIM and into DRY since INIT, which R377 counts and no object shows
(those into CRUST are in POOL_COUNTS). -/
structure PoolSt where
  head : Option Nat
  crust : Bool
  inits : Nat
  skims : Nat
  dries : Nat
  deriving DecidableEq, Repr

/-- A pool that has not been initialised. -/
def PoolSt.init : PoolSt := ⟨none, false, 0, 0, 0⟩

/-- A feed of a CVU (R383). -/
structure Feed where
  addr : Nat
  len : Nat
  start : Bool
  finish : Bool
  deriving DecidableEq, Repr

/-- A CVU beside its objects: the feeds in order, the one in progress first (R383, R384). -/
structure CvuSt where
  feeds : List Feed
  deriving DecidableEq, Repr

/-- A CVU as reset leaves it. -/
def CvuSt.init : CvuSt := ⟨[]⟩

/-- Whose a scan job is: yours, with its queue entry (R385); the fill that releases the Guard ranges (R213); the CHECK of a
rebuilt stripe of a Guard descriptor (R387, R465). -/
inductive ScanOwner
  | queue (entry : Nat)
  | guardFill
  | verify (desc : Nat)
  deriving DecidableEq, Repr

/-- A scan job that waits or runs (R385, R387): its owner; its descriptor; whether it runs; and the CVU it uses, none for a
FILL of yours. -/
structure ScanJob where
  owner : ScanOwner
  desc : Nat
  running : Bool
  cvu : Option Nat
  deriving DecidableEq, Repr

/-! ### Stream units (spec/11_stream_programs.md) -/

/-- A frame in a baton slot that waits for its run (R309, R310). -/
structure SuFrame where
  slot : Nat
  ingress : Nat
  frame : Frame
  deriving DecidableEq, Repr

/-- One run of a merge context (R328): the source rank, whether it has ended, and its last record. -/
structure MergeRun where
  rank : Nat
  ended : Bool
  last : Option Nat
  deriving DecidableEq, Repr

/-- An open record (R321, R323, R324, R328): its slot and key; the primitive (0 RSUM, 1 GATH, 2 MERGE) and its parameters;
the baton slots it occupies; the ranks seen and the number done; the FP32 sums of ORDERED and FAST; the exact sums; the
payloads held or gathered, by rank; the runs of a merge, and its records with their ranks, in merge order. -/
structure SuRec where
  slot : Nat
  key : Nat
  params : List Nat
  bufs : Nat
  seen : List Nat
  done : Nat
  acc : List Nat
  exact : List ExactAcc
  parts : List (Nat × List Byte)
  runs : List MergeRun
  recs : List (Nat × Nat)
  deriving DecidableEq, Repr

/-- A frame that an RSUM ORDERED holds (R312, R321): its slot, the record's key, its rank there, and the number of the run that
took it. A frame that stands in two records of one run has one baton slot. -/
structure SuHold where
  slot : Nat
  key : Nat
  rank : Nat
  run : Nat
  deriving DecidableEq, Repr

/-- A run in progress (R311): its slot, the input frame and ingress position, the working payload, the output header, the
output buffer (bytes that are not zero), registers G1 to G47, the next instruction, the instructions executed, the SU
cycles spent, its number among the unit's runs, and the seed, rank and free counter of its random bits (R470). -/
structure SuRun where
  slot : Nat
  ingress : Nat
  frame : Frame
  payload : List Byte
  ohdr : Nat
  out : List Host.Cell
  regs : KMap Nat
  pc : Nat
  executed : Nat
  cycles : Nat
  id : Nat
  seed : Nat
  rank : Option Nat
  free : Nat
  deriving DecidableEq, Repr

/-- A stream unit: the frames that wait, in order; the run in progress; G48 to G63 of its slots under 64 x slot + register;
the open records; what the host has written to its bitmap memory during the run, a clear or bytes at an offset (R320); the
frames that records hold; and the number of the next run. -/
structure SuSt where
  waiting : List SuFrame
  run : Option SuRun
  kept : KMap Nat
  recs : List SuRec
  later : List (Option (Nat × List Byte))
  holds : List SuHold
  nextRun : Nat
  deriving DecidableEq, Repr

/-- A stream unit as reset leaves it. -/
def SuSt.init : SuSt := ⟨[], none, [], [], [], [], 0⟩

/-! ### Collectives (spec/12_collectives.md) -/

/-- A chunk being assembled from its parts (R351, R354, R361): its source (the member rank of a contribution, 4,096 for a
result, 4,097 + rank for a DIRECT chunk), the chunk's global number (or its index within a pair), the try expected, the parts received with their headers, and when the first came. -/
structure Assembly where
  seq : Nat
  chunk : Nat
  rank : Nat
  try_ : Nat
  parts : List (Nat × Nat × List Byte)
  since : Nat
  deriving DecidableEq, Repr

/-- A collective of a member (R343, R356, R358): sequence number, epoch, descriptor, its first global chunk number and how many
it has, the count table of an ALL_TO_ALLV (bytes sent to and received from each member), contribution chunks handed and sent,
the chunks received, the chunks that failed once, the time of the last send, grant or retry of a chunk, retries asked and
chunks written, the ring command it came from, when it started; for an exchange the chunks each receiver has granted, the
receivers that have ended their pair, the place in the receiving order, and the chunks of that pair granted and received. -/
structure CollSt where
  seq : Nat
  epoch : Nat
  desc : Nat
  first : Nat
  count : Nat
  table : List (Nat × Nat)
  handed : Nat
  sent : Nat
  got : List Nat
  failed : List Nat
  times : KMap Nat
  retries : Nat
  written : Nat
  ring : Option Nat
  start : Nat
  granted : KMap Nat
  ended : List Nat
  recv : Nat
  recvGranted : Nat
  recvGot : List Nat
  deriving DecidableEq, Repr

/-- A chunk at a reduction point (R351 to R353): the operation, the parts every contribution must have, the ranks taken, and
the result parts that are there. -/
structure RpChunk where
  seq : Nat
  gchunk : Nat
  op : Nat
  lens : List Nat
  taken : List Nat
  results : List (Nat × List Byte)
  deriving DecidableEq, Repr

/-- A context of the CLE (R337): the descriptor and tables as SETUP took them, the pool buffers and SU slots, the collectives
of a member in order, chunks being assembled, frames of a collective not yet started here; and at a reduction point the
chunks, the first digest of each SEQ, the first global chunk seen of each SEQ, the retained results (SEQ, chunk, parts), whether an ABORT has been multicast; and the frames that wait for their turn on its channel. -/
structure CtxSt where
  desc : Nat
  members : List Nat
  rps : List Nat
  bufs : List Nat
  slots : List Nat
  colls : List CollSt
  parts : List Assembly
  early : List Frame
  chunks : List RpChunk
  digests : KMap (Option Nat)
  firsts : KMap (Option Nat)
  retained : List (Nat × Nat × List (List Byte))
  aborted : Bool
  outbox : List Frame
  deriving DecidableEq, Repr

/-- A free context. -/
def CtxSt.init : CtxSt := ⟨0, [], [], [], [], [], [], [], [], [], [], [], false, []⟩

/-! ### The host ports, queue pairs and rings (spec/14_host_attachment_and_dictionary.md) -/

/-- What the module must still do for a host request of a queue pair, or has done (R398 to R401): a number of its own, the
kind (0 WRITE, 1 READ, 2 ATOMIC, 3 SEND), its PSN, the bytes it covers, the GMU requests not yet issued, how many requests
have not ended, whether one ended with another status than OK, the bytes read, and the NAK it is to be answered with. -/
structure HostOp where
  id : Nat
  kind : Nat
  psn : Nat
  addr : Nat
  len : Nat
  reqs : List GReq
  left : Nat
  failed : Bool
  got : List (Nat × List Byte)
  nak : Option Nat
  deriving DecidableEq, Repr

/-- A request that the module has sent to a host (R394, R406, R409): its PSN, what it is for (0 a read of PI, 1 a read of
commands, 2 a write), its ring, host address, length or data, when it was last sent, and how often it has been sent again
after a timeout and after Receiver Not Ready. -/
structure HostReq where
  psn : Nat
  what : Nat
  ring : Nat
  addr : Nat
  len : Nat
  data : List Byte
  sent : Nat
  tries : Nat
  rnr : Nat
  deriving DecidableEq, Repr

/-- A queue pair beside QP_TABLE (R395, R396, R401, R403): the copy of its entry, the PSN expected and the PSN to send next,
the SENDs since CONNECT, the host requests taken since CONNECT and those not yet answered, the requests of its own not yet
acknowledged, the old values of its latest atomics by PSN, when a CNP was last sent, the send rate in bit/s and when it last
changed. -/
structure QpSt where
  entry : Nat
  expect : Nat
  next : Nat
  sends : Nat
  made : Nat
  ops : List HostOp
  reqs : List HostReq
  atomics : List (Nat × List Byte)
  cnpSent : Option Nat
  rate : Nat
  rateAt : Nat
  deriving DecidableEq, Repr

/-- A queue pair that has never been connected; the line rate is 400 Gbit/s (R391). -/
def QpSt.init : QpSt := ⟨0, 0, 0, 0, 0, [], [], [], none, 400000000000, 0⟩

/-- What a started ring command waits for (R413): a core's run, its collective, its power request; or nothing: it has a
status of R412 and a RESULT. -/
inductive RingWait
  | core (n : Nat)
  | coll
  | power
  | done (status result : Nat)
  deriving DecidableEq, Repr

/-- A ring command that has started (R408, R409): its number, OP and USER, what it waits for, and whether its record will
never be written (R414). -/
structure RingRun where
  n : Nat
  op : Nat
  user : Nat
  wait : RingWait
  silent : Bool
  deriving DecidableEq, Repr

/-- A ring beside its objects (R406): its descriptor as START found it, when PI was last read, whether a read is out, the commands read and not started with
their numbers, those started, and whether its queue pair has left READY since START (R414). -/
structure RingSt where
  desc : Nat
  polled : Option Nat
  reading : Bool
  queue : List (Nat × Nat)
  runs : List RingRun
  silent : Bool
  deriving DecidableEq, Repr

/-- A ring that has never run. -/
def RingSt.init : RingSt := ⟨0, none, false, [], [], false⟩

/-! ### Power states (spec/16_power_energy_states_resets.md) -/

/-- An entry into REST or DEEP REST in progress (R493 to R495): the state asked for, the ring command that asked (none:
POWER_CMD), whether it waits for Marshal, the last abort point passed, and the wakes that wait: the state each names and
the ring command that asked for it. -/
structure PowerEntry where
  target : Nat
  ring : Option Nat
  waiting : Bool
  point : Nat
  wakes : List (Nat × Option Nat)
  deriving DecidableEq, Repr

/-! ### Security, the NV image and CDP (spec/14_host_attachment_and_dictionary.md, spec/17_security_and_images.md) -/

/-- What the module knows of the standby firmware slot or NV bank (R437, R439, R507): nothing, erased, written or verified. -/
inductive Standby
  | unknown | erased | written | verified
  deriving DecidableEq, Repr

/-- A CDP session (R422, R423, R510): the session key, whether it is finished, whether it was opened with the owner key,
whether it was opened in FACTORY, the confirmation S1 expected, when it was opened, when its last request came, the
transport and address of its client, the highest SEQ performed and the last 64 replies with their SEQ, the newest first. -/
structure Session where
  key : Nat
  finished : Bool
  owner : Bool
  factory : Bool
  s1 : Nat
  since : Nat
  last : Nat
  via : Nat
  peer : Nat
  high : Nat
  cache : List (Nat × List Byte)
  deriving DecidableEq, Repr

/-- A source without a session (R423): its transport and address, the highest SEQ performed (none before the first) and the
last 64 replies, the newest first. -/
structure CdpSource where
  via : Nat
  peer : Nat
  high : Option Nat
  cache : List (Nat × List Byte)
  deriving DecidableEq, Repr

/-! ### Marshal (spec/15_failure_recovery_reproducibility.md) -/

/-- What the manager and the standby keep of a module beside MEMBERSHIP (R446, R452 to R457, R468): when its last heartbeat
came and whether one has come at all, misses, whether it is suspect and since when probed, when it was cleared, whether the probe has been relayed, whether
its ID is a rank ID, the membership state to go back to, the bits of its last HEARTBEAT, the peers of its last REPORT, the
events charged to it in this window by kind 1 to 4, its own kinds 5 and 7, and a query for DEEP REST: the neighbours that
have not answered, whether one has answered 1, and when it was sent. -/
structure Watch where
  beat : Nat
  known : Bool
  misses : Nat
  suspect : Bool
  probe : Option Nat
  relayed : Bool
  cleared : List Nat
  rank : Bool
  back : Nat
  repro : Bool
  resting : Bool
  peers : List Nat
  charge : List Nat
  own : Nat
  busy : Nat
  restWait : List Nat
  restBusy : Bool
  restAt : Option Nat
  deriving DecidableEq, Repr

/-- A module of which nothing is known. -/
def Watch.init : Watch :=
  { beat := 0, known := false, misses := 0, suspect := false, probe := none, relayed := false, cleared := [], rank := false, back := 0,
    repro := false, resting := false, peers := [], charge := [0, 0, 0, 0], own := 0, busy := 0, restWait := [],
    restBusy := false, restAt := none }

/-- What Marshal holds beside its objects: the role, manager and standby in force (R440, R449); the number of the next
message (R443); when HEARTBEAT, REPORT and HELLO were last sent; the steps performed in the epoch of RECOVERY_STATE (R460);
whether a STEP_ACK of QUIET is still to be sent; the devices to which streams are HELD (R197); the events already reported
(late and CUT-marked by device, corrected errors); and on the manager the lost set, the step's start and those that are to
acknowledge it and the acknowledgements that have come (R461), the frames discarded as malformed (R444), the spares chosen for ranks, those that have refused one, the REBUILT messages awaited (rank, Guard entry), VACANT ranks, your
ADMITs (serial, device ID, spare), the serials admitted, those last scratched, the expulsions on score (group, time), the end of the last window,
and the ports on which serials said HELLO. -/
structure MarshalSt where
  role : Nat
  manager : Nat
  standby : Nat
  seq : Nat
  beatSent : Nat
  reportSent : Nat
  helloSent : Nat
  done : List Nat
  quietDue : Bool
  heldDevs : List Nat
  lateTold : KMap (Nat × Nat)
  ceTold : Nat
  lost : List Nat
  stepAt : Nat
  awaiting : List Nat
  acks : List Nat
  refused : List (Nat × Nat)
  pairs : List (Nat × Nat)
  rebuilds : List (Nat × Nat)
  vacant : List Nat
  admits : List (Nat × Nat × Bool)
  admitted : List Nat
  scratchedSerials : List Nat
  expelled : List (Nat × Nat)
  windowAt : Nat
  helloPorts : List (Nat × Nat)
  discarded : Nat
  deriving DecidableEq, Repr

/-- Marshal as reset leaves it. -/
def MarshalSt.init : MarshalSt :=
  { role := 0, manager := 0, standby := 0, seq := 0, beatSent := 0, reportSent := 0, helloSent := 0, done := [],
    quietDue := false, heldDevs := [], lateTold := [], ceTold := 0, lost := [], stepAt := 0, awaiting := [], acks := [], refused := [], pairs := [],
    rebuilds := [], vacant := [], admits := [], admitted := [], scratchedSerials := [], expelled := [], windowAt := 0, helloPorts := [], discarded := 0 }

/-- The state of the module (INVENTORY.md lists every piece with its rule). -/
structure State where
  /-- The commands waiting to be taken, first in, first out. -/
  pending : List Instr
  /-- What is fixed at manufacture (R1, R2). -/
  ident : Ident
  /-- The reference counter, one tick a nanosecond (R9). -/
  now : Nat
  /-- The model's own counter of free values drawn (log entry 3). -/
  free : Nat
  /-- The object dictionary: key code x 2^32 + index, an unlisted entry reading as `factory`. -/
  objs : KMap Nat
  /-- Memory bytes: key space x 2^44 + offset, an unlisted byte reading 0. -/
  mem : List Host.Cell
  /-- What the module has sent, oldest first. -/
  out : List Out
  /-- The compute cores, an unlisted one as `CoreSt.init`. -/
  cores : KMap CoreSt
  /-- The Rake engines, an unlisted one as `RkeSt.init`. -/
  rkes : KMap RkeSt
  /-- When the current window of the stride rates began (R80, R155). -/
  rateWindow : Nat
  /-- The ranges of the delta log and the Guard park (R213). -/
  guardRanges : GuardRanges
  /-- The drain or return in progress (R173). -/
  dimmCopy : Option DimmCopy
  /-- Recalibration of controller c: HBM at c, DDR5 channel c at 32 + c (R170). -/
  recals : KMap RecalSt
  /-- The patrols, under 256 x kind + instance of MEM_UE_RECORD, the arena's kind being 5 (R167, R368). -/
  patrols : KMap Patrol
  /-- The bays whose supply ramps up: DIMM socket c under c, ELS e under 16 + e, power stage p under 32 + p (R486). -/
  ramps : KMap (Option Ramp)
  /-- GMU requests not yet sent, in order (R189, R195). -/
  waiting : List GReq
  /-- GMU requests sent and not ended (R189). -/
  sent : List GReq
  /-- Tags of abandoned requests and the time each may be used again (R189). -/
  quarantine : List (Nat × Nat)
  /-- Source streams beside SRC_STREAMS, an unlisted one as `SrcSt.init`. -/
  srcSts : KMap SrcSt
  /-- Destination contexts beside DST_STREAMS, an unlisted one as `DstSt.init`. -/
  dstSts : KMap DstSt
  /-- Guard groups beside GUARD_DESC and GUARD_STATE, an unlisted one as `GuardSt.init`. -/
  guards : KMap GuardSt
  /-- Requests that wait, in order of arrival: for a recalibration hold (R171: the first 512 of a controller are in its queue,
  the others before it, in the GMU and the stack network), for a Guard group (R215), or in the Guard park, behind a Guard
  store of their stream (R279). -/
  heldReqs : List (Frame × Ecc)
  /-- The frames in the cell buffer, in order of arrival (R252). -/
  frames : List TrackFrame
  /-- The copies at the egress positions, in order of lookup (R255, R272). -/
  copies : List TrackCopy
  /-- The number of the next frame. -/
  nextFrame : Nat
  /-- The number of the next pick. -/
  nextPick : Nat
  /-- The cell time of the matching patterns (R253, R254). -/
  cellTime : Nat
  /-- Cells of position i in class c charged to the shared pool and to headroom, under 5i + c (R259). -/
  charges : KMap (Nat × Nat)
  /-- The allowance at which class c of port p last turned OFF, while it is OFF, under 5p + c (R259, R260). -/
  offAt : KMap (Option Nat)
  /-- Round-robin pointers of the 96 read ports, 3b + k (R254). -/
  grantPtr : KMap Nat
  /-- Round-robin pointers of the 81 egress positions (R254). -/
  acceptPtr : KMap Nat
  /-- Matching departures counted by each mirror session since its last copy (R276). -/
  mirrorSeen : KMap Nat
  /-- Copies made by each mirror session since it was enabled (R277). -/
  mirrorSeq : KMap Nat
  /-- Copies waiting at the mirror endpoint (R277). -/
  mirrorQueue : List MirrorCopy
  /-- Mirror copies whose frames are not yet whole (R256, R277). -/
  mirrorHeld : List MirrorHeld
  /-- The rings of the TMG's nodes, the pointer's child first, under 4 x node + PRIO (R291). -/
  rings : KMap (List Nat)
  /-- Credits of the TMG's children, under their node number (R291). -/
  credits : KMap Int
  /-- Buckets of shapers and policers, under their node number (R295, R296, R299). -/
  buckets : KMap (Option Bucket)
  /-- The TMG's children whose PRIO or GROUP has been written since their port's last pick, with the parent under which each
  still stands, in the order of the writes (R538). -/
  moves : List (Nat × Nat)
  /-- Link-local frames of Marshal that wait for the Track at channel 79, with the port each leaves by (R21, R266). -/
  linkLocals : List (Nat × Frame)
  /-- The link layer of the ports, an unlisted one as `PortSt.init`. -/
  ports : KMap PortSt
  /-- Members of a sharing pair that have lost their output while the partner rises (R221). -/
  elsLost : List Nat
  /-- When the state of an ELS last changed (R223, R224). -/
  elsSince : KMap Nat
  /-- Since when an ELS has been powered, none while it is not (R224, R244: the hours of 5200.02). -/
  elsOn : KMap (Option Nat)
  /-- Events against device d for the next REPORT, under 65536 x kind + d (R452). -/
  reports : KMap Nat
  /-- The owner key X || Y, 0 in FACTORY (R505, R509). -/
  ownerKey : Nat
  /-- The buffer pools beside their objects, an unlisted one as `PoolSt.init`. -/
  pools : KMap PoolSt
  /-- The owner store: the owner of buffer b of pool p under 2^23 x p + b (R373). -/
  owners : KMap Nat
  /-- The check-value units beside their objects, an unlisted one as `CvuSt.init`. -/
  cvus : KMap CvuSt
  /-- The scan engine's jobs: those of the queue in the order of submission, and the release of the Guard ranges (R385, R387, R213). -/
  scanJobs : List ScanJob
  /-- The stream units, an unlisted one as `SuSt.init`. -/
  sus : KMap SuSt
  /-- The pool buffers that a bound slot's baton slots are (R309). -/
  suBufs : KMap (List Nat)
  /-- The contexts of the CLE, an unlisted one as `CtxSt.init`. -/
  ctxs : KMap CtxSt
  /-- What ring commands have come to and has not yet been reported: the command, a status of R412, its RESULT. -/
  ringDone : List (Nat × Nat × Nat)
  /-- Where the module is in its start (R506). -/
  boot : Boot
  /-- The queue pairs beside their objects, an unlisted one as `QpSt.init`. -/
  qps : KMap QpSt
  /-- The command rings beside their objects, an unlisted one as `RingSt.init`. -/
  hostRings : KMap RingSt
  /-- The entry into REST or DEEP REST in progress (R493). -/
  powerEntry : Option PowerEntry
  /-- The wakes in progress, the first the one under way: the state each names and the ring command that asked (R497). -/
  powerWake : List (Nat × Option Nat)
  /-- The copy of the saved list in the AOS, under the keys of `objs` (R498). -/
  saved : KMap Nat
  /-- P of the governor in units of 0.5 W (R482). -/
  govPower : Nat
  /-- Whether the governor holds D for a compute-stack junction (R532). -/
  thermHold : Bool
  /-- The operator keys (R505, R509). -/
  operatorKeys : List Nat
  /-- The NV key, 0 where there is none (R505, R509). -/
  nvKey : Nat
  /-- The SVN fuse count (R508). -/
  svnFuses : Nat
  /-- The rollback counter (R508). -/
  rollback : Nat
  /-- Cold resets since manufacture (R512). -/
  bootCount : Nat
  /-- The firmware slot the module runs from (R506, R517). -/
  fwRunning : Nat
  /-- What is known of the standby firmware slot (R507). -/
  fwStandby : Standby
  /-- Whether FW_ACTIVATE is pending (R507). -/
  fwMark : Bool
  /-- The firmware slots that still hold what manufacture put there (R506). -/
  fwOwn : List Nat
  /-- Whether the standby slot is being erased (R507). -/
  fwErasing : Bool
  /-- Whether the standby bank is being erased (R437). -/
  nvErasing : Bool
  /-- The NV bank that ACTIVATE has marked (R437). -/
  nvMark : Option Nat
  /-- The ranges written since an erase: store, offset, length (R437, R507). -/
  imageWritten : List (Nat × Nat × Nat)
  /-- The bytes of the flash stores, bank A 0, bank B 1, FW0 2, FW1 3, under store x 2^32 + offset; an unlisted byte is erased (R431). -/
  flash : KMap Byte
  /-- The sequence number of the next journal record (R434). -/
  journalSeq : Nat
  /-- The CDP sessions, under their number (R422). -/
  sessions : KMap (Option Session)
  /-- The sources without a session (R423). -/
  sources : List CdpSource
  /-- What a manager or standby keeps of each device, an unlisted one as `Watch.init`. -/
  watches : KMap Watch
  /-- Marshal beside its objects. -/
  marshal : MarshalSt
  /-- The Marshal store: the Guard descriptor of entry e of device d under 64 x d + e (R459). -/
  guardStore : KMap Nat
  /-- Devices whose SCRATCH blocks this module has seen and not yet told Marshal (R241, R447). -/
  scratchSeen : List Nat
  /-- Whether RESET_n is low (R522). -/
  resetLow : Bool
  /-- Whether the AOP and the AOS have stopped (R476). -/
  aopDead : Bool
  /-- Whether the module waits for its restart after a trip, and whether it was scratched before (R478). -/
  tripped : Option Bool
  /-- Whether the input switch blocks (R481). -/
  inputBlocked : Bool
  /-- The sideband block of the last update (R523). -/
  sideband : Nat
  /-- The sockets whose contents the last reset keeps until their DIMM is trained again, as a mask (R502). -/
  dimmKeep : Nat
  /-- Whether the governor holds D for an HBM4 stack (R532). -/
  hbmHold : Bool
  /-- The reference time of the governor's last update (R482). -/
  govAt : Nat
  /-- The reference time of the last update of the sideband block (R523). -/
  sidebandAt : Nat
  deriving DecidableEq, Repr

/-- The machine right after a cold reset from power-on (R479, R499): every dictionary object at its default, LAST_RESET 1,
SERVICE_STATE STARTING, no device ID, memory with nothing listed, no command waiting. The grade is the UDX-J96-M (log entry 1). -/
def State.reset : State :=
  { pending := [],
    ident := Ident.j96,
    now := 0,
    free := 0,
    objs := [(Obj.lastReset * 2 ^ 32, 1)],
    mem := [],
    out := [],
    cores := [],
    rkes := [],
    rateWindow := 0,
    guardRanges := .free,
    dimmCopy := none,
    recals := [],
    patrols := [],
    ramps := [],
    waiting := [],
    sent := [],
    quarantine := [],
    srcSts := [],
    dstSts := [],
    guards := [],
    heldReqs := [],
    frames := [],
    copies := [],
    nextFrame := 0,
    nextPick := 0,
    cellTime := 0,
    charges := [],
    offAt := [],
    grantPtr := [],
    acceptPtr := [],
    mirrorSeen := [],
    mirrorSeq := [],
    mirrorQueue := [],
    mirrorHeld := [],
    rings := [],
    credits := [],
    buckets := [],
    moves := [],
    linkLocals := [],
    ports := [],
    elsLost := [],
    elsSince := [],
    elsOn := [],
    reports := [],
    ownerKey := 0,
    pools := [],
    owners := [],
    cvus := [],
    scanJobs := [],
    sus := [],
    suBufs := [],
    ctxs := [],
    ringDone := [],
    boot := .rom,
    qps := [],
    hostRings := [],
    powerEntry := none,
    powerWake := [],
    saved := [],
    govPower := 0,
    thermHold := false,
    operatorKeys := [],
    nvKey := 0,
    svnFuses := 0,
    rollback := 0,
    bootCount := 1,
    fwRunning := 0,
    fwStandby := .unknown,
    fwMark := false,
    fwOwn := [0, 1],
    fwErasing := false,
    nvErasing := false,
    nvMark := none,
    imageWritten := [],
    flash := [],
    journalSeq := 0,
    sessions := [],
    sources := [],
    watches := [],
    marshal := MarshalSt.init,
    guardStore := [],
    scratchSeen := [],
    resetLow := false,
    aopDead := false,
    tripped := none,
    inputBlocked := false,
    sideband := 1 + Ident.j96.grade * 2 ^ 8 + Ident.j96.serial * 2 ^ 128 + Ident.j96.partNumber * 2 ^ 256,
    dimmKeep := 0,
    hbmHold := false,
    govAt := 0,
    sidebandAt := 0 }

/-- Why a command stops the model. -/
inductive Fault
  /-- Raised by a command that names a unit number the module does not have (a core above 95, a port above 63): no such
  command can reach the hardware. Safe. -/
  | noSuchUnit
  deriving DecidableEq, Repr

/-- Why a command has no meaning. -/
inductive Refusal
  /-- Raised by an arm of `exec` whose command the model does not yet describe. Safe. -/
  | notModelled (mnemonic : String)
  deriving DecidableEq, Repr

end Sys2Proof.Machine
end

