-- ==== Sys2Proof/Machine/Ops.lean ====
section
/-! DEFINITION. The named operations over the state that every unit uses: the object store, memory, what the module sends,
free values, presence, and the core file operations of spec/03_core_sequencer.md (strides, waits, halts). -/

namespace Sys2Proof.Machine

/-- The three outcomes of a command. -/
abbrev Res := Host.Outcome State Fault Refusal

/-! ### Objects -/

/-- The key of an object entry in `State.objs`: an index has 32 bits (R417). -/
def objKey (c : ObjCode) (i : Nat) : Nat := c * 2 ^ 32 + i % 2 ^ 32

/-- The factory default under a key. -/
def factoryKey (k : Nat) : Nat := factory (k / 2 ^ 32) (k % 2 ^ 32)

/-- What the identity objects read (R2): they are fixed at manufacture and have no entry in the store. -/
def identRead (d : Ident) (c : ObjCode) : Option Nat :=
  if c = Obj.gradeCode then some d.grade
  else if c = Obj.partNumber then some d.partNumber
  else if c = Obj.serialNumber then some d.serial
  else if c = Obj.corePresent then some d.corePresent
  else if c = Obj.stackPresent then some (if d.grade = 3 then 0 else 0xFF)
  else if c = Obj.rakePresent then some (if d.grade = 1 then 2 ^ 48 - 1 else 0)
  else if c = Obj.hbmPresent then some d.hbmPresent
  else if c = Obj.ddr5SocketPresent then some (if d.grade = 3 then 0 else 0x0FFF)
  else if c = Obj.sm4Present then some (if d.grade = 3 then 0 else 1)
  else if c = Obj.deviceCert then some d.deviceCert
  else if c = Obj.caCert then some d.caCert
  else none

/-- An object entry as one number in window byte order: the stored value, or the factory default where none is stored. -/
def State.rd (s : State) (c : ObjCode) (i : Nat) : Nat :=
  match identRead s.ident c with
  | some v => v
  | none => KMap.get s.objs (factoryKey (objKey c i)) (objKey c i)

/-- Writes an object entry, keeping the store's canonical form. -/
def State.wr (s : State) (c : ObjCode) (i v : Nat) : State :=
  { s with objs := KMap.set s.objs (factoryKey (objKey c i)) (objKey c i) v }

/-- A field of an object entry. -/
def State.fld (s : State) (c : ObjCode) (i lo w : Nat) : Nat := bits (s.rd c i) lo w

/-- Writes a field of an object entry. -/
def State.wrFld (s : State) (c : ObjCode) (i lo w v : Nat) : State := s.wr c i (setBits (s.rd c i) lo w v)

/-- Every entry of an object back to its factory default. -/
def State.clearObj (s : State) (c : ObjCode) : State :=
  { s with objs := s.objs.filter fun p => p.1 / 2 ^ 32 != c }

/-- A free value: what the spec leaves open and the module produces. -/
def State.draw (s : State) (k : Nat) : Nat := Config.freeVal s.free k

/-- The state after a free value has been drawn. -/
def State.drawn (s : State) : State := { s with free := s.free + 1 }

/-- The entries of an object that the store lists, ascending: every other entry has its factory value. -/
def State.listed (s : State) (c : ObjCode) : List Nat :=
  (s.objs.filter fun p => p.1 / 2 ^ 32 == c).map fun p => p.1 % 2 ^ 32

/-- Adds to a count in a field of an entry. The spec states no result for a count that would pass the field's width: it
becomes a free value (log entry 3). -/
def State.inc (s : State) (c : ObjCode) (i lo w n : Nat) : State :=
  let v := s.fld c i lo w + n
  if v < 2 ^ w then s.wrFld c i lo w v else (s.wrFld c i lo w (s.draw 0)).drawn

/-- Adds to a total that stays at 2^w - 1 once it reaches it (R75, R155). -/
def State.incSat (s : State) (c : ObjCode) (i lo w n : Nat) : State :=
  s.wrFld c i lo w (satAdd w (s.fld c i lo w) n)

/-! ### Memory -/

/-- The key of a memory byte: the space (a region of R182, or one of the model's spaces below) and the offset in it. -/
def memKey (space off : Nat) : Nat := space * 2 ^ 44 + off

/-- The space of the pool arena (R368). -/
def spaceArena : Nat := 15

/-- The space of the bitmap memories of the stream units (R327): unit u at offset u x 2 MiB. -/
def spaceBitmap : Nat := 16

/-- One byte of memory; an unlisted byte reads 0 (R387; log entry 2). -/
def State.mem8 (s : State) (space off : Nat) : Byte := KMap.get s.mem 0 (memKey space off)

/-- `n` bytes of memory. -/
def State.memRead (s : State) (space off n : Nat) : List Byte :=
  (List.range n).map fun k => s.mem8 space (off + k)

/-- The cells that bytes from a key on list: those that differ from the unlisted value. -/
def cellsFrom : Nat → List Byte → List Host.Cell
  | _, [] => []
  | k, b :: bs => if b = 0 then cellsFrom (k + 1) bs else (k, b) :: cellsFrom (k + 1) bs

/-- Memory with the bytes from key `k` replaced by `bs`. -/
def memSplice (m : List Host.Cell) (k : Nat) (bs : List Byte) : List Host.Cell :=
  m.filter (fun c => decide (c.1 < k)) ++ cellsFrom k bs ++ m.filter (fun c => decide (k + bs.length ≤ c.1))

/-- Writes bytes to memory, keeping its canonical form. -/
def State.memWrite (s : State) (space off : Nat) (bs : List Byte) : State :=
  { s with mem := memSplice s.mem (memKey space off) bs }

/-- The canonical form of memory: addresses strictly rising, no byte listed that equals the unlisted value 0. -/
abbrev Memory.wf (m : List Host.Cell) : Bool := KMap.wf (fun _ => (0 : Byte)) m

/-- `n` bytes of memory as one little-endian code (R11). -/
def State.memCode (s : State) (space off n : Nat) : Nat := leCode (s.memRead space off n)

/-- The region 2 offset of a byte of a core's tile memory (R157). -/
def tmOff (core off : Nat) : Nat := (core / 12) * 2 ^ 30 + (core % 12) * 2 ^ 26 + off

/-- The size of a tile memory, 16 MiB (R156). -/
def tmSize : Nat := 2 ^ 24

/-- `n` bytes of a core's tile memory as one code; bytes past 16 MiB read 0 (R141; every other reader is range-checked). -/
def State.tmCode (s : State) (core off n : Nat) : Nat :=
  if off + n ≤ tmSize then s.memCode 2 (tmOff core off) n
  else s.memCode 2 (tmOff core off) (tmSize - off)

/-- Writes a code of `n` bytes to a core's tile memory. -/
def State.tmWrite (s : State) (core off n code : Nat) : State := s.memWrite 2 (tmOff core off) (leBytes n code)

/-! ### Output -/

/-- Appends to what the module has sent. -/
def State.send (s : State) (o : Out) : State := { s with out := s.out ++ [o] }

/-! ### Presence and service -/

/-- Whether a core exists (R2). -/
def State.hasCore (s : State) (n : Nat) : Bool := decide (n < 96) && s.ident.corePresent.testBit n

/-- Whether a Rake engine exists (R2). -/
def State.hasRake (s : State) (m : Nat) : Bool := decide (m < 48) && s.ident.grade == 1

/-- Whether an HBM controller exists (R2). -/
def State.hasHbm (s : State) (c : Nat) : Bool := decide (c < 24) && s.ident.hbmPresent.testBit c

/-- Whether the module has memory and cores of its own: every grade but the J00-F (R1, R20). -/
def State.hasCompute (s : State) : Bool := s.ident.grade != 3

/-- The service state (R40). -/
def State.service (s : State) : Nat := s.rd Obj.serviceState 0

/-- Whether the module is scratched (R38, R40). -/
def State.scratched (s : State) : Bool := s.service == 2

/-- Whether the module is in service, with or without a logical rank (R40). -/
def State.inService (s : State) : Bool := s.service == 1 || s.service == 3

/-- The power state POWER_STATE reads (R504): 0 RUN, 1 HOLD, 2 REST, 3 DEEP REST. -/
def State.power (s : State) : Nat := s.fld Obj.powerState 0 0 2

/-- Whether the module is in RUN and not scratched: a scratched module is never in RUN (R104), nor one whose units are not
released (R506). -/
def State.inRun (s : State) : Bool := s.power == 0 && !s.scratched && (s.boot == .fill || s.boot == .up)

/-- Whether the memories of the module take no request: in REST and DEEP REST, and in an entry past abort point A2
(R493, R496). -/
def State.memClosed (s : State) : Bool :=
  decide (2 ≤ s.power) || (match s.powerEntry with | some e => decide (2 ≤ e.point) | none => false)

/-- The device ID (R183), 0xFFFF before admission. -/
def State.devId (s : State) : Nat := s.rd Obj.deviceId 0

/-- Whether the reproducibility bit is set (R33). -/
def State.repro (s : State) : Bool := s.rd Obj.reproMode 0 == 1

/-! ### Cores -/

/-- A core's own state. -/
def State.core (s : State) (n : Nat) : CoreSt := KMap.get s.cores CoreSt.init n

/-- Writes a core's own state. -/
def State.setCore (s : State) (n : Nat) (c : CoreSt) : State := { s with cores := KMap.set s.cores CoreSt.init n c }

/-- A Rake engine. -/
def State.rke (s : State) (m : Nat) : RkeSt := KMap.get s.rkes RkeSt.init m

/-- Writes a Rake engine. -/
def State.setRke (s : State) (m : Nat) (r : RkeSt) : State := { s with rkes := KMap.set s.rkes RkeSt.init m r }

/-- CORE_STATE (R108): 0 IDLE, 1 RUNNING, 2 DRAINING, 3 DONE, 4 HALTED. -/
def State.coreState (s : State) (n : Nat) : Nat := s.rd Obj.coreState n

/-- Whether a core is running or draining. -/
def State.coreLive (s : State) (n : Nat) : Bool := s.coreState n == 1 || s.coreState n == 2

/-- A core's stride count (R80). -/
def State.stride (s : State) (n : Nat) : Nat := s.rd Obj.strideCount n

/-- Flag `f` of core `n` (R92). -/
def State.flag (s : State) (n f : Nat) : Nat := s.rd Obj.flags (256 * n + f)

/-- Writes a flag. -/
def State.setFlag (s : State) (n f v : Nat) : State := s.wr Obj.flags (256 * n + f) v

/-- Issued commands of a core that wait in its queues (R83). -/
def CoreSt.undispatched (c : CoreSt) : Nat := c.paced.length + c.lde.length + c.fxe.length

/-- The commands of one paced engine in the common order. -/
def CoreSt.engineQueue (c : CoreSt) (e : Nat) : List QCmd :=
  if e = 3 then c.lde else if e = 5 then c.fxe else c.paced.filter (·.engine == e)

/-- WAIT_SEL of a command word (R81). -/
def waitSel (w : Nat) : Nat := bits w 104 7

/-- POST_SEL of a command word (R81). -/
def postSel (w : Nat) : Nat := bits w 97 7

/-- One waiting point of a core (R96, R97): the engine code (0 SQ), the flag, the count it needs, what it takes of it, the
strides counted, the limit, the ordinal and the position of the command. -/
structure Waiter where
  engine : Nat
  flag : Nat
  need : Nat
  take : Nat
  waited : Nat
  limit : Nat
  ord : Nat
  pos : Nat
  deriving DecidableEq, Repr

/-- The ordinal and position of a core's issue (SEQ_STATE, R108): the number of commands issued, the next position. -/
def State.ordinal (s : State) (n : Nat) : Nat := s.fld Obj.seqState n 48 64

/-- The issue position. -/
def State.position (s : State) (n : Nat) : Nat := s.fld Obj.seqState n 16 32

/-- The 16 bytes of a command at a stream position, where its line is in the instruction cache (R100). -/
def State.fetch (s : State) (n pos : Nat) : Option Nat :=
  ((s.core n).icache.find (pos / 64)).map fun line => bits line (pos % 64 * 128) 128

/-- Predicate `p` of a core: P0 is always true (R81). -/
def State.pred (s : State) (n p : Nat) : Bool := p == 0 || (s.rd Obj.seqState n).testBit p

/-- The predicate of a command: P[PSEL] XOR PINV (R84). -/
def State.enabled (s : State) (n w : Nat) : Bool := (s.pred n (bits w 112 4)) != w.testBit 111

/-- The sequencer's waiting point, if it waits on a flag. -/
def State.sqWaiter (s : State) (n : Nat) : Option Waiter :=
  match (s.core n).sq with
  | some w =>
    if w.phase = .waitSel ∨ w.phase = .sqWait then
      some ⟨0, w.flag, w.need, w.take, w.waited, w.limit, s.ordinal n + 1, s.position n⟩
    else none
  | none => none

/-- The waiting point of an engine queue: its head, where the head has a WAIT_SEL. -/
def State.queueWaiter (s : State) (n e : Nat) : Option Waiter :=
  match ((s.core n).engineQueue e).head? with
  | some q => if waitSel q.word = 0 then none
      else some ⟨e, waitSel q.word, 1, 1, q.waited, (s.core n).waitLimit, q.ord, q.pos⟩
  | none => none

/-- The waiting points of a core, in the order of the halt record (R107): SQ, MXE, VXE, RKE, LDE, FXE. -/
def State.waiters (s : State) (n : Nat) : List Waiter :=
  (s.sqWaiter n).toList ++ (s.queueWaiter n 1).toList ++ (s.queueWaiter n 2).toList ++ (s.queueWaiter n 4).toList
    ++ (s.queueWaiter n 3).toList ++ (s.queueWaiter n 5).toList

/-- The place of an engine's waiter entry in the halt record (R107). -/
def waiterSlot (e : Nat) : Nat :=
  if e = 0 then 0 else if e = 1 then 1 else if e = 2 then 2 else if e = 4 then 3 else if e = 3 then 4 else 5

/-- Whether the flag of a waiter satisfies it, flags alone. -/
def State.flagOk (s : State) (n : Nat) (w : Waiter) : Bool := decide (w.need ≤ s.flag n w.flag)

/-- The duty D of the energy governor (R483). -/
def State.duty (s : State) : Nat := s.fld Obj.governorState 0 0 9

/-- Whether the paced engines may dispatch in a stride: D of every 256 strides, spread evenly (R483; log entry 10). -/
def strideOpen (duty t : Nat) : Bool := (t % 256 + 1) * duty / 256 != t % 256 * duty / 256

/-- The first stride at or after `t` that the governor does not hold, within the next 256. -/
def firstOpen (duty : Nat) : Nat → Nat → Option Nat
  | 0, _ => none
  | k + 1, t => if strideOpen duty t then some t else firstOpen duty k (t + 1)

/-- The stride at which an engine has finished its previous occupancy. -/
def CoreSt.engineFree (c : CoreSt) (e : Nat) : Nat := if e = 1 then c.mxeFree else if e = 2 then c.vxeFree else c.rkeFree

/-- The first stride, from now, at which conditions 1, 2 and 4 of R86 hold for the paced head, without the governor and
with it. A void needs its engine free too; it has no occupancy of its own (R85, R86). -/
def State.dispatchStride (s : State) (n : Nat) (q : QCmd) : Nat × Option Nat :=
  let c := s.core n
  let t := match c.lastDispatch with | some d => max (s.stride n) (d + q.gap) | none => s.stride n
  let t := max t (c.engineFree q.engine)
  (t, firstOpen s.duty 256 t)

/-- Who waits behind an unsent request (R189): the LDE queue (2n) or the FXE queue (2n + 1) of its core, a context's store,
or nobody. -/
def GReq.lane (r : GReq) : Nat :=
  match r.owner with
  | .core n _ => 2 * n + b2n (r.op == 5)
  | .copy n _ _ => 2 * n
  | .guard c p _ => 1000 + 2 * c + p
  | .close d => 20000 + d
  | .roll d => 21000 + d
  | .quiet d => 30000 + d
  | .reset e => 40000 + e
  | .host i => 50000 + i

/-- What a waiting point of higher priority takes of a flag in this stride (R93: SQ, paced engines, LDE, FXE). One that
something else holds, a PACE gap, a busy engine, the governor or an unsent request, takes nothing (R86, R96). -/
def State.takenAbove (s : State) (n e f : Nat) : Nat :=
  let above (w : Option Waiter) : Nat :=
    match w with
    | some w => if w.flag = f ∧ s.flagOk n w then w.take else 0
    | none => 0
  let sq := if e = 0 then 0 else above (s.sqWaiter n)
  let paced := if e = 3 ∨ e = 5 then
      (match (s.core n).paced.head? with
      | some q => if (s.dispatchStride n q).2 = some (s.stride n) then above (s.queueWaiter n q.engine) else 0
      | none => 0)
    else 0
  let lde := if e = 5 ∧ !s.waiting.any (fun r => r.lane == 2 * n) then above (s.queueWaiter n 3) else 0
  sq + paced + lde

/-- Whether a waiting point is satisfied in this stride (R93, R96). -/
def State.satisfied (s : State) (n : Nat) (w : Waiter) : Bool :=
  decide (w.need + s.takenAbove n w.engine w.flag ≤ s.flag n w.flag)

/-- The stride at which a waiting point's limit expires if nothing satisfies it before (R96). -/
def State.expiry (s : State) (n : Nat) (w : Waiter) : Option Nat :=
  if s.satisfied n w then none else some (s.stride n + (w.limit - w.waited))

/-- The least of some numbers. -/
def minOpt (l : List Nat) : Option Nat :=
  match l with
  | [] => none
  | a :: l => some (l.foldl min a)

/-- The stride of the earliest result in flight. -/
def CoreSt.nextDue (c : CoreSt) : Option Nat := minOpt (c.flights.map (·.due))

/-- The earliest expiry of a wait of the core. -/
def State.nextExpiry (s : State) (n : Nat) : Option Nat := minOpt ((s.waiters n).filterMap (s.expiry n))

/-- Whether an absent bound, or one that lies above `t`. -/
def above? (b : Option Nat) (t : Nat) : Bool := match b with | none => true | some x => decide (t < x)

/-- Whether the wait of a queue's head, if any, is satisfied (R86 condition 3). -/
def State.headReady (s : State) (n e : Nat) : Bool :=
  match s.queueWaiter n e with
  | some w => s.satisfied n w
  | none => true

/-- Whether the paced head would dispatch before stride `t`. -/
def State.dispatchesBefore (s : State) (n t : Nat) : Bool :=
  match (s.core n).paced with
  | [] => false
  | q :: _ =>
    match s.dispatchStride n q with
    | (_, some d) => s.headReady n q.engine && decide (d < t)
    | _ => false

/-- Whether nothing of the core is due at or before stride `t` but later than now: no result in flight and no expiry, and no
dispatch before `t`. -/
def State.clearTo (s : State) (n t : Nat) : Bool :=
  above? (s.core n).nextDue t && above? (s.nextExpiry n) t && !s.dispatchesBefore n t

/-- Adds the strides of an interval to the wait counts of the waiting points whose flag does not satisfy them (R96). -/
def countWaits (unsat : Nat → Bool) (d : Nat) (c : CoreSt) : CoreSt :=
  let bump (q : QCmd) : QCmd := { q with waited := q.waited + d }
  let headOf (e : Nat) (l : List QCmd) : List QCmd :=
    match l.findIdx? (·.engine == e) with
    | some i => if unsat e then modifyNth bump i l else l
    | none => l
  { c with
    sq := if unsat 0 then c.sq.map fun w => { w with waited := w.waited + d } else c.sq
    paced := headOf 4 (headOf 2 (headOf 1 c.paced))
    lde := headOf 3 c.lde
    fxe := headOf 5 c.fxe }

/-- Whether the waiting point of an engine exists and is not satisfied. -/
def State.unsat (s : State) (n e : Nat) : Bool :=
  match if e = 0 then s.sqWaiter n else s.queueWaiter n e with
  | some w => !s.satisfied n w
  | none => false

/-- Moves a core's stride count on to `t`: waits count (R96), occupied strides of the engines are counted (R135), and the
increments of a past stride are forgotten (R93). -/
def State.runTo (s : State) (n t : Nat) : State :=
  let now := s.stride n
  if t ≤ now then s
  else
    let c := s.core n
    let d := t - now
    let busy (free : Nat) : Nat := min t free - min now free
    let c := { countWaits (s.unsat n) d c with incNow := [], decNow := [] }
    let s := (s.setCore n c).wr Obj.strideCount n (t % 2 ^ 64)
    ((s.inc Obj.pacedBusy (3 * n) 0 64 (busy c.mxeFree)).inc Obj.pacedBusy (3 * n + 1) 0 64 (busy c.vxeFree)).inc
      Obj.pacedBusy (3 * n + 2) 0 64 (busy c.rkeFree)

/-- A command of a core moves its stride count on to `t`, ahead of the reference counter, whose next ticks give it that many
strides fewer (R7; log entry 6). -/
def State.advance (s : State) (n t : Nat) : State :=
  if t ≤ s.stride n then s
  else
    let s' := s.runTo n t
    s'.setCore n { s'.core n with ahead := (s.core n).ahead + (t - s.stride n) }

/-- The ticks of a rate window (R80). -/
def rateTicks : Nat := 2 ^ 20

/-- A stride rate in Mst/s from the strides of a window (R80). -/
def strideRate (d : Nat) : Nat := d * 1000 / rateTicks % 2 ^ 32

/-- Whether the rate window is over (R80). -/
def State.rateDue (s : State) : Bool := s.hasCompute && !s.scratched && decide (s.rateWindow + rateTicks ≤ s.now)

/-- The end of a window of the stride rates (R80, R155): the rate of every present core and Rake engine that is not power-gated
is updated, and the next window begins. -/
def State.rateWindowEnd (s : State) : State :=
  if !s.rateDue then s
  else
    let s := { s with rateWindow := s.now }
    let s := foldUp (fun n s =>
      if s.hasCore n then
        let c := s.core n
        (s.setCore n { c with windowStart := s.stride n }).wr Obj.strideRate n
          (if 2 ≤ s.power then 0 else strideRate (s.stride n - c.windowStart))
      else s) 0 96 s
    foldUp (fun m s =>
      if s.hasRake m then
        let r := s.rke m
        (s.setRke m { r with windowStart := r.stride }).wr Obj.rkeStrideRate m
          (if 2 ≤ s.power then 0 else strideRate (r.stride - r.windowStart))
      else s) 0 48 s

/-- A waiter's 16-byte entry of the halt record (R107). -/
def waiterEntry (w : Waiter) : Nat := 1 + (w.flag % 256) * 2 + (w.waited % 2 ^ 32) * 2 ^ 32 + (w.ord % 2 ^ 64) * 2 ^ 64

/-- The halt record's fields of a stop or halt (R107). -/
def State.haltFields (s : State) (n status detail pos ord : Nat) : State :=
  let r := s.rd Obj.haltRecord n
  let r := setBits (setBits r 0 8 status) 8 8 detail
  let r := setBits (setBits r 32 32 pos) 64 64 ord
  let r := setBits r 128 64 (s.stride n - (s.core n).launchStride)
  s.wr Obj.haltRecord n r

/-- Halts a core (R97, R105, R106): the record names the command and every command that waits unsatisfied; commands not
dispatched are discarded; the core drains. A core that has halted already keeps its record. -/
def State.haltCore (s : State) (n status detail pos ord : Nat) : State :=
  let c := s.core n
  if c.stop = .halted ∨ ¬ s.coreLive n then s
  else
    let ws := (s.waiters n).filter fun w => !s.satisfied n w
    let s := s.haltFields n status detail pos ord
    let r := ws.foldl (fun r w => setBits r (256 + 128 * waiterSlot w.engine) 128 (waiterEntry w)) (s.rd Obj.haltRecord n)
    let s := s.wr Obj.haltRecord n r
    (s.setCore n { c with stop := .halted, sq := none, paced := [], lde := [], fxe := [] }).wr Obj.coreState n 2

/-- Stops a core's issue with END or TRUNCATED (R84, R105): the record names the command, nothing is discarded. Of TRUNCATED
the spec does not say which stride is the halt of R97 and R107: STRIDES is taken at the stop of issue, when no entry of
WAITER_SQ stands, and no waiter of the queues is recorded, since they go on (DESIGN CHOICE, log entry 84). -/
def State.stopIssue (s : State) (n : Nat) (why : IssueStop) (pos ord : Nat) : State :=
  let s := (s.haltFields n 0 0 pos ord)
  (s.setCore n { s.core n with stop := why, sq := none }).wr Obj.coreState n 2

end Sys2Proof.Machine
end

