-- ==== Sys2Proof/Machine/Flags.lean ====
section
/-! DEFINITION. The flag file of a core (R92 to R95) and the status word of a scalar summary (R132, R133). -/

namespace Sys2Proof.Machine

/-- Whether a FLAGSET (ENGINE 0, OPCODE 5) of flag `f` is issued in this stride still: it stands at the core's position, and
nothing holds it. It comes before the increments of the stride (R93). -/
def State.flagsetComes (s : State) (n f : Nat) : Bool :=
  let c := s.core n
  s.coreState n == 1 && c.stop == .running && c.sq.all (·.phase == .waitSel) && c.lastIssue != some (s.stride n)
    && !c.decNow.contains f && decide (s.position n < c.streamLen)
    && match s.fetch n (s.position n) with
      | some w => bits w 116 12 == 0x050 && bits w 0 12 == f && s.enabled n w && (waitSel w == 0 || s.flag n (waitSel w) != 0)
      | none => false

/-- Adds to a flag (R92, R95). An increment past 2^32 - 1 leaves the flag there and halts the core with FLAG_RANGE:
detail 2 and the command named where the increment is a command's of this core (`src`), detail 3 where it is a SIGNAL of
another core; but where a FLAGSET of the flag in the same stride comes first, it is added to that one's value (R93). -/
def State.addFlag (s : State) (n f amount : Nat) (src : Option (Nat × Nat)) : State :=
  let v := s.flag n f + amount
  let c := s.core n
  let s := s.setCore n { c with incNow := KMap.set c.incNow 0 f (KMap.get c.incNow 0 f + amount) }
  if v < 2 ^ 32 then s.setFlag n f v
  else
    let s := s.setFlag n f (2 ^ 32 - 1)
    let at_ := src.getD (0, 0)
    if s.flagsetComes n f then s else s.haltCore n 0x14 (if src.isSome then 2 else 3) at_.1 at_.2

/-- Takes from a flag that a wait's condition has been found to hold on (R93). -/
def State.takeFlag (s : State) (n f amount : Nat) : State :=
  let c := s.core n
  (s.setCore n { c with decNow := f :: c.decNow }).setFlag n f (s.flag n f - amount)

/-- FLAGSET (R89, R93): the value, and the increments that the flag received in the same stride on top of it. -/
def State.flagSet (s : State) (n f v pos ord : Nat) : State :=
  let x := v + KMap.get (s.core n).incNow 0 f
  if x < 2 ^ 32 then s.setFlag n f x else (s.setFlag n f (2 ^ 32 - 1)).haltCore n 0x14 2 pos ord

/-- A command's post (R94), where POST_SEL names a flag. -/
def State.post (s : State) (n word pos ord : Nat) : State :=
  if postSel word = 0 then s else s.addFlag n (postSel word) 1 (some (pos, ord))

/-- What the status word says of one result. -/
structure ResultClass where
  nan : Bool
  inf : Bool
  zero : Bool
  neg : Bool
  pos : Bool
  deriving DecidableEq, Repr

/-- The class of a code of a format (R133). -/
def classOf (f : Fmt) (c : Code) : ResultClass :=
  let v := decode f c
  let z := v.isZero
  ⟨v.isNan, v.isInf, z, !v.isNan && !z && v.neg, !v.isNan && !z && !v.neg⟩

/-- The class of a U32 result: never NaN, infinite or negative (R133). -/
def classOfU32 (c : Code) : ResultClass := ⟨false, false, c == 0, false, c != 0⟩

/-- The status word of R133 from the result classes and the counts; `empty` and `anyEmpty` as the command says. -/
def statusWord (rs : List ResultClass) (empty anyEmpty : Bool) (sat flush : Nat) (maskAny maskAll : Bool) : Nat :=
  b2n empty + b2n anyEmpty * 2 + b2n (rs.any (·.nan)) * 4 + b2n (rs.any (·.inf)) * 8
    + b2n (empty || rs.all (·.zero)) * 16 + b2n (rs.any (·.neg)) * 32 + b2n (rs.any (·.pos)) * 64
    + b2n (sat != 0) * 128 + b2n (flush != 0) * 256 + b2n maskAny * 512 + b2n maskAll * 1024

/-- A summary slot (R132): status, value and the two counts. -/
def summaryCode (status value sat flush : Nat) : Nat :=
  status + (value % 2 ^ 32) * 2 ^ 32 + (sat % 2 ^ 32) * 2 ^ 64 + (flush % 2 ^ 32) * 2 ^ 96

/-- Writes a summary slot of a core (R135). -/
def State.writeSlot (s : State) (n slot code : Nat) : State := s.wr Obj.summarySlots (8 * n + slot) code

/-- Adds a command's counts to its core's totals (R75). -/
def State.addTotals (s : State) (n sat flush : Nat) : State :=
  (s.incSat Obj.satTotal n 0 64 sat).incSat Obj.flushTotal n 0 64 flush

end Sys2Proof.Machine
end

