-- ==== Sys2Proof/Machine/Frames.lean ====
section
/-! DEFINITION. The routing word of every fabric frame (R247) and the GMU header below it (R186, R187). -/

namespace Sys2Proof

open Sys2Proof.Machine

/-- DEST (R247). -/
def Frame.dest (f : Frame) : Nat := bits f.hdr 240 16
/-- SRC (R247). -/
def Frame.src (f : Frame) : Nat := bits f.hdr 224 16
/-- TC (R247). -/
def Frame.tc (f : Frame) : Nat := bits f.hdr 221 3
/-- BCLASS (R247): 0 MGT, 1 RSP, 2 REQ, 3 COL, 4 FWD. -/
def Frame.bclass (f : Frame) : Nat := bits f.hdr 218 3
/-- MC (R247). -/
def Frame.mc (f : Frame) : Bool := f.hdr.testBit 217
/-- CMARK (R247). -/
def Frame.cmark (f : Frame) : Bool := f.hdr.testBit 216
/-- HOPS (R247). -/
def Frame.hops (f : Frame) : Nat := bits f.hdr 210 6
/-- PLEN (R247). -/
def Frame.plen (f : Frame) : Nat := bits f.hdr 196 14

/-- A header with a field replaced. -/
def Frame.set (f : Frame) (lo w v : Nat) : Frame := { f with hdr := setBits f.hdr lo w v }

/-! ### The GMU header (R186, R187) -/

/-- OP (R186). -/
def Frame.op (f : Frame) : Nat := bits f.hdr 184 8
/-- TAG. -/
def Frame.tag (f : Frame) : Nat := bits f.hdr 168 16
/-- ORD. -/
def Frame.ordered (f : Frame) : Bool := f.hdr.testBit 167
/-- SYNC of a request, DUP of a reply. -/
def Frame.sync (f : Frame) : Bool := f.hdr.testBit 166
/-- RELEASE. -/
def Frame.release (f : Frame) : Bool := f.hdr.testBit 165
/-- STREAM. -/
def Frame.stream (f : Frame) : Nat := bits f.hdr 152 12
/-- SEQ. -/
def Frame.seq (f : Frame) : Nat := bits f.hdr 120 32
/-- CUTGEN. -/
def Frame.gen (f : Frame) : Nat := bits f.hdr 112 8
/-- REGION of ADDR. -/
def Frame.region (f : Frame) : Nat := bits f.hdr 108 4
/-- OFFSET of ADDR. -/
def Frame.off (f : Frame) : Nat := bits f.hdr 64 44
/-- Length in bytes: LENM1 + 1. -/
def Frame.len (f : Frame) : Nat := bits f.hdr 51 13 + 1
/-- AOP. -/
def Frame.aop (f : Frame) : Nat := bits f.hdr 47 4
/-- ATYPE. -/
def Frame.atype (f : Frame) : Nat := bits f.hdr 44 3
/-- OPND. -/
def Frame.opnd (f : Frame) : Nat := bits f.hdr 8 32
/-- STATUS of a reply. -/
def Frame.status (f : Frame) : Nat := bits f.hdr 104 8
/-- NEXT_SEQ of a reply. -/
def Frame.nextSeq (f : Frame) : Nat := bits f.hdr 72 32

end Sys2Proof

namespace Sys2Proof.Machine

/-- The routing word of a frame that this module sends (R247): HOPS from HOP_INIT. -/
def State.routing (s : State) (dest tc bclass : Nat) (mc : Bool) (plen : Nat) : Nat :=
  (dest % 2 ^ 16) * 2 ^ 240 + (s.devId % 2 ^ 16) * 2 ^ 224 + (tc % 8) * 2 ^ 221 + bclass * 2 ^ 218 + b2n mc * 2 ^ 217
    + (s.rd Obj.hopInit 0 % 64) * 2 ^ 210 + (plen % 2 ^ 14) * 2 ^ 196

/-- Sends a frame: over the stack network where it is for this module itself (R22), else to the Track. -/
def State.sendFrame (s : State) (slice : Nat) (f : Frame) : State :=
  if f.dest = s.devId ∧ !f.mc then s.send (.stack slice f) else s.send (.frame f)

/-- The reply to a request (R187, R537). -/
def State.replyFrame (s : State) (q : Frame) (status : Nat) (dup : Bool) (next : Nat) (data : List Byte) : Frame :=
  { hdr := s.routing q.src q.tc 1 false data.length
      + ((q.op + 0x80) % 256) * 2 ^ 184 + q.tag * 2 ^ 168 + b2n q.ordered * 2 ^ 167 + b2n dup * 2 ^ 166
      + bits q.hdr 112 52 * 2 ^ 112 + (status % 256) * 2 ^ 104 + (next % 2 ^ 32) * 2 ^ 72
      + ((data.length - 1) % 2 ^ 13) * 2 ^ 51,
    payload := data }

/-- Sends a reply. -/
def State.reply (s : State) (q : Frame) (status : Nat) (data : List Byte) : State :=
  s.sendFrame (q.stream % 8) (s.replyFrame q status false 0 data)

/-- The frame of a request (R186). -/
def State.requestFrame (s : State) (r : GReq) (sync : Bool) : Frame :=
  { hdr := s.routing (bits r.addr 48 16) r.tc 2 false r.payload.length
      + r.op * 2 ^ 184 + (r.tag % 2 ^ 16) * 2 ^ 168 + b2n r.ord * 2 ^ 167 + b2n sync * 2 ^ 166 + b2n r.release * 2 ^ 165
      + (r.stream % 2 ^ 12) * 2 ^ 152 + (r.seq % 2 ^ 32) * 2 ^ 120 + (r.gen % 2 ^ 8) * 2 ^ 112
      + (if r.op = 4 ∨ r.op ≤ 3 ∨ r.op = 6 ∨ r.op = 7 then bits r.addr 0 48 * 2 ^ 64 else 0)
      + ((r.len - 1) % 2 ^ 13) * 2 ^ 51 + (r.aop % 16) * 2 ^ 47 + (r.atype % 8) * 2 ^ 44 + (r.opnd % 2 ^ 32) * 2 ^ 8,
    payload := r.payload }

end Sys2Proof.Machine
end

