-- ==== Sys2Proof/Machine/Link.lean ====
section
/-! DEFINITION. Link blocks (R227, R228), cells (R248) and the sending end of a link (R230 to R233, R515). -/

namespace Sys2Proof.Machine

/-! ### Ports -/

/-- The link layer of a port. -/
def State.port (s : State) (p : Nat) : PortSt := KMap.get s.ports PortSt.init p
/-- Writes it. -/
def State.setPort (s : State) (p : Nat) (x : PortSt) : State := { s with ports := KMap.set s.ports PortSt.init p x }

/-- PORT_STATE codes (R244). -/
def portDisabled : Nat := 0
/-- TRAINING. -/
def portTraining : Nat := 1
/-- UP. -/
def portUp : Nat := 2
/-- DOWN. -/
def portDown : Nat := 3
/-- DOWN_HELD. -/
def portHeld : Nat := 4
/-- PEER_SCRATCHED. -/
def portPeerScratched : Nat := 5
/-- LOOPBACK. -/
def portLoopback : Nat := 6
/-- SELF_SCRATCHED. -/
def portSelfScratched : Nat := 7
/-- PEER_REST. -/
def portPeerRest : Nat := 8

/-- PORT_STATE of a port. -/
def State.portState (s : State) (p : Nat) : Nat := s.rd Obj.portState p
/-- Writes PORT_STATE with the time of the change (R244). -/
def State.setPortState (s : State) (p st : Nat) : State :=
  if s.portState p = st then s else (s.wr Obj.portState p st).wrFld Obj.portInfo p 96 64 (s.now % 2 ^ 64)
/-- MODE of a port (R220): 0 DISABLED, 1 FABRIC, 2 NEAR_LOOP, 3 FAR_LOOP. -/
def State.portMode (s : State) (p : Nat) : Nat := s.fld Obj.portConfig p 0 2
/-- Whether a port has its link cipher on (R244). -/
def State.cipherOn (s : State) (p : Nat) : Bool := (s.rd Obj.portConfig p).testBit 3
/-- The LOOP basis of a port in ns (R234). -/
def State.loopBasis (s : State) (p : Nat) : Nat := s.fld Obj.portInfo p 32 32
/-- H of a port in cells (R234). -/
def State.portH (s : State) (p : Nat) : Nat := s.fld Obj.portInfo p 64 16
/-- The device ID of a port's peer. -/
def State.portPeer (s : State) (p : Nat) : Nat := s.fld Obj.portInfo p 0 16
/-- Adds to a count of PORT_ERRORS: 0 corrected symbols, 1 uncorrectable codewords, 2 LCRC failures, 3 replays, 4 downs, 5
overruns, 6 loop measurements above the basis (R244). -/
def State.portError (s : State) (p k n : Nat) : State := s.inc Obj.portErrors p (64 * k) 64 n

/-! ### Cells -/

/-- The cells of a frame of `plen` payload bytes (R248). -/
def cellsOf (plen : Nat) : Nat := ceilDiv (32 + plen) 248

/-- The largest payload of a buffer class (R249). -/
def maxPlen (cls : Nat) : Nat := if cls = 4 then 9216 else 4096

/-- The bytes of a frame: the header, most significant byte first, then the payload (R186). -/
def frameBytes (hdr : Nat) (payload : List Byte) : List Byte := beBytes 32 hdr ++ payload

/-- Cell `k` of a frame of `n` bytes: the cell header, then its 248 data bytes, zeros past the end (R248). -/
def cellBytes (bytes : List Byte) (k : Nat) : List Byte :=
  let n := ceilDiv bytes.length 248
  let vlen := min 248 (bytes.length - 248 * k)
  beBytes 8 (b2n (k == 0) * 2 ^ 63 + b2n (k + 1 == n) * 2 ^ 62 + vlen * 2 ^ 53) ++ sliceBytes bytes (248 * k) 248

/-- The ABORT cell (R248): LAST 1, VLEN 0. -/
def abortCell : List Byte := beBytes 8 (2 ^ 62 + 2 ^ 61) ++ List.replicate 248 0

/-! ### Blocks -/

/-- Block types (R227). -/
def blkIdle : Nat := 0
/-- CELL. -/
def blkCell : Nat := 1
/-- TRAIN. -/
def blkTrain : Nat := 2
/-- LOOP. -/
def blkLoop : Nat := 3
/-- TAG. -/
def blkTag : Nat := 4
/-- REST. -/
def blkRest : Nat := 0xD
/-- SCRATCH. -/
def blkScratch : Nat := 0xE

/-- The link CRC (R228) over the body and trailer bits [127:32]. -/
def lcrc (body : List Byte) (trailer : Nat) : Nat :=
  (crcR 0xEDB88320 0xFFFFFFFF (body ++ beBytes 12 (trailer / 2 ^ 32))) ^^^ 0xFFFFFFFF

/-- The buffer classes that are OFF at a port's ingress: bit c (R231, R233). -/
def State.xoffOut (s : State) (p : Nat) : Nat :=
  (List.range 5).foldl (fun a c => a + b2n (KMap.get s.offAt none (5 * p + c)).isSome * 2 ^ c) 0

/-- The trailer of a block that a port sends (R227): ACK and NAK as the receiving end stands, XOFF, and the LCRC. -/
def State.trailer (s : State) (p type cls seq info : Nat) (echo : Bool) (body : List Byte) : Nat :=
  let x := s.port p
  let t := type * 2 ^ 124 + cls * 2 ^ 121 + (seq % 4096) * 2 ^ 108 + ((x.expect + 4095) % 4096) * 2 ^ 96
    + b2n x.nakOut * 2 ^ 95 + s.xoffOut p * 2 ^ 90 + b2n echo * 2 ^ 88 + (info % 2 ^ 48) * 2 ^ 32
  t + lcrc body t

/-- The ACK, NAK and XOFF that a port's blocks carry now, as one number above 0 (R227, R230, R233). -/
def State.linkCode (s : State) (p : Nat) : Nat :=
  let x := s.port p
  1 + s.xoffOut p + 32 * (b2n x.nakOut + 2 * ((x.expect + 4095) % 4096))

/-- Sends a block: its 256-byte body, then its trailer, most significant byte first (R227). -/
def State.sendBlock (s : State) (p type cls seq info : Nat) (echo : Bool) (body : List Byte) : State :=
  let t := s.send (.block p type (body ++ beBytes 16 (s.trailer p type cls seq info echo body)))
  t.setPort p { t.port p with shown := s.linkCode p }

/-- A body of 256 zero bytes. -/
def zeroBody : List Byte := List.replicate 256 0

/-- Closes the open cipher group of a port: its TAG block goes out and the group counter rises (R515). -/
def State.closeGroup (s : State) (p : Nat) : State :=
  let x := s.port p
  if x.openOut.isEmpty then s
  else
    let tag := Config.sm4Tag x.keyOut x.groupOut x.openOut.flatten
    let s := s.setPort p { x with openOut := [], groupOut := x.groupOut + 1 }
    s.sendBlock p blkTag 0 0 x.groupOut false (fitBytes 256 (leBytes 16 tag))

/-- Sends a stored CELL, in clear or as the next of its cipher group (R515). -/
def State.sendCell (s : State) (p seq cls : Nat) (body : List Byte) : State :=
  if s.cipherOn p then
    let x := s.port p
    let n := x.openOut.length
    let s := s.setPort p { x with openOut := x.openOut ++ [body] }
    let s := s.sendBlock p blkCell cls seq 0 false (fitBytes 256 (Config.sm4 x.keyOut (x.groupOut * 32 + n) body))
    if n + 1 = 32 then s.closeGroup p else s
  else s.sendBlock p blkCell cls seq 0 false body

/-- Whether a port may send a new CELL of a class (R231, R233). -/
def State.linkFree (s : State) (p cls : Nat) : Bool :=
  let x := s.port p
  s.portState p == portUp && !s.scratched && !x.peerXoff.testBit cls && decide (x.stored.length < 2048)

/-- Numbers, stores and sends a new CELL (R230). -/
def State.newCell (s : State) (p cls : Nat) (body : List Byte) : State :=
  let x := s.port p
  let seq := x.nextSeq
  let s := s.setPort p { x with nextSeq := (seq + 1) % 4096, stored := x.stored ++ [⟨seq, cls, s.now, body⟩] }
  s.sendCell p seq cls body

/-- What an UP port sends when it has no CELL to send: the TAG block that closes an open group (R515), and an IDLE block where
the ACK, NAK or XOFF has changed since its last block (R227, R230, R233). A run of IDLE blocks that say the same stands in
`out` as one (log entry 24). -/
def State.idleBlock (s : State) (p : Nat) : State :=
  if s.portState p ≠ portUp ∨ s.scratched then s
  else
    let s := s.closeGroup p
    if (s.port p).shown = s.linkCode p then s else s.sendBlock p blkIdle 0 0 0 false zeroBody

/-- The same at every port. -/
def State.idleBlocks (s : State) : State := foldUp (fun p s => s.idleBlock p) 0 64 s

/-- Sends bytes in the INFO fields of TRAIN blocks, 6 bytes to a block in order, the first in the lowest bits (R227, R238,
R514; log entry 89). -/
def State.sendInfo (s : State) (p : Nat) (bytes : List Byte) : State :=
  foldUp (fun k s => s.sendBlock p blkTrain 0 0 (leCode (sliceBytes bytes (6 * k) 6)) false zeroBody) 0 (ceilDiv bytes.length 6) s

end Sys2Proof.Machine
end

