-- ==== Sys2Proof/Machine/Track.lean ====
section
/-! DEFINITION. The Track: buffer allowances (R258 to R260), the checks on arrival (R250, R251), unicast and multicast
routing (R262 to R266, R270 to R275), and the copies that frames leave at egress positions (R272, R278). -/

namespace Sys2Proof.Machine

/-! ### Allowances -/

/-- GUAR of a class (R258). -/
def State.guar (s : State) (c : Nat) : Nat := s.fld Obj.classBuf c 0 32
/-- The guarantees of all positions and classes. -/
def State.guarantees (s : State) : Nat := 80 * ((List.range 5).map s.guar).sum
/-- The size of the shared pool (R258). -/
def State.sharedSize (s : State) : Nat := 524288 - s.rd Obj.headroomLimit 0 - s.guarantees
/-- Free cells of the shared pool (R259). -/
def State.sharedFree (s : State) : Nat := s.sharedSize - (s.charges.map fun p => p.2.1).sum
/-- Cells of ingress position i in class c (R233, R259). -/
def State.posCount (s : State) (i c : Nat) : Nat := s.rd Obj.positionCount (5 * i + c)
/-- The allowance A(i, c) (R259). -/
def State.allowance (s : State) (c : Nat) : Nat := s.guar c + s.sharedFree * s.fld Obj.classBuf c 32 4 / 16

/-- The OFF state of one class of a port for the allowance `a` (R231, R259): OFF when the count reaches it, which is kept
(R260), ON at 8 below. -/
def offStep (a n : Nat) : Option Nat → Option Nat
  | none => if a ≤ n then some a else none
  | some k => if n + 8 ≤ a then none else some k

/-- The OFF state of every port and class for F as it stands (R259): F moves with the cells of every position, and with a
write of HEADROOM_LIMIT or CLASS_BUF. -/
def State.offUpdate (s : State) : State :=
  let free := s.sharedFree
  foldUp (fun c s =>
    let a := s.guar c + free * s.fld Obj.classBuf c 32 4 / 16
    foldUp (fun i s =>
      let k := 5 * i + c
      let was := KMap.get s.offAt none k
      let now := offStep a (s.posCount i c) was
      if now = was then s else { s with offAt := KMap.set s.offAt none k now }) 0 64 s) 0 5 s

/-- The Track at the end of a cell time: the OFF states (R259), BUF_USAGE and MC_RESIDUE (R282, R272), and what the ports
send when their cells are sent. -/
def State.trackNote (s : State) : State :=
  let s := s.offUpdate
  let used := ((List.range 400).map fun k => s.rd Obj.positionCount k).sum
  let top := max used (s.fld Obj.bufUsage 0 160 32)
  let s := s.wr Obj.bufUsage 0 (s.rd Obj.headroomLimit 0 + s.guarantees * 2 ^ 32 + s.sharedSize * 2 ^ 64
    + s.sharedFree * 2 ^ 96 + used * 2 ^ 128 + top * 2 ^ 160)
  (s.wr Obj.mcResidue 0 (s.copies.filter fun k => k.mcast && !k.began).length).idleBlocks

/-- Charges one cell that arrives (R259). -/
def State.chargeCell (s : State) (i c : Nat) : State :=
  let n := s.posCount i c
  let k := 5 * i + c
  let x := KMap.get s.charges (0, 0) k
  let x := if n < s.guar c then x else if n < s.allowance c then (x.1 + 1, x.2) else (x.1, x.2 + 1)
  let s := { s with charges := KMap.set s.charges (0, 0) k x }
  s.wr Obj.positionCount k (n + 1)

/-- Charges the `n` cells of a local channel's frame, one after the other, none while the count is at its allowance (R259):
none where the frame must wait. -/
def State.chargeLocal (s : State) (i c : Nat) : Nat → Option State
  | 0 => some s
  | n + 1 => if s.posCount i c < s.allowance c then (s.chargeCell i c).chargeLocal i c n else none

/-- Releases one cell that leaves: headroom first, then the shared pool, then the guarantee (R259). -/
def State.releaseCell (s : State) (i c : Nat) : State :=
  let k := 5 * i + c
  let x := KMap.get s.charges (0, 0) k
  let x := if 0 < x.2 then (x.1, x.2 - 1) else (x.1 - 1, x.2)
  let s := { s with charges := KMap.set s.charges (0, 0) k x }
  s.wr Obj.positionCount k (s.posCount i c - 1)

/-- Releases `n` cells. -/
def State.releaseCells (s : State) (i c n : Nat) : State := foldUp (fun _ s => s.releaseCell i c) 0 n s

/-- Whether one more cell of a port's class overruns (R237, R260): the count would pass the allowance at which the class
last turned OFF plus H. -/
def State.overruns (s : State) (i c : Nat) : Bool :=
  match KMap.get s.offAt none (5 * i + c) with
  | some a => decide (a + s.portH i < s.posCount i c + 1)
  | none => false

/-! ### Drops -/

/-- Counts a drop in its field of DROP_COUNTS (R284): 0 malformed, 1 class mismatch, 2 hop limit, 3 bad destination, 4 no
usable route, 5 turn, 6 U-turn, 7 multicast refused, 8 port left UP, 9 FWD aged, 10 ABORT cells, 11 RSP without
requester. -/
def State.countDrop (s : State) (k : Nat) : State := s.inc Obj.dropCounts 0 (64 * k) 64 1

/-! ### The checks on arrival -/

/-- The buffer classes that a kind of traffic class may use (R251). -/
def kindAllows (kind cls : Nat) : Bool :=
  match kind with
  | 0 => cls == 0
  | 1 => cls == 1 || cls == 2
  | 2 => cls == 3
  | _ => cls == 4

/-- R250: which field a frame is dropped under on arrival, if it is. `cls` is the class of its link trailers. -/
def State.arrivalDrop (s : State) (f : Frame) (i cls : Nat) : Option Nat :=
  if bits f.hdr 192 4 ≠ 0 ∨ maxPlen f.bclass < f.plen ∨ (f.mc ∧ bits f.hdr 252 4 ≠ 0) then some 0
  else if !kindAllows (s.rd Obj.tcKind f.tc) f.bclass ∨ (i < 64 ∧ cls ≠ f.bclass) then some 1
  else if i < 64 ∧ f.hops = 0 then some 2
  else none

/-! ### Routing -/

/-- What a lookup decides: a drop in a field of DROP_COUNTS, or the egress position. -/
inductive Route
  | drop (field : Nat)
  | egress (egress : Nat)
  deriving DecidableEq, Repr

/-- Whether a port is usable (R263). -/
def State.usable (s : State) (p : Nat) : Bool := (s.rd Obj.portUsable 0).testBit p && s.portState p == portUp

/-- Whether a buffer class is checked (R281). -/
def State.classChecked (s : State) (c : Nat) : Bool := (s.rd Obj.classChecked 0).testBit c

/-- The CLE channel of a frame from an ingress position (R265). -/
def cleChannel (i : Nat) : Nat := if i < 32 ∨ i = 72 ∨ i = 73 ∨ i = 76 ∨ i = 78 then 76 else 77

/-- The local channel of a frame whose entry is LOCAL (R265). -/
def localChannel (f : Frame) (i : Nat) : Nat :=
  match f.bclass with
  | 0 => 79
  | 1 => 64 + bits f.hdr 181 3
  | 2 => 64 + (if f.ordered then f.stream % 8
      else if f.region = 0 then bits f.off 38 3
      else if f.region = 1 then bits f.off 38 4 % 8
      else if f.region = 2 then bits f.off 30 3 else 0)
  | 3 => cleChannel i
  | _ => 78

/-- The stream-unit channel of a diverted frame (R308): that of the slot its DIVERT_MAP entry names. -/
def State.divertChannel (s : State) (f : Frame) : Nat :=
  72 + bits (s.rd Obj.divertMap ((if f.bclass = 4 then 4096 else 0) + f.dest % 4096)) 0 8 / 64

/-- The unicast lookup of R262 for a frame at ingress position i. -/
def State.routeUnicast (s : State) (f : Frame) (i : Nat) : Route :=
  let c := f.bclass
  let fromPort := decide (i < 64)
  if 0x0FFF < f.dest then (if f.dest = 0xFFFF ∧ c = 0 ∧ fromPort then .egress 79 else .drop 3)
  else
    let e := s.rd Obj.routeActive (65536 * c + f.dest)
    if !e.testBit 0 then .drop 4
    else if e.testBit 1 then .egress (localChannel f i)
    else if e.testBit 3 ∧ ¬ (72 ≤ i ∧ i ≤ 75) then .egress (s.divertChannel f)
    else if s.classChecked c ∧ fromPort ∧ s.rd Obj.orientActive i = 1 ∧ !e.testBit 2 then .drop 5
    else
      let primary := bits e 4 6
      let standby := bits e 11 6
      if s.usable primary then (if fromPort ∧ primary = i then .drop 6 else .egress primary)
      else if e.testBit 10 ∧ s.usable standby then (if fromPort ∧ standby = i then .drop 6 else .egress standby)
      else .drop 4

/-- The egress positions of an accepted multicast frame, and how many ports get no copy because they are not usable
(R271, R272, R274); none where the frame is refused. -/
def State.routeMulticast (s : State) (f : Frame) (i : Nat) : Option (List Nat × Nat) :=
  let g := f.dest % 4096
  let m := s.rd Obj.mcActive g
  let rootLocal := m.testBit 65
  let cls := bits m 72 3
  let fits := m.testBit 64 ∧ cls = f.bclass
    ∧ (if rootLocal then 64 ≤ i else i = bits m 66 6)
  if ¬ fits then none
  else
    let ports := setBitsOf (bits m 0 64) 64
    let here := ports.filter s.usable
    let cores := if m.testBit 75 then [if cls = 0 then 79 else cleChannel i] else []
    let sus := if m.testBit 76 then [72 + bits (s.rd Obj.mcSuMap g) 0 8 / 64] else []
    let host := if m.testBit 77 then [78] else []
    some (here ++ cores ++ sus ++ host, ports.length - here.length)

/-! ### Frames and copies -/

/-- The frame with a number. -/
def State.frameOf (s : State) (id : Nat) : Option TrackFrame := s.frames.find? fun x => x.id == id

/-- Replaces a frame. -/
def State.setFrame (s : State) (x : TrackFrame) : State :=
  { s with frames := s.frames.map fun y => if y.id = x.id then x else y }

/-- Replaces a copy: the copies of one frame are told apart by their egress position. -/
def State.setCopy (s : State) (k : TrackCopy) : State :=
  { s with copies := s.copies.map fun y => if y.frame = k.frame ∧ y.egress = k.egress then k else y }

/-- Takes a copy out. -/
def State.dropCopy (s : State) (k : TrackCopy) : State :=
  { s with copies := s.copies.filter fun y => !(y.frame == k.frame && y.egress == k.egress) }

/-- The header and payload of a frame as a frame. -/
def TrackFrame.frame (x : TrackFrame) : Frame := ⟨x.hdr, x.payload⟩

/-- How many cells a frame has in all. -/
def TrackFrame.cells (x : TrackFrame) : Nat := cellsOf x.frame.plen

/-- A frame that has no copy left and no cell to come leaves the buffer, and its cells are freed (R272). -/
def State.reapFrame (s : State) (id : Nat) : State :=
  match s.frameOf id with
  | none => s
  | some x =>
    if s.copies.any (fun k => k.frame == id) then s
    else
      let s := s.releaseCells x.ingress x.cls (x.banks.length - x.freed)
      if x.complete then { s with frames := s.frames.filter fun y => y.id != id }
      else s.setFrame { x with freed := x.banks.length, dropped := true }

/-- The cells that wait in the queue of an egress position and class (R278). -/
def State.queueCells (s : State) (e c : Nat) : Nat :=
  (s.copies.map fun k =>
    match s.frameOf k.frame with
    | some x => if k.egress = e ∧ x.cls = c ∧ (k.queued ∨ 64 ≤ e) then x.banks.length - k.sent else 0
    | none => 0).sum

/-- Marks a copy that takes its place behind at least MARK_THRESHOLD cells (R278). -/
def State.markCopy (s : State) (k : TrackCopy) (c : Nat) : TrackCopy × State :=
  let limit := s.rd Obj.markThreshold c
  if limit ≠ 0 ∧ limit ≤ s.queueCells k.egress c then
    ({ k with hdr := setBits k.hdr 216 1 1 }, s.inc Obj.markCount (5 * k.egress + c) 0 64 1)
  else (k, s)

/-- Leaves a copy of a frame at an egress position. A copy for a port waits for its flow (FLOW_ENQUEUE); a copy for a
local channel takes its place at once. A frame from a port leaves by a port with HOPS one lower (R250). -/
def State.addCopy (s : State) (x : TrackFrame) (mcast : Bool) (e : Nat) : State :=
  let f := x.frame
  let hdr := if x.ingress < 64 ∧ e < 64 then (f.set 210 6 (f.hops - 1)).hdr else x.hdr
  let k : TrackCopy := { frame := x.id, egress := e, hdr := hdr, mcast := mcast, queued := decide (64 ≤ e), flow := 0,
                         pick := none, staged := [], sent := 0, began := false, time := s.now }
  let r := if e < 64 then (k, s) else s.markCopy k x.cls
  { r.2 with copies := r.2.copies ++ [r.1] }

/-- Enters a frame whose header has arrived. A local channel's frame is whole; its cells go to the banks in turn (R253). -/
def State.newFrame (s : State) (i cls hdr : Nat) (payload : List Byte) (banks : List Nat) (whole : Bool) : State :=
  let x : TrackFrame := { id := s.nextFrame, ingress := i, hdr := hdr, payload := payload, cls := cls, banks := banks,
                          complete := whole, looked := false, dropped := false, aborted := false, freed := 0 }
  { s with frames := s.frames ++ [x], nextFrame := s.nextFrame + 1 }

end Sys2Proof.Machine
end

