-- ==== Sys2Proof/Machine/Tmg.lean ====
section
/-! DEFINITION. The traffic manager (spec/10_traffic_manager.md): flows (R287, R288), shapers and policers (R294 to R299),
candidates, colours and the deficit round-robin (R289 to R293), and moves between rings (R538). -/

namespace Sys2Proof.Machine

/-! ### Numbers of nodes -/

/-- The model's number of a port node (R285). -/
def nodePort (p : Nat) : Nat := p
/-- Of a class node, 8p + t in its object. -/
def nodeClass (k : Nat) : Nat := 100 + k
/-- Of a group node, 256p + 32t + g in its object. -/
def nodeGroup (k : Nat) : Nat := 1000 + k
/-- Of a flow. -/
def nodeFlow (f : Nat) : Nat := 100000 + f
/-- Of a policer. -/
def nodePolicer (f : Nat) : Nat := 1000000 + f

/-- The entry of a node, laid out as R301. -/
def State.nodeEntry (s : State) (n : Nat) : Nat :=
  if n < 100 then s.rd Obj.portNode n else if n < 1000 then s.rd Obj.classNode (n - 100) else s.rd Obj.groupNode (n - 1000)

/-- A flow's field (R302). -/
def State.flowFld (s : State) (f lo w : Nat) : Nat := s.fld Obj.flowTable f lo w
/-- The group node of a flow. -/
def State.flowGroup (s : State) (f : Nat) : Nat :=
  nodeGroup (256 * s.flowFld f 3 6 + 32 * s.flowFld f 9 3 + s.flowFld f 24 5)
/-- The parent of a node. -/
def State.nodeParent (s : State) (n : Nat) : Nat :=
  if 100000 ≤ n then s.flowGroup (n - 100000)
  else if 1000 ≤ n then nodeClass ((n - 1000) / 32) else nodePort ((n - 100) / 8)
/-- PRIO of a child within its parent. -/
def State.childPrio (s : State) (n : Nat) : Nat :=
  if 100000 ≤ n then s.flowFld (n - 100000) 29 2 else bits (s.nodeEntry n) 0 2
/-- QUANTUM of a child. -/
def State.childQuantum (s : State) (n : Nat) : Nat :=
  if 100000 ≤ n then s.flowFld (n - 100000) 48 32 else bits (s.nodeEntry n) 32 32

/-- The ring of a node for a priority, the pointer's child first. -/
def State.ring (s : State) (n q : Nat) : List Nat := KMap.get s.rings [] (4 * n + q)
/-- Writes it. -/
def State.setRing (s : State) (n q : Nat) (l : List Nat) : State := { s with rings := KMap.set s.rings [] (4 * n + q) l }
/-- The credit of a child. -/
def State.credit (s : State) (n : Nat) : Int := KMap.get s.credits 0 n
/-- Writes it. -/
def State.setCredit (s : State) (n : Nat) (x : Int) : State := { s with credits := KMap.set s.credits 0 n x }

/-! ### Rings -/

/-- A child wakes: into the ring of its PRIO immediately before the pointer, its credit as the parent's WAKE says (R292). -/
def State.wakeChild (s : State) (n : Nat) : State :=
  let p := s.nodeParent n
  let q := s.childPrio n
  let s := if (s.nodeEntry p).testBit 2 then s.setCredit n (min (s.credit n) 0) else s
  s.setRing p q (s.ring p q ++ [n])

/-- Takes a child out of every ring of a parent (R292). -/
def State.unring (s : State) (p n : Nat) : State :=
  (List.range 4).foldl (fun s q => s.setRing p q ((s.ring p q).filter fun c => c != n)) s

/-- Whether a node has a child in a ring, so that it holds a copy. -/
def State.nodeBusy (s : State) (n : Nat) : Bool := (List.range 4).any fun q => !(s.ring n q).isEmpty

/-- The parent in one of whose rings a child that holds copies stands: its old one while a move is due (R538). -/
def State.home (s : State) (n : Nat) : Nat :=
  match s.moves.find? (fun m => m.1 == n) with
  | some m => m.2
  | none => s.nodeParent n

/-- A child that holds no more copies leaves its ring; a move that was due lapses with it (R292, R538). -/
def State.leaveRing (s : State) (n : Nat) : State :=
  let s := s.unring (s.home n) n
  { s with moves := s.moves.filter fun m => m.1 != n }

/-- A flow has received a copy: the flow and the nodes above it that held none wake (R292). -/
def State.flowFills (s : State) (f : Nat) : State :=
  if s.flowFld f 96 32 ≠ 0 then s
  else
    let g := s.flowGroup f
    let c := s.nodeParent g
    let s1 := if s.nodeBusy c then s else s.wakeChild c
    let s2 := if s.nodeBusy g then s1 else s1.wakeChild g
    s2.wakeChild (nodeFlow f)

/-- A free flow's entry (R288, R302): every field at its default. -/
def State.freeFlow (s : State) (f : Nat) : State := s.wr Obj.flowTable f (factory Obj.flowTable f)

/-- A flow whose last copy has left leaves its ring, and so do the nodes above it that hold no more (R292). A DRAINING flow
is freed (R288). -/
def State.flowEmpties (s : State) (f : Nat) : State :=
  let g := s.home (nodeFlow f)
  let c := s.nodeParent g
  let s := s.leaveRing (nodeFlow f)
  let s := if s.nodeBusy g then s else s.leaveRing g
  let s := if s.nodeBusy c then s else s.leaveRing c
  if s.flowFld f 0 2 = 2 then s.freeFlow f else s

/-- One copy leaves a flow, sent or dropped. -/
def State.flowLess (s : State) (f : Nat) : State :=
  let n := s.flowFld f 96 32
  let s := s.wrFld Obj.flowTable f 96 32 (n - 1)
  if n ≤ 1 then s.flowEmpties f else s

/-- A copy leaves its egress queue without being sent. -/
def State.unqueueCopy (s : State) (k : TrackCopy) : State :=
  let s := if k.queued ∧ k.egress < 64 ∧ k.pick.isNone then s.flowLess k.flow else s
  (s.dropCopy k).reapFrame k.frame

/-- The port a node or flow belongs to (R285). -/
def State.nodePortOf (s : State) (n : Nat) : Nat :=
  if 100000 ≤ n then s.flowFld (n - 100000) 3 6
  else if 1000 ≤ n then (n - 1000) / 256
  else if 100 ≤ n then (n - 100) / 8
  else n

/-- The PRIO or GROUP of a child that holds copies has been written (R538): its move is due at its port's next pick;
`parent` is where it stands. A child without copies takes its new place at its next wake. -/
def State.moveDue (s : State) (parent n : Nat) (holds : Bool) : State :=
  if !holds || s.moves.any (fun m => m.1 == n) then s else { s with moves := s.moves ++ [(n, parent)] }

/-- A child moves to the ring of its present PRIO under its present parent, as a waking child (R538); the nodes above wake,
or leave their rings, as their children come and go. -/
def State.moveChild (s : State) (n : Nat) : State :=
  let old := s.home n
  let s := s.leaveRing n
  let p := s.nodeParent n
  let s := if s.nodeBusy p || p == old then s else s.wakeChild p
  let s := s.wakeChild n
  if s.nodeBusy old then s else s.leaveRing old

/-- The moves that a port's first pick after the writes makes (R538). Of several, the first written goes first (log entry
88). -/
def State.settleMoves (s : State) (port : Nat) : State :=
  (s.moves.filter fun m => s.nodePortOf m.1 == port).foldl
    (fun s m => if s.moves.any (fun k => k.1 == m.1) then s.moveChild m.1 else s) s

/-! ### Counted length and buckets -/

/-- The counted length of R294: `cells` and `overhead` as LMODE and OVERHEAD say. -/
def countedLength (cellMode : Bool) (overhead : Nat) (plen : Nat) : Nat :=
  let base : Int := if cellMode then 256 * cellsOf plen else 32 + plen
  (max 1 (base + signed overhead 16)).toNat

/-- The counted length at a node. -/
def State.nodeLength (s : State) (n plen : Nat) : Nat :=
  let e := s.nodeEntry n
  countedLength (e.testBit 3) (bits e 16 16) plen

/-- Colours from better to worse (R290). -/
inductive Colour
  | green | yellow | red
  deriving DecidableEq, Repr

/-- The worse of two colours. -/
def Colour.worse : Colour → Colour → Colour
  | .red, _ => .red
  | _, .red => .red
  | .yellow, _ => .yellow
  | _, .yellow => .yellow
  | .green, .green => .green

/-- The parameters of a bucket pair: the mode (0 off, 1 two-rate, 2 single), rates in kbit/s, sizes in bytes. -/
structure Shape where
  mode : Nat
  cir : Nat
  pir : Nat
  cbs : Nat
  pbs : Nat
  deriving DecidableEq, Repr

/-- What `dt` ns at a rate add, in units of 2^-20 byte, rounded down (R295). -/
def refill (rate dt : Nat) : Nat := rate * dt * 2 ^ 20 / 8000000

/-- A bucket brought up to the present (R295, R296); one that nothing has tested or written since the reset is unlisted, and
full at its first test (log entry 88); one whose rate is 0 holds 0. -/
def Shape.fill (h : Shape) (b : Option Bucket) (now : Nat) : Bucket :=
  let cap (x : Nat) : Int := (x * 2 ^ 20 : Nat)
  match b with
  | none => ⟨if h.cir = 0 then 0 else cap h.cbs, if h.mode = 2 ∨ h.pir = 0 then 0 else cap h.pbs, now⟩
  | some b =>
    let dt := now - b.last
    ⟨if h.cir = 0 then 0 else min (cap h.cbs) (b.tc + refill h.cir dt),
      if h.pir = 0 then 0 else min (cap h.pbs) (b.tp + refill h.pir dt), now⟩

/-- The colour a bucket gives for a counted length. -/
def Shape.colour (h : Shape) (b : Bucket) (l : Nat) : Colour :=
  let need : Int := (l * 2 ^ 20 : Nat)
  if h.mode = 0 then .green
  else if h.mode = 2 then (if 0 < b.tc then .green else .red)
  else if b.tp < need then .red else if b.tc < need then .yellow else .green

/-- The bucket after a send with a colour; what is red is not sent, and its length is not debited (R299). -/
def Shape.debit (h : Shape) (b : Bucket) (l : Nat) (c : Colour) : Bucket :=
  let need : Int := (l * 2 ^ 20 : Nat)
  if h.mode = 0 ∨ c = .red then b
  else if h.mode = 2 then { b with tc := b.tc - need }
  else match c with
    | .green => { b with tc := b.tc - need, tp := b.tp - need }
    | .yellow => { b with tp := b.tp - need }
    | .red => b

/-- The shaper of a node. -/
def State.nodeShape (s : State) (n : Nat) : Shape :=
  let e := s.nodeEntry n
  ⟨bits e 4 2, bits e 64 32, bits e 96 32, bits e 128 32, bits e 160 32⟩

/-- A node's own colour for its candidate, with its bucket refilled (R290, R295). -/
def State.testShaper (s : State) (n plen : Nat) : Colour × State :=
  let h := s.nodeShape n
  if h.mode = 0 then (.green, s)
  else
    let b := h.fill (KMap.get s.buckets none n) s.now
    (h.colour b (s.nodeLength n plen), { s with buckets := KMap.set s.buckets none n (some b) })

/-- Debits a node's shaper. -/
def State.debitShaper (s : State) (n plen : Nat) (c : Colour) : State :=
  let h := s.nodeShape n
  match KMap.get s.buckets none n with
  | some b => { s with buckets := KMap.set s.buckets none n (some (h.debit b (s.nodeLength n plen) c)) }
  | none => s

/-! ### Picking -/

/-- A node's candidate at a pick: the copy, the colours its path gives, and the path from the node's chosen child down to
the flow. -/
structure Candidate where
  copy : TrackCopy
  colour : Colour
  own : List (Nat × Colour)
  path : List (Nat × Nat)
  deriving DecidableEq, Repr

/-- Whether a copy is eligible at its port (R289). A copy that the TMG has picked is no longer queued: picks run ahead of the
transmission (R293), and the departures keep the order (R255). -/
def State.copyEligible (s : State) (k : TrackCopy) : Bool :=
  match s.frameOf k.frame with
  | none => false
  | some x =>
    let older := s.copies.any fun j => j.egress == k.egress && j.pick.isNone && decide (j.frame < k.frame)
      && (match s.frameOf j.frame with
        | some y => y.ingress == x.ingress && bits y.hdr 221 3 == bits x.hdr 221 3
        | none => false)
    let ready := if (s.rd Obj.portSaf k.egress).testBit x.cls then x.complete else !x.banks.isEmpty
    k.queued && k.pick.isNone && !older && ready && !(s.port k.egress).peerXoff.testBit x.cls

/-- The candidate of a flow (R289): the eligible copy whose header reached the port first. `copies` keeps the order of the
lookups. -/
def State.flowCandidate (s : State) (p f : Nat) : Option TrackCopy :=
  s.copies.find? fun k => k.egress == p && k.flow == f && s.copyEligible k

/-- The loop of R291 over a ring, the pointer's child first: the chosen child's place, with the credits on the way. -/
def drrLoop (ok : Nat → Bool) : Nat → List Nat → State → Option (List Nat × State)
  | 0, _, _ => none
  | _ + 1, [], _ => none
  | k + 1, c :: rest, s =>
    if ok c then
      if 0 < s.credit c then some (c :: rest, s)
      else drrLoop ok k (rest ++ [c]) (s.setCredit c (s.credit c + s.childQuantum c))
    else drrLoop ok k (rest ++ [c]) s

/-- The choice of a node among its children's candidates (R290, R291): the best band, then the loop. -/
def State.chooseChild (s : State) (n : Nat) (cands : List (Nat × Candidate)) : Option (Nat × Candidate × State) :=
  let bands := [(Colour.green, 0), (.green, 1), (.green, 2), (.green, 3), (.yellow, 0), (.yellow, 1), (.yellow, 2), (.yellow, 3)]
  let ok (b : Colour × Nat) (c : Nat) : Bool := cands.any fun x => x.1 == c && x.2.colour == b.1
  match bands.find? (fun b => (s.ring n b.2).any (ok b)) with
  | none => none
  | some b =>
    let ring := s.ring n b.2
    match drrLoop (ok b) (ring.length * 1024 + 1) ring s with
    | some (c :: rest, s) =>
      (cands.find? fun x => x.1 == c).map fun x => (c, x.2, s.setRing n b.2 (c :: rest))
    | _ => none

/-- The children of a node that hold copies. -/
def State.ringAll (s : State) (n : Nat) : List Nat := (List.range 4).flatMap (s.ring n)

/-- Forms the candidate of a node from those of its children, its shaper tested (R290). -/
def State.nodeCandidate (s : State) (n : Nat) (cands : List (Nat × Candidate)) : Option Candidate × State :=
  match s.chooseChild n cands with
  | none => (none, s)
  | some (c, x, s) =>
    let r := s.testShaper n (Frame.plen ⟨x.copy.hdr, []⟩)
    (some { x with colour := x.colour.worse r.1, own := (n, r.1) :: x.own, path := (n, c) :: x.path }, r.2)

/-- The candidate of a group node: its flows are green. -/
def State.groupCandidate (s : State) (p n : Nat) : Option Candidate × State :=
  let cands := (s.ringAll n).filterMap fun f =>
    (s.flowCandidate p (f - 100000)).map fun k => (f, (⟨k, .green, [], []⟩ : Candidate))
  s.nodeCandidate n cands

/-- The candidates of some children, one after the other; a red one is not eligible to its parent. -/
def gather (cand : State → Nat → Option Candidate × State) : List Nat → State → List (Nat × Candidate) × State
  | [], s => ([], s)
  | c :: cs, s =>
    let r := cand s c
    let rest := gather cand cs r.2
    match r.1 with
    | some x => if x.colour = .red then rest else ((c, x) :: rest.1, rest.2)
    | none => rest

/-- The candidate of a class node. -/
def State.classCandidate (s : State) (p n : Nat) : Option Candidate × State :=
  let g := gather (fun s c => s.groupCandidate p c) (s.ringAll n) s
  g.2.nodeCandidate n g.1

/-- The candidate of a port node. -/
def State.portCandidate (s : State) (p : Nat) : Option Candidate × State :=
  let g := gather (fun s c => s.classCandidate p c) (s.ringAll (nodePort p)) s
  g.2.nodeCandidate (nodePort p) g.1

/-- TMG_PICK (R290 to R293): the port's next candidate is picked, every shaper on its path debited with the colour it
gave, and every chosen child's credit with it. A red port node sends nothing and is counted. The moves that writes have made
due come first (R538). -/
def execTmgPick (port : Nat) (s : State) : Res :=
  if 64 ≤ port then .fault .noSuchUnit
  else if s.scratched || s.portState port != portUp then .next s
  else
    match (s.settleMoves port).portCandidate port with
    | (none, s) => .next s
    | (some x, s) =>
      if x.colour = .red then .next (s.inc Obj.tmgCounts 0 64 64 1)
      else
        let plen := Frame.plen ⟨x.copy.hdr, []⟩
        let s := x.own.foldl (fun s p => s.debitShaper p.1 plen p.2) s
        let s := x.path.foldl (fun s p => s.setCredit p.2 (s.credit p.2 - s.nodeLength p.1 plen)) s
        let s := s.setCopy { x.copy with pick := some s.nextPick }
        .next (({ s with nextPick := s.nextPick + 1 }.flowLess x.copy.flow).trackNote)

/-! ### Flows -/

/-- The key of a copy under FLOW_KEY (R287), none for selector 2. -/
def State.flowKeyOf (s : State) (hdr : Nat) : Option Nat :=
  match s.rd Obj.flowKey (bits hdr 221 3) with
  | 0 => some (bits hdr 224 12)
  | 1 => some (bits hdr 240 12)
  | _ => none

/-- The entries of the flow table that the store lists, as flow numbers at or above 512; an entry it does not list is free. -/
def State.createdFlows (s : State) : List Nat :=
  (s.objs.filter fun p => p.1 / 2 ^ 32 == Obj.flowTable && decide (512 ≤ p.1 % 2 ^ 32)).map fun p => p.1 % 2 ^ 32

/-- The created flow of a (port, TC, key) in a state between `lo` and `hi`. -/
def State.findFlow (s : State) (port tc key lo hi : Nat) : Option Nat :=
  s.createdFlows.find? fun f => decide (lo ≤ s.flowFld f 0 2) && decide (s.flowFld f 0 2 ≤ hi) && s.flowFld f 3 6 == port
    && s.flowFld f 9 3 == tc && s.flowFld f 12 12 == key

/-- The flow a copy goes to (R287). -/
def State.flowFor (s : State) (port hdr : Nat) : Nat :=
  let tc := bits hdr 221 3
  match s.flowKeyOf hdr with
  | some key => (s.findFlow port tc key 1 1).getD (8 * port + tc)
  | none => 8 * port + tc

/-- The parameters of a policer (R303). -/
def State.policerShape (s : State) (x : Nat) : Shape :=
  let e := s.rd Obj.policer x
  ⟨bits e 0 2, bits e 32 32, bits e 64 32, bits e 96 32, bits e 128 32⟩

/-- A policer's test and debit (R299): the colour, and the state. MODE 0 is off. -/
def State.police (s : State) (x plen : Nat) : Colour × State :=
  let e := s.rd Obj.policer x
  let h := s.policerShape x
  if h.mode = 0 then (.green, s)
  else
    let l := countedLength (e.testBit 2) (bits e 16 16) plen
    let b := h.fill (KMap.get s.buckets none (nodePolicer x)) s.now
    let c := h.colour b l
    let s := { s with buckets := KMap.set s.buckets none (nodePolicer x) (some (h.debit b l c)) }
    let k := match c with | .green => 0 | .yellow => 1 | .red => 2
    (c, s.inc Obj.policerCounts x (64 * k) 64 1)

/-- FLOW_ENQUEUE (R287, R299, R278): the oldest copy that waits for a flow at a port takes its place in it, policed first
where the flow is policed, then marked. -/
def execFlowEnqueue (port : Nat) (s : State) : Res :=
  if 64 ≤ port then .fault .noSuchUnit
  else
    match s.copies.find? (fun k => k.egress == port && !k.queued) with
    | none => .next s
    | some k =>
      if s.scratched then .next s
      else
        let f := s.flowFor port k.hdr
        let plen := Frame.plen ⟨k.hdr, []⟩
        let r := if (s.rd Obj.flowTable f).testBit 31 then s.police (s.flowFld f 32 16) plen else (.green, s)
        if r.1 = .red then
          .next (((r.2.dropCopy k).reapFrame k.frame).inc Obj.tmgCounts 0 0 64 1).trackNote
        else
          let cls := Frame.bclass ⟨k.hdr, []⟩
          let m := r.2.markCopy { k with queued := true, flow := f } cls
          let s := m.2.flowFills f
          let s := s.wrFld Obj.flowTable f 96 32 (s.flowFld f 96 32 + 1)
          .next (s.setCopy m.1).trackNote

/-- FLOW_CREATE (R288, R300, R302): CREATE on 7100.02 with the value written. -/
def execFlowCreate (value : Nat) (s : State) : Res :=
  let port := bits value 0 6
  let tc := bits value 6 3
  let key := bits value 9 12
  let kindMgt := s.rd Obj.tcKind tc = 0
  if 2 ^ 64 ≤ value || bits value 45 3 != 0 || bits value 48 8 != 1 || bits value 56 8 != 0 then .next s
  else if (s.findFlow port tc key 1 2).isSome then .next (s.wrFld Obj.flowCmd 0 0 8 3)
  else if value.testBit 28 && decide kindMgt then .next (s.wrFld Obj.flowCmd 0 0 8 4)
  else
    match firstBelow 130560 (fun k => s.flowFld (512 + k) 0 2 == 0) with
    | none => .next ((s.wrFld Obj.flowCmd 0 0 8 2).inc Obj.tmgCounts 0 128 64 1)
    | some k =>
      let f := 512 + k
      let s := s.wr Obj.flowTable f (1 + port * 2 ^ 3 + tc * 2 ^ 9 + key * 2 ^ 12 + bits value 21 5 * 2 ^ 24
        + bits value 26 2 * 2 ^ 29 + bits value 28 1 * 2 ^ 31 + bits value 29 16 * 2 ^ 32 + 16384 * 2 ^ 48)
      .next ((s.setCredit (nodeFlow f) 0).wr Obj.flowCmd 0 (1 + f * 2 ^ 8))

/-- FLOW_DELETE (R288): DELETE on 7100.02. An empty flow is free at once. -/
def execFlowDelete (flow : Nat) (s : State) : Res :=
  if 2 ^ 17 ≤ flow then .next s
  else if flow < 512 ∨ s.flowFld flow 0 2 ≠ 1 then .next (s.wrFld Obj.flowCmd 0 0 8 5)
  else
    let s := if s.flowFld flow 96 32 = 0 then s.freeFlow flow else s.wrFld Obj.flowTable flow 0 2 2
    .next (s.wrFld Obj.flowCmd 0 0 8 1)

end Sys2Proof.Machine
end

