-- ==== Sys2Proof/Machine/Egress.lean ====
section
/-! DEFINITION. The Track's cell path: cells that arrive (R248, R250, R253, R256), the two lookups (R262, R266, R272),
the matching (R254), departures with their mirror copies (R255, R276, R277), aged frames (R281) and the commit (R267,
R268). -/

namespace Sys2Proof.Machine

/-! ### Cells that leave -/

/-- Puts a picked copy into a list in the order of the picks. -/
def insertPick : List TrackCopy → TrackCopy → List TrackCopy
  | [], k => [k]
  | j :: l, k => if k.pick.getD 0 < j.pick.getD 0 then k :: j :: l else j :: insertPick l k

/-- The TMG's and the local channels' order of the copies at an egress position: a port's picked copies in the order of the
picks (R293); at a local channel in the order in which their headers arrived (R286), up to the first whose frame is not
whole (R256). -/
def State.releaseOrder (s : State) (e : Nat) : List TrackCopy :=
  let here := s.copies.filter fun k => k.egress == e
  if e < 64 then (here.filter fun k => k.pick.isSome).foldl insertPick []
  else here.takeWhile fun k => match s.frameOf k.frame with | some x => x.complete | none => false

/-- One cell of a copy leaves. A unicast frame's cell is freed with it; a multicast frame's are freed with its last copy
(R259, R272). -/
def State.cellLeaves (s : State) (k : TrackCopy) (x : TrackFrame) : State :=
  let s := s.setCopy { k with sent := k.sent + 1, staged := k.staged.filter fun n => n != k.sent }
  if k.mcast then s else (s.setFrame { x with freed := x.freed + 1 }).releaseCell x.ingress x.cls

/-- A copy has left whole, or been ended. -/
def State.copyLeft (s : State) (k : TrackCopy) : State := (s.dropCopy k).reapFrame k.frame

/-- Sends the next cell of a copy that has begun, if it is staged and its egress takes it; an abandoned frame's copy is
ended with an ABORT cell (R256). None where nothing moves. A local endpoint takes the whole frame (R256). -/
def State.sendNext (s : State) (k : TrackCopy) : Option State :=
  match s.frameOf k.frame with
  | none => none
  | some x =>
    if k.egress < 64 then
      if !s.linkFree k.egress x.cls then none
      else if x.aborted then some ((s.newCell k.egress x.cls abortCell).copyLeft k)
      else if k.staged.contains k.sent then
        let body := cellBytes (frameBytes k.hdr x.payload) k.sent
        let s := (s.newCell k.egress x.cls body).cellLeaves k x
        some (if k.sent + 1 = x.cells then s.copyLeft k else s)
      else none
    else if k.staged.contains k.sent then
      let s := s.cellLeaves k x
      if k.sent + 1 = x.cells then
        let f : Frame := ⟨k.hdr, x.payload⟩
        let s := if f.cmark then s.inc Obj.markReceived x.cls 0 64 1 else s
        some ((s.send (.deliver k.egress f)).copyLeft k)
      else some s
    else none

/-- Sends what the copies that have begun at an egress position can send, in their order. -/
def egressGo (e : Nat) : Nat → State → State
  | 0, s => s
  | n + 1, s =>
    match (s.releaseOrder e).findSome? (fun k => if k.began then s.sendNext k else none) with
    | some s => egressGo e n s
    | none => s

/-- Sends what an egress position can send. -/
def State.egressPump (s : State) (e : Nat) : State :=
  egressGo e (((s.copies.filter fun k => k.egress == e).map fun k => k.staged.length + 1).sum) s

/-! ### Mirroring -/

/-- Whether a departure matches a session (R276). -/
def State.mirrorMatches (s : State) (m : Nat) (ingress egress cls : Nat) : Bool :=
  let e := s.rd Obj.mirrorSession m
  e.testBit 0 && e.testBit (8 + cls) && (if egress < 64 then e.testBit (32 + egress) else e.testBit 161)
    && (if ingress < 64 then e.testBit (96 + ingress) else e.testBit 160)

/-- A mirror copy as its frame departs (R277): the prefix, little-endian, and how much of the frame is copied. -/
def State.mirrorMake (s : State) (m seq : Nat) (k : TrackCopy) (x : TrackFrame) : MirrorHeld :=
  let keep := 64 * (s.fld Obj.mirrorSession m 13 3 + 1)
  let pre := m + x.ingress * 2 ^ 8 + k.egress * 2 ^ 16 + bits k.hdr 216 1 * 2 ^ 24 + b2n k.mcast * 2 ^ 25
    + b2n (decide (keep < 32 + x.frame.plen)) * 2 ^ 26 + (32 + x.frame.plen) * 2 ^ 32 + (s.now % 2 ^ 64) * 2 ^ 64
    + (seq % 2 ^ 64) * 2 ^ 128
  { frame := k.frame, hdr := k.hdr, keep := keep, session := m, pre := leBytes 32 pre }

/-- A mirror copy of a whole frame goes to the mirror endpoint (R256, R277): dropped where its queue is full. -/
def State.mirrorPut (s : State) (h : MirrorHeld) (payload : List Byte) : State :=
  if Config.mirrorDepth ≤ s.mirrorQueue.length then s.inc Obj.mirrorCounts h.session 64 64 1
  else { s with mirrorQueue := s.mirrorQueue ++ [⟨h.session, h.pre ++ (frameBytes h.hdr payload).take h.keep⟩] }

/-- A frame's last cell has been written: the mirror copies that waited for it go on (R256). -/
def State.mirrorWhole (s : State) (x : TrackFrame) : State :=
  (s.mirrorHeld.filter fun h => h.frame == x.id).foldl (fun s h => s.mirrorPut h x.payload)
    { s with mirrorHeld := s.mirrorHeld.filter fun h => h.frame != x.id }

/-- One session sees a departure (R276, R277). -/
def State.mirrorOne (s : State) (m : Nat) (k : TrackCopy) (x : TrackFrame) : State :=
  if !s.mirrorMatches m x.ingress k.egress x.cls then s
  else
    let seen := KMap.get s.mirrorSeen 0 m + 1
    if seen < s.fld Obj.mirrorSession m 16 16 then { s with mirrorSeen := KMap.set s.mirrorSeen 0 m seen }
    else
      let seq := KMap.get s.mirrorSeq 0 m + 1
      let s := { s with mirrorSeen := KMap.set s.mirrorSeen 0 m 0, mirrorSeq := KMap.set s.mirrorSeq 0 m seq }
      let h := s.mirrorMake m seq k x
      if x.complete then s.mirrorPut h x.payload else { s with mirrorHeld := s.mirrorHeld ++ [h] }

/-- Every session sees a departure. -/
def State.mirror (s : State) (k : TrackCopy) (x : TrackFrame) : State := foldUp (fun m s => s.mirrorOne m k x) 0 16 s

/-- Whether a copy may begin to leave: it has not begun, its first cell is staged, the whole frame is written where its
egress is store-and-forward (R256), its link takes its class, and what is before it at its position waits for another class
(R281) and is of another ingress position or traffic class (R255, P1). -/
def State.mayBegin (s : State) (k : TrackCopy) (before : List TrackCopy) : Bool :=
  match s.frameOf k.frame with
  | none => false
  | some x =>
    let saf := decide (64 ≤ k.egress) || (s.rd Obj.portSaf k.egress).testBit x.cls
    let clear := before.all fun j => match s.frameOf j.frame with
      | some y => decide (k.egress < 64) && y.cls != x.cls && !s.linkFree k.egress y.cls
        && !(y.ingress == x.ingress && bits y.hdr 221 3 == bits x.hdr 221 3)
      | none => true
    !k.began && !x.aborted && k.staged.contains 0 && (x.complete || !saf) && clear && (decide (64 ≤ k.egress) || s.linkFree k.egress x.cls)

/-- The copy at an egress position that begins to leave next. -/
def State.nextDeparture (s : State) : List TrackCopy → List TrackCopy → Option TrackCopy
  | _, [] => none
  | before, k :: rest => if s.mayBegin k before then some k else State.nextDeparture s (before ++ [k]) rest

/-- FRAME_DEPARTURE (R255, R256, R276): the next frame or copy at an egress position begins to leave; mirror sessions see
it, and the cells that stand ready go out. -/
def execFrameDeparture (egress : Nat) (s : State) : Res :=
  if 80 ≤ egress then .fault .noSuchUnit
  else if s.scratched then .next s
  else
    match s.nextDeparture [] (s.releaseOrder egress) with
    | none => .next (s.egressPump egress).trackNote
    | some k =>
      match s.frameOf k.frame with
      | none => .next s
      | some x => .next ((((s.setCopy { k with began := true }).mirror k x).egressPump egress).trackNote)

/-! ### Frames that end early -/

/-- A frame is abandoned (R256): its cells are discarded; a copy that has begun to leave by a port is ended with an ABORT
cell when its link takes one; a copy that has not is dropped, and so are its mirror copies: no endpoint sees a part of a
frame. `late`: no more cells of it will arrive. -/
def State.abandon (s : State) (id : Nat) (late : Bool) : State :=
  match s.frameOf id with
  | none => s
  | some x =>
    let s := s.releaseCells x.ingress x.cls (x.banks.length - x.freed)
    let s := s.setFrame { x with freed := x.banks.length, aborted := true, dropped := true, looked := true, complete := x.complete || late }
    let s := { s with mirrorHeld := s.mirrorHeld.filter fun h => h.frame != id }
    let ks := s.copies.filter fun k => k.frame == id
    let s := (ks.filter fun k => !k.began).foldl State.unqueueCopy s
    let s := s.reapFrame id
    (ks.filter (·.began)).foldl (fun s k => s.egressPump k.egress) s

/-- The frame of a port and class that still receives cells. -/
def State.partialFrame (s : State) (p cls : Nat) : Option TrackFrame :=
  s.frames.find? fun x => x.ingress == p && x.cls == cls && !x.complete

/-- A frame turns out to be dropped by R250 in the middle: counted once in its field of DROP_COUNTS, and ended. -/
def State.spoilt (s : State) (x : TrackFrame) (field : Nat) (late : Bool) : State :=
  if x.dropped then
    if late then (s.setFrame { x with complete := true }).reapFrame x.id else s
  else (s.countDrop field).abandon x.id late

/-! ### Cells that arrive -/

/-- A cell of a frame after its first; `cls` is the class of its link trailer. -/
def State.cellMore (s : State) (p cls bank : Nat) (x : TrackFrame) (h : Nat) (data : List Byte) : State :=
  let last := h.testBit 62
  let vlen := bits h 53 8
  if x.dropped then s.spoilt x 0 last
  else
    let k := x.banks.length
    let n := x.cells
    let want := if k + 1 = n then 32 + x.frame.plen - 248 * k else 248
    if bits h 0 53 ≠ 0 ∨ last ≠ decide (k + 1 = n) ∨ vlen ≠ want then s.spoilt x 0 last
    else if cls ≠ x.cls then s.spoilt x 1 last
    else
      let s := s.chargeCell p x.cls
      let x := { x with payload := (x.payload ++ data.take vlen), banks := x.banks ++ [bank], complete := last }
      let s := s.setFrame x
      if last then s.mirrorWhole x else s

/-- The first cell of a frame (R248, R250). -/
def State.cellFirst (s : State) (p cls bank h : Nat) (data : List Byte) : State :=
  let last := h.testBit 62
  let vlen := bits h 53 8
  let hdr := beCode (data.take 32)
  let f : Frame := ⟨hdr, []⟩
  let n := cellsOf f.plen
  let want := if n = 1 then 32 + f.plen else 248
  let drop := if bits h 0 53 ≠ 0 ∨ last ≠ decide (n = 1) ∨ vlen ≠ want then some 0 else s.arrivalDrop f p cls
  match drop with
  | some k =>
    let s := s.countDrop k
    if last then s
    else { s with frames := s.frames ++ [{ id := s.nextFrame, ingress := p, hdr := hdr, payload := [], cls := cls, banks := [],
                                           complete := false, looked := true, dropped := true, aborted := false, freed := 0 }],
                  nextFrame := s.nextFrame + 1 }
  | none => (s.chargeCell p cls).newFrame p cls hdr ((data.take vlen).drop 32) [bank] last

/-- The frame that a cell after the first belongs to: the one of its class that still receives cells, else the one other
frame that the port still receives, whose cells then disagree in their trailers (R250). -/
def State.frameOfCell (s : State) (p cls : Nat) : Option TrackFrame :=
  match s.partialFrame p cls with
  | some x => some x
  | none =>
    match s.frames.filter (fun x => x.ingress == p && !x.complete) with
    | [x] => some x
    | _ => none

/-- An ABORT cell arrives (R248, R256): the partial frame is discarded. One that is itself out of form makes its frame
malformed (R250). -/
def State.abortIn (s : State) (p cls h : Nat) : State :=
  let good := decide (bits h 0 61 = 0) && h.testBit 62 && !h.testBit 63
  match s.frameOfCell p cls with
  | some x => if good then (s.countDrop 10).abandon x.id true else s.spoilt x 0 true
  | none => s.countDrop (if good then 10 else 0)

/-- A cell arrives in sequence at a fabric port (R230, R248, R250, R253, R256, R259). The second answer says that it
overran (R237): it is discarded. -/
def State.cellIn (s : State) (p cls : Nat) (body : List Byte) : State × Bool :=
  let h := beCode (body.take 8)
  let data := sliceBytes body 8 248
  let bank := (p + s.cellTime) % 32
  if h.testBit 61 then ((s.abortIn p cls h).trackNote, false)
  else if decide (cls ≤ 4) && s.overruns p cls then (s, true)
  else if h.testBit 63 then
    let s := match s.partialFrame p cls with
      | some x => s.spoilt x 0 true
      | none => s
    ((s.cellFirst p cls bank h data).trackNote, false)
  else
    match s.frameOfCell p cls with
    | some x => ((s.cellMore p cls bank x h data).trackNote, false)
    | none => (s.countDrop 0, false)

/-! ### Lookups -/

/-- Drops a looked-up frame in a field of DROP_COUNTS. -/
def State.dropFrame (s : State) (x : TrackFrame) (field : Nat) : State :=
  ((s.countDrop field).setFrame { x with looked := true, dropped := true }).reapFrame x.id

/-- A REQ frame that the Track answers itself (R266, R496): status ADDRESS, the reply a new RSP frame. -/
def State.trackAnswers (s : State) (x : TrackFrame) : State :=
  let f := x.frame
  let s := (s.setFrame { x with looked := true, dropped := true }).reapFrame x.id
  s.send (.frame (s.replyFrame f 0x01 false 0 []))

/-- The port that a link-local frame of Marshal leaves by (R21, R266): the first that waits with this header and payload. -/
def State.linkLocalPort (s : State) (f : Frame) : Option Nat := (s.linkLocals.find? fun l => l.2 == f).map (·.1)

/-- The lookup of a link-local frame that Marshal sends from channel 79 (R266): it leaves by the port that Marshal named. Its
port need not be usable, since such a frame goes before a device ID and before a commit; where it is not UP the frame is
discarded as R264 discards (log entry 88). -/
def State.lookupLink (s : State) (x : TrackFrame) (port : Nat) : State :=
  let s := { s with linkLocals := s.linkLocals.erase (port, x.frame) }
  if s.portState port = portUp then
    let x := { x with looked := true }
    (s.setFrame x).addCopy x false port
  else s.dropFrame x 8

/-- The lookup of a frame that is not multicast (R262, R266, R275). -/
def State.lookupOut (s : State) (x : TrackFrame) : State :=
  match s.routeUnicast x.frame x.ingress with
  | .drop k => s.dropFrame x k
  | .egress e =>
    let gmu := decide (64 ≤ e) && decide (e < 72)
    if gmu && x.cls == 2 && (!s.hasCompute || s.power == 2) then s.trackAnswers x
    else if gmu && !s.hasCompute then s.dropFrame x 11
    else
      let x := { x with looked := true }
      (s.setFrame x).addCopy x false e

/-- The lookup of a frame that is not multicast: by its entry, but for a link-local frame of this module's Marshal. -/
def State.lookup (s : State) (x : TrackFrame) : State :=
  match if x.ingress = 79 then s.linkLocalPort x.frame else none with
  | some port => s.lookupLink x port
  | none => s.lookupOut x

/-- The lookup of a multicast frame (R271, R272). -/
def State.lookupMc (s : State) (x : TrackFrame) : State :=
  match s.routeMulticast x.frame x.ingress with
  | none => s.dropFrame x 7
  | some (es, missing) =>
    let s := if missing = 0 then s else s.inc Obj.mcCopyDropped 0 0 64 missing
    let x := { x with looked := true }
    let s := es.foldl (fun s e => s.addCopy x true e) (s.setFrame x)
    if es.isEmpty then s.reapFrame x.id else s

/-- The banks of a frame that local channel `pos` writes from the present cell time on (R253). -/
def State.localBanks (s : State) (pos n : Nat) : List Nat :=
  (List.range n).map fun k => (2 * (pos - 64) + s.cellTime + k) % 32

/-- The frame to be looked up at an ingress position: the oldest one there, or the frame that a local channel injects, if
its allowance lets it (R259) and the checks of R250 pass. The second answer is the state with it. -/
def State.arriving (s : State) (pos : Nat) (f : Frame) (mc : Bool) : Option TrackFrame × State :=
  if pos < 64 then
    match s.frames.find? (fun x => x.ingress == pos && !x.looked) with
    | some x => (if x.frame.mc = mc then some x else none, s)
    | none => (none, s)
  else if f.mc ≠ mc then (none, s)
  else
    match s.arrivalDrop f pos f.bclass with
    | some k => (none, s.countDrop k)
    | none =>
      if f.payload.length ≠ f.plen then (none, s.countDrop 0)
      else
        let n := cellsOf f.plen
        match s.chargeLocal pos f.bclass n with
        | none => (none, s)
        | some s =>
          let s := s.newFrame pos f.bclass f.hdr f.payload (s.localBanks pos n) true
          (s.frames.getLast?, s)

/-- FRAME_LOOKUP (R250, R262): the oldest frame at a fabric ingress position, or the frame `f` that a local channel
injects, is looked up. The position's own frame is `f` only for a local channel. -/
def execFrameLookup (pos : Nat) (f : Frame) (s : State) : Res :=
  if 80 ≤ pos then .fault .noSuchUnit
  else if s.scratched then .next s
  else
    match s.arriving pos f false with
    | (some x, s) => .next (s.lookup x).trackNote
    | (none, s) => .next s

/-- MC_LOOKUP (R271, R272, R274): the same for a multicast frame. -/
def execMcLookup (pos : Nat) (f : Frame) (s : State) : Res :=
  if 80 ≤ pos then .fault .noSuchUnit
  else if s.scratched then .next s
  else
    match s.arriving pos f true with
    | (some x, s) => .next (s.lookupMc x).trackNote
    | (none, s) => .next s

/-! ### Matching -/

/-- A cell that an egress position may read: its copy, its index, its bank. -/
structure Wanted where
  frame : Nat
  egress : Nat
  cell : Nat
  bank : Nat
  deriving DecidableEq, Repr

/-- The cells of a copy that are still to leave, in order, and whether each may be read: it is written and not staged. -/
def State.copyCells (s : State) (k : TrackCopy) : List (Wanted × Bool) :=
  match s.frameOf k.frame with
  | none => []
  | some x =>
    if x.aborted then []
    else ((List.range x.cells).drop k.sent).map fun n =>
      (⟨k.frame, k.egress, n, x.banks.getD n 0⟩, decide (n < x.banks.length) && !k.staged.contains n)

/-- What an egress position requests (R254): the cells among the next 16 released to it that are written and not staged,
where staging has room. A cell that has not yet arrived keeps its place among the 16. -/
def State.wanted (s : State) (e : Nat) : List Wanted :=
  let ks := s.releaseOrder e
  let room := (ks.map fun k => k.staged.length).sum < 16
  if room then (((ks.flatMap s.copyCells).take 16).filter fun p => p.2).map (·.1) else []

/-- The egress positions of a block (R254). -/
def blockPositions (q : Nat) : List Nat := if q < 9 then (List.range 8).map (8 * q + ·) else (List.range 9).map (72 + ·)

/-- A list turned so that the first element at or after a pointer comes first. -/
def fromPointer (ptr : Nat) (l : List Nat) : List Nat :=
  (l.filter fun x => decide (ptr ≤ x)) ++ l.filter fun x => decide (x < ptr)

/-- A grant: the read port and the cell. -/
abbrev Grant := Nat × Wanted

/-- One round (R254): every read port grants the first request at or after its pointer, and every egress position accepts at
most two grants in the order of its pointer. `taken` are the matches so far. -/
def State.matchRound (s : State) (want : Nat → List Wanted) (taken : List Grant) : List Grant :=
  let openWant (e : Nat) : List Wanted := (want e).filter fun w => !(taken.any fun g => g.2 == w)
  let grants := (List.range 96).filterMap fun r =>
    if taken.any (fun g => g.1 == r) then none
    else
      let b := r / 3
      let es := fromPointer (KMap.get s.grantPtr 0 r) (blockPositions ((r + s.cellTime) % 10))
      (es.findSome? fun e => (openWant e).find? fun w => w.bank == b).map fun w => (r, w)
  (List.range 81).flatMap fun e =>
    let room := 16 - ((s.copies.filter fun k => k.egress == e).map fun k => k.staged.length).sum
      - (taken.filter fun g => g.2.egress == e).length
    let mine := grants.filter fun g => g.2.egress == e
    let order := fromPointer (KMap.get s.acceptPtr 0 e) (mine.map (·.1))
    let picked := order.filterMap fun r => mine.find? fun g => g.1 == r
    -- two read ports may have granted the same cell: it is read once
    let once := picked.foldl (fun acc g => if acc.any (fun h => h.2 == g.2) then acc else acc ++ [g]) ([] : List Grant)
    once.take (min 2 room)

/-- Moves the pointers past the grants accepted in the first round (R254). -/
def State.movePointers (s : State) (gs : List Grant) : State :=
  gs.foldl (fun s g => { s with grantPtr := KMap.set s.grantPtr 0 g.1 (g.2.egress + 1),
                                acceptPtr := KMap.set s.acceptPtr 0 g.2.egress (g.1 + 1) }) s

/-- Puts a matched cell into staging. -/
def State.stage (s : State) (w : Wanted) : State :=
  { s with copies := s.copies.map fun k =>
      if k.frame = w.frame ∧ k.egress = w.egress then { k with staged := k.staged ++ [w.cell] } else k }

/-- CELL_MATCH (R254, R255): one cell time of the Track. Up to three rounds match read ports to egress positions; the cells
read go to staging, and what has begun to leave goes on. -/
def execCellMatch (s : State) : Res :=
  if s.scratched then .next s
  else
    let want := s.wanted
    let one := s.matchRound want []
    let two := s.matchRound want one
    let three := s.matchRound want (one ++ two)
    let all := one ++ two ++ three
    let s := (s.movePointers one)
    let s := all.foldl (fun s g => s.stage g.2) s
    let es := (all.map fun g => g.2.egress).eraseDups
    let s := es.foldl State.egressPump s
    .next ({ s with cellTime := s.cellTime + 1 }).trackNote

/-- FWD_AGE_EXPIRY (R281): while FWD is not checked, the FWD frame whose first cell has waited longest at an egress position,
longer than FWD_AGE_NS, is dropped and counted. -/
def execFwdAgeExpiry (egress : Nat) (s : State) : Res :=
  if 80 ≤ egress then .fault .noSuchUnit
  else if s.classChecked 4 || s.scratched then .next s
  else
    let old := s.copies.find? fun k => k.egress == egress && !k.began && decide (s.rd Obj.fwdAgeNs 0 < s.now - k.time)
      && (match s.frameOf k.frame with | some x => x.cls == 4 | none => false)
    match old with
    | some k => .next ((s.unqueueCopy k).countDrop 9).trackNote
    | none => .next s

/-! ### The commit -/

/-- A refusal of the commit check (R268): code, class, index or group, port. -/
structure CommitFail where
  code : Nat
  cls : Nat
  index : Nat
  port : Nat
  deriving DecidableEq, Repr

/-- Whether a port is ROOTWARD in the shadow. -/
def State.shadowRoot (s : State) (p : Nat) : Bool := s.rd Obj.orientShadow p == 1

/-- The check of a unicast entry (R268). -/
def State.checkRoute (s : State) (k : Nat) : Option CommitFail :=
  let c := k / 65536
  let d := k % 65536
  let e := s.rd Obj.routeShadow k
  let own := decide (d = s.devId) && s.devId != 0xFFFF
  let valid := e.testBit 0
  let loc := e.testBit 1
  let primary := bits e 4 6
  let stby := e.testBit 10
  let standby := bits e 11 6
  let fail (code port : Nat) : Option CommitFail := some ⟨code, c, d, port⟩
  if bits e 17 15 ≠ 0 then fail 0x02 0
  else if valid && decide (0x1000 ≤ d) then fail 0x03 0
  else if valid && loc && !own then fail 0x04 0
  else if own && !(valid && loc) then fail 0x05 0
  else if !valid then none
  else if stby && standby == primary then fail 0x06 primary
  else if e.testBit 3 && decide (c < 3) then fail 0x07 0
  else if s.classChecked c && e.testBit 2 && s.shadowRoot primary then fail 0x08 primary
  else if s.classChecked c && e.testBit 2 && stby && s.shadowRoot standby then fail 0x08 standby
  else none

/-- The check of a multicast group (R268, R274). -/
def State.checkGroup (s : State) (g : Nat) : Option CommitFail :=
  let m := s.rd Obj.mcShadow g
  let cls := bits m 72 3
  let rootLocal := m.testBit 65
  let up := bits m 66 6
  let fail (code port : Nat) : Option CommitFail := some ⟨code, cls, g, port⟩
  if bits m 78 50 ≠ 0 then fail 0x02 0
  else if !m.testBit 64 then none
  else if !(cls == 0 || cls == 3 || cls == 4) || (cls == 0 && (m.testBit 76 || m.testBit 77)) || (cls == 4 && m.testBit 75) then
    fail 0x09 0
  else if !rootLocal && m.testBit up then fail 0x0A up
  else if s.classChecked cls && !rootLocal && s.shadowRoot up then
    ((setBitsOf (bits m 0 64) 64).find? s.shadowRoot).bind fail2
  else none
where
  /-- MC_TURN names the ROOTWARD port of the mask. -/
  fail2 (p : Nat) : Option CommitFail := some ⟨0x0B, bits (s.rd Obj.mcShadow g) 72 3, g, p⟩

/-- The first failure of the commit check, in the order of R268. An entry that reads 0 can fail only as this module's own. -/
def State.commitCheck (s : State) : Option CommitFail :=
  let orient := ((List.range 64).find? fun p => decide (1 < s.rd Obj.orientShadow p)).map fun p => (⟨0x01, 0, p, p⟩ : CommitFail)
  let own := if s.devId ≤ 0x0FFF then (List.range 5).map (65536 * · + s.devId) else []
  let fails := (own ++ s.listed Obj.routeShadow).filterMap fun k => (s.checkRoute k).map fun x => (k, x)
  let route := (fails.foldl (fun best x => match best with
    | some b => if x.1 < b.1 then some x else some b
    | none => some x) (none : Option (Nat × CommitFail))).map (·.2)
  let group := (s.listed Obj.mcShadow).findSome? s.checkGroup
  orient.orElse fun _ => route.orElse fun _ => group

/-- The entries of an active copy that there are take their shadows' values. -/
def State.copyEntries (s : State) (src dst : ObjCode) (there : Nat → Bool) : State :=
  ((s.listed src).filter there).foldl (fun t i => t.wr dst i (s.rd src i)) (s.clearObj dst)

/-- Every entry of an active copy takes its shadow's value. -/
def State.copyObj (s : State) (src dst : ObjCode) : State := s.copyEntries src dst fun _ => true

/-- The active unicast tables take the shadows' values: entries 0x1000 and above of each class read 0 in every state (R283). -/
def State.copyRoutes (s : State) : State :=
  s.copyEntries Obj.routeShadow Obj.routeActive fun i => decide (i % 65536 < 0x1000)

/-- ROUTE_COMMIT (R267, R268, R283): a write to 6300.05. The check and the swap take place in the one step. -/
def execRouteCommit (value : Nat) (s : State) : Res :=
  if value ≠ 1 then .next s
  else if s.scratched then .next (s.wr Obj.routeCommit 0 4)
  else
    match s.commitCheck with
    | some x =>
      .next ((s.wr Obj.commitResult 0 (x.code + x.cls * 2 ^ 8 + x.index * 2 ^ 16 + x.port * 2 ^ 32)).wr Obj.routeCommit 0 3)
    | none =>
      let s := (s.copyRoutes.copyObj Obj.orientShadow Obj.orientActive).copyObj Obj.mcShadow Obj.mcActive
      let up := (List.range 64).foldl (fun a p => a + b2n (s.portState p == portUp) * 2 ^ p) 0
      .next (((s.wr Obj.portUsable 0 up).wr Obj.commitResult 0 0).wr Obj.routeCommit 0 2)

end Sys2Proof.Machine
end

