-- ==== Sys2Proof/Machine/PortDown.lean ====
section
/-! DEFINITION. What a fabric port's leaving UP ends on this module beside its streams (R232, R234, R237, R239 to R241, R256,
R263, R264, R273), and what a scratch does to the ports (R242). -/

namespace Sys2Proof.Machine

/-- Down causes and training failure reasons (R245). -/
def causeLos : Nat := 1
/-- LANE_LOCK. -/
def causeLaneLock : Nat := 2
/-- REPLAY_LIMIT. -/
def causeReplayLimit : Nat := 3
/-- FEC_RATE. -/
def causeFecRate : Nat := 4
/-- PEER_SCRATCHED. -/
def causePeerScratched : Nat := 5
/-- PEER_REST. -/
def causePeerRest : Nat := 6
/-- OVERRUN. -/
def causeOverrun : Nat := 7
/-- LOOP_GROWTH. -/
def causeLoopGrowth : Nat := 8
/-- COMMAND. -/
def causeCommand : Nat := 9
/-- SELFTEST. -/
def causeSelftest : Nat := 0x0A
/-- SELF_SCRATCHED. -/
def causeSelfScratched : Nat := 0x0B
/-- FEC_MISMATCH. -/
def causeFecMismatch : Nat := 0x0C
/-- LOOP_LONG. -/
def causeLoopLong : Nat := 0x0D
/-- HEADROOM. -/
def causeHeadroom : Nat := 0x0E
/-- CIPHER_MISMATCH. -/
def causeCipherMismatch : Nat := 0x0F
/-- SELF_LOOP. -/
def causeSelfLoop : Nat := 0x10
/-- DAMPED. -/
def causeDamped : Nat := 0x11

/-- Whether a cause is planned or the peer's: not counted by R239, and no check 4 runs (R240). -/
def quietCause (c : Nat) : Bool :=
  c == causeCommand || c == causePeerScratched || c == causePeerRest || c == causeSelfScratched

/-- Adds to what the next REPORT says of a device (R452): 3 a port to it that left UP, classified as outside; 4 an overrun. -/
def State.report (s : State) (kind dev n : Nat) : State :=
  let k := 65536 * kind + dev
  { s with reports := KMap.set s.reports 0 k (KMap.get s.reports 0 k + n) }

/-- The copies at a port end (R264, R273): a unicast frame that has not begun is counted in DROP_COUNTS, a multicast copy
in MC_COPY_DROPPED; one that has begun is lost with the link. -/
def State.dropPortCopies (s : State) (p : Nat) : State :=
  (s.copies.filter fun k => k.egress == p).foldl (fun s k =>
    let s := if k.mcast then (if k.began then s else s.inc Obj.mcCopyDropped 0 0 64 1)
      else if k.began then s else s.countDrop 8
    s.unqueueCopy k) s

/-- The frames that a port was still receiving are abandoned (R256). -/
def State.dropPortFrames (s : State) (p : Nat) : State :=
  (s.frames.filter fun x => x.ingress == p && !x.complete).foldl (fun s x => s.abandon x.id true) s

/-- The link layer of a port as a training begins it (R230): numbers, replay buffer and groups anew. -/
def PortSt.fresh (x : PortSt) : PortSt :=
  { PortSt.init with downs := x.downs, checking := x.checking, judge := x.judge, fenced := x.fenced, attempt := x.attempt,
                     second := x.second }

/-- What leaving UP ends in the Track and the link layer: unusable at once (R263), its headroom released (R234), its queued
copies and half-received frames gone, the replay buffer discarded (R232), its OFF states forgotten, and the down counted. -/
def State.portEnds (s : State) (p cause : Nat) : State :=
  let s := s.wr Obj.portUsable 0 (setBits (s.rd Obj.portUsable 0) p 1 0)
  let s := s.wr Obj.headroomUsed 0 (s.rd Obj.headroomUsed 0 - 5 * s.portH p)
  let s := (s.wrFld Obj.portInfo p 80 8 cause).portError p 4 1
  let s := s.setPort p (s.port p).fresh
  let s := s.wrFld Obj.cipherStatus p 0 1 0
  let s := { s with offAt := s.offAt.filter fun q => q.1 / 5 != p }
  ((s.dropPortCopies p).dropPortFrames p).trackNote

/-- How many counted downs of a port lie within the PORT_DAMP window (R239), and the list without older ones. -/
def State.recentDowns (s : State) (p : Nat) : List Nat :=
  (s.port p).downs.filter fun t => decide (s.now - t ≤ s.fld Obj.portDamp 0 16 16 * 10 ^ 9)

/-- A scratch at the ports (R242): a port whose MODE is not DISABLED and whose state is not DISABLED sends SCRATCH blocks
with the device ID in every slot. The run of them stands in `out` as one block (log entry 24). -/
def State.scratchPort (s : State) (p : Nat) : State :=
  if s.portState p = portDisabled ∨ s.portMode p = 0 then s
  else
    let s := if s.portState p = portUp then s.portEnds p causeSelfScratched else s.setPort p (s.port p).fresh
    (s.setPortState p portSelfScratched).sendBlock p blkScratch 0 0 ((s.devId % 2 ^ 16) * 2 ^ 32) false zeroBody

/-- A scratch at every port, after which no frame is left in the Track. -/
def State.scratchPorts (s : State) : State :=
  let s := foldUp (fun p s => s.scratchPort p) 0 64 s
  { s with elsLost := [] }

end Sys2Proof.Machine
end

