-- ==== Sys2Proof/Machine/Qp.lean ====
section
/-! DEFINITION. What the host attachment does for every other unit (R394 to R414): messages to a host, the state of queue
pairs, answers to host requests in order, a queue pair in ERROR, and rings that stop. -/

namespace Sys2Proof.Machine

/-! ### Messages to the host -/

/-- ACK of a request. -/
def hostAck : Nat := 0
/-- NAK: PSN sequence error. -/
def hostNakSeq : Nat := 1
/-- NAK: Receiver Not Ready. -/
def hostNakRnr : Nat := 2
/-- NAK: Invalid Request. -/
def hostNakInvalid : Nat := 3
/-- NAK: Remote Access Error. -/
def hostNakAccess : Nat := 4
/-- NAK: Remote Operational Error. -/
def hostNakOperational : Nat := 12
/-- RDMA READ response. -/
def hostReadData : Nat := 5
/-- ATOMIC response with the old value. -/
def hostAtomicData : Nat := 6
/-- CNP (R403). -/
def hostCnp : Nat := 7
/-- RDMA READ request of the module. -/
def hostReadReq : Nat := 8
/-- RDMA WRITE request of the module. -/
def hostWriteReq : Nat := 9
/-- An Ethernet frame (R415). -/
def hostEthernet : Nat := 10
/-- The port's own answer to ARP or neighbour discovery (R391). -/
def hostNeighbour : Nat := 11

/-- The state of a host port (R438): 0 DOWN, 1 UP, 2 NO_MODULE, 3 REFUSED. -/
def State.hostPort (s : State) (p : Nat) : Nat := s.rd Obj.hostPortState p

/-- The VLAN ID of a host port, none where VLAN is off (R391, R438). -/
def State.hostVlan (s : State) (port : Nat) : Option Nat :=
  if (s.rd Obj.hostPortConfig port).testBit 222 then some (s.fld Obj.hostPortConfig port 224 12) else none

/-- What a queue pair holds beside its object. -/
def State.qp (s : State) (q : Nat) : QpSt := KMap.get s.qps QpSt.init q

/-- The addressing of what a port sends (R391, R396): from the port's configuration, and for a queue pair's message from the
entry as it stood at CONNECT. -/
def State.hostHead (s : State) (port kind qp : Nat) : HostHead :=
  let e := if kind < hostEthernet then (s.qp qp).entry else 0
  { vlan := s.hostVlan port, srcMac := s.fld Obj.hostPortConfig port 0 48, dstMac := bits e 192 48, ip := bits e 64 128,
    dscp := bits e 240 6, remoteQp := bits e 32 24 }

/-- Sends a message on a host port that is UP, and counts the frame. -/
def State.hostSend (s : State) (port kind qp : Nat) (bytes : List Byte) : State :=
  if s.hostPort port = 1 then
    (s.send (.host port kind qp (s.hostHead port kind qp) bytes)).inc Obj.hostPortCounts port 64 64 1
  else s

/-! ### Queue pairs -/

/-- Writes it. -/
def State.setQp (s : State) (q : Nat) (x : QpSt) : State := { s with qps := KMap.set s.qps QpSt.init q x }
/-- The state of a queue pair (R396): 0 RESET, 1 READY, 2 ERROR. -/
def State.qpState (s : State) (q : Nat) : Nat := s.fld Obj.qpTable q 0 2

/-- The host port of a connected queue pair. -/
def QpSt.port (x : QpSt) : Nat := bits x.entry 2 1
/-- Its path MTU in bytes. -/
def QpSt.mtu (x : QpSt) : Nat := 1024 * 2 ^ bits x.entry 304 2
/-- Its QSTREAM. -/
def QpSt.qstream (x : QpSt) : Nat := bits x.entry 328 12
/-- The packets of a message of `n` bytes. -/
def QpSt.packets (x : QpSt) (n : Nat) : Nat := max 1 (ceilDiv n x.mtu)

/-- Sends a message of a queue pair: its PSN, then what it carries. -/
def State.qpSend (s : State) (q kind psn : Nat) (bytes : List Byte) : State :=
  s.hostSend (s.qp q).port kind q (beBytes 3 psn ++ bytes)

/-- Counts an event of a queue pair (R438): 0 performed, 1 NAKs, 2 Receiver Not Ready, 3 retries. -/
def State.qpCount (s : State) (q k : Nat) : State := s.inc Obj.qpCounts q (64 * k) 64 1

/-! ### Rings -/

/-- What a ring holds beside its object. -/
def State.hostRing (s : State) (r : Nat) : RingSt := KMap.get s.hostRings RingSt.init r
/-- Writes it, and the number of commands started and not completed (R438). -/
def State.setHostRing (s : State) (r : Nat) (x : RingSt) : State :=
  { s with hostRings := KMap.set s.hostRings RingSt.init r x }.wrFld Obj.ringState r 96 32 x.runs.length
/-- The state of a ring (R438): 0 STOPPED, 1 RUNNING, 2 FAULT. -/
def State.ringMode (s : State) (r : Nat) : Nat := s.fld Obj.ringState r 0 2
/-- The queue pair of a ring. -/
def State.ringQp (s : State) (r : Nat) : Nat := bits (s.hostRing r).desc 0 9

/-- The number under which a ring command is known to the unit that works on it. -/
def ringId (r n : Nat) : Nat := r * 2 ^ 32 + n

/-- A ring whose queue pair has left READY (R414): STOPPED at once; the commands it has fetched run to their ends, and their
records are never written. -/
def State.ringDies (s : State) (r : Nat) : State :=
  let x := s.hostRing r
  (s.setHostRing r { x with reading := false, silent := true, runs := x.runs.map fun k => { k with silent := true } }).wrFld
    Obj.ringState r 0 2 0

/-- The rings of a queue pair that leaves READY (R414). -/
def State.ringsDie (s : State) (q : Nat) : State :=
  (List.range 64).foldl (fun s r => if s.ringMode r ≠ 0 ∨ !(s.hostRing r).runs.isEmpty ∨ !(s.hostRing r).queue.isEmpty then
    (if s.ringQp r = q then s.ringDies r else s) else s) s

/-- A queue pair goes to ERROR (R404): it sends nothing, drops what it receives, forgets its requests, and its rings stop. -/
def State.qpError (s : State) (q : Nat) : State :=
  if s.qpState q ≠ 1 then s
  else ((s.wrFld Obj.qpTable q 0 2 2).setQp q { s.qp q with ops := [], reqs := [] }).ringsDie q

/-- Every queue pair goes to ERROR (R404: the module is scratched). -/
def State.qpsError (s : State) : State := (List.range 512).foldl (fun s q => s.qpError q) s

/-- A core's run ends as far as the rings are concerned (R413): a LAUNCH that waits for it takes its result from the halt
record of R106. -/
def State.ringCoreEnds (s : State) (n : Nat) : State :=
  let r := s.rd Obj.haltRecord n
  let result := bits r 0 8 + bits r 8 8 * 2 ^ 8 + bits r 64 48 * 2 ^ 16
  let status := if s.coreState n = 4 then 2 else 0
  let upd (k : RingRun) : RingRun := if k.wait = .core n then { k with wait := .done status result } else k
  { s with hostRings := s.hostRings.map fun p => (p.1, { p.2 with runs := p.2.runs.map upd }) }

/-! ### Host requests -/

/-- Whether two byte ranges share a byte. -/
def rangesMeet (a la b lb : Nat) : Bool := decide (a < b + lb) && decide (b < a + la)

/-- Whether an op has ended. -/
def HostOp.over (o : HostOp) : Bool := o.left == 0

/-- Issues every op that overlaps no earlier op which has not ended (R399). -/
def issueOps : List HostOp → List HostOp → List GReq → List HostOp × List GReq
  | done, [], out => (done, out)
  | done, o :: rest, out =>
    let blocked := done.any fun d => !d.over && rangesMeet d.addr d.len o.addr o.len
    if o.reqs.isEmpty || blocked then issueOps (done ++ [o]) rest out
    else issueOps (done ++ [{ o with reqs := [] }]) rest (out ++ o.reqs)

/-- Issues what a queue pair may issue. -/
def State.qpIssue (s : State) (q : Nat) : State :=
  let x := s.qp q
  let r := issueOps [] x.ops []
  { s.setQp q { x with ops := r.1 } with waiting := s.waiting ++ r.2 }

/-- Answers an op that has ended (R398 to R402): its NAK, or Remote Access Error where a GMU request failed (R400), which
take the queue pair to ERROR except for Receiver Not Ready and a PSN error; else the acknowledgement or the data. -/
def State.qpAnswer (s : State) (q : Nat) (o : HostOp) : State :=
  let nak := match o.nak with | some k => some k | none => if o.failed then some hostNakAccess else none
  match nak with
  | some k =>
    if k = hostNakRnr then (s.qpCount q 2).qpSend q k o.psn []
    else
      let s := (s.qpCount q 1).qpSend q k o.psn []
      if k = hostNakSeq then s else s.qpError q
  | none =>
    let s := s.qpCount q 0
    let bytes := (o.got.foldl (fun bs p => overlay bs p.1 p.2) (List.replicate o.len (0 : Byte)))
    if o.kind = 1 then s.qpSend q hostReadData o.psn bytes
    else if o.kind = 2 then
      let x := s.qp q
      (s.setQp q { x with atomics := ((o.psn, bytes) :: x.atomics).take 16 }).qpSend q hostAtomicData o.psn bytes
    else s.qpSend q hostAck o.psn []

/-- Answers the ops at the front that have ended, in order. -/
def qpFlushGo (q : Nat) : Nat → State → State
  | 0, s => s
  | n + 1, s =>
    match (s.qp q).ops with
    | [] => s
    | o :: rest =>
      if o.over && s.qpState q == 1 then qpFlushGo q n ((s.setQp q { s.qp q with ops := rest }).qpAnswer q o) else s

/-- Answers what has ended, and issues what may be issued. -/
def State.qpFlush (s : State) (q : Nat) : State := (qpFlushGo q (s.qp q).ops.length s).qpIssue q

/-- A GMU request of a host op has ended (R399, R400); an op that is no longer there discards it (R404). -/
def State.hostReqEnd (s : State) (id : Nat) (r : GReq) (status : Nat) (data : List Byte) : State :=
  let q := id % 512
  let x := s.qp q
  let upd (o : HostOp) : HostOp :=
    if o.id = id then
      { o with left := o.left - 1, failed := o.failed || status != 0,
               got := if status = 0 ∧ (o.kind = 1 ∨ o.kind = 2) then o.got ++ [(r.tm, data.take o.len)] else o.got }
    else o
  (s.setQp q { x with ops := x.ops.map upd }).qpFlush q

end Sys2Proof.Machine
end

