-- ==== Sys2Proof/Machine/Scratch.lean ====
section
/-! DEFINITION. The scratch (R38, R40) and what it ends in every unit. -/

namespace Sys2Proof.Machine

/-- SCRATCH_CAUSE bits (R40). -/
def causeMemUe : Nat := 0
/-- OE_SELFTEST. -/
def causeOe : Nat := 1
/-- CORE_FAULT. -/
def causeCore : Nat := 2
/-- FABRIC_FAULT. -/
def causeFabric : Nat := 3
/-- MANAGER. -/
def causeManager : Nat := 4
/-- HOST. -/
def causeHost : Nat := 5
/-- POWER. -/
def causePower : Nat := 6

/-- Records a scratch cause and its time (R40): the time is that of the first cause. -/
def State.scratchRecord (s : State) (cause : Nat) : State :=
  let first := !s.scratched
  let s := s.wrFld Obj.scratchCause 0 cause 1 1
  let s := if first then s.wr Obj.scratchTime 0 (s.now % 2 ^ 64) else s
  s.wr Obj.serviceState 0 2

/-- What a scratch ends in the units: frames in the Track (R38), outstanding GMU requests, stream unit frames, records and
runs (R320), scan jobs and feeds (R388), a drain or return (R178), an entry or exit of a power state (R494); every queue
pair goes to ERROR and its rings stop (R404, R414). What the objects hold stands still (R502). -/
def State.scratchUnits (s : State) : State :=
  { (s.qpsError.wrFld Obj.powerState 0 2 2 0) with
    frames := [], copies := [], mirrorQueue := [], mirrorHeld := [], moves := [], linkLocals := [], waiting := [], sent := [], heldReqs := [], sus := [], cvus := [],
    scanJobs := [], dimmCopy := none, powerEntry := none, powerWake := [] }

/-- The module scratches itself (R38). -/
def State.scratch (s : State) (cause : Nat) : State :=
  if s.scratched then s.scratchRecord cause
  else (s.scratchRecord cause).scratchPorts.scratchUnits

end Sys2Proof.Machine
end

