-- ==== Sys2Proof/Machine/MemMap.lean ====
section
/-! DEFINITION. The address maps of the local memories and what an access to them does: region 0 over the HBM controllers
(R161), region 1 over the DIMM windows with redirects and copies (R163, R173), region 2 over TM and stack SRAM (R157), the
Guard's ranges (R213), and corrected and uncorrectable reads (R166 to R169). -/

namespace Sys2Proof.Machine

/-- The present HBM controllers of a compute stack, ascending (R161). -/
def State.hbmOf (s : State) (stack : Nat) : List Nat :=
  if s.hasCompute then ([3 * stack, 3 * stack + 1, 3 * stack + 2].filter fun c => s.hasHbm c) else []

/-- Bytes of a stack's partition of region 0: 64 GiB for each present controller (R161). -/
def State.partition (s : State) (stack : Nat) : Nat := (s.hbmOf stack).length * 2 ^ 36

/-- Bytes of the delta log at the top of CS0's partition and of the Guard park at the top of CS1's (R213). -/
def guardTop (stack : Nat) : Nat := if stack = 0 then 16 * 2 ^ 20 else if stack = 1 then 1032 * 2 ^ 20 else 0

/-- Bytes of a stack's partition that ordinary access reaches (R161, R213). -/
def State.partitionOpen (s : State) (stack : Nat) : Nat :=
  if s.guardRanges = .free then s.partition stack else s.partition stack - guardTop stack

/-- The controller and controller address of a region 0 offset (R161). -/
def State.hbmLoc (s : State) (off : Nat) : Option (Nat × Nat) :=
  let st := bits off 38 3
  let w := bits off 0 38
  let cs := s.hbmOf st
  if bits off 41 3 ≠ 0 ∨ s.partition st ≤ w then none
  else
    let line := w / 4096
    (cs[line % cs.length]?).map fun mc => (mc, line / cs.length * 4096 + w % 4096)

/-- The channel of its controller that a controller address selects (R162). -/
def hbmChannel (ca : Nat) : Nat := bits ca 8 5 ^^^ bits ca 18 5

/-- The pseudo-channel that a controller address selects (R162). -/
def hbmPseudoChannel (ca : Nat) : Nat := bits ca 13 1

/-- The controller, channel and pseudo-channel of a region 0 offset (R161, R162). -/
def State.hbmPath (s : State) (off : Nat) : Option (Nat × Nat × Nat) :=
  (s.hbmLoc off).map fun l => (l.1, hbmChannel l.2, hbmPseudoChannel l.2)

/-- The channel and sub-channel of a region 1 offset (R163): consecutive 64-byte blocks alternate. Which sub-channel holds
the even blocks the spec does not say: the first here (DESIGN CHOICE, log entry 82). -/
def dimmPath (off : Nat) : Nat × Nat := (bits off 38 4, bits off 6 1)

/-- DIMM states (R180). -/
def dimmEmpty : Nat := 0
/-- POWERED_OFF. -/
def dimmOff : Nat := 1
/-- TRAINING. -/
def dimmTraining : Nat := 2
/-- IN_SERVICE. -/
def dimmInService : Nat := 3
/-- READY: trained, window redirected. -/
def dimmReady : Nat := 4
/-- DRAINING. -/
def dimmDraining : Nat := 5
/-- RETURNING. -/
def dimmReturning : Nat := 6
/-- REFUSED. -/
def dimmRefused : Nat := 7

/-- The state of a socket. -/
def State.dimm (s : State) (c : Nat) : Nat := s.rd Obj.dimmState c

/-- The bytes of a capacity code of DIMM_INFO (R180): 1 is 64 GiB, 2 is 128 GiB, 3 is 256 GiB. -/
def dimmBytes (code : Nat) : Nat := if code = 1 then 2 ^ 36 else if code = 2 then 2 ^ 37 else if code = 3 then 2 ^ 38 else 0

/-- The capacity of the DIMM in a socket. -/
def State.dimmCap (s : State) (c : Nat) : Nat := dimmBytes (s.fld Obj.dimmInfo c 0 8)

/-- Whether a window is redirected (R173). -/
def State.redirected (s : State) (c : Nat) : Bool := s.fld Obj.redirect c 0 1 == 1

/-- Bytes of a window that are mapped (R163, R173). -/
def State.window (s : State) (c : Nat) : Nat :=
  if s.redirected c then s.fld Obj.redirect c 32 32 * 4096
  else if s.dimm c = dimmInService ∨ s.dimm c = dimmDraining then s.dimmCap c else 0

/-- Whether every byte of a range is mapped and ordinary access reaches it, `n` redirects at most on the way (R173: a window
that is redirected is served at its target). A range cannot cross from one partition, window or unit into the next, since
each ends below its neighbour (R157, R161, R163). -/
def State.mappedGo (s : State) : Nat → Nat → Nat → Nat → Bool
  | n, region, off, len =>
    if region = 0 then
      s.hasCompute && bits off 41 3 == 0 && decide (off < 2 ^ 44)
        && decide (bits off 0 38 + len ≤ s.partitionOpen (bits off 38 3))
    else if region = 1 then
      s.hasCompute && bits off 42 2 == 0 && decide (off < 2 ^ 44) && decide (bits off 38 4 < 12)
        && decide (bits off 0 38 + len ≤ s.window (bits off 38 4))
        && (!s.redirected (bits off 38 4)
          || (match n with
            | 0 => false
            | n + 1 =>
              let t := s.fld Obj.redirect (bits off 38 4) 64 64
              s.mappedGo n (bits t 44 4) (bits t 0 44 + bits off 0 38) len))
    else if region = 2 then
      let st := bits off 30 3
      let u := bits off 26 4
      let b := bits off 0 26
      s.hasCompute && decide (off < 2 ^ 33)
        && ((u == 12 && decide (b + len ≤ 2 ^ 26)) || (decide (u < 12) && s.hasCore (12 * st + u) && decide (b + len ≤ tmSize)))
    else false

/-- Whether every byte of a range is mapped and ordinary access reaches it; at most the 12 windows lie on the way. -/
def State.mapped (s : State) (region off len : Nat) : Bool := s.mappedGo 12 region off len

/-- Whether a global address names this module (R182, R183): a module without a device ID is named by none. -/
def State.ownAddr (s : State) (a : Nat) : Bool := decide (s.devId < 0x1000) && bits a 48 16 == s.devId

/-- Where an access goes: each window on the way that is redirected passes it on to its target (R173). -/
def State.placeGo (s : State) : Nat → Nat × Nat → Nat × Nat
  | 0, q => q
  | n + 1, q =>
    if q.1 = 1 ∧ s.redirected (bits q.2 38 4) then
      let t := s.fld Obj.redirect (bits q.2 38 4) 64 64
      s.placeGo n (bits t 44 4, bits t 0 44 + bits q.2 0 38)
    else q

/-- Where the bytes of an offset are (R173). -/
def State.place (s : State) (region off : Nat) : Nat × Nat := s.placeGo 12 (region, off)

/-- Reads mapped bytes (R173: a read is served from the source of a copy). -/
def State.load (s : State) (region off n : Nat) : List Byte :=
  let q := s.place region off
  s.memRead q.1 q.2 n

/-- Where a copy in progress also takes a write that passes its window: writes below the current block go to source and
target (R173). A drain's window is the last on the way, a return's is redirected still. -/
def State.copyGo (s : State) (k : DimmCopy) : Nat → Nat × Nat → Option (Nat × Nat)
  | n, q =>
    let c := bits q.2 38 4
    let mode := s.fld Obj.drainProgress 0 4 4
    if q.1 = 1 ∧ mode ≠ 0 ∧ s.fld Obj.drainProgress 0 0 4 = c ∧ bits q.2 0 38 / 4096 < s.fld Obj.drainProgress 0 32 32 then
      if mode = 1 then some (s.place (bits k.target 44 4) (bits k.target 0 44 + bits q.2 0 38)) else some q
    else
      match n with
      | 0 => none
      | n + 1 =>
        if q.1 = 1 ∧ s.redirected c then
          let t := s.fld Obj.redirect c 64 64
          s.copyGo k n (bits t 44 4, bits t 0 44 + bits q.2 0 38)
        else none

/-- The second place of a write while a copy runs. -/
def State.copyPlace (s : State) (region off : Nat) : Option (Nat × Nat) :=
  match s.dimmCopy with
  | some k => s.copyGo k 12 (region, off)
  | none => none

/-- Writes mapped bytes. -/
def State.store (s : State) (region off : Nat) (bs : List Byte) : State :=
  let q := s.place region off
  let s' := s.memWrite q.1 q.2 bs
  match s.copyPlace region off with
  | some q => s'.memWrite q.1 q.2 bs
  | none => s'

/-- The memory at a place, as MEM_UE_RECORD numbers it (R179), kind and instance; 5 is the pool arena (R368). -/
def State.memoryAt (s : State) (q : Nat × Nat) : Nat × Nat :=
  if q.1 = 0 then (3, match s.hbmLoc q.2 with | some l => l.1 | none => 0)
  else if q.1 = 1 then (4, bits q.2 38 4)
  else if q.1 = spaceArena then (5, 0)
  else if bits q.2 26 4 = 12 then (2, bits q.2 30 3)
  else (1, 12 * bits q.2 30 3 + bits q.2 26 4)

/-- The memory that holds an offset. -/
def State.memoryOf (s : State) (region off : Nat) : Nat × Nat := s.memoryAt (s.place region off)

/-- A corrected read is counted in its unit's count (R166, R368). The codeword's content does not change. -/
def State.countCorrected (s : State) (kind inst : Nat) : State :=
  if kind = 1 then s.inc Obj.tmCeCount inst 0 64 1
  else if kind = 2 then s.inc Obj.ssramCeCount inst 0 64 1
  else if kind = 3 then s.inc Obj.hbmCeCount inst 0 64 1
  else if kind = 4 then s.inc Obj.dimmCeCount inst 0 64 1
  else s.inc Obj.arenaCeCount 0 0 64 1

/-- An uncorrectable read (R168, R169): recorded in 3010.01, or counted in 3010.02 where a record stands; then the module
scratches itself with cause MEM_UE. Between two reads of one reference-counter tick the lower kind wins, then the lower
instance. -/
def State.memUe (s : State) (kind inst : Nat) (patrol : Bool) (off : Nat) : State :=
  let old := s.rd Obj.memUeRecord 0
  let new := kind + inst * 2 ^ 8 + b2n patrol * 2 ^ 16 + (off % 2 ^ 44) * 2 ^ 20 + (s.now % 2 ^ 64) * 2 ^ 64
  let sameTick := old ≠ 0 ∧ bits old 64 64 = s.now % 2 ^ 64
  let lower := kind < bits old 0 4 ∨ (kind = bits old 0 4 ∧ inst < bits old 8 8)
  let s := if old = 0 then s.wr Obj.memUeRecord 0 new
    else
      let s := s.inc Obj.memUeExtra 0 0 32 1
      if sameTick ∧ lower then s.wr Obj.memUeRecord 0 new else s
  s.scratch causeMemUe

/-- An uncorrectable read of any memory: the arena's is a fault of the fabric and has no record (R368). -/
def State.uncorrectable (s : State) (patrol : Bool) (q : Nat × Nat) : State :=
  let m := s.memoryAt q
  if m.1 = 5 then s.scratch causeFabric else s.memUe m.1 m.2 patrol q.2

/-- The bytes of a codeword of a region (R165, R368). -/
def codewordBytes (region : Nat) : Nat := if region = 2 ∨ region = spaceArena then 8 else 64

/-- What a code makes of an error in the codeword at a place (R165): one unit is corrected, two are detected; beyond that
nothing is guaranteed: it is detected, or taken for a correctable one, or not noticed, and then the word reads as other
bytes. Which, and what bytes, are free values (log entry 77). The answer is whether the data may be delivered. -/
def State.eccWord (s : State) (patrol : Bool) (q : Nat × Nat) (extent : Nat) : Bool × State :=
  let m := s.memoryAt q
  let other (s : State) : State :=
    (s.memWrite q.1 q.2 ((List.range (codewordBytes q.1)).map fun k => BitVec.ofNat 8 (s.draw (k + 1)))).drawn
  if extent = 0 then (true, s)
  else if extent = 1 then (true, s.countCorrected m.1 m.2)
  else if extent = 2 then (false, s.uncorrectable patrol q)
  else if s.draw 0 % 3 = 0 then (false, s.drawn.uncorrectable patrol q)
  else if s.draw 0 % 3 = 1 then (true, (other s).countCorrected m.1 m.2)
  else (true, other s)

/-- The place of codeword `k` of a read that begins at an offset, none where the read ends before it. -/
def State.flawPlace (s : State) (region off n k : Nat) : Option (Nat × Nat) :=
  let w := codewordBytes region
  let at_ := (off / w + k) * w
  if off + n ≤ at_ then none else some (s.place region at_)

/-- What the codes make of the codewords at some places, in order: whether the data may be delivered, and the state. -/
def eccWords (patrol : Bool) : List ((Nat × Nat) × Nat) → State → Bool × State
  | [], s => (true, s)
  | x :: rest, s =>
    let a := s.eccWord patrol x.1 x.2
    let b := eccWords patrol rest a.2
    (a.1 && b.1, b.2)

/-- The outcome of the codes on a read of `n` bytes at an offset of a region, or of the arena: whether the data may be
delivered, and the state (R166, R168). -/
def State.eccRead (s : State) (e : Ecc) (region off n : Nat) : Bool × State :=
  eccWords false (e.flaws.filterMap fun x => (s.flawPlace region off n x.1).map fun q => (q, x.2)) s

/-- The number of codewords of a range. -/
def wordsOf (region off n : Nat) : Nat := (off + n - 1) / codewordBytes region + 1 - off / codewordBytes region

/-- What is left of the codes' findings behind the first `k` codewords. -/
def eccAfter (e : Ecc) (k : Nat) : Ecc := ⟨e.flaws.filterMap fun x => if x.1 < k then none else some (x.1 - k, x.2)⟩

/-- The outcome of the codes on a read of several ranges (region, offset, length), their codewords numbered one range after
the other. -/
def eccRanges : List (Nat × Nat × Nat) → Ecc → State → Bool × State
  | [], _, s => (true, s)
  | (region, off, n) :: rest, e, s =>
    let a := s.eccRead e region off n
    let b := eccRanges rest (eccAfter e (wordsOf region off n)) a.2
    (a.1 && b.1, b.2)

/-- Whether a write merges into a codeword that it does not cover (R160, R165), so that the memory reads first. -/
def merges (region off len : Nat) : Bool := off % codewordBytes region != 0 || len % codewordBytes region != 0

/-- The read of the partial codewords of a write (R160, R168): whether the write goes on, and the state. -/
def State.mergeRead (s : State) (e : Ecc) (region off len : Nat) : Bool × State :=
  let w := codewordBytes region
  let partial_ (k : Nat) : Bool := decide ((off / w + k) * w < off) || decide (off + len < (off / w + k + 1) * w)
  s.eccRead ⟨e.flaws.filter fun x => partial_ x.1⟩ region off len

end Sys2Proof.Machine
end

