-- ==== Sys2Proof/Machine/LocalMem.lean ====
section
/-! DEFINITION. The local memory tiers (spec/06_local_memory_tiers.md): patrol reads and on-die counts (R166, R167),
recalibration holds (R170 to R172), and the draining and replacement of DIMMs (R173 to R178, R181). The end of a hold is
with the memory units (Machine/Gmu.lean), which hold the requests that waited. -/

namespace Sys2Proof.Machine

/-! ### Patrol reads and on-die corrections -/

/-- Whether a DIMM is trained. -/
def State.dimmTrained (s : State) (c : Nat) : Bool := decide (3 ≤ s.dimm c) && decide (s.dimm c ≤ 6)

/-- Whether a codeword of a memory exists at an offset, reachable by ordinary access or not (R157, R161, R163, R213). -/
def State.codewordAt (s : State) (region off : Nat) : Bool :=
  if region = 0 then (s.hbmLoc off).isSome
  else if region = 1 then
    s.hasCompute && decide (off / 2 ^ 42 = 0) && decide (bits off 38 4 < 12) && s.dimmTrained (bits off 38 4)
      && decide (bits off 0 38 < s.dimmCap (bits off 38 4))
  else region == 2 && s.mapped 2 off 1

/-- The recalibration controller of the memory at a place: HBM c at c, DDR5 channel c at 32 + c; TM and stack SRAM have
none. -/
def State.controllerAt (s : State) (q : Nat × Nat) : Option Nat :=
  if q.1 = 0 then (s.hbmLoc q.2).map (·.1)
  else if q.1 = 1 then some (32 + bits q.2 38 4)
  else none

/-- The recalibration state of a controller. -/
def State.recal (s : State) (c : Nat) : RecalSt := KMap.get s.recals RecalSt.init c

/-- Writes the recalibration state of a controller. -/
def State.setRecal (s : State) (c : Nat) (r : RecalSt) : State := { s with recals := KMap.set s.recals RecalSt.init c r }

/-- Whether the controller of a place holds traffic. -/
def State.heldAt (s : State) (q : Nat × Nat) : Bool :=
  match s.controllerAt q with
  | some c => (s.recal c).holding
  | none => false

/-- Whether the controller that an access to an offset reaches holds traffic: that of a redirect's target, where there is
one (R171, R173). -/
def State.held (s : State) (region off : Nat) : Bool := s.heldAt (s.place region off)

/-- The codeword of a patrol read (R167, R368): the memory as MEM_UE_RECORD numbers it (5 the arena), the number of the
codeword in it, and how many it has; none where no memory is there. -/
def State.patrolWord (s : State) (region off : Nat) : Option (Nat × Nat × Nat × Nat) :=
  if region = spaceArena then if off < 2 ^ 28 then some (5, 0, off / 8, 2 ^ 25) else none
  else if !s.codewordAt region off then none
  else if region = 0 then (s.hbmLoc off).map fun l => (3, l.1, l.2 / 64, 2 ^ 30)
  else if region = 1 then some (4, bits off 38 4, bits off 0 38 / 64, s.dimmCap (bits off 38 4) / 64)
  else if bits off 26 4 = 12 then some (2, bits off 30 3, bits off 0 26 / 8, 2 ^ 23)
  else some (1, 12 * bits off 30 3 + bits off 26 4, bits off 0 26 / 8, 2 ^ 21)

/-- The patrol period of a kind of memory in ns (R167, R368). -/
def State.patrolPeriod (s : State) (kind : Nat) : Nat :=
  10 ^ 9 * (if kind = 3 then s.rd Obj.hbmScrubPeriod 0 else if kind = 4 then s.rd Obj.ddrScrubPeriod 0
    else if kind = 5 then s.rd Obj.arenaScrubPeriod 0 else s.rd Obj.sramScrubPeriod 0)

/-- Whether the patrol of a memory reads now: its power state gates it (R490, R493), a scratched module reads nothing, and
patrol pauses during a hold (R167). -/
def State.patrolRuns (s : State) (region off : Nat) : Bool :=
  !s.scratched && !s.heldAt (region, off) && decide (s.power < (if region = spaceArena then 3 else 2))

/-- PATROL_READ (R167, R166, R168, R368): the patrol read of the codeword at an offset of region 0, 1 or 2, or of the arena
(`region` 15). Each memory reads its codewords in ascending order, all of them once per period: the codeword is read if it
is the next one, and the first one only when the period of the last round is over. -/
def execPatrolRead (region off : Nat) (ecc : Ecc) (s : State) : Res :=
  match s.patrolWord region off with
  | none => .next s
  | some (kind, inst, k, n) =>
    let key := 256 * kind + inst
    let w := KMap.get s.patrols Patrol.init key
    let due := if n ≤ w.next then 0 else w.next
    if !s.patrolRuns region off || k != due || (k == 0 && decide (s.now < w.since)) then .next s
    else
      let w' : Patrol := ⟨(k + 1) % n, if k = 0 then s.now + s.patrolPeriod kind else w.since⟩
      let s := { s with patrols := KMap.set s.patrols Patrol.init key w' }
      let q := (region, off / codewordBytes region * codewordBytes region)
      .next (eccWords true (ecc.flaws.filterMap fun x => if x.1 = 0 then some (q, x.2) else none) s).2

/-- ONDIE_CE_POLL (R166): once a second, the corrections that a stack's own code reports are added to 3100.02. -/
def execOndieCePoll (ctrl count : Nat) (s : State) : Res :=
  if 24 ≤ ctrl then .fault .noSuchUnit
  else
    let r := s.recal ctrl
    if s.hasCompute && s.hasHbm ctrl && decide (s.power < 2) && decide (r.polled + 10 ^ 9 ≤ s.now) then
      .next ((s.setRecal ctrl { r with polled := s.now }).inc Obj.hbmOndieCeCount ctrl 0 64 count)
    else .next s

/-! ### Recalibration -/

/-- Controllers of which at most one holds at once (R170): those of a compute stack, those of a fabric stack. -/
def recalGroup (c : Nat) : Nat := if c < 32 then c / 3 else 32 + (c - 32) / 6

/-- Whether a controller number names one of the module's controllers whose memory is there. -/
def State.hasController (s : State) (c : Nat) : Bool :=
  s.hasCompute && ((decide (c < 24) && s.hasHbm c) || (decide (32 ≤ c) && decide (c < 44) && s.dimmTrained (c - 32)))

/-- Whether the limit of R170 lets a controller start a hold. -/
def State.holdFree (s : State) (c : Nat) : Bool :=
  !s.recals.any fun p => p.2.holding && recalGroup p.1 == recalGroup c

/-- The distance of two temperatures, codes of 32 bits in units of 0.01 degrees. -/
def tempChange (a b : Nat) : Nat := (signed a 32 - signed b 32).natAbs

/-- The temperature that a controller's sensor shows is entered in its object (R180). -/
def State.setTemp (s : State) (c temp : Nat) : State :=
  if c < 32 then s.wr Obj.hbmTemp c (temp % 2 ^ 32) else s.wr Obj.dimmTemp (c - 32) (temp % 2 ^ 32)

/-- Starts a hold. -/
def State.startHold (s : State) (c : Nat) (temp : Nat) : State :=
  s.setRecal c { s.recal c with holding := true, start := s.now, temp := temp }

/-- RECAL_START (R170, R180): a hold starts on controller `ctrl` (HBM c at c, DDR5 channel c at 32 + c) at temperature
`temp`, in automatic mode on a change of 8 degrees or 2 s after the last, or on a request of 3300.02 that still waits. -/
def execRecalStart (ctrl temp : Nat) (s : State) : Res :=
  let s := if s.hasController ctrl && decide (s.power < 2) then s.setTemp ctrl temp else s
  let r := s.recal ctrl
  let due := s.rd Obj.recalMode 0 = 0 ∧ (800 ≤ tempChange temp r.temp ∨ 2000000000 ≤ s.now - r.last)
  if s.hasController ctrl && decide (s.power < 2) && !r.holding && s.holdFree ctrl && (decide due || r.wanted) then
    .next (s.startHold ctrl temp)
  else .next s

/-- RECAL_FORCED (R172): in on-command mode a change of 16 degrees recalibrates at once, and is counted as forced. -/
def execRecalForced (ctrl temp : Nat) (s : State) : Res :=
  let r := s.recal ctrl
  if s.hasController ctrl && decide (s.power < 2) && !r.holding && s.rd Obj.recalMode 0 == 1
      && decide (1600 ≤ tempChange temp r.temp) then
    let s := (s.setTemp ctrl temp).startHold ctrl temp
    .next (if ctrl < 32 then s.inc Obj.hbmHold ctrl 96 32 1 else s.inc Obj.ddrHold (ctrl - 32) 96 32 1)
  else .next s

/-- RECAL_NOW (R180): a write of 0x00nn or 0x01nn to 3300.02. An absent controller or an empty socket is refused; the
others start a hold within the limits of R170, and the object reads 1 once it has ended. -/
def execRecalNow (value : Nat) (s : State) : Res :=
  let c := if value / 256 = 0 then value else 32 + value % 256
  if !s.hasCompute || !(decide (value < 24) || (decide (256 ≤ value) && decide (value < 268))) then .next s
  else if !s.hasController c || decide (2 ≤ s.power) then .next (s.wr Obj.recalNow 0 2)
  else
    let s := (s.setRecal c { s.recal c with wanted := true }).wr Obj.recalNow 0 0
    let temp := if c < 32 then s.rd Obj.hbmTemp c else s.rd Obj.dimmTemp (c - 32)
    .next (if s.holdFree c then s.startHold c temp else s)

/-- The longest hold of a controller in ns (R170). -/
def holdBound (c : Nat) : Nat := if c < 32 then 800 else 1500

/-- The objects of a hold that ends (R170, R171, R180): one hold more, and the longest hold. -/
def State.endHold (s : State) (c : Nat) : State :=
  let r := s.recal c
  let ns := s.now - r.start
  let obj := if c < 32 then Obj.hbmHold else Obj.ddrHold
  let i := if c < 32 then c else c - 32
  let s := s.inc obj i 0 64 1
  let s := s.wrFld obj i 64 32 (max (s.fld obj i 64 32) ns)
  let s := if r.wanted then s.wr Obj.recalNow 0 1 else s
  s.setRecal c { r with holding := false, wanted := false, last := s.now }

/-! ### Bay ramps under the governor (R486) -/

/-- The time that the supply ramp of a bay takes (R177, R224, R488): 2 ms for a DIMM socket, 10 ms for an ELS bay, 1 ms for a
power stage's ramp into the share. -/
def rampTime (bay : Nat) : Nat := if bay < 16 then 2000000 else if bay < 32 then 10000000 else 1000000

/-- The ramp of a bay, if one is under way or waits. -/
def State.ramp (s : State) (bay : Nat) : Option Ramp := KMap.get s.ramps none bay
/-- Writes it. -/
def State.setRamp (s : State) (bay : Nat) (r : Option Ramp) : State := { s with ramps := KMap.set s.ramps none bay r }

/-- The power reserved for ramps that have begun, in units of 0.5 W. -/
def State.reserved (s : State) : Nat :=
  (s.ramps.map fun p => match p.2 with | some r => if r.began.isSome then r.power else 0 | none => 0).sum

/-- How much of a ramp's power has risen at a time; the rise is even (DESIGN CHOICE, log entry 78: the spec bounds its length
only). -/
def rampRisen (r : Ramp) (bay time : Nat) : Nat :=
  match r.began with
  | none => 0
  | some t => r.power * min (time - t) (rampTime bay) / rampTime bay

/-- Whether the governor can reserve a ramp's full power now: P and the reservations stay within the limit in force, and the
input conducts (R481, R486). -/
def State.rampFits (s : State) (power : Nat) : Bool :=
  !s.inputBlocked && decide (s.govPower + s.reserved + power ≤ 2 * s.fld Obj.governorState 0 32 16)

/-- A bay's supply is to ramp up to `power` (units of 0.5 W): its full power is reserved first; where it does not fit, D is
lowered and the ramp waits (R486). By how much D falls the spec does not say (log entry 10). -/
def State.rampBay (s : State) (bay power : Nat) : State :=
  if s.rampFits power then s.setRamp bay (some ⟨power, some s.now⟩)
  else
    ((s.setRamp bay (some ⟨power, none⟩)).wrFld Obj.governorState 0 0 9 (s.draw 0 % max 1 (s.fld Obj.governorState 0 0 9))).drawn

/-- Whether the ramp of a bay is over. -/
def State.rampOver (s : State) (bay : Nat) : Bool :=
  match s.ramp bay with
  | none => true
  | some r => match r.began with | some t => decide (t + rampTime bay ≤ s.now) | none => false

/-- The reservation of a bay ends: the bay is powered down, or what it draws is now part of P. -/
def State.rampEnds (s : State) (bay : Nat) : State := s.setRamp bay none

/-! ### Draining and replacing a DIMM -/

/-- Writes the state of a socket. -/
def State.setDimm (s : State) (c st : Nat) : State := s.wr Obj.dimmState c st

/-- Whether the module is one that runs a DIMM command: RUN or HOLD, and not scratched (R181 code 4). -/
def State.dimmPowerOk (s : State) : Bool := decide (s.power < 2) && !s.scratched

/-- The answer of a DIMM command (R181). -/
def State.drainAnswer (s : State) (code : Nat) : State := s.wr Obj.drainCmd 0 code

/-- Whether a DRAIN descriptor is valid for a channel (R175). -/
def State.drainDescOk (s : State) (chan : Nat) : Bool :=
  let d := s.rd Obj.drainDesc 0
  let share := bits d 0 8
  let len := bits d 32 32
  let target := bits d 64 64
  let region := bits target 44 4
  let off := bits target 0 44
  let tc := bits off 38 4
  s.ownAddr target && decide (region < 2) && off % 4096 == 0
    && s.mapped region off (len * 4096) && !(region == 1 && (tc == chan || s.redirected tc))
    && len != 0 && decide (len * 4096 ≤ s.dimmCap chan) && share != 0 && decide (share ≤ 100)
    && bits d 8 24 == 0 && bits d 128 128 == 0

/-- Starts a copy: 1 draining, 2 returning (R181). -/
def State.startCopy (s : State) (chan mode len target share : Nat) : State :=
  let s := s.wr Obj.drainProgress 0 (chan + mode * 16 + (s.now % 2 ^ 64) * 2 ^ 64)
  { s with dimmCopy := some ⟨len, target, share⟩ }

/-- DIMM_DRAIN (R175, R181): action 0x01 of 3400.02. Where several refusals apply, the spec names no order: the power state
(4) goes first, then a copy that runs (5), the socket state (2) and the descriptor (3) (DESIGN CHOICE, log entry 14). -/
def execDimmDrain (chan : Nat) (s : State) : Res :=
  if !s.hasCompute || 12 ≤ chan then .next s
  else if !s.dimmPowerOk then .next (s.drainAnswer 4)
  else if s.dimmCopy.isSome then .next (s.drainAnswer 5)
  else if s.dimm chan ≠ dimmInService then .next (s.drainAnswer 2)
  else if !s.drainDescOk chan then .next (s.drainAnswer 3)
  else
    let d := s.rd Obj.drainDesc 0
    .next (((s.startCopy chan 1 (bits d 32 32) (bits d 64 64) (bits d 0 8)).setDimm chan dimmDraining).drainAnswer 1)

/-- DIMM_RETURN (R173, R181): action 0x04. It uses only RATE_SHARE of the descriptor. -/
def execDimmReturn (chan : Nat) (s : State) : Res :=
  let share := s.fld Obj.drainDesc 0 0 8
  if !s.hasCompute || 12 ≤ chan then .next s
  else if !s.dimmPowerOk then .next (s.drainAnswer 4)
  else if s.dimmCopy.isSome then .next (s.drainAnswer 5)
  else if s.dimm chan ≠ dimmReady then .next (s.drainAnswer 2)
  else if share = 0 ∨ 100 < share then .next (s.drainAnswer 3)
  else
    let r := s.rd Obj.redirect chan
    .next (((s.startCopy chan 2 (bits r 32 32) (bits r 64 64) share).setDimm chan dimmReturning).drainAnswer 1)

/-- Whether the latch lock of a socket holds (R177): it is released only in POWERED_OFF. -/
def State.latchLocked (s : State) (c : Nat) : Bool := s.dimm c != dimmOff

/-- DIMM_POWER_OFF (R177, R181): action 0x02. The socket of a DIMM that serves nothing ramps down, within 50 ms, and its latch
lock is released (log entry 15). -/
def execDimmPowerOff (chan : Nat) (s : State) : Res :=
  if !s.hasCompute || 12 ≤ chan then .next s
  else if !s.dimmPowerOk then .next (s.drainAnswer 4)
  else if s.dimm chan = dimmReady ∨ s.dimm chan = dimmRefused ∨ s.dimm chan = dimmEmpty then
    .next ((s.setDimm chan dimmOff).drainAnswer 1)
  else .next (s.drainAnswer 2)

/-- A socket is powered, with a ramp that the governor admits, and its DIMM trained (R177, R486). -/
def State.dimmPowers (s : State) (c : Nat) : State := (s.setDimm c dimmTraining).rampBay c 50

/-- DIMM_POWER_ON (R181): action 0x03. A powered-off socket is powered and its DIMM trained. -/
def execDimmPowerOn (chan : Nat) (s : State) : Res :=
  if !s.hasCompute || 12 ≤ chan then .next s
  else if !s.dimmPowerOk then .next (s.drainAnswer 4)
  else if s.dimm chan = dimmOff then .next ((s.dimmPowers chan).drainAnswer 1)
  else .next (s.drainAnswer 2)

/-- The end of a copy without a switch of the window (R178). -/
def State.endCopy (s : State) : State := { s.wrFld Obj.drainProgress 0 4 4 0 with dimmCopy := none }

/-- DRAIN_CANCEL (R178, R181): action 0x05. -/
def execDrainCancel (chan : Nat) (s : State) : Res :=
  if !s.hasCompute || 12 ≤ chan then .next s
  else if !s.dimmPowerOk then .next (s.drainAnswer 4)
  else if s.dimm chan = dimmDraining then .next ((s.endCopy.setDimm chan dimmInService).drainAnswer 1)
  else if s.dimm chan = dimmReturning then .next ((s.endCopy.setDimm chan dimmReady).drainAnswer 1)
  else .next (s.drainAnswer 2)

/-- A check-value unit. -/
def State.cvu (s : State) (c : Nat) : CvuSt := KMap.get s.cvus CvuSt.init c
/-- Writes it. -/
def State.setCvu (s : State) (c : Nat) (x : CvuSt) : State := { s with cvus := KMap.set s.cvus CvuSt.init c x }

/-- Whether the scan engine is free for a job of the module's own (R385, R387): no job runs, and CVU 15, the highest that
the CLE never claims (R382), has no feed. -/
def State.scanFree (s : State) : Bool := !(s.scanJobs.any (·.running)) && (s.cvu 15).feeds.isEmpty

/-- The ns that `n` blocks of a copy take at least at a share of 70.4 GB/s, in percent (R176). -/
def copyTime (share n : Nat) : Nat := ceilDiv (n * 4096000) (704 * share)

/-- DRAIN_BLOCK_COPIED (R173, R174, R176, R168): the current block is copied, in one step, and the next becomes current; after
the last the window switches. A block does not start while its source or target holds, and it is not copied before its
share of the source channel's time allows. `ecc` is the outcome of the read. -/
def execDrainBlockCopied (ecc : Ecc) (s : State) : Res :=
  match s.dimmCopy with
  | none => .next s
  | some k =>
    let chan := s.fld Obj.drainProgress 0 0 4
    let mode := s.fld Obj.drainProgress 0 4 4
    let n := s.fld Obj.drainProgress 0 32 32
    let window := (1, chan * 2 ^ 38 + n * 4096)
    let target := s.place (bits k.target 44 4) (bits k.target 0 44 + n * 4096)
    let src := if mode = 1 then window else target
    let dst := if mode = 1 then target else window
    if s.scratched || !s.scanFree || s.heldAt src || s.heldAt dst
        || decide (s.now < s.fld Obj.drainProgress 0 64 64 + copyTime k.share (n + 1)) then .next s
    else
      let flaws := ecc.flaws.filterMap fun x => if x.1 < 64 then some ((src.1, src.2 + 64 * x.1), x.2) else none
      match eccWords false flaws s with
      | (false, s) => .next s
      | (true, s) =>
        let s := s.memWrite dst.1 dst.2 (s.memRead src.1 src.2 4096)
        let s := s.wrFld Obj.drainProgress 0 32 32 (n + 1)
        if n + 1 < k.len then .next s
        else if mode = 1 then
          .next ((s.endCopy.wr Obj.redirect chan (1 + k.len * 2 ^ 32 + k.target * 2 ^ 64)).setDimm chan dimmReady)
        else .next ((s.endCopy.wr Obj.redirect chan 0).setDimm chan dimmInService)

/-- DIMM_LATCH_CLOSE (R177): the latch of a powered-off socket closes, and the socket is powered under the governor (R486) and
trained. -/
def execDimmLatchClose (chan : Nat) (s : State) : Res :=
  if 12 ≤ chan then .fault .noSuchUnit
  else .next (if s.hasCompute && !s.latchLocked chan then s.dimmPowers chan else s)

/-- Fills a window with zeros, part of the training of its DIMM (R387) unless the reset keeps its contents (R502). -/
def State.clearWindow (s : State) (chan : Nat) : State :=
  { s with mem := s.mem.filter fun c => !(decide (memKey 1 (chan * 2 ^ 38) ≤ c.1) && decide (c.1 < memKey 1 ((chan + 1) * 2 ^ 38))) }

/-- Why a DIMM is refused (R164, R177, R180), the lowest reason where several apply (log entry 14); 0 none. -/
def State.dimmReason (s : State) (chan capacity : Nat) (mrdimm eccX4 checksum trained : Bool) : Nat :=
  if !mrdimm then 1 else if !eccX4 then 2 else if dimmBytes capacity = 0 then 3 else if !checksum then 4
  else if !trained then 5
  else if s.redirected chan ∧ dimmBytes capacity < s.fld Obj.redirect chan 32 32 * 4096 then 6 else 0

/-- DIMM_TRAINED (R164, R177, R180): training ends, not before the ramp of at least 2 ms. What the SPD and the training show is the outside world's: whether it
is an MRDIMM-8800, whether it has ECC and x4 devices, the capacity code of 3200.02 (any other code for another capacity),
whether the checksum holds, whether training succeeded, and the identity fields [191:16] of 3200.02. -/
def execDimmTrained (chan capacity ident : Nat) (mrdimm eccX4 checksum trained : Bool) (s : State) : Res :=
  if 12 ≤ chan then .fault .noSuchUnit
  else if !s.hasCompute || s.dimm chan != dimmTraining || !s.rampOver chan then .next s
  else
    let s := s.rampEnds chan
    let why := s.dimmReason chan capacity mrdimm eccX4 checksum trained
    let cap := if dimmBytes capacity = 0 then 0 else capacity
    let s := s.wr Obj.dimmInfo chan (cap + why * 2 ^ 8 + (ident % 2 ^ 176) * 2 ^ 16)
    if why ≠ 0 then .next (s.setDimm chan dimmRefused)
    else
      let s := if s.dimmKeep.testBit chan then { s with dimmKeep := setBits s.dimmKeep chan 1 0 } else s.clearWindow chan
      .next (s.setDimm chan (if s.redirected chan then dimmReady else dimmInService))

/-- DIMM_LATCH_OPEN (R177): outside POWERED_OFF an opened latch is an uncorrectable read of the channel. -/
def execDimmLatchOpen (chan : Nat) (s : State) : Res :=
  if 12 ≤ chan then .fault .noSuchUnit
  else .next (if s.hasCompute && s.latchLocked chan then s.memUe 4 chan false (chan * 2 ^ 38) else s)

end Sys2Proof.Machine
end

