-- ==== Sys2Proof/Machine/Operands.lean ====
section
/-! DEFINITION. The 128-bit core command: its fields, which operand bits each command reserves, which operand values it
forbids, and the TM ranges it names (R81, R82, R89, R111 to R129, R143, R147, R152, R190, R191, R346). -/

namespace Sys2Proof.Machine

/-- The core commands (R89, R98, R99). -/
inductive CoreOp
  | nop | end_ | pace | wait | post | flagset | pset | plogic | skip | lapset | lap | drain | mark
  | mma | mout | mpart | mclr
  | vop | vcmp | vfunc | vred | vcvt | vwiden | vld | vst | vbmp
  | rake | rmask
  | seta | load | store | copy | atom | fence
  | signal | coll
  deriving DecidableEq, Repr

/-- OPCODE (R81). -/
def opcodeOf (w : Nat) : Nat := bits w 120 8

/-- ENGINE (R81). -/
def engineOf (w : Nat) : Nat := bits w 116 4

/-- The command an engine and an opcode name (R89, R98, R99). -/
def CoreOp.find (engine opcode : Nat) : Option CoreOp :=
  match engine with
  | 0 => [CoreOp.nop, .end_, .pace, .wait, .post, .flagset, .pset, .plogic, .skip, .lapset, .lap, .drain, .mark][opcode]?
  | 1 => if 0x40 ≤ opcode then [CoreOp.mma, .mout, .mpart, .mclr][opcode - 0x40]? else none
  | 2 => if 0x50 ≤ opcode then
      [CoreOp.vop, .vcmp, .vfunc, .vred, .vcvt, .vwiden, .vld, .vst, .vbmp][opcode - 0x50]? else none
  | 3 => if 0x10 ≤ opcode then [CoreOp.seta, .load, .store, .copy, .atom, .fence][opcode - 0x10]? else none
  | 4 => if 0x60 ≤ opcode then [CoreOp.rake, .rmask][opcode - 0x60]? else none
  | 5 => if 0x20 ≤ opcode then [CoreOp.signal, .coll][opcode - 0x20]? else none
  | _ => none

/-- The command a word spells. -/
def CoreOp.of (w : Nat) : Option CoreOp := CoreOp.find (engineOf w) (opcodeOf w)

/-- The mask of the operand bits of ranges (low bit, width). -/
def maskOf (l : List (Nat × Nat)) : Nat := l.foldl (fun a r => a ||| (2 ^ r.2 - 1) <<< r.1) 0

/-- The operand bits [95:0] a command uses; the others are reserved (R82 check 4). MOUT's and MMA's depend on a field of
the word. Fields of R190 that a command's row gives no meaning are reserved for it (log entry 12). -/
def usedBits (op : CoreOp) (w : Nat) : List (Nat × Nat) :=
  match op with
  | .nop => [] | .end_ => [] | .drain => []
  | .pace => [(0, 12)]
  | .wait => [(0, 13), (16, 64)]
  | .post => [(0, 12), (16, 32)]
  | .flagset => [(0, 12), (16, 32)]
  | .pset => [(0, 7), (8, 5)]
  | .plogic => [(0, 14)]
  | .skip => [(0, 12)]
  | .lapset => [(0, 2), (8, 24)]
  | .lap => [(0, 2), (12, 12)]
  | .mark => [(0, 32)]
  | .mma => [(3, 91)]
  | .mout => if w.testBit 89 then [(89, 7), (69, 5), (23, 33)] else [(56, 40), (23, 33)]
  | .mpart => [(69, 5), (27, 1)]
  | .mclr => [(27, 1)]
  | .vop => if bits w 89 5 = 4 then [(19, 77)] else [(73, 23), (19, 49)]
  | .vcmp => [(89, 5), (28, 60)]
  | .vfunc => [(89, 7), (78, 10), (59, 7)]
  | .vred => [(64, 30)]
  | .vcvt => [(17, 79)]
  | .vwiden => [(32, 62), (20, 4)]
  | .vld => [(52, 38)]
  | .vst => [(52, 38)]
  | .vbmp => [(65, 25), (21, 3)]
  | .rake => [(17, 77)]
  | .rmask => [(18, 76)]
  | .seta => [(28, 68)]
  | .load => [(20, 76), (7, 1)]
  | .store => [(7, 89)]
  | .copy => [(20, 76), (7, 1)]
  | .atom => [(0, 96)]
  | .fence => [(60, 36), (3, 17)]
  | .signal => [(64, 32), (7, 13)]
  | .coll => [(54, 42), (12, 40)]

/-- R82 check 4: a reserved bit of the word is 1. -/
def reservedSet (op : CoreOp) (w : Nat) : Bool :=
  w.testBit 96 || (w % 2 ^ 96) &&& ((2 ^ 96 - 1) - maskOf (usedBits op w)) != 0

/-- Whether a format pair is one of the first four rows of R112 (EXACT family). -/
def exactPair (a b : Fmt) : Bool :=
  let fp (f : Fmt) : Bool := f == .e4m3 || f == .e5m2 || f == .e3m2
  (fp a && fp b) || (a == b && (a == .e2m1 || a == .int8 || a == .int4))

/-- Whether a format pair is one of the last two rows of R112 (TREE family). -/
def treePair (a b : Fmt) : Bool := a == b && (a == .bf16 || a == .fp16)

/-- The depth s of R98 and R112: products per element and stride. -/
def depthOf (f : Fmt) : Nat :=
  match f with
  | .e2m1 => 16 | .int4 => 16 | .bf16 => 2 | .fp16 => 2 | _ => 8

/-- The two formats of an MMA or a RAKE, where both codes are assigned. -/
def pairOf (w : Nat) : Option (Fmt × Fmt) :=
  match Fmt.ofCode (bits w 90 4), Fmt.ofCode (bits w 86 4) with
  | some a, some b => some (a, b)
  | _, _ => none

/-- K of an MMA (R114). -/
def mmaK (w : Nat) : Nat := bits w 71 15 + 1

/-- The packed row size of a compacted area, rounded up to 16 bytes (R146). -/
def compactRow (f : Fmt) (k : Nat) : Nat := ceilDiv (f.packed k) 16 * 16

/-- The bytes of a compacted area (R146). -/
def compactSize (a b : Fmt) (k : Nat) : Nat := 64 * (compactRow a k + compactRow b k)

/-- The bytes that 64 rows at a pitch take (R111). -/
def rowsSize (pitch rowBytes : Nat) : Nat := 63 * (16 * pitch) + rowBytes

/-- The chain rules of R113, which an MMA with a true predicate must keep: same family, at most 32,768 products, and a
TREE chain continued only after a K that is a multiple of 32. -/
def chainOk (a : AccSet) (family k : Nat) : Bool :=
  (a.family == 0 || a.family == family) && decide (a.count + k ≤ 32768) && (family != 2 || a.count == 0 || a.last32)

/-- The accumulator set a word names, of a core. -/
def CoreSt.set (c : CoreSt) (k : Nat) : AccSet := if k = 0 then c.ac0 else c.ac1

/-- Writes an accumulator set. -/
def CoreSt.setAc (c : CoreSt) (k : Nat) (a : AccSet) : CoreSt := if k = 0 then { c with ac0 := a } else { c with ac1 := a }

/-- R82 check 5: an operand has a value its command forbids. `en` is the command's predicate, `rake` whether the core has
a Rake engine. -/
def forbidden (op : CoreOp) (w : Nat) (en rake : Bool) (c : CoreSt) : Bool :=
  match op with
  | .nop => false | .end_ => false | .drain => false | .mark => false | .lapset => false | .flagset => false
  | .pace => bits w 0 12 == 0
  | .wait => bits w 16 32 == 0
  | .post => bits w 16 32 == 0
  | .pset => bits w 0 4 == 0
  | .plogic => bits w 0 4 == 0
  | .skip => bits w 0 12 == 0
  | .lap => bits w 12 12 == 0
  | .mma =>
    match pairOf w with
    | none => true
    | some (a, b) =>
      let exact := exactPair a b
      let tree := treePair a b
      let sparse := w.testBit 69
      !(exact || tree)
        || (if sparse then !rake || bits w 3 46 != 0
            else decide (16 * bits w 36 13 < a.packed (mmaK w)) || decide (16 * bits w 3 13 < b.packed (mmaK w)))
        || (en && !chainOk (c.set (bits w 70 1)) (if exact then 1 else 2) (mmaK w))
  | .mout =>
    match Fmt.ofCode (bits w 90 4) with
    | none => true
    | some f =>
      if w.testBit 89 then f != .fp32 || w.testBit 36
      else decide (16 * bits w 56 13 < f.packed 64) || w.testBit 36
  | .mpart => false
  | .mclr => false
  | .vop => decide (0x0A < bits w 89 5)
  | .vcmp =>
    let sub := bits w 89 5
    !(decide (sub ≤ 5) || (decide (8 ≤ sub) && decide (sub ≤ 12))) || bits w 85 3 == 0
  | .vfunc => decide (3 < bits w 89 5) || w.testBit 95
  | .vred => decide (6 < bits w 89 5) || bits w 87 2 == 3
  | .vcvt =>
    match Fmt.ofCode (bits w 90 4) with
    | none => true
    | some f => decide (16 * bits w 52 13 < f.packed 64) || w.testBit 32
  | .vwiden =>
    match Fmt.ofCode (bits w 90 4) with
    | none => true
    | some f => decide (16 * bits w 52 13 < f.packed 64) || w.testBit 32
  | .vld => decide (bits w 52 13 < 16)
  | .vst => decide (bits w 52 13 < 16)
  | .vbmp => false
  | .rake =>
    match pairOf w with
    | none => true
    | some (a, b) => !exactPair a b || bits w 17 2 != 0
  | .rmask => false
  | .seta => false
  | .load => w.testBit 7
  | .store => false
  | .copy => w.testBit 7 || bits w 40 16 != 0
  | .atom =>
    let aop := bits w 3 4
    let at_ := bits w 0 3
    bits w 20 20 != 0 || decide (7 < aop) || decide (4 < at_) || (at_ == 4 && decide (3 ≤ aop) && decide (aop ≤ 5))
  | .fence => !w.testBit 7 || bits w 4 3 != 0
  | .signal => decide (0x0FFF < bits w 80 16) || decide (96 ≤ bits w 72 8)
  | .coll => false

/-- R82 check 6: the number of the first operand whose TM range leaves the core's 16 MiB. Tile and mask register fields
are as wide as their files, so no register number lies outside. -/
def tileRange (op : CoreOp) (w : Nat) : Option Nat :=
  let past (off len : Nat) : Bool := decide (tmSize < 16 * off + len)
  match op with
  | .mma =>
    match pairOf w with
    | none => none
    | some (a, b) =>
      if w.testBit 69 then (if past (bits w 49 20) (compactSize a b (mmaK w)) then some 1 else none)
      else if past (bits w 49 20) (rowsSize (bits w 36 13) (a.packed (mmaK w))) then some 1
      else if past (bits w 16 20) (rowsSize (bits w 3 13) (b.packed (mmaK w))) then some 2 else none
  | .mout =>
    match Fmt.ofCode (bits w 90 4) with
    | none => none
    | some f =>
      if !w.testBit 89 && past (bits w 69 20) (rowsSize (bits w 56 13) (f.packed 64)) then some 1
      else if past (bits w 36 20) 32 then some 2 else none
  | .vcvt =>
    match Fmt.ofCode (bits w 90 4) with
    | none => none
    | some f =>
      if past (bits w 65 20) (rowsSize (bits w 52 13) (f.packed 64)) then some 1
      else if past (bits w 32 20) 32 then some 2 else none
  | .vwiden =>
    match Fmt.ofCode (bits w 90 4) with
    | none => none
    | some f =>
      if past (bits w 65 20) (rowsSize (bits w 52 13) (f.packed 64)) then some 1
      else if past (bits w 32 20) 32 then some 2 else none
  | .vld => if past (bits w 65 20) (rowsSize (bits w 52 13) 256) then some 1 else none
  | .vst => if past (bits w 65 20) (rowsSize (bits w 52 13) 256) then some 1 else none
  | .vbmp => if past (bits w 65 20) 512 then some 1 else none
  | .rake =>
    match pairOf w with
    | none => none
    | some (a, b) =>
      if past (bits w 57 20) 16 then some 1
      else if past (bits w 37 20) (compactSize a b (bits w 77 9 + 1)) then some 2 else none
  | .rmask =>
    let len := ceilDiv (bits w 22 12 + 1) 8
    if past (bits w 74 20) len then some 1
    else if past (bits w 54 20) len then some 2
    else if past (bits w 34 20) 16 then some 3 else none
  | .load => if past (bits w 40 20) (bits w 20 20 + 1) then some 1 else none
  | .store => if past (bits w 40 20) (bits w 20 20 + 1) then some 1 else none
  | .atom => if past (bits w 40 20) 24 then some 1 else none
  | _ => none

/-- R82 check 7: a flag field in the operands is 256 or above. -/
def flagField (op : CoreOp) (w : Nat) : Bool :=
  match op with
  | .wait => decide (256 ≤ bits w 0 12)
  | .post => decide (256 ≤ bits w 0 12)
  | .flagset => decide (256 ≤ bits w 0 12)
  | _ => false

/-- The checks of R82 in their order: the halt status and detail of the first that fails. -/
def checkCommand (w : Nat) (en rake : Bool) (c : CoreSt) : Option (Nat × Nat) :=
  if 6 ≤ engineOf w then some (0x12, 1)
  else if engineOf w = 4 ∧ !rake then some (0x11, 4)
  else
    match CoreOp.of w with
    | none => some (0x12, 1)
    | some op =>
      if reservedSet op w then some (0x12, 2)
      else if forbidden op w en rake c then some (0x12, 3)
      else
        match tileRange op w with
        | some d => some (0x13, d)
        | none => if flagField op w then some (0x14, 1) else none

/-- Occupancy in strides (R98); LDE, FXE and SQ commands have none. -/
def occupancy (op : CoreOp) (w : Nat) : Nat :=
  match op with
  | .mma => match pairOf w with | some (a, _) => ceilDiv (mmaK w) (depthOf a) | none => 1
  | .mclr => 1
  | .vop => if w.testBit 88 then 8 else 16
  | .vfunc => 32
  | _ => 16

/-- Result latency in strides (R98). -/
def latency (op : CoreOp) (w : Nat) : Nat :=
  match op with
  | .mma => occupancy .mma w + 24
  | .mout => 40
  | .mpart => 40
  | .mclr => 2
  | .vfunc => 48
  | .vred => 32
  | .vld => 20
  | .vst => 20
  | _ => 24

end Sys2Proof.Machine
end

