-- ==== Sys2Proof/Machine/Sequencer.lean ====
section
/-! DEFINITION. The sequencer of a core: fetch, the checks before issue, the SQ commands, enqueueing, launch, stop, the
instruction cache, and the completion of a run (spec/03_core_sequencer.md, R82 to R108, R536; R113 for the chain rules). -/

namespace Sys2Proof.Machine

/-- Whether the cores can run: the module is not scratched (R38 stops all compute). -/
def State.coreCanRun (s : State) (n : Nat) : Bool := s.hasCore n && !s.scratched

/-- Writes a predicate. -/
def State.setPred (s : State) (n p : Nat) (v : Bool) : State := s.wrFld Obj.seqState n p 1 (b2n v)

/-- Lap counter `k` of a core (R89, R108). -/
def State.lap (s : State) (n k : Nat) : Nat := s.fld Obj.seqState n (112 + 24 * k) 24

/-- Writes a lap counter. -/
def State.setLap (s : State) (n k v : Nat) : State := s.wrFld Obj.seqState n (112 + 24 * k) 24 v

/-- Whether everything a core has issued has completed: queues empty, nothing in flight, no request outstanding. -/
def CoreSt.drained (c : CoreSt) : Bool :=
  c.undispatched == 0 && c.flights.isEmpty && c.varCmds.isEmpty && c.rkeOut == 0

/-- What an SQ command does once its WAIT_SEL is over: it goes on with a state and the next position, waits at a phase, or
halts with BAD_OPCODE and a reason. -/
inductive SqOut
  | go (s : State) (next : Nat)
  | hold (w : SqWait)
  | bad (s : State) (reason : Nat)
  | stop (s : State)

/-- NOP (R89): no effect. -/
def sqNop (s : State) (pos : Nat) : SqOut := .go s (pos + 1)

/-- END (R89): stops issue. -/
def sqEnd (s : State) : SqOut := .stop s

/-- PACE (R89): the largest n between two paced commands is the gap of the second. -/
def sqPace (s : State) (n w pos : Nat) : SqOut :=
  let c := s.core n
  .go (s.setCore n { c with paceGap := max c.paceGap (bits w 0 12) }) (pos + 1)

/-- WAIT (R89): until the flag is at least count, then subtracts it unless KEEP. -/
def sqWait (s : State) (n w pos : Nat) : SqOut :=
  let f := bits w 0 12
  let count := bits w 16 32
  let limit := if bits w 48 32 = 0 then (s.core n).waitLimit else bits w 48 32
  if count ≤ s.flag n f then .go (if w.testBit 12 then s else s.takeFlag n f count) (pos + 1)
  else .hold ⟨.sqWait, f, count, if w.testBit 12 then 0 else count, limit, 0, 0⟩

/-- POST (R89): adds count to the flag. -/
def sqPost (s : State) (n w pos ord : Nat) : SqOut :=
  .go (s.addFlag n (bits w 0 12) (bits w 16 32) (some (pos, ord))) (pos + 1)

/-- FLAGSET (R89). -/
def sqFlagset (s : State) (n w pos ord : Nat) : SqOut :=
  .go (s.flagSet n (bits w 0 12) (bits w 16 32) pos ord) (pos + 1)

/-- PSET (R89): a predicate from a bit of a summary slot's status word. -/
def sqPset (s : State) (n w pos : Nat) : SqOut :=
  .go (s.setPred n (bits w 0 4) ((s.rd Obj.summarySlots (8 * n + bits w 4 3)).testBit (bits w 8 5))) (pos + 1)

/-- PLOGIC (R89). -/
def sqPlogic (s : State) (n w pos : Nat) : SqOut :=
  let a := s.pred n (bits w 4 4)
  let b := s.pred n (bits w 8 4)
  let v := match bits w 12 2 with | 0 => a && b | 1 => a || b | 2 => a != b | _ => a && !b
  .go (s.setPred n (bits w 0 4) v) (pos + 1)

/-- SKIP (R90): to pos + 1 + n, which must be the position of a command of the stream. -/
def sqSkip (s : State) (n w pos : Nat) : SqOut :=
  let t := pos + 1 + bits w 0 12
  if (s.core n).streamLen ≤ t then .bad s 4 else .go s t

/-- LAPSET (R89). -/
def sqLapset (s : State) (n w pos : Nat) : SqOut := .go (s.setLap n (bits w 0 2) (bits w 8 24)) (pos + 1)

/-- LAP (R91). -/
def sqLap (s : State) (n w pos : Nat) : SqOut :=
  let k := bits w 0 2
  let d := bits w 12 12
  if s.lap n k = 0 then .go s (pos + 1)
  else
    let s := s.setLap n k (s.lap n k - 1)
    if pos < d then .bad s 4 else .go s (pos - d)

/-- DRAIN (R89): until every queue is empty and every issued command has completed. -/
def sqDrain (s : State) (n pos : Nat) : SqOut :=
  if (s.core n).drained then .go s (pos + 1) else .hold ⟨.drain, 0, 0, 0, 0, 0, 0⟩

/-- MARK (R89): the MARK field of the halt record. -/
def sqMark (s : State) (n w pos : Nat) : SqOut := .go (s.wrFld Obj.haltRecord n 192 32 (bits w 0 32)) (pos + 1)

/-- The effect of an SQ command with a true predicate (R89). -/
def sqEffect (op : CoreOp) (s : State) (n w pos ord : Nat) : SqOut :=
  match op with
  | .end_ => sqEnd s
  | .pace => sqPace s n w pos
  | .wait => sqWait s n w pos
  | .post => sqPost s n w pos ord
  | .flagset => sqFlagset s n w pos ord
  | .pset => sqPset s n w pos
  | .plogic => sqPlogic s n w pos
  | .skip => sqSkip s n w pos
  | .lapset => sqLapset s n w pos
  | .lap => sqLap s n w pos
  | .drain => sqDrain s n pos
  | .mark => sqMark s n w pos
  | _ => sqNop s pos

/-- A command has finished issuing (R84): the ordinal and position move on, and issue stops where TRUNC_AT is reached. -/
def State.issued (s : State) (n pos next ord : Nat) : State :=
  let s := (s.wrFld Obj.seqState n 48 64 ord).wrFld Obj.seqState n 16 32 next
  let c := s.core n
  let s := s.setCore n { c with lastIssue := some (s.stride n), lastPos := pos, sq := none }
  if c.stop = .running ∧ c.truncAt ≠ 0 ∧ ord = c.truncAt then s.stopIssue n (.truncated 0) pos ord else s

/-- The sequencer comes to wait, or goes on waiting, at a point of the command it is issuing. -/
def State.sqHold (s : State) (n : Nat) (w : SqWait) : State :=
  let c := s.core n
  match c.sq with
  | some old => if old.phase = w.phase then s else s.setCore n { c with sq := some w }
  | none => s.setCore n { c with sq := some w }

/-- The wait of an SQ command's WAIT_SEL is over: the flag is taken, and the command no longer waits on it (R84, R97). -/
def State.waitSelOver (s : State) (n f : Nat) : State :=
  let s := s.takeFlag n f 1
  s.setCore n { s.core n with sq := none }

/-- Issues an SQ command (R84, R85): the wait of its WAIT_SEL, its effect where its predicate is true, its post. Two points
the spec leaves open (DESIGN CHOICE, log entry 84): a FLAGSET whose own WAIT_SEL names its flag leaves v, since R84 has the
wait before the effect, where the order of R93 would leave v - 1; and a POST or FLAGSET that overflows and halts the core
still performs the post of its POST_SEL. -/
def issueSq (op : CoreOp) (s : State) (n w pos ord : Nat) (en : Bool) : State :=
  let phase := (s.core n).sq.map (·.phase)
  let f := waitSel w
  let inWaitSel := phase.isNone || phase == some .waitSel
  if inWaitSel ∧ f ≠ 0 ∧ s.flag n f = 0 then s.sqHold n ⟨.waitSel, f, 1, 1, (s.core n).waitLimit, 0, 0⟩
  else
    let s := if inWaitSel ∧ f ≠ 0 then s.waitSelOver n f else s
    if !en then (s.issued n pos (pos + 1) ord).post n w pos ord
    else
      match sqEffect op s n w pos ord with
      | .go s next => (s.issued n pos next ord).post n w pos ord
      | .hold h => s.sqHold n { h with taken := f }
      | .bad s reason => s.haltCore n 0x12 reason pos ord
      | .stop s => ((s.stopIssue n .ended pos ord).issued n pos (pos + 1) ord).post n w pos ord

/-- Whether an engine queue and the total have room (R83). -/
def CoreSt.room (c : CoreSt) (e : Nat) : Bool :=
  decide ((c.engineQueue e).length < 512) && decide (c.undispatched < 1024)

/-- The chain state of a set after an MMA or MCLR with a true predicate issues (R113). -/
def chainIssue (op : CoreOp) (w : Nat) (c : CoreSt) : CoreSt :=
  match op with
  | .mma =>
    let k := bits w 70 1
    let a := c.set k
    let fam := match pairOf w with | some (x, y) => if exactPair x y then 1 else 2 | none => 0
    c.setAc k { a with family := fam, count := a.count + mmaK w, last32 := mmaK w % 32 == 0 }
  | .mclr =>
    let k := bits w 27 1
    c.setAc k { c.set k with family := 0, count := 0, last32 := true }
  | _ => c

/-- Issues a command of another engine (R83, R84): into its queue, or the sequencer waits for room. -/
def issueQueued (op : CoreOp) (s : State) (n w pos ord : Nat) (en : Bool) : State :=
  let c := s.core n
  let e := engineOf w
  if c.room e then
    let q : QCmd := { engine := e, word := w, ord := ord, pos := pos, void := !en, gap := c.paceGap, waited := 0 }
    let c := if en then chainIssue op w c else c
    let c := if e = 3 then { c with lde := c.lde ++ [q] }
      else if e = 5 then { c with fxe := c.fxe ++ [q] }
      else { c with paced := c.paced ++ [q], paceGap := 1 }
    (s.setCore n c).issued n pos (pos + 1) ord
  else s.sqHold n ⟨.room, 0, 0, 0, 0, 0, 0⟩

/-- Whether an SQ command must keep to the order of R93 in a stride in which a queue has taken from a flag: a FLAGSET of that
flag, which comes first among the stride's changes, and a WAIT or a WAIT_SEL on it, which comes before the queues. -/
def sqFirst (op : CoreOp) (w : Nat) (dec : List Nat) : Bool :=
  ((op == .flagset || op == .wait) && dec.contains (bits w 0 12))
    || (engineOf w == 0 && waitSel w != 0 && dec.contains (waitSel w))

/-- The stride at which a core's sequencer can issue next: one command per stride (R77), and not one in which it would come
too late (R93). -/
def State.issueStride (s : State) (n : Nat) (op : CoreOp) (w : Nat) : Nat :=
  let c := s.core n
  let t := match c.lastIssue with | some x => max (s.stride n) (x + 1) | none => s.stride n
  if t = s.stride n ∧ sqFirst op w c.decNow then t + 1 else t

/-- The sequencer of core `n` issues the command at its position (R84), which the row says is `op`: the check of R82, the
halt at the end of the stream (reason 5), and the issue itself. A core that does not issue, a line not in the cache, a
different command at the position, or a stride that something else is due before, changes nothing (log entry 5). -/
def issueRow (op : CoreOp) (n : Nat) (s : State) : Res :=
  if 96 ≤ n then .fault .noSuchUnit
  else if !(s.coreCanRun n && s.coreState n == 1 && decide ((s.core n).stop = .running)) then .next s
  else
    let pos := s.position n
    let ord := s.ordinal n + 1
    if (s.core n).streamLen ≤ pos then .next (s.haltCore n 0x12 5 (s.core n).lastPos (ord - 1))
    else
      match s.fetch n pos with
      | none => .next s
      | some w =>
        let t := s.issueStride n op w
        let named := CoreOp.of w
        if !s.clearTo n t && decide (s.stride n < t) then .next s
        else if (s.core n).sq.isSome then
          if named ≠ some op then .next s
          else
            let s := s.advance n t
            .next (if engineOf w = 0 then issueSq op s n w pos ord (s.enabled n w)
              else issueQueued op s n w pos ord (s.enabled n w))
        else
          let en := s.enabled n w
          if named ≠ some op ∧ named.isSome then .next s
          else
            match checkCommand w en (s.hasRake (n / 2)) (s.core n) with
            | some (status, detail) => .next ((s.advance n t).haltCore n status detail pos ord)
            | none =>
              let s := s.advance n t
              .next (if engineOf w = 0 then issueSq op s n w pos ord en else issueQueued op s n w pos ord en)

/-- NOP. -/
def execNop (core : Nat) (s : State) : Res := issueRow .nop core s
/-- END. -/
def execSqEnd (core : Nat) (s : State) : Res := issueRow .end_ core s
/-- PACE. -/
def execPace (core : Nat) (s : State) : Res := issueRow .pace core s
/-- WAIT. -/
def execWait (core : Nat) (s : State) : Res := issueRow .wait core s
/-- POST. -/
def execPost (core : Nat) (s : State) : Res := issueRow .post core s
/-- FLAGSET. -/
def execFlagset (core : Nat) (s : State) : Res := issueRow .flagset core s
/-- PSET. -/
def execPset (core : Nat) (s : State) : Res := issueRow .pset core s
/-- PLOGIC. -/
def execPlogic (core : Nat) (s : State) : Res := issueRow .plogic core s
/-- SKIP. -/
def execSkip (core : Nat) (s : State) : Res := issueRow .skip core s
/-- LAPSET. -/
def execLapset (core : Nat) (s : State) : Res := issueRow .lapset core s
/-- LAP. -/
def execLap (core : Nat) (s : State) : Res := issueRow .lap core s
/-- DRAIN. -/
def execDrain (core : Nat) (s : State) : Res := issueRow .drain core s
/-- MARK. -/
def execMark (core : Nat) (s : State) : Res := issueRow .mark core s
/-- MMA: issue into the MXE queue. -/
def execMma (core : Nat) (s : State) : Res := issueRow .mma core s
/-- MOUT: issue. -/
def execMout (core : Nat) (s : State) : Res := issueRow .mout core s
/-- MPART: issue. -/
def execMpart (core : Nat) (s : State) : Res := issueRow .mpart core s
/-- MCLR: issue. -/
def execMclr (core : Nat) (s : State) : Res := issueRow .mclr core s
/-- VOP: issue. -/
def execVop (core : Nat) (s : State) : Res := issueRow .vop core s
/-- VCMP: issue. -/
def execVcmp (core : Nat) (s : State) : Res := issueRow .vcmp core s
/-- VFUNC: issue. -/
def execVfunc (core : Nat) (s : State) : Res := issueRow .vfunc core s
/-- VRED: issue. -/
def execVred (core : Nat) (s : State) : Res := issueRow .vred core s
/-- VCVT: issue. -/
def execVcvt (core : Nat) (s : State) : Res := issueRow .vcvt core s
/-- VWIDEN: issue. -/
def execVwiden (core : Nat) (s : State) : Res := issueRow .vwiden core s
/-- VLD: issue. -/
def execVld (core : Nat) (s : State) : Res := issueRow .vld core s
/-- VST: issue. -/
def execVst (core : Nat) (s : State) : Res := issueRow .vst core s
/-- VBMP: issue. -/
def execVbmp (core : Nat) (s : State) : Res := issueRow .vbmp core s
/-- RAKE: issue. -/
def execRake (core : Nat) (s : State) : Res := issueRow .rake core s
/-- RMASK: issue. -/
def execRmask (core : Nat) (s : State) : Res := issueRow .rmask core s
/-- SETA: issue. -/
def execSeta (core : Nat) (s : State) : Res := issueRow .seta core s
/-- LOAD: issue. -/
def execLoad (core : Nat) (s : State) : Res := issueRow .load core s
/-- STORE: issue. -/
def execStore (core : Nat) (s : State) : Res := issueRow .store core s
/-- COPY: issue. -/
def execCopy (core : Nat) (s : State) : Res := issueRow .copy core s
/-- ATOM: issue. -/
def execAtom (core : Nat) (s : State) : Res := issueRow .atom core s
/-- FENCE: issue. -/
def execFence (core : Nat) (s : State) : Res := issueRow .fence core s
/-- SIGNAL: issue. -/
def execSignal (core : Nat) (s : State) : Res := issueRow .signal core s
/-- COLL: issue. -/
def execColl (core : Nat) (s : State) : Res := issueRow .coll core s

end Sys2Proof.Machine
end

