-- ==== Sys2Proof/Machine/Engines.lean ====
section
/-! DEFINITION. What the MXE and the VXE compute (spec/04_matrix_and_vector_engines.md): the places each command reads and
for how long (R130), and the writes, the summary and the counts of its result. -/

namespace Sys2Proof.Machine

/-! ### Random bits (R469, R470) -/

/-- The mixing function of R469. -/
def mix64 (x : Nat) : Nat :=
  let x := ((x ^^^ (x >>> 30)) * 0xBF58476D1CE4E5B9) % 2 ^ 64
  let x := ((x ^^^ (x >>> 27)) * 0x94D049BB133111EB) % 2 ^ 64
  x ^^^ (x >>> 31)

/-- The counter-based generator of R469. -/
def rng64 (seed rank stream index : Nat) : Nat :=
  let key := mix64 ((seed ^^^ (rank <<< 48) ^^^ (stream <<< 40)) % 2 ^ 64)
  mix64 ((key + index * 0x9E3779B97F4A7C15) % 2 ^ 64)

/-- The logical rank of the module, where it has one (R441): the value of a rank ID; a spare, a manager and a standby
manager have none. -/
def State.logicalRank (s : State) : Option Nat :=
  if s.service = 1 ∧ s.devId < 0x1000 ∧ s.marshal.role = 0 then some s.devId else none

/-- Where random bits come from: the seed, the rank and the free counter that stands in where the module has no rank and
the spec names no value (log entry 9). -/
structure RandomSource where
  seed : Nat
  rank : Option Nat
  free : Nat
  deriving DecidableEq, Repr

/-- The 64 bits for a stream and an index. -/
def RandomSource.at (r : RandomSource) (stream index : Nat) : Nat :=
  match r.rank with
  | some k => rng64 r.seed k stream index
  | none => Config.freeVal r.free index

/-! ### Reading inputs -/

/-- Element `e` of a tile register's content (R121, R135). -/
def tileElem (content e : Nat) : Code := bits content (32 * e) 32

/-- Element (r, c) of a tile as operand b of BMODE (R122): the tile, its row 0, its column 0, or an immediate. -/
def operandB (bmode content imm e : Nat) : Code :=
  match bmode with
  | 0 => tileElem content e
  | 1 => tileElem content (e % 64)
  | 2 => tileElem content (e / 64 * 64)
  | _ => imm

/-- The content of a place now, as one code. -/
def State.placeContent (s : State) (n : Nat) : Place → Nat
  | .tm off len => s.tmCode n off len
  | .tile t => s.rd Obj.tileRegs (32 * n + t)
  | .mask m => s.rd Obj.maskRegs (8 * n + m)
  | .set _ => 0

/-- An input read now, its window ending at stride `last`. -/
def State.input (s : State) (n : Nat) (p : Place) (last : Nat) : Input :=
  { place := p, last := last, content := s.placeContent n p,
    accs := match p with | .set k => ((s.core n).set k).accs | _ => [] }

/-- The rows of an operand area in TM (R111), offset and bytes of each. -/
def rowRanges (off pitch rowBytes : Nat) : List (Nat × Nat) := (List.range 64).map fun r => (16 * (off + r * pitch), rowBytes)

/-- The TM ranges a paced command of the MXE or VXE reads (R111, R130), whose codewords TM checks (R166): the rows of its
operands, then its scale descriptor. -/
def tmReads (op : CoreOp) (w : Nat) : List (Nat × Nat) :=
  match op with
  | .mma =>
    match pairOf w with
    | none => []
    | some (a, b) =>
      if w.testBit 69 then [(16 * bits w 49 20, compactSize a b (mmaK w))]
      else rowRanges (bits w 49 20) (bits w 36 13) (a.packed (mmaK w)) ++ rowRanges (bits w 16 20) (bits w 3 13) (b.packed (mmaK w))
  | .mout => [(16 * bits w 36 20, 32)]
  | .vcvt => [(16 * bits w 32 20, 32)]
  | .vwiden =>
    match Fmt.ofCode (bits w 90 4) with
    | none => []
    | some f => rowRanges (bits w 65 20) (bits w 52 13) (f.packed 64) ++ [(16 * bits w 32 20, 32)]
  | .vld => rowRanges (bits w 65 20) (bits w 52 13) 256
  | _ => []

/-- The places a paced command reads, with the last stride of each window counted from dispatch (R111, R130). -/
def readsOf (op : CoreOp) (w : Nat) : List (Place × Nat) :=
  let rows (off pitch rowBytes : Nat) : Place := .tm (16 * off) (rowsSize pitch rowBytes)
  match op with
  | .mma =>
    match pairOf w with
    | none => []
    | some (a, b) =>
      let last := occupancy .mma w - 1
      if w.testBit 69 then [(.tm (16 * bits w 49 20) (compactSize a b (mmaK w)), last)]
      else [(rows (bits w 49 20) (bits w 36 13) (a.packed (mmaK w)), last),
            (rows (bits w 16 20) (bits w 3 13) (b.packed (mmaK w)), last)]
  | .mout => [(.set (bits w 27 1), 15), (.tm (16 * bits w 36 20) 32, 0)]
  | .mpart => [(.set (bits w 27 1), 15)]
  | .vop =>
    let last := if w.testBit 88 then 7 else 15
    [(.tile (bits w 78 5), last), (.tile (bits w 73 5), last), (.tile (bits w 68 5), last), (.mask (bits w 63 3), last)]
  | .vcmp => [(.tile (bits w 80 5), 15), (.tile (bits w 75 5), 15), (.mask (bits w 64 3), 15), (.mask (bits w 70 3), 15),
      (.mask (bits w 67 3), 15)]
  | .vfunc => [(.tile (bits w 78 5), 31), (.mask (bits w 63 3), 31)]
  | .vred => [(.tile (bits w 77 5), 15), (.mask (bits w 68 3), 15)]
  | .vcvt => [(.tile (bits w 85 5), 15), (.mask (bits w 17 3), 15), (.tm (16 * bits w 32 20) 32, 0)]
  | .vwiden =>
    match Fmt.ofCode (bits w 90 4) with
    | none => []
    | some f => [(rows (bits w 65 20) (bits w 52 13) (f.packed 64), 15), (.tm (16 * bits w 32 20) 32, 0)]
  | .vld => [(rows (bits w 65 20) (bits w 52 13) 256, 15)]
  | .vst => [(.tile (bits w 85 5), 15)]
  | .vbmp => [(.tile (bits w 85 5), 15), (.mask (bits w 21 3), 15)]
  | _ => []

/-! ### Effects -/

/-- One write of a result: the place, the new content, and the bits of the place that are replaced. -/
structure Effect where
  place : Place
  content : Nat
  wmask : Nat
  deriving DecidableEq, Repr

/-- What a command's result does: its writes, its summary (status word and value) where it has one, and its counts. -/
structure Outcome4 where
  effects : List Effect
  status : Nat
  value : Nat
  sat : Nat
  flush : Nat
  deriving DecidableEq, Repr

/-- A result with no summary and no counts. -/
def plain (es : List Effect) : Outcome4 := ⟨es, 0, 0, 0, 0⟩

/-- All bits of a code of `w` bits. -/
def ones (w : Nat) : Nat := 2 ^ w - 1

/-- The bits of a tile whose mask bits are set: 32 for each element. -/
def tileMask (mask : Nat) : Nat := Fmt.fp32.packCode ((List.range 4096).map fun e => if mask.testBit e then ones 32 else 0)

/-- Whether an element takes part under a mask code. -/
def takes (mask e : Nat) : Bool := mask.testBit e

/-- How many results count in a way. -/
def countOf (c : Count) (l : List (Code × Count)) : Nat := (l.filter (·.2 == c)).length

/-- The elements of a tile as row-major indices. -/
def elements : List Nat := List.range 4096

/-- An exact operand of a scale descriptor (R117): S_A, S_B or F. -/
def scaleAt (desc lo : Nat) : XVal := decode .fp32 (bits desc lo 32)

/-- How many reserved fields of a descriptor are non-zero, as a truth value (R117): the reads are counted, one for each
command. -/
def descIgnored (desc : Nat) : Bool := bits desc 96 32 != 0 || bits desc 224 32 != 0

/-- The random index of element e of a descriptor's tensor (R118). -/
def descIndex (desc e : Nat) : Nat := (bits desc 128 64 + (e / 64) * bits desc 192 32 + e % 64) % 2 ^ 64

/-- The writes of a 64 x 64 result into TM rows (R111), the elements with a mask bit replaced. -/
def tmRows (f : Fmt) (off pitch mask : Nat) (codes : List Code) : List Effect :=
  (List.range 64).map fun r =>
    let row := (codes.drop (64 * r)).take 64
    let wm := f.packCode ((List.range 64).map fun c => if takes mask (64 * r + c) then ones f.width else 0)
    -- 64 elements fill whole bytes in every format
    { place := .tm (16 * off + r * (16 * pitch)) (f.packed 64), content := f.packCode row, wmask := wm }

/-- The summary of a command whose results are codes of one format, under a write mask. -/
def summarise (f : Fmt) (mask : Nat) (rs : List (Code × Count)) (es : List Effect) : Outcome4 :=
  let live := elements.filter (takes mask)
  let classes := live.map fun e => classOf f (rs.getD e (0, .none)).1
  let part := live.map fun e => rs.getD e (0, .none)
  let sat := countOf .saturated part
  let flush := countOf .flushed part
  ⟨es, statusWord classes live.isEmpty false sat flush false false, 0, sat, flush⟩

/-! ### MXE -/

/-- Row `r` of an operand area as exact values (R111, R49). -/
def rowValues (f : Fmt) (content rowBytes r k : Nat) : List XVal :=
  let row := content >>> (8 * rowBytes * r)
  (List.range k).map fun i => decode f (f.elem row i)

/-- The products of row i of A and column j of B added to an accumulator (R56, R58, R59). -/
def accumulate (tree : Bool) (a : Acc) (xs ys : List XVal) : Acc :=
  let ps := xs.zipWith (fun x y => x.mul y) ys
  if tree then { a with tree := treeAccumulate a.tree (ps.map rne32) }
  else { a with exact := ps.foldl (ExactAcc.add 32) a.exact }

/-- A cleared accumulator. -/
def Acc.zero : Acc := ⟨.zero, none⟩

/-- The accumulators of a set, a cleared set spelt out. -/
def accList (l : List Acc) : List Acc := if l.isEmpty then List.replicate 4096 Acc.zero else l

/-- Accumulators whose content the spec leaves open (R115): free values in either kind of chain. -/
def freeAccs (free : Nat) : List Acc :=
  elements.map fun e =>
    { exact := { sum := (Config.freeVal free (4 * e) : Int) - Config.freeVal free (4 * e + 1),
                 nan := (Config.freeVal free (4 * e + 2)).testBit 0, posInf := (Config.freeVal free (4 * e + 2)).testBit 1,
                 negInf := (Config.freeVal free (4 * e + 2)).testBit 2 }
      tree := if (Config.freeVal free (4 * e + 3)).testBit 32 then some (Config.freeVal free (4 * e + 3) % 2 ^ 32) else none }

/-- The accumulated value of an accumulator (R58, R59). -/
def Acc.value (a : Acc) : XVal :=
  match a.tree with
  | some c => decode .fp32 c
  | none => a.exact.value 32

/-- The accumulators after an MMA (R113, R114, R147). -/
def mmaResult (w : Nat) (ins : List Input) (accs : List Acc) : List Acc :=
  match pairOf w with
  | none => accs
  | some (fa, fb) =>
    let k := mmaK w
    let sparse := w.testBit 69
    let c0 := (ins[0]?).elim 0 (·.content)
    let pa := if sparse then compactRow fa k else 16 * bits w 36 13
    let pb := if sparse then compactRow fb k else 16 * bits w 3 13
    let cb := if sparse then c0 >>> (8 * 64 * compactRow fa k) else (ins[1]?).elim 0 (·.content)
    let as_ := (List.range 64).map fun r => rowValues fa c0 pa r k
    let bs := (List.range 64).map fun r => rowValues fb cb pb r k
    let tree := treePair fa fb
    (accList accs).zipWith (fun a e => accumulate tree a (as_.getD (e / 64) []) (bs.getD (e % 64) [])) elements

/-- MOUT (R116, R65): each accumulator x S_A x S_B x F, rounded once into TM or a tile register. -/
def moutResult (w : Nat) (ins : List Input) (rs : RandomSource) : Outcome4 :=
  let accs := accList ((ins[0]?).elim [] (·.accs))
  let desc := (ins[1]?).elim 0 (·.content)
  let f := (Fmt.ofCode (bits w 90 4)).getD .fp32
  let out := accs.zipWith (fun a e =>
    roundScaled f (Rnd.ofCode (bits w 94 2)) (rs.at (bits w 28 8) (descIndex desc e))
      (((a.value.mul (scaleAt desc 0)).mul (scaleAt desc 32)).mul (scaleAt desc 64))) elements
  let codes := out.map (·.1)
  let es := if w.testBit 89 then [{ place := .tile (bits w 69 5), content := Fmt.fp32.packCode codes, wmask := ones 131072 }]
    else tmRows f (bits w 69 20) (bits w 56 13) (ones 4096) codes
  summarise f (ones 4096) out es

/-- MPART (R60, R116): each accumulator rounded to FP32, unscaled. -/
def mpartResult (w : Nat) (ins : List Input) : Outcome4 :=
  let accs := accList ((ins[0]?).elim [] (·.accs))
  plain [{ place := .tile (bits w 69 5), content := Fmt.fp32.packCode (accs.map fun a => rne32 a.value), wmask := ones 131072 }]

/-! ### VXE -/

/-- A NaN result of a non-rounding operation is canonical (R123). -/
def canonical (c : Code) : Code := if (decode .fp32 c).isNan then 0x7FC00000 else c % 2 ^ 32

/-- One VOP operation on FP32 codes (R123): the exact value that is rounded, or the final code. The sign of an exact zero of
MUL, which R123 does not name beside ADD, SUB and FMA, is the product of the operands' signs (DESIGN CHOICE, log entry 85). -/
def vopExact (sub : Nat) (a b c : XVal) : Option XVal :=
  match sub with
  | 1 => some (a.add b)
  | 2 => some (a.add b.negate)
  | 3 => some (a.mul b)
  | 4 => some ((a.mul b).add c)
  | _ => none

/-- A VOP on one element (R123, R124). -/
def vopElem (w : Nat) (rs : RandomSource) (a b c : Code) (sel : Bool) (e : Nat) : Code × Count :=
  let sub := bits w 89 5
  let bf := w.testBit 88
  let rnd := Rnd.ofCode (bits w 94 2)
  let random := rs.at (bits w 19 8) e
  let inp (x : Code) : Code := if bf then x / 2 ^ 16 * 2 ^ 16 else x
  let rounded (v : XVal) : Code × Count :=
    if bf then let r := roundFinal .bf16 rnd random v; (r.1 * 2 ^ 16, r.2) else roundFinal .fp32 rnd random v
  let x := inp a
  let y := inp b
  match sub with
  | 0 => (canonical x, .none)
  | 5 => (max32 x y, .none)
  | 6 => (min32 x y, .none)
  | 7 => (canonical (x % 2 ^ 31), .none)
  | 8 => (canonical (x ^^^ 2 ^ 31), .none)
  | 9 => (canonical (if sel then x else y), .none)
  | 10 => rounded (.fin false (a % 2 ^ 32) 0)
  | _ =>
    match vopExact sub (decode .fp32 x) (decode .fp32 y) (decode .fp32 (inp c)) with
    | some v => rounded v
    | none => (canonical x, .none)

/-- VOP (R122 to R125). SEL writes every element; the mask is its selector. -/
def vopResult (w : Nat) (ins : List Input) (rs : RandomSource) : Outcome4 :=
  let ca := (ins[0]?).elim 0 (·.content)
  let cb := (ins[1]?).elim 0 (·.content)
  let cc := (ins[2]?).elim 0 (·.content)
  let mask := (ins[3]?).elim 0 (·.content)
  let sel := bits w 89 5 = 9
  let wm := if sel then ones 4096 else mask
  let out := elements.map fun e =>
    vopElem w rs (tileElem ca e) (operandB (bits w 66 2) cb (bits w 27 32) e) (tileElem cc e) (takes mask e) e
  summarise .fp32 wm out
    [{ place := .tile (bits w 83 5), content := Fmt.fp32.packCode (out.map (·.1)), wmask := tileMask wm }]

/-- A code of 4,096 mask bits from a test on elements. -/
def maskCode (p : Nat → Bool) : Nat := leCode ((List.range 512).map fun b =>
  BitVec.ofNat 8 ((List.range 8).foldl (fun a i => a + b2n (p (8 * b + i)) * 2 ^ i) 0))

/-- VCMP (R126): a comparison under MASK, or an operation on whole mask registers. -/
def vcmpResult (w : Nat) (ins : List Input) : Outcome4 :=
  let ca := (ins[0]?).elim 0 (·.content)
  let cb := (ins[1]?).elim 0 (·.content)
  let mask := (ins[2]?).elim 0 (·.content)
  let ma := (ins[3]?).elim 0 (·.content)
  let mb := (ins[4]?).elim 0 (·.content)
  let sub := bits w 89 5
  let cmp := sub < 8
  let bit (e : Nat) : Bool :=
    match sub with
    | 8 => takes ma e && takes mb e
    | 9 => takes ma e || takes mb e
    | 10 => takes ma e != takes mb e
    | 11 => takes ma e && !takes mb e
    | 12 => !takes ma e
    | _ => takes mask e &&
        compare32 sub (decode .fp32 (tileElem ca e)) (decode .fp32 (operandB (bits w 73 2) cb (bits w 28 32) e))
  let code := maskCode bit
  let n := popCount code 4096
  let empty := cmp && !elements.any (takes mask)
  ⟨[{ place := .mask (bits w 85 3), content := code, wmask := ones 4096 }],
    statusWord (elements.map fun e => classOfU32 (b2n (takes code e))) empty false 0 0 (n != 0) (n == 4096), n, 0, 0⟩

/-- VFUNC (R127). -/
def vfuncResult (w : Nat) (ins : List Input) : Outcome4 :=
  let ca := (ins[0]?).elim 0 (·.content)
  let mask := (ins[1]?).elim 0 (·.content)
  let f (v : XVal) : XVal :=
    match bits w 89 5 with | 0 => v.exp2 | 1 => v.log2 | 2 => v.rcp | _ => v.rsqrt
  let out := elements.map fun e =>
    if takes mask e then roundFinal .fp32 (Rnd.ofCode (bits w 94 2)) 0 (f (decode .fp32 (tileElem ca e))) else (0, .none)
  summarise .fp32 mask out
    [{ place := .tile (bits w 83 5), content := Fmt.fp32.packCode (out.map (·.1)), wmask := tileMask mask }]

/-- The result of one reduction over (index, code) pairs of the elements of a vector, `take` saying which take part
(R61, R71, R73, R128). Indices come with the elements; 64 of them enter the trees, masked ones as the identity. -/
def reduce (sub : Nat) (v : List (Nat × Code)) (take : Nat → Bool) : Code :=
  let live := v.filter (fun p => take p.1)
  let tree (op : Code → Code → Code) (id : Code) : Code := treeRed op id 6 (v.map fun p => if take p.1 then p.2 else id)
  let fold (op : Code → Code → Code) (id : Code) : Code := live.foldl (fun a p => op a p.2) id
  let arg (better : XVal → XVal → Bool) : Code :=
    match live.find? (fun p => (decode .fp32 p.2).isNan) with
    | some p => p.1
    | none =>
      match live with
      | [] => 0xFFFFFFFF
      | p :: ps => (ps.foldl (fun b q => if better (decode .fp32 q.2) (decode .fp32 b.2) then q else b) p).1
  match sub with
  | 0 => tree add32 0
  | 1 => tree mul32 0x3F800000
  | 2 => fold max32 0xFF800000
  | 3 => fold min32 0x7F800000
  | 4 => live.length
  | 5 => arg (fun a b => b.below a)
  | _ => arg (fun a b => a.below b)

/-- VRED (R128, R133). -/
def vredResult (w : Nat) (ins : List Input) : Outcome4 :=
  let ca := (ins[0]?).elim 0 (·.content)
  let mask := (ins[1]?).elim 0 (·.content)
  let sub := bits w 89 5
  let scope := bits w 87 2
  let td := bits w 82 5
  let pos := bits w 71 6
  let row (r : Nat) : List (Nat × Code) := (List.range 64).map fun c => (c, tileElem ca (64 * r + c))
  let col (c : Nat) : List (Nat × Code) := (List.range 64).map fun r => (r, tileElem ca (64 * r + c))
  let rowTakes (r c : Nat) : Bool := takes mask (64 * r + c)
  let colTakes (c r : Nat) : Bool := takes mask (64 * r + c)
  let none (l : Nat → Bool) : Bool := !(List.range 64).any l
  let empties := (List.range 64).map fun i => if scope = 1 then none (colTakes i) else none (rowTakes i)
  let idx := (List.range 64)
  let results : List Code :=
    if scope = 0 then idx.map fun r => reduce sub (row r) (rowTakes r)
    else if scope = 1 then idx.map fun c => reduce sub (col c) (colTakes c)
    else if 5 ≤ sub then [reduce sub (elements.map fun e => (e, tileElem ca e)) (takes mask)]
    else if sub = 4 then [popCount mask 4096]
    else [reduce sub (idx.map fun r => (r, reduce sub (row r) (rowTakes r))) (fun _ => true)]
  let place (i : Nat) : Nat := if scope = 0 then 64 * i + pos else if scope = 1 then 64 * pos + i else 64 * pos
  let content := results.zipIdx.foldl (fun a p => a + (p.1 % 2 ^ 32) * 2 ^ (32 * place p.2)) 0
  let wm := results.zipIdx.foldl (fun a p => a + ones 32 * 2 ^ (32 * place p.2)) 0
  let classes := results.map fun c => if 4 ≤ sub then classOfU32 c else classOf .fp32 c
  ⟨[{ place := .tile td, content := content, wmask := wm }],
    statusWord classes (empties.all id) (empties.any id) 0 0 false false, results.headD 0, 0, 0⟩

/-- VCVT (R129, R65, R68): x x S_A x S_B x F rounded once, the elements of the mask. -/
def vcvtResult (w : Nat) (ins : List Input) (rs : RandomSource) : Outcome4 :=
  let ca := (ins[0]?).elim 0 (·.content)
  let mask := (ins[1]?).elim 0 (·.content)
  let desc := (ins[2]?).elim 0 (·.content)
  let f := (Fmt.ofCode (bits w 90 4)).getD .fp32
  let out := elements.map fun e =>
    roundScaled f (Rnd.ofCode (bits w 94 2)) (rs.at (bits w 24 8) (descIndex desc e))
      ((((decode .fp32 (tileElem ca e)).mul (scaleAt desc 0)).mul (scaleAt desc 32)).mul (scaleAt desc 64))
  summarise f mask out (tmRows f (bits w 65 20) (bits w 52 13) mask (out.map (·.1)))

/-- VWIDEN (R129, R68): c x S_A rounded once into FP32 by RNE with IEEE overflow, counting as R52. -/
def vwidenResult (w : Nat) (ins : List Input) : Outcome4 :=
  let ca := (ins[0]?).elim 0 (·.content)
  let desc := (ins[1]?).elim 0 (·.content)
  let f := (Fmt.ofCode (bits w 90 4)).getD .fp32
  let out := elements.map fun e =>
    let c := f.elem (ca >>> (8 * (16 * bits w 52 13) * (e / 64))) (e % 64)
    roundScaled .fp32 (Rnd.ofCode 1) 0 ((decode f c).mul (scaleAt desc 0))
  summarise .fp32 (ones 4096) out
    [{ place := .tile (bits w 85 5), content := Fmt.fp32.packCode (out.map (·.1)), wmask := ones 131072 }]

/-- VLD (R129). -/
def vldResult (w : Nat) (ins : List Input) : Outcome4 :=
  let ca := (ins[0]?).elim 0 (·.content)
  let content := (List.range 64).foldl (fun a r => a + bits ca (8 * (16 * bits w 52 13) * r) 2048 * 2 ^ (2048 * r)) 0
  plain [{ place := .tile (bits w 85 5), content := content, wmask := ones 131072 }]

/-- VST (R129). -/
def vstResult (w : Nat) (ins : List Input) : Outcome4 :=
  let ca := (ins[0]?).elim 0 (·.content)
  plain ((List.range 64).map fun r =>
    { place := .tm (16 * bits w 65 20 + r * (16 * bits w 52 13)) 256, content := bits ca (2048 * r) 2048, wmask := ones 2048 })

/-- VBMP (R129): the bits of the elements that are not zero and not masked. -/
def vbmpResult (w : Nat) (ins : List Input) : Outcome4 :=
  let ca := (ins[0]?).elim 0 (·.content)
  let mask := (ins[1]?).elim 0 (·.content)
  let code := maskCode fun e => takes mask e && tileElem ca e % 2 ^ 31 != 0
  plain [{ place := .tm (16 * bits w 65 20) 512, content := code, wmask := ones 4096 }]

/-- The result of an MXE or VXE command from its inputs; an MMA and an MCLR act on their set (`PACED_RESULT`). -/
def computeResult (op : CoreOp) (w : Nat) (ins : List Input) (rs : RandomSource) : Outcome4 :=
  match op with
  | .mout => moutResult w ins rs
  | .mpart => mpartResult w ins
  | .vop => vopResult w ins rs
  | .vcmp => vcmpResult w ins
  | .vfunc => vfuncResult w ins
  | .vred => vredResult w ins
  | .vcvt => vcvtResult w ins rs
  | .vwiden => vwidenResult w ins
  | .vld => vldResult w ins
  | .vst => vstResult w ins
  | .vbmp => vbmpResult w ins
  | _ => plain []

/-- The summary slot a command writes, where SUM_EN is 1 (R134). VWIDEN has the fields too. -/
def slotOf (op : CoreOp) (w : Nat) : Option Nat :=
  match op with
  | .mout => if w.testBit 26 then some (bits w 23 3) else none
  | .vop => if w.testBit 59 then some (bits w 60 3) else none
  | .vcmp => if w.testBit 60 then some (bits w 61 3) else none
  | .vfunc => if w.testBit 59 then some (bits w 60 3) else none
  | .vred => if w.testBit 64 then some (bits w 65 3) else none
  | .vcvt => if w.testBit 20 then some (bits w 21 3) else none
  | .vwiden => if w.testBit 20 then some (bits w 21 3) else none
  | _ => none

end Sys2Proof.Machine
end

