-- ==== Sys2Proof/Machine/Sparse.lean ====
section
/-! DEFINITION. What the Rake engine reads and computes (spec/05_sparse_operands_rake.md): sparse tiles (R136 to R141), the
A bitmap (R142), RAKE (R143 to R149) and RMASK (R152, R153). -/

namespace Sys2Proof.Machine

/-! ### Reading a sparse tile -/

/-- Where a walk over a sparse tile stands: the next byte, the elements found (position, code), the codes dropped beyond
KW, the malformed-input events, the end of the furthest read, and whether the rest of the row is dropped. -/
structure RowWalk where
  pos : Nat
  elems : List (Nat × Code)
  oor : Nat
  malformed : Nat
  last : Nat
  dead : Bool
  deriving DecidableEq, Repr

/-- Whether a code of a format is a zero code (R139). -/
def zeroCode (f : Fmt) (c : Code) : Bool := (decode f c).isZero

/-- The elements of a group that is stored sparse (R137), one after the other: `prev` is the code before. A code that is not
above the one before counts in MALFORMED (R141), one at or above KW in OOR (R140), and one that is both in both. -/
def sparseElems (f : Fmt) (kw g values codes : Nat) : Nat → Nat → Option Nat → RowWalk → RowWalk
  | 0, _, _, w => w
  | n + 1, i, prev, w =>
    let p := bits codes (4 * i) 4
    let ok := match prev with | none => true | some q => decide (q < p)
    let k := 16 * g + p
    let w' : RowWalk :=
      { w with malformed := w.malformed + b2n !ok, oor := w.oor + b2n (decide (kw ≤ k)),
               elems := if ok && decide (k < kw) then w.elems ++ [(k, f.elem values i)] else w.elems }
    sparseElems f kw g values codes n (i + 1) (some p) w'

/-- One group of a group-form row (R137, R139 to R141). -/
def State.walkGroup (s : State) (core : Nat) (f : Fmt) (kw map : Nat) (w : RowWalk) (g : Nat) : RowWalk :=
  if w.dead then w
  else if map.testBit g then
    let n := f.packed 16
    let code := s.tmCode core w.pos n
    let es := (List.range 16).filterMap fun i =>
      let c := f.elem code i
      if 16 * g + i < kw ∧ !zeroCode f c then some (16 * g + i, c) else none
    { w with pos := w.pos + n, last := max w.last (w.pos + n), elems := w.elems ++ es }
  else
    let count := s.tmCode core w.pos 1
    if 16 < count then { w with dead := true, malformed := w.malformed + 1, last := max w.last (w.pos + 1) }
    else
      let nv := f.packed count
      let nc := ceilDiv count 2
      let values := s.tmCode core (w.pos + 1) nv
      let codes := s.tmCode core (w.pos + 1 + nv) nc
      let stop := w.pos + 1 + nv + nc
      sparseElems f kw g values codes count 0 none { w with pos := stop, last := max w.last stop }

/-- One group-form row that starts at a byte of TM. -/
def State.walkRow (s : State) (core : Nat) (f : Fmt) (kw start : Nat) : RowWalk :=
  let groups := ceilDiv kw 16
  let map := s.tmCode core start 8
  let high := b2n (map >>> groups != 0)
  (List.range groups).foldl (s.walkGroup core f kw map) ⟨start + 8, [], 0, high, start + 8, false⟩

/-- One row of a tile that is stored dense (R136, R139). -/
def State.denseRow (s : State) (core : Nat) (f : Fmt) (kw start : Nat) : RowWalk :=
  let n := f.packed kw
  let code := s.tmCode core start n
  let es := (List.range kw).filterMap fun k =>
    let c := f.elem code k
    if zeroCode f c then none else some (k, c)
  ⟨start + n, es, 0, 0, start + n, false⟩

/-- A sparse tile as the RKE decodes it: KW (0 where the header's KW is malformed), the elements of its 64 rows, and the
walk's counts. -/
structure SparseTile where
  kw : Nat
  rows : List (List (Nat × Code))
  oor : Nat
  malformed : Nat
  last : Nat
  deriving DecidableEq, Repr

/-- Decodes the sparse tile at a byte of TM (R136 to R141). A row offset that is not a multiple of 16 is in no malformed case
of R141; it is used as it stands (DESIGN CHOICE, log entry 85). -/
def State.sparseTile (s : State) (core : Nat) (f : Fmt) (start : Nat) : SparseTile :=
  let h := s.tmCode core start 16
  let kw := bits h 0 11
  let bad := b2n (bits h 12 116 != 0)
  if kw = 0 ∨ 1024 < kw then ⟨0, List.replicate 64 [], 0, bad + 1, start + 16⟩
  else
    let row (r : Nat) : RowWalk :=
      if h.testBit 11 then s.denseRow core f kw (start + 16 + r * (ceilDiv (f.packed kw) 16 * 16))
      else s.walkRow core f kw (start + s.tmCode core (start + 16 + 4 * r) 4)
    let ws := (List.range 64).map row
    let table := if h.testBit 11 then start + 16 else start + 272
    ⟨kw, ws.map (·.elems), (ws.map (·.oor)).sum, bad + (ws.map (·.malformed)).sum, ws.foldl (fun a w => max a w.last) table⟩

/-- The B union of a tile (R139), ascending. -/
def SparseTile.union (t : SparseTile) : List Nat :=
  let u := t.rows.foldl (fun a r => r.foldl (fun a e => a ||| 2 ^ e.1) a) 0
  setBitsOf u t.kw

/-- The code of a row at a position, code 0 where no element is present (R145; log entry 13). -/
def elemAt (row : List (Nat × Code)) (k : Nat) : Code :=
  match row.find? (fun e => e.1 == k) with
  | some e => e.2
  | none => 0

/-! ### RAKE and RMASK -/

/-- RAKE: the TM ranges it reads, with the compacted area, the record and the counts, from what TM holds at the start of
service (R144 to R149). It reads those elements of A that the loop of R145 gathers, and only such a read can reach beyond 16
MiB (R141). Two points the spec leaves open (DESIGN CHOICE, log entry 85): a RAKE whose KW is malformed, which compacts
nothing, still writes its area, all of it padding; and the bytes of a row of the area between the KCAP packed elements and
the multiple of 16 (R146) keep what they hold. -/
def State.rakeOut (s : State) (core w : Nat) : List (Nat × Nat) × RakeOut :=
  match pairOf w with
  | none => ([], ⟨[], 0, 0, 0, 0, 0⟩)
  | some (fa, fb) =>
    let kcap := bits w 77 9 + 1
    let bOff := 16 * bits w 57 20
    let cOff := 16 * bits w 37 20
    let rd := 16 * bits w 17 20
    let d := s.tmCode core rd 64
    let aOff := 16 * bits d 0 20
    let aPitch := 16 * bits d 20 13
    let abm := 16 * bits d 33 20
    let rr := 16 * bits d 53 20
    let t := s.sparseTile core fb bOff
    let abmLen := ceilDiv t.kw 8
    let mapBits := s.tmCode core abm abmLen % 2 ^ t.kw
    let union := t.union
    let kept := union.filter (mapBits.testBit ·)
    let used := kept.take kcap
    let overs := kept.length - used.length
    let aRow := match used.getLast? with | some k => fa.packed (k + 1) | none => 0
    let reach := decide (tmSize < t.last) || (decide (0 < aRow) && decide (tmSize < aOff + 63 * aPitch + aRow))
      || decide (tmSize < abm + abmLen)
    let malformed := t.malformed + b2n (bits d 73 439 != 0) + b2n reach
    let pa := compactRow fa kcap
    let pb := compactRow fb kcap
    let outA (r : Nat) : Nat × Nat × Nat :=
      let code := s.tmCode core (aOff + r * aPitch) aRow
      (cOff + r * pa, fa.packed kcap, fa.packCode (used.map (fa.elem code ·)))
    let outB (r : Nat) : Nat × Nat × Nat :=
      (cOff + 64 * pa + r * pb, fb.packed kcap, fb.packCode (used.map (elemAt (t.rows.getD r []))))
    let record := kept.length + used.length * 2 ^ 16 + overs * 2 ^ 32 + t.oor % 2 ^ 16 * 2 ^ 48
      + malformed % 2 ^ 16 * 2 ^ 64 + union.length * 2 ^ 80 + popCount mapBits t.kw * 2 ^ 96
    ((rd, 64) :: (bOff, t.last - bOff) :: (abm, abmLen) :: (List.range 64).map fun r => (aOff + r * aPitch, aRow),
      { writes := (List.range 64).map outA ++ (List.range 64).map outB ++ [(rr, 16, record)],
        status := 0, overs := overs, oor := t.oor, malformed := malformed, outside := 0 })

/-- RMASK: the record, the status word and OUTSIDE (R152, R153). -/
def State.rmaskOut (s : State) (core w : Nat) : List (Nat × Nat) × RakeOut :=
  let n := bits w 22 12 + 1
  let len := ceilDiv n 8
  let aOff := 16 * bits w 74 20
  let pOff := 16 * bits w 54 20
  let act := s.tmCode core aOff len % 2 ^ n
  let pred := s.tmCode core pOff len % 2 ^ n
  let actual := popCount act n
  let hit := popCount (act &&& pred) n
  let outside := actual - hit
  let record := outside + actual * 2 ^ 32 + popCount pred n * 2 ^ 64 + hit * 2 ^ 96
  let status := (if actual = 0 then 0x11 else 0) + (if outside = 0 then 0 else 0x800)
  ([(aOff, len), (pOff, len)], ⟨[(16 * bits w 34 20, 16, record)], status, 0, 0, 0, outside⟩)

/-- What the Rake engine reads and computes for a command of a core (R144 to R149, R152, R153). -/
def State.rkeCompute (s : State) (core w : Nat) : List (Nat × Nat) × RakeOut :=
  if CoreOp.of w = some .rake then s.rakeOut core w else s.rmaskOut core w

end Sys2Proof.Machine
end

