-- ==== Sys2Proof/Machine/Paced.lean ====
section
/-! DEFINITION. Dispatch and result of the paced engines (R85, R86, R94, R98, R115, R130, R131), the wait limit (R96, R97),
the completion of a core (R105), launch and stop (R103, R104, R536), the totals (R75), and the stride window (R80). -/

namespace Sys2Proof.Machine

/-! ### Writes and the reads they fall into (R130) -/

/-- The bits of a place's content that a write replaces: the write's place, and which of its bits it writes. An accumulator
set is one unit. -/
def Place.overlap (r p : Place) (wmask : Nat) : Nat :=
  match r, p with
  | .tm a la, .tm b lb =>
    let m := wmask % 2 ^ (8 * lb)
    (if a ≤ b then m <<< (8 * (b - a)) else m >>> (8 * (a - b))) % 2 ^ (8 * la)
  | .tile a, .tile b => if a = b then wmask % 2 ^ 131072 else 0
  | .mask a, .mask b => if a = b then wmask % 2 ^ 4096 else 0
  | .set a, .set b => if a = b then 1 else 0
  | _, _ => 0

/-- An input of which some bits were written within its read window: whether they were read before the write the spec does
not state, so each of them is a free value (R130; log entry 8). What the write leaves alone stays as it was read. -/
def Input.race (free k : Nat) (p : Place) (wmask t : Nat) (i : Input) : Input :=
  let m := i.place.overlap p wmask
  if m ≠ 0 ∧ t ≤ i.last then
    { i with content := mergeBits i.content (Config.freeVal free k) m,
             accs := match i.place with | .set _ => freeAccs free | _ => i.accs }
  else i

/-- TM of a core in which the bits that were written during a service are free values (R151; log entry 8). -/
def State.racedTm (s : State) (n : Nat) (l : List (Nat × Nat × Nat)) : State :=
  l.zipIdx.foldl (fun s x =>
    let w := x.1
    s.tmWrite n w.1 w.2.1 (mergeBits (s.tmCode n w.1 w.2.1) (Config.freeVal s.free x.2) w.2.2)) s

/-- A Rake command in service while a place of its core's TM is written: what it read of the bits written the spec does not
state, so its result is that of a TM in which they are free values (R151). -/
def RkeRun.race (s : State) (n : Nat) (p : Place) (wmask : Nat) (x : RkeRun) : RkeRun :=
  match p with
  | .tm off len =>
    if x.job.core = n ∧ x.places.any (fun q => q.overlap p wmask != 0) then
      let raced := x.raced ++ [(off, len, wmask % 2 ^ (8 * len))]
      { x with raced := raced, result := ((s.racedTm n raced).rkeCompute n x.job.cmd.word).2 }
    else x
  | _ => x

/-- A write, of the bits `wmask`, to a place of core `n` at its present stride meets the read windows of what is in flight
there, the Rake engine's service included (R151). `ord` is the writer's place in program order, where a paced command writes:
a later command that was dispatched too early reads what its operand held at its dispatch (R87), so nothing changes for it. -/
def State.touch (s : State) (n : Nat) (p : Place) (wmask : Nat) (ord : Option Nat) : State :=
  let c := s.core n
  let t := s.stride n
  let late (q : QCmd) : Bool := match ord with | some o => decide (o < q.ord) | none => false
  let fs := c.flights.map fun f =>
    if late f.cmd then f
    else { f with inputs := f.inputs.zipIdx.map fun i => i.1.race s.free (2 ^ 20 + 8 * f.cmd.ord + i.2) p wmask t }
  let r := s.rke (n / 2)
  let runs := r.runs.map (RkeRun.race s n p wmask)
  let s := if fs = c.flights ∧ runs = r.runs then s else (s.setCore n { c with flights := fs }).drawn
  s.setRke (n / 2) { r with runs := runs }

/-- Writes the bits of a place that an effect of the command at place `ord` in program order replaces; the rest of the place keeps its value. -/
def State.applyEffect (s : State) (n ord : Nat) (e : Effect) : State :=
  let s := s.touch n e.place e.wmask (some ord)
  let merge (old w : Nat) : Nat := mergeBits old e.content (e.wmask % 2 ^ w)
  match e.place with
  | .tm off len => s.tmWrite n off len (merge (s.tmCode n off len) (8 * len))
  | .tile t => s.wr Obj.tileRegs (32 * n + t) (merge (s.rd Obj.tileRegs (32 * n + t)) 131072)
  | .mask m => if m = 0 then s else s.wr Obj.maskRegs (8 * n + m) (merge (s.rd Obj.maskRegs (8 * n + m)) 4096)
  | .set _ => s

/-- The read with which TM merges an effect into the words that it writes in part (R160, R168), the codewords numbered from
the first one of its range: whether the write goes on, and the state. -/
def State.effectRead (s : State) (n : Nat) (e : Effect) (ecc : Ecc) : Bool × State :=
  match e.place with
  | .tm off len =>
    let m := (e.wmask % 2 ^ (8 * len)) <<< (8 * (off % 8))
    s.eccRead ⟨ecc.flaws.filter fun x => bits m (64 * x.1) 64 != 0 && bits m (64 * x.1) 64 != ones 64⟩ 2 (tmOff n off) len
  | _ => (true, s)

/-- The codewords of TM that an effect's range covers. -/
def effectWords (e : Effect) : Nat := match e.place with | .tm off len => wordsOf 2 off len | _ => 0

/-- The effects of a result, one after the other, with the merge reads of TM: an uncorrectable one ends them (R168). -/
def State.applyEffects (s : State) (n ord : Nat) : List Effect → Ecc → Bool × State
  | [], _ => (true, s)
  | e :: rest, ecc =>
    match s.effectRead n e ecc with
    | (false, s) => (false, s)
    | (true, s) => (s.applyEffect n ord e).applyEffects n ord rest (eccAfter ecc (effectWords e))

/-! ### Dispatch -/

/-- A job among those that wait, in order of arrival; of two that arrive in the same RKE stride the even-numbered core's
comes first (R150). -/
def insertArrival (l : List RkeJob) (j : RkeJob) : List RkeJob :=
  match l.getLast? with
  | some k => if k.arrival = j.arrival ∧ k.core % 2 = 1 ∧ j.core % 2 = 0 then l.dropLast ++ [j, k] else l ++ [j]
  | none => [j]

/-- Starts a dispatched paced command that is no void: its inputs are read, its engine is occupied, and its result is due
after its latency; a Rake command passes to the shared engine instead (R150). -/
def State.startPaced (s : State) (n : Nat) (q : QCmd) : State :=
  match CoreOp.of q.word with
  | none => s
  | some op =>
    let d := s.stride n
    let occ := occupancy op q.word
    if q.engine = 4 then
      let c := s.core n
      let s := s.setCore n { c with rkeFree := d + 16, rkeOut := c.rkeOut + 1 }
      let r := s.rke (n / 2)
      s.setRke (n / 2) { r with queue := insertArrival r.queue ⟨n, q, r.stride⟩ }
    else
      let ins := (readsOf op q.word).map fun p => s.input n p.1 (d + p.2)
      let c := s.core n
      -- an MMA still on its way into the set that this command reads leaves the set's content open (R87, R115)
      let opened (i : Input) : Input :=
        match i.place with
        | .set k => if c.flights.any (fun f => decide (CoreOp.of f.cmd.word = some .mma) && bits f.cmd.word 70 1 == k)
            then { i with accs := freeAccs s.free } else i
        | _ => i
      let f : Flight := { cmd := q, dispatch := d, due := d + latency op q.word, inputs := ins.map opened, clash := false,
                          seed := s.rd Obj.rngSeed 0, rank := s.logicalRank }
      let s := s.setCore n { c with flights := c.flights ++ [f],
                                    mxeFree := if q.engine = 1 then d + occ else c.mxeFree,
                                    vxeFree := if q.engine = 2 then d + occ else c.vxeFree }
      let s := s.drawn
      let desc := match op with
        | .mout => ins[1]? | .vcvt => ins[2]? | .vwiden => ins[1]? | _ => none
      match desc with
      | some i => if descIgnored i.content then s.inc Obj.descIgnored n 0 64 1 else s
      | none => s

/-- The dispatch of a command: a void posts (R85); another one starts, unless a codeword of TM that it reads is uncorrectable
(R168). The reads of its window are made at its dispatch here (log entry 77). -/
def State.pacedRun (s : State) (n : Nat) (q : QCmd) (ecc : Ecc) : State :=
  if q.void then s.post n q.word q.pos q.ord
  else
    let reads := match CoreOp.of q.word with | some op => tmReads op q.word | none => []
    match eccRanges (reads.map fun p => (2, tmOff n p.1, p.2)) ecc s with
    | (false, s) => s
    | (true, s) => s.startPaced n q

/-- PACED_DISPATCH (R86): the head of the common paced order dispatches at the first stride at which its gap, its engine,
its wait and the governor allow it. A void performs its wait and its post (R85). Where the head cannot dispatch, or
something else of the core is due before that stride, nothing changes (log entry 5). `ecc` is the outcome of the reads of TM
(R166), the codewords numbered range after range in the order of `tmReads`. -/
def execPacedDispatch (core : Nat) (ecc : Ecc) (s : State) : Res :=
  if 96 ≤ core then .fault .noSuchUnit
  else if !(s.coreCanRun core && s.coreLive core) then .next s
  else
    match (s.core core).paced with
    | [] => .next s
    | q :: rest =>
      match s.dispatchStride core q with
      | (_, none) => .next s
      | (free, some d) =>
        if !s.headReady core q.engine || (!s.clearTo core d && decide (s.stride core < d))
          || !above? (s.core core).nextDue d then .next s
        else
          let s := s.advance core d
          let s := s.inc Obj.governorState 0 64 64 (d - free)
          let s := if waitSel q.word = 0 then s else s.takeFlag core (waitSel q.word) 1
          let s := s.setCore core { s.core core with paced := rest, lastDispatch := some d }
          .next (s.pacedRun core q ecc)

/-! ### Results -/

/-- The earliest result in flight, and among those of one stride the earliest in program order, so that the later
command's write remains (R131). -/
def earliest : List Flight → Option Flight
  | [] => none
  | f :: fs =>
    match earliest fs with
    | none => some f
    | some g => if f.due < g.due ∨ (f.due = g.due ∧ f.cmd.ord ≤ g.cmd.ord) then some f else some g

/-- The result of an MXE command that acts on a set: an MMA's products have all been added; an MCLR clears its set, and
every MMA on its way into that set clashes (R115). -/
def State.setResult (s : State) (n : Nat) (f : Flight) (op : CoreOp) : State :=
  let c := s.core n
  match op with
  | .mma =>
    let k := bits f.cmd.word 70 1
    let a := c.set k
    let accs := if f.clash then freeAccs s.free else mmaResult f.cmd.word f.inputs a.accs
    ((s.setCore n (c.setAc k { a with accs := accs })).drawn).touch n (.set k) 1 (some f.cmd.ord)
  | .mclr =>
    let k := bits f.cmd.word 27 1
    let clash (g : Flight) : Flight :=
      if CoreOp.of g.cmd.word = some .mma ∧ bits g.cmd.word 70 1 = k then { g with clash := true } else g
    (s.setCore n { (c.setAc k { c.set k with accs := [] }) with flights := c.flights.map clash }).touch n (.set k) 1 (some f.cmd.ord)
  | _ => s

/-- PACED_RESULT (R94, R98, R130 to R134): the earliest result in flight is written at its stride, its summary and its
totals with it, and its post takes place. What the core does in an earlier stride comes first (log entry 5). `ecc` is the
outcome of the reads with which TM merges the words that the result writes in part (R160). -/
def execPacedResult (core : Nat) (ecc : Ecc) (s : State) : Res :=
  if 96 ≤ core then .fault .noSuchUnit
  else if !(s.coreCanRun core && s.coreLive core) then .next s
  else
    match earliest (s.core core).flights with
    | none => .next s
    | some f =>
      if !above? (s.nextExpiry core) f.due || s.dispatchesBefore core f.due then .next s
      else
        let s := s.advance core f.due
        let c := s.core core
        let s := s.setCore core { c with flights := c.flights.erase f }
        match CoreOp.of f.cmd.word with
        | none => .next s
        | some op =>
          let r := computeResult op f.cmd.word f.inputs ⟨f.seed, f.rank, s.free⟩
          match (s.setResult core f op).drawn.applyEffects core f.cmd.ord r.effects ecc with
          | (false, s) => .next s
          | (true, s) =>
            let s := match slotOf op f.cmd.word with
              | some k => s.writeSlot core k (summaryCode r.status r.value r.sat r.flush)
              | none => s
            let s := s.addTotals core r.sat r.flush
            .next (s.post core f.cmd.word f.cmd.pos f.cmd.ord)

/-! ### Wait limits and completion -/

/-- The waiting point whose limit expires first, SQ before the engines where two expire together (R96, R107). -/
def State.firstExpiry (s : State) (n : Nat) : Option (Waiter × Nat) :=
  (s.waiters n).foldl (fun best w =>
    match s.expiry n w, best with
    | some x, none => some (w, x)
    | some x, some (b, y) => if x < y then some (w, x) else some (b, y)
    | none, b => b) none

/-- WAIT_LIMIT (R96, R97): the first wait limit to expire halts the core, with every waiter recorded. -/
def execWaitLimit (core : Nat) (s : State) : Res :=
  if 96 ≤ core then .fault .noSuchUnit
  else if !(s.coreCanRun core && s.coreLive core) then .next s
  else
    match s.firstExpiry core with
    | none => .next s
    | some (w, x) =>
      let dueBefore := match (s.core core).nextDue with | some d => decide (d < x) | none => false
      if dueBefore || s.dispatchesBefore core x then .next s
      else .next ((s.advance core x).haltCore core 0x10 w.engine w.pos w.ord)

/-- CORE_COMPLETE (R105): issue has stopped and the last outstanding command has completed, so the core is DONE or HALTED
and its halt record is final. -/
def execCoreComplete (core : Nat) (s : State) : Res :=
  if 96 ≤ core then .fault .noSuchUnit
  else if !(s.coreCanRun core && s.coreState core == 2 && (s.core core).drained) then .next s
  else
    match (s.core core).stop with
    | .running => .next s
    | .ended => .next ((s.wrFld Obj.haltRecord core 0 8 0x01).wr Obj.coreState core 3)
    | .truncated d =>
      .next (((s.wrFld Obj.haltRecord core 0 8 0x15).wrFld Obj.haltRecord core 8 8 d).wr Obj.coreState core 4)
    | .halted => .next (s.wr Obj.coreState core 4)

/-! ### Launch and stop -/

/-- Whether a launch descriptor is valid (R103, R104): its own 64 bytes mapped and aligned, every field in range, the
stream in region 0 of this module and wholly mapped. -/
def State.launchDescOk (s : State) (off : Nat) : Bool :=
  let d := s.memCode 0 off 64
  let addr := bits d 0 64
  s.mapped 0 off 64 && off % 64 == 0 && bits d 209 303 == 0 && bits addr 0 4 == 0 && bits addr 44 4 == 0
    && (bits addr 48 16 == 0xFFFF || (bits addr 48 16 == s.devId)) && bits d 64 32 != 0
    && s.mapped 0 (bits addr 0 44) (bits d 64 32 * 16)

/-- The code of a launch (R104): 4 power state or scratched, 2 core not startable, 3 descriptor invalid, 1 launched. -/
def State.launchCode (s : State) (core off : Nat) : Nat :=
  if !s.inRun then 4
  else if !s.hasCore core || s.coreLive core then 2
  else if !s.launchDescOk off then 3 else 1

/-- What a launch does (R100, R103, R106, R113, R217): the core runs the stream from position 0 with its record, laps,
slots, cache and accumulators cleared, its predicates from PRED_INIT, and its flags cleared unless KEEP_FLAGS. -/
def State.launch (s : State) (core off : Nat) : State :=
  let d := s.memCode 0 off 64
  let limit := if bits d 160 32 = 0 then s.rd Obj.waitLimitDefault 0 else bits d 160 32
  let old := s.core core
  let c : CoreSt := { CoreSt.init with
    descAddr := off, streamAddr := bits d 0 44, streamLen := bits d 64 32, truncAt := bits d 96 64, waitLimit := limit,
    launchStride := s.stride core, stop := .running, areg := old.areg, windowStart := old.windowStart, ahead := old.ahead,
    incNow := [], decNow := [] }
  let s := (s.ringCoreEnds core).setCore core c
  let s := s.wr Obj.haltRecord core 0
  let s := s.wr Obj.seqState core ((bits d 192 16 ||| 1))
  let s := foldUp (fun k s => s.wr Obj.summarySlots (8 * core + k) 0) 0 8 s
  let s := foldUp (fun k s => s.wr Obj.pacedBusy (3 * core + k) 0) 0 3 s
  let s := (s.wr Obj.gmuError core 0).wr Obj.collError core 0
  let s := if d.testBit 208 then s
    else { s with objs := s.objs.filter fun p => !(p.1 / 2 ^ 32 == Obj.flags && p.1 % 2 ^ 32 / 256 == core) }
  s.wr Obj.coreState core 1

/-- A launch through any path (R104): the refusal code, or the launch. Its descriptor is read where the power state and the
core allow a launch and the descriptor lies in mapped memory; an uncorrectable read launches nothing (R168), and the spec
names no code for it: it reads 3 (DESIGN CHOICE, log entry 77). -/
def State.tryLaunch (s : State) (core off : Nat) (ecc : Ecc) : Nat × State :=
  let k := s.launchCode core off
  if k = 4 ∨ k = 2 ∨ !s.mapped 0 off 64 then (k, s)
  else
    match s.eccRead ecc 0 off 64 with
    | (false, s) => (3, s)
    | (true, s) =>
      let k := s.launchCode core off
      (k, if k = 1 then s.launch core off else s)

/-- CORE_LAUNCH (R104, R108): a write of a U64 to 2000.02. A value with bits [63:52] set is refused and changes nothing
(R12). `ecc` is the outcome of the read of the descriptor. -/
def execCoreLaunch (value : Nat) (ecc : Ecc) (s : State) : Res :=
  if !s.hasCompute || 2 ^ 52 ≤ value then .next s
  else
    let r := s.tryLaunch (bits value 44 8) (bits value 0 44) ecc
    .next (r.2.wr Obj.coreLaunch 0 r.1)

/-- CORE_STOP (R108, R536): a write of a core number to 2000.03. The command in the middle of a wait is abandoned: what
its WAIT_SEL took is given back, since it consumes nothing, up to the flag's last value. -/
def execCoreStop (value : Nat) (s : State) : Res :=
  if !s.hasCompute || 96 ≤ value then .next s
  else if !(s.hasCore value && s.coreState value == 1) || s.scratched then .next (s.wr Obj.coreStop 0 2)
  else
    let c := s.core value
    let s := match c.sq with
      | some w =>
        if w.taken = 0 then s else s.setFlag value w.taken (min (2 ^ 32 - 1) (s.flag value w.taken + 1))
      | none => s
    .next ((s.stopIssue value (.truncated 1) c.lastPos (s.ordinal value)).wr Obj.coreStop 0 1)

/-- TOTAL_CLEAR (R75): a write of a core number or 0xFF to 2800.03; an absent core or any other value is refused. -/
def execTotalClear (value : Nat) (s : State) : Res :=
  if !s.hasCompute then .next s
  else if value = 0xFF then
    .next (((s.clearObj Obj.satTotal).clearObj Obj.flushTotal).wr Obj.totalClear 0 1)
  else if s.hasCore value then
    .next (((s.wr Obj.satTotal value 0).wr Obj.flushTotal value 0).wr Obj.totalClear 0 1)
  else .next s

/-- ICACHE_FILL (R100, R102): the line of 64 commands numbered `line` arrives from HBM at a running core, or, with
`parity`, a line that failed its parity check is discarded and fetched again. `ecc` is the outcome of the HBM read. A full
cache of 256 lines gives up its lowest line (timing only). A read of a controller that holds waits (R171). -/
def execIcacheFill (core line : Nat) (parity : Bool) (ecc : Ecc) (s : State) : Res :=
  if 96 ≤ core then .fault .noSuchUnit
  else
    let c := s.core core
    let held := (c.icache.find line).isSome
    let off := c.streamAddr + 1024 * line
    let n := min 1024 (16 * (c.streamLen - 64 * line))
    if !(s.coreCanRun core && s.coreState core == 1 && decide (64 * line < c.streamLen)) || (parity && !held)
        || s.held 0 off || s.held 0 (off + n - 1) then .next s
    else
      let s := if parity then s.inc Obj.icacheRefetch core 0 64 1 else s
      match s.eccRead ecc 0 off n with
      | (false, s) => .next s
      | (true, s) =>
        let kept := if parity then c.icache.del line
          else if c.icache.length < 256 || held then c.icache else c.icache.tail
        .next (s.setCore core { s.core core with icache := kept.put line (leCode (s.load 0 off n)) })

/-- STRIDE_WINDOW_END (R80, R155): a window of 2^20 reference ticks is over and the stride rates are updated. A core that is
absent reads 0. Before that many ticks nothing changes; a tick that would pass the end does the same (Machine/Tick.lean). -/
def execStrideWindowEnd (s : State) : Res := .next s.rateWindowEnd

end Sys2Proof.Machine
end

