-- ==== Sys2Proof/Machine/Msgs.lean ====
section
/-! DEFINITION. Marshal's messages (R443, R444): their fields, sending them, and what every unit tells Marshal: Guard
descriptors (R459) and that a group is quiet (R461). -/

namespace Sys2Proof.Machine

/-! ### Fields of a message (R443) -/

/-- KIND. -/
def msgKind (f : Frame) : Nat := bits f.hdr 184 8
/-- MTYPE. -/
def msgType (f : Frame) : Nat := bits f.hdr 176 8
/-- SUBJECT. -/
def msgSubject (f : Frame) : Nat := bits f.hdr 160 16
/-- EPOCH. -/
def msgEpoch (f : Frame) : Nat := bits f.hdr 128 32
/-- STEP. -/
def msgStep (f : Frame) : Nat := bits f.hdr 120 8
/-- ROLE. -/
def msgRole (f : Frame) : Nat := bits f.hdr 112 8
/-- TIME. -/
def msgTime (f : Frame) : Nat := bits f.hdr 0 64

/-- Whether a frame is a Marshal message of a type: MGT class, KIND 0xA0, its reserved field 0 (R443, R12). -/
def isMsg (f : Frame) (mtype : Nat) : Bool :=
  f.bclass == 0 && msgKind f == 0xA0 && msgType f == mtype && bits f.hdr 96 16 == 0

/-! ### Sending -/

/-- Writes what Marshal holds beside its objects. -/
def State.setMarshal (s : State) (m : MarshalSt) : State := { s with marshal := m }

/-- The epoch (C300.01, R460). -/
def State.epoch (s : State) : Nat := s.fld Obj.recoveryState 0 0 32

/-- The traffic class of Marshal's frames: the lowest of kind MGT (R251; log entry 33). -/
def State.mgtTc (s : State) : Nat := ((List.range 8).find? fun t => s.rd Obj.tcKind t == 0).getD 7

/-- A message of this module (R443). -/
def State.msgFrame (s : State) (dest : Nat) (mc : Bool) (mtype subject step time : Nat) (payload : List Byte) : Frame :=
  { hdr := s.routing dest s.mgtTc 0 mc payload.length + 0xA0 * 2 ^ 184 + mtype % 2 ^ 8 * 2 ^ 176
      + subject % 2 ^ 16 * 2 ^ 160 + s.epoch * 2 ^ 128 + step % 2 ^ 8 * 2 ^ 120 + s.marshal.role % 2 ^ 8 * 2 ^ 112
      + s.marshal.seq % 2 ^ 32 * 2 ^ 64 + time % 2 ^ 64,
    payload := payload }

/-- Counts a message sent. -/
def State.msgSent (s : State) : State := s.setMarshal { s.marshal with seq := (s.marshal.seq + 1) % 2 ^ 32 }

/-- Sends a message to a device; one to this module itself is not sent. -/
def State.tell (s : State) (dest mtype subject step : Nat) (payload : List Byte) : State :=
  if dest = s.devId ∨ dest = 0xFFFF then s
  else (s.send (.frame (s.msgFrame dest false mtype subject step s.now payload))).msgSent

/-- Multicasts a message on the Marshal multicast group (C000.01, R444). -/
def State.tellAll (s : State) (mtype subject step : Nat) (payload : List Byte) : State :=
  (s.send (.frame (s.msgFrame (s.fld Obj.marshalConfig 0 48 12) true mtype subject step s.now payload))).msgSent

/-- Offers the Track a link-local message for a fabric port (R21, R266), with a TIME of its own where it is relayed. -/
def State.tellPort (s : State) (port mtype subject time : Nat) (payload : List Byte) : State :=
  let f := s.msgFrame 0xFFFF false mtype subject 0 time payload
  { (s.send (.linkLocal port f)).msgSent with linkLocals := s.linkLocals ++ [(port, f)] }

/-- Sends a message to the manager and the standby manager (R444). -/
def State.tellManagers (s : State) (mtype subject : Nat) (payload : List Byte) : State :=
  let s' := s.tell s.marshal.manager mtype subject 0 payload
  if s.marshal.standby = s.marshal.manager then s' else s'.tell s.marshal.standby mtype subject 0 payload

/-- A step of the epoch is done here (R460): STEP_ACK to the manager, 0 done or 1 refused. -/
def State.stepAck (s : State) (step subject result : Nat) : State :=
  s.tell s.marshal.manager 0x09 subject step (leBytes 1 result)

/-! ### What Guard tells Marshal -/

/-- GUARD_SYNC (R444, R459): the descriptor of an entry that has been written or activated, with its number. A manager keeps
its own copy. The layout of the payload is the model's (log entry 34). -/
def State.guardSync (s : State) (entry : Nat) : State :=
  if s.devId = 0xFFFF then s
  else
    let d := s.rd Obj.guardDesc entry
    let s := if s.marshal.role = 0 then s else { s with guardStore := KMap.set s.guardStore 0 (64 * s.devId + entry) d }
    s.tellManagers 0x10 s.devId (leBytes 64 d ++ leBytes 1 entry)

/-- Whether this member has nothing more to finish in a QUIESCING group: no store holds both replies, and GSTREAM is
fenced (R214). -/
def State.memberQuiet (s : State) (i : Nat) : Bool :=
  let fencing (r : GReq) : Bool := r.owner == .quiet i
  !s.sent.any fencing && !s.waiting.any fencing && !s.dstSts.any fun p => match p.2.store with
    | some g => g.desc == i && g.phase == 3
    | none => false

/-- Reports quiet to the manager (R461 step 4) once after a LOST, when every QUIESCING group of this module is quiet here. -/
def State.quietTold (s : State) : State :=
  if s.marshal.quietDue && (List.range 64).all fun i => s.rd Obj.guardState i != 2 || s.memberQuiet i then
    (s.setMarshal { s.marshal with quietDue := false }).stepAck 4 s.devId 0
  else s

/-- Whether Marshal holds streams to a device (R197). -/
def State.devHeld (s : State) (dev : Nat) : Bool := s.marshal.heldDevs.contains dev

end Sys2Proof.Machine
end

