-- ==== Sys2Proof/Machine/Registers.lean ====
section
/-! DEFINITION. The objects as CDP, the dictionary window and the NV image see them: which exist (R3, R429, R507), what an
entry reads (R184, R420), which values an object's rules accept (R421), in which states a write is taken (R13), and what a
write does (R12, R13 and the object tables of every chapter). -/

namespace Sys2Proof.Machine

/-! ### Existence -/

/-- The group of an object number. -/
def objGroup (c : ObjCode) : Nat := c / 2 ^ 8

/-- Whether the groups that exist in RECOVERY hold an object (R507, R517). -/
def recoveryObj (c : ObjCode) : Bool :=
  objGroup c / 2 ^ 12 == 1 || objGroup c == 0xE000 || objGroup c == 0xE200 || objGroup c == 0xE300

/-- Whether the unit an object belongs to exists in this grade (R3, R156, R217): compute, local memory and the GMU not on a
UDX-J00-F, the Rake engines on a UDX-J96-M only, the link cipher not on a UDX-J00-F. -/
def State.unitHere (s : State) (c : ObjCode) : Bool :=
  let h := objGroup c / 2 ^ 12
  if objGroup c = 0x2090 then s.ident.grade == 1
  else if h = 2 ∨ h = 3 then s.hasCompute
  else if h = 4 then s.hasCompute || c == Obj.deviceId
  else if c = Obj.cipherStatus then s.hasCompute
  else true

/-- Whether an object of the dictionary exists on this module now (R3, R507). -/
def State.objHere (s : State) (c : ObjCode) : Bool :=
  (objInfo c).isSome && s.unitHere c && (s.boot != .recovery || recoveryObj c)

/-! ### What an entry reads -/

/-- Whether the CLE claims a CVU (R382). -/
def State.cvuClaimed (s : State) (c : Nat) : Bool := decide (c < s.rd Obj.cleCvus 0)

/-- Whether a scan job holds a CVU (R386, R387). -/
def State.cvuTaken (s : State) (c : Nat) : Bool :=
  (s.scanJobs.any fun j => j.running && j.cvu == some c) || (c == 15 && s.dimmCopy.isSome && s.scanFree)

/-- CVU_STATE as it reads (R390): what the entry holds, with the claim, the hold and the feeds waiting. -/
def State.cvuStateRead (s : State) (c : Nat) : Nat :=
  let v := s.rd Obj.cvuState c
  let v := if s.cvuTaken c then setBits v 0 2 1 else v
  setBits (setBits (setBits v 2 1 (b2n (s.cvuClaimed c))) 3 1 (b2n (s.cvuTaken c))) 4 4 ((s.cvu c).feeds.length - 1)

/-- SCAN_INTERNAL as it reads (R390): the internal job in progress. -/
def State.scanInternalRead (s : State) : Nat :=
  if s.boot = .fill then setBits (s.rd Obj.scanInternal 0) 0 4 1
  else if s.scanJobs.any (fun j => j.running && (match j.owner with | .verify _ => true | _ => false)) then 2
  else
    match s.dimmCopy with
    | some _ => (if s.fld Obj.drainProgress 0 4 4 = 1 then 3 else 4) + s.fld Obj.drainProgress 0 32 32 * 4096 * 2 ^ 64
    | none => 0

/-- COMM_STATE (R512): 0 FACTORY, 1 COMMISSIONED, 2 RECOVERY. -/
def State.commState (s : State) : Nat := if s.boot = .recovery then 2 else if s.ownerKey = 0 then 0 else 1

/-- SECURITY_STATE as it reads (R517). -/
def State.securityRead (s : State) : Nat :=
  s.commState + s.fwRunning * 2 ^ 2 + b2n (s.fwStandby == .verified) * 2 ^ 3 + b2n s.fwMark * 2 ^ 4
    + s.svnFuses % 2 ^ 8 * 2 ^ 16 + s.rollback % 2 ^ 32 * 2 ^ 32 + s.bootCount % 2 ^ 64 * 2 ^ 64

/-- The core an entry of a compute table concerns, where the table has more than one entry for a core (R108, R135). -/
def coreOfEntry (c : ObjCode) (i : Nat) : Nat :=
  if c = Obj.maskRegs ∨ c = Obj.summarySlots then i / 8
  else if c = Obj.tileRegs then i / 32
  else if c = Obj.flags then i / 256
  else if c = Obj.pacedBusy then i / 3
  else i

/-- Whether an entry concerns an absent core: it exists and reads 0 (R429). -/
def State.absentEntry (s : State) (c : ObjCode) (i : Nat) : Bool :=
  (c == Obj.maskRegs && !s.hasCore (i / 8)) || (c == Obj.coreReqTc && decide (i < 96) && !s.hasCore i)

/-- CIR of a port node, where its shaper is the single bucket of the UDX-H40 (R430). -/
def State.h40Rate (s : State) (p : Nat) : Nat := if s.fld Obj.portNode p 4 2 = 2 then s.fld Obj.portNode p 64 32 else 0

/-- A session as CDP_SESSIONS shows it (R439): open once it is finished. -/
def State.sessionRead (s : State) (i : Nat) : Nat :=
  match KMap.get s.sessions none (i + 1) with
  | none => 0
  | some x =>
    b2n x.finished + b2n (x.via == 2) * 2 + x.high % 2 ^ 32 * 2 ^ 16
      + (if x.via = 2 then x.peer % 2 ^ 16 * 2 ^ 48 else 0xFFFF * 2 ^ 48 + x.peer / 2 ^ 16 % 2 ^ 128 * 2 ^ 64)
      + x.last % 2 ^ 64 * 2 ^ 192

/-- What PORT_INFO reads (R244): a port that is not UP has no peer, uses no FEC code and no cipher, and has no headroom
reserved (R234). DEDUCED, log entry 38. -/
def State.portInfoRead (s : State) (p : Nat) : Nat :=
  let v := s.rd Obj.portInfo p
  if s.rd Obj.portState p = 2 then v else setBits (setBits (setBits (setBits v 0 16 0xFFFF) 16 6 0) 24 2 0) 64 16 0

/-- Whether a number lies in a range. -/
def within (lo hi v : Nat) : Bool := decide (lo ≤ v) && decide (v ≤ hi)

/-- The hours for which a source has been powered (R244): those of its ELS_INFO and those since its supply came on. -/
def State.elsHours (s : State) (e : Nat) : Nat :=
  s.fld Obj.elsInfo e 192 32 + (match KMap.get s.elsOn none e with | some t => (s.now - t) / 3600000000000 | none => 0)

/-- What ELS_INFO reads (R244): its hours powered run on while the source is powered. -/
def State.elsInfoRead (s : State) (e : Nat) : Nat := setBits (s.rd Obj.elsInfo e) 192 32 (s.elsHours e % 2 ^ 32)

/-- Whether slot 8u + 7 is reserved for the Guard program (R307): while a descriptor is ACTIVE, QUIESCING or REBUILDING. One
that is INVALID or VOID is not valid (R213). -/
def State.slotReserved (s : State) (slot : Nat) : Bool :=
  s.hasCompute && slot % 8 == 7 && (List.range 64).any fun i => within 1 3 (s.rd Obj.guardState i)

/-- What an entry of an object reads, in window byte order (R184): a WO object reads 0 (R13), an alias its target (R430), an
entry of an absent instance 0 (R429), the manager's tables 0 on another module (R474), and some objects show what their unit
does now. -/
def State.view (s : State) (c : ObjCode) (i : Nat) : Nat :=
  if s.absentEntry c i ∨ c = Obj.extend ∨ (s.marshal.role = 0 ∧ (c = Obj.membership ∨ c = Obj.expelGroup)) then 0
  else if c = Obj.cvuState then s.cvuStateRead i
  else if c = Obj.scanInternal then s.scanInternalRead
  else if c = Obj.securityState then s.securityRead
  else if c = Obj.suBitmap then s.memCode spaceBitmap (i * 2 ^ 21) (2 ^ 21)
  else if c = Obj.portInfo then s.portInfoRead i
  else if c = Obj.elsInfo then s.elsInfoRead i
  else if c = Obj.programInfo ∧ s.slotReserved i then setBits (s.rd c i) 2 1 1
  else if c = Obj.programText ∧ s.slotReserved i then 0
  else if c = Obj.cdpSessions then s.sessionRead i
  else if c = Obj.h40PortRate then s.h40Rate i
  else if c = Obj.h40PortBurst then s.fld Obj.portNode i 128 32
  else s.rd c i

/-! ### The values an object's rules accept -/

/-- The ranges of the objects that are numbers (R12 and the object tables). -/
def numberRange : List (ObjCode × Nat × Nat) :=
  [(Obj.waitLimitDefault, 1, 2 ^ 32 - 1), (Obj.sramScrubPeriod, 60, 86400), (Obj.hbmScrubPeriod, 3600, 604800),
   (Obj.ddrScrubPeriod, 3600, 604800), (Obj.recalMode, 0, 1), (Obj.deadlineNs, 1000, 64000),
   (Obj.replayAfterNs, 2000, 64000), (Obj.abandonAfterUs, 8, 1024), (Obj.fwdAgeNs, 1000, 1000000), (Obj.hopInit, 1, 63),
   (Obj.portSaf, 0, 31), (Obj.markThreshold, 0, 65535), (Obj.flowKey, 0, 2)]
  ++ [(Obj.arenaScrubPeriod, 60, 86400), (Obj.cleCvus, 1, 15), (Obj.ringPollNs, 100, 100000), (Obj.windowAccess, 0, 2),
   (Obj.stepTimeoutUs, 1000, 100000), (Obj.rebuildShare, 1, 100), (Obj.reproMode, 0, 1), (Obj.dipFilterUs, 1, 100),
   (Obj.thermLimit, 85, 100)]

/-- POWER_CAP's largest value, and its factory value, in a grade (R534). -/
def gradePower (grade : Nat) : Nat := if grade = 1 then 4400 else if grade = 2 then 3400 else 1200

/-- The limits of R297 and R299 that a two-bucket or single-bucket meter keeps: its mode, its rates and bucket sizes, and the
least and largest size. -/
def meterOk (mode cir pir cbs pbs lo hi : Nat) : Bool :=
  decide (mode < 3) && decide (cir ≤ 1600000000) && decide (pir ≤ 1600000000)
    && (mode != 1 || (pir != 0 && decide (cir ≤ pir) && within lo hi cbs && within lo hi pbs))
    && (mode != 2 || (cir != 0 && within 1 hi cbs && pir == 0 && pbs == 0))

/-- Whether an OVERHEAD lies in its range (R301). -/
def overheadOk (o : Nat) : Bool := decide (-64 ≤ signed o 16) && decide (signed o 16 ≤ 255)

/-- Whether a node entry may be written (R297); PRIO and QUANTUM of a port node are reserved. -/
def nodeOk (isPort : Bool) (v : Nat) : Bool :=
  meterOk (bits v 4 2) (bits v 64 32) (bits v 96 32) (bits v 128 32) (bits v 160 32) 10240 (2 ^ 32 - 1)
    && overheadOk (bits v 16 16) && bits v 6 10 == 0 && bits v 192 64 == 0
    && (if isPort then bits v 0 2 == 0 && bits v 32 32 == 0 else within 64 1048576 (bits v 32 32))

/-- Whether a policer entry may be written (R299, R303). -/
def policerOk (v : Nat) : Bool :=
  decide (bits v 0 2 < 3) && bits v 3 13 == 0 && bits v 160 96 == 0 && overheadOk (bits v 16 16)
    && (bits v 0 2 == 0
      || meterOk (bits v 0 2) (bits v 32 32) (bits v 64 32) (bits v 96 32) (bits v 128 32) 1 16777216)

/-- Whether a flow's entry may be written (R300, R302): neither free nor with another STATE, DEFAULT, PORT, TC or KEY, no
policer on a traffic class of kind MGT. -/
def State.flowOk (s : State) (f v : Nat) : Bool :=
  let old := s.rd Obj.flowTable f
  bits old 0 2 != 0 && bits v 0 24 == bits old 0 24 && bits v 80 16 == 0 && within 64 1048576 (bits v 48 32)
    && !(v.testBit 31 && s.rd Obj.tcKind (bits old 9 3) == 0)

/-- The shared pool that a HEADROOM_LIMIT and a sum of guarantees leave is large enough (R258). -/
def poolLeft (limit guarSum : Nat) : Bool := decide (limit + 80 * guarSum + 65536 ≤ 524288)

/-- Whether CLASS_BUF entry `i` may take a value (R258, R282). -/
def State.classBufOk (s : State) (i v : Nat) : Bool :=
  let sum := ((List.range 5).map fun c => if c = i then bits v 0 32 else s.guar c).sum
  bits v 36 28 == 0 && decide ((if i = 4 then 38 else 17) ≤ bits v 0 32) && poolLeft (s.rd Obj.headroomLimit 0) sum

/-- Whether TC_KIND entry `i` may take a value (R282, R537): a class of kind MEM is left, and, unless the reset that applies
the image sets the entries of R537 right afterwards, no entry names a class that would not be one. -/
def State.tcKindOk (s : State) (live : Bool) (i v : Nat) : Bool :=
  let kind (c : Nat) : Nat := if c = i then v else s.rd Obj.tcKind c
  decide (v < 4) && (List.range 8).any (fun c => kind c == 1)
    && (!live || v == 1 || !s.hasCompute
      || ((List.range 97).all fun n => s.rd Obj.coreReqTc n != i) && (List.range 4096).all fun n => s.rd Obj.streamTc n != i)

/-- Whether an access window may take a value (R438, R213): a VALID one needs a mapped range of this module. -/
def State.windowOk (s : State) (v : Nat) : Bool :=
  bits v 5 3 == 0 && bits v 32 32 == 0 && bits v 192 64 == 0
    && (!v.testBit 0
      || (s.ownAddr (bits v 64 64) && decide (bits v 108 4 < 3) && s.mapped (bits v 108 4) (bits v 64 44) (bits v 128 64)))

/-- Whether CVU parameters may take a value (R390). -/
def cvuParamsOk (v : Nat) : Bool :=
  let w := bits v 0 7
  within 1 64 w && bits v 9 55 == 0 && decide (bits v 64 64 < 2 ^ w) && decide (bits v 128 64 < 2 ^ w)
    && decide (bits v 192 64 < 2 ^ w)

/-- Whether a QP_TABLE entry may take a value (R396): STATE and LOCAL_QPN are RO, so a write that changes one is refused
(R13); the other fields are checked at CONNECT (R397). -/
def State.qpOk (s : State) (q v : Nat) : Bool :=
  bits v 0 2 == s.qpState q && bits v 8 24 == s.fld Obj.qpTable q 8 24

/-- Whether a SCORE_CONFIG may be written (R474). -/
def scoreOk (v : Nat) : Bool := bits v 32 16 != 0 && bits v 64 16 != 0 && bits v 88 40 == 0

/-- Whether a mirror session may take a value (R284). -/
def mirrorOk (v : Nat) : Bool :=
  bits v 1 7 == 0 && bits v 162 94 == 0 && !(v.testBit 0 && bits v 16 16 == 0)

/-- A port node as a write of its H40_PORT_RATE leaves it (R430). -/
def h40RateNode (node v : Nat) : Nat :=
  if v = 0 then setBits node 4 2 0
  else
    let node := setBits (setBits (setBits (setBits node 4 2 2) 64 32 v) 96 32 0) 160 32 0
    if bits node 128 32 = 0 then setBits node 128 32 10240 else node

/-- The values an object's rules accept for an entry (R421: otherwise RANGE), in window byte order. Descriptors and shadows
are checked where they are used. `live` tells a write at run time from a record of the NV image (R436). -/
def State.valueOk (s : State) (live : Bool) (c : ObjCode) (i v : Nat) : Bool :=
  match numberRange.find? (fun r => r.1 == c) with
  | some r => within r.2.1 r.2.2 v
  | none =>
    if c = Obj.coreReqTc ∨ c = Obj.streamTc then decide (v < 8) && (!live || s.rd Obj.tcKind v == 1)
    else if c = Obj.powerCap then within 1500 (gradePower s.ident.grade) v || (v == gradePower s.ident.grade)
    else if c = Obj.headroomLimit then within 65536 262144 v && decide (s.rd Obj.headroomUsed 0 ≤ v)
      && poolLeft v ((List.range 5).map s.guar).sum
    else if c = Obj.portDamp then within 2 255 (bits v 0 8) && bits v 8 8 == 0 && within 1 3600 (bits v 16 16)
    else if c = Obj.portConfig then decide (v < 16) && (s.hasCompute || !v.testBit 3)
    else if c = Obj.tcKind then s.tcKindOk live i v
    else if c = Obj.classChecked then decide (v < 32) && bits v 0 4 == 15
    else if c = Obj.classBuf then s.classBufOk i v
    else if c = Obj.mirrorSession then mirrorOk v
    else if c = Obj.portNode then nodeOk true v
    else if c = Obj.classNode ∨ c = Obj.groupNode then nodeOk false v
    else if c = Obj.h40PortRate then nodeOk true (h40RateNode (s.rd Obj.portNode i) v)
    else if c = Obj.h40PortBurst then nodeOk true (setBits (s.rd Obj.portNode i) 128 32 v)
    else if c = Obj.flowTable then s.flowOk i v
    else if c = Obj.policer then policerOk v
    else if c = Obj.maskRegs then i % 8 != 0
    else if c = Obj.divertMap ∨ c = Obj.mcSuMap then bits v 8 7 == 0
    else if c = Obj.collTimeout then within 2000 1000000 (bits v 0 32) && within 1000 10000000 (bits v 32 32)
    else if c = Obj.cvuParams then cvuParamsOk v
    else if c = Obj.hostPortConfig then within 1500 9216 (bits v 208 14) && bits v 223 1 == 0 && bits v 236 148 == 0
    else if c = Obj.qpTable then s.qpOk i v
    else if c = Obj.accessWindow then s.windowOk v
    else if c = Obj.hostEther then bits v 2 6 == 0 && bits v 88 168 == 0
    else if c = Obj.cdpConfig then bits v 2 14 == 0 && within 10 3600 (bits v 16 16) && bits v 32 32 == 0
    else if c = Obj.marshalConfig then bits v 0 2 != 3 && bits v 2 14 == 0 && bits v 60 68 == 0
    else if c = Obj.scoreConfig then scoreOk v
    else if c = Obj.scratchCause then bits v 7 9 == 0
    else if c = Obj.inputEvents then bits v 5 3 == 0
    else if c = Obj.poolFlags ∨ c = Obj.thermalEvents then bits v 4 4 == 0
    else true

/-! ### The states in which a write is taken -/

/-- OK (R421). -/
def cdpOk : Nat := 0x00
/-- NO_OBJECT. -/
def cdpNoObject : Nat := 0x01
/-- READ_ONLY. -/
def cdpReadOnly : Nat := 0x02
/-- NOT_QUIESCED. -/
def cdpNotQuiesced : Nat := 0x03
/-- RANGE. -/
def cdpRange : Nat := 0x04
/-- WHOLE. -/
def cdpWhole : Nat := 0x05
/-- AUTH. -/
def cdpAuth : Nat := 0x06
/-- BUSY. -/
def cdpBusy : Nat := 0x07
/-- BAD_MESSAGE. -/
def cdpBadMessage : Nat := 0x08
/-- NV_FULL. -/
def cdpNvFull : Nat := 0x09
/-- NV_NOT_N. -/
def cdpNvNotN : Nat := 0x0A
/-- SEQ. -/
def cdpSeq : Nat := 0x0B
/-- STATE. -/
def cdpState : Nat := 0x0C
/-- NO_SESSION. -/
def cdpNoSession : Nat := 0x0D
/-- NO_IMAGE. -/
def cdpNoImage : Nat := 0x0E

/-- Whether the Track is quiesced (R282): every port DISABLED or DOWN_HELD, and no cell held anywhere. -/
def State.trackQuiet (s : State) : Bool :=
  ((List.range 64).all fun p => s.portState p == portDisabled || s.portState p == portHeld)
    && s.frames.isEmpty && s.copies.isEmpty && s.mirrorQueue.isEmpty && s.mirrorHeld.isEmpty

/-- Whether the unit of an RWQ entry is quiesced (R13; R108, R135, R244, R282, R304, R367, R389, R390, R438, R474). -/
def State.quiesced (s : State) (c : ObjCode) (i : Nat) : Bool :=
  if c = Obj.flags ∨ c = Obj.tileRegs ∨ c = Obj.maskRegs then !s.coreLive (coreOfEntry c i)
  else if c = Obj.portConfig then s.portState i == portDisabled || s.portState i == portHeld
  else if c = Obj.tcKind ∨ c = Obj.classChecked ∨ c = Obj.classBuf ∨ c = Obj.flowKey then s.trackQuiet
  else if c = Obj.poolConfig then s.fld Obj.poolState i 0 3 == 0
  else if c = Obj.cvuParams then s.fld Obj.cvuState i 0 2 == 0 && !s.cvuClaimed i && !s.cvuTaken i
  else if c = Obj.cvuRun then s.fld Obj.cvuState i 0 2 != 1 && !s.cvuClaimed i && !s.cvuTaken i
  else if c = Obj.cleCvus then (List.range 64).all fun x => s.fld Obj.ctxState x 0 2 == 0
  else if c = Obj.hostPortConfig then s.hostPort i == 0
  else if c = Obj.qpTable then s.qpState i == 0
  else if c = Obj.ringDesc then s.ringMode i == 0
  else if c = Obj.marshalConfig then s.devId == 0xFFFF
  else true

/-- Whether the reproducibility bit may be written (R34). -/
def State.reproFree (s : State) : Bool :=
  ((List.range 64).all fun x => s.fld Obj.ctxState x 0 2 == 0)
    && ((List.range 256).all fun x => s.fld Obj.bindState x 0 2 == 0)
    && (s.listed Obj.srcStreams).all fun e => s.fld Obj.srcStreams e 32 32 == s.fld Obj.srcStreams e 64 32

/-- Whether the state of an RW entry's unit allows a write (R34, R217). -/
def State.writable (s : State) (c : ObjCode) (i : Nat) : Bool :=
  if c = Obj.streamTc then
    (s.listed Obj.srcStreams).all fun e => s.fld Obj.srcStreams e 0 2 == 0 || s.fld Obj.srcStreams e 2 12 != i
  else if c = Obj.guardDesc then s.rd Obj.guardState i == 0 || s.rd Obj.guardState i == 4
  else if c = Obj.reproMode then s.reproFree
  else true

/-- Whether the values of an object stand still because the module is scratched (R502: V objects are frozen and readable);
the AOP, the dictionary engine and the HA run on (R499). -/
def State.frozen (s : State) (o : ObjInfo) : Bool :=
  s.scratched && o.persist == .v && objGroup o.code / 2 ^ 12 != 0xB && decide (objGroup o.code / 2 ^ 12 < 0xD)

/-- Whether an object belongs to a unit that is gated in a power state (R490, R496): the compute stacks with HBM4 and the GMU
in REST; in DEEP REST the fabric too. -/
def gatedObj (state : Nat) (c : ObjCode) : Bool :=
  let h := objGroup c / 2 ^ 12
  (decide (2 ≤ state) && (h == 2 || objGroup c == 0x3000 || objGroup c == 0x3100 || h == 4))
    || (state == 3 && decide (3 ≤ h) && decide (h ≤ 0xA))

/-- Whether an access of bytes reaches an entry of a claimed CVU that may not be read (R382): its parameters and its register;
A100.03, the state that says so, stays readable. -/
def State.readsClaimed (s : State) (o : ObjInfo) (idx off n : Nat) : Bool :=
  (o.code == Obj.cvuParams || o.code == Obj.cvuRun) && decide (n ≠ 0) && s.cvuClaimed (idx + off / o.bytes)

/-- Whether an object belongs to a unit that is gated now. -/
def State.gated (s : State) (c : ObjCode) : Bool := gatedObj s.power c

/-- The status of a write of a whole entry by its access code (R13, R421): RO, quiescence, the state, the value. CMD objects
have their own answers. -/
def State.writeStatus (s : State) (o : ObjInfo) (i v : Nat) : Nat :=
  if o.access = .ro ∨ o.access = .cmd then cdpReadOnly
  else if s.absentEntry o.code i || ((o.code == Obj.flags || o.code == Obj.tileRegs) && !s.hasCore (coreOfEntry o.code i)) then
    cdpNoObject
  else if s.frozen o ∨ s.gated o.code then cdpState
  else if !s.quiesced o.code i then cdpNotQuiesced
  else if !s.writable o.code i then cdpState
  else if !s.valueOk true o.code i v then cdpRange
  else cdpOk

/-! ### What a write does -/

/-- Extends measurement register `i` by a digest (R511). -/
def State.extend (s : State) (i digest : Nat) : State :=
  s.wr Obj.measurement i (Config.sm3 (leBytes 32 (s.rd Obj.measurement i) ++ leBytes 32 digest) % 2 ^ 256)

/-- The digest of the owner key (R512): 0 in FACTORY. -/
def State.ownerDigest (s : State) : Nat := if s.ownerKey = 0 then 0 else Config.sm3 (leBytes 64 s.ownerKey) % 2 ^ 256

/-- The digest by which MR5 is extended (R511): the commissioning state, the owner key digest and the cipher bit of every
port, as a byte, 32 bytes and 64 bits. -/
def State.mr5Digest (s : State) : Nat :=
  let cipher := leCode ((List.range 8).map fun b =>
    BitVec.ofNat 8 (((List.range 8).map fun k => b2n (s.cipherOn (8 * b + k)) * 2 ^ k).sum))
  Config.sm3 (leBytes 1 s.commState ++ leBytes 32 s.ownerDigest ++ leBytes 8 cipher) % 2 ^ 256

/-- A shaper's or policer's buckets after a write from the parameters `old` to `new` (R298): full where the mode has changed;
else as they stand, cut to the new sizes. One that nothing has tested yet is full at its old sizes. -/
def State.remeter (s : State) (n : Nat) (old new : Shape) : State :=
  let b :=
    if new.mode = 0 then none
    else if old.mode ≠ new.mode then some (new.fill none s.now)
    else
      let b := (KMap.get s.buckets none n).getD (old.fill none s.now)
      some { b with tc := min b.tc (new.cbs * 2 ^ 20 : Nat), tp := min b.tp (new.pbs * 2 ^ 20 : Nat) }
  { s with buckets := KMap.set s.buckets none n b }

/-- A write of a node entry (R298, R538). -/
def State.writeNode (s : State) (c : ObjCode) (i v : Nat) : State :=
  let n := if c = Obj.portNode then nodePort i else if c = Obj.classNode then nodeClass i else nodeGroup i
  let old := s.rd c i
  let t := s.wr c i v
  let t := t.remeter n (s.nodeShape n) (t.nodeShape n)
  if bits old 0 2 = bits v 0 2 then t else t.moveDue (s.nodeParent n) n (s.nodeBusy n)

/-- A write of a flow's entry (R302, R538): QUEUED is the module's own. -/
def State.writeFlow (s : State) (f v : Nat) : State :=
  let old := s.rd Obj.flowTable f
  let parent := s.flowGroup f
  let s := s.wr Obj.flowTable f (setBits v 96 32 (bits old 96 32))
  if bits old 24 7 = bits v 24 7 then s else s.moveDue parent (nodeFlow f) (bits old 96 32 != 0)

/-- A write of a policer's entry (R298, R299). -/
def State.writePolicer (s : State) (x v : Nat) : State :=
  let t := s.wr Obj.policer x v
  t.remeter (nodePolicer x) (s.policerShape x) (t.policerShape x)

/-- Bits cleared in SCRATCH_CAUSE, and what is cleared with them (R40, R179, R244). -/
def State.clearCause (s : State) (v : Nat) : State :=
  let old := s.rd Obj.scratchCause 0
  let s := s.wr Obj.scratchCause 0 (old &&& (v ^^^ 0xFFFF))
  let s := if v.testBit 0 && old.testBit 0 then (s.clearObj Obj.memUeRecord).clearObj Obj.memUeExtra else s
  let s := if v.testBit 1 && old.testBit 1 then s.clearObj Obj.oeSelftest else s
  if s.rd Obj.scratchCause 0 = 0 then s.wr Obj.scratchTime 0 0 else s

/-- Bits cleared in INPUT_EVENTS, each with its count (R503). -/
def State.clearInput (s : State) (v : Nat) : State :=
  let old := s.rd Obj.inputEvents 0
  let s := s.wr Obj.inputEvents 0 (old &&& (v ^^^ 0xFF))
  [(0, 0), (2, 64), (3, 128), (4, 192)].foldl
    (fun s p => if v.testBit p.1 && old.testBit p.1 then s.wrFld Obj.inputCounts 0 p.2 64 0 else s) s

/-- A write of bytes to the bitmap memory of a stream unit: between two runs (R320). -/
def State.bitmapStore (s : State) (u off : Nat) (bs : List Byte) : State :=
  let x := KMap.get s.sus SuSt.init u
  if x.run.isSome then { s with sus := KMap.set s.sus SuSt.init u { x with later := x.later ++ [some (off, bs)] } }
  else s.memWrite spaceBitmap (u * 2 ^ 21 + off) bs

/-- The CLE sets the CVUs that it claims to CRC-32C, the parameters that every CVU has by default (R382, R390). -/
def State.claimCvus (s : State) : State :=
  foldUp (fun c s => s.wr Obj.cvuParams c (factory Obj.cvuParams c)) 0 (min 15 (s.rd Obj.cleCvus 0)) s

/-- A write of PORT_CONFIG; a change of the cipher bit extends MR5 (R511). -/
def State.writePortConfig (s : State) (p v : Nat) : State :=
  let old := s.cipherOn p
  let s := s.wr Obj.portConfig p v
  if s.cipherOn p = old then s else s.extend 5 s.mr5Digest

/-- A write of an expulsion group (R474): the device's membership entry shows it. -/
def State.writeExpelGroup (s : State) (i v : Nat) : State :=
  let s := s.wr Obj.expelGroup i v
  if s.fld Obj.membership i 0 4 = 0 then s else s.wrFld Obj.membership i 24 8 v

/-- The state after a whole entry has been written and accepted. -/
def State.applyWrite (s : State) (c : ObjCode) (i v : Nat) : State :=
  if c = Obj.portNode ∨ c = Obj.classNode ∨ c = Obj.groupNode then s.writeNode c i v
  else if c = Obj.h40PortRate then s.writeNode Obj.portNode i (h40RateNode (s.rd Obj.portNode i) v)
  else if c = Obj.h40PortBurst then s.writeNode Obj.portNode i (setBits (s.rd Obj.portNode i) 128 32 v)
  else if c = Obj.flowTable then s.writeFlow i v
  else if c = Obj.policer then s.writePolicer i v
  else if c = Obj.headroomLimit ∨ c = Obj.classBuf then (s.wr c i v).trackNote
  else if c = Obj.portConfig then s.writePortConfig i v
  else if c = Obj.mirrorSession then
    { s.wr c i v with mirrorSeen := KMap.set s.mirrorSeen 0 i 0, mirrorSeq := KMap.set s.mirrorSeq 0 i 0 }
  else if c = Obj.suBitmap then s.bitmapStore i 0 (leBytes (2 ^ 21) v)
  else if c = Obj.scratchCause then s.clearCause v
  else if c = Obj.inputEvents then s.clearInput v
  else if c = Obj.poolFlags ∨ c = Obj.thermalEvents then s.wr c i (s.rd c i &&& (v ^^^ 0xFF))
  else if c = Obj.extend then s.extend (6 + i) v
  else if c = Obj.guardDesc then (s.wr c i v).guardSync i
  else if c = Obj.cleCvus then (s.wr c i v).claimCvus
  else if c = Obj.expelGroup then s.writeExpelGroup i v
  else s.wr c i v

/-- A whole entry of an RW object written through the dictionary window (R184): none where its rules refuse it. -/
def State.rwWrite (s : State) (c : ObjCode) (i v : Nat) : Option State :=
  match objInfo c with
  | some o => if c ≠ Obj.windowAccess ∧ s.writeStatus o i v = cdpOk then some (s.applyWrite c i v) else none
  | none => none

end Sys2Proof.Machine
end

