-- ==== Sys2Proof/Machine/Gmu.lean ====
section
/-! DEFINITION. The global memory units (spec/07_global_memory_space.md): the requester with its tags, streams and
deadlines (R189, R193, R195 to R197, R204 to R206), and the owning slice with its contexts (R194, R200 to R202), the
dictionary window (R184), and Guard stores at the data and parity members (R209 to R212). -/

namespace Sys2Proof.Machine

/-! ### Objects of streams -/

/-- State of a source stream entry (R217): 0 free, 1 open, 2 HELD, 3 BROKEN. -/
def State.srcState (s : State) (e : Nat) : Nat := s.fld Obj.srcStreams e 0 2
/-- Stream number of an entry. -/
def State.srcStream (s : State) (e : Nat) : Nat := s.fld Obj.srcStreams e 2 12
/-- Destination of an entry. -/
def State.srcDest (s : State) (e : Nat) : Nat := s.fld Obj.srcStreams e 14 16
/-- Next sequence number of an entry. -/
def State.srcNext (s : State) (e : Nat) : Nat := s.fld Obj.srcStreams e 32 32
/-- Replay generation of an entry. -/
def State.srcGen (s : State) (e : Nat) : Nat := s.fld Obj.srcStreams e 96 8
/-- Consecutive cuts of an entry. -/
def State.srcCuts (s : State) (e : Nat) : Nat := s.fld Obj.srcStreams e 104 8

/-- What a source entry holds beside its object. -/
def State.src (s : State) (e : Nat) : SrcSt := KMap.get s.srcSts SrcSt.init e
/-- Writes it. -/
def State.setSrc (s : State) (e : Nat) (x : SrcSt) : State := { s with srcSts := KMap.set s.srcSts SrcSt.init e x }

/-- Frees a source entry (R199). -/
def State.freeSrc (s : State) (e : Nat) : State := (s.wr Obj.srcStreams e 0).setSrc e SrcSt.init

/-- Counts a stream event (R217): `k` is the event's place in STREAM_EVENTS. -/
def State.streamEvent (s : State) (k : Nat) : State := s.inc Obj.streamEvents 0 (64 * k) 64 1

/-- The entry of an open, held or broken source stream to a destination. -/
def State.findSrc (s : State) (dest stream : Nat) : Option Nat :=
  (s.listed Obj.srcStreams).find? fun e => s.srcState e != 0 && s.srcDest e == dest && s.srcStream e == stream

/-- The unacknowledged requests of an entry, in sequence order: they are sent in that order. -/
def State.unacked (s : State) (e : Nat) : List GReq := s.sent.filter fun r => r.ord && r.entry == e

/-- The window of an entry (R195). -/
def State.window64 (s : State) (e : Nat) : Nat := if (s.src e).guard then 16 else 64

/-! ### The requester -/

/-- The reply space of a request (R189). -/
def GReq.space (r : GReq) : Nat := if r.op = 1 then r.len else 16

/-- The lowest free tag index of a slice (R189; log entry 18). Bits [15:13] of a tag name its slice (R265). -/
def State.freeTag (s : State) (slice : Nat) : Option Nat :=
  firstBelow 4096 fun k =>
    let t := slice * 8192 + k
    !(s.sent.any fun r => r.tag == t) && !(s.quarantine.any fun q => q.1 == t)

/-- Whether a slice has the reply space (R189). -/
def State.spaceOk (s : State) (r : GReq) : Bool :=
  decide (((s.sent.filter fun x => x.slice == r.slice).map GReq.space).sum + r.space ≤ 8 * 2 ^ 20)

/-- The destination device of a request. -/
def GReq.dest (r : GReq) : Nat := bits r.addr 48 16

/-- Records a request of a core that ended with another status than OK (R192). -/
def State.gmuError (s : State) (n ord : Nat) (r : GReq) (status : Nat) : State :=
  if s.fld Obj.gmuError n 0 8 = 0 then
    s.wr Obj.gmuError n (status + r.op * 2 ^ 8 + (ord % 2 ^ 64) * 2 ^ 64 + (r.addr % 2 ^ 64) * 2 ^ 128 + (s.now % 2 ^ 64) * 2 ^ 192)
  else s.inc Obj.gmuError n 32 32 1

/-- One request of a core's command has ended; the last one completes the command, which posts if all were OK (R192). -/
def State.endCmd (s : State) (n ord : Nat) (ok : Bool) : State :=
  let c := s.core n
  match c.varCmds.find? (fun v => v.cmd.ord == ord) with
  | none => s
  | some v =>
    let v' := { v with left := v.left - 1, failed := v.failed || !ok }
    if v'.left = 0 then
      let s := s.setCore n { c with varCmds := c.varCmds.erase v }
      if v'.failed then s else s.post n v.cmd.word v.cmd.pos v.cmd.ord
    else s.setCore n { c with varCmds := c.varCmds.map fun x => if x = v then v' else x }

/-- Writes bytes to a core's TM from outside the paced engines, meeting the read windows of what is in flight (R130); `e` is
the outcome of the read of the words it covers in part (R160), and nothing is written where that cannot be corrected. -/
def State.tmStore (s : State) (n off : Nat) (bs : List Byte) (e : Ecc) : State :=
  match s.mergeRead e 2 (tmOff n off) bs.length with
  | (false, s) => s
  | (true, s) => (s.touch n (.tm off bs.length) (ones (8 * bs.length)) none).memWrite 2 (tmOff n off) bs

/-- Writes mapped bytes (R159, R173), meeting the read windows of a core whose TM it is. -/
def State.memStore (s : State) (region off : Nat) (bs : List Byte) : State :=
  let s := if region = 2 ∧ bits off 26 4 < 12 then
      s.touch (12 * bits off 30 3 + bits off 26 4) (.tm (bits off 0 26) bs.length) (ones (8 * bs.length)) none
    else s
  s.store region off bs

/-- A WRITE that carries on a COPY's data (R99). -/
def copyWrite (r : GReq) (n ord target : Nat) (data : List Byte) : GReq :=
  { r with owner := .core n ord, op := 2, addr := target, len := data.length, payload := data }

/-- A reply to a PDELTA of a Guard store has come (R211 step 4): the store goes on when both have, and ends with a status that
is not OK if one of them has it. A reply that is about another store, one that has ended since, changes nothing. -/
def storeReplied (parity id status : Nat) (g : GuardStore) : GuardStore :=
  if g.desc * 2 ^ 32 + g.wid ≠ id ∨ g.replied.contains parity then g
  else
    { g with replied := parity :: g.replied, failed := if status = 0 then g.failed else some status,
             phase := if g.replied.isEmpty then g.phase else 3 }

/-- A request has ended with a status (R188, R192); `e` is the outcome of the reads that the writing of its data merges with
(R160). -/
def State.endReq (s : State) (r : GReq) (status : Nat) (data : List Byte) (e : Ecc) : State :=
  match r.owner with
  | .core n ord =>
    if status = 0 then
      let s := if r.op = 1 then s.tmStore n r.tm (data.take r.len) e
        else if r.op = 3 then s.tmStore n (r.tm + 16) (fitBytes 8 data) e else s
      if s.scratched then s else s.endCmd n ord true
    else (s.gmuError n ord r status).endCmd n ord false
  | .copy n ord target =>
    if status = 0 then
      ({ s with waiting := s.waiting ++ [copyWrite r n ord target (fitBytes r.len data)] }).endCmd n ord true
    else ((s.gmuError n ord r status).endCmd n ord false).endCmd n ord false
  | .guard ctx parity id =>
    let d := KMap.get s.dstSts DstSt.init ctx
    { s with dstSts := KMap.set s.dstSts DstSt.init ctx { d with store := d.store.map (storeReplied parity id status) } }
  | .reset e => s.freeSrc e
  | .quiet _ => s.quietTold
  | .close i =>
    let g := KMap.get s.guards GuardSt.init i
    { s with guards := KMap.set s.guards GuardSt.init i { g with closes := g.closes - 1 } }
  | .roll _ => s
  | .host id => s.hostReqEnd id r status data

/-- A request ends LOST (R188, R206). -/
def State.endLost (s : State) (r : GReq) : State := (s.inc Obj.lostCount 0 0 64 1).endReq r 0x20 [] .clean

/-- Opens a source entry for a stream, the lowest free one (R193). -/
def State.openSrc (s : State) (dest stream : Nat) : Option (Nat × State) :=
  (firstBelow 4096 fun e => s.srcState e == 0).map fun e =>
    (e, s.wr Obj.srcStreams e ((if s.devHeld dest then 2 else 1) + stream * 2 ^ 2 + dest * 2 ^ 14))

/-- What becomes of a request that waits to be sent. -/
inductive SendTry
  | sent (s : State)
  | ended (s : State)
  | stays

/-- Hands a request with its tag to the network, and enters it among the outstanding ones. -/
def State.launchReq (s : State) (r : GReq) (sync : Bool) : State :=
  let payload := match r.owner with
    | .core n _ => if r.payload.isEmpty ∧ r.op = 2 then leBytes r.len (s.tmCode n r.tm r.len)
        else if r.op = 3 then leBytes 16 (s.tmCode n r.tm 16) else r.payload
    | _ => r.payload
  let r := { r with payload := payload, first := s.now, last := s.now }
  ({ s with sent := s.sent ++ [r] }).sendFrame r.slice (s.requestFrame r sync)

/-- The traffic class of a request as it is sent (R537): that of its stream, of its core, or of the HA. -/
def State.sendTc (s : State) (r : GReq) : Nat :=
  if r.ord then s.rd Obj.streamTc r.stream
  else match r.owner with
    | .core n _ => s.rd Obj.coreReqTc n
    | .copy n _ _ => s.rd Obj.coreReqTc n
    | _ => s.rd Obj.coreReqTc 96

/-- Whether a FENCE with RELEASE is outstanding on an entry: what follows it on the stream number opens the stream anew once
it has ended (R199; DEDUCED, log entry 81). -/
def State.releasing (s : State) (e : Nat) : Bool := (s.unacked e).any fun r => r.op == 4 && r.release

/-- The FENCE of a reset goes out: a new generation, the stream's next sequence number, RELEASE and SYNC (R197). -/
def State.sendReset (s : State) (r : GReq) (e : Nat) : State :=
  let s := s.wrFld Obj.srcStreams e 96 8 (s.srcGen e + 1)
  let s := s.setSrc e { s.src e with resetSends := 1, resetLast := s.now }
  s.launchReq { r with entry := e, seq := s.srcNext e, gen := s.srcGen e } true

/-- Tries to send a request that waits (R189, R193, R195, R197). -/
def State.trySend (s : State) (r : GReq) : SendTry :=
  match s.freeTag r.slice with
  | none => .stays
  | some k =>
    if !s.spaceOk r then .stays
    else
      let r := { r with tag := r.slice * 8192 + k, tc := s.sendTc r }
      if let .reset e := r.owner then .sent (s.sendReset r e)
      else if !r.ord then .sent (s.launchReq r false)
      else
        let opened : Option (Nat × Bool × State) := match s.findSrc r.dest r.stream with
          | some e => some (e, false, s)
          | none => (s.openSrc r.dest r.stream).map fun p => (p.1, true, p.2)
        match opened with
        | none => .ended (s.endReq r 0x07 [] .clean)
        | some (e, fresh, s) =>
          if s.srcState e = 3 then .ended (s.endLost r)
          else
            let s := if r.op = 6 then s.setSrc e { s.src e with guard := true } else s
            if s.srcState e = 2 ∨ s.window64 e ≤ (s.unacked e).length ∨ s.releasing e then .stays
            else
              let seq := s.srcNext e
              let r := { r with entry := e, seq := seq, gen := s.srcGen e }
              let s := s.wrFld Obj.srcStreams e 32 32 ((seq + 1) % 2 ^ 32)
              .sent (s.launchReq r fresh)

/-- Whether the request stays in its queue. -/
def SendTry.waits : SendTry → Bool
  | .stays => true
  | _ => false

/-- The state after a try from the state `s`. -/
def SendTry.state (t : SendTry) (s : State) : State :=
  match t with
  | .sent s' => s'
  | .ended s' => s'
  | .stays => s

/-- Sends every waiting request that can be sent, in order; a request behind an unsent one of its own lane waits. -/
def pumpGo : List GReq → List Nat → List GReq → State → State
  | [], _, kept, s => { s with waiting := kept.reverse ++ s.waiting }
  | r :: rest, stuck, kept, s =>
    if stuck.contains r.lane then pumpGo rest stuck (r :: kept) s
    else
      let t := s.trySend r
      if t.waits then pumpGo rest (r.lane :: stuck) (r :: kept) s else pumpGo rest stuck kept (t.state s)

/-- Sends what can be sent; requests that this brings about (a COPY's writes) follow in the same round. -/
def State.pump (s : State) : State :=
  let s := pumpGo s.waiting [] [] { s with waiting := [] }
  pumpGo s.waiting [] [] { s with waiting := [] }

/-- The age of the oldest request of an entry moves on: OLDEST is entered, and the cuts in a row start anew (R197). -/
def State.ackMoved (s : State) (e : Nat) : State :=
  let oldest := match s.unacked e with | [] => s.srcNext e | r :: _ => r.seq
  if oldest = s.fld Obj.srcStreams e 64 32 then s
  else (s.wrFld Obj.srcStreams e 64 32 oldest).wrFld Obj.srcStreams e 104 8 0

/-- A stream becomes BROKEN: its outstanding requests end LOST (R197). -/
def State.breakStream (s : State) (e : Nat) : State :=
  let rs := s.unacked e
  let s := { s.wrFld Obj.srcStreams e 0 2 3 with sent := s.sent.filter fun r => !(r.ord && r.entry == e) }
  rs.foldl State.endLost s

/-- Sends the unacknowledged requests of an entry again under its generation, the first with SYNC (R196). -/
def State.replayStream (s : State) (e : Nat) : State :=
  let gen := s.srcGen e
  let upd (r : GReq) : GReq := if r.ord && r.entry == e then { r with gen := gen, last := s.now, cut := true } else r
  let s := { s with sent := s.sent.map upd }
  let frames := (s.unacked e).zipIdx.map fun p => (p.1.slice, s.requestFrame p.1 (p.2 == 0))
  frames.foldl (fun s p => s.sendFrame p.1 p.2) s

/-- Cuts a stream (R196): a new generation, and everything unacknowledged is sent again; the eighth cut in a row without
progress breaks a stream that was not HELD (R197). -/
def State.cutStream (s : State) (e : Nat) (wasHeld : Bool) : State :=
  let cuts := if wasHeld then s.srcCuts e else s.srcCuts e + 1
  let s := (s.wrFld Obj.srcStreams e 96 8 (s.srcGen e + 1)).wrFld Obj.srcStreams e 104 8 cuts
  let s := s.streamEvent 0
  if 8 ≤ cuts ∧ !wasHeld then s.breakStream e else s.replayStream e

/-- Whether the GMU of this module sends and answers: it has a device ID and is not scratched (R183, R38). -/
def State.gmuOn (s : State) : Bool := s.devId != 0xFFFF && !s.scratched && s.hasCompute

/-- GMU_REPLY (R192, R196, R205, R206): a reply arrives at its requester; `ecc` is the outcome of the reads that the writing of
its data merges with. -/
def execGmuReply (f : Frame) (ecc : Ecc) (s : State) : Res :=
  if !s.gmuOn || decide (f.op < 0x81) || decide (0x87 < f.op) then .next s
  else
    let found := s.sent.find? fun r =>
      r.tag == f.tag && r.op + 0x80 == f.op && r.ord == f.ordered && r.dest == f.src
        && (!r.ord || (r.stream == f.stream && r.seq == f.seq))
    match found with
    | none =>
      -- a reply that carries the tag of an abandoned request
      .next (if s.quarantine.any (fun q => q.1 == f.tag) then s.streamEvent 5 else s)
    | some r =>
      if r.ord && (f.status == 0x04 || f.status == 0x05) && (match r.owner with | .reset _ => false | _ => true) then
        if f.gen = s.srcGen r.entry ∧ s.srcState r.entry = 1 then .next (s.cutStream r.entry false).pump else .next s
      else
        let late := decide (s.rd Obj.deadlineNs r.tc < s.now - r.first)
        let s := if late then
            let s := s.inc Obj.lateByDest (f.src % 4096) 0 64 1
            if r.cut then s.inc Obj.lateByDest (f.src % 4096) 64 64 1 else s
          else s
        let s := { s with sent := s.sent.erase r }
        let s := s.endReq r f.status f.payload ecc
        let s := if r.ord ∧ s.srcState r.entry ≠ 0 then
            if r.op = 4 ∧ r.release ∧ f.status = 0 then s.freeSrc r.entry else s.ackMoved r.entry
          else s
        .next s.pump

/-- REPLAY_AFTER_EXPIRY (R196, R197): REPLAY_AFTER has passed since the last send of a stream's oldest request, and the
stream is cut. For the FENCE of a reset, it is sent again, and after eight sends without a reply the entry is free. -/
def execReplayAfterExpiry (entry : Nat) (s : State) : Res :=
  let wait := s.rd Obj.replayAfterNs 0
  if !s.gmuOn || 4096 ≤ entry then .next s
  else if s.srcState entry = 1 then
    match s.unacked entry with
    | [] => .next s
    | r :: _ => .next (if r.last + wait ≤ s.now then (s.cutStream entry false).pump else s)
  else if s.srcState entry = 3 then
    let x := s.src entry
    if x.resetSends = 0 ∨ s.now < x.resetLast + wait then .next s
    else if 8 ≤ x.resetSends then
      .next { s.freeSrc entry with sent := s.sent.filter fun r => r.owner != .reset entry }
    else
      match s.sent.find? (fun r => r.owner == .reset entry) with
      | none => .next s
      | some r => .next ((s.setSrc entry { x with resetSends := x.resetSends + 1, resetLast := s.now }).sendFrame r.slice
          (s.requestFrame r true))
  else .next s

/-- ABANDON_AFTER_EXPIRY (R206, R189): an unordered request has had no reply for ABANDON_AFTER since its send. It ends
LOST, and its tag is quarantined for 10 ms. -/
def execAbandonAfterExpiry (tag : Nat) (s : State) : Res :=
  match s.sent.find? (fun r => !r.ord && r.tag == tag) with
  | none => .next s
  | some r =>
    if s.scratched || decide (s.now < r.last + 1000 * s.rd Obj.abandonAfterUs 0) then .next s
    else
      let s := { s with sent := s.sent.erase r, quarantine := s.quarantine ++ [(tag, s.now + 10000000)] }
      .next (s.endLost r).pump

/-- TAG_QUARANTINE_END (R189): a tag's 10 ms are over. -/
def execTagQuarantineEnd (tag : Nat) (s : State) : Res :=
  match s.quarantine.find? (fun q => q.1 == tag) with
  | none => .next s
  | some q => .next (if q.2 ≤ s.now then ({ s with quarantine := s.quarantine.erase q }).pump else s)

/-- STREAM_RESET (R197, R217): a write of a SRC_STREAMS index to 4200.04. A BROKEN stream's FENCE with RELEASE and SYNC
goes out on a new generation with the next sequence number; like every request it waits for a tag and reply space (R189). -/
def execStreamReset (value : Nat) (s : State) : Res :=
  if !s.hasCompute || 4096 ≤ value then .next s
  else if s.srcState value ≠ 3 then .next (s.wr Obj.streamReset 0 2)
  else if (s.src value).resetSends ≠ 0 then .next (s.wr Obj.streamReset 0 1)
  else
    let s := s.wr Obj.streamReset 0 1
    let stream := s.srcStream value
    let r : GReq := { owner := .reset value, op := 4, addr := s.srcDest value * 2 ^ 48, len := 1, aop := 0, atype := 0, opnd := 0,
                      ord := true, stream := stream, release := true, tc := 0, tm := 0, payload := [], slice := stream % 8, tag := 0,
                      entry := value, seq := 0, gen := 0, first := 0, last := 0, cut := false }
    .next (if s.waiting.any (fun r => r.owner == .reset value) then s else ({ s with waiting := s.waiting ++ [r] }).pump)

/-! ### The owning slice: plain requests -/

/-- The Guard descriptor whose range holds an offset, with its state (R208). -/
def State.guardAt (s : State) (region off : Nat) : Option Nat :=
  (List.range 64).find? fun i =>
    let d := s.rd Obj.guardDesc i
    s.rd Obj.guardState i != 0 && bits d 16 4 == region && decide (bits d 64 44 ≤ off)
      && decide (off < bits d 64 44 + 4096 * bits d 128 32)

/-- K of a descriptor. -/
def State.guardK (s : State) (i : Nat) : Nat := s.fld Obj.guardDesc i 8 4
/-- SELF of a descriptor. -/
def State.guardSelf (s : State) (i : Nat) : Nat := s.fld Obj.guardDesc i 12 4
/-- GSTREAM of a descriptor. -/
def State.guardStream (s : State) (i : Nat) : Nat := s.fld Obj.guardDesc i 20 12
/-- BASE of a descriptor. -/
def State.guardBase (s : State) (i : Nat) : Nat := s.fld Obj.guardDesc i 64 44
/-- REGION of a descriptor. -/
def State.guardRegion (s : State) (i : Nat) : Nat := s.fld Obj.guardDesc i 16 4
/-- The device ID of a symbol's member. -/
def State.guardMember (s : State) (i j : Nat) : Nat := s.fld Obj.guardDesc i (192 + 16 * j) 16
/-- The stripe of an offset in a descriptor's range. -/
def State.stripeOf (s : State) (i off : Nat) : Nat := (off - s.guardBase i) / 4096
/-- What a group holds beside its objects. -/
def State.guard (s : State) (i : Nat) : GuardSt := KMap.get s.guards GuardSt.init i
/-- Writes it. -/
def State.setGuard (s : State) (i : Nat) (g : GuardSt) : State := { s with guards := KMap.set s.guards GuardSt.init i g }
/-- What a destination context holds beside its object. -/
def State.dst (s : State) (n : Nat) : DstSt := KMap.get s.dstSts DstSt.init n
/-- Writes it. -/
def State.setDst (s : State) (n : Nat) (d : DstSt) : State := { s with dstSts := KMap.set s.dstSts DstSt.init n d }

/-- Whether a request must wait before it is performed: its controller holds (R171), or its Guard group does not serve it
yet (R214 to R216, R463): stores and reads of a symbol to be rebuilt while QUIESCING, and whatever concerns a stripe that
is to be rebuilt here first. -/
def State.mustWait (s : State) (f : Frame) : Bool :=
  let mem := f.op == 1 || f.op == 2 || f.op == 3 || f.op == 6
  if !mem then false
  else if s.held f.region f.off then true
  else
    match s.guardAt f.region f.off with
    | none => false
    | some i =>
      let g := s.guard i
      let st := s.rd Obj.guardState i
      (st == 2 && ((f.op == 2 && f.ordered && decide (s.guardSelf i < s.guardK i)) || g.missing || g.vacant))
        || (st == 3 && g.missing && !g.done.contains (s.stripeOf i f.off))

/-- The answer to a request: none where no reply goes out because the read could not be corrected (R207). -/
structure Served where
  status : Option Nat
  data : List Byte
  state : State

/-- The bytes of a dictionary object in window byte order (R184): a TABLE's entries one after the other. -/
def State.objectBytes (s : State) (o : ObjInfo) (off n : Nat) : List Byte :=
  (List.range n).map fun k => BitVec.ofNat 8 (bits (s.view o.code ((off + k) / o.bytes)) (8 * ((off + k) % o.bytes)) 8)

/-- The size of an object's value as the window shows it: a TABLE's first 64 KiB (R184). A write of a CMD object, which the
window refuses, is as wide as the object's write width (R419). -/
def ObjInfo.windowSize (o : ObjInfo) (write : Bool) : Nat :=
  min 65536 ((if write then max o.bytes o.writeBytes else o.bytes) * max 1 o.entries)

/-- A region 3 access (R184): the object of an offset, where it is one that exists and the access lies in its value. -/
def State.windowObj (s : State) (off len : Nat) (write : Bool) : Option ObjInfo :=
  let c := bits off 16 24
  if bits off 40 4 ≠ 0 ∨ !s.objHere c then none
  else
    match objInfo c with
    | some o => if bits off 0 16 + len ≤ o.windowSize write then some o else none
    | none => none

/-- Whether an access crosses a 4 KiB boundary (R186). -/
def crosses (off len : Nat) : Bool := decide (4096 < off % 4096 + len)

/-- A READ of region 3. -/
def State.windowRead (s : State) (f : Frame) : Served :=
  match s.windowObj f.off f.len false with
  | none => ⟨some 0x01, [], s⟩
  | some o =>
    if crosses f.off f.len then ⟨some 0x03, [], s⟩
    else if (s.rd Obj.windowAccess 0 = 0 ∧ o.code / 2 ^ 20 ≠ 1) ∨ s.readsClaimed o 0 (bits f.off 0 16) f.len then ⟨some 0x02, [], s⟩
    else ⟨some 0, s.objectBytes o (bits f.off 0 16) f.len, s⟩

/-- A WRITE of region 3: the whole value of an RW object that its rules accept, where the setting is 2. -/
def State.windowWrite (s : State) (f : Frame) : Served :=
  match s.windowObj f.off f.len true with
  | none => ⟨some 0x01, [], s⟩
  | some o =>
    let whole := bits f.off 0 16 = 0 ∧ f.len = o.bytes * max 1 o.entries
    if crosses f.off f.len then ⟨some 0x03, [], s⟩
    else if s.rd Obj.windowAccess 0 ≠ 2 ∨ o.access ≠ .rw ∨ ¬ whole then ⟨some 0x02, [], s⟩
    else
      let entry (k : Nat) : Nat := leCode (sliceBytes f.payload (k * o.bytes) o.bytes)
      let written := (List.range (max 1 o.entries)).foldl
        (fun (r : Option State) k => r.bind fun s => s.rwWrite o.code k (entry k)) (some s)
      match written with
      | some s' => ⟨some 0, [], s'⟩
      | none => ⟨some 0x02, [], s⟩

/-- The status of an access to a Guard range (R209, R216): VOID, or GUARD_OP where `refused`, else none. -/
def State.guardStatus (s : State) (region off : Nat) (refused : Bool) : Option Nat :=
  match s.guardAt region off with
  | none => none
  | some i => if s.rd Obj.guardState i = 4 then some 0x09 else if refused then some 0x08 else none

/-- READ (R186, R157, R161, R163, R168). -/
def State.serveRead (s : State) (f : Frame) (e : Ecc) : Served :=
  if f.region = 3 then s.windowRead f
  else if !s.mapped f.region f.off f.len then ⟨some 0x01, [], s⟩
  else if crosses f.off f.len then ⟨some 0x03, [], s⟩
  else
    match s.guardStatus f.region f.off false with
    | some st => ⟨some st, [], s⟩
    | none =>
      match s.eccRead e f.region f.off f.len with
      | (false, s) => ⟨none, [], s⟩
      | (true, s) => ⟨some 0, s.load f.region f.off f.len, s⟩

/-- WRITE that is no Guard store of a data member (R209, R216, R160). -/
def State.serveWrite (s : State) (f : Frame) (e : Ecc) : Served :=
  if f.region = 3 then s.windowWrite f
  else if !s.mapped f.region f.off f.len then ⟨some 0x01, [], s⟩
  else if crosses f.off f.len then ⟨some 0x03, [], s⟩
  else
    match s.guardStatus f.region f.off (!f.ordered) with
    | some st => ⟨some st, [], s⟩
    | none =>
      match s.mergeRead e f.region f.off f.len with
      | (false, s) => ⟨none, [], s⟩
      | (true, s) => ⟨some 0, [], s.memStore f.region f.off (fitBytes f.len f.payload)⟩

/-- The width of an atomic (R201). -/
def atomicBytes (atype : Nat) : Nat := if atype = 1 ∨ atype = 3 then 8 else 4

/-- Whether R201 has the combination. -/
def atomicOk (aop atype : Nat) : Bool :=
  decide (aop < 8) && decide (atype < 5) && !(atype == 4 && decide (3 ≤ aop) && decide (aop ≤ 5))

/-- The new value of an atomic (R201). -/
def atomicNew (aop atype old opnd cmp : Nat) : Nat :=
  let w := 8 * atomicBytes atype
  let isSigned := atype < 2
  let less (a b : Nat) : Bool := if isSigned then decide (signed a w < signed b w) else decide (a < b)
  match aop with
  | 0 => if atype = 4 then add32 old opnd else (old + opnd) % 2 ^ w
  | 1 => if atype = 4 then min32 old opnd else if less opnd old then opnd else old
  | 2 => if atype = 4 then max32 old opnd else if less old opnd then opnd else old
  | 3 => old &&& opnd
  | 4 => old ||| opnd
  | 5 => old ^^^ opnd
  | 6 => opnd
  | _ => if old = cmp then opnd else old

/-- ATOMIC (R201, R202, R209). A reserved AOP or ATYPE, which no sender that keeps R201 sends and for which the spec names no
status, is answered ADDRESS (DESIGN CHOICE, log entry 80). -/
def State.serveAtomic (s : State) (f : Frame) (e : Ecc) : Served :=
  let n := atomicBytes f.atype
  if f.region = 3 then ⟨some 0x02, [], s⟩
  else if !s.mapped f.region f.off n || !atomicOk f.aop f.atype then ⟨some 0x01, [], s⟩
  else if f.off % n ≠ 0 then ⟨some 0x03, [], s⟩
  else
    match s.guardStatus f.region f.off true with
    | some st => ⟨some st, [], s⟩
    | none =>
      match s.eccRead e f.region f.off n with
      | (false, s) => ⟨none, [], s⟩
      | (true, s) =>
        let old := leCode (s.load f.region f.off n)
        let opnd := leCode (sliceBytes f.payload 0 n)
        let cmp := leCode (sliceBytes f.payload 8 n)
        ⟨some 0, leBytes 8 old, s.memStore f.region f.off (leBytes n (atomicNew f.aop f.atype old opnd cmp))⟩

/-- The FXE SIGNAL of core `n` that a request of this module carries, as position and ordinal (R95); none where another core
sent it. -/
def State.ownSignal (s : State) (f : Frame) (n : Nat) : Option (Nat × Nat) :=
  if f.src ≠ s.devId then none
  else
    match s.sent.find? (fun r => r.op == 5 && r.tag == f.tag) with
    | some r =>
      match r.owner with
      | .core c ord => if c = n then ((s.core n).varCmds.find? fun v => v.cmd.ord == ord).map fun v => (v.cmd.pos, ord) else none
      | _ => none
    | none => none

/-- SIGNAL (R191, R95): one more on the flag of a present core. -/
def State.serveSignal (s : State) (f : Frame) : Served :=
  let core := bits f.hdr 32 8
  let flag := bits f.hdr 24 8
  if s.hasCore core then ⟨some 0, [], s.addFlag core flag 1 (s.ownSignal f core)⟩ else ⟨some 0x01, [], s⟩

/-! ### Guard arithmetic and parity members -/

/-- One doubling in GF(2^8) with polynomial 0x11D (R210). -/
def gfDouble (a : Nat) : Nat := if 0x80 ≤ a then (a * 2) ^^^ 0x11D else a * 2

/-- The product of GF(2^8) (R330), bit by bit of `b`. -/
def gfMulGo : Nat → Nat → Nat → Nat
  | 0, _, _ => 0
  | n + 1, a, b => (if b % 2 = 1 then a else 0) ^^^ gfMulGo n (gfDouble a) (b / 2)

/-- The product of GF(2^8). -/
def gfMul (a b : Nat) : Nat := gfMulGo 8 (a % 256) (b % 256)

/-- g^j with g = 2 (R210). -/
def gfPow : Nat → Nat
  | 0 => 1
  | j + 1 => gfDouble (gfPow j)

/-- The inverse of a non-zero element. -/
def gfInv (a : Nat) : Nat := ((List.range 256).find? fun b => gfMul a b == 1).getD 0

/-- A byte list times an element. -/
def gfScale (k : Nat) (bs : List Byte) : List Byte := bs.map fun b => BitVec.ofNat 8 (gfMul k b.toNat)

/-- The XOR of two byte lists. -/
def xorBytes (a b : List Byte) : List Byte := a.zipWith (· ^^^ ·) b

/-- The CRC-32C/RAW of bytes (R464): POLY 0x1EDC6F41 reflected in and out, INIT 0, XOROUT 0. -/
def crcRaw (bs : List Byte) : Nat := crcR 0x82F63B78 0 bs

/-- Where the check table of a parity member begins (R464). -/
def State.checkTable (s : State) (i : Nat) : Nat := s.guardBase i + 4096 * s.fld Obj.guardDesc i 128 32

/-- The data symbol of a member of a group, if the device is one. -/
def State.guardSymbol (s : State) (i dev : Nat) : Option Nat :=
  (List.range (s.guardK i)).find? fun j => s.guardMember i j == dev

/-- The data symbol that a PDELTA is about: its sender's, or, where the other parity member rolls the deltas of a lost
data member forward (R215), that member's. With two data members lost the frame does not say which one it is: a free
choice (log entry 19). -/
def State.deltaSymbol (s : State) (i dev : Nat) : Option Nat :=
  match s.guardSymbol i dev with
  | some j => some j
  | none =>
    if dev = s.guardMember i (s.guardK i) ∨ dev = s.guardMember i (s.guardK i + 1) then
      match (s.guard i).lost.filter (fun j => decide (j < s.guardK i)) with
      | [] => none
      | j :: js => (j :: js)[s.draw 0 % (js.length + 1)]?
    else none

/-- Applies a delta of data symbol `j` to the parity of this member: the parity bytes, and the check entry by linearity
(R212, R464). The weighted parity's payload carries g^j times the symbol's delta. -/
def State.applyDelta (s : State) (i j off : Nat) (payload : List Byte) : State :=
  let region := s.guardRegion i
  let s := s.memStore region off (xorBytes (s.load region off payload.length) payload)
  let k := s.guardK i
  let delta := if s.guardSelf i = k then payload else gfScale (gfInv (gfPow j)) payload
  let stripe := s.stripeOf i off
  let at_ := s.checkTable i + 4 * (stripe * k + j)
  let whole := List.replicate ((off - s.guardBase i) % 4096) (0 : Byte) ++ delta
    ++ List.replicate (4096 - (off - s.guardBase i) % 4096 - delta.length) (0 : Byte)
  s.memStore region at_ (leBytes 4 (leCode (s.load region at_ 4) ^^^ crcRaw whole))

/-- Whether a device is a parity member of a group: one that rolls a delta forward (R215). -/
def State.parityOf (s : State) (i dev : Nat) : Bool :=
  dev == s.guardMember i (s.guardK i) || dev == s.guardMember i (s.guardK i + 1)

/-- Whether a delta that the other parity member rolls forward is held here already (R215). -/
def State.holdsDelta (s : State) (i j wid : Nat) : Bool :=
  let same (x : DeltaEntry) : Bool := x.wid == wid && x.desc == i && x.symbol == j
  (s.guard i).rolled.any same || s.dstSts.any fun p => p.2.log.any same

/-- Keeps the payload of a PDELTA (R212): a data member's in the log of the stream's context, one rolled forward with those
of its group that are open. -/
def State.keepDelta (s : State) (f : Frame) (i : Nat) (x : DeltaEntry) : State :=
  if s.parityOf i f.src then s.setGuard i { s.guard i with rolled := (s.guard i).rolled ++ [x] }
  else
    let d := s.dst f.stream
    (s.setDst f.stream { d with log := d.log ++ [x] }).wrFld Obj.dstStreams f.stream 72 5 (d.log.length + 1)

/-- PDELTA (R212, R215, R216): the parity is updated and the payload kept. A delta rolled forward that is held here already
is not applied again. A PDELTA that is about no symbol of the group or comes to a data member, and a 17th open one of a
context, are refused with GUARD_OP: the spec names no status (DESIGN CHOICE, log entry 80). -/
def State.servePdelta (s : State) (f : Frame) (e : Ecc) : Served :=
  match s.guardAt f.region f.off with
  | none => ⟨some 0x01, [], s⟩
  | some i =>
    if s.rd Obj.guardState i = 4 then ⟨some 0x09, [], s⟩
    else
      match s.deltaSymbol i f.src with
      | none => ⟨some 0x08, [], s⟩
      | some j =>
        if s.guardSelf i < s.guardK i ∨ (!s.parityOf i f.src && decide (16 ≤ (s.dst f.stream).log.length)) then
          ⟨some 0x08, [], s⟩
        else if crosses f.off f.len then ⟨some 0x03, [], s⟩
        else if s.parityOf i f.src && s.holdsDelta i j f.opnd then ⟨some 0, [], s⟩
        else
          match s.eccRead e f.region f.off f.len with
          | (false, s) => ⟨none, [], s⟩
          | (true, s) =>
            let payload := fitBytes f.len f.payload
            let s := s.applyDelta i j f.off payload
            ⟨some 0, [], s.keepDelta f i ⟨f.opnd, i, j, f.off - s.guardBase i, payload⟩⟩

/-- PCLOSE (R212): the log entry of its WRITE_ID is freed. WRITE_IDs are counted for each descriptor (R210), so where the
address names one, only that descriptor's entry is meant. -/
def State.servePclose (s : State) (f : Frame) : Served :=
  let d := s.dst f.stream
  let meant (x : DeltaEntry) : Bool :=
    x.wid == f.opnd && (match s.guardAt f.region f.off with | some i => x.desc == i | none => true)
  let log := d.log.filter fun x => !meant x
  ⟨some 0, [], (s.setDst f.stream { d with log := log }).wrFld Obj.dstStreams f.stream 72 5 log.length⟩

/-- Performs a request whole, whatever carries it. -/
def State.serve (s : State) (f : Frame) (e : Ecc) : Served :=
  match f.op with
  | 1 => s.serveRead f e
  | 2 => s.serveWrite f e
  | 3 => s.serveAtomic f e
  | 4 => ⟨some 0, [], s⟩
  | 5 => s.serveSignal f
  | 6 => s.servePdelta f e
  | _ => s.servePclose f

/-! ### Ordered streams at the destination (R194) -/

/-- How many contexts are Guard-bound. -/
def State.guardBound (s : State) : Nat :=
  ((s.listed Obj.dstStreams).filter fun n => s.fld Obj.dstStreams n 0 2 == 3).length

/-- Unbinds a context; the deltas that are open stay in its log until their PCLOSE (R212). -/
def State.unbind (s : State) (n : Nat) : State :=
  (s.wr Obj.dstStreams n 0).setDst n { DstSt.init with log := (s.dst n).log }

/-- Whether a PDELTA comes from the other parity member for a lost data member whose stream still holds the context: it takes
the context over (R215; DEDUCED, log entry 83). -/
def State.rollsForward (s : State) (f : Frame) : Bool :=
  f.op == 6 && f.sync && (match s.guardAt f.region f.off with
    | some i => s.parityOf i f.src
        && (s.guard i).lost.any fun j => s.guardMember i j == s.fld Obj.dstStreams f.stream 16 16
    | none => false)

/-- The request has been performed: its reply is kept and sent, and the next sequence number is expected. -/
def State.finishOrdered (s : State) (f : Frame) (status : Nat) (data : List Byte) : State :=
  let n := f.stream
  let d := s.dst n
  let ring := (d.ring ++ [(f.seq, status, leCode data)]).drop (d.ring.length + 1 - 64)
  let s := s.setDst n { d with ring := ring, store := none }
  let s := s.wrFld Obj.dstStreams n 32 32 (f.seq + 1)
  let s := s.reply f status data
  if f.op = 4 ∧ f.release ∧ status = 0 then s.unbind n else s

/-- The data member begins a Guard store (R211 step 1): the old bytes are read once no earlier store of the stripe is
open and the group is not QUIESCING (R214), and the deltas are left to an SU. -/
def State.guardBegin (s : State) (f : Frame) (e : Ecc) (i : Nat) : State :=
  let stripe := s.stripeOf i f.off
  let open_ := s.dstSts.any fun p => match p.2.store with
    | some g => g.desc == i && g.stripe == stripe && g.phase != 0 && p.1 != f.stream
    | none => false
  let g : GuardStore := { frame := f, desc := i, stripe := stripe, wid := 0, old := [], phase := 0, replied := [], failed := none,
                          ecc := e }
  if open_ || s.rd Obj.guardState i == 2 then s.setDst f.stream { s.dst f.stream with store := some g }
  else
    match s.eccRead e f.region f.off f.len with
    | (false, s) => s
    | (true, s) =>
      let st := s.guard i
      let g := { g with wid := st.nextWid, old := s.load f.region f.off f.len, phase := 1 }
      (s.setGuard i { st with nextWid := (st.nextWid + 1) % 2 ^ 32 }).setDst f.stream { s.dst f.stream with store := some g }

/-- Whether an ordered request is a Guard store of this data member that goes through R211. -/
def State.guardStoreOf (s : State) (f : Frame) : Option Nat :=
  if f.op ≠ 2 ∨ f.region = 3 ∨ !s.mapped f.region f.off f.len ∨ crosses f.off f.len then none
  else
    match s.guardAt f.region f.off with
    | some i => if s.rd Obj.guardState i ≠ 4 ∧ s.guardSelf i < s.guardK i then some i else none
    | none => none

/-- An ordered request at a context that waits for nothing (R194). The answer says whether it must wait. -/
def State.ordered (s : State) (f : Frame) (e : Ecc) : Bool × State :=
  let n := f.stream
  let o := s.rd Obj.dstStreams n
  let takes := o.testBit 0 && bits o 16 16 != f.src && s.rollsForward f
  let bound := o.testBit 0 && !takes
  let ahead := bits (f.gen + 256 - bits o 64 8) 0 8
  if bound && bits o 16 16 != f.src then (false, s.reply f 0x06 [])
  else if bound && f.op == 4 && f.release && f.sync && decide (1 ≤ ahead) && decide (ahead ≤ 127) then
    (false, (s.unbind n).reply f 0 [])
  else if !bound && !f.sync then (false, s.reply f 0x05 [])
  else if !bound && !takes && f.op == 6 && s.guardBound == 256 then (false, s.reply f 0x07 [])
  else
    let s := if bound then s
      else (s.wr Obj.dstStreams n (1 + b2n (f.op == 6) * 2 + f.src * 2 ^ 16 + f.seq * 2 ^ 32 + f.gen * 2 ^ 64)).setDst n
        { DstSt.init with log := (s.dst n).log }
    let o := s.rd Obj.dstStreams n
    let ahead := bits (f.gen + 256 - bits o 64 8) 0 8
    if ahead ≠ 0 ∧ 127 < ahead then (false, s.streamEvent 3)
    else
      let s := if ahead = 0 then s
        else (s.wrFld Obj.dstStreams n 64 8 f.gen).setDst n { s.dst n with gapTold := false }
      let expect := s.fld Obj.dstStreams n 32 32
      let d := signed (f.seq + 2 ^ 32 - expect) 32
      if d = 0 then
        if s.mustWait f then (true, s)
        else
          match s.guardStoreOf f with
          | some i => (false, s.guardBegin f e i)
          | none =>
            let r := s.serve f e
            match r.status with
            | some st => (false, r.state.finishOrdered f st r.data)
            | none => (false, r.state)
      else if 0 < d then
        let s := s.streamEvent 2
        if (s.dst n).gapTold then (false, s)
        else
          let s := (s.streamEvent 1).setDst n { s.dst n with gapTold := true }
          (false, s.sendFrame (n % 8) (s.replyFrame f 0x04 false expect []))
      else if -64 ≤ d then
        match (s.dst n).ring.find? (fun x => x.1 == f.seq) with
        | some x =>
          let s := s.streamEvent 4
          (false, s.sendFrame (n % 8) (s.replyFrame f x.2.1 true 0 (if f.op = 3 ∧ x.2.1 = 0 then leBytes 8 x.2.2 else [])))
        | none => (false, s)
      else (false, s.streamEvent 3)

/-- A request joins those that wait. -/
def State.holdReq (s : State) (f : Frame) (e : Ecc) : State := { s with heldReqs := s.heldReqs ++ [(f, e)] }

/-- Whether requests of a stream wait (R279). -/
def State.parked (s : State) (n : Nat) : Bool := s.heldReqs.any fun q => q.1.ordered && q.1.op != 1 && q.1.stream == n

/-- Performs a request that is on no ordered stream, and answers it. -/
def State.answer (s : State) (f : Frame) (e : Ecc) : State :=
  let r := s.serve f e
  match r.status with
  | some st => r.state.reply f st r.data
  | none => r.state

/-- Performs the requests that waited, in the order of their arrival, each that need not wait any longer; a stream whose
first one waits, or whose Guard store is open, keeps the others behind it (`stuck`). -/
def servePass : List (Frame × Ecc) → List Nat → State → State
  | [], _, s => s
  | (f, e) :: rest, stuck, s =>
    if s.scratched then s
    else if f.ordered && f.op != 1 then
      if stuck.contains f.stream || (s.dst f.stream).store.isSome then servePass rest (f.stream :: stuck) (s.holdReq f e)
      else
        match s.ordered f e with
        | (true, s) => servePass rest (f.stream :: stuck) (s.holdReq f e)
        | (false, s) => servePass rest stuck s
    else if s.mustWait f then servePass rest stuck (s.holdReq f e)
    else servePass rest stuck (s.answer f e)

/-- Performs what waited and no longer has to (R171, R215, R279). -/
def State.releaseWaiting (s : State) : State := servePass s.heldReqs [] { s with heldReqs := [] }

/-- A GMU request arrives (R183, R185, R191, R194, R496): a UDX-J00-F, and any module in REST, answers ADDRESS; a module with
no device ID and a scratched one answer nothing; one in DEEP REST answers a SIGNAL with ADDRESS and nothing else. The
reserved bits of the header are not looked at: the spec names no malformed case of a GMU request (DESIGN CHOICE, log entry
80). A FENCE or PCLOSE on no ordered stream has nothing before it and is answered OK, a PDELTA is a store on no ordered
stream and is refused with GUARD_OP (R209; DESIGN CHOICE, log entry 80). -/
def State.requestIn (s : State) (op : Nat) (f : Frame) (e : Ecc) : State :=
  if s.devId = 0xFFFF ∨ s.scratched ∨ f.op ≠ op ∨ f.dest ≠ s.devId ∨ (s.power = 3 ∧ op ≠ 5) then s
  else if !s.hasCompute ∨ s.memClosed then s.reply f 0x01 []
  else if f.ordered ∧ op ≠ 1 then
    if (s.dst f.stream).store.isSome || s.parked f.stream then s.holdReq f e
    else
      match s.ordered f e with
      | (true, s) => s.holdReq f e
      | (false, s) => s
  else if op = 4 ∨ op = 7 then s.reply f 0 []
  else if op = 6 then s.reply f 0x08 []
  else if s.mustWait f then s.holdReq f e
  else s.answer f e

/-- REQ_READ (R186, R184): `ecc` is the outcome of the memory's code on the read. -/
def execReqRead (f : Frame) (ecc : Ecc) (s : State) : Res := .next (s.requestIn 1 f ecc)
/-- REQ_WRITE (R194, R211): `ecc` is the outcome of the read of a merge, or of a Guard store's old bytes. -/
def execReqWrite (f : Frame) (ecc : Ecc) (s : State) : Res := .next (s.requestIn 2 f ecc)
/-- REQ_ATOMIC (R202). -/
def execReqAtomic (f : Frame) (ecc : Ecc) (s : State) : Res := .next (s.requestIn 3 f ecc)
/-- REQ_FENCE (R200). Everything earlier on its stream has been performed and is visible when its turn comes. -/
def execReqFence (f : Frame) (s : State) : Res := .next (s.requestIn 4 f .clean)
/-- REQ_SIGNAL (R191). -/
def execReqSignal (f : Frame) (s : State) : Res := .next (s.requestIn 5 f .clean)
/-- REQ_PDELTA (R212): `ecc` is the outcome of the read of the parity bytes. -/
def execReqPdelta (f : Frame) (ecc : Ecc) (s : State) : Res := .next (s.requestIn 6 f ecc)
/-- REQ_PCLOSE (R212). -/
def execReqPclose (f : Frame) (s : State) : Res := .next (s.requestIn 7 f .clean)

/-- The holds that have reached their bound end (R170). -/
def State.holdsEnd (s : State) : State :=
  let ended := (s.recals.filter fun x => x.2.holding && decide (x.2.start + holdBound x.1 ≤ s.now)).map (·.1)
  if ended.isEmpty then s else (ended.foldl (fun s c => s.endHold c) s).releaseWaiting

/-- RECAL_END (R171, R180): a hold ends; the requests held in the controller's queue are performed in order of arrival. A hold
that lasts ends with the tick that reaches its bound (R170). -/
def execRecalEnd (ctrl : Nat) (s : State) : Res :=
  if (s.recal ctrl).holding then
    let s := s.endHold ctrl
    .next s.releaseWaiting
  else .next s

end Sys2Proof.Machine
end

