-- ==== Sys2Proof/Machine/Bpm.lean ====
section
/-! DEFINITION. The buffer pool manager (R368 to R378, R389): free lists in memory, owners, and the operations on a pool. -/

namespace Sys2Proof.Machine

/-! ### Pools -/

/-- A pool beside its objects. -/
def State.pool (s : State) (p : Nat) : PoolSt := KMap.get s.pools PoolSt.init p
/-- Writes it. -/
def State.setPool (s : State) (p : Nat) (x : PoolSt) : State := { s with pools := KMap.set s.pools PoolSt.init p x }
/-- The owner of a buffer (R373). -/
def State.ownerOf (s : State) (p b : Nat) : Nat := KMap.get s.owners 0 (2 ^ 23 * p + b)
/-- Names the owner of a buffer. -/
def State.setOwner (s : State) (p b o : Nat) : State := { s with owners := KMap.set s.owners 0 (2 ^ 23 * p + b) o }

/-- LOCATION (R369). -/
def State.poolLoc (s : State) (p : Nat) : Nat := s.fld Obj.poolConfig p 0 2
/-- SIZE in bytes. -/
def State.poolSize (s : State) (p : Nat) : Nat := 32 * s.fld Obj.poolConfig p 8 11
/-- COUNT. -/
def State.poolCount (s : State) (p : Nat) : Nat := s.fld Obj.poolConfig p 32 32
/-- BASE. -/
def State.poolBase (s : State) (p : Nat) : Nat := s.fld Obj.poolConfig p 64 44
/-- The state of a pool (R389): 0 DISABLED, 1 NORMAL, 2 SKIM, 3 CRUST, 4 DRY, 5 BROKEN, 6 INITIALISING. -/
def State.poolState (s : State) (p : Nat) : Nat := s.fld Obj.poolState p 0 3
/-- FREE. -/
def State.poolFree (s : State) (p : Nat) : Nat := s.fld Obj.poolState p 32 32
/-- Buffers held by owners. -/
def State.poolHeld (s : State) (p : Nat) : Nat := s.fld Obj.poolState p 64 32

/-- The offset of a buffer. -/
def State.bufAt (s : State) (p b : Nat) : Nat := s.poolBase p + b * s.poolSize p

/-- Reads bytes of a pool's place (R368). -/
def State.poolRead (s : State) (p off n : Nat) : List Byte :=
  if s.poolLoc p = 0 then s.memRead spaceArena off n else s.load (s.poolLoc p - 1) off n

/-- Writes bytes of a pool's place. -/
def State.poolWrite (s : State) (p off : Nat) (bs : List Byte) : State :=
  if s.poolLoc p = 0 then s.memWrite spaceArena off bs else s.store (s.poolLoc p - 1) off bs

/-- The end-of-list value of NEXT (R370). -/
def endOfList : Nat := 0xFFFFFFFF

/-- The link word of a free buffer (R370). -/
def State.linkWord (s : State) (p : Nat) (next : Option Nat) : Nat :=
  next.getD endOfList + p * 2 ^ 32 + 0xB7 * 2 ^ 40 + (s.pool p).inits % 2 ^ 16 * 2 ^ 48

/-- Counts a pool event (R389): field `k` of POOL_COUNTS. -/
def State.poolCountUp (s : State) (p k n : Nat) : State := s.inc Obj.poolCounts p (64 * k) 64 n

/-- Enters a state: on the way in the flag of R377 is set and the entry counted. -/
def State.poolEnter (s : State) (p st : Nat) : State :=
  if s.poolState p = st then s
  else
    let s := s.wrFld Obj.poolState p 0 3 st
    let flag (k : Nat) (s : State) : State := s.wrFld Obj.poolFlags p k 1 1
    let x := s.pool p
    if st = 2 then flag 0 (s.setPool p { x with skims := x.skims + 1 })
    else if st = 3 then (flag 1 s).poolCountUp p 7 1
    else if st = 4 then flag 2 (s.setPool p { x with dries := x.dries + 1 })
    else if st = 5 then flag 3 s else s

/-- Evaluates the state of an enabled pool from FREE (R377). -/
def State.poolNote (s : State) (p : Nat) : State :=
  let free := s.poolFree p
  let skim := s.fld Obj.poolConfig p 128 32
  let crust := s.fld Obj.poolConfig p 160 32
  let relief := s.fld Obj.poolConfig p 192 32
  let flag := decide (free ≤ crust) || ((s.pool p).crust && decide (free ≤ crust + relief))
  let s := s.setPool p { s.pool p with crust := flag }
  let s := if free < s.fld Obj.poolState p 96 32 then s.wrFld Obj.poolState p 96 32 free else s
  s.poolEnter p (if free = 0 then 4 else if flag then 3 else if free ≤ skim then 2 else 1)

/-- Sets FREE and the buffers held. -/
def State.poolSet (s : State) (p free held : Nat) : State :=
  (s.wrFld Obj.poolState p 32 32 free).wrFld Obj.poolState p 64 32 held

/-- Pushes a buffer onto the head of the free list (R370). -/
def State.pushBuf (s : State) (p b : Nat) : State :=
  let s := s.poolWrite p (s.bufAt p b) (leBytes 8 (s.linkWord p (s.pool p).head))
  s.setPool p { s.pool p with head := some b }

/-- Whether the link word of the buffer at the head is good (R371): pool number, tag and GEN match, and NEXT is as it must
be; bits [39:38] are not looked at. -/
def State.linkGood (s : State) (p b : Nat) : Bool :=
  let w := leCode (s.poolRead p (s.bufAt p b) 8)
  let own := s.linkWord p none
  let next := bits w 0 32
  decide (bits w 32 6 = bits own 32 6) && decide (bits w 40 24 = bits own 40 24)
    && (if s.poolFree p = 1 then next == endOfList else decide (next < s.poolCount p) && s.ownerOf p next == 0)

/-- Pops the buffer at the head for an owner (R370, R371): none where its link word is bad. The bytes behind the link word
are undefined: free values. -/
def State.popBuf (s : State) (p owner : Nat) : Option (Nat × State) :=
  match (s.pool p).head with
  | none => none
  | some b =>
    if !s.linkGood p b then none
    else
      let next := bits (leCode (s.poolRead p (s.bufAt p b) 8)) 0 32
      let rest := (List.range (s.poolSize p - 8)).map fun k => BitVec.ofNat 8 (s.draw k)
      let s := (s.poolWrite p (s.bufAt p b + 8) rest).drawn
      let s := s.setPool p { s.pool p with head := if next = endOfList then none else some next }
      some (b, (s.setOwner p b owner).poolSet p (s.poolFree p - 1) (s.poolHeld p + 1))

/-- A pop has failed (R371): the state before the operation stands, but the pool is BROKEN. -/
def State.poolBreaks (s : State) (p : Nat) : State := s.poolEnter p 5

/-- Pops `n` buffers; none where one fails. -/
def popMany (p owner : Nat) : Nat → List Nat → State → Option (List Nat × State)
  | 0, got, s => some (got.reverse, s)
  | n + 1, got, s =>
    match s.popBuf p owner with
    | some (b, s) => popMany p owner n (b :: got) s
    | none => none

/-- POOL_CMD codes (R389). -/
def poolDone : Nat := 1
/-- CRUST. -/
def poolCrust : Nat := 2
/-- DRY. -/
def poolDry : Nat := 3
/-- NOT_OWNER. -/
def poolNotOwner : Nat := 4
/-- RANGE. -/
def poolRange : Nat := 5
/-- Refused (state). -/
def poolRefused : Nat := 6
/-- BROKEN. -/
def poolBroken : Nat := 7
/-- CONFIG. -/
def poolConfigBad : Nat := 8

/-- The answer of an operation: its status, the buffers handed out, and the state. -/
structure PoolAns where
  code : Nat
  bufs : List Nat
  state : State

/-- The status of an operation on a pool that serves none (R371, R372): none where it serves. -/
def State.poolClosed (s : State) (p : Nat) : Option Nat :=
  if 64 ≤ p then some poolRange
  else match s.poolState p with
    | 0 => some poolRefused
    | 5 => some poolBroken
    | 6 => some poolRefused
    | _ => none

/-- The places of the link words that `n` pops read, from buffer `b` on (R370). -/
def State.linkRanges (s : State) (p : Nat) : Nat → Option Nat → List (Nat × Nat × Nat)
  | 0, _ => []
  | _ + 1, none => []
  | n + 1, some b =>
    let next := bits (leCode (s.poolRead p (s.bufAt p b) 8)) 0 32
    (if s.poolLoc p = 0 then spaceArena else s.poolLoc p - 1, s.bufAt p b, 8)
      :: s.linkRanges p n (if next < s.poolCount p then some next else none)

/-- Pops for RESERVE or ALLOC; `field` is the count that rises (R389). `ecc` is the outcome of the codes on the reads of the
link words, one after the other (R368): where one cannot be corrected the module is scratched, and nothing is handed out (log
entry 77). -/
def State.poolTake (s : State) (p owner n field : Nat) (ecc : Ecc) : PoolAns :=
  match eccRanges (s.linkRanges p n (s.pool p).head) ecc s with
  | (false, s) => ⟨poolRefused, [], s⟩
  | (true, s) =>
    match popMany p owner n [] s with
    | none => ⟨poolBroken, [], s.poolBreaks p⟩
    | some (bs, s) => ⟨poolDone, bs, (s.poolCountUp p field n).poolNote p⟩

/-- RESERVE n (R374). -/
def State.poolReserve (s : State) (p owner n : Nat) (ecc : Ecc) : PoolAns :=
  match s.poolClosed p with
  | some c => ⟨c, [], s⟩
  | none => if s.poolFree p < n then ⟨poolDry, [], s.poolCountUp p 4 1⟩ else s.poolTake p owner n 2 ecc

/-- ALLOC (R374): `high` is its priority. -/
def State.poolAlloc (s : State) (p owner : Nat) (high : Bool) (ecc : Ecc) : PoolAns :=
  match s.poolClosed p with
  | some c => ⟨c, [], s⟩
  | none =>
    if s.poolFree p = 0 then ⟨poolDry, [], s.poolCountUp p 4 1⟩
    else if !high && s.poolState p == 3 then ⟨poolCrust, [], s.poolCountUp p 3 1⟩
    else s.poolTake p owner 1 0 ecc

/-- A rejection of R375: counted apart for a buffer that is already free, and recorded. -/
def State.poolReject (s : State) (p b caller : Nat) : State :=
  let o := s.ownerOf p b
  (s.poolCountUp p (if o = 0 then 6 else 5) 1).wr Obj.poolReject p
    (b + caller * 2 ^ 32 + o * 2 ^ 48 + (s.now % 2 ^ 64) * 2 ^ 64)

/-- FREE b (R374, R375); a BROKEN pool records it without linking the buffer (R371). -/
def State.poolFreeBuf (s : State) (p caller b : Nat) : PoolAns :=
  let closed := if p < 64 ∧ s.poolState p = 5 then none else s.poolClosed p
  match closed with
  | some c => ⟨c, [], s⟩
  | none =>
    if s.poolCount p ≤ b then ⟨poolRange, [], s⟩
    else if s.ownerOf p b ≠ caller ∨ caller = 0 then ⟨poolNotOwner, [], s.poolReject p b caller⟩
    else
      let s := (s.setOwner p b 0).poolCountUp p 1 1
      if s.poolState p = 5 then ⟨poolDone, [], s.poolSet p (s.poolFree p) (s.poolHeld p - 1)⟩
      else ⟨poolDone, [], ((s.pushBuf p b).poolSet p (s.poolFree p + 1) (s.poolHeld p - 1)).poolNote p⟩

/-- Releases reserved buffers: a FREE of each (R374). -/
def State.poolRelease (s : State) (p owner : Nat) (bs : List Nat) : State :=
  bs.foldl (fun s b => (s.poolFreeBuf p owner b).state) s

/-- Whether an owner name is one of R373 and not NONE. -/
def ownerOk (o : Nat) : Bool :=
  let low := o % 2 ^ 12
  match o / 2 ^ 12 with
  | 1 => decide (low < 256)
  | 2 => decide (low < 64)
  | 3 => decide (low < 512)
  | 4 => low == 0
  | _ => false

/-- HANDOVER b to o (R374, R375). A buffer at or above COUNT has no owner, so the caller is not its owner (R374 gives
RANGE to FREE alone). -/
def State.poolHandover (s : State) (p caller b o : Nat) : PoolAns :=
  match s.poolClosed p with
  | some c => ⟨c, [], s⟩
  | none =>
    if s.poolCount p ≤ b ∨ s.ownerOf p b ≠ caller ∨ caller = 0 then ⟨poolNotOwner, [], s.poolReject p b caller⟩
    else if !ownerOk o then ⟨poolConfigBad, [], s⟩
    else ⟨poolDone, [], s.setOwner p b o⟩

/-- The owner name of the host (R373). -/
def ownerHost : Nat := 0x4000
/-- The owner name of an SU program slot. -/
def ownerSlot (slot : Nat) : Nat := 0x1000 + slot
/-- The owner name of a CLE context. -/
def ownerCtx (c : Nat) : Nat := 0x2000 + c
/-- The owner name of a queue pair. -/
def ownerQp (q : Nat) : Nat := 0x3000 + q

/-- Leaves an operation's answer in 7 POOL_CMD where the host asked (R389). -/
def PoolAns.finish (a : PoolAns) (caller : Nat) : State :=
  if caller ≠ ownerHost then a.state
  else
    match a.bufs with
    | [b] => a.state.wr Obj.poolCmd 0 (a.code + b * 2 ^ 32)
    | _ => a.state.wrFld Obj.poolCmd 0 0 8 a.code

/-! The operations in BPM cycles (R376): one command is one operation, and each has a BPM cycle of its own. The order in which
operations of several callers reach the BPM, and in which of its cycles, no caller can tell (R376); what reaches it in one
cycle comes in the order of R376's list. DESIGN CHOICE, log entry 91. -/

/-- RESERVE (R374): an operation of the caller `owner` that reaches the BPM. -/
def execBpmReserve (owner pool n : Nat) (ecc : Ecc) (s : State) : Res := .next ((s.poolReserve pool owner n ecc).finish owner)
/-- ALLOC_HIGH (R374). -/
def execBpmAllocHigh (owner pool : Nat) (ecc : Ecc) (s : State) : Res := .next ((s.poolAlloc pool owner true ecc).finish owner)
/-- ALLOC_LOW (R374, R378). -/
def execBpmAllocLow (owner pool : Nat) (ecc : Ecc) (s : State) : Res := .next ((s.poolAlloc pool owner false ecc).finish owner)
/-- HANDOVER (R374). -/
def execBpmHandover (owner pool buffer taker : Nat) (s : State) : Res :=
  .next ((s.poolHandover pool owner buffer taker).finish owner)
/-- FREE (R374, R375). -/
def execBpmFree (owner pool buffer : Nat) (s : State) : Res := .next ((s.poolFreeBuf pool owner buffer).finish owner)

/-- The bytes of a pool's range. -/
def State.poolBytes (s : State) (p : Nat) : Nat := s.poolCount p * s.poolSize p

/-- Whether two pools' ranges overlap (R372). -/
def State.poolsOverlap (s : State) (p q : Nat) : Bool :=
  s.poolLoc p == s.poolLoc q && decide (s.poolBase p < s.poolBase q + s.poolBytes q)
    && decide (s.poolBase q < s.poolBase p + s.poolBytes p)

/-- Whether a pool's configuration may be initialised (R369, R372). -/
def State.poolValid (s : State) (p : Nat) : Bool :=
  let e := s.rd Obj.poolConfig p
  let loc := bits e 0 2
  let size := bits e 8 11
  let count := bits e 32 32
  let base := bits e 64 44
  let skim := bits e 128 32
  let crust := bits e 160 32
  let relief := bits e 192 32
  let others := (List.range 64).filter fun q => q != p && s.poolState q != 0
  let total := (others.map s.poolCount).sum + count
  bits e 2 6 == 0 && bits e 19 13 == 0 && bits e 108 20 == 0 && bits e 224 32 == 0
    && loc != 3 && decide (8 ≤ size) && decide (size ≤ 2048) && decide (1 ≤ count) && decide (count ≤ 4194304)
    && base % 32 == 0 && decide (1 ≤ relief) && decide (crust < skim) && decide (skim ≤ count) && decide (crust + relief ≤ count)
    && (if loc = 0 then decide (base + s.poolBytes p ≤ 2 ^ 28) else s.mapped (loc - 1) base (s.poolBytes p))
    && !(others.any (s.poolsOverlap p)) && decide (total ≤ 4194304)

/-- POOL_INIT (R372): INIT on A000.03 of a DISABLED pool; the pool reads INITIALISING until its list is built. -/
def execPoolInit (pool : Nat) (s : State) : Res :=
  if 64 ≤ pool then .next s
  else if s.poolState pool ≠ 0 then .next (s.wrFld Obj.poolCmd 0 0 8 poolRefused)
  else if !s.poolValid pool then .next (s.wrFld Obj.poolCmd 0 0 8 poolConfigBad)
  else
    let n := (s.pool pool).inits + 1
    let s := s.setPool pool { PoolSt.init with inits := n }
    .next ((s.wr Obj.poolState pool (6 + n % 2 ^ 16 * 2 ^ 128)).wrFld Obj.poolCmd 0 0 8 poolDone)

/-- POOL_INIT_DONE (R372): every link word is written in ascending index, buffer 0 the head; every owner is NONE; FREE is
COUNT, and the counts of A000.05 start anew. INIT leaves POOL_FLAGS as it stands (R389), also where the state for FREE = COUNT
is SKIM. -/
def execPoolInitDone (pool : Nat) (s : State) : Res :=
  if 64 ≤ pool then .fault .noSuchUnit
  else if s.poolState pool ≠ 6 then .next s
  else
    let n := s.poolCount pool
    let link (k : Nat) (s : State) : State :=
      s.poolWrite pool (s.bufAt pool k) (leBytes 8 (s.linkWord pool (if k + 1 < n then some (k + 1) else none)))
    let s := foldUp link 0 n s
    let s := { s with owners := s.owners.filter fun q => q.1 / 2 ^ 23 != pool }
    let s := (s.setPool pool { s.pool pool with head := some 0, crust := false }).poolSet pool n 0
    let s := (s.wrFld Obj.poolState pool 96 32 n).wr Obj.poolCounts pool 0
    .next ((s.poolNote pool).wr Obj.poolFlags pool (s.rd Obj.poolFlags pool))

/-- POOL_DISABLE (R389): refused with status 6 while owners hold buffers, or while the pool initialises. -/
def execPoolDisable (pool : Nat) (s : State) : Res :=
  if 64 ≤ pool then .next s
  else if s.poolHeld pool ≠ 0 ∨ s.poolState pool = 6 then .next (s.wrFld Obj.poolCmd 0 0 8 poolRefused)
  else
    let s := s.setPool pool { s.pool pool with head := none, crust := false }
    .next (((s.wrFld Obj.poolState pool 0 3 0).wrFld Obj.poolState pool 32 32 0).wrFld Obj.poolCmd 0 0 8 poolDone)

/-- OWNER_QUERY (R389): a write to A000.07. -/
def execOwnerQuery (value : Nat) (s : State) : Res :=
  let p := bits value 0 6
  let b := bits value 32 32
  if 2 ^ 64 ≤ value ∨ bits value 6 26 ≠ 0 then .next s
  else if s.poolState p = 0 then .next (s.wr Obj.ownerQuery 0 (2 * 2 ^ 16))
  else if s.poolCount p ≤ b then .next (s.wr Obj.ownerQuery 0 (1 * 2 ^ 16))
  else .next (s.wr Obj.ownerQuery 0 (s.ownerOf p b))

end Sys2Proof.Machine
end

