-- ==== Sys2Proof/Machine/Guard.lean ====
section
/-! DEFINITION. Guard groups (R208 to R216, R332, R464): activation and deactivation with the ranges of R213, the deltas
and completion of a store, quiescing, roll forward, decoding of stripes, and a group that becomes void. -/

namespace Sys2Proof.Machine

/-! ### The ranges of R213 -/

/-- The delta log range and the Guard park range, as region 0 offsets with lengths (R213). -/
def State.guardRangeList (s : State) : List (Nat × Nat) :=
  [(s.partition 0 - guardTop 0, guardTop 0), (2 ^ 38 + s.partition 1 - guardTop 1, guardTop 1)]

/-- Whether a range of a region meets one of the two ranges. -/
def State.meetsGuardRanges (s : State) (region off len : Nat) : Bool :=
  region == 0 && s.guardRangeList.any fun p => decide (off < p.1 + p.2) && decide (p.1 < off + len)

/-- Whether a pool that is not DISABLED lies in the ranges (R369, R213). -/
def State.poolsMeetGuard (s : State) : Bool :=
  (List.range 64).any fun p =>
    let d := s.rd Obj.poolConfig p
    s.fld Obj.poolState p 0 3 != 0 && bits d 0 2 == 1
      && s.meetsGuardRanges 0 (bits d 64 44) (bits d 8 11 * 32 * bits d 32 32)

/-- Whether a VALID access window lies in the ranges (R438, R213). -/
def State.windowsMeetGuard (s : State) : Bool :=
  (List.range 256).any fun w =>
    let d := s.rd Obj.accessWindow w
    d.testBit 0 && s.meetsGuardRanges (bits d 108 4) (bits d 64 44) (bits d 128 64)

/-- Whether a valid redirect's target, or that of a copy in progress, lies in the ranges (R181, R213). -/
def State.redirectsMeetGuard (s : State) : Bool :=
  ((List.range 12).any fun c =>
    let d := s.rd Obj.redirect c
    d.testBit 0 && s.meetsGuardRanges (bits d 108 4) (bits d 64 44) (bits d 32 32 * 4096))
  || (match s.dimmCopy with
    | some k => s.meetsGuardRanges (bits k.target 44 4) (bits k.target 0 44) (k.len * 4096)
    | none => false)

/-- Whether the stream of a running core lies in the ranges (R213). The launch descriptor was read at launch, and the
core's own state keeps what it held; its place is the one the launch named. -/
def State.coresMeetGuard (s : State) : Bool :=
  (List.range 96).any fun n =>
    s.coreLive n && (s.meetsGuardRanges 0 (s.core n).streamAddr ((s.core n).streamLen * 16)
      || s.meetsGuardRanges 0 (s.core n).descAddr 64)

/-- The bytes of a parity member's check table (R464). -/
def State.checkTableLen (s : State) (i : Nat) : Nat :=
  if s.guardSelf i < s.guardK i then 0 else ceilDiv (4 * s.fld Obj.guardDesc i 128 32 * s.guardK i) 4096 * 4096

/-- Whether a Guard range of any descriptor in use, its check table included, lies in the ranges. -/
def State.descsMeetGuard (s : State) (entry : Nat) : Bool :=
  (List.range 64).any fun i =>
    let d := s.rd Obj.guardDesc i
    (i == entry || s.rd Obj.guardState i != 0)
      && s.meetsGuardRanges (bits d 16 4) (bits d 64 44) (4096 * bits d 128 32 + s.checkTableLen i)

/-- Whether some descriptor is ACTIVE, QUIESCING or REBUILDING. -/
def State.guardInUse (s : State) : Bool :=
  (List.range 64).any fun i => decide (1 ≤ s.rd Obj.guardState i) && decide (s.rd Obj.guardState i ≤ 3)

/-- The last descriptor has left use: the ranges are to be filled with zeros and mapped again at the end of the fill
(R213). -/
def State.guardRelease (s : State) : State :=
  if s.guardRanges = .held ∧ !s.guardInUse then { s with guardRanges := .releasing } else s

/-! ### Activation -/

/-- Whether the members of a descriptor are distinct device IDs, the entries above K + 1 are 0, and this module is the
member it says it is (R208, R217). -/
def State.membersOk (s : State) (i : Nat) : Bool :=
  let ms := (List.range (s.guardK i + 2)).map (s.guardMember i)
  decide ms.Nodup && ms.all (fun m => decide (m < 0x1000)) && s.guardMember i (s.guardSelf i) == s.devId
    && bits (s.rd Obj.guardDesc i) (192 + 16 * (s.guardK i + 2)) (256 - 16 * (s.guardK i + 2)) == 0

/-- The contexts that the parity descriptors in use, and this one, need: one for each data member (R212; log entry 20). -/
def State.guardContexts (s : State) (entry : Nat) : Nat :=
  ((List.range 64).map fun i =>
    if (i = entry ∨ (1 ≤ s.rd Obj.guardState i ∧ s.rd Obj.guardState i ≤ 3)) ∧ s.guardK i ≤ s.guardSelf i then s.guardK i else 0).sum

/-- The checks of ACTIVATE (R217, R213, R464). -/
def State.guardDescOk (s : State) (i : Nat) : Bool :=
  let d := s.rd Obj.guardDesc i
  let k := s.guardK i
  let len := 4096 * bits d 128 32
  d.testBit 0 && bits d 1 7 == 0 && bits d 48 16 == 0 && bits d 108 20 == 0 && bits d 160 32 == 0 && bits d 448 64 == 0
    && decide (1 ≤ k) && decide (k ≤ 14) && decide (s.guardSelf i ≤ k + 1) && decide (s.guardRegion i < 2)
    && s.guardBase i % 4096 == 0 && len != 0
    && s.mapped (s.guardRegion i) (s.guardBase i) (len + s.checkTableLen i) && s.membersOk i
    && decide (s.guardContexts i ≤ 256)
    && (s.guardInUse || !(s.poolsMeetGuard || s.windowsMeetGuard || s.redirectsMeetGuard || s.coresMeetGuard || s.descsMeetGuard i))

/-- The ranges are taken (R213): a fill that would release them ends. -/
def State.guardTake (s : State) : State :=
  { s with guardRanges := .held, scanJobs := s.scanJobs.filter fun j => j.owner != .guardFill }

/-- GUARD_ACTIVATE (R213, R217): action 0x01 of 4400.03. -/
def execGuardActivate (entry : Nat) (s : State) : Res :=
  if !s.hasCompute || 64 ≤ entry then .next s
  else
    let st := s.rd Obj.guardState entry
    if st ≠ 0 ∧ st ≠ 4 then .next (s.wr Obj.guardCmd 0 3)
    else if !s.guardDescOk entry then .next (s.wr Obj.guardCmd 0 2)
    else .next ((((s.wr Obj.guardState entry 1).setGuard entry GuardSt.init).guardTake.guardSync entry).wr Obj.guardCmd 0 1)

/-- Whether a delta of a descriptor is open: a store of a data member not completed, a log entry of a parity member. -/
def State.openDelta (s : State) (i : Nat) : Bool :=
  s.dstSts.any fun p =>
    (match p.2.store with | some g => g.desc == i | none => false) || p.2.log.any fun x => x.desc == i

/-- GUARD_DEACTIVATE (R217, R213): action 0x02 of 4400.03. -/
def execGuardDeactivate (entry : Nat) (s : State) : Res :=
  if !s.hasCompute || 64 ≤ entry then .next s
  else if s.rd Obj.guardState entry ≠ 1 ∨ s.openDelta entry then .next (s.wr Obj.guardCmd 0 3)
  else .next (((s.wr Obj.guardState entry 0).setGuard entry GuardSt.init).guardRelease.wr Obj.guardCmd 0 1)

/-! ### A store at its data member -/

/-- A request of this module's GMU on GSTREAM to a member. The address of the target is the member's own BASE, which the
spec does not let this member know: a free value (log entry 21). -/
def State.guardReq (s : State) (i member : Nat) (owner : ReqOwner) (op wid : Nat) (payload : List Byte) : GReq :=
  let stream := s.guardStream i
  { owner := owner, op := op, addr := s.guardMember i member * 2 ^ 48 + s.draw member % 2 ^ 48, len := max 1 payload.length,
    aop := 0, atype := 0, opnd := wid, ord := true, stream := stream, release := false, tc := 0, tm := 0,
    payload := payload, slice := stream % 8, tag := 0, entry := 0, seq := 0, gen := 0, first := 0, last := 0, cut := false }

/-- Appends requests to those that wait to be sent. -/
def State.enqueue (s : State) (rs : List GReq) : State := ({ s with waiting := s.waiting ++ rs }).drawn

/-- The deltas of a store, formed by the Guard program (R211 steps 2 and 3, R331): PDELTA to both parity members. -/
def State.guardDeltas (s : State) (ctx : Nat) : State :=
  let d := s.dst ctx
  match d.store with
  | none => s
  | some g =>
    let k := s.guardK g.desc
    let delta := xorBytes g.old (fitBytes g.old.length g.frame.payload)
    let weighted := gfScale (gfPow (s.guardSelf g.desc)) delta
    let s := s.setDst ctx { d with store := some { g with phase := 2 } }
    let id := g.desc * 2 ^ 32 + g.wid
    (s.enqueue [s.guardReq g.desc k (.guard ctx 0 id) 6 g.wid delta,
      s.guardReq g.desc (k + 1) (.guard ctx 1 id) 6 g.wid weighted]).pump

/-- Whether a parity member has a log entry for one more store on GSTREAM of a descriptor (R212): fewer than 16 stores of the
groups on that stream are open, from their PDELTA to the answers to their PCLOSE. -/
def State.deltaRoom (s : State) (i : Nat) : Bool :=
  let stores := s.dstSts.filter fun x => match x.2.store with
    | some g => decide (2 ≤ g.phase) && s.guardStream g.desc == s.guardStream i
    | none => false
  let closing := (s.guards.map fun x => if s.guardStream x.1 = s.guardStream i then (x.2.closes + 1) / 2 else 0).sum
  decide (stores.length + closing < 16)

/-- The next store that waits for a stripe begins (R211), unless the group is QUIESCING (R214). -/
def State.nextStore (s : State) (desc stripe : Nat) : State :=
  match s.dstSts.find? (fun p => match p.2.store with
      | some g => g.desc == desc && g.stripe == stripe && g.phase == 0
      | none => false) with
  | some (_, d) =>
    match d.store with
    | some g => s.guardBegin g.frame g.ecc desc
    | none => s
  | none => s

/-- The stores of a group that no store of their stripe holds begin (R214: they resume while the group is REBUILDING). -/
def State.startStores (s : State) (i : Nat) : State :=
  s.dstSts.foldl (fun s x => match x.2.store with
    | some g => if g.desc = i ∧ g.phase = 0 then s.guardBegin g.frame g.ecc i else s
    | none => s) s

/-- GUARD_PARITY_REPLIED (R211 steps 4 to 6, P6): the store of context `ctx` has both replies. The new bytes are written,
the requester is answered, and PCLOSE goes to both parity members. A store whose delta was answered with another status
ends with that status and writes nothing (log entry 22). -/
def execGuardParityReplied (ctx : Nat) (s : State) : Res :=
  if 4096 ≤ ctx || s.scratched then .next s
  else
    match (s.dst ctx).store with
    | none => .next s
    | some g =>
      if g.phase ≠ 3 then .next s
      else
        let done (s : State) : State := ((s.nextStore g.desc g.stripe).releaseWaiting).pump.quietTold
        match g.failed with
        | some st => .next (done (s.finishOrdered g.frame st []))
        | none =>
          let k := s.guardK g.desc
          let s := s.memStore g.frame.region g.frame.off (fitBytes g.frame.len g.frame.payload)
          let s := s.finishOrdered g.frame 0 []
          let st := s.guard g.desc
          let s := s.setGuard g.desc { st with closes := st.closes + 2 }
          let s := s.enqueue [s.guardReq g.desc k (.close g.desc) 7 g.wid [], s.guardReq g.desc (k + 1) (.close g.desc) 7 g.wid []]
          .next (done s)

/-! ### Loss of a member -/

/-- A group becomes VOID (R216): held stores end with VOID. -/
def State.guardVoid (s : State) (i : Nat) : State :=
  let s := s.wr Obj.guardState i 4
  let s := s.dstSts.foldl (fun s p => match p.2.store with
    | some g => if g.desc = i then s.finishOrdered g.frame 0x09 [] else s
    | none => s) s
  s.guardRelease.releaseWaiting

/-- A group loses the member that holds a symbol: QUIESCING, or VOID where it is the third that is not rebuilt (R214 to
R216). The loss of the spare that rebuilds a symbol is settled in the same way (R215). The fence of GSTREAM goes to the
parity members that are left. -/
def State.guardLose (s : State) (i j : Nat) : State :=
  let g := s.guard i
  let st := s.rd Obj.guardState i
  if st = 0 ∨ st = 4 ∨ (g.lost.contains j ∧ st = 2) then s
  else if 2 ≤ g.lost.length ∧ !g.lost.contains j then s.guardVoid i
  else
    let k := s.guardK i
    let lost := if g.lost.contains j then g.lost else j :: g.lost
    let s := (s.setGuard i { g with lost := lost, trial := none }).wr Obj.guardState i 2
    if k ≤ s.guardSelf i then s
    else
      let fences := ([k, k + 1].filter fun m => !lost.contains m).map fun m => s.guardReq i m (.quiet i) 4 0 []
      (s.enqueue fences).pump

/-- The open deltas of lost data members leave the logs of their contexts: this parity member holds them while it rolls them
forward (R215). -/
def State.takeOpen (s : State) (i : Nat) : State :=
  let g := s.guard i
  let mine (x : DeltaEntry) : Bool := x.desc == i && g.lost.contains x.symbol
  let found := s.dstSts.flatMap fun p => p.2.log.filter mine
  let s := (s.dstSts.filter fun p => p.2.log.any mine).foldl (fun s p =>
    let log := p.2.log.filter fun x => !mine x
    (s.setDst p.1 { s.dst p.1 with log := log }).wrFld Obj.dstStreams p.1 72 5 log.length) s
  s.setGuard i { g with rolled := g.rolled ++ found }

/-- Rolls the open deltas of the lost data members forward (R215): this parity member sends each to the other one, in the
other one's weight, and then a FENCE with RELEASE, so that the stream is free for the rank's spare (log entry 83). -/
def State.rollForward (s : State) (i : Nat) : State :=
  let k := s.guardK i
  let self := s.guardSelf i
  if self < k then s
  else
    let s := s.takeOpen i
    let lost := (s.guard i).lost
    if lost.contains (if self = k then k + 1 else k) then s
    else
      let other := if self = k then k + 1 else k
      let entries := (s.guard i).rolled.filter fun x => lost.contains x.symbol
      let req (x : DeltaEntry) : GReq :=
        let c := if self = k then gfPow x.symbol else gfInv (gfPow x.symbol)
        s.guardReq i other (.roll i) 6 x.wid (gfScale c x.payload)
      let fence := { s.guardReq i other (.roll i) 4 0 [] with release := true }
      if entries.isEmpty then s else (s.enqueue (entries.map req ++ [fence])).pump

/-- GUARD_QUIET (R214, R215): every survivor of a QUIESCING group is quiet, this one too, and the group becomes
REBUILDING; a group of a VACANT rank stays QUIESCING (R463). Open deltas of a lost data member are rolled forward; what waited on the group goes on. -/
def execGuardQuiet (entry : Nat) (s : State) : Res :=
  if 64 ≤ entry || s.scratched || s.rd Obj.guardState entry != 2 || (s.guard entry).vacant || !s.memberQuiet entry then .next s
  else .next ((((s.wr Obj.guardState entry 3).rollForward entry).startStores entry).releaseWaiting)

/-! ### Decoding a stripe -/

/-- The symbol with an index among those read. -/
def symbolOf (known : List (Nat × List Byte)) (j : Nat) : Option (List Byte) :=
  (known.find? fun p => p.1 == j).map fun p => fitBytes 4096 p.2

/-- The XOR of byte lists of 4,096 bytes. -/
def xorAll (l : List (List Byte)) : List Byte := l.foldl xorBytes (List.replicate 4096 0)

/-- The weighted sum of data symbols. -/
def weightedSum (l : List (Nat × List Byte)) : List Byte := xorAll (l.map fun p => gfScale (gfPow p.1) p.2)

/-- The data symbols of a stripe from k known symbols (R332), none where they do not determine it. -/
def decodeStripe (k : Nat) (known : List (Nat × List Byte)) : Option (List (Nat × List Byte)) :=
  let have_ := (List.range k).filterMap fun j => (symbolOf known j).map fun d => (j, d)
  let missing := (List.range k).filter fun j => (symbolOf known j).isNone
  let s0 := (symbolOf known k).map fun p => xorBytes p (xorAll (have_.map (·.2)))
  let s1 := (symbolOf known (k + 1)).map fun q => xorBytes q (weightedSum have_)
  match missing with
  | [] => some have_
  | [j] =>
    match s0, s1 with
    | some a, _ => some ((j, a) :: have_)
    | none, some b => some ((j, gfScale (gfInv (gfPow j)) b) :: have_)
    | none, none => none
  | [i, j] =>
    match s0, s1 with
    | some a, some b =>
      let di := gfScale (gfInv ((gfPow i) ^^^ (gfPow j))) (xorBytes b (gfScale (gfPow j) a))
      some ((i, di) :: (j, xorBytes a di) :: have_)
    | _, _ => none
  | _ => none

/-- One symbol of a stripe from its data symbols (R210). -/
def symbolFrom (k self : Nat) (data : List (Nat × List Byte)) : List Byte :=
  if self < k then (symbolOf data self).getD (List.replicate 4096 0)
  else if self = k then xorAll (data.map (·.2)) else weightedSum data

/-- Writes this member's symbol of a stripe, and at a parity member the stripe's check entries (R464, R465). -/
def State.putSymbol (s : State) (i stripe : Nat) (data : List (Nat × List Byte)) : State :=
  let k := s.guardK i
  let self := s.guardSelf i
  let s := s.memStore (s.guardRegion i) (s.guardBase i + 4096 * stripe) (symbolFrom k self data)
  if self < k then s
  else (List.range k).foldl (fun s j =>
    s.memStore (s.guardRegion i) (s.checkTable i + 4 * (stripe * k + j))
      (leBytes 4 (crcRaw ((symbolOf data j).getD [])))) s

/-- A stripe is rebuilt. -/
def State.markStripe (s : State) (i stripe : Nat) : State :=
  s.setGuard i { s.guard i with done := stripe :: (s.guard i).done }

/-- Whether symbols are a valid set of survivors for a rebuild here: distinct members that are not lost, at least k. -/
def State.survivorsOk (s : State) (i : Nat) (known : List (Nat × List Byte)) : Bool :=
  decide (known.map (·.1)).Nodup && decide (s.guardK i ≤ known.length)
    && known.all fun p => decide (p.1 ≤ s.guardK i + 1) && p.1 != s.guardSelf i && !(s.guard i).lost.contains p.1

/-- STRIPE_DEMAND_REBUILD (R215, R332): the spare decodes a stripe that something waits for, from the surviving symbols it
has read, and then serves what waited. -/
def execStripeDemandRebuild (entry stripe : Nat) (symbols : List (Nat × List Byte)) (s : State) : Res :=
  if 64 ≤ entry || s.scratched || s.rd Obj.guardState entry != 3 || !(s.guard entry).missing
      || (s.guard entry).done.contains stripe || decide (s.fld Obj.guardDesc entry 128 32 ≤ stripe)
      || !s.survivorsOk entry symbols then .next s
  else
    match decodeStripe (s.guardK entry) symbols with
    | none => .next s
    | some data =>
      .next ((((s.putSymbol entry stripe data).markStripe entry stripe).inc Obj.guardRebuild entry 0 32 1).releaseWaiting)

end Sys2Proof.Machine
end

