-- ==== Sys2Proof/Machine/Su.lean ====
section
/-! DEFINITION. Stream units (R305 to R313, R331): delivery, runs, programs and bindings. The instructions are in Ecmel.lean. -/

namespace Sys2Proof.Machine

/-! ### Units and slots -/

/-- A stream unit. -/
def State.su (s : State) (u : Nat) : SuSt := KMap.get s.sus SuSt.init u
/-- Writes it. -/
def State.setSu (s : State) (u : Nat) (x : SuSt) : State := { s with sus := KMap.set s.sus SuSt.init u x }

/-- Whether a slot is bound (R334). -/
def State.slotBound (s : State) (slot : Nat) : Bool := s.fld Obj.bindState slot 0 2 == 1
/-- KIND of a binding: 1 DIVERT, 2 MCAST, 3 CLE. -/
def State.slotKind (s : State) (slot : Nat) : Nat := s.fld Obj.bindState slot 2 3
/-- The binding's descriptor. -/
def State.slotDesc (s : State) (slot : Nat) : Nat := s.fld Obj.bindState slot 64 192
/-- The binding's pool. -/
def State.slotPool (s : State) (slot : Nat) : Nat := bits (s.slotDesc slot) 8 6
/-- The baton slots reserved. -/
def State.slotCount (s : State) (slot : Nat) : Nat := bits (s.slotDesc slot) 16 16
/-- The random stream. -/
def State.slotStream (s : State) (slot : Nat) : Nat := bits (s.slotDesc slot) 32 8
/-- BM_BASE. -/
def State.slotBase (s : State) (slot : Nat) : Nat := bits (s.slotDesc slot) 64 24
/-- BM_LEN. -/
def State.slotBmLen (s : State) (slot : Nat) : Nat := bits (s.slotDesc slot) 96 25
/-- Baton slots in use. -/
def State.slotUsed (s : State) (slot : Nat) : Nat := s.fld Obj.bindState slot 16 16
/-- Free baton slots. A CLE binding draws on its context's reservation, which always suffices (R339, R356). -/
def State.slotFree (s : State) (slot : Nat) : Nat :=
  if s.slotKind slot = 3 then 2 ^ 32 else s.slotCount slot - s.slotUsed slot
/-- Changes the baton slots in use. -/
def State.useSlots (s : State) (slot : Nat) (d : Int) : State :=
  s.wrFld Obj.bindState slot 16 16 ((s.slotUsed slot : Int) + d).toNat
/-- The frames that records of a slot hold, by the numbers of their runs (R312). -/
def State.heldRuns (s : State) (slot : Nat) : List Nat :=
  (((s.su (slot / 8)).holds.filter fun h => h.slot == slot).map (·.run)).eraseDups
/-- Brings the count of held frames up to date. -/
def State.noteHeld (s : State) (slot : Nat) : State := s.wrFld Obj.bindState slot 32 16 (s.heldRuns slot).length
/-- Brings the count of open records up to date. -/
def State.noteRecs (s : State) (slot : Nat) : State :=
  s.wrFld Obj.bindState slot 48 16 ((s.su (slot / 8)).recs.filter fun r => r.slot == slot).length

/-- Adds to a count of SU_COUNTS (R335): 0 taken, 1 END, 2 sent, 3 dropped, 4 NO_SLOT, 5 kept, 6 removed, 7 OOR, 8 malformed,
9 UNSORTED, 10 completed, 11 BAD_RANK, 12 MISMATCH, 13 NO_RECORD, 14 saturated, 15 flushed. -/
def State.suCount (s : State) (slot k n : Nat) : State := s.incSat Obj.suCounts slot (64 * k) 64 n

/-! ### Delivery -/

/-- Writes a frame into a free baton slot of a bound slot (R309). -/
def State.suTake (s : State) (slot ingress : Nat) (f : Frame) : State :=
  let size := s.poolSize (s.slotPool slot)
  if s.slotFree slot = 0 ∨ size < 32 + f.plen then s.suCount slot 4 1
  else
    let u := slot / 8
    let s := s.setSu u { s.su u with waiting := (s.su u).waiting ++ [⟨slot, ingress, f⟩] }
    (s.useSlots slot 1).suCount slot 0 1

/-- SU_FRAME_DELIVER (R308, R309): the Track delivers a frame that came in at `ingress` to the SU array. -/
def execSuFrameDeliver (ingress : Nat) (f : Frame) (s : State) : Res :=
  if s.scratched then .next s
  else
    let e := if f.mc then s.rd Obj.mcSuMap (f.dest % 4096)
      else s.rd Obj.divertMap ((if f.bclass = 4 then 4096 else 0) + f.dest % 4096)
    let slot := bits e 0 8
    let kind := if f.mc then 2 else 1
    if e.testBit 15 && s.slotBound slot && s.slotKind slot == kind && (f.bclass == 3 || f.bclass == 4) then
      .next (s.suTake slot ingress f)
    else .next (s.incSat Obj.suUnmapped 0 0 64 1)

/-! ### Runs -/

/-- The SU that runs a Guard store of a context (R331): 4s + (WRITE_ID mod 4), s the slice of its stream. -/
def guardSu (ctx wid : Nat) : Nat := 4 * (ctx % 8) + wid % 4

/-- Whether Guard work waits at an SU (R310). -/
def State.guardWaits (s : State) (u : Nat) : Bool :=
  s.dstSts.any fun p => match p.2.store with
    | some g => g.phase == 1 && guardSu p.1 g.wid == u
    | none => false

/-- Applies what the host has written to the bitmap memory meanwhile (R320); BITMAP_CLEAR reads 1 once its clear is done. -/
def State.bitmapLater (s : State) (u : Nat) : State :=
  let s' := (s.su u).later.foldl (fun s w => match w with
    | none => { s.wr Obj.bitmapClear 0 1 with mem := s.mem.filter fun c => c.1 / 2 ^ 21 != memKey spaceBitmap (u * 2 ^ 21) / 2 ^ 21 }
    | some (off, bs) => s.memWrite spaceBitmap (u * 2 ^ 21 + off) bs) s
  s'.setSu u { s'.su u with later := [] }

/-- A run ends (R312, R316): its baton slot is released unless an RSUM holds the frame; its cycles are counted. `k` is the
count that rises. -/
def State.endRun (s : State) (u : Nat) (r : SuRun) (k : Nat) : State :=
  let s := s.setSu u { s.su u with run := none }
  let s := if (s.su u).holds.any (fun h => h.run == r.id) then s else s.useSlots r.slot (-1)
  ((s.suCount r.slot k 1).incSat Obj.suBusy u 0 64 r.cycles).bitmapLater u

/-- Run fault codes (R333). -/
def suBudget : Nat := 1
/-- RANGE. -/
def suRange : Nat := 2
/-- HEADER. -/
def suHeader : Nat := 3
/-- NO_SLOT. -/
def suNoSlot : Nat := 4
/-- NO_RECORD. -/
def suNoRecord : Nat := 5
/-- BAD_RANK. -/
def suBadRank : Nat := 6
/-- MISMATCH. -/
def suMismatch : Nat := 7

/-- A run faults (R312, R333): it ends as DROP, and the fault is recorded, or counted where a record stands. -/
def State.runFault (s : State) (u : Nat) (r : SuRun) (code : Nat) : State :=
  let s := if s.fld Obj.suFault r.slot 0 8 = 0 then
      s.wr Obj.suFault r.slot (code + (r.pc % 2 ^ 8) * 2 ^ 8 + r.ingress * 2 ^ 16 + (s.now % 2 ^ 64) * 2 ^ 64)
    else s.incSat Obj.suFault r.slot 32 32 1
  let s := if code = suNoSlot then s.suCount r.slot 4 1 else if code = suBadRank then s.suCount r.slot 11 1
    else if code = suMismatch then s.suCount r.slot 12 1 else if code = suNoRecord then s.suCount r.slot 13 1 else s
  s.endRun u r 3

/-- GUARD_RUN (R331): the Guard program forms both deltas of the store that context `ctx` waits for, ahead of waiting frames
and between two runs, once the parity members have a log entry for it (R212). -/
def execGuardRun (ctx : Nat) (s : State) : Res :=
  if 4096 ≤ ctx then .fault .noSuchUnit
  else
    match (s.dst ctx).store with
    | none => .next s
    | some g =>
      let u := guardSu ctx g.wid
      if g.phase ≠ 1 ∨ (s.su u).run.isSome ∨ s.scratched ∨ !s.deltaRoom g.desc then .next s
      else .next ((s.incSat Obj.suBusy u 0 64 (4 + 3 * ceilDiv g.old.length 64)).guardDeltas ctx)

/-! ### Programs -/

/-- An instruction of an image laid out as PROGRAM_STAGE (R334). -/
def imageInstr (image i : Nat) : Nat := bits image (64 + 64 * i) 64

/-- OP of an instruction (R314). -/
def ecOp (w : Nat) : Nat := bits w 56 8
/-- RD. -/
def ecRd (w : Nat) : Nat := bits w 50 6
/-- RA. -/
def ecRa (w : Nat) : Nat := bits w 44 6
/-- RB. -/
def ecRb (w : Nat) : Nat := bits w 38 6
/-- RND. -/
def ecRnd (w : Nat) : Rnd := Rnd.ofCode (bits w 36 2)
/-- FMT. -/
def ecFmt (w : Nat) : Nat := bits w 32 4
/-- IMM. -/
def ecImm (w : Nat) : Nat := bits w 0 32

/-- The formats of sums, filters and merges (R322, R325): code 0x9 stands for INT32. -/
def ecFormat (c : Nat) : Option Fmt :=
  match c with
  | 0 => some .fp32 | 1 => some .bf16 | 2 => some .fp16 | 3 => some .e4m3 | 4 => some .e5m2 | 9 => some .int32 | _ => none

/-- The bits of an instruction that its opcode uses beside OP (R315), as (low bit, width); none for an unassigned opcode. -/
def ecUsed (op : Nat) : Option (List (Nat × Nat)) :=
  let rd := (50, 6)
  let ra := (44, 6)
  let rb := (38, 6)
  let rnd := (36, 2)
  let fmt := (32, 4)
  match op with
  | 0x00 => some [] | 0x01 => some [] | 0x02 => some []
  | 0x03 => some [ra, (0, 8)] | 0x04 => some [ra, (0, 8)]
  | 0x05 => some [rd, (0, 32)]
  | 0x06 => some [rd, ra, rb, (0, 4)]
  | 0x07 => some [rd, (0, 4)]
  | 0x08 => some [rd, (3, 2)]
  | 0x09 => some [rd, ra, (0, 13)]
  | 0x0A => some [rd, ra]
  | 0x10 => some [ra, (3, 2)]
  | 0x11 => some [ra, rb, (0, 16)] | 0x12 => some [ra, rb, (0, 16)]
  | 0x13 => some [ra, rb]
  | 0x20 => some [rd, ra, rb, rnd, fmt, (14, 18)]
  | 0x21 => some [rd, ra, rb, (0, 12)]
  | 0x28 => some [rd, fmt, (0, 2)]
  | 0x29 => some [rd, ra, rb, fmt, (0, 21)]
  | 0x2A => some [rd, ra]
  | 0x2B => some [ra, (0, 1)]
  | 0x30 => some [ra, rb, (0, 28)]
  | 0x31 => some [(0, 28)]
  | _ => none

/-- Whether RSUM accepts its formats (R322). -/
def rsumFormats (w : Nat) : Bool :=
  match ecFormat (bits w 26 4), ecFormat (ecFmt w) with
  | some i, some o => (i == .int32) == (o == .int32)
  | _, _ => false

/-- The first reason that refuses an instruction at index `i` of a program of `len` (R317), 0 for none. -/
def instrReason (w i len : Nat) : Nat :=
  let op := ecOp w
  let imm := ecImm w
  match ecUsed op with
  | none => 2
  | some used =>
    if (op = 6 ∧ 12 ≤ bits imm 0 4) ∨ (op = 7 ∧ 8 ≤ bits imm 0 4) ∨ (op = 0x20 ∧ bits imm 30 2 = 3) then 2
    else if bits w 0 56 &&& ((2 ^ 56 - 1) - maskOf used) ≠ 0 then 3
    else if (op = 3 ∨ op = 4) ∧ len - 1 < i + 1 + bits imm 0 8 then 4
    else if i + 1 = len ∧ op ≠ 1 ∧ op ≠ 2 then 5
    else if ((op = 3 ∨ op = 4) ∧ bits imm 0 8 = 0) ∨ (op = 0x0A ∧ ecRd w < 48) ∨ (op = 0x20 ∧ !rsumFormats w)
        ∨ ((op = 0x28 ∨ op = 0x29) ∧ (ecFormat (ecFmt w)).isNone) then 6
    else 0

/-- The loader's check (R317): reason and instruction index, none where the program passes. -/
def loaderCheck (image : Nat) : Option (Nat × Nat) :=
  let len := bits image 0 16
  if len = 0 ∨ 256 < len then some (1, 0)
  else if bits image 16 48 ≠ 0 then some (7, 0)
  else
    (List.range len).findSome? fun i =>
      let r := instrReason (imageInstr image i) i len
      if r = 0 then none else some (r, i)

/-- Whether an instruction marks its program ARRIVAL (R318). -/
def instrArrival (w : Nat) : Bool :=
  let op := ecOp w
  let byRd := op == 5 || op == 6 || op == 7 || op == 8 || op == 9 || op == 0x2A
  (op == 0x20 && bits w 30 2 == 2) || op == 0x2B || (byRd && decide (48 ≤ ecRd w))

/-- Whether an RSUM names EXACT with FMT_IN FP32 (R319 status 4). -/
def instrExact32 (w : Nat) : Bool := ecOp w == 0x20 && bits w 30 2 == 1 && bits w 26 4 == 0

/-- The instructions of an image. -/
def imageInstrs (image : Nat) : List Nat := (List.range (bits image 0 16)).map (imageInstr image)

/-- PROGRAM_LOAD (R317, R318, R511): LOAD on 8000.02. -/
def execProgramLoad (slot : Nat) (s : State) : Res :=
  if 256 ≤ slot then .next s
  else if s.slotBound slot || s.slotReserved slot then .next (s.wr Obj.programLoad 0 4)
  else
    let image := s.rd Obj.programStage 0
    match loaderCheck image with
    | some (r, i) => .next (s.wr Obj.programLoad 0 (3 + r * 2 ^ 8 + i * 2 ^ 16))
    | none =>
      let loads := s.fld Obj.programInfo slot 64 64 + 1
      let info := 1 + b2n ((imageInstrs image).any instrArrival) * 2 + bits image 0 16 * 2 ^ 8 + (loads % 2 ^ 64) * 2 ^ 64
      let s := (s.wr Obj.programText slot image).wr Obj.programInfo slot info
      let s := s.extend 4 (Config.sm3 (BitVec.ofNat 8 slot :: leBytes 2056 image) % 2 ^ 256)
      .next (s.wr Obj.programLoad 0 1)

/-- PROGRAM_CLEAR (R334): CLEAR on 8000.02. -/
def execProgramClear (slot : Nat) (s : State) : Res :=
  if 256 ≤ slot then .next s
  else if s.slotBound slot || s.slotReserved slot then .next (s.wr Obj.programLoad 0 4)
  else .next (((s.wr Obj.programText slot 0).wrFld Obj.programInfo slot 0 64 0).wr Obj.programLoad 0 2)

/-! ### Bindings -/

/-- Whether BIND_DESC's fields are in range (R334). -/
def bindDescOk (d : Nat) : Bool :=
  bits d 3 5 == 0 && bits d 14 2 == 0 && bits d 40 24 == 0 && bits d 88 8 == 0 && bits d 121 135 == 0
    && decide (1 ≤ bits d 16 16) && decide (bits d 64 24 + bits d 96 25 ≤ 2 ^ 24)

/-- Binds a slot to a descriptor with the checks of R319; `kinds` are the kinds allowed; `ecc` the outcome of
the reads of the pool's link words. The status, and the state. -/
def State.bindSlot (s : State) (slot d : Nat) (kinds : List Nat) (ecc : Ecc) : Nat × State :=
  let prog := imageInstrs (s.rd Obj.programText slot)
  if !(s.rd Obj.programInfo slot).testBit 0 || s.slotBound slot || s.slotReserved slot then (2, s)
  else if s.repro && (s.rd Obj.programInfo slot).testBit 1 then (3, s)
  else if prog.any instrExact32 then (4, s)
  else if !kinds.contains (bits d 0 3) || !bindDescOk d then (5, s)
  else if s.poolSize (bits d 8 6) < 4128 then (6, s)
  else
    let a := s.poolReserve (bits d 8 6) (ownerSlot slot) (bits d 16 16) ecc
    if a.code ≠ poolDone then (7, a.state)
    else
      let s := { a.state with suBufs := KMap.set a.state.suBufs [] slot a.bufs }
      let s := s.wr Obj.bindState slot (1 + bits d 0 3 * 2 ^ 2 + bits d 0 192 * 2 ^ 64)
      let u := slot / 8
      let s := s.setSu u { s.su u with kept := (s.su u).kept.filter fun p => p.1 / 64 != slot }
      (1, s.wr Obj.suFault slot 0)

/-- BIND (R319): BIND on 8100.03 with BIND_DESC. -/
def execBind (slot : Nat) (ecc : Ecc) (s : State) : Res :=
  if 256 ≤ slot then .next s
  else
    let r := s.bindSlot slot (s.rd Obj.bindDesc 0) [1, 2] ecc
    .next (r.2.wr Obj.bindCmd 0 r.1)

/-- Frees a slot's binding: its buffers go back to the pool. -/
def State.unbindSlot (s : State) (slot : Nat) : State :=
  let s := s.poolRelease (s.slotPool slot) (ownerSlot slot) (KMap.get s.suBufs [] slot)
  ({ s with suBufs := KMap.set s.suBufs [] slot [] }).wr Obj.bindState slot 0

/-- Whether a slot has frames or records in flight (R320). -/
def State.slotActive (s : State) (slot : Nat) : Bool :=
  let x := s.su (slot / 8)
  s.fld Obj.bindState slot 32 16 != 0 || x.recs.any (fun r => r.slot == slot) || x.waiting.any (fun w => w.slot == slot)
    || (match x.run with | some r => r.slot == slot | none => false)

/-- UNBIND (R320). -/
def execUnbind (slot : Nat) (s : State) : Res :=
  if 256 ≤ slot then .next s
  else if !s.slotBound slot || decide (3 ≤ s.slotKind slot) then .next (s.wr Obj.bindCmd 0 9)
  else if s.slotActive slot then .next (s.wr Obj.bindCmd 0 8)
  else .next ((s.unbindSlot slot).wr Obj.bindCmd 0 1)

/-- Discards what a slot has in flight (R320): held frames, records, waiting frames and a run; each frame counts as dropped
once. A run of the slot ends, with the cycles it has spent (R335). -/
def State.discardSlot (s : State) (slot : Nat) : State :=
  let u := slot / 8
  let x := s.su u
  let mine := x.run.filter fun r => r.slot == slot
  let frames := (s.heldRuns slot ++ (mine.map (·.id)).toList).eraseDups.length + (x.waiting.filter fun w => w.slot == slot).length
  let s := s.setSu u { x with waiting := x.waiting.filter (fun w => w.slot != slot), recs := x.recs.filter (fun r => r.slot != slot),
                              holds := x.holds.filter (fun h => h.slot != slot), run := if mine.isSome then none else x.run }
  let s := s.suCount slot 3 frames
  match mine with
  | some r => (s.incSat Obj.suBusy u 0 64 r.cycles).bitmapLater u
  | none => s

/-- FORCE_UNBIND (R320). A run in progress ends with it (log entry 27). -/
def execForceUnbind (slot : Nat) (s : State) : Res :=
  if 256 ≤ slot then .next s
  else if !s.slotBound slot || decide (3 ≤ s.slotKind slot) then .next (s.wr Obj.bindCmd 0 9)
  else .next (((s.discardSlot slot).unbindSlot slot).wr Obj.bindCmd 0 1)

/-- BITMAP_CLEAR (R335, R320): clears an SU's bitmap memory, between two runs. -/
def execBitmapClear (su : Nat) (s : State) : Res :=
  if 32 ≤ su then .next s
  else
    let s := s.setSu su { s.su su with later := (s.su su).later ++ [none] }
    let s := s.wr Obj.bitmapClear 0 0
    .next (if (s.su su).run.isSome then s else s.bitmapLater su)

end Sys2Proof.Machine
end

