-- ==== Sys2Proof/Machine/Ecmel.lean ====
section
/-! DEFINITION. The Ecmel instructions (R314 to R316, R321 to R330). Each command executes the next instruction of the run in
progress on a stream unit, where that instruction is the one the command names. -/

namespace Sys2Proof.Machine

/-! ### Registers and buffers of a run -/

/-- Reads a register (R305): G0 is 0, G48 to G63 belong to the slot. -/
def SuRun.reg (r : SuRun) (kept : KMap Nat) (g : Nat) : Nat :=
  if g = 0 then 0 else if g < 48 then KMap.get r.regs 0 g else KMap.get kept 0 (64 * r.slot + g)

/-- A state with a register written. -/
def State.setReg (s : State) (u : Nat) (r : SuRun) (g v : Nat) : State × SuRun :=
  let v := v % 2 ^ 64
  if g = 0 then (s, r)
  else if g < 48 then (s, { r with regs := KMap.set r.regs 0 g v })
  else (s.setSu u { s.su u with kept := KMap.set (s.su u).kept 0 (64 * r.slot + g) v }, r)

/-- The size of the output buffer (R305). -/
def suOutSize : Nat := 65536

/-- Bytes of the output buffer. -/
def SuRun.outBytes (r : SuRun) (off n : Nat) : List Byte := (List.range n).map fun k => KMap.get r.out 0 (off + k)

/-- The run with bytes written to its output buffer. -/
def SuRun.put (r : SuRun) (off : Nat) (bs : List Byte) : SuRun := { r with out := memSplice r.out off bs }

/-- What an instruction comes to: the run goes on at the next instruction, or somewhere ahead, or ends with END or DROP, or
faults, or waits. The cycles are those of R315. -/
inductive EcOut
  | go (s : State) (r : SuRun) (cycles : Nat)
  | jump (s : State) (r : SuRun) (pc : Nat)
  | ends (s : State) (r : SuRun) (count : Nat)
  | fault (s : State) (r : SuRun) (code : Nat)
  | waits

/-- Executes the next instruction of an SU's run where it has opcode `op` (R311). The budget of 64 instructions for each cell
of the frame comes first. -/
def State.ecmel (s : State) (u op : Nat) (f : SuRun → Nat → (Nat → Nat) → State → EcOut) : Res :=
  if 32 ≤ u then .fault .noSuchUnit
  else
    match (s.su u).run with
    | none => .next s
    | some r =>
      let w := imageInstr (s.rd Obj.programText r.slot) r.pc
      if ecOp w ≠ op ∨ s.scratched then .next s
      else if 64 * cellsOf r.frame.plen ≤ r.executed then .next (s.runFault u r suBudget)
      else
        let r := { r with executed := r.executed + 1 }
        let keep (s : State) (r : SuRun) : State := s.setSu u { s.su u with run := some r }
        match f r w (fun g => r.reg (s.su u).kept g) s with
        | .go s r c => .next (keep s { r with pc := r.pc + 1, cycles := r.cycles + c })
        | .jump s r pc => .next (keep s { r with pc := pc, cycles := r.cycles + 1 })
        | .ends s r k => .next (s.endRun u { r with cycles := r.cycles + 1 } k)
        | .fault s r c => .next (s.runFault u r c)
        | .waits => .next s

/-- Goes on with a register written. -/
def State.goReg (s : State) (u : Nat) (r : SuRun) (g v c : Nat) : EcOut :=
  let x := s.setReg u r g v
  .go x.1 x.2 c

/-! ### Control and registers -/

/-- ECMEL_NOP (R315). -/
def execEcmelNop (su : Nat) (s : State) : Res := s.ecmel su 0x00 fun r _ _ s => .go s r 1
/-- ECMEL_END (R312). -/
def execEcmelEnd (su : Nat) (s : State) : Res := s.ecmel su 0x01 fun r _ _ s => .ends s r 1
/-- DROP (R312). -/
def execEcmelDrop (su : Nat) (s : State) : Res := s.ecmel su 0x02 fun r _ _ s => .ends s r 3
/-- BRZ (R315). -/
def execBrz (su : Nat) (s : State) : Res :=
  s.ecmel su 0x03 fun r w g s => if g (ecRa w) = 0 then .jump s r (r.pc + 1 + bits w 0 8) else .go s r 1
/-- BRNZ (R315). -/
def execBrnz (su : Nat) (s : State) : Res :=
  s.ecmel su 0x04 fun r w g s => if g (ecRa w) ≠ 0 then .jump s r (r.pc + 1 + bits w 0 8) else .go s r 1
/-- MOVI (R315): IMM, sign-extended. -/
def execMovi (su : Nat) (s : State) : Res :=
  s.ecmel su 0x05 fun r w _ s => s.goReg su r (ecRd w) (unsigned (signed (ecImm w) 32) 64) 1

/-- The operations of ALU (R315). -/
def aluOp (op a b : Nat) : Nat :=
  match op with
  | 0 => (a + b) % 2 ^ 64
  | 1 => unsigned ((a : Int) - b) 64
  | 2 => a &&& b
  | 3 => a ||| b
  | 4 => a ^^^ b
  | 5 => (a <<< (b % 64)) % 2 ^ 64
  | 6 => a >>> (b % 64)
  | 7 => min a b
  | 8 => max a b
  | 9 => b2n (a == b)
  | 10 => b2n (decide (a < b))
  | _ => b2n (decide (signed a 64 < signed b 64))

/-- ALU (R315). -/
def execEcmelAlu (su : Nat) (s : State) : Res :=
  s.ecmel su 0x06 fun r w g s => s.goReg su r (ecRd w) (aluOp (bits w 0 4) (g (ecRa w)) (g (ecRb w))) 1

/-- The items of GET (R315). Where the module has no logical rank, item 6 is 0xFFFF (R441). -/
def SuRun.item (r : SuRun) (k : Nat) : Nat :=
  match k with
  | 0 => r.payload.length
  | 1 => r.ingress
  | 2 => r.frame.tc
  | 3 => r.frame.src
  | 4 => r.frame.dest
  | 5 => cellsOf r.frame.plen
  | 6 => r.rank.getD 0xFFFF
  | _ => r.slot

/-- GET (R315). -/
def execEcmelGet (su : Nat) (s : State) : Res :=
  s.ecmel su 0x07 fun r w _ s => s.goReg su r (ecRd w) (r.item (bits w 0 4)) 1
/-- HDR (R315): input header bytes 8w to 8w + 7, most significant first. -/
def execEcmelHdr (su : Nat) (s : State) : Res :=
  s.ecmel su 0x08 fun r w _ s => s.goReg su r (ecRd w) (bits r.frame.hdr (192 - 64 * bits w 3 2) 64) 1
/-- LDP (R315). -/
def execLdp (su : Nat) (s : State) : Res :=
  s.ecmel su 0x09 fun r w g s =>
    let off := g (ecRa w) + bits w 0 13
    if r.payload.length < off + 8 then .fault s r suRange
    else s.goReg su r (ecRd w) (leCode (sliceBytes r.payload off 8)) 1
/-- PADD (R315). -/
def execPadd (su : Nat) (s : State) : Res :=
  s.ecmel su 0x0A fun r w g s => s.goReg su r (ecRd w) (g (ecRd w) + g (ecRa w)) 1

/-! ### Output -/

/-- OHDR (R315). -/
def execOhdr (su : Nat) (s : State) : Res :=
  s.ecmel su 0x10 fun r w g s =>
    .go s { r with ohdr := setBits r.ohdr (192 - 64 * bits w 3 2) 64 (g (ecRa w)) } 1
/-- OPUT (R315). -/
def execOput (su : Nat) (s : State) : Res :=
  s.ecmel su 0x11 fun r w g s =>
    let off := g (ecRa w) + bits w 0 16
    if suOutSize < off + 8 then .fault s r suRange else .go s (r.put off (leBytes 8 (g (ecRb w)))) 1
/-- OCOPY (R315). -/
def execOcopy (su : Nat) (s : State) : Res :=
  s.ecmel su 0x12 fun r w g s =>
    let src := g (ecRa w)
    let n := g (ecRb w)
    let off := bits w 0 16
    if r.payload.length < src + n ∨ suOutSize < off + n then .fault s r suRange
    else .go s (r.put off (sliceBytes r.payload src n)) (1 + ceilDiv n 64)

/-- Whether a header may be sent (R313, R247, R249, R251). -/
def State.sendable (s : State) (f : Frame) (len : Nat) : Bool :=
  (f.bclass == 3 || f.bclass == 4) && kindAllows (s.rd Obj.tcKind f.tc) f.bclass && bits f.hdr 192 4 == 0
    && !(f.mc && bits f.hdr 252 4 != 0) && decide (len ≤ maxPlen f.bclass)

/-- SEND (R313): output bytes as a frame under the output header. It waits while the local channel is at its allowance. -/
def execEcmelSend (su : Nat) (s : State) : Res :=
  s.ecmel su 0x13 fun r w g s =>
    let off := g (ecRa w)
    let n := g (ecRb w)
    let f : Frame := ⟨r.ohdr, []⟩
    if suOutSize < off + n then .fault s r suRange
    else if !s.sendable f n then .fault s r suHeader
    else if s.allowance f.bclass ≤ s.posCount (72 + su / 8) f.bclass then .waits
    else
      let hdr := setBits (setBits (setBits r.ohdr 196 14 n) 224 16 s.devId) 210 6 (min f.hops r.frame.hops)
      .go ((s.send (.frame ⟨hdr, r.outBytes off n⟩)).suCount r.slot 2 1) r (1 + ceilDiv (32 + n) 64)

/-! ### Records -/

/-- The open record of a slot and key. -/
def State.suRec (s : State) (u slot key : Nat) : Option SuRec :=
  (s.su u).recs.find? fun x => x.slot == slot && x.key == key

/-- Replaces an open record. -/
def State.setSuRec (s : State) (u : Nat) (x : SuRec) : State :=
  s.setSu u { s.su u with recs := (s.su u).recs.map fun y => if y.slot = x.slot ∧ y.key = x.key then x else y }

/-- Closes a record that has completed (R323): its baton slots are free. -/
def State.closeRec (s : State) (u : Nat) (x : SuRec) : State :=
  let s := s.setSu u { s.su u with recs := (s.su u).recs.filter fun y => !(y.slot == x.slot && y.key == x.key) }
  ((s.useSlots x.slot (-(x.bufs : Int))).suCount x.slot 10 1).noteRecs x.slot

/-- Finds a record or opens it (R323): a fault code where it cannot be opened. `bytes` is the state it occupies. -/
def State.openRec (s : State) (u slot key : Nat) (params : List Nat) (bytes : Nat) : Except Nat (SuRec × State) :=
  match s.suRec u slot key with
  | some x => .ok (x, s)
  | none =>
    let n := ceilDiv bytes (s.poolSize (s.slotPool slot))
    let rs := (s.su u).recs
    let merge := params.head? == some 2
    if 256 ≤ rs.length ∨ (merge ∧ 16 ≤ (rs.filter fun x => x.params.head? == some 2).length) then .error suNoRecord
    else if s.slotFree slot < n then .error suNoSlot
    else
      let x : SuRec := { slot := slot, key := key, params := params, bufs := n, seen := [], done := 0, acc := [], exact := [], parts := [],
                         runs := [], recs := [] }
      .ok (x, ((s.setSu u { s.su u with recs := rs ++ [x] }).useSlots slot n).noteRecs slot)

/-- The elements of a payload in a format. -/
def elemsOf (f : Fmt) (payload : List Byte) : List Code :=
  let c := leCode payload
  (List.range (payload.length / (f.width / 8))).map fun i => f.elem c i

/-- An element widened exactly to FP32 (R62). -/
def widen32 (f : Fmt) (c : Code) : Code := rne32 (decode f c)

/-- A contribution folded into the FP32 sums (R321). -/
def foldSum (f : Fmt) (acc : List Code) (payload : List Byte) (first : Bool) : List Code :=
  let xs := (elemsOf f payload).map (widen32 f)
  if first then xs else (acc.zip xs).map fun p => add32 p.1 p.2

/-- A contribution added to the exact sums: INT32 in units of 1, the others in units of 2^-136 (R62). -/
def foldExact (f : Fmt) (acc : List ExactAcc) (payload : List Byte) : List ExactAcc :=
  let unit := if f = .int32 then 0 else 136
  let xs := elemsOf f payload
  let acc := if acc.isEmpty then xs.map fun _ => ExactAcc.zero else acc
  (acc.zip xs).map fun p => p.1.add unit (decode f p.2)

/-- Folds every consecutive held rank (R321 ordered): the record, and how many contributions were folded. -/
def foldHeld (f : Fmt) : Nat → SuRec → Nat → SuRec × Nat
  | 0, x, k => (x, k)
  | n + 1, x, k =>
    match x.parts.find? (fun p => p.1 == x.done) with
    | none => (x, k)
    | some p =>
      let x' := { x with
        parts := x.parts.filter fun q => q.1 != p.1
        acc := if f = .int32 then x.acc else foldSum f x.acc p.2 (x.done == 0)
        exact := if f = .int32 then foldExact f x.exact p.2 else x.exact
        done := x.done + 1 }
      foldHeld f n x' (k + 1)

/-- The random source of a run (R470). -/
def SuRun.random (r : SuRun) : RandomSource := ⟨r.seed, r.rank, r.free⟩

/-- The result elements of a complete sum, with their counts (R321, R62). -/
def sumResult (x : SuRec) (fin fout : Fmt) (exact : Bool) (rnd : Rnd) (src : RandomSource) (stream : Nat) : List (Code × Count) :=
  let vals := if fin = .int32 then x.exact.map (ExactAcc.value 0)
    else if exact then x.exact.map (ExactAcc.value 136) else x.acc.map (decode .fp32)
  vals.zipIdx.map fun p => roundFinal fout rnd (src.at stream (x.key * 4096 + p.2) % 2 ^ 24) p.1

/-- How many elements count as `k` (R74). -/
def suCountOf (k : Count) (l : List (Code × Count)) : Nat := (l.filter fun p => p.2 == k).length

/-- RSUM's effect on a record that takes the contribution (R321): the record, the contributions folded, and whether this
frame stays held. -/
def rsumAdd (x : SuRec) (mode : Nat) (fin : Fmt) (n rank : Nat) (payload : List Byte) : SuRec × Nat × Bool :=
  let x := { x with seen := x.seen ++ [rank] }
  if mode = 0 then
    let r := foldHeld fin (n + 1) { x with parts := x.parts ++ [(rank, payload)] } 0
    (r.1, r.2, r.1.parts.any fun p => p.1 == rank)
  else
    let int := fin = .int32
    let x := if mode = 1 ∨ int then { x with exact := foldExact fin x.exact payload }
      else { x with acc := foldSum fin x.acc payload (x.done == 0) }
    ({ x with done := x.done + 1 }, 1, false)

/-- Ranks `lo` to below `hi` of a record have been folded, and the frame of this run is held at a rank or not (R312): a baton
slot is released when no record holds its frame any more; that of this run when the run ends. -/
def State.refold (s : State) (u : Nat) (r : SuRun) (key lo hi : Nat) (keep : Option Nat) : State :=
  let x := s.su u
  let folded (h : SuHold) : Bool := h.slot == r.slot && h.key == key && decide (lo ≤ h.rank) && decide (h.rank < hi)
  let left := x.holds.filter (fun h => !folded h) ++ (keep.map fun k => (⟨r.slot, key, k, r.id⟩ : SuHold)).toList
  let gone := ((x.holds.filter folded).map (·.run)).eraseDups.filter fun k => k != r.id && !left.any fun h => h.run == k
  ((s.setSu u { x with holds := left }).useSlots r.slot (-(gone.length : Int))).noteHeld r.slot

/-- RSUM (R321, R322). -/
def State.rsum (s : State) (u : Nat) (r : SuRun) (w : Nat) (g : Nat → Nat) : EcOut :=
  let imm := ecImm w
  let mode := bits imm 30 2
  let n := bits imm 14 12 + 1
  match ecFormat (bits imm 26 4), ecFormat (ecFmt w) with
  | some fin, some fout =>
    let plen := r.payload.length
    let size := fin.width / 8
    let e := plen / size
    let rank := g (ecRb w)
    let width := if fin = .int32 then 8 else if mode = 1 then 48 else 4
    let params := [0, mode, bits imm 26 4, ecFmt w, n, plen]
    match s.openRec u r.slot (g (ecRa w)) params (e * width) with
    | .error c => .fault s r c
    | .ok (x, s) =>
      if x.params ≠ params ∨ plen % size ≠ 0 then .fault s r suMismatch
      else if n ≤ rank ∨ x.seen.contains rank then .fault s r suBadRank
      else
        match rsumAdd x mode fin n rank r.payload with
        | (x, folded, held) =>
          let s := if mode = 0 then s.refold u r x.key (x.done - folded) x.done (if held then some rank else none) else s
          let s := s.setSuRec u x
          let per := if mode = 1 then ceilDiv e 4 else ceilDiv e 16
          let cost := if folded = 0 then 2 else folded * (2 + per)
          if x.done = n then
            let res := sumResult x fin fout (mode == 1) (ecRnd w) r.random (s.slotStream r.slot)
            let r := r.put 0 (leBytes (fout.packed e) (fout.packCode (res.map (·.1))))
            let s := ((s.suCount r.slot 14 (suCountOf .saturated res)).suCount r.slot 15 (suCountOf .flushed res)).closeRec u x
            s.goReg u r (ecRd w) 1 (cost + ceilDiv e 16)
          else s.goReg u r (ecRd w) 0 cost
  | _, _ => .fault s r suMismatch

/-- RSUM (R321). -/
def execEcmelRsum (su : Nat) (s : State) : Res := s.ecmel su 0x20 fun r w g s => s.rsum su r w g

/-- GATH (R324). -/
def State.gath (s : State) (u : Nat) (r : SuRun) (w : Nat) (g : Nat → Nat) : EcOut :=
  let n := bits w 0 12 + 1
  let plen := r.payload.length
  let params := [1, n, plen]
  let rank := g (ecRb w)
  let cost := 1 + ceilDiv plen 64
  if 4096 < n * plen then .fault s r suMismatch
  else
    match s.openRec u r.slot (g (ecRa w)) params (n * plen) with
    | .error c => .fault s r c
    | .ok (x, s) =>
      if x.params ≠ params then .fault s r suMismatch
      else if n ≤ rank ∨ x.seen.contains rank then .fault s r suBadRank
      else
        let x := { x with seen := x.seen ++ [rank], parts := x.parts ++ [(rank, r.payload)], done := x.done + 1 }
        let s := s.setSuRec u x
        if x.done = n then
          let r := x.parts.foldl (fun r p => r.put (p.1 * plen) p.2) r
          (s.closeRec u x).goReg u r (ecRd w) 1 cost
        else s.goReg u r (ecRd w) 0 cost

/-- GATH (R324). -/
def execEcmelGath (su : Nat) (s : State) : Res := s.ecmel su 0x21 fun r w g s => s.gath su r w g

/-! ### Filters, merges, bitmaps -/

/-- The records of a payload, as codes of `rs` bytes (R325). -/
def recordsOf (rs : Nat) (payload : List Byte) : List Nat :=
  (List.range (payload.length / rs)).map fun i => leCode (sliceBytes payload (rs * i) rs)

/-- Whether a record's key leaves the bits above its format 0 (R325). -/
def recordOk (f : Fmt) (x : Nat) : Bool := bits x 0 32 / 2 ^ f.width == 0

/-- A bit of a slot's bitmap region (R327). -/
def State.bitmapBit (s : State) (slot i : Nat) : Bool :=
  let b := s.slotBase slot + i
  (s.mem8 spaceBitmap (slot / 8 * 2 ^ 21 + b / 8)).toNat.testBit (b % 8)

/-- FILT (R326). -/
def execEcmelFilt (su : Nat) (s : State) : Res :=
  s.ecmel su 0x28 fun r w _ s =>
    let rs := if w.testBit 1 then 16 else 8
    match ecFormat (ecFmt w) with
    | none => .fault s r suRange
    | some f =>
      if r.payload.length % rs ≠ 0 then .fault s r suRange
      else
        let all := recordsOf rs r.payload
        let good := all.filter (recordOk f)
        let oor (x : Nat) : Bool := decide (s.slotBmLen r.slot ≤ bits x 32 32)
        let kept := good.filter fun x => !oor x && (s.bitmapBit r.slot (bits x 32 32) == w.testBit 0)
        let s' := (((s.suCount r.slot 5 kept.length).suCount r.slot 6 (good.length - kept.length)).suCount r.slot 7
          (good.filter oor).length).suCount r.slot 8 (all.length - good.length)
        s'.goReg su { r with payload := kept.flatMap (leBytes rs) } (ecRd w) kept.length (1 + all.length)

/-- Whether record `a` of rank `ra` comes before record `b` of rank `rb` (R328). -/
def mergeBefore (f : Fmt) (ascending : Bool) (ra a rb b : Nat) : Bool :=
  let ka := sortKey f (bits a 0 32)
  let kb := sortKey f (bits b 0 32)
  if ka ≠ kb then (if ascending then decide (ka < kb) else decide (kb < ka))
  else if ra ≠ rb then decide (ra < rb)
  else decide (bits a 32 32 < bits b 32 32)

/-- A record put in its place among records in merge order, behind those equal to it. -/
def mergeInsert (before : Nat × Nat → Nat × Nat → Bool) (x : Nat × Nat) : List (Nat × Nat) → List (Nat × Nat)
  | [] => [x]
  | y :: l => if before x y then x :: y :: l else y :: mergeInsert before x l

/-- One record of a run enters a merge context (R328): the last accepted record of the run, the context's records, and the
counts of malformed and unsorted ones. -/
def mergeOne (f : Fmt) (asc : Bool) (rank k : Nat) (st : Option Nat × List (Nat × Nat) × Nat × Nat) (x : Nat) :
    Option Nat × List (Nat × Nat) × Nat × Nat :=
  match st with
  | (last, recs, bad, unsorted) =>
    if !recordOk f x then (last, recs, bad + 1, unsorted)
    else if (match last with | some y => mergeBefore f asc rank x rank y | none => false) then (last, recs, bad, unsorted + 1)
    else (some x, (mergeInsert (fun a b => mergeBefore f asc a.1 a.2 b.1 b.2) (rank, x) recs).take k, bad, unsorted)

/-- MERGE (R328, R329). -/
def State.mergeRun (s : State) (u : Nat) (r : SuRun) (w : Nat) (g : Nat → Nat) : EcOut :=
  let imm := ecImm w
  let k := bits imm 0 12 + 1
  let n := bits imm 12 6 + 1
  let asc := imm.testBit 18
  let rs := if imm.testBit 19 then 16 else 8
  let rank := g (ecRb w)
  let params := [2, n, k, bits imm 18 1, bits imm 19 1, ecFmt w]
  match ecFormat (ecFmt w) with
  | none => .fault s r suRange
  | some f =>
    if r.payload.length % rs ≠ 0 then .fault s r suRange
    else
      match s.openRec u r.slot (g (ecRa w)) params (k * rs) with
      | .error c => .fault s r c
      | .ok (x, s) =>
        if x.params ≠ params then .fault s r suMismatch
        else
          let run := x.runs.find? fun m => m.rank == rank
          let ended := match run with | some m => m.ended | none => decide (64 ≤ x.runs.length)
          if ended then .fault s r suBadRank
          else
            let last := match run with | some m => m.last | none => none
            let all := recordsOf rs r.payload
            match all.foldl (mergeOne f asc rank k) (last, x.recs, 0, 0) with
            | (last, recs, bad, unsorted) =>
              let m : MergeRun := ⟨rank, imm.testBit 20, last⟩
              let runs := x.runs.filter (fun q => q.rank != rank) ++ [m]
              let x := { x with runs := runs, recs := recs }
              let s := ((s.setSuRec u x).suCount r.slot 8 bad).suCount r.slot 9 unsorted
              if n ≤ (runs.filter (·.ended)).length then
                let r := r.put 0 (recs.flatMap fun p => leBytes rs p.2)
                (s.closeRec u x).goReg u r (ecRd w) recs.length (1 + all.length + ceilDiv (rs * recs.length) 64)
              else s.goReg u r (ecRd w) 0 (1 + all.length)

/-- MERGE (R328, R329). -/
def execEcmelMerge (su : Nat) (s : State) : Res := s.ecmel su 0x29 fun r w g s => s.mergeRun su r w g

/-- BTEST (R315, R327). -/
def execBtest (su : Nat) (s : State) : Res :=
  s.ecmel su 0x2A fun r w g s =>
    let i := g (ecRa w)
    if s.slotBmLen r.slot ≤ i then .fault s r suRange else s.goReg su r (ecRd w) (b2n (s.bitmapBit r.slot i)) 1

/-- BSET (R315, R327). -/
def execBset (su : Nat) (s : State) : Res :=
  s.ecmel su 0x2B fun r w g s =>
    let i := g (ecRa w)
    if s.slotBmLen r.slot ≤ i then .fault s r suRange
    else
      let b := s.slotBase r.slot + i
      let off := r.slot / 8 * 2 ^ 21 + b / 8
      let old := (s.mem8 spaceBitmap off).toNat
      .go (s.memWrite spaceBitmap off [BitVec.ofNat 8 (setBits old (b % 8) 1 (bits w 0 1))]) r 1

/-- GFMAC (R330). -/
def execGfmac (su : Nat) (s : State) : Res :=
  s.ecmel su 0x30 fun r w g s =>
    let src := g (ecRa w)
    let n := bits w 16 12 + 1
    let off := bits w 0 16
    if r.payload.length < src + n ∨ suOutSize < off + n then .fault s r suRange
    else .go s (r.put off (xorBytes (r.outBytes off n) (gfScale (g (ecRb w) % 256) (sliceBytes r.payload src n)))) (1 + ceilDiv n 64)

/-- OZERO (R315). -/
def execOzero (su : Nat) (s : State) : Res :=
  s.ecmel su 0x31 fun r w _ s =>
    let n := bits w 16 12 + 1
    let off := bits w 0 16
    if suOutSize < off + n then .fault s r suRange else .go s (r.put off (List.replicate n 0)) (1 + ceilDiv n 64)

end Sys2Proof.Machine
end

