-- ==== Sys2Proof/Machine/Coll.lean ====
section
/-! DEFINITION. The collective engine (spec/12_collectives.md): contexts, the path of a chunk at members and reduction points,
exchanges, completion, retries and aborts. -/

namespace Sys2Proof.Machine

/-! ### Contexts -/

/-- A context. -/
def State.ctx (s : State) (c : Nat) : CtxSt := KMap.get s.ctxs CtxSt.init c
/-- Writes it. -/
def State.setCtx (s : State) (c : Nat) (x : CtxSt) : State := { s with ctxs := KMap.set s.ctxs CtxSt.init c x }

/-- GROUP_ID (R337). -/
def CtxSt.group (x : CtxSt) : Nat := bits x.desc 0 16
/-- N. -/
def CtxSt.n (x : CtxSt) : Nat := bits x.desc 16 12 + 1
/-- MY_RANK. -/
def CtxSt.rank (x : CtxSt) : Nat := bits x.desc 28 12
/-- MEMBER. -/
def CtxSt.member (x : CtxSt) : Bool := x.desc.testBit 40
/-- RP. -/
def CtxSt.rp (x : CtxSt) : Bool := x.desc.testBit 41
/-- R. -/
def CtxSt.r (x : CtxSt) : Nat := bits x.desc 42 6 + 1
/-- W. -/
def CtxSt.w (x : CtxSt) : Nat := bits x.desc 48 4 + 1
/-- MODE. -/
def CtxSt.mode (x : CtxSt) : Nat := bits x.desc 62 2
/-- TYPE_IN. -/
def CtxSt.typeIn (x : CtxSt) : Nat := bits x.desc 64 4
/-- TYPE_OUT. -/
def CtxSt.typeOut (x : CtxSt) : Nat := bits x.desc 68 4
/-- MY_RP. -/
def CtxSt.myRp (x : CtxSt) : Nat := bits x.desc 72 6
/-- MG_BASE. -/
def CtxSt.mgBase (x : CtxSt) : Nat := bits x.desc 80 12
/-- OWNER_CORE. -/
def CtxSt.owner (x : CtxSt) : Nat := bits x.desc 96 7
/-- s_in. -/
def CtxSt.sIn (x : CtxSt) : Nat := match ecFormat x.typeIn with | some f => f.width / 8 | none => 1
/-- s_out. -/
def CtxSt.sOut (x : CtxSt) : Nat := match ecFormat x.typeOut with | some f => f.width / 8 | none => 1

/-- The state of a context (R367): 0 FREE, 1 READY, 2 RUNNING, 3 ABORTED. -/
def State.ctxState (s : State) (c : Nat) : Nat := s.fld Obj.ctxState c 0 2
/-- EPOCH of a context. -/
def State.ctxEpoch (s : State) (c : Nat) : Nat := s.fld Obj.ctxState c 64 16
/-- ABORT_SEQ. -/
def State.ctxAbortSeq (s : State) (c : Nat) : Nat := s.fld Obj.ctxState c 128 32
/-- Adds to a count of CTX_COUNTS: 0 sent, 1 taken, 2 check failures, 3 retries sent, 4 retries answered, 5 stale, 6 completed,
7 aborts. -/
def State.ctxCount (s : State) (c k n : Nat) : State := s.inc Obj.ctxCounts c (64 * k) 64 n
/-- Whether a frame of an epoch and SEQ is acted on by a context (R351, R363). -/
def State.ctxTakes (s : State) (c epoch seq : Nat) : Bool :=
  epoch == s.ctxEpoch c && (s.ctxState c == 1 || s.ctxState c == 2 || (s.ctxState c == 3 && decide (seq < s.ctxAbortSeq c)))
/-- READY or RUNNING, by whether anything is in progress. -/
def State.ctxNote (s : State) (c : Nat) : State :=
  if s.ctxState c = 1 ∨ s.ctxState c = 2 then
    let x := s.ctx c
    s.wrFld Obj.ctxState c 0 2 (if x.colls.isEmpty ∧ x.chunks.isEmpty ∧ x.parts.isEmpty then 1 else 2)
  else s

/-- The open context of a group with a role. -/
def State.findCtx (s : State) (group : Nat) (rp : Bool) : Option Nat :=
  (List.range 64).find? fun c => s.ctxState c != 0 && (s.ctx c).group == group && (if rp then (s.ctx c).rp else (s.ctx c).member)

/-! ### Frames -/

/-- FTYPE and SUB (R348). -/
def cleContrib : Nat := 0
/-- RESULT. -/
def cleResult : Nat := 1
/-- DIRECT. -/
def cleDirect : Nat := 2
/-- CONTROL. -/
def cleControl : Nat := 3

/-- FTYPE of a frame. -/
def cleType (f : Frame) : Nat := bits f.hdr 188 4
/-- SUB. -/
def cleSub (f : Frame) : Nat := bits f.hdr 184 4
/-- GROUP_ID. -/
def cleGroup (f : Frame) : Nat := bits f.hdr 168 16
/-- RANK. -/
def cleRank (f : Frame) : Nat := bits f.hdr 156 12
/-- PART. -/
def clePart (f : Frame) : Nat := bits f.hdr 152 4
/-- NPM1. -/
def cleNpm1 (f : Frame) : Nat := bits f.hdr 148 4
/-- SEQ. -/
def cleSeq (f : Frame) : Nat := bits f.hdr 116 32
/-- EPOCH. -/
def cleEpoch (f : Frame) : Nat := bits f.hdr 100 16
/-- GCHUNK. -/
def cleChunk (f : Frame) : Nat := bits f.hdr 68 32
/-- DIGEST. -/
def cleDigest (f : Frame) : Nat := bits f.hdr 36 32

/-- The traffic class of the CLE's frames: the lowest of kind COL (R251; log entry 28). -/
def State.colTc (s : State) : Nat := ((List.range 8).find? fun t => s.rd Obj.tcKind t == 2).getD 0

/-- The fields of a CLE frame below its routing word (R348), but PART and CCRC. -/
structure CleHead where
  ftype : Nat
  sub : Nat
  rank : Nat
  seq : Nat
  epoch : Nat
  chunk : Nat
  digest : Nat

/-- Header bits [191:0]. -/
def CleHead.bits (h : CleHead) (group part npm1 ccrc : Nat) : Nat :=
  h.ftype * 2 ^ 188 + h.sub * 2 ^ 184 + group * 2 ^ 168 + (h.rank % 2 ^ 12) * 2 ^ 156 + part * 2 ^ 152 + npm1 * 2 ^ 148
    + (h.seq % 2 ^ 32) * 2 ^ 116 + (h.epoch % 2 ^ 16) * 2 ^ 100 + (h.chunk % 2 ^ 32) * 2 ^ 68 + (h.digest % 2 ^ 32) * 2 ^ 36 + ccrc

/-- CRC-32C (R349). -/
def crc32c (bs : List Byte) : Nat := crcR 0x82F63B78 0xFFFFFFFF bs ^^^ 0xFFFFFFFF

/-- CCRC (R349): over the payloads and header bits [191:32] of the last part with PART 0. -/
def chunkCrc (payloads : List (List Byte)) (low : Nat) : Nat :=
  crc32c (payloads.flatten ++ beBytes 20 (setBits (Machine.bits low 32 160) 120 4 0))

/-- The parts of a chunk (R348): 4,096 bytes each, the last the rest; an empty chunk has one empty part. -/
def partsOf (bs : List Byte) : List (List Byte) :=
  (List.range (max 1 (ceilDiv bs.length 4096))).map fun k => (bs.drop (4096 * k)).take 4096

/-- A frame of a context is ready to be injected: it waits for its turn on the context's channel (R365). -/
def State.cleSend (s : State) (c : Nat) (f : Frame) : State :=
  s.setCtx c { s.ctx c with outbox := (s.ctx c).outbox ++ [f] }

/-- The channel on which the CLE injects a context's frames (R365). -/
def cleOutChannel (c : Nat) : Nat := 76 + c % 2

/-- One turn of the CLE's channels: one frame from each context with frames ready, in ascending context number (R365). -/
def State.cleTurn (s : State) : State :=
  foldUp (fun c s =>
    match (s.ctx c).outbox with
    | [] => s
    | f :: rest => (s.setCtx c { s.ctx c with outbox := rest }).send (.channel (cleOutChannel c) f)) 0 64 s

/-- Turns until no context has a frame ready, `n` at most. -/
def cleTurns : Nat → State → State
  | 0, s => s
  | n + 1, s => if s.ctxs.all (fun x => x.2.outbox.isEmpty) then s else cleTurns n s.cleTurn

/-- The CLE injects the frames that are ready, turn after turn (R365). -/
def State.cleInject (s : State) : State :=
  if s.scratched then s else cleTurns ((s.ctxs.map fun x => x.2.outbox.length).sum) s

/-- Sends a chunk's parts to a destination. -/
def State.sendParts (s : State) (c : Nat) (dest : Nat) (mc : Bool) (h : CleHead) (parts : List (List Byte)) : State :=
  let n := parts.length
  let group := (s.ctx c).group
  let crc := chunkCrc parts (h.bits group (n - 1) (n - 1) 0)
  parts.zipIdx.foldl (fun s p =>
    let low := h.bits group p.2 (n - 1) (if p.2 + 1 = n then crc else 0)
    s.cleSend c ⟨s.routing dest s.colTc 3 mc p.1.length + low, p.1⟩) s

/-- Sends a CONTROL frame (R348): 1 GRANT, 2 RETRY, 3 DONE, 4 ABORT. -/
def State.sendControl (s : State) (c : Nat) (dest : Nat) (mc : Bool) (sub seq epoch digest arg0 arg1 cause : Nat) : State :=
  let h : CleHead := ⟨cleControl, sub, 0, seq, epoch, 0, digest⟩
  let payload := leBytes 16 (arg0 % 2 ^ 32 + (arg1 % 2 ^ 32) * 2 ^ 32 + (cause % 2 ^ 8) * 2 ^ 64)
  s.cleSend c ⟨s.routing dest s.colTc 3 mc 16 + h.bits (s.ctx c).group 0 0 0, payload⟩

/-- ARG0 of a CONTROL frame. -/
def cleArg0 (f : Frame) : Nat := leCode (sliceBytes f.payload 0 4)

/-! ### Collectives of a member -/

/-- OP (R343). -/
def CollSt.op (k : CollSt) : Nat := bits k.desc 0 8
/-- ROOT. -/
def CollSt.root (k : CollSt) : Nat := bits k.desc 8 12
/-- COUNT. -/
def CollSt.elems (k : CollSt) : Nat := bits k.desc 32 64
/-- SRC. -/
def CollSt.src (k : CollSt) : Nat := bits k.desc 96 64
/-- DST. -/
def CollSt.dst (k : CollSt) : Nat := bits k.desc 160 64
/-- COMP. -/
def CollSt.comp (k : CollSt) : Nat := bits k.desc 224 64

/-- Whether an operation is an exchange (R358). -/
def isExchange (op : Nat) : Bool := op == 6 || op == 7
/-- Whether an operation passes one contribution on unchanged (R344, R352). -/
def isMove (op : Nat) : Bool := op == 4 || op == 5

/-- DIGEST (R350). -/
def digestOf (x : CtxSt) (op elems seq epoch : Nat) : Nat :=
  crc32c (leBytes 1 op ++ leBytes 1 x.typeIn ++ leBytes 1 x.typeOut ++ leBytes 1 x.mode ++ leBytes 8 elems ++ leBytes 2 x.group
    ++ leBytes 4 seq ++ leBytes 2 epoch)

/-- The digest of a member's collective; that of an exchange carries COUNT 0 (R359). -/
def CollSt.digest (k : CollSt) (x : CtxSt) : Nat := digestOf x k.op (if isExchange k.op then 0 else k.elems) k.seq k.epoch

/-- The chunks that a span of bytes is cut into (R344). -/
def chunksOf (span : Nat) : Nat := max 1 (ceilDiv span 65536)

/-- The bytes of chunk `j` of a span. -/
def chunkLen (span j : Nat) : Nat := min 65536 (span - 65536 * j)

/-- The span of one block in bytes: COUNT elements of TYPE_IN. -/
def CollSt.span (k : CollSt) (x : CtxSt) : Nat := k.elems * x.sIn

/-- The global chunks of a collective (R344, R345). -/
def globalChunks (op n span : Nat) : Nat :=
  if op = 3 ∨ op = 4 then n * chunksOf span else if op = 8 then 1 else if isExchange op then 0 else chunksOf span

/-- The bytes member `j` gets from this one, and this one from `j` (R344, R359). -/
def CollSt.pair (k : CollSt) (x : CtxSt) (j : Nat) : Nat × Nat :=
  if k.op = 7 then k.table.getD j (0, 0) else (k.span x, k.span x)

/-- Where the span for member `j` begins in SRC, and that from `j` in DST. -/
def CollSt.pairAt (k : CollSt) (x : CtxSt) (j : Nat) : Nat × Nat :=
  if k.op = 7 then (((k.table.take j).map (·.1)).sum, ((k.table.take j).map (·.2)).sum) else (j * k.span x, j * k.span x)

/-- The receiver at place `i` of the sending order, the sender at place `i` of the receiving order (R358). -/
def sendTo (x : CtxSt) (i : Nat) : Nat := (x.rank + 1 + i) % x.n
/-- The sender at a place of the receiving order. -/
def recvFrom (x : CtxSt) (i : Nat) : Nat := (x.rank + x.n - (1 + i) % x.n) % x.n

/-- The pair and the chunk in it of contribution chunk `i` of an exchange. -/
def exchangeAt (k : CollSt) (x : CtxSt) : Nat → Nat → Nat → Nat × Nat
  | 0, place, i => (place, i)
  | n + 1, place, i =>
    let c := chunksOf (k.pair x (sendTo x place)).1
    if i < c then (place, i) else exchangeAt k x n (place + 1) (i - c)

/-- The contribution chunks of a member (R344). -/
def CollSt.contribs (k : CollSt) (x : CtxSt) : Nat :=
  if isExchange k.op then ((List.range x.n).map fun i => chunksOf (k.pair x (sendTo x i)).1).sum
  else if k.op = 4 then chunksOf (k.span x)
  else if k.op = 5 then (if x.rank = k.root then k.count else 0)
  else k.count

/-- The chunk of the collective that contribution chunk `i` is. -/
def CollSt.chunkAt (k : CollSt) (x : CtxSt) (i : Nat) : Nat := if k.op = 4 then x.rank * chunksOf (k.span x) + i else i

/-- The length of chunk `c` of the collective, and its offsets in SRC and, as a result, in DST (R344). -/
def CollSt.place (k : CollSt) (x : CtxSt) (c : Nat) : Nat × Nat × Nat :=
  let span := k.span x
  let b := chunksOf span
  let j := c % b
  let block := c / b
  let outOff := j * (65536 / x.sIn) * x.sOut
  match k.op with
  | 3 => (chunkLen span j, block * span + 65536 * j, outOff)
  | 4 => (chunkLen span j, 65536 * j, block * span + 65536 * j)
  | 5 => (chunkLen span c, 65536 * c, 65536 * c)
  | 8 => (0, 0, 0)
  | _ => (chunkLen span c, 65536 * c, c * (65536 / x.sIn) * x.sOut)

/-- The bytes of a result chunk at a member. -/
def CollSt.resultLen (k : CollSt) (x : CtxSt) (c : Nat) : Nat :=
  let n := (k.place x c).1
  if isMove k.op then n else n / x.sIn * x.sOut

/-- The parts of a result chunk (R348): 4,096 bytes each; a result of more than 16 such parts, which PART cannot number, is
cut into 16 equal ones (DESIGN CHOICE, log entry 87). -/
def resultParts (bs : List Byte) : List (List Byte) :=
  if bs.length ≤ 65536 then partsOf bs
  else (List.range 16).map fun k => (bs.drop (ceilDiv bs.length 16 * k)).take (ceilDiv bs.length 16)

/-- Whether the result of chunk `c` goes to this member (R344). -/
def CollSt.mine (k : CollSt) (x : CtxSt) (c : Nat) : Bool :=
  match k.op with
  | 2 => x.rank == k.root
  | 3 => x.rank == c / chunksOf (k.span x)
  | _ => true

/-- The lowest global chunk of the context whose result or DONE has not come (R356). -/
def State.windowBase (s : State) (c : Nat) : Nat :=
  let low (k : CollSt) : Option Nat := ((List.range k.count).find? fun i => !k.got.contains i).map (k.first + ·)
  ((s.ctx c).colls.findSome? low).getD (s.fld Obj.ctxState c 96 32)

/-- Replaces a collective of a context. -/
def State.setColl (s : State) (c : Nat) (k : CollSt) : State :=
  s.setCtx c { s.ctx c with colls := (s.ctx c).colls.map fun y => if y.seq = k.seq then k else y }

/-- The collective of a SEQ. -/
def State.collOf (s : State) (c seq : Nat) : Option CollSt := (s.ctx c).colls.find? fun k => k.seq == seq

/-- Reads a local global address. -/
def State.readLocal (s : State) (addr n : Nat) : List Byte := s.load (bits addr 44 4) (bits addr 0 44) n
/-- Writes one. -/
def State.writeLocal (s : State) (addr : Nat) (bs : List Byte) : State := s.memStore (bits addr 44 4) (bits addr 0 44) bs

/-! ### Completion and aborts -/

/-- The completion record of a collective, then DONE_FLAG (R360); a ring's command is reported with it. -/
def State.collRecord (s : State) (c : Nat) (k : CollSt) (status : Nat) : State :=
  let x := s.ctx c
  let rec_ := k.seq + status * 2 ^ 32 + k.epoch * 2 ^ 48 + (k.retries % 2 ^ 32) * 2 ^ 64 + (k.written % 2 ^ 32) * 2 ^ 96
    + (s.now % 2 ^ 64) * 2 ^ 128
  let s := s.writeLocal k.comp (leBytes 32 rec_)
  let flag := bits k.desc 296 8
  let s := if flag = 0 then s else s.addFlag x.owner flag 1 none
  match k.ring with
  | some id => { s with ringDone := s.ringDone ++ [(id, if status = 0 then 0 else 3, status + k.seq * 2 ^ 8)] }
  | none => s

/-- Whether a member's collective has all it needs (R360). -/
def CollSt.complete (k : CollSt) (x : CtxSt) : Bool :=
  if isExchange k.op then k.recv == x.n && k.ended.length == x.n - 1 && decide (k.contribs x ≤ k.sent)
  else (List.range k.count).all k.got.contains

/-- Completes the collectives at the front that are done, in SEQ order. -/
def completeGo (c : Nat) : Nat → State → State
  | 0, s => s
  | n + 1, s =>
    let x := s.ctx c
    match x.colls with
    | [] => s
    | k :: rest =>
      if k.complete x then
        completeGo c n (((s.setCtx c { x with colls := rest }).collRecord c k 0).ctxCount c 6 1)
      else s

/-- Completes what is done, and brings the state up to date. -/
def State.collNote (s : State) (c : Nat) : State := (completeGo c (s.ctx c).colls.length s).ctxNote c

/-- Abort causes (R362). -/
def abortMismatch : Nat := 1
/-- CHECK. -/
def abortCheck : Nat := 2
/-- TIMEOUT. -/
def abortTimeout : Nat := 3
/-- LOST. -/
def abortLost : Nat := 4
/-- SU_FAULT. -/
def abortSuFault : Nat := 5

/-- Discards the frames and open records of a slot that the CLE bound, without counting drops. -/
def State.clearSlot (s : State) (slot : Nat) : State := (s.discardSlot slot).wrFld Obj.bindState slot 16 48 0

/-- A context acts on an abort (R363 steps 1 to 4). -/
def State.abortHere (s : State) (c seq cause : Nat) : State :=
  if s.ctxState c = 0 ∨ s.ctxState c = 3 then s
  else
    let x := s.ctx c
    let gone := x.colls.filter fun k => decide (seq ≤ k.seq)
    let o := setBits (setBits (setBits (s.rd Obj.ctxState c) 0 2 3) 8 8 cause) 128 32 seq
    let s := s.wr Obj.ctxState c o
    let s := s.setCtx c { x with colls := x.colls.filter (fun k => decide (k.seq < seq)), parts := x.parts.filter (fun p => decide (p.seq < seq)),
                                 chunks := x.chunks.filter (fun p => decide (p.seq < seq)), early := [],
                                 outbox := x.outbox.filter (fun f => decide (cleSeq f < seq) || (cleType f == cleControl && cleSub f == 4)) }
    let s := x.slots.foldl State.clearSlot s
    (gone.foldl (fun s k => s.collRecord c k cause) s).ctxCount c 7 1

/-- Multicasts an ABORT once on this reduction point's group (R363). -/
def State.abortSpread (s : State) (c seq cause : Nat) : State :=
  let x := s.ctx c
  if !x.rp || x.aborted then s
  else (s.setCtx c { x with aborted := true }).sendControl c (x.mgBase + x.myRp) true 4 seq (s.ctxEpoch c) 0 seq 0 cause

/-- The CLE that detects a cause tells every reduction point of the group, and acts (R362, R363). -/
def State.collAbort (s : State) (c seq cause : Nat) : State :=
  if s.ctxState c = 3 ∨ s.ctxState c = 0 then s
  else
    let x := s.ctx c
    let others := x.rps.filter fun d => d != s.devId
    let s := others.foldl (fun s d => s.sendControl c d false 4 seq (s.ctxEpoch c) 0 seq 0 cause) s
    (s.abortSpread c seq cause).abortHere c seq cause

/-- Marshal reports a device as scratched (R362): every group that has it aborts with LOST. A context with nothing in progress
aborts at its next SEQ. -/
def State.collLost (s : State) (dev : Nat) : State :=
  foldUp (fun c s =>
    let x := s.ctx c
    if s.ctxState c ≠ 0 ∧ (x.members.contains dev ∨ x.rps.contains dev) then
      let seq := match x.colls, x.chunks with
        | k :: _, _ => k.seq
        | [], p :: _ => p.seq
        | [], [] => s.fld Obj.ctxState c 32 32
      s.collAbort c seq abortLost
    else s) 0 64 s

/-! ### Sending -/

/-- Where contribution chunk `i` of a collective lies in memory, and its length. -/
def CollSt.source (k : CollSt) (x : CtxSt) (i : Nat) : Nat × Nat :=
  if isExchange k.op then
    let p := exchangeAt k x x.n 0 i
    let j := sendTo x p.1
    (k.src + (k.pairAt x j).1 + 65536 * p.2, chunkLen (k.pair x j).1 p.2)
  else
    let pl := k.place x (k.chunkAt x i)
    (k.src + pl.2.1, pl.1)

/-- The outcome of the codes on the read of contribution chunk `i` (R168). -/
def State.chunkRead (s : State) (k : CollSt) (x : CtxSt) (i : Nat) (ecc : Ecc) : Bool × State :=
  let a := k.source x i
  s.eccRead ecc (bits a.1 44 4) (bits a.1 0 44) a.2

/-- Sends contribution chunk `i` of a collective on try `t`: to its reduction point, or for an exchange to its receiver. Chunk
data are read from SRC now (R346). -/
def State.sendChunk (s : State) (c : Nat) (k : CollSt) (i t : Nat) : State :=
  let x := s.ctx c
  let h (ft chunk : Nat) : CleHead := ⟨ft, t, x.rank, k.seq, k.epoch, chunk, k.digest x⟩
  let data := s.readLocal (k.source x i).1 (k.source x i).2
  if isExchange k.op then
    let p := exchangeAt k x x.n 0 i
    let j := sendTo x p.1
    s.sendParts c (x.members.getD j 0) false (h cleDirect (p.2 * 2 ^ 16 + (chunksOf (k.pair x j).1 - 1))) (partsOf data)
  else
    let g := k.first + k.chunkAt x i
    s.sendParts c (x.rps.getD (g % x.r) 0) false (h cleContrib g) (partsOf data)

/-- The chunks that the other exchanges of a context have granted and not received (R358: the bound is the context's W). -/
def CtxSt.grantsOut (x : CtxSt) (seq : Nat) : Nat :=
  ((x.colls.filter fun k => isExchange k.op && k.seq != seq).map fun k => k.recvGranted - k.recvGot.length).sum

/-- Grants the chunks of the pair being received, as far as the window of W lets it (R358). -/
def State.grantNext (s : State) (c : Nat) (k : CollSt) : State :=
  let x := s.ctx c
  if x.n - 1 ≤ k.recv then s.setColl c k
  else
    let from_ := recvFrom x k.recv
    let total := chunksOf (k.pair x from_).2
    let upto := min total (k.recvGot.length + (x.w - x.grantsOut k.seq))
    if upto ≤ k.recvGranted then s.setColl c k
    else
      let s := s.setColl c { k with recvGranted := upto, times := KMap.set k.times 0 0 s.now }
      s.sendControl c (x.members.getD from_ 0) false 1 k.seq k.epoch (k.digest x) upto 0 0

/-- The exchanges of a context grant what the window lets them, in SEQ order. -/
def State.grantAll (s : State) (c : Nat) : State :=
  ((s.ctx c).colls.filter fun k => isExchange k.op).foldl (fun s k => s.grantNext c ((s.collOf c k.seq).getD k)) s

/-- The member's own pair, copied without grants, last (R358). Different counts are a MISMATCH (R359). -/
def State.copyOwn (s : State) (c : Nat) (k : CollSt) : State :=
  let x := s.ctx c
  let p := k.pair x x.rank
  if p.1 ≠ p.2 then s.collAbort c k.seq abortMismatch
  else
    let at_ := k.pairAt x x.rank
    let s := s.writeLocal (k.dst + at_.2) (s.readLocal (k.src + at_.1) p.1)
    (s.setColl c { k with sent := k.contribs x, recv := if k.recv = x.n - 1 then x.n else k.recv }).collNote c

/-- The next contribution chunk that a context may send: its collective and index. For an exchange it must be granted, for the
others lie in the window (R356, R358). -/
def State.nextSend (s : State) (c : Nat) : Option (CollSt × Nat) :=
  let x := s.ctx c
  x.colls.findSome? fun k =>
    if k.handed ≤ k.sent then none
    else if isExchange k.op then
      let p := exchangeAt k x x.n 0 k.sent
      if p.1 = x.n - 1 ∨ p.2 < KMap.get k.granted 0 (sendTo x p.1) then some (k, k.sent) else none
    else if k.first + k.chunkAt x k.sent < s.windowBase c + x.w then some (k, k.sent) else none

/-- CHUNK_SEND (R346, R356, R358): the CLE sends the next chunk of a context that may go. `ecc` is the outcome of the read of
SRC. -/
def execChunkSend (ctx : Nat) (ecc : Ecc) (s : State) : Res :=
  if 64 ≤ ctx then .fault .noSuchUnit
  else if s.scratched || !(s.ctxState ctx == 2 || s.ctxState ctx == 3) then .next s
  else
    match s.nextSend ctx with
    | none => .next s
    | some (k, i) =>
      let x := s.ctx ctx
      match s.chunkRead k x i ecc with
      | (false, s) => .next s
      | (true, s) =>
        if isExchange k.op ∧ (exchangeAt k x x.n 0 i).1 = x.n - 1 then
          -- the member's own pair comes last, once what it receives is there
          if k.recv = x.n - 1 ∧ k.contribs x ≤ k.handed then .next (s.copyOwn ctx k) else .next s
        else
          let s := (s.sendChunk ctx k i 0).ctxCount ctx 0 1
          let times := KMap.set k.times 0 (if isExchange k.op then 1 else k.chunkAt x i) s.now
          .next (s.setColl ctx { k with sent := i + 1, times := times })

/-! ### Parts -/

/-- The assembly of a chunk. -/
def State.assembly (s : State) (c seq chunk rank : Nat) : Assembly :=
  ((s.ctx c).parts.find? fun p => p.seq == seq && p.chunk == chunk && p.rank == rank).getD ⟨seq, chunk, rank, 0, [], s.now⟩

/-- Replaces an assembly. -/
def State.setAssembly (s : State) (c : Nat) (a : Assembly) : State :=
  let rest := (s.ctx c).parts.filter fun p => !(p.seq == a.seq && p.chunk == a.chunk && p.rank == a.rank)
  s.setCtx c { s.ctx c with parts := rest ++ [a] }

/-- Takes an assembly away. -/
def State.dropAssembly (s : State) (c : Nat) (a : Assembly) : State :=
  s.setCtx c { s.ctx c with parts := (s.ctx c).parts.filter fun p => !(p.seq == a.seq && p.chunk == a.chunk && p.rank == a.rank) }

/-- The payloads of a whole chunk in part order, none while a part is missing. -/
def Assembly.whole (a : Assembly) : Option (List (List Byte) × Nat) :=
  match a.parts with
  | [] => none
  | (_, h, _) :: _ =>
    let n := bits h 148 4 + 1
    let get (p : Nat) : Option (Nat × List Byte) := (a.parts.find? fun q => q.1 == p).map (·.2)
    let got := (List.range n).filterMap get
    if got.length = n then some (got.map (·.2), (got.getLast?.map (·.1)).getD 0) else none

/-- Whether a whole chunk's check value verifies (R349). -/
def checkChunk (payloads : List (List Byte)) (last : Nat) : Bool :=
  chunkCrc payloads (bits last 0 192 - bits last 0 32) == bits last 0 32

/-- The source of a result chunk's assembly. -/
def resultRank : Nat := 4096
/-- The source of the assembly of a DIRECT chunk of a member. -/
def directRank (r : Nat) : Nat := 4097 + r

/-- The key under which a collective remembers that a chunk has failed once. -/
def failKey (rank chunk : Nat) : Nat := rank * 2 ^ 32 + chunk

/-- Whether a chunk has failed before, on its parts or by a timeout (R361). -/
def State.failedOnce (s : State) (c : Nat) (a : Assembly) : Bool :=
  a.try_ != 0 || (match s.collOf c a.seq with | some k => k.failed.contains (failKey a.rank a.chunk) | none => false)

/-- A chunk has failed its check (R361): the first time it is asked for again, the second aborts with `cause`. -/
def State.chunkFails (s : State) (c : Nat) (a : Assembly) (source cause : Nat) : State :=
  let s := s.ctxCount c 2 1
  if !s.failedOnce c a then
    let s := (s.setAssembly c { a with try_ := 1, parts := [], since := s.now }).ctxCount c 3 1
    let s := match s.collOf c a.seq with
      | some k => s.setColl c { k with retries := k.retries + 1, failed := failKey a.rank a.chunk :: k.failed }
      | none => s
    s.sendControl c source false 2 a.seq (s.ctxEpoch c) 0 a.chunk 0 0
  else s.collAbort c a.seq cause

/-- A part of a chunk arrives: stale ones are discarded and counted (R351). The whole chunk, once it verifies. -/
def State.partIn (s : State) (c chunk rank source : Nat) (f : Frame) : Option (Assembly × List (List Byte)) × State :=
  let a := s.assembly c (cleSeq f) chunk rank
  if cleSub f < a.try_ then (none, s.ctxCount c 5 1)
  else
    let a := { a with parts := a.parts.filter (fun (p : Nat × Nat × List Byte) => p.1 != clePart f) ++ [(clePart f, f.hdr, f.payload)],
                      since := if a.parts.isEmpty then s.now else a.since }
    match a.whole with
    | none => (none, s.setAssembly c a)
    | some (ps, last) =>
      if checkChunk ps last then (some (a, ps), (s.dropAssembly c a).ctxCount c 1 1)
      else (none, s.chunkFails c a source abortCheck)

/-! ### The reduction point -/

/-- What a reduction point takes a SEQ's operation to be: its own collective's where it is a member, else what the command
says, since no frame carries it (log entry 29). -/
def State.rpOp (s : State) (c seq op : Nat) : Nat := match s.collOf c seq with | some k => k.op | none => op

/-- The chunk at a reduction point. -/
def State.rpChunk (s : State) (c seq g : Nat) : Option RpChunk :=
  (s.ctx c).chunks.find? fun p => p.seq == seq && p.gchunk == g

/-- Replaces it. -/
def State.setRpChunk (s : State) (c : Nat) (r : RpChunk) : State :=
  let rest := (s.ctx c).chunks.filter fun p => !(p.seq == r.seq && p.gchunk == r.gchunk)
  s.setCtx c { s.ctx c with chunks := rest ++ [r] }

/-- Hands a contribution's parts to the stream units (R340, R352). -/
def State.toSus (s : State) (c : Nat) (a : Assembly) : State :=
  let x := s.ctx c
  a.parts.foldl (fun s p =>
    match x.slots[p.1 % x.slots.length]? with
    | some slot => s.suTake slot 76 ⟨p.2.1, p.2.2⟩
    | none => s) s

/-- CONTRIB (R351, R352): a part of a contribution arrives at a reduction point. `op` is the operation it is for, where this
module has no collective of its own that says it. -/
def execContribFrame (f : Frame) (op : Nat) (s : State) : Res :=
  match s.findCtx (cleGroup f) true with
  | none => .next s
  | some c =>
    let seq := cleSeq f
    let g := cleChunk f
    let rank := cleRank f
    if s.scratched || cleType f != cleContrib then .next s
    else if !s.ctxTakes c (cleEpoch f) seq then .next (s.ctxCount c 5 1)
    else
      let x := s.ctx c
      let before := s.rpChunk c seq g
      let kept := x.retained.any fun r => r.1 == seq && r.2.1 == g
      if kept || (match before with | some r => r.taken.contains rank | none => false) then .next (s.ctxCount c 5 1)
      else
        match s.partIn c g rank (x.members.getD rank 0) f with
        | (none, s) => .next (s.ctxNote c)
        | (some (a, ps), s) =>
          let x := s.ctx c
          let lens : List Nat := ps.map (·.length)
          let want : List Nat := match s.collOf c seq with
            | some k => (partsOf (List.replicate (k.place x (g - k.first)).1 0)).map (·.length)
            | none => lens
          let op := s.rpOp c seq op
          let ref := (KMap.get x.digests none seq).getD (cleDigest f)
          let r := (s.rpChunk c seq g).getD ⟨seq, g, op, lens, [], []⟩
          if cleDigest f ≠ ref ∨ r.lens ≠ lens ∨ lens ≠ want then .next (s.collAbort c seq abortMismatch)
          else
            let low := match KMap.get x.firsts none seq with | some y => min y g | none => g
            let s := s.setCtx c { s.ctx c with digests := KMap.set x.digests none seq (some ref), firsts := KMap.set x.firsts none seq (some low) }
            let r := { r with taken := r.taken ++ [rank] }
            if isMove op then .next ((s.setRpChunk c { r with results := ps.zipIdx.map fun p => (p.2, p.1) }).ctxNote c)
            else .next (((s.setRpChunk c r).toSus c a).ctxNote c)

/-- A result part of a chunk comes back from a stream unit (R352). -/
def State.resultPart (s : State) (c seq g part : Nat) (bs : List Byte) : State :=
  match s.rpChunk c seq g with
  | some r => s.setRpChunk c { r with results := r.results ++ [(part, bs)] }
  | none => s

/-- The RSUM instruction of the reduction program of a group (R321, R340): its types, operation and number of parts. -/
def CtxSt.reduceWord (x : CtxSt) : Nat :=
  2 ^ 50 + 2 ^ 45 + 3 * 2 ^ 38 + 2 ^ 36 * bits x.desc 54 2 + 2 ^ 32 * x.typeOut + 2 ^ 30 * x.mode + 2 ^ 26 * x.typeIn
    + 2 ^ 14 * (x.n - 1)

/-- A run of the CLE's reduction program (R340, R352): one RSUM with the group's settings; a complete record's part goes to the
CLE. The cycles of the program's other instructions are open: a free value. -/
def State.reduceRun (s : State) (u : Nat) (r : SuRun) : State :=
  let f := r.frame
  match s.findCtx (cleGroup f) true with
  | none => s.endRun u r 3
  | some c =>
    let x := s.ctx c
    let key := cleChunk f * 16 + clePart f
    let g (k : Nat) : Nat := if k = 2 then key else if k = 3 then cleRank f else 0
    match s.rsum u r x.reduceWord g with
    | .go s r cyc =>
      let done := r.reg [] 1 == 1
      let e := r.payload.length / x.sIn
      let s := if done then s.resultPart c (cleSeq f) (cleChunk f) (clePart f) (r.outBytes 0 (e * x.sOut)) else s
      (s.drawn.endRun u { r with cycles := r.cycles + cyc + s.draw 0 } 1)
    | .fault s r code => (s.runFault u r code).collAbort c (cleSeq f) abortSuFault
    | _ => s

/-- SU_RUN_START (R310, R311, R352): the frame that waits longest starts its run; Guard work goes first. A run of the CLE's own
program is performed whole. -/
def execSuRunStart (su : Nat) (s : State) : Res :=
  if 32 ≤ su then .fault .noSuchUnit
  else
    let x := s.su su
    match x.run, x.waiting with
    | none, w :: rest =>
      if s.scratched || s.guardWaits su then .next s
      else
        let r : SuRun := { slot := w.slot, ingress := w.ingress, frame := w.frame, payload := w.frame.payload, ohdr := w.frame.hdr,
                           out := [], regs := [], pc := 0, executed := 0, cycles := 4, id := x.nextRun,
                           seed := s.rd Obj.rngSeed 0, rank := s.logicalRank, free := s.free }
        let s := if s.logicalRank.isNone then s.drawn else s
        let x := { x with waiting := rest, nextRun := x.nextRun + 1 }
        if s.slotKind w.slot = 3 then .next ((s.setSu su x).reduceRun su r)
        else .next (s.setSu su { x with run := some r })
    | _, _ => .next s

/-- Sends a result's parts (R353): multicast on the group of this reduction point, or to one member. -/
def State.sendResult (s : State) (c seq g t : Nat) (parts : List (List Byte)) (dest : Option Nat) : State :=
  let x := s.ctx c
  let h : CleHead := ⟨cleResult, t, x.myRp, seq, s.ctxEpoch c, g, (KMap.get x.digests none seq).getD 0⟩
  match dest with
  | some d => s.sendParts c d false h parts
  | none => s.sendParts c (x.mgBase + x.myRp) true h parts

/-- RESULT_ASSEMBLE (R353, R357): a chunk of a context whose result parts are all present is sent as R344 directs and retained.
`target` is the member rank that REDUCE or REDUCE_SCATTER sends it to, where this module has no collective of its own that
says it (log entry 29). -/
def execResultAssemble (ctx target : Nat) (s : State) : Res :=
  if 64 ≤ ctx then .fault .noSuchUnit
  else
    let x := s.ctx ctx
    match x.chunks.find? (fun r => r.results.length == r.lens.length) with
    | none => .next s
    | some r =>
      if s.scratched then .next s
      else
        let got := (List.range r.lens.length).map fun p => ((r.results.find? fun q => q.1 == p).map (·.2)).getD []
        let parts := resultParts got.flatten
        let target := match s.collOf ctx r.seq with
          | some k => if k.op = 2 then k.root else (r.gchunk - k.first) / chunksOf (k.span x)
          | none => target
        let keep := ceilDiv x.w x.r
        let retained := x.retained ++ [(r.seq, r.gchunk, parts)]
        let s := s.setCtx ctx { x with chunks := x.chunks.filter (fun p => !(p.seq == r.seq && p.gchunk == r.gchunk)),
                                       retained := retained.drop (retained.length - keep) }
        if r.op = 2 ∨ r.op = 3 then
          let s := s.sendResult ctx r.seq r.gchunk 0 parts (some (x.members.getD target 0))
          let digest := (KMap.get x.digests none r.seq).getD 0
          let s := s.sendControl ctx (x.mgBase + x.myRp) true 3 r.seq (s.ctxEpoch ctx) digest r.gchunk 0 0
          .next ((s.ctxCount ctx 0 1).ctxNote ctx)
        else .next (((s.sendResult ctx r.seq r.gchunk 0 parts none).ctxCount ctx 0 1).ctxNote ctx)

/-! ### The member -/

/-- Posts RES_FLAG for a chunk written (R354). -/
def State.resFlag (s : State) (c : Nat) (k : CollSt) : State :=
  let flag := bits k.desc 288 8
  if flag = 0 then s else s.addFlag (s.ctx c).owner flag 1 none

/-- A RESULT part at a member whose collective has started (R354). -/
def State.resultIn (s : State) (c : Nat) (k : CollSt) (f : Frame) : State :=
  let x := s.ctx c
  let g := cleChunk f
  let ch := g - k.first
  if g < k.first ∨ k.count ≤ ch ∨ k.got.contains ch then s.ctxCount c 5 1
  else
    match s.partIn c g resultRank (x.rps.getD (g % x.r) 0) f with
    | (none, s) => s
    | (some (_, ps), s) =>
      if cleDigest f ≠ k.digest x ∨ (k.mine x ch ∧ ps.map (·.length) ≠ (resultParts (List.replicate (k.resultLen x ch) 0)).map (·.length)) then
        s.collAbort c k.seq abortMismatch
      else if k.mine x ch then
        let s := s.writeLocal (k.dst + (k.place x ch).2.2) ps.flatten
        let k := ((s.collOf c k.seq).getD k)
        ((s.setColl c { k with got := ch :: k.got, written := k.written + 1 }).resFlag c k).collNote c
      else
        let k := ((s.collOf c k.seq).getD k)
        (s.setColl c { k with got := ch :: k.got }).collNote c

/-- A DONE at a member (R353, R354). -/
def State.doneIn (s : State) (c : Nat) (k : CollSt) (f : Frame) : State :=
  let g := cleArg0 f
  let ch := g - k.first
  if cleDigest f ≠ k.digest (s.ctx c) then s.collAbort c k.seq abortMismatch
  else if g < k.first ∨ k.count ≤ ch ∨ k.got.contains ch ∨ k.mine (s.ctx c) ch then s
  else (s.setColl c { k with got := ch :: k.got }).collNote c

/-- A GRANT at a sender of an exchange (R358): its sender is known by its device ID. -/
def State.grantIn (s : State) (c : Nat) (k : CollSt) (f : Frame) : State :=
  let x := s.ctx c
  match x.members.findIdx? (fun d => d == f.src) with
  | none => s
  | some j =>
    let ended := (leCode (sliceBytes f.payload 4 4)).testBit 0
    let k := { k with granted := KMap.set k.granted 0 j (max (KMap.get k.granted 0 j) (cleArg0 f)), times := KMap.set k.times 0 1 s.now,
                      ended := if ended ∧ !k.ended.contains j then j :: k.ended else k.ended }
    (s.setColl c k).collNote c

/-- A DIRECT part at a receiver (R354, R358, R359). -/
def State.directIn (s : State) (c : Nat) (k : CollSt) (f : Frame) : State :=
  let x := s.ctx c
  let from_ := cleRank f
  let idx := bits f.hdr 84 16
  let total := bits f.hdr 68 16 + 1
  if k.recv ≥ x.n - 1 ∨ from_ ≠ recvFrom x k.recv ∨ k.recvGot.contains idx then s.ctxCount c 5 1
  else
    match s.partIn c idx (directRank from_) (x.members.getD from_ 0) f with
    | (none, s) => s
    | (some (_, ps), s) =>
      let span := (k.pair x from_).2
      if cleDigest f ≠ k.digest x ∨ total ≠ chunksOf span
          ∨ ps.map (·.length) ≠ (partsOf (List.replicate (chunkLen span idx) 0)).map (·.length) then
        s.collAbort c k.seq abortMismatch
      else
        let s := s.writeLocal (k.dst + (k.pairAt x from_).2 + 65536 * idx) ps.flatten
        let k := ((s.collOf c k.seq).getD k)
        let s := s.resFlag c k
        let k := { k with recvGot := idx :: k.recvGot, written := k.written + 1, times := KMap.set k.times 0 0 s.now }
        if k.recvGot.length = total then
          let s := s.sendControl c (x.members.getD from_ 0) false 1 k.seq k.epoch (k.digest x) total 1 0
          ((s.grantNext c { k with recv := k.recv + 1, recvGranted := 0, recvGot := [] }).grantAll c).collNote c
        else (s.grantNext c k).grantAll c

/-- Whether an exchange's frames are the member's. -/
def State.memberFrame (s : State) (c : Nat) (k : CollSt) (f : Frame) : State :=
  if cleType f = cleResult then s.resultIn c k f
  else if cleType f = cleDirect then (if isExchange k.op then s.directIn c k f else s)
  else if cleSub f = 1 then (if isExchange k.op then s.grantIn c k f else s)
  else if cleSub f = 3 then s.doneIn c k f
  else s

/-- A frame for a member: acted on by its collective, kept where that has not started here yet, else discarded. -/
def State.toMember (s : State) (f : Frame) : State :=
  match s.findCtx (cleGroup f) false with
  | none => s
  | some c =>
    if s.scratched then s
    else if !s.ctxTakes c (cleEpoch f) (cleSeq f) then s.ctxCount c 5 1
    else
      match s.collOf c (cleSeq f) with
      | some k => (s.memberFrame c k f).ctxNote c
      | none =>
        if s.fld Obj.ctxState c 32 32 ≤ cleSeq f then s.setCtx c { s.ctx c with early := (s.ctx c).early ++ [f] }
        else s.ctxCount c 5 1

/-- RESULT (R354, R360). -/
def execResultFrame (f : Frame) (s : State) : Res := .next (if cleType f = cleResult then s.toMember f else s)
/-- DIRECT (R358, R359). -/
def execDirectFrame (f : Frame) (s : State) : Res := .next (if cleType f = cleDirect then s.toMember f else s)
/-- GRANT (R358). -/
def execGrantFrame (f : Frame) (s : State) : Res := .next (if cleType f = cleControl ∧ cleSub f = 1 then s.toMember f else s)
/-- DONE (R353, R354). -/
def execDoneFrame (f : Frame) (s : State) : Res := .next (if cleType f = cleControl ∧ cleSub f = 3 then s.toMember f else s)

/-- The contribution chunk that a RETRY asks a member for: that of a global chunk, or of an exchange's chunk to the member that
asks; whether it has been sent or not. -/
def CollSt.retryIndex (k : CollSt) (x : CtxSt) (arg src : Nat) : Option Nat :=
  (List.range (k.contribs x)).find? fun i =>
    if isExchange k.op then
      let p := exchangeAt k x x.n 0 i
      p.2 == arg && x.members.getD (sendTo x p.1) 0 == src
    else k.first + k.chunkAt x i == arg && x.rps.getD (arg % x.r) 0 == src

/-- Whether a RETRY for a global chunk is one for its result, at a reduction point that has not completed it: another member
asks, or this module itself, whose contribution it has taken. -/
def State.resultAsked (s : State) (c seq arg src : Nat) : Bool :=
  (s.ctx c).rp && (s.ctx c).rps.getD (arg % (s.ctx c).r) 0 == s.devId
    && (src != s.devId || (match s.rpChunk c seq arg with | some r => r.taken.contains (s.ctx c).rank | none => false))

/-- A member answers a RETRY (R361): it sends the chunk again with TRY 1. A receiver of an exchange that asks for a chunk which
has not been sent has granted it: the GRANT was lost, and the chunk is sent in its order (log entry 87). -/
def State.answerRetry (s : State) (c : Nat) (k : CollSt) (arg src : Nat) (ecc : Ecc) : State :=
  let x := s.ctx c
  match k.retryIndex x arg src with
  | none => s
  | some i =>
    if k.sent ≤ i then
      if isExchange k.op then
        let j := sendTo x (exchangeAt k x x.n 0 i).1
        s.setColl c { k with granted := KMap.set k.granted 0 j (max (KMap.get k.granted 0 j) (arg + 1)) }
      else s
    else
      match s.chunkRead k x i ecc with
      | (false, s) => s
      | (true, s) => (s.sendChunk c k i 1).ctxCount c 4 1

/-- RETRY (R361): a reduction point answers from its retained copy, unicast; a member sends its chunk again with TRY 1. `ecc`
is the outcome of the read of SRC. -/
def execRetryFrame (f : Frame) (ecc : Ecc) (s : State) : Res :=
  if s.scratched || cleType f != cleControl || cleSub f != 2 then .next s
  else
    let arg := cleArg0 f
    let seq := cleSeq f
    let rp := s.findCtx (cleGroup f) true
    let kept := match rp with
      | some c => ((s.ctx c).retained.find? fun r => r.1 == seq && r.2.1 == arg).map fun r => (c, r.2.2)
      | none => none
    match kept with
    | some (c, parts) =>
      if s.ctxTakes c (cleEpoch f) seq then .next ((s.sendResult c seq arg 1 parts (some f.src)).ctxCount c 4 1)
      else .next (s.ctxCount c 5 1)
    | none =>
      match s.findCtx (cleGroup f) false with
      | none => .next s
      | some c =>
        if !s.ctxTakes c (cleEpoch f) seq then .next (s.ctxCount c 5 1)
        else
          match s.collOf c seq with
          | none => .next s
          | some k => .next (if !isExchange k.op && s.resultAsked c seq arg f.src then s else s.answerRetry c k arg f.src ecc)

/-- ABORT (R363): every context of the group acts on it; a reduction point passes it on once. -/
def execAbortFrame (f : Frame) (s : State) : Res :=
  if s.scratched || cleType f != cleControl || cleSub f != 4 then .next s
  else
    let cause := bits (leCode f.payload) 64 8
    let seq := cleArg0 f
    let act (c : Nat) (s : State) : State :=
      if s.ctxState c ≠ 0 ∧ (s.ctx c).group = cleGroup f ∧ s.ctxEpoch c = cleEpoch f ∧ s.ctxState c ≠ 3 then
        (s.abortSpread c seq cause).abortHere c seq cause
      else s
    .next (foldUp act 0 64 s)

/-- CHUNK_TIMEOUT (R361): a chunk of a context whose parts have not all come within CHUNK_TIMEOUT of the first. -/
def execChunkTimeout (ctx : Nat) (s : State) : Res :=
  if 64 ≤ ctx then .fault .noSuchUnit
  else
    let x := s.ctx ctx
    let limit := s.fld Obj.collTimeout 0 0 32
    match x.parts.find? (fun a => !a.parts.isEmpty && decide (a.since + limit ≤ s.now)) with
    | none => .next s
    | some a =>
      if s.scratched then .next s
      else
        let source := if a.rank < resultRank then x.members.getD a.rank 0
          else if a.rank = resultRank then x.rps.getD (a.chunk % x.r) 0 else x.members.getD (a.rank - directRank 0) 0
        .next ((s.chunkFails ctx a source abortTimeout).ctxNote ctx)

/-- An outstanding chunk of a member whose wait has expired (R361): the key under which its failure is remembered, the argument
and the target of its RETRY, or the chunk that this member sends again, where it is the chunk's source itself; and the timer. -/
structure LateChunk where
  key : Nat
  arg : Nat
  source : Nat
  again : Option Nat
  timer : Nat
  deriving DecidableEq, Repr

/-- Whether a timer of a collective has expired. -/
def State.collDue (s : State) (k : CollSt) (timer : Nat) : Bool :=
  decide (max k.start (KMap.get k.times 0 timer) + 1000 * s.fld Obj.collTimeout 0 32 32 ≤ s.now)

/-- The last activity of a collective: its start, or its latest send, retry or grant. -/
def CollSt.latest (k : CollSt) : Nat := k.times.foldl (fun t x => max t x.2) k.start

/-- The late chunk of an exchange: one granted and not received; or the last one sent to a receiver that has neither granted
another since nor ended the pair. A chunk that is not granted yet is not outstanding. -/
def State.lateExchange (s : State) (x : CtxSt) (k : CollSt) : Option LateChunk :=
  let from_ := recvFrom x k.recv
  let got := (List.range k.recvGranted).find? fun i => !k.recvGot.contains i
  match (if k.recv < x.n - 1 ∧ s.collDue k 0 then got else none) with
  | some i => some ⟨failKey (directRank from_) i, i, x.members.getD from_ 0, none, 0⟩
  | none =>
    if k.sent = 0 then none
    else
      let p := exchangeAt k x x.n 0 (k.sent - 1)
      let j := sendTo x p.1
      if p.1 < x.n - 1 ∧ !k.ended.contains j ∧ KMap.get k.granted 0 j ≤ p.2 + 1 ∧ s.collDue k 1 then
        some ⟨failKey (2 ^ 16) (k.sent - 1), p.2, x.members.getD j 0, some (k.sent - 1), 1⟩
      else none

/-- The late chunk of a collective that goes through reduction points: in the window, with neither result nor DONE, within
RESULT_TIMEOUT of its send; of a chunk that this member does not contribute, of its last send or retry in the collective. -/
def State.lateResult (s : State) (c : Nat) (x : CtxSt) (k : CollSt) : Option LateChunk :=
  let due (i : Nat) : Bool :=
    match (List.range (k.contribs x)).find? fun q => k.chunkAt x q == i with
    | some q => decide (q < k.sent) && s.collDue k i
    | none => decide (k.latest + 1000 * s.fld Obj.collTimeout 0 32 32 ≤ s.now)
  ((List.range k.count).find? fun i => !k.got.contains i && due i && decide (k.first + i < s.windowBase c + x.w)).map fun i =>
    ⟨failKey resultRank (k.first + i), k.first + i, x.rps.getD ((k.first + i) % x.r) 0, none, i⟩

/-- RESULT_TIMEOUT (R361): a member's outstanding chunk has had no result, DONE or grant within RESULT_TIMEOUT of its last send
or grant. The first time its source is asked again, or sends it again where that is this member; the second aborts. -/
def execResultTimeout (ctx : Nat) (s : State) : Res :=
  if 64 ≤ ctx then .fault .noSuchUnit
  else if s.scratched then .next s
  else
    let x := s.ctx ctx
    let late (k : CollSt) : Option (CollSt × LateChunk) :=
      (if isExchange k.op then s.lateExchange x k else s.lateResult ctx x k).map fun l => (k, l)
    match x.colls.findSome? late with
    | none => .next s
    | some (k, l) =>
      let s := s.ctxCount ctx 2 1
      if k.failed.contains l.key then .next (s.collAbort ctx k.seq abortTimeout)
      else
        let k := { k with failed := l.key :: k.failed, times := KMap.set k.times 0 l.timer s.now }
        match l.again with
        | some i => .next ((s.setColl ctx k).sendChunk ctx k i 1)
        | none =>
          let s := (s.setColl ctx { k with retries := k.retries + 1 }).ctxCount ctx 3 1
          .next (s.sendControl ctx l.source false 2 k.seq k.epoch 0 l.arg 0 0)

/-! ### Accepting a COLL -/

/-- Whether a global address range lies in region 0, 1 or 2 of this module (R343). -/
def State.rangeHere (s : State) (addr len : Nat) : Bool :=
  bits addr 48 16 == s.devId && decide (bits addr 44 4 ≤ 2) && s.mapped (bits addr 44 4) (bits addr 0 44) (max 1 len)

/-- The count table of an ALL_TO_ALLV (R359). -/
def State.countTable (s : State) (addr n : Nat) : List (Nat × Nat) :=
  (List.range n).map fun j =>
    let e := leCode (s.readLocal (addr + 16 * j) 16)
    (bits e 0 64, bits e 64 64)

/-- A collective descriptor's start (R343, R344, R347 code 5): none where it is invalid. -/
def State.collStart (s : State) (c addr : Nat) (ring : Option Nat) : Option CollSt :=
  let x := s.ctx c
  if !s.rangeHere addr 64 then none
  else
    let d := leCode (s.readLocal addr 64)
    let op := bits d 0 8
    let root := bits d 8 12
    let elems := bits d 32 64
    let span := elems * x.sIn
    let table := if op = 7 ∧ s.rangeHere (bits d 304 64) (16 * x.n) then s.countTable (bits d 304 64) x.n else []
    let tableOk := op != 7 || (table.length == x.n && table.all fun p =>
      p.1 % x.sIn == 0 && p.2 % x.sIn == 0 && decide (p.1 < 2 ^ 32) && decide (p.2 < 2 ^ 32))
    let srcLen := if op = 7 then (table.map (·.1)).sum else if op = 3 ∨ op = 6 then x.n * span else span
    let dstLen := if op = 7 then (table.map (·.2)).sum else if op = 4 ∨ op = 6 then x.n * span
      else if op = 5 then span else elems * x.sOut
    let count := globalChunks op x.n span
    let ok := decide (1 ≤ op) && decide (op ≤ 8) && bits d 20 12 == 0 && bits d 368 144 == 0
      && (if op = 2 ∨ op = 5 then decide (root < x.n) else root == 0)
      && (!(op == 7 || op == 8) || elems == 0) && (op == 7 || bits d 304 64 == 0) && tableOk
      && s.rangeHere (bits d 96 64) srcLen && s.rangeHere (bits d 160 64) dstLen && s.rangeHere (bits d 224 64) 32
      && bits d 224 5 == 0 && decide (count ≤ 2 ^ 20)
    let k : CollSt :=
      { seq := s.fld Obj.ctxState c 32 32, epoch := s.ctxEpoch c, desc := d, first := s.fld Obj.ctxState c 96 32,
        count := count, table := table, handed := 0, sent := 0, got := [], failed := [], times := [], retries := 0,
        written := 0, ring := ring, start := s.now, granted := [], ended := [], recv := 0, recvGranted := 0, recvGot := [] }
    if ok && decide (k.contribs x ≤ 2 ^ 20) then some k else none

/-- The last collective of a context still has chunks to hand. -/
def CtxSt.unhanded (x : CtxSt) : Option CollSt :=
  match x.colls.getLast? with
  | some k => if k.handed < k.contribs x then some k else none
  | none => none

/-- A collective starts at this member (R345): SEQ and GCHUNK move on, an exchange grants, and frames that came early are
taken. -/
def State.collBegin (s : State) (c : Nat) (k : CollSt) : State :=
  let x := s.ctx c
  let mine := x.early.filter fun f => cleSeq f == k.seq
  let s := s.setCtx c { x with colls := x.colls ++ [k], early := x.early.filter (fun f => cleSeq f != k.seq),
                               firsts := KMap.set x.firsts none k.seq (some k.first) }
  let s := (s.wrFld Obj.ctxState c 32 32 (k.seq + 1)).wrFld Obj.ctxState c 96 32 (k.first + k.count)
  let s := s.wrFld Obj.ctxState c 0 2 2
  let s := if isExchange k.op then s.grantNext c k else s
  (mine.foldl (fun s f => match s.collOf c k.seq with
    | some k => s.memberFrame c k f
    | none => s) s).collNote c

/-- COLL at the CLE (R346, R347): the code of the refusal, or the state with the chunks handed. `all` hands every contribution
chunk (R413). -/
def State.collAccept (s : State) (core c addr first n : Nat) (all : Bool) (ring : Option Nat) : Except Nat State :=
  let x := s.ctx c
  if 64 ≤ c ∨ s.ctxState c = 0 ∨ !x.member ∨ core ≠ x.owner then .error 1
  else if s.ctxState c = 3 then .error 2
  else if first = 0 then
    if x.unhanded.isSome then .error 3
    else
      match s.collStart c addr ring with
      | none => .error 5
      | some k =>
        let total := k.contribs x
        let hand := if all then total else if total = 0 ∧ n = 1 then 0 else n
        if total < hand then .error 4
        else .ok (s.collBegin c { k with handed := hand })
  else
    match x.unhanded with
    | none => .error 3
    | some k =>
      if first ≠ k.handed then .error 3
      else if k.contribs x < first + n then .error 4
      else .ok (s.setColl c { k with handed := first + n })

/-- Records a refused COLL of a core (R347). -/
def State.collError (s : State) (core code c ord : Nat) : State :=
  if s.fld Obj.collError core 0 8 = 0 then s.wr Obj.collError core (code + (c % 64) * 2 ^ 8 + (ord % 2 ^ 64) * 2 ^ 64)
  else s.inc Obj.collError core 32 32 1

/-! ### Setting contexts up -/

/-- The record state of one 4,096-byte frame in pool buffers (R339). -/
def recSlots (mode : Nat) (fin : Fmt) (size : Nat) : Nat :=
  ceilDiv (4096 / (fin.width / 8) * (if fin = .int32 then 8 else if mode = 1 then 48 else 4)) size

/-- Check 3 of SETUP (R338). -/
def State.groupDescOk (s : State) (x : CtxSt) : Bool :=
  let d := x.desc
  let formats := match ecFormat x.typeIn, ecFormat x.typeOut with
    | some i, some o => ((i == .int32) == (o == .int32)) && x.mode != 3 && !(x.mode == 1 && i == .fp32)
    | _, _ => false
  x.group != 0 && decide (2 ≤ x.n) && bits d 78 2 == 0 && bits d 92 4 == 0 && bits d 103 1 == 0 && bits d 192 64 == 0
    && (x.member || x.rp) && !(x.member && (!s.hasCompute || !s.hasCore x.owner)) && decide (x.mgBase + x.r - 1 ≤ 4095)
    && (!x.member || (decide (x.rank < x.n) && s.rd Obj.memberTable x.rank == s.devId))
    && (!x.rp || (decide (x.myRp < x.r) && s.rd Obj.rpTable x.myRp == s.devId))
    && (List.range x.n).all (fun i => decide (s.rd Obj.memberTable i ≤ 0x0FFF))
    && (List.range x.r).all (fun i => decide (s.rd Obj.rpTable i ≤ 0x0FFF)) && formats

/-- Check 6 of SETUP (R338). -/
def State.groupTreeOk (s : State) (x : CtxSt) : Bool :=
  (List.range x.r).all fun i =>
    let m := s.rd Obj.mcActive (x.mgBase + i)
    m.testBit 64 && bits m 72 3 == 3 && (!x.member || m.testBit 75) && (!(x.rp && i == x.myRp) || m.testBit 65)

/-- The lowest free slot of each stream unit that has one (R340). -/
def State.freeSlots (s : State) : List Nat :=
  (List.range 32).filterMap fun u => ((List.range 8).map (8 * u + ·)).find? fun k =>
    !(s.rd Obj.programInfo k).testBit 0 && !s.slotBound k && !s.slotReserved k

/-- Loads and binds a slot for the CLE (R340); a FAST group's program is ARRIVAL (R318, R334). The length of its ROM program is open: a free value. -/
def State.bindCle (s : State) (x : CtxSt) (slot : Nat) : State :=
  let loads := s.fld Obj.programInfo slot 64 64 + 1
  let desc := 3 + bits x.desc 56 6 * 2 ^ 8 + bits x.desc 104 8 * 2 ^ 32
  let s := (s.wr Obj.programInfo slot (1 + b2n (x.mode == 2) * 2 + (s.draw 0 % 2 ^ 9) * 2 ^ 8 + (loads % 2 ^ 64) * 2 ^ 64)).drawn
  let s := (s.wr Obj.bindState slot (1 + 3 * 2 ^ 2 + desc * 2 ^ 64)).wr Obj.suFault slot 0
  s.setSu (slot / 8) { s.su (slot / 8) with kept := (s.su (slot / 8)).kept.filter fun p => p.1 / 64 != slot }

/-- The status that a group command leaves in 9000.04. -/
def State.groupStatus (s : State) (code : Nat) : State := s.wrFld Obj.groupCmd 0 0 8 code

/-- GROUP_SETUP (R337 to R340): SETUP on 9000.04; `ecc` is the outcome of the reads of the pool's link words. -/
def execGroupSetup (ecc : Ecc) (s : State) : Res :=
  let d := s.rd Obj.groupDesc 0
  let x : CtxSt := { CtxSt.init with desc := d }
  let x := { x with members := (List.range x.n).map (s.rd Obj.memberTable), rps := (List.range x.r).map (s.rd Obj.rpTable) }
  let pool := bits d 56 6
  let size := s.poolSize pool
  let rec_ := match ecFormat x.typeIn with | some f => recSlots x.mode f size | none => 0
  let need := (if x.member then 16 * x.w else 0) + (if x.rp then 16 * ceilDiv x.w x.r * (x.n + rec_ + 1) else 0)
  let sus := 2 ^ bits d 52 2
  let free := s.freeSlots
  if !s.inRun then .next (s.groupStatus 9)
  else
    match (List.range 64).find? (fun c => s.ctxState c == 0) with
    | none => .next (s.groupStatus 2)
    | some c =>
      if !s.groupDescOk x then .next (s.groupStatus 3)
      else if (List.range 64).any (fun k => s.ctxState k != 0 && (s.ctx k).group == x.group) then .next (s.groupStatus 4)
      else if x.mode = 2 ∧ s.repro then .next (s.groupStatus 5)
      else if !s.groupTreeOk x then .next (s.groupStatus 6)
      else if x.rp ∧ free.length < sus then .next (s.groupStatus 7)
      else if size < 4128 then .next (s.groupStatus 8)
      else
        let a := s.poolReserve pool (ownerCtx c) need ecc
        if a.code ≠ poolDone then .next (a.state.groupStatus 8)
        else
          let slots := if x.rp then free.take sus else []
          let s := slots.foldl (fun s k => s.bindCle x k) (a.state.setCtx c { x with bufs := a.bufs, slots := slots })
          let s := s.wr Obj.ctxState c (1 + x.group * 2 ^ 16 + bits d 128 32 * 2 ^ 32 + bits d 112 16 * 2 ^ 64 + bits d 160 32 * 2 ^ 96
            + need * 2 ^ 160)
          .next ((s.wr Obj.ctxCounts c 0).wr Obj.groupCmd 0 (1 + c * 2 ^ 8))

/-- Frees a slot that the CLE bound (R341). -/
def State.unbindCle (s : State) (slot : Nat) : State :=
  ((s.discardSlot slot).wr Obj.bindState slot 0).wrFld Obj.programInfo slot 0 64 0

/-- GROUP_DESTROY (R341). -/
def execGroupDestroy (ctx : Nat) (s : State) : Res :=
  if 64 ≤ ctx then .next s
  else if s.ctxState ctx ≠ 1 ∧ s.ctxState ctx ≠ 3 then .next (s.groupStatus 9)
  else
    let x := s.ctx ctx
    let s := x.slots.foldl State.unbindCle s
    let s := s.poolRelease (bits x.desc 56 6) (ownerCtx ctx) x.bufs
    let s := x.outbox.foldl (fun s f => s.send (.channel (cleOutChannel ctx) f)) s
    .next (((s.setCtx ctx CtxSt.init).wr Obj.ctxState ctx 0).groupStatus 1)

/-- GROUP_RESUME (R364). A member knows where ABORT_SEQ started; at a module that is a reduction point only, the spec names no
place where it stands: the lowest global chunk that it has seen of that SEQ (DESIGN CHOICE, log entry 87). -/
def execGroupResume (ctx : Nat) (s : State) : Res :=
  if 64 ≤ ctx then .next s
  else if s.ctxState ctx ≠ 3 then .next (s.groupStatus 9)
  else
    let x := s.ctx ctx
    let seq := s.ctxAbortSeq ctx
    let o := s.rd Obj.ctxState ctx
    let g := (KMap.get x.firsts none seq).getD (bits o 96 32)
    let o := setBits (setBits (setBits (setBits (setBits o 0 2 1) 8 8 0) 32 32 seq) 64 16 (bits o 64 16 + 1)) 96 32 g
    let s := s.setCtx ctx { x with retained := [], digests := [], aborted := false, early := [], parts := [], chunks := [] }
    .next ((s.wr Obj.ctxState ctx o).groupStatus 1)

end Sys2Proof.Machine
end

