-- ==== Sys2Proof/Machine/Ports.lean ====
section
/-! DEFINITION. Fabric ports (spec/08_fabric_ports_optics.md): link blocks, replay, training, port events, the optical
engines' self-test, the laser sources, and the link cipher (R514 to R516). -/

namespace Sys2Proof.Machine

/-! ### Leaving UP -/

/-- The open streams that a port's leaving UP cuts (R196): those with an unacknowledged request whose REQ route entry names
the port as PRIMARY, or as STANDBY while the primary is not usable. -/
def State.streamsVia (s : State) (p : Nat) : List Nat :=
  (s.listed Obj.srcStreams).filter fun e =>
    let r := s.rd Obj.routeActive (65536 * 2 + s.srcDest e)
    s.srcState e == 1 && !(s.unacked e).isEmpty && r.testBit 0
      && (bits r 4 6 == p || (r.testBit 10 && bits r 11 6 == p && !s.usable (bits r 4 6)))

/-- Cuts the streams that ran through a port. -/
def State.cutVia (s : State) (p : Nat) : State := ((s.streamsVia p).foldl (fun s e => s.cutStream e false) s).pump

/-- A port leaves UP (R241): marked down at once, its queued frames discarded, its streams cut; downs are counted against
PORT_DAMP (R239), and check 4 starts where R240 says so. `next` is the state it goes to where nothing holds it. -/
def State.leaveUp (s : State) (p cause next : Nat) : State :=
  if s.portState p ≠ portUp then s
  else
    let peer := s.portPeer p
    let s := s.portEnds p cause
    if quietCause cause then
      let s := if cause = causePeerScratched then s.report 3 peer 1 else s
      (s.setPortState p next).cutVia p
    else
      let downs := s.recentDowns p ++ [s.now]
      let damped := s.fld Obj.portDamp 0 0 8 ≤ downs.length
      let x := s.port p
      let s := s.setPort p { x with downs := downs, checking := true, judge := cause != causeOverrun }
      let s := if cause = causeOverrun then (s.report 3 peer 1).report 4 peer 1 else s
      let s := if damped then s.wrFld Obj.portInfo p 88 8 causeDamped else s
      (s.setPortState p (if damped then portHeld else next)).cutVia p

/-! ### Forward error correction -/

/-- The symbols that a port's code corrects in a codeword (R225): 7 with FAST, 15 with STRONG. -/
def State.fecCorrects (s : State) (p : Nat) : Nat := if (s.rd Obj.portConfig p).testBit 2 then 15 else 7

/-- Whether `errors` symbol errors before the FEC among `symbols` symbols lie above the threshold of a port's code (R225):
1 in 10^5 with FAST, 1 in 10^3 with STRONG. -/
def State.fecAbove (s : State) (p errors symbols : Nat) : Bool :=
  decide (symbols < errors * (if (s.rd Obj.portConfig p).testBit 2 then 1000 else 100000))

/-- The 10-bit symbols that the eight lanes of a port bring in a millisecond (R218: 225.0 Gbit/s per lane). -/
def symbolsPerMs : Nat := 180000000

/-! ### Training -/

/-- The training data of this end (R238 step 4): its serial number, the port's number, its FEC and its cipher setting. -/
def State.trainData (s : State) (p : Nat) : List Byte :=
  leBytes 16 s.ident.serial ++ leBytes 1 p ++ leBytes 1 (s.fld Obj.portConfig p 2 2)

/-- An attempt starts (R238 step 1): the link layer is as new, and the port sends TRAIN blocks. One round of them stands in
`out` for the run that goes on until the port is UP (log entry 24). -/
def State.trainStart (s : State) (p : Nat) : State :=
  let x := s.port p
  let s := s.setPort p { x.fresh with step := 2, attempt := s.now, stepAt := s.now }
  (s.setPortState p portTraining).sendInfo p (s.trainData p)

/-- Training stops at a check that fails (R238): its reason is recorded; the port is DOWN, or DOWN_HELD after HEADROOM. -/
def State.trainFail (s : State) (p reason : Nat) : State :=
  let s := s.setPort p { (s.port p) with step := 1, loops := [] }
  (s.wrFld Obj.portInfo p 88 8 reason).setPortState p (if reason = causeHeadroom then portHeld else portDown)

/-- Training goes on to a step. -/
def State.trainStep (s : State) (p k : Nat) : State := s.setPort p { (s.port p) with step := k, stepAt := s.now }

/-- Sends a LOOP probe, which carries the reference counter (R238). -/
def State.sendProbe (s : State) (p : Nat) : State := s.sendBlock p blkLoop 0 0 (s.now % 2 ^ 48) false zeroBody

/-- Whether a port may light up to train: MODE FABRIC, not scratched, check 4 over, and dark for 10 us after its last change
(R241). -/
def State.mayTrain (s : State) (p : Nat) : Bool :=
  s.portMode p == 1 && !s.scratched && !(s.port p).checking && decide (s.fld Obj.portInfo p 96 64 + 10000 ≤ s.now)

/-- TRAINING_START (R238): a port that is DOWN and whose last attempt has not failed begins one. -/
def execTrainingStart (port : Nat) (s : State) : Res :=
  if 64 ≤ port then .fault .noSuchUnit
  else if s.portState port = portDown ∧ (s.port port).step = 0 ∧ s.mayTrain port then .next (s.trainStart port)
  else .next s

/-- TRAINING_RETRY (R238): 100 ms after a failed attempt began. -/
def execTrainingRetry (port : Nat) (s : State) : Res :=
  if 64 ≤ port then .fault .noSuchUnit
  else
    let x := s.port port
    if s.portState port = portDown ∧ x.step = 1 ∧ s.portMode port = 1 ∧ !s.scratched ∧ !x.checking
        ∧ x.attempt + 100000000 ≤ s.now then
      .next (s.trainStart port)
    else .next s

/-- TRAINING_CHECK_EXPIRY (R238 steps 2 and 3): the lock window of 5 ms, or the measurement of 5 ms after it. `light` and
`lock` are masks of the eight receive lanes; `other` says that the codewords are of the other code, and `errors` how many of
the symbols of the 5 ms were wrong before the FEC (R225). -/
def execTrainingCheckExpiry (port light lock : Nat) (other : Bool) (errors : Nat) (s : State) : Res :=
  if 64 ≤ port then .fault .noSuchUnit
  else
    let x := s.port port
    if s.portState port ≠ portTraining ∨ s.scratched then .next s
    else if x.step = 2 then
      if light = 0xFF ∧ lock = 0xFF then .next (s.trainStep port 3)
      else if s.now < x.stepAt + 5000000 then .next s
      else .next (s.trainFail port (if light = 0xFF then causeLaneLock else causeLos))
    else if x.step = 3 then
      if s.now < x.stepAt + 5000000 then .next s
      else if other then .next (s.trainFail port causeFecMismatch)
      else if s.fecAbove port errors (5 * symbolsPerMs) then .next (s.trainFail port causeFecRate)
      else .next (s.trainStep port 4)
    else .next s

/-- Step 5 begins: the first of 16 LOOP probes goes out. -/
def State.trainLoops (s : State) (p : Nat) : State := (s.trainStep p 5).sendProbe p

/-- Records the failing check of a key agreement (E300.01). -/
def State.cipherFail (s : State) (p k : Nat) : State := (s.wrFld Obj.cipherStatus p 1 3 k).trainFail p causeCipherMismatch

/-- What this end sends of the key agreement at once (R514): its DIK certificate, its owner key digest, and an ephemeral
point, which the spec leaves free (log entry 4). -/
def State.sendKeys (s : State) (p : Nat) : State :=
  (s.sendInfo p (leBytes 1024 s.ident.deviceCert
    ++ leBytes 32 (if s.ownerKey = 0 then 0 else Config.sm3 (leBytes 64 s.ownerKey) % 2 ^ 256)
    ++ leBytes 64 (s.draw 0 % 2 ^ 512))).drawn

/-- Step 4 (R238): the peer's training data are complete. SELF_LOOP, then CIPHER_MISMATCH; then the key agreement where the
cipher is on, else the probes. -/
def State.trainPeer (s : State) (p : Nat) (d : TrainData) : State :=
  if d.serial = s.ident.serial then s.trainFail p causeSelfLoop
  else if d.cipher ≠ s.cipherOn p then s.cipherFail p 1
  else
    let i := setBits (setBits (s.rd Obj.portInfo p) 0 16 d.device) 16 6 d.port
    let s := s.wr Obj.portInfo p i
    if s.cipherOn p then (s.trainStep p 7).sendKeys p else s.trainLoops p

/-- CIPHER_KEY_AGREED (R514): the peer's DIK certificate, owner key digest, ephemeral point and confirmation have arrived.
The certificate's chain, the owner digest and the confirmation are checked in that order; the first failure is recorded. This
end's confirmation goes out once the first two have passed. -/
def execCipherKeyAgreed (port cert owner point confirm : Nat) (s : State) : Res :=
  if 64 ≤ port then .fault .noSuchUnit
  else if s.portState port ≠ portTraining ∨ (s.port port).step ≠ 7 ∨ s.scratched then .next s
  else
    let material := [s.ident.deviceSecret, cert, point]
    if !Config.certChain s.ident.caCert cert then .next (s.cipherFail port 2)
    else if owner ≠ (if s.ownerKey = 0 then 0 else Config.sm3 (leBytes 64 s.ownerKey)) then .next (s.cipherFail port 3)
    else
      let s := s.sendInfo port (leBytes 32 (Config.kdf 23 material % 2 ^ 256))
      if confirm ≠ Config.kdf 20 material then .next (s.cipherFail port 4)
      else
      let s := s.setPort port { (s.port port) with keyed := true, keyOut := Config.kdf 21 material, keyIn := Config.kdf 22 material,
                                                   groupOut := 0 }
      .next (s.trainLoops port)

/-- H of a LOOP basis in ns (R234): ceil((LOOP + 40) / 1.28) + 2. -/
def headroom (loop : Nat) : Nat := ceilDiv ((loop + 40) * 100) 128 + 2

/-- PORT_UP (R238 steps 5 and 6): with 16 probes answered, H is checked against HEADROOM_LIMIT (R235) and reserved, and the
port is UP. -/
def execPortUp (port : Nat) (s : State) : Res :=
  if 64 ≤ port then .fault .noSuchUnit
  else if s.portState port ≠ portTraining ∨ (s.port port).step ≠ 6 ∨ s.scratched then .next s
  else
    let basis := (s.port port).loops.foldl max 0
    let h := headroom basis
    let used := s.rd Obj.headroomUsed 0 + 5 * h
    if s.rd Obj.headroomLimit 0 < used then .next (s.trainFail port causeHeadroom)
    else
      let c := s.rd Obj.portConfig port
      let i := s.rd Obj.portInfo port
      let i := setBits (setBits (setBits (setBits i 24 1 (bits c 2 1)) 25 1 (bits c 3 1)) 32 32 basis) 64 16 h
      let s := (s.wr Obj.portInfo port i).wr Obj.headroomUsed 0 used
      let s := s.wrFld Obj.cipherStatus port 0 1 (bits c 3 1)
      let s := s.setPort port { (s.port port) with step := 0, probe := s.now }
      .next ((s.setPortState port portUp).idleBlock port)

/-! ### Replay -/

/-- Resends the stored blocks from number `first` on, the oldest of them (R230): same numbers and bodies, new trailers; with
the cipher on as new groups (R515). With nothing stored the replay sends nothing and is remembered all the same. The eighth
in a row that begins with one stored block takes the link down (R232). -/
def State.startReplay (s : State) (p first : Nat) : State :=
  let x := s.port p
  let row := if x.stored.isEmpty then 0 else if x.replayFrom = some first then x.replayRow + 1 else 1
  let s := s.portError p 3 1
  if 8 ≤ row then s.leaveUp p causeReplayLimit portDown
  else
    let again := x.stored.map fun b => { b with time := s.now }
    let s := s.setPort p { x with stored := again, replayFrom := some first, replayTime := s.now, replayRow := row }
    let s := s.closeGroup p
    (again.foldl (fun s b => s.sendCell p b.seq b.cls b.body) s).closeGroup p

/-- Frees the stored blocks up to an acknowledged number. -/
def State.acked (s : State) (p ack : Nat) : State :=
  let x := s.port p
  match x.stored.findIdx? (fun b => b.seq == ack) with
  | some i => s.setPort p { x with stored := x.stored.drop (i + 1), replayRow := 0, replayFrom := none }
  | none => s

/-- LINK_REPLAY_TIMEOUT (R230): the oldest stored block has been unacknowledged for LOOP + 200 ns. -/
def execLinkReplayTimeout (port : Nat) (s : State) : Res :=
  if 64 ≤ port then .fault .noSuchUnit
  else if s.portState port ≠ portUp then .next s
  else
    match (s.port port).stored with
    | [] => .next s
    | c :: _ => .next (if c.time + s.loopBasis port + 200 ≤ s.now then s.startReplay port c.seq else s)

/-! ### Blocks received -/

/-- A received block that fails its LCRC (R228, R230, R233). -/
def State.badBlock (s : State) (p : Nat) : State :=
  (s.setPort p { (s.port p) with peerXoff := 31, nakOut := true, scratchRow := 0 }).portError p 2 1

/-- Hands a cell in sequence to the Track. An overrun takes the link down (R237). -/
def State.cellAccepted (s : State) (p cls : Nat) (body : List Byte) : State :=
  let x := s.port p
  let s := s.setPort p { x with expect := (x.expect + 1) % 4096, nakOut := false }
  match s.cellIn p cls body with
  | (s, false) => s
  | (s, true) => (s.portError p 5 1).leaveUp p causeOverrun portDown

/-- A CELL block (R230): passed on if it is the next, else discarded with a NAK. With the cipher on it waits for its group's
tag (R516). -/
def State.cellBlock (s : State) (p seq cls : Nat) (body : List Byte) : State :=
  let x := s.port p
  if s.cipherOn p then
    if seq = (x.expect + x.openIn.length) % 4096 then s.setPort p { x with openIn := x.openIn ++ [(cls, body)] }
    else s.setPort p { x with nakOut := true }
  else if seq = x.expect then s.cellAccepted p cls body
  else s.setPort p { x with nakOut := true }

/-- A TAG block (R227, R515, R516): it closes the open group, whose cells pass only if the tag verifies; a tag that fails
counts as an LCRC failure of every CELL of the group. -/
def State.tagBlock (s : State) (p info : Nat) (body : List Byte) : State :=
  if !s.cipherOn p then s.badBlock p
  else
    let x := s.port p
    let plain := x.openIn.zipIdx.map fun q => (q.1.1, fitBytes 256 (Config.sm4 x.keyIn (info * 32 + q.2) q.1.2))
    let s := s.setPort p { x with openIn := [] }
    if leCode (body.take 16) = Config.sm4Tag x.keyIn info (plain.map (·.2)).flatten % 2 ^ 128 then
      plain.foldl (fun s q => if s.portState p = portUp then s.cellAccepted p q.1 q.2 else s) s
    else
      let s := s.setPort p { (s.port p) with peerXoff := 31, nakOut := true }
      (s.portError p 2 plain.length).inc Obj.cipherStatus p 64 64 1

/-- What a block's trailer carries whatever its type (R230): XOFF, ACK and NAK. -/
def State.trailerIn (s : State) (p t : Nat) : State :=
  let ack := bits t 96 12
  let s := (s.setPort p { (s.port p) with peerXoff := bits t 90 5 }).acked p ack
  let x := s.port p
  if t.testBit 95 ∧ !(x.replayFrom == some ((ack + 1) % 4096) && decide (s.now - x.replayTime < s.loopBasis p)) then s.startReplay p ((ack + 1) % 4096)
  else s

/-- Whether a port sends no light (R241): while check 4 darkens it, and in the 10 us after it has left UP or been let go. -/
def State.dark (s : State) (p : Nat) : Bool :=
  (s.port p).checking
    || (s.portState p == portDown && (s.port p).step == 0 && decide (s.now < s.fld Obj.portInfo p 96 64 + 10000))

/-- A LOOP block (R236, R238): a probe is returned by a port that sends light; an echo in training is one of the 16
measurements; while UP one above the basis is counted (R244), and above it by more than 2.56 ns takes the link down. -/
def State.loopBlock (s : State) (p t : Nat) : State :=
  let info := bits t 32 48
  if !t.testBit 88 then (if s.dark p then s else s.sendBlock p blkLoop 0 0 info true zeroBody)
  else
    let d := (s.now + 2 ^ 48 - info) % 2 ^ 48
    if s.portState p = portUp then
      let t := if s.loopBasis p < d then s.portError p 6 1 else s
      if s.loopBasis p + 2 < d then t.leaveUp p causeLoopGrowth portDown else t
    else if s.portState p = portTraining ∧ (s.port p).step = 5 then
      let x := s.port p
      let loops := x.loops ++ [d]
      let s := s.setPort p { x with loops := loops }
      if loops.length < 16 then s.sendProbe p
      else if 2400 < loops.foldl max 0 then s.trainFail p causeLoopLong
      else s.trainStep p 6
    else s

/-- A PEER_SCRATCHED event for Marshal: the device that the SCRATCH blocks name goes with the next report (R242, R447). A
scratched module without a device ID cannot be named. -/
def State.sawScratched (s : State) (dev : Nat) : State :=
  if dev = 0xFFFF ∨ s.scratchSeen.contains dev then s else { s with scratchSeen := s.scratchSeen ++ [dev] }

/-- Counts SCRATCH blocks in a row; the fourth marks the port PEER_SCRATCHED (R242). -/
def State.scratchBlock (s : State) (p dev : Nat) : State :=
  let x := s.port p
  let s := s.setPort p { x with scratchRow := x.scratchRow + 1 }
  if x.scratchRow + 1 < 4 then s
  else if s.portState p = portUp then (s.sawScratched dev).leaveUp p causePeerScratched portPeerScratched
  else if s.portState p = portTraining ∨ s.portState p = portDown ∨ s.portState p = portPeerRest then
    (((s.sawScratched dev).wrFld Obj.portInfo p 80 8 causePeerScratched).setPort p { (s.port p) with step := 0 }).setPortState p portPeerScratched
  else s

/-- Another block than SCRATCH at a port that is PEER_SCRATCHED: the blocks have stopped, and it retrains; one that a FENCE
holds waits for TRAIN blocks (R448). -/
def State.scratchOver (s : State) (p type : Nat) : State :=
  if s.portState p = portPeerScratched ∧ (type = blkTrain ∨ !(s.port p).fenced) then
    (s.setPort p { (s.port p) with fenced := false, step := 0 }).setPortState p portDown
  else s

/-- A valid block by its type. -/
def State.blockByType (s : State) (p type t : Nat) (body : List Byte) (train : Option TrainData) : State :=
  let s := if type = blkScratch then s else (s.setPort p { (s.port p) with scratchRow := 0 }).scratchOver p type
  if type = blkScratch then s.scratchBlock p (bits t 64 16)
  else if type = blkRest then
    if s.portState p = portUp then s.leaveUp p causePeerRest portPeerRest
    else if s.portState p = portTraining ∨ s.portState p = portDown then
      ((s.wrFld Obj.portInfo p 80 8 causePeerRest).setPort p { (s.port p) with step := 0 }).setPortState p portPeerRest
    else s
  else if type = blkLoop then s.loopBlock p t
  else if type = blkTrain then
    match train with
    | some d => if s.portState p = portTraining ∧ (s.port p).step = 4 then s.trainPeer p d else s
    | none => s
  else if s.portState p ≠ portUp then s
  else if type = blkCell then s.cellBlock p (bits t 108 12) (bits t 121 3) body
  else if type = blkTag then s.tagBlock p (bits t 32 48) body
  else s

/-- LINK_BLOCK_RECEIVE (R230): a block of 272 bytes arrives at a port; `errors` are the numbers of wrong symbols in the
codewords that end with it, which the port's FEC corrects or passes on with their errors (R225, R226); `train` is what the
peer's TRAIN blocks have told with this one. FAR_LOOP sends every block back (R220). -/
def execLinkBlockReceive (port : Nat) (block : List Byte) (errors : List Nat) (train : Option TrainData) (s : State) : Res :=
  if 64 ≤ port then .fault .noSuchUnit
  else if s.portState port = portLoopback ∧ s.portMode port = 3 then
    .next (s.send (.block port (BitVec.toNat (block.getD 256 0) / 16) block))
  else if s.scratched ∨ s.portMode port ≠ 1 ∨ s.portState port = portDisabled ∨ s.portState port = portHeld
      ∨ s.portState port = portSelfScratched then .next s
  else
    let t := s.fecCorrects port
    let s := (s.portError port 0 (errors.filter fun n => decide (n ≤ t)).sum).portError port 1
      (errors.filter fun n => decide (t < n)).length
    let body := sliceBytes block 0 256
    let t := beCode (sliceBytes block 256 16)
    let type := bits t 124 4
    let s :=
      if bits t 0 32 ≠ lcrc body t ∨ (type = blkTag ∧ !s.cipherOn port) then s.badBlock port
      else (s.trailerIn port t).blockByType port type t body train
    .next (if s.portState port = portUp then (s.egressPump port).trackNote else s)

/-! ### Port events -/

/-- LOS (R241, R238): light or lock is lost on a lane; `light` says that light still arrives. A port held PEER_SCRATCHED sees
the SCRATCH blocks stop. -/
def execPortLos (port : Nat) (light : Bool) (s : State) : Res :=
  if 64 ≤ port then .fault .noSuchUnit
  else if s.scratched then .next s
  else if s.portState port = portUp then .next (s.leaveUp port (if light then causeLaneLock else causeLos) portDown)
  else if s.portState port = portPeerScratched ∧ !(s.port port).fenced then .next (s.scratchOver port 0)
  else if s.portState port = portTraining ∧ 2 < (s.port port).step then
    .next (s.trainFail port (if light then causeLaneLock else causeLos))
  else .next s

/-- FEC_RATE (R241, R244): a second of a port's receiver ends. `lanes` are the received power (in units of 0.01 dBm, 16 bits)
and the corrected symbols of each lane, which 5100.02 shows; `errors` is how many symbols were wrong before the FEC. A ratio
above the threshold of R225 takes an UP port down. -/
def execFecRate (port : Nat) (lanes : List (Nat × Nat)) (errors : Nat) (s : State) : Res :=
  if 64 ≤ port then .fault .noSuchUnit
  else if s.scratched ∨ s.portMode port = 0 ∨ s.now < (s.port port).second + 1000000000 then .next s
  else
    let s := s.setPort port { (s.port port) with second := s.now }
    let s := foldUp (fun l s => s.wr Obj.laneStatus (8 * port + l)
      ((lanes.getD l (0, 0)).1 % 2 ^ 16 + (lanes.getD l (0, 0)).2 % 2 ^ 32 * 2 ^ 32)) 0 8 s
    .next (if s.fecAbove port errors (1000 * symbolsPerMs) then s.leaveUp port causeFecRate portDown else s)

/-- LOOP_MEASURE (R236): once per second an UP port sends a LOOP probe in place of an IDLE block. -/
def execLoopMeasure (port : Nat) (s : State) : Res :=
  if 64 ≤ port then .fault .noSuchUnit
  else if s.portState port = portUp ∧ (s.port port).probe + 1000000000 ≤ s.now then
    .next ((s.setPort port { (s.port port) with probe := s.now }).sendProbe port)
  else .next s

/-- LIGHT_RETURNS (R241, R243): light returns at a port held PEER_REST, which retrains. -/
def execLightReturns (port : Nat) (s : State) : Res :=
  if 64 ≤ port then .fault .noSuchUnit
  else if s.portState port = portPeerRest ∧ s.portMode port = 1 ∧ !s.scratched then .next (s.trainStart port)
  else .next s

/-! ### Port commands -/

/-- The status that a port command leaves in 5000.03. -/
def State.portCmd (s : State) (code : Nat) : State := s.wr Obj.portCmd 0 code

/-- The state of a port that is let go, by its MODE (R220): a loop-back mode is LOOPBACK. -/
def State.portRelease (s : State) (p : Nat) : State :=
  let s := s.setPort p { (s.port p) with step := 0 }
  s.setPortState p (if s.portMode p = 1 then portDown else portLoopback)

/-- PORT_ENABLE (R244, R239, R220): accepted at a DISABLED or DOWN_HELD port whose MODE is not DISABLED. -/
def execPortEnable (port : Nat) (s : State) : Res :=
  if 64 ≤ port then .next s
  else if s.scratched then .next (s.portCmd 3)
  else if (s.portState port = portDisabled ∨ s.portState port = portHeld) ∧ s.portMode port ≠ 0 then
    .next ((s.portRelease port).portCmd 1)
  else .next (s.portCmd 2)

/-- PORT_DISABLE (R244): a port that is not DISABLED goes dark. -/
def execPortDisable (port : Nat) (s : State) : Res :=
  if 64 ≤ port then .next s
  else if s.scratched then .next (s.portCmd 3)
  else if s.portState port = portDisabled then .next (s.portCmd 2)
  else
    let s := s.leaveUp port causeCommand portDisabled
    .next (((s.setPort port { (s.port port) with step := 0, fenced := false }).setPortState port portDisabled).portCmd 1)

/-- RETRAIN (R244, R239): a port of MODE FABRIC that is UP, TRAINING, DOWN, DOWN_HELD or PEER_REST trains anew. -/
def execRetrain (port : Nat) (s : State) : Res :=
  if 64 ≤ port then .next s
  else if s.scratched then .next (s.portCmd 3)
  else if s.portMode port ≠ 1 ∨ s.portState port = portDisabled ∨ s.portState port = portPeerScratched
      ∨ s.portState port = portSelfScratched ∨ s.portState port = portLoopback then .next (s.portCmd 2)
  else
    let s := s.leaveUp port causeCommand portDown
    .next (((s.setPort port { (s.port port) with step := 0 }).setPortState port portDown).portCmd 1)

/-- PORT_SELFTEST (R240, R244): SELFTEST runs check 4, which darkens the port, so it is refused while the port is UP or
TRAINING (log entry 25). -/
def execPortSelftest (port : Nat) (s : State) : Res :=
  if 64 ≤ port then .next s
  else if s.scratched then .next (s.portCmd 3)
  else if s.portState port = portUp ∨ s.portState port = portTraining ∨ (s.port port).checking then .next (s.portCmd 2)
  else .next ((s.setPort port { (s.port port) with checking := true, judge := false }).portCmd 1)

/-! ### The optical engines' self-test -/

/-- A failed check of an OE (R240): recorded in 5300.01, where the last failure of the OE stands (log entry 89), and the module
scratches itself. On a module that is scratched the cause is recorded beside the others (R40). -/
def State.oeFails (s : State) (oe check port : Nat) : State :=
  (s.wr Obj.oeSelftest oe (1 + check * 2 ^ 8 + port * 2 ^ 16 + (s.now % 2 ^ 64) * 2 ^ 64)).scratch causeOe

/-- SELFTEST_LOOPBACK_DONE (R240, R241): check 4 of a port ends. Passed, the event was outside, and the port retrains;
failed, the module scratches itself. -/
def execSelftestLoopbackDone (port : Nat) (passed : Bool) (s : State) : Res :=
  if 64 ≤ port then .fault .noSuchUnit
  else
    let x := s.port port
    if !x.checking then .next s
    else
      let s := s.setPort port { x with checking := false, judge := false }
      if !passed then .next (s.oeFails (port / 8) 4 port)
      else .next (if x.judge then s.report 3 (s.portPeer port) 1 else s)

/-- A continuous check of an OE fails (R240, R241): its ports that are UP go down with cause SELFTEST, and the module scratches
itself. -/
def State.oeChecked (s : State) (oe check : Nat) : State :=
  (foldUp (fun p s => s.leaveUp p causeSelftest portDown) (8 * oe) 8 s).oeFails oe check 0

/-- OE_SELFTEST (R240, R241): one of the continuous checks 1 to 3, 5 and 6 of an OE fails. -/
def execOeSelftest (oe check : Nat) (s : State) : Res :=
  if 8 ≤ oe then .fault .noSuchUnit
  else if !(check == 1 || check == 2 || check == 3 || check == 5 || check == 6) then .next s
  else .next (s.oeChecked oe check)

/-! ### Laser sources -/

/-- ELS_STATE codes (R244). -/
def elsEmpty : Nat := 0
/-- STARTING. -/
def elsStarting : Nat := 1
/-- SHARING. -/
def elsSharing : Nat := 2
/-- ALONE. -/
def elsAlone : Nat := 3
/-- STANDING_DOWN. -/
def elsStanding : Nat := 4
/-- SAFE_TO_REMOVE. -/
def elsSafe : Nat := 5
/-- FAILED. -/
def elsFailed : Nat := 6
/-- REFUSED. -/
def elsRefused : Nat := 7

/-- The state of a laser source. -/
def State.els (s : State) (e : Nat) : Nat := s.rd Obj.elsState e
/-- The supply of a source comes on or goes; its hours so far are kept. -/
def State.elsPower (s : State) (e : Nat) (on : Bool) : State :=
  { s.wrFld Obj.elsInfo e 192 32 (s.elsHours e % 2 ^ 32) with elsOn := KMap.set s.elsOn none e (if on then some s.now else none) }

/-- Writes it, with the time. A source is powered from STARTING until it has FAILED or its bay is EMPTY (R224). -/
def State.setEls (s : State) (e v : Nat) : State :=
  let s := { s.wr Obj.elsState e v with elsSince := KMap.set s.elsSince 0 e s.now }
  if v = elsStarting then s.elsPower e true else if v = elsFailed ∨ v = elsEmpty then s.elsPower e false else s
/-- The other member of a pair (R221). -/
def elsPartner (e : Nat) : Nat := if e % 2 = 0 then e + 1 else e - 1

/-- Whether a source supplies light, or its share of it (R221, R223). -/
def State.elsLights (s : State) (e : Nat) : Bool :=
  (s.els e == elsSharing || s.els e == elsAlone || s.els e == elsStanding) && !s.elsLost.contains e

/-- A source loses its output (R221 to R223). A partner that shares the light is driven to full output; the removal of a
partner that is being removed is cancelled, and it is ALONE; a pair left without light fails check 1 of its OE, whose UP ports
go down first (R241). -/
def State.elsLoses (s : State) (e : Nat) : State :=
  let q := elsPartner e
  if s.els e = elsStarting then (s.setEls e elsFailed).rampEnds (16 + e)
  else if !s.elsLights e then s
  else if s.elsLights q then
    (if s.els q = elsStanding then (s.setEls e elsFailed).setEls q elsAlone else { s with elsLost := s.elsLost ++ [e] })
  else
    let s := s.setEls e elsFailed
    let s := if s.elsLost.contains q then { s with elsLost := s.elsLost.erase q }.setEls q elsFailed else s
    s.oeChecked (e / 2) 1

/-- ELS_OUTPUT_LOSS (R221, R222). -/
def execElsOutputLoss (els : Nat) (s : State) : Res := if 16 ≤ els then .fault .noSuchUnit else .next (s.elsLoses els)

/-- ELS_PARTNER_FULL (R221): the partner is at full output; the failed member becomes FAILED and the partner ALONE. -/
def execElsPartnerFull (els : Nat) (s : State) : Res :=
  if 16 ≤ els then .fault .noSuchUnit
  else if s.elsLost.contains els then
    .next ({ s with elsLost := s.elsLost.erase els }.setEls els elsFailed |>.setEls (elsPartner els) elsAlone)
  else .next s

/-- ELS_REMOVE (R223, R244): REMOVE on 5200.03. -/
def execElsRemove (els : Nat) (s : State) : Res :=
  if 16 ≤ els then .next s
  else if s.els (elsPartner els) ≠ elsSharing ∨ s.elsLost.contains (elsPartner els) then .next (s.wr Obj.elsCmd 0 2)
  else if s.els els ≠ elsSharing ∨ s.elsLost.contains els then .next (s.wr Obj.elsCmd 0 3)
  else .next ((s.setEls els elsStanding).wr Obj.elsCmd 0 1)

/-- ELS_CANCEL (R244): CANCEL on 5200.03 while the removal's ramp runs: both share again (log entry 26). -/
def execElsCancel (els : Nat) (s : State) : Res :=
  if 16 ≤ els then .next s
  else if s.els els = elsStanding then .next ((s.setEls els elsSharing).wr Obj.elsCmd 0 1)
  else .next (s.wr Obj.elsCmd 0 3)

/-- ELS_RAMP_DONE (R223): the ramp of 10 ms is over, the member is SAFE_TO_REMOVE, and its latch is released. -/
def execElsRampDone (els : Nat) (s : State) : Res :=
  if 16 ≤ els then .fault .noSuchUnit
  else if s.els els = elsStanding ∧ KMap.get s.elsSince 0 els + 10000000 ≤ s.now then
    .next ((s.setEls els elsSafe).setEls (elsPartner els) elsAlone)
  else .next s

/-- ELS_INSERT (R224): an ELS is inserted and its identity read: `info` is its ELS_INFO entry, `qualified` whether the
module takes it. A qualified one is powered with a ramp that the governor admits (R486). -/
def execElsInsert (els info : Nat) (qualified : Bool) (s : State) : Res :=
  if 16 ≤ els then .fault .noSuchUnit
  else
    let st := s.els els
    if st = elsEmpty ∨ st = elsFailed ∨ st = elsRefused then
      let s := s.wr Obj.elsInfo els (info % 2 ^ 256)
      .next (if qualified then (s.setEls els elsStarting).rampBay (16 + els) 36 else s.setEls els elsRefused)
    else .next s

/-- ELS_START_DONE (R224): its ramp is over and its wavelengths have locked. It shares the light with its partner, or supplies all of it where the
partner supplies none. -/
def execElsStartDone (els : Nat) (s : State) : Res :=
  if 16 ≤ els then .fault .noSuchUnit
  else if s.els els ≠ elsStarting ∨ !s.rampOver (16 + els) then .next s
  else
    let s := s.rampEnds (16 + els)
    let q := elsPartner els
    if s.els q = elsAlone ∨ s.els q = elsSharing then .next ((s.setEls els elsSharing).setEls q elsSharing)
    else .next (s.setEls els elsAlone)

/-- ELS_LATCH_OPEN (R223): outside SAFE_TO_REMOVE an open latch is a loss of the member's output; the bay of a member that
supplied none is empty. -/
def execElsLatchOpen (els : Nat) (s : State) : Res :=
  if 16 ≤ els then .fault .noSuchUnit
  else
    let st := s.els els
    if st = elsSafe ∨ st = elsFailed ∨ st = elsRefused then .next ((s.setEls els elsEmpty).wr Obj.elsInfo els 0)
    else .next (s.elsLoses els)

end Sys2Proof.Machine
end

