-- ==== Sys2Proof/Machine/Marshal.lean ====
section
/-! DEFINITION. Marshal (spec/15_failure_recovery_reproducibility.md): heartbeats, probes and scratching, health scores and
expulsion, admission, the manager's commands, recovery epochs and their steps, the Guard rebuild, and DEEP REST. -/

namespace Sys2Proof.Machine

/-! ### Common parts -/

/-- Whether Marshal takes part in the domain: the module is up, not scratched and not in DEEP REST (R445, R490, R499). -/
def State.marshalOn (s : State) : Bool := s.boot == .up && !s.scratched && s.power != 3

/-- Whether a frame is for this module's MGT endpoint (R265, R266, R274): a spare that has taken a rank still has the LOCAL entry
of its spare ID until REROUTE (R458). -/
def State.forMe (s : State) (f : Frame) : Bool :=
  f.mc || f.dest == s.devId || f.dest == 0xFFFF || bits (s.rd Obj.routeActive f.dest) 0 2 == 3

/-- Whether a message of a type has come to a module that takes part. -/
def State.message (s : State) (f : Frame) (mtype : Nat) : Bool := s.marshalOn && isMsg f mtype && s.forMe f

/-- Whether the payload of a REPORT has a reserved byte that is not zero (R452, R12). -/
def reportSpoilt (f : Frame) : Bool :=
  (List.range (min (leCode (f.payload.take 4)) ((f.payload.length - 4) / 8))).any fun k =>
    leCode (sliceBytes f.payload (4 + 8 * k + 3) 1) != 0

/-- A frame of KIND 0xA0 that is Marshal's malformed input (R12, R443, R444): a reserved MTYPE, or a reserved field that is not
zero. -/
def msgSpoilt (f : Frame) : Bool :=
  msgType f == 0 || decide (0x13 < msgType f) || bits f.hdr 96 16 != 0 || (msgType f == 0x04 && reportSpoilt f)

/-- What becomes of a frame that a message's row does not act on: Marshal's malformed input is discarded and counted, a frame
of another kind is not Marshal's (R444; log entry 92). -/
def State.passMessage (s : State) (f : Frame) : State :=
  if s.marshalOn && s.forMe f && f.bclass == 0 && msgKind f == 0xA0 && msgSpoilt f then
    s.setMarshal { s.marshal with discarded := s.marshal.discarded + 1 }
  else s

/-- Whether this module is the manager. -/
def State.isManager (s : State) : Bool := s.marshal.role == 1

/-- Membership states (R474). -/
def memFree : Nat := 0
/-- ACTIVE. -/
def memActive : Nat := 1
/-- SUSPECT. -/
def memSuspect : Nat := 2
/-- SCRATCHED. -/
def memScratched : Nat := 3
/-- SPARE. -/
def memSpare : Nat := 4
/-- SPARE_READY. -/
def memReady : Nat := 5
/-- RESTING. -/
def memResting : Nat := 6
/-- VACANT. -/
def memVacant : Nat := 7
/-- MANAGER. -/
def memManager : Nat := 8
/-- STANDBY. -/
def memStandby : Nat := 9

/-- The membership state of a device ID. -/
def State.memState (s : State) (d : Nat) : Nat := s.fld Obj.membership d 0 4
/-- Writes it with the time of the change. -/
def State.setMem (s : State) (d st : Nat) : State :=
  (s.wrFld Obj.membership d 0 4 st).wrFld Obj.membership d 64 64 (s.now % 2 ^ 64)
/-- What is kept of a device beside its membership entry. -/
def State.watch (s : State) (d : Nat) : Watch := KMap.get s.watches Watch.init d
/-- Writes it. -/
def State.setWatch (s : State) (d : Nat) (w : Watch) : State := { s with watches := KMap.set s.watches Watch.init d w }

/-- Whether a membership state is that of a module that heartbeats and answers (R446, R461, R468). -/
def memLive (st : Nat) : Bool :=
  st == memActive || st == memSuspect || st == memSpare || st == memReady || st == memStandby || st == memManager

/-- The modules of the domain that answer, but for this one. -/
def State.members (s : State) : List Nat := (s.listed Obj.membership).filter fun d => memLive (s.memState d) && d != s.devId

/-- The available spares (R442), lowest ID first. -/
def State.readySpares (s : State) : List Nat := (s.listed Obj.membership).filter fun d => s.memState d == memReady

/-- Brings the count of available spares in C300.01 up to date on a manager. -/
def State.spareNote (s : State) : State :=
  if s.isManager then s.wrFld Obj.recoveryState 0 144 16 s.readySpares.length else s

/-- The step of the epoch in progress (C300.01), 0 outside one. -/
def State.epochStep (s : State) : Nat := s.fld Obj.recoveryState 0 32 8

/-- Writes an entry of MARSHAL_LOG (R475). -/
def State.marshalLog (s : State) (event subject reason : Nat) : State :=
  let n := s.rd Obj.logNext 0
  let s := s.wr Obj.marshalLog (n % 256) (event + subject % 2 ^ 16 * 2 ^ 8 + reason * 2 ^ 24 + s.epoch * 2 ^ 32
    + s.epochStep * 2 ^ 64 + s.now % 2 ^ 64 * 2 ^ 128)
  s.incSat Obj.logNext 0 0 32 1

/-! ### Streams to a device (R197) -/

/-- Holds the open streams to a device. -/
def State.holdDev (s : State) (d : Nat) : State :=
  if s.marshal.heldDevs.contains d then s
  else
    (s.listed Obj.srcStreams).foldl
      (fun s e => if s.srcState e = 1 ∧ s.srcDest e = d then s.wrFld Obj.srcStreams e 0 2 2 else s)
      (s.setMarshal { s.marshal with heldDevs := d :: s.marshal.heldDevs })

/-- The held streams to a device go on with a cut. -/
def State.freeDev (s : State) (d : Nat) : State :=
  ((s.listed Obj.srcStreams).foldl
    (fun s e => if s.srcState e = 2 ∧ s.srcDest e = d then (s.wrFld Obj.srcStreams e 0 2 1).cutStream e true else s)
    (s.setMarshal { s.marshal with heldDevs := s.marshal.heldDevs.filter (· != d) })).pump

/-! ### Fences (R448) -/

/-- A port whose peer is fenced goes to PEER_SCRATCHED and stays there until TRAIN blocks arrive. -/
def State.fencePort (s : State) (d p : Nat) : State :=
  let st := s.portState p
  if s.portPeer p ≠ d then s
  else if st = portUp then
    let s := s.leaveUp p causePeerScratched portPeerScratched
    s.setPort p { s.port p with fenced := true }
  else if st = portTraining ∨ st = portDown ∨ st = portPeerRest ∨ st = portPeerScratched then
    (s.setPort p { s.port p with fenced := true, step := 0 }).setPortState p portPeerScratched
  else s

/-- Every port whose peer is a device. -/
def State.fenceDev (s : State) (d : Nat) : State := foldUp (fun p s => s.fencePort d p) 0 64 s

/-! ### What every module does in the steps of an epoch (R461) -/

/-- A list of U16 in a payload. -/
def u16s (bs : List Byte) : List Nat := (List.range (bs.length / 2)).map fun k => leCode (sliceBytes bs (2 * k) 2)

/-- The payload of a list of U16. -/
def u16Bytes (l : List Nat) : List Byte := l.flatMap (leBytes 2)

/-- A Guard group and the loss of devices (R461 step 1). `ended` says that the last epoch has ended, so that every REBUILDING group
has been rebuilt and its members lost before are lost no more (R216; log entry 36). -/
def State.groupLoses (s : State) (ids : List Nat) (ended : Bool) (i : Nat) : State :=
  let js := (List.range (s.guardK i + 2)).filter fun j => ids.contains (s.guardMember i j) && j != s.guardSelf i
  let rebuilt := ended && s.rd Obj.guardState i == 3 && !(s.guard i).missing
  let s := if rebuilt then (s.wr Obj.guardState i 1).setGuard i { s.guard i with lost := [], vacant := false } else s
  js.foldl (fun s j => s.guardLose i j) s

/-- Step 1, ANNOUNCE, at any module: streams are held, collectives abort, Guard groups quiesce (R197, R362, R215). The module
itself, if it is named, scratches itself (R447). A lost set that does not hold all of the last one is that of an epoch begun
after the last one ended (R462). -/
def State.doLost (s : State) (ids : List Nat) : State :=
  if ids.contains s.devId then s.scratch causeManager
  else
    let ended := s.marshal.lost.any fun d => !ids.contains d
    let s := s.setMarshal { s.marshal with lost := ids, quietDue := true }
    let s := ids.foldl (fun s d => (s.holdDev d).collLost d) s
    let s := if s.marshal.role = 2 then ids.foldl (fun s d => s.setMem d memScratched) s else s
    foldUp (fun i s => s.groupLoses ids ended i) 0 64 s

/-- The route entries of a pair (R458): in every class the active and the shadow entry of the spare ID go to the rank ID, and
VALID is cleared at the spare ID. -/
def State.reroutePair (s : State) (spare rank : Nat) : State :=
  (List.range 5).foldl (fun s c =>
    [Obj.routeActive, Obj.routeShadow].foldl (fun s o =>
      let v := s.rd o (65536 * c + spare)
      (s.wr o (65536 * c + rank) v).wr o (65536 * c + spare) (setBits v 0 1 0)) s) s

/-- The membership entries of a pair after the relay: the rank is ACTIVE on the spare's hardware, the spare ID is FREE. The
score starts at 0 (R454). -/
def State.relayEntry (s : State) (spare rank : Nat) : State :=
  let e := s.rd Obj.membership spare
  let s := s.wr Obj.membership rank (memActive + bits e 8 8 * 2 ^ 8 + s.rd Obj.expelGroup rank * 2 ^ 24 + bits e 128 128 * 2 ^ 128)
  let s := (s.setMem rank memActive).wr Obj.membership spare 0
  (s.setWatch rank { s.watch spare with rank := true, charge := [0, 0, 0, 0], beat := s.now }).setWatch spare Watch.init

/-- Step 6, REROUTE, at any module. -/
def State.doReroute (s : State) (pairs : List (Nat × Nat)) : State :=
  let s := pairs.foldl (fun s p => s.reroutePair p.1 p.2) s
  if s.marshal.role = 2 then pairs.foldl (fun s p => s.relayEntry p.1 p.2) s else s

/-- Step 7, RESUME, at any module: held streams go on, Guard groups with a spare member go REBUILDING; one with a member still
VACANT stays QUIESCING (R463). -/
def State.doRelayed (s : State) (ids : List Nat) : State :=
  let s := ids.foldl State.freeDev s
  let group (i : Nat) (s : State) : State :=
    if s.rd Obj.guardState i ≠ 2 then s
    else if (s.guard i).lost.all fun j => ids.contains (s.guardMember i j) then
      (((s.wr Obj.guardState i 3).setGuard i { s.guard i with vacant := false }).rollForward i).releaseWaiting
    else s.setGuard i { s.guard i with vacant := true }
  let s := foldUp group 0 64 s
  if s.isManager then s else (s.setMarshal { s.marshal with lost := [] }).wrFld Obj.recoveryState 0 32 8 0

/-! ### The manager's epochs (R460 to R463) -/

/-- The key of an acknowledgement: the module and, of a FENCE, the subject. -/
def ackKey (n subject : Nat) : Nat := n * 2 ^ 16 + subject

/-- Whether a lost rank has not been relayed yet. -/
def State.unrelayed (s : State) (d : Nat) : Bool := s.memState d == memScratched || s.memState d == memVacant

/-- The device ID under which the manager knows the sender of a frame: a spare that has taken its rank is known under its spare
ID until step 6 (R459, R461). -/
def State.senderOf (s : State) (src : Nat) : Nat :=
  match s.marshal.pairs.find? fun p => p.2 == src && s.unrelayed src with
  | some p => p.1
  | none => src

/-- The spares that have taken their ranks in the epoch in progress, each with the rank (R461 step 5): a new epoch goes on with
them (R462). -/
def State.pairsTaken (s : State) : List (Nat × Nat) :=
  s.marshal.pairs.filter fun p =>
    s.marshal.acks.contains (5 * 2 ^ 32 + ackKey p.1 0) && s.unrelayed p.2 && s.memState p.1 == memReady

/-- The modules that have reported a device as the peer of an UP port (R452 kind 6). -/
def State.neighbours (s : State) (d : Nat) : List Nat := s.members.filter fun n => (s.watch n).peers.contains d

/-- The Guard descriptors in the Marshal store that name a device, as (device, descriptor). -/
def State.groupsOf (s : State) (d : Nat) : List (Nat × Nat) :=
  (s.guardStore.filter fun p => p.2.testBit 0
    && (List.range (bits p.2 8 4 + 2)).any fun j => bits p.2 (192 + 16 * j) 16 == d).map fun p => (p.1 / 64, p.2)

/-- The survivors of every Guard group that a lost device belongs to (R461 step 4). -/
def State.quietAsked (s : State) (lost : List Nat) : List Nat :=
  let ms := lost.flatMap fun d => (s.groupsOf d).flatMap fun g =>
    (List.range (bits g.2 8 4 + 2)).map fun j => bits g.2 (192 + 16 * j) 16
  (ms.filter fun m => !lost.contains m && s.members.contains m).eraseDups

/-- The Guard entries that a rank's spare must rebuild (R461 step 8). -/
def State.rankEntries (s : State) (rank : Nat) : List (Nat × Nat) :=
  (s.guardStore.filter fun p => p.1 / 64 == rank && p.2.testBit 0).map fun p => (rank, p.1 % 64)

/-- The grades that may take a lost rank, the preferred first (R457). -/
def spareGrades (grade : Nat) (repro : Bool) : List Nat :=
  if repro then [grade] else if grade = 3 then [3, 2, 1] else if grade = 2 then [2, 1] else [1]

/-- Chooses a spare for a lost rank (R457), none where there is no suitable one. -/
def State.chooseSpare (s : State) (rank : Nat) (taken : List Nat) : Option Nat :=
  let spares := s.readySpares.filter fun d => !taken.contains d && !s.marshal.refused.contains (d, rank)
  let ofGrade (g : Nat) : Option Nat := spares.find? fun d => s.fld Obj.membership d 8 8 == g
  (spareGrades (s.fld Obj.membership rank 8 8) (s.watch rank).repro).findSome? ofGrade

/-- SELECT for one lost rank: a spare, or VACANT. -/
def State.selectRank (s : State) (rank : Nat) : State :=
  let m := s.marshal
  match s.chooseSpare rank (m.pairs.map (·.1)) with
  | some d => s.setMarshal { m with pairs := m.pairs ++ [(d, rank)], vacant := m.vacant.filter (· != rank) }
  | none =>
    if s.memState rank = memVacant then s
    else ((s.setMem rank memVacant).marshalLog 5 rank 0).setMarshal { m with vacant := rank :: m.vacant }

/-- The bytes of RELAY: the rank ID, then its 64 Guard descriptors (R459). -/
def State.relayBytes (s : State) (rank : Nat) : List Byte :=
  leBytes 2 rank ++ (List.range 64).flatMap fun e => leBytes 64 (KMap.get s.guardStore 0 (64 * rank + e))

/-- Sends RELAY. Its 4,098 bytes are more than an MGT frame takes (R249), so they go in two frames (log entry 34). -/
def State.sendRelay (s : State) (spare rank : Nat) : State :=
  let bs := s.relayBytes rank
  (s.tell spare 0x0A rank 5 (bs.take 4096)).tell spare 0x0A rank 5 (bs.drop 4096)

/-- A step begins: C300.01 shows it, its messages go out, and those who are to acknowledge it are noted. -/
def State.stepBegin (s : State) (k : Nat) : State :=
  let s := s.wrFld Obj.recoveryState 0 32 8 k
  let s := s.setMarshal { s.marshal with stepAt := s.now, awaiting := [] }
  let lost := s.marshal.lost
  let all (s : State) : State := s.setMarshal { s.marshal with awaiting := s.members.map fun n => ackKey n 0 }
  match k with
  | 1 => all ((s.tellAll 0x07 0xFFFF 1 (u16Bytes lost)).doLost lost)
  | 2 =>
    let ds := lost.filter s.unrelayed
    let asked := ds.flatMap fun d => (s.neighbours d).map fun n => (n, d)
    let s := ds.foldl State.fenceDev s
    let s := asked.foldl (fun s p => s.tell p.1 0x08 p.2 2 []) s
    s.setMarshal { s.marshal with awaiting := asked.map fun p => ackKey p.1 p.2 }
  | 3 => (lost.filter fun d => (s.watch d).rank && s.unrelayed d && !s.marshal.pairs.any (·.2 == d)).foldl State.selectRank s
  | 4 => s.setMarshal { s.marshal with awaiting := (s.quietAsked lost).map fun n => ackKey n 0 }
  | 5 =>
    let ps := s.marshal.pairs
    let s := ps.foldl (fun s p => s.sendRelay p.1 p.2) s
    s.setMarshal { s.marshal with awaiting := ps.map fun p => ackKey p.1 0 }
  | 6 =>
    let ps := s.marshal.pairs
    let s := (ps.foldl (fun s p => s.relayEntry p.1 p.2) s).doReroute ps
    if ps.isEmpty then s
    else all ((s.tellAll 0x0B 0xFFFF 6 (ps.flatMap fun p => leBytes 2 p.1 ++ leBytes 2 p.2)).spareNote)
  | 7 =>
    let ids := lost.filter fun d => (s.watch d).rank && !s.unrelayed d
    let s := (s.marshal.pairs.map (·.2)).foldl (fun s d => s.marshalLog 4 d 0) s
    all ((s.tellAll 0x0C 0xFFFF 7 (u16Bytes ids)).doRelayed ids)
  | _ =>
    let new := s.marshal.pairs.flatMap fun p => s.rankEntries p.2
    s.setMarshal { s.marshal with rebuilds := s.marshal.rebuilds ++ new.filter fun x => !s.marshal.rebuilds.contains x }

/-- Whether every addressee of the step has acknowledged it. -/
def State.stepDone (s : State) : Bool :=
  s.marshal.awaiting.all fun k => s.marshal.acks.contains (s.epochStep * 2 ^ 32 + k)

/-- Goes on through the steps that are done. -/
def advanceGo : Nat → State → State
  | 0, s => s
  | n + 1, s =>
    let k := s.epochStep
    if k = 0 ∨ !s.stepDone then s
    else if k < 8 then advanceGo n (s.stepBegin (k + 1))
    else if s.marshal.rebuilds.isEmpty then
      (s.wrFld Obj.recoveryState 0 32 8 0).setMarshal { s.marshal with lost := [], pairs := [], awaiting := [] }
    else s

/-- Goes on through the steps of the epoch. -/
def State.advanceEpoch (s : State) : State := (advanceGo 9 s).spareNote

/-- Sends MANAGER_CHANGE (R449): this module, and the standby, 0xFFFF where there is none. -/
def State.tellChange (s : State) : State :=
  (s.tellAll 0x0F 0xFFFF 0 (leBytes 2 s.devId ++ leBytes 2 s.marshal.standby)).marshalLog 0x0A s.devId 0

/-- A new epoch (R461, R462): its number rises by 1; its lost set is the new losses, with those of an epoch still in progress.
`change` says that the manager or the standby has changed. -/
def State.startEpoch (s : State) (new : List Nat) (change : Bool) : State :=
  let again := s.epochStep ≠ 0
  let m := s.marshal
  let lost := (if again then m.lost else []) ++ new.filter fun d => !(again && m.lost.contains d)
  let s := s.wr Obj.recoveryState 0 ((s.epoch + 1) % 2 ^ 32 + 2 ^ 32 + s.now % 2 ^ 64 * 2 ^ 64 + lost.length % 2 ^ 16 * 2 ^ 128)
  let s := s.setMarshal { m with lost := lost, acks := [], refused := [], pairs := s.pairsTaken, done := [] }
  let s := if again then s.marshalLog 6 0xFFFF 0 else s
  let s := if change then s.tellChange else s
  (s.stepBegin 1).advanceEpoch

/-- The standby in force is replaced by the available spare with the lowest ID, which leaves the spare count (R449). -/
def State.appointStandby (s : State) : State :=
  match s.readySpares with
  | d :: _ => (s.setMem d memStandby).setMarshal { s.marshal with standby := d }
  | [] => s.setMarshal { s.marshal with standby := 0xFFFF }

/-- Marks a module scratched (R447), with the reason that MARSHAL_LOG gives. -/
def State.markScratched (s : State) (d reason : Nat) : State :=
  let w := s.watch d
  let serial := s.fld Obj.membership d 128 128
  let s := s.setWatch d { w with misses := 0, suspect := false, probe := none, relayed := false, known := false, restAt := none }
  let s := (s.setMem d memScratched).marshalLog 3 d reason
  s.setMarshal { s.marshal with scratchedSerials := serial :: s.marshal.scratchedSerials.filter (· != serial) }

/-- The manager, or the standby of the manager, decides that modules are scratched (R447, R449): recovery begins. -/
def State.decideScratch (s : State) (ds : List Nat) (reason : Nat) : State :=
  let m := s.marshal
  let s := ds.foldl (fun s d => s.markScratched d reason) s
  if m.role = 2 then
    if ds.contains m.manager then
      let s := s.setMarshal { s.marshal with role := 1, manager := s.devId }
      ((s.setMem s.devId memManager).appointStandby).startEpoch (m.lost ++ ds) true
    else s
  else if ds.contains m.standby then s.appointStandby.startEpoch ds true
  else s.startEpoch ds false

/-! ### Heartbeats and probes (R445, R446) -/

/-- HEARTBEAT_SEND (R445): every 50 microseconds, to the manager and the standby, and from the manager to the standby. A module that
waits for Marshal's permission says so in RESTING (R468; log entry 37). -/
def execHeartbeatSend (s : State) : Res :=
  if !s.marshalOn || s.devId == 0xFFFF || decide (s.now < s.marshal.beatSent + 50000) then .next s
  else
    let asks := match s.powerEntry with | some e => e.waiting | none => false
    let s := s.setMarshal { s.marshal with beatSent := s.now }
    .next (s.tellManagers 0x01 s.devId
      (leBytes 8 (s.service + s.ident.grade * 2 ^ 8 + b2n asks * 2 ^ 16 + b2n s.repro * 2 ^ 17)))

/-- A suspect module has been heard (R446): it is cleared, and the domain is told. -/
def State.clearSuspect (s : State) (d : Nat) : State :=
  let w := s.watch d
  if !w.suspect then s.setWatch d { w with misses := 0 }
  else
    let s := s.setWatch d { w with misses := 0, suspect := false, probe := none, relayed := false, cleared := s.now :: w.cleared }
    let s := if s.memState d = memSuspect then s.setMem d w.back else s
    ((s.tellAll 0x06 d 0 []).marshalLog 2 d 0).freeDev d

/-- A query for DEEP REST goes to the neighbours of a module (R468); with none of them, it is allowed at once. This module
answers for itself. -/
def State.restGranted (s : State) (d : Nat) : State :=
  let w := s.watch d
  (s.setWatch d { w with restAt := none, restWait := [], restBusy := false, back := s.memState d }).setMem d memResting

/-- Whether this module sends transit through a device (R468): a valid active unicast entry for another destination, or the
PORT_MASK of a valid multicast group, names a port whose peer is the device. -/
def State.transits (s : State) (d : Nat) : Bool :=
  let mine (p : Nat) : Bool := s.portPeer p == d
  ((s.listed Obj.routeActive).any fun k =>
    let r := s.rd Obj.routeActive k
    r.testBit 0 && !r.testBit 1 && k % 65536 != d && (mine (bits r 4 6) || (r.testBit 10 && mine (bits r 11 6))))
  || (s.listed Obj.mcActive).any fun g =>
    let r := s.rd Obj.mcActive g
    r.testBit 64 && (List.range 64).any fun p => r.testBit p && mine p

/-- Sends the queries. -/
def State.restQuery (s : State) (d : Nat) : State :=
  let ns := (s.neighbours d).filter (· != d)
  let busy := s.transits d
  if ns.isEmpty ∧ !busy then s.restGranted d
  else
    ns.foldl (fun s n => s.tell n 0x11 d 0 [])
      (s.setWatch d { s.watch d with restAt := some s.now, restWait := ns, restBusy := busy })

/-- A heartbeat's bits are noted (R444), and one of a module of which nothing is known enters it in the table (log entry 36). -/
def State.noteBeat (s : State) (d p : Nat) : State :=
  let service := bits p 0 8
  let new := s.memState d = memFree
  let s := if new then
      let st := if d = s.marshal.manager then memManager else if d = s.marshal.standby then memStandby
        else if service = 3 then memSpare else memActive
      (s.setMem d st).wrFld Obj.membership d 8 24 (bits p 8 8 + s.rd Obj.expelGroup d * 2 ^ 16)
    else s
  let w := s.watch d
  s.setWatch d { w with beat := s.now, known := true, repro := p.testBit 17, resting := p.testBit 16,
                        rank := if new then s.memState d == memActive else w.rank }

/-- HEARTBEAT (R446, R468): a heartbeat arrives at the manager or the standby. -/
def execHeartbeatMsg (f : Frame) (s : State) : Res :=
  let d := s.senderOf f.src
  if !s.message f 0x01 || s.marshal.role == 0 || decide (0x1000 ≤ d) || s.unrelayed d then .next (s.passMessage f)
  else
    let p := leCode (sliceBytes f.payload 0 8)
    let s := (s.noteBeat d p).clearSuspect d
    let asks := p.testBit 16
    if !s.isManager then .next s
    else if asks && s.memState d != memResting && (s.watch d).restAt.isNone then .next (s.restQuery d)
    else if !asks && s.memState d == memResting then .next (s.setMem d (s.watch d).back)
    else if !asks then .next (s.setWatch d { s.watch d with restAt := none, restWait := [], restBusy := false })
    else .next s

/-- Whether this module tracks another's heartbeats (R446): the manager those of every live module, the standby the manager's. -/
def State.tracks (s : State) (d : Nat) : Bool :=
  s.marshalOn && (s.watch d).known && d != s.devId
    && ((s.isManager && memLive (s.memState d)) || (s.marshal.role == 2 && d == s.marshal.manager))

/-- A module becomes suspect (R446): the domain is told, streams to it are held, and it is probed. The third SUSPECT within
10 s decides a scratch. -/
def State.makeSuspect (s : State) (d : Nat) : State :=
  let w := s.watch d
  let recent := w.cleared.filter fun t => decide (s.now - t ≤ 10000000000)
  let s := s.setWatch d { w with suspect := true, probe := some s.now, relayed := false, back := s.memState d, cleared := recent }
  let s := if s.isManager then s.setMem d memSuspect else s
  let s := (((s.tellAll 0x05 d 0 []).marshalLog 1 d 0).holdDev d).tell d 0x02 d 0 []
  if 2 ≤ recent.length then s.decideScratch [d] 3 else s

/-- HEARTBEAT_MISS (R446): at 60 microseconds and every 50 microseconds after, a heartbeat that has not come is a miss; the fourth makes the
module suspect. -/
def execHeartbeatMiss (dev : Nat) (s : State) : Res :=
  let w := s.watch dev
  if !s.tracks dev || decide (s.now < w.beat + 60000 + 50000 * w.misses) then .next s
  else
    let s := s.setWatch dev { w with misses := w.misses + 1 }
    .next (if w.misses + 1 = 4 ∧ !w.suspect then s.makeSuspect dev else s)

/-- PROBE_RELAY_TIMEOUT (R446): 100 microseconds after the probe, the neighbours of the suspect relay it. -/
def execProbeRelayTimeout (dev : Nat) (s : State) : Res :=
  let w := s.watch dev
  match w.probe with
  | some t =>
    if !s.tracks dev || !w.suspect || w.relayed || decide (s.now < t + 100000) then .next s
    else
      let s := s.setWatch dev { w with relayed := true }
      .next ((s.neighbours dev).foldl (fun s n => s.tell n 0x02 dev 0 []) s)
  | none => .next s

/-- PROBE_FAIL_TIMEOUT (R446, R447, R449): 200 microseconds after the probe the module is decided scratched. -/
def execProbeFailTimeout (dev : Nat) (s : State) : Res :=
  let w := s.watch dev
  match w.probe with
  | some t =>
    if !s.tracks dev || !w.suspect || decide (s.now < t + 200000) then .next s
    else .next (s.decideScratch [dev] 1)
  | none => .next s

/-- PROBE (R446): the subject answers, to the manager or, being the manager, to the standby; another module relays the probe
link-local on its ports to the subject. -/
def execProbeMsg (f : Frame) (s : State) : Res :=
  if !s.message f 0x02 then .next (s.passMessage f)
  else
    let d := msgSubject f
    if d = s.devId then
      let dest := if s.isManager then s.marshal.standby else s.marshal.manager
      .next ((s.send (.frame (s.msgFrame dest false 0x03 d 0 (msgTime f) []))).msgSent)
    else
      .next (((List.range 64).filter fun p => s.portState p == portUp && s.portPeer p == d).foldl
        (fun s p => s.tellPort p 0x02 d (msgTime f) []) s)

/-- PROBE_ACK (R446): the suspect has answered; its misses are counted from here (log entry 36). -/
def execProbeAckMsg (f : Frame) (s : State) : Res :=
  let d := s.senderOf f.src
  if !s.message f 0x03 || !s.tracks d then .next (s.passMessage f)
  else .next ((s.setWatch d { s.watch d with beat := s.now }).clearSuspect d)

/-! ### Reports, scores and expulsion (R452 to R456) -/

/-- The corrected errors of this module (R452 kind 5). -/
def State.corrected (s : State) : Nat :=
  ([(Obj.tmCeCount, 96), (Obj.ssramCeCount, 8), (Obj.hbmCeCount, 24), (Obj.hbmOndieCeCount, 24), (Obj.dimmCeCount, 12),
    (Obj.arenaCeCount, 1)].map fun p => ((List.range p.2).map (s.rd p.1)).sum).sum

/-- The peers of this module's UP ports (R452 kind 6). -/
def State.upPeers (s : State) : List Nat :=
  ((List.range 64).filter fun p => s.portState p == portUp).map s.portPeer

/-- The Guard groups that are QUIESCING or REBUILDING (R452 kind 7). -/
def State.groupsBusy (s : State) : Nat :=
  ((List.range 64).filter fun i => s.rd Obj.guardState i == 2 || s.rd Obj.guardState i == 3).length

/-- The late events against a device that have not been reported: not CUT-marked, and CUT-marked. -/
def State.lateNew (s : State) (d : Nat) : Nat × Nat :=
  let told := KMap.get s.marshal.lateTold (0, 0) d
  let cut := s.fld Obj.lateByDest d 64 64
  let all := s.fld Obj.lateByDest d 0 64
  ((all - cut) - told.1, cut - told.2)

/-- The entries of a REPORT (R452), as device, kind and count: kinds 6, 7 and 5 first, so that they stand in its first frame. -/
def State.reportEntries (s : State) : List (Nat × Nat × Nat) :=
  let late := (s.listed Obj.lateByDest).flatMap fun d => [(d, 1, (s.lateNew d).1), (d, 2, (s.lateNew d).2)]
  let seen := s.reports.map fun p => (p.1 % 65536, p.1 / 65536, p.2)
  s.upPeers.map (fun d => (d, 6, 1))
    ++ ([(s.devId, 7, s.groupsBusy), (s.devId, 5, s.corrected - s.marshal.ceTold)] ++ seen ++ late).filter (·.2.2 != 0)

/-- An entry's 8 bytes. -/
def entryBytes (e : Nat × Nat × Nat) : List Byte := leBytes 2 e.1 ++ leBytes 1 e.2.1 ++ leBytes 1 0 ++ leBytes 4 e.2.2

/-- The frames of a list of entries: 511 in each, at least one frame. -/
def reportFrames : Nat → List (Nat × Nat × Nat) → List (List Byte)
  | 0, _ => []
  | n + 1, es =>
    (leBytes 4 (es.take 511).length ++ (es.take 511).flatMap entryBytes)
      :: (if (es.drop 511).isEmpty then [] else reportFrames n (es.drop 511))

/-- The entries in a payload. -/
def entriesOf (bs : List Byte) : List (Nat × Nat × Nat) :=
  (List.range (min (leCode (bs.take 4)) ((bs.length - 4) / 8))).map fun k =>
    let e := sliceBytes bs (4 + 8 * k) 8
    (leCode (sliceBytes e 0 2), leCode (sliceBytes e 2 1), leCode (sliceBytes e 4 4))

/-- Charges a report of module `d` (R453): kinds 1 to 4 to the device each entry names; 5 to 7 are the module's own. -/
def State.charge (s : State) (d : Nat) (es : List (Nat × Nat × Nat)) : State :=
  let s := es.foldl (fun s e =>
    if 1 ≤ e.2.1 ∧ e.2.1 ≤ 4 then
      let w := s.watch e.1
      s.setWatch e.1 { w with charge := modifyNth (· + e.2.2) (e.2.1 - 1) w.charge }
    else s) s
  let of (k : Nat) : List (Nat × Nat × Nat) := es.filter (·.2.1 == k)
  let w := s.watch d
  let peers := if (of 6).isEmpty then w.peers else (of 6).map (·.1)
  s.setWatch d { w with peers := peers, own := w.own + ((of 5).map (·.2.2)).sum, busy := ((of 7).map (·.2.2)).sum }

/-- Modules whose SCRATCH blocks a neighbour has seen are decided scratched (R447). -/
def State.seenScratched (s : State) (ds : List Nat) : State :=
  if !s.isManager then s
  else
    let ds := (ds.filter fun d => memLive (s.memState d) && d != s.devId).eraseDups
    if ds.isEmpty then s else s.decideScratch ds 2

/-- REPORT_SEND (R452): every 10 ms, to the manager and the standby; the manager takes its own. The PEER_SCRATCHED events that go
with it have no encoding in the spec (log entry 34). -/
def execReportSend (s : State) : Res :=
  if !s.marshalOn || s.devId == 0xFFFF || decide (s.now < s.marshal.reportSent + 10000000) then .next s
  else
    let es := s.reportEntries
    let late := (s.listed Obj.lateByDest).foldl (fun m d =>
      let cut := s.fld Obj.lateByDest d 64 64
      KMap.set m (0, 0) d (s.fld Obj.lateByDest d 0 64 - cut, cut)) s.marshal.lateTold
    let seen := s.scratchSeen
    let s := (reportFrames (es.length + 1) es).foldl (fun s bs => s.tellManagers 0x04 0xFFFF bs) s
    let s := s.setMarshal { s.marshal with reportSent := s.now, lateTold := late, ceTold := s.corrected }
    let s : State := { s with reports := [], scratchSeen := [] }
    .next (if s.marshal.role == 0 then s else (s.charge s.devId es).seenScratched seen)

/-- REPORT (R452, R453, R447): a report arrives; `scratched` are the devices whose SCRATCH blocks it tells of. -/
def execReportMsg (f : Frame) (scratched : List Nat) (s : State) : Res :=
  if !s.message f 0x04 || reportSpoilt f || s.marshal.role == 0 || s.unrelayed (s.senderOf f.src) then .next (s.passMessage f)
  else .next ((s.charge (s.senderOf f.src) (entriesOf f.payload)).seenScratched scratched)

/-- The score of a module at a window's end (R454). -/
def State.newScore (s : State) (d : Nat) : Nat :=
  let c := s.rd Obj.scoreConfig 0
  let w := s.watch d
  let k (i : Nat) : Nat := w.charge.getD i 0
  let p := bits c 0 8 * k 0 + bits c 8 8 * k 1 + bits c 16 8 * k 2 + bits c 24 8 * k 3 + w.own / max 1 (bits c 32 16)
  let old := s.fld Obj.membership d 16 8
  min 255 (old - old / 16 + min p 255)

/-- The scores of every entry, and the counts of the window forgotten. -/
def State.scoreAll (s : State) : State :=
  (s.listed Obj.membership).foldl (fun s d =>
    let n := s.newScore d
    (if s.memState d = memFree then s else s.wrFld Obj.membership d 16 8 n).setWatch d
      { s.watch d with charge := [0, 0, 0, 0], own := 0 }) s

/-- Inserts a device in descending score, ascending ID. -/
def insertByScore (x : Nat × Nat) : List (Nat × Nat) → List (Nat × Nat)
  | [] => [x]
  | y :: l => if y.1 < x.1 ∨ (y.1 = x.1 ∧ x.2 < y.2) then x :: y :: l else y :: insertByScore x l

/-- The modules of rank ID at or above EXPEL_SCORE, in the order in which they are considered. -/
def State.expulsionOrder (s : State) : List Nat :=
  let limit := s.fld Obj.scoreConfig 0 48 8
  let cand := (s.listed Obj.membership).filter fun d =>
    (s.watch d).rank && (s.memState d == memActive || s.memState d == memSuspect) && decide (limit ≤ s.fld Obj.membership d 16 8)
  ((cand.map fun d => (s.fld Obj.membership d 16 8, d)).foldl (fun l x => insertByScore x l) []).map (·.2)

/-- Whether a module may be expelled now (R455, R456): `decided` are those already decided at this window's end. -/
def State.mayExpel (s : State) (epochBusy : Bool) (decided : List Nat) (d : Nat) : Bool :=
  let c := s.rd Obj.scoreConfig 0
  let group := s.rd Obj.expelGroup d
  let window := bits c 64 16 * 10 ^ 9
  let past := (s.marshal.expelled.filter fun p => p.1 == group && decide (s.now - p.2 < window)).length
  let now := (decided.filter fun x => s.rd Obj.expelGroup x == group).length
  decide (past + now < bits c 56 8) && (s.watch d).busy == 0 && !epochBusy
    && decide (bits c 80 8 ≤ s.readySpares.length - decided.length)

/-- SCORE_WINDOW_END (R454 to R456): every 10 ms the scores are updated, and the manager expels what it may, all together in one
epoch. -/
def execScoreWindowEnd (s : State) : Res :=
  if !s.marshalOn || s.marshal.role == 0 || decide (s.now < s.marshal.windowAt + 10000000) then .next s
  else
    let s := s.scoreAll.setMarshal { s.marshal with windowAt := s.now }
    let c := s.rd Obj.scoreConfig 0
    if !s.isManager || bits c 48 8 == 0 || bits c 56 8 == 0 then .next s
    else
      let order := s.expulsionOrder
      let decided := order.foldl (fun l d => if s.mayExpel (s.epochStep != 0) l d then l ++ [d] else l) []
      let s := (order.filter fun d => !decided.contains d).foldl (fun s d => s.marshalLog 7 d 0) s
      if decided.isEmpty then .next s
      else
        let told := s.marshal.expelled ++ decided.map fun d => (s.rd Obj.expelGroup d, s.now)
        .next ((s.setMarshal { s.marshal with expelled := told }).decideScratch decided 5)

/-! ### Messages of the manager (R450, R460) -/

/-- Takes over a higher epoch: the steps of a lower one are abandoned. C300.01 shows the epoch and when it began here. -/
def State.adoptEpoch (s : State) (e : Nat) : State :=
  (((s.wrFld Obj.recoveryState 0 0 32 e).wrFld Obj.recoveryState 0 32 8 0).wrFld Obj.recoveryState 0 64 64
    (s.now % 2 ^ 64)).setMarshal { s.marshal with done := [] }

/-- Whether a message comes from the manager, or from the standby in the manager's place: it suspects and clears the manager
(R446). -/
def fromManager (f : Frame) : Bool := msgRole f == 1 || (msgRole f == 2 && (msgType f == 0x05 || msgType f == 0x06))

/-- Acts on a message of the manager (R450): one of a lower epoch is passed over; a manager that receives one of a higher epoch
scratches itself. -/
def State.onManager (s : State) (f : Frame) (mtype : Nat) (act : State → State) : Res :=
  if !s.message f mtype || !fromManager f || decide (msgEpoch f < s.epoch) then .next (s.passMessage f)
  else if s.isManager then .next (if s.epoch < msgEpoch f then s.scratch causeManager else s)
  else .next (act (if s.epoch < msgEpoch f then s.adoptEpoch (msgEpoch f) else s))

/-- Acts on a step's message once in its epoch (R460): `act` does the step and says whether it is refused; a repeated message is
acknowledged again and changes nothing. C300.01 shows the step. -/
def State.onStep (s : State) (f : Frame) (mtype step subject : Nat) (act : State → Bool × State) : Res :=
  s.onManager f mtype fun s =>
    let key := step * 2 ^ 16 + subject
    if msgStep f ≠ step then s
    else if s.marshal.done.contains key then s.stepAck step subject 0
    else
      let r := act (s.wrFld Obj.recoveryState 0 32 8 step)
      let s := r.2
      if s.scratched then s
      else if r.1 then s.stepAck step subject 1
      else (s.setMarshal { s.marshal with done := key :: s.marshal.done }).stepAck step subject 0

/-- SUSPECT (R197): streams to the subject are held. -/
def execSuspectMsg (f : Frame) (s : State) : Res := s.onManager f 0x05 fun s => s.holdDev (msgSubject f)

/-- CLEARED (R197): they go on with a cut, unless the subject is lost. -/
def execClearedMsg (f : Frame) (s : State) : Res :=
  s.onManager f 0x06 fun s => if s.marshal.lost.contains (msgSubject f) then s else s.freeDev (msgSubject f)

/-- LOST (R461 step 1, R447). -/
def execLostMsg (f : Frame) (s : State) : Res :=
  match s.onStep f 0x07 1 0 (fun s =>
    let ids := u16s f.payload
    (false, (s.doLost ids).wrFld Obj.recoveryState 0 128 16 ids.length)) with
  | .next s' => .next (if s'.scratched then s' else s'.quietTold)
  | r => r

/-- FENCE (R448, R461 step 2): a module that is the subject scratches itself (R447). -/
def execMarshalFenceMsg (f : Frame) (s : State) : Res :=
  s.onStep f 0x08 2 (msgSubject f) fun s =>
    (false, if msgSubject f = s.devId then s.scratch causeManager else s.fenceDev (msgSubject f))

/-- REROUTE (R458, R461 step 6). -/
def execRerouteMsg (f : Frame) (s : State) : Res :=
  s.onStep f 0x0B 6 0 fun s =>
    let ids := u16s f.payload
    (false, s.doReroute ((List.range (ids.length / 2)).map fun k => (ids.getD (2 * k) 0, ids.getD (2 * k + 1) 0)))

/-- RELAYED (R461 step 7). -/
def execRelayedMsg (f : Frame) (s : State) : Res :=
  s.onStep f 0x0C 7 0 fun s => (false, s.doRelayed (u16s f.payload))

/-- Whether this spare can hold a Guard descriptor of a rank (R457): its ranges are mapped here, and the ranges of R213 are
free to take. -/
def State.relayDescOk (s : State) (d : Nat) : Bool :=
  let k := bits d 8 4
  let len := 4096 * bits d 128 32
  let table := if bits d 12 4 < k then 0 else ceilDiv (4 * bits d 128 32 * k) 4096 * 4096
  !d.testBit 0 || (decide (bits d 16 4 < 2) && s.mapped (bits d 16 4) (bits d 64 44) (len + table)
    && !s.meetsGuardRanges (bits d 16 4) (bits d 64 44) (len + table))

/-- A Guard descriptor of the rank is written, its group REBUILDING with this member's symbol missing (R459). -/
def State.relayDesc (s : State) (i d : Nat) : State :=
  let s := s.wr Obj.guardDesc i d
  if !d.testBit 0 then s.wr Obj.guardState i 0
  else
    let lost := (List.range (bits d 8 4 + 2)).filter fun j =>
      j != bits d 12 4 && s.marshal.lost.contains (bits d (192 + 16 * j) 16)
    { (s.wr Obj.guardState i 3).setGuard i { GuardSt.init with lost := lost, missing := true } with guardRanges := .held }

/-- RELAY (R459, R461 step 5): a spare takes a rank: its Guard descriptors, its ID, IN_SERVICE. `rest` is what its other frame
brings (log entry 34). A spare that cannot hold them refuses; one that has taken the rank in an epoch before has done the
step (R462). -/
def execRelayMsg (f : Frame) (rest : List Byte) (s : State) : Res :=
  s.onStep f 0x0A 5 0 fun s =>
    let bs := f.payload ++ rest
    let ds := (List.range 64).map fun e => leCode (sliceBytes bs (2 + 64 * e) 64)
    let clash := ds.any (·.testBit 0)
      && (s.poolsMeetGuard || s.windowsMeetGuard || s.redirectsMeetGuard || s.coresMeetGuard)
    if s.service = 1 ∧ s.devId = leCode (bs.take 2) then (false, s)
    else if s.service ≠ 3 ∨ (ds.any (·.testBit 0) && !s.hasCompute) ∨ !ds.all s.relayDescOk ∨ clash then (true, s)
    else
      let s := ds.zipIdx.foldl (fun s p => s.relayDesc p.2 p.1) s
      (false, (s.wr Obj.deviceId 0 (leCode (bs.take 2))).wr Obj.serviceState 0 1)

/-- STEP_ACK (R460, R461): an acknowledgement at the manager. A spare that refuses its rank is passed over, and the rank is given to
another (R457). A spare that has taken its rank answers under the rank ID. -/
def execStepAckMsg (f : Frame) (s : State) : Res :=
  if !s.message f 0x09 || !s.isManager || msgEpoch f != s.epoch then .next (s.passMessage f)
  else
    let m := s.marshal
    let n := s.senderOf f.src
    let refused := leCode (f.payload.take 1) = 1
    if refused ∧ msgStep f = 5 ∧ s.epochStep = 5 then
      match m.pairs.find? (fun p => p.1 == n) with
      | none => .next s
      | some p =>
        let s := s.setMarshal { m with refused := p :: m.refused, pairs := m.pairs.filter (· != p),
                                       awaiting := m.awaiting.filter (· != ackKey p.1 0) }
        let s := s.selectRank p.2
        match s.marshal.pairs.find? (fun q => q.2 == p.2) with
        | some q =>
          let s := s.sendRelay q.1 q.2
          .next (s.setMarshal { s.marshal with awaiting := s.marshal.awaiting ++ [ackKey q.1 0] }).advanceEpoch
        | none => .next s.advanceEpoch
    else
      let key := msgStep f * 2 ^ 32 + ackKey n (if msgStep f = 2 then msgSubject f else 0)
      .next ((s.setMarshal { m with acks := key :: m.acks }).advanceEpoch)

/-- STEP_TIMEOUT (R461, R462): a step has not finished within STEP_TIMEOUT. Those who have not acknowledged it are probed as
suspects, and the epoch is raised. Step 8 has no such bound (log entry 36). -/
def execStepTimeout (s : State) : Res :=
  let k := s.epochStep
  if !s.marshalOn || !s.isManager || k == 0 || k == 8 || decide (s.now < s.marshal.stepAt + 1000 * s.rd Obj.stepTimeoutUs 0) then
    .next s
  else
    let late := ((s.marshal.awaiting.filter fun x => !s.marshal.acks.contains (k * 2 ^ 32 + x)).map (· / 2 ^ 16)).eraseDups
    let s := (late.filter fun d => s.tracks d && !(s.watch d).suspect).foldl (fun s d => s.makeSuspect d) s
    .next (s.startEpoch [] false)

/-- REBUILT (R461 step 8, R466): a spare has rebuilt a group, or its group has become VOID. -/
def execRebuiltMsg (f : Frame) (s : State) : Res :=
  if !s.message f 0x13 || !s.isManager then .next (s.passMessage f)
  else
    let p := leCode (f.payload.take 1)
    let s := s.marshalLog (if bits p 6 2 = 1 then 8 else 9) f.src 0
    let left := s.marshal.rebuilds.filter (· != (f.src, bits p 0 6))
    .next (s.setMarshal { s.marshal with rebuilds := left }).advanceEpoch

/-- MANAGER_CHANGE (R449): the manager and the standby in force change. -/
def execManagerChangeMsg (f : Frame) (s : State) : Res :=
  s.onManager f 0x0F fun s =>
    let ids := u16s f.payload
    let standby := ids.getD 1 0xFFFF
    let role := if standby = s.devId then 2 else 0
    (s.setMarshal { s.marshal with role := role, manager := ids.getD 0 0xFFFF, standby := standby }).marshalLog 0x0A (ids.getD 0 0xFFFF) 0

/-- GUARD_SYNC (R444, R459): the manager and the standby keep a rank's Guard descriptor in the Marshal store. -/
def execGuardSyncMsg (f : Frame) (s : State) : Res :=
  if !s.message f 0x10 || s.marshal.role == 0 then .next (s.passMessage f)
  else
    let key := 64 * f.src + leCode (sliceBytes f.payload 64 1) % 64
    .next { s with guardStore := KMap.set s.guardStore 0 key (leCode (sliceBytes f.payload 0 64)) }

/-! ### Admission (R442) -/

/-- HELLO_SEND (R442): every 10 ms, on every port that is UP, from a module without a device ID. -/
def execHelloSend (s : State) : Res :=
  if !s.marshalOn || s.devId != 0xFFFF || decide (s.now < s.marshal.helloSent + 10000000) then .next s
  else
    let bs := leBytes 16 s.ident.serial ++ leBytes 1 s.ident.grade
    let s := s.setMarshal { s.marshal with helloSent := s.now }
    .next (((List.range 64).filter fun p => s.portState p == portUp).foldl (fun s p => s.tellPort p 0x0D 0xFFFF s.now bs) s)

/-- Sends ASSIGN on the ports where a serial number said HELLO. -/
def State.assignOut (s : State) (serial : Nat) (bs : List Byte) : State :=
  (s.marshal.helloPorts.filter fun p => p.1 == serial).foldl (fun s p => s.tellPort p.2 0x0E 0xFFFF s.now bs) s

/-- The manager gives a serial number a device ID: its entry, its watch, and ASSIGN through the relay. -/
def State.assign (s : State) (serial grade relay id : Nat) (spare : Bool) : State :=
  let e := (if spare then memSpare else memActive) + grade * 2 ^ 8 + s.rd Obj.expelGroup id * 2 ^ 24
    + s.now % 2 ^ 64 * 2 ^ 64 + serial * 2 ^ 128
  let m := s.marshal
  let s := (s.wr Obj.membership id e).setWatch id { Watch.init with rank := !spare, beat := s.now }
  let s := s.setMarshal { m with admits := m.admits.filter (fun a => a.1 != serial)
                                 admitted := serial :: m.admitted.filter (· != serial)
                                 scratchedSerials := m.scratchedSerials.filter (· != serial) }
  let bs := leBytes 8 (id + b2n spare * 2 ^ 16) ++ leBytes 16 serial
  if relay = s.devId then s.assignOut serial bs else s.tell relay 0x0E 0xFFFF 0 bs

/-- The spare entries that a serial number held when it was scratched are FREE again. -/
def State.freeOld (s : State) (serial : Nat) : State :=
  ((s.listed Obj.membership).filter fun d => s.memState d == memScratched && !(s.watch d).rank
    && s.fld Obj.membership d 128 128 == serial).foldl (fun s d => s.wr Obj.membership d 0) s

/-- HELLO at the manager (R442 step 3): your ADMIT names the serial number, or it is admitted and was last scratched, and then gets the
lowest free ID as a spare; a HELLO repeated before the first heartbeat is answered again. -/
def State.helloAt (s : State) (serial grade relay : Nat) : State :=
  match s.marshal.admits.find? (fun a => a.1 == serial) with
  | some a => s.assign serial grade relay a.2.1 a.2.2
  | none =>
    match (s.listed Obj.membership).find? (fun d => s.fld Obj.membership d 128 128 == serial && !(s.watch d).known
        && (s.memState d == memActive || s.memState d == memSpare)) with
    | some d => s.assign serial grade relay d (s.memState d == memSpare)
    | none =>
      if s.marshal.admitted.contains serial ∧ s.marshal.scratchedSerials.contains serial then
        let s := s.freeOld serial
        match (List.range 0x1000).find? (fun d => s.memState d == memFree) with
        | some d => s.assign serial grade relay d true
        | none => s
      else s

/-- HELLO (R442): from a new module on port `port`, link-local, or forwarded by a neighbour to the manager. -/
def execHelloMsg (port : Nat) (f : Frame) (s : State) : Res :=
  if 64 ≤ port then .fault .noSuchUnit
  else if !s.message f 0x0D || s.devId == 0xFFFF then .next (s.passMessage f)
  else
    let serial := leCode (sliceBytes f.payload 0 16)
    let grade := leCode (sliceBytes f.payload 16 1)
    let near := f.dest == 0xFFFF
    let m := s.marshal
    let s := if near then s.setMarshal { m with helloPorts := (serial, port) :: m.helloPorts.filter fun p => p.1 != serial } else s
    if s.isManager then .next (s.helloAt serial grade (if near then s.devId else f.src))
    else if near then .next (s.tell m.manager 0x0D 0xFFFF 0 f.payload)
    else .next s

/-- ASSIGN (R442 step 4): the new module takes its device ID and service state; a relay passes it on. -/
def execAssignMsg (f : Frame) (s : State) : Res :=
  if !s.message f 0x0E then .next (s.passMessage f)
  else
    let p := leCode (sliceBytes f.payload 0 8)
    let serial := leCode (sliceBytes f.payload 8 16)
    if s.devId ≠ 0xFFFF then .next (s.assignOut serial f.payload)
    else if serial ≠ s.ident.serial ∨ 0x1000 ≤ bits p 0 16 ∨ s.service ≠ 0 then .next s
    else .next ((s.wr Obj.deviceId 0 (bits p 0 16)).wr Obj.serviceState 0 (if p.testBit 16 then 3 else 1))

/-! ### Commands to the manager (C100.03, R474) -/

/-- The answer of MARSHAL_CMD. -/
def State.marshalAnswer (s : State) (code : Nat) : State := s.wr Obj.marshalCmd 0 code

/-- ADMIT (R442, R474): the serial number, device ID and kind of ADMIT_DESC. -/
def execMarshalAdmit (s : State) : Res :=
  let d := s.rd Obj.admitDesc 0
  let id := bits d 128 16
  let serial := bits d 0 128
  if !s.isManager then .next (s.marshalAnswer 2)
  else if bits d 145 111 ≠ 0 ∨ 0x1000 ≤ id then .next (s.marshalAnswer 4)
  else if s.memState id ≠ memFree ∨ s.marshal.admits.any (fun a => a.2.1 == id && a.1 != serial) then .next (s.marshalAnswer 3)
  else
    let m := s.marshal
    .next ((s.setMarshal { m with admits := (serial, id, d.testBit 144) :: m.admits.filter fun a => a.1 != serial }).marshalAnswer 1)

/-- SPARE_READY (R442 step 5, R463): a spare becomes available; where it suits a VACANT rank, a new epoch begins for those ranks. -/
def execSpareReady (dev : Nat) (s : State) : Res :=
  if !s.isManager then .next (s.marshalAnswer 2)
  else if s.memState dev ≠ memSpare then .next (s.marshalAnswer 3)
  else
    let s := ((s.setMem dev memReady).spareNote).marshalAnswer 1
    let now := s.marshal.vacant.filter fun d => (s.chooseSpare d []).isSome
    .next (if now.isEmpty then s else s.startEpoch s.marshal.vacant false)

/-- SCRATCH on C100.03 (R447). -/
def execMarshalScratch (dev : Nat) (s : State) : Res :=
  if !s.isManager then .next (s.marshalAnswer 2)
  else if !(memLive (s.memState dev) || s.memState dev == memResting) || dev == s.devId then .next (s.marshalAnswer 3)
  else .next ((s.decideScratch [dev] 4).marshalAnswer 1)

/-- TAKE_MANAGER (R451): this module becomes the manager, in an epoch above every one it has heard of. `reachable` says that a
manager answers. -/
def execTakeManager (reachable : Bool) (s : State) : Res :=
  if s.devId = 0xFFFF ∨ s.scratched then .next (s.marshalAnswer 3)
  else if reachable || s.isManager then .next (s.marshalAnswer 5)
  else
    let s := s.setMarshal { s.marshal with role := 1, manager := s.devId, standby := 0xFFFF }
    .next (((s.setMem s.devId memManager).startEpoch s.marshal.lost true).marshalAnswer 1)

/-! ### DEEP REST (R468) -/

/-- REST_QUERY (R468): a neighbour answers whether it routes transit through the subject. -/
def execRestQueryMsg (f : Frame) (s : State) : Res :=
  s.onManager f 0x11 fun s => s.tell s.marshal.manager 0x12 (msgSubject f) 0 (leBytes 1 (b2n (s.transits (msgSubject f))))

/-- REST_ANSWER (R468): when every neighbour has answered 0, the module is RESTING, and its entry is allowed. -/
def execRestAnswerMsg (f : Frame) (s : State) : Res :=
  let d := msgSubject f
  let w := s.watch d
  if !s.message f 0x12 || !s.isManager || !w.restWait.contains f.src then .next (s.passMessage f)
  else
    let left := w.restWait.filter (· != f.src)
    let busy := w.restBusy || leCode (f.payload.take 1) % 2 == 1
    let s := s.setWatch d { w with restWait := left, restBusy := busy }
    .next (if left.isEmpty ∧ !busy then s.restGranted d else s)

/-- REST_QUERY_RETRY (R468): every 10 ms while the request stands. -/
def execRestQueryRetry (dev : Nat) (s : State) : Res :=
  match (s.watch dev).restAt with
  | some t =>
    .next (if s.marshalOn && s.isManager && memLive (s.memState dev) && decide (t + 10000000 ≤ s.now) then s.restQuery dev else s)
  | none => .next s

end Sys2Proof.Machine
end

