-- ==== Sys2Proof/Machine/Rebuild.lean ====
section
/-! DEFINITION. The Guard rebuild on a spare, with the scan engine's check of every rebuilt stripe (R387, R465, R466). -/

namespace Sys2Proof.Machine

/-- Whether a decoded stripe passes its check (R465): a data symbol against its check entry; a parity symbol by the entries of
every data symbol and by both syndromes. `checks` are the entries read from a surviving parity member, by data symbol. -/
def stripeOk (k self : Nat) (symbols : List (Nat × List Byte)) (checks : List (Nat × Nat)) (data : List (Nat × List Byte)) : Bool :=
  let entryOk (j : Nat) : Bool := match checks.find? (fun c => c.1 == j) with
    | some c => crcRaw ((symbolOf data j).getD []) == c.2
    | none => true
  if self < k then entryOk self
  else (List.range k).all entryOk
    && ([k, k + 1].all fun p => match symbolOf symbols p with | some d => d == symbolFrom k p data | none => true)

/-- The symbols of a set in ascending index. -/
def inOrder (symbols : List (Nat × List Byte)) : List (Nat × List Byte) :=
  (List.range 16).filterMap fun j => (symbols.find? fun p => p.1 == j)

/-- The k symbols from which a stripe is decoded: those of lowest index (R465), or, for the second time, another set, where
there is one (R466). -/
def trialSet (k : Nat) (symbols : List (Nat × List Byte)) (second : Bool) : Option (List (Nat × List Byte)) :=
  let all := inOrder symbols
  if !second then some (all.take k) else if k < all.length then some (all.drop (all.length - k)) else none

/-- The whole group is rebuilt (R461 step 8, R465): it is ACTIVE here, and the manager is told. -/
def State.groupRebuilt (s : State) (i : Nat) : State :=
  let s := (s.wr Obj.guardState i 1).setGuard i
    { s.guard i with lost := [], missing := false, done := [], vacant := false, trial := none }
  s.tell s.marshal.manager 0x13 s.devId 0 (leBytes 1 i)

/-- The rebuild of a group ends as VOID (R466, R216). -/
def State.rebuildVoid (s : State) (i : Nat) : State :=
  ((s.setGuard i { s.guard i with trial := none }).guardVoid i).tell s.marshal.manager 0x13 s.devId 0 (leBytes 1 (i + 64))

/-- A background stripe has passed its check: it is rebuilt and counted (C400.01), and what waited for it goes on. -/
def State.stripeDone (s : State) (i stripe second : Nat) : State :=
  let s := ((s.markStripe i stripe).startStores i).releaseWaiting
  ((s.inc Obj.guardRebuild i 0 32 1).inc Obj.guardRebuild i 32 32 1).inc Obj.guardRebuild i 64 32 second

/-- The first stripe of a group that has not been rebuilt. -/
def State.nextStripe (s : State) (i : Nat) : Option Nat :=
  (List.range (s.fld Obj.guardDesc i 128 32)).find? fun x => !(s.guard i).done.contains x

/-- The controller that holds this member's symbol of a stripe. -/
def State.stripeController (s : State) (i stripe : Nat) : Option Nat :=
  s.controllerAt (s.place (s.guardRegion i) (s.guardBase i + 4096 * stripe))

/-- The ns for which a background stripe uses up its share of a memory channel's time (R465): the 4 KiB written and the 4 KiB that
the CHECK reads, at REBUILD_SHARE percent of 2,048 GB/s of an HBM4 stack or 70.4 GB/s of a DDR5 channel. -/
def stripeTime (share region : Nat) : Nat := if region = 0 then ceilDiv 819200 (2048 * share) else ceilDiv 8192000 (704 * share)

/-- Whether the share of a controller's time is used up for now (R465). -/
def State.shareUsed (s : State) (c : Option Nat) : Bool :=
  (List.range 64).any fun j => (s.guard j).shareOn == c && decide (s.now < (s.guard j).shareEnd)

/-- A group whose stripe is being tried, with the share of time that this takes. -/
def State.tryNote (s : State) (i : Nat) (t : Trial) : State :=
  s.setGuard i { s.guard i with
    trial := some t, shareOn := s.stripeController i t.stripe,
    shareEnd := max s.now (s.guard i).shareEnd + stripeTime (s.rd Obj.rebuildShare 0) (s.guardRegion i) }

/-- A stripe is decoded, this member's symbol is written, and its CHECK is handed to the scan engine ahead of every queued
job (R465 steps 1 to 3, R387). Where nothing can be decoded, another set is tried, and at last the group is VOID (R466). -/
def State.tryStripe (s : State) (i : Nat) (t : Trial) : State :=
  let start (t : Trial) : Option State :=
    ((trialSet (s.guardK i) t.symbols t.second).bind (decodeStripe (s.guardK i))).map fun data =>
      let s := (s.putSymbol i t.stripe data).tryNote i t
      { s with scanJobs := ⟨.verify i, 0, false, some 15⟩ :: s.scanJobs }
  match start t with
  | some s => s
  | none =>
    match if t.second then none else start { t with second := true } with
    | some s => s
    | none => s.rebuildVoid i

/-- GUARD_STRIPE_REBUILD (R465, R466): the next background stripe is decoded and written, and is to be checked; a group whose
stripes are all rebuilt is ACTIVE. It takes at most REBUILD_SHARE percent of the time of the member's
memory channel. `symbols` are the surviving symbols that are there to read, `checks` the check entries. -/
def execGuardStripeRebuild (entry : Nat) (symbols : List (Nat × List Byte)) (checks : List (Nat × Nat)) (s : State) : Res :=
  if 64 ≤ entry || s.scratched || s.rd Obj.guardState entry != 3 || !(s.guard entry).missing
      || (s.guard entry).trial.isSome then .next s
  else
    match s.nextStripe entry with
    | none => .next (s.groupRebuilt entry)
    | some stripe =>
      .next (if s.survivorsOk entry symbols && !s.shareUsed (s.stripeController entry stripe) then
          s.tryStripe entry ⟨stripe, symbols, checks, false⟩
        else s)

/-- Whether a rebuilt stripe passes its check (R465): what was decoded agrees with the check entries, and memory holds it. -/
def State.trialOk (s : State) (i : Nat) (t : Trial) : Bool :=
  let k := s.guardK i
  match (trialSet k t.symbols t.second).bind (decodeStripe k) with
  | some data =>
    stripeOk k (s.guardSelf i) t.symbols t.checks data
      && crcRaw (s.load (s.guardRegion i) (s.guardBase i + 4096 * t.stripe) 4096) == crcRaw (symbolFrom k (s.guardSelf i) data)
  | none => false

/-- The CHECK of a rebuilt stripe ends (R387, R465, R466): CVU 15 holds its value; the stripe is rebuilt, or decoded again
from another set of survivors, or the group is VOID. The parameters that A100.01 shows for CVU 15 stay as they are (log entry
86). -/
def State.verifyEnd (s : State) (i : Nat) (ecc : Ecc) : State :=
  let s := { s with scanJobs := s.scanJobs.filter fun j => j.owner != ScanOwner.verify i }
  match (s.guard i).trial with
  | none => s
  | some t =>
    let off := s.guardBase i + 4096 * t.stripe
    match s.eccRead ecc (s.guardRegion i) off 4096 with
    | (false, s) => s
    | (true, s) =>
      let v := crcRaw (s.load (s.guardRegion i) off 4096)
      let s := (s.wr Obj.cvuRun 15 (v + 4096 * 2 ^ 64)).wrFld Obj.cvuState 15 64 64 v
      let s' := s.setGuard i { s.guard i with trial := none }
      if (s.guard i).done.contains t.stripe then s'
      else if s.trialOk i t then
        let s' := s'.stripeDone i t.stripe (b2n t.second)
        if (s'.nextStripe i).isNone then s'.groupRebuilt i else s'
      else if t.second then s'.rebuildVoid i
      else s'.tryStripe i { t with second := true }

end Sys2Proof.Machine
end

