-- ==== Sys2Proof/Machine/Cvu.lean ====
section
/-! DEFINITION. The check-value units and the scan engine (R379 to R390). -/

namespace Sys2Proof.Machine

/-! ### Check values -/

/-- The parameters of a CVU (R379, R390). -/
structure CrcParams where
  w : Nat
  poly : Nat
  init : Nat
  refin : Bool
  refout : Bool
  xorout : Nat
  deriving DecidableEq, Repr

/-- An entry of A100.01 read as parameters. -/
def crcParams (e : Nat) : CrcParams :=
  ⟨bits e 0 7, bits e 64 64, bits e 128 64, e.testBit 7, e.testBit 8, bits e 192 64⟩

/-- The low `w` bits in reverse order. -/
def reflect : Nat → Nat → Nat
  | 0, _ => 0
  | w + 1, v => (v % 2) * 2 ^ w + reflect w (v / 2)

/-- One byte into the running value (R379). -/
def crcByte (p : CrcParams) (reg : Nat) (b : Byte) : Nat :=
  let x := if p.refin then reflect 8 b.toNat else b.toNat
  [7, 6, 5, 4, 3, 2, 1, 0].foldl (fun r i => crcBitN p.w p.poly r (x.testBit i)) reg

/-- A byte string into the running value. -/
def crcFeed (p : CrcParams) (reg : Nat) (bs : List Byte) : Nat := bs.foldl (crcByte p) reg

/-- The result formed from the running value (R379). -/
def crcResult (p : CrcParams) (reg : Nat) : Nat := (if p.refout then reflect p.w reg else reg) ^^^ p.xorout

/-- The check value of a byte string from START to FINISH. -/
def crcOf (p : CrcParams) (bs : List Byte) : Nat := crcResult p (crcFeed p p.init bs)

/-! ### The units -/

/-- The parameters of a unit. -/
def State.cvuParams (s : State) (c : Nat) : CrcParams := crcParams (s.rd Obj.cvuParams c)
/-- REG of a unit. -/
def State.cvuReg (s : State) (c : Nat) : Nat := s.fld Obj.cvuRun c 0 64
/-- BYTES of a unit. -/
def State.cvuBytes (s : State) (c : Nat) : Nat := s.fld Obj.cvuRun c 64 64
/-- Sets REG and BYTES; the spec states no BYTES beyond 64 bits (log entry 3). -/
def State.setRun (s : State) (c reg bytes : Nat) : State := s.wr Obj.cvuRun c (reg % 2 ^ 64 + bytes % 2 ^ 64 * 2 ^ 64)
/-- The state of a unit: 0 IDLE, 1 RUNNING, 2 HELD. -/
def State.cvuState (s : State) (c : Nat) : Nat := s.fld Obj.cvuState c 0 2
/-- Sets it. -/
def State.setCvuState (s : State) (c v : Nat) : State := s.wrFld Obj.cvuState c 0 2 v
/-- Sets RESULT. -/
def State.setCvuResult (s : State) (c v : Nat) : State := s.wrFld Obj.cvuState c 64 64 v
/-- Sets FEED_LEFT. -/
def State.setFeedLeft (s : State) (c v : Nat) : State := s.wrFld Obj.cvuState c 128 64 v

/-- The answer of 4 CVU_CMD. -/
def State.cvuAnswer (s : State) (code : Nat) : State := s.wr Obj.cvuCmd 0 code

/-- Whether a unit refuses every command (R382, R390: answer 2). -/
def State.cvuClosed (s : State) (c : Nat) : Bool := s.cvuClaimed c || s.cvuTaken c

/-- START of a unit (R379). -/
def State.cvuBegin (s : State) (c : Nat) : State := s.setRun c (s.cvuParams c).init 0

/-- FINISH of a unit (R379). -/
def State.cvuEnd (s : State) (c : Nat) : State := s.setCvuResult c (crcResult (s.cvuParams c) (s.cvuReg c))

/-- A command of A100.04 that needs no feed: accepted in the states given, else refused (log entry 30). -/
def State.cvuCommand (s : State) (c : Nat) (ok : Nat → Bool) (f : State → State) : State :=
  if s.cvuClosed c then s.cvuAnswer 2
  else if ok (s.cvuState c) then (f s).cvuAnswer 1
  else s.cvuAnswer 3

/-- CVU_START (R379): accepted while the unit is IDLE or HELD (log entry 30). -/
def execCvuStart (cvu : Nat) (s : State) : Res :=
  .next (if 16 ≤ cvu then s else s.cvuCommand cvu (· != 1) (·.cvuBegin cvu))

/-- CVU_FINISH (R379): accepted while the unit is IDLE or HELD (log entry 30). -/
def execCvuFinish (cvu : Nat) (s : State) : Res :=
  .next (if 16 ≤ cvu then s else s.cvuCommand cvu (· != 1) (·.cvuEnd cvu))

/-- The bytes of a feed or scan range. -/
def State.rangeBytes (s : State) (a n : Nat) : List Byte :=
  if bits a 44 4 = 15 then s.memRead spaceArena (bits a 0 44) n else s.load (bits a 44 4) (bits a 0 44) n

/-- Whether a range is wholly mapped in region 0, 1 or 2 of this module (R383, R385). -/
def State.rangeOk (s : State) (a n : Nat) : Bool :=
  s.ownAddr a && decide (bits a 44 4 < 3) && s.mapped (bits a 44 4) (bits a 0 44) n

/-- Starts the feed at the front (R383). -/
def State.feedBegin (s : State) (c : Nat) : State :=
  match (s.cvu c).feeds with
  | [] => s.setCvuState c 0
  | f :: _ =>
    let s := if f.start then s.cvuBegin c else s
    (s.setFeedLeft c f.len).setCvuState c 1

/-- FEED (R383): the descriptor of A100.05 is queued at a unit. -/
def execFeed (cvu : Nat) (s : State) : Res :=
  let d := s.rd Obj.feedDesc 0
  let f : Feed := ⟨bits d 0 64, bits d 64 32, d.testBit 96, d.testBit 97⟩
  if 16 ≤ cvu then .next s
  else if s.cvuClosed cvu then .next (s.cvuAnswer 2)
  else if bits d 98 30 ≠ 0 ∨ f.len = 0 ∨ !s.rangeOk f.addr f.len then .next (s.cvuAnswer 5)
  else if 16 ≤ (s.cvu cvu).feeds.length then .next (s.cvuAnswer 4)
  else
    let s' := s.setCvu cvu ⟨(s.cvu cvu).feeds ++ [f]⟩
    .next ((if (s.cvu cvu).feeds.isEmpty then s'.feedBegin cvu else s').cvuAnswer 1)

/-- Feeds bytes of the feed in progress until `left` of them are still to come. -/
def State.feedTo (s : State) (c : Nat) (f : Feed) (left : Nat) : State :=
  let was := s.fld Obj.cvuState c 128 64
  let n := was - left
  let bs := s.rangeBytes (f.addr + (f.len - was)) n
  (s.setRun c (crcFeed (s.cvuParams c) (s.cvuReg c) bs) (s.cvuBytes c + n)).setFeedLeft c left

/-- CVU_SUSPEND (R384): the unit stops at the first 64-byte boundary at or after `fed` more bytes, or at the end of the feed. -/
def execCvuSuspend (cvu fed : Nat) (s : State) : Res :=
  if 16 ≤ cvu then .next s
  else
    match (s.cvu cvu).feeds with
    | [] => .next (s.cvuCommand cvu (· == 1) id)
    | f :: _ =>
      let was := s.fld Obj.cvuState cvu 128 64
      let at_ := f.addr + (f.len - was)
      let stop := min was (ceilDiv (at_ + fed) 64 * 64 - at_)
      .next (s.cvuCommand cvu (· == 1) fun s => (s.feedTo cvu f (was - stop)).setCvuState cvu 2)

/-- CVU_RESUME (R384). -/
def execCvuResume (cvu : Nat) (s : State) : Res :=
  .next (if 16 ≤ cvu then s else s.cvuCommand cvu (· == 2) (·.setCvuState cvu 1))

/-- CVU_CANCEL (R384): the feeds are discarded, REG stands as the `fed` bytes fed meanwhile left it, and the unit is IDLE. -/
def execCvuCancel (cvu fed : Nat) (s : State) : Res :=
  if 16 ≤ cvu then .next s
  else
    let stop (s : State) : State := ((s.setCvu cvu ⟨[]⟩).setFeedLeft cvu 0).setCvuState cvu 0
    match (s.cvu cvu).feeds with
    | [] => .next (s.cvuCommand cvu (fun _ => true) stop)
    | f :: _ =>
      let was := s.fld Obj.cvuState cvu 128 64
      .next (s.cvuCommand cvu (fun _ => true) fun s =>
        stop (if s.cvuState cvu = 1 then s.feedTo cvu f (was - min was fed) else s))

/-- What the codes say of a range read by a CVU or a scan job (R166, R168): whether it goes on, and the state. -/
def State.rangeEcc (s : State) (ecc : Ecc) (a n : Nat) : Bool × State := s.eccRead ecc (bits a 44 4) (bits a 0 44) n

/-- FEED_DONE (R383): the feed in progress ends, and the next that waits starts. `ecc` is the outcome of its read (R168). -/
def execFeedDone (cvu : Nat) (ecc : Ecc) (s : State) : Res :=
  if 16 ≤ cvu then .fault .noSuchUnit
  else
    match (s.cvu cvu).feeds with
    | [] => .next s
    | f :: rest =>
      if s.cvuState cvu ≠ 1 ∨ s.scratched then .next s
      else
        match s.rangeEcc ecc f.addr f.len with
        | (false, s) => .next s
        | (true, s) =>
          let s := s.feedTo cvu f 0
          let s := if f.finish then s.cvuEnd cvu else s
          .next ((s.setCvu cvu ⟨rest⟩).feedBegin cvu)

/-! ### The scan engine -/

/-- JOB of a descriptor (R385): 1 FILL, 2 CHECK, 3 COMPUTE. -/
def scanJobOf (d : Nat) : Nat := bits d 0 8
/-- CVU. -/
def scanCvuOf (d : Nat) : Nat := bits d 8 4
/-- BLOCK. -/
def scanBlockOf (d : Nat) : Nat := bits d 32 32
/-- START. -/
def scanStartOf (d : Nat) : Nat := bits d 64 64
/-- LEN. -/
def scanLenOf (d : Nat) : Nat := bits d 128 64
/-- TABLE, or the expected value of a CHECK with BLOCK 0. -/
def scanTableOf (d : Nat) : Nat := bits d 192 64

/-- The number of values of a CHECK or COMPUTE. -/
def scanBlocks (d : Nat) : Nat := if scanBlockOf d = 0 then 1 else ceilDiv (scanLenOf d) (scanBlockOf d)

/-- Whether a scan range is there: regions 0 to 2, or the arena with REGION 15 (R385). -/
def State.scanRangeOk (s : State) (a n : Nat) : Bool :=
  if bits a 44 4 = 15 then s.ownAddr a && decide (bits a 0 44 + n ≤ 2 ^ 28) else s.rangeOk a n

/-- Whether a descriptor may be submitted (R385). -/
def State.scanDescOk (s : State) (d : Nat) : Bool :=
  let job := scanJobOf d
  let block := scanBlockOf d
  bits d 12 4 == 0 && bits d 24 8 == 0 && bits d 320 192 == 0 && decide (1 ≤ job) && decide (job ≤ 3)
    && decide (1 ≤ bits d 16 8) && decide (bits d 16 8 ≤ 100) && decide (1 ≤ scanLenOf d) && decide (scanLenOf d ≤ 2 ^ 44)
    && s.scanRangeOk (scanStartOf d) (scanLenOf d)
    && (if job = 1 then scanStartOf d % 64 == 0 && scanLenOf d % 64 == 0
      else !s.cvuClaimed (scanCvuOf d)
        && (block == 0 || (block % 64 == 0 && decide (block ≤ 2 ^ 20)))
        && ((job == 2 && block == 0) || s.rangeOk (scanTableOf d) (8 * scanBlocks d)))

/-- Whether a queue entry holds a job that waits or runs. -/
def State.scanEntryUsed (s : State) (e : Nat) : Bool := s.scanJobs.any fun j => j.owner == .queue e

/-- The answer of A200.02. -/
def State.scanAnswer (s : State) (code : Nat) : State := s.wrFld Obj.scanCmd 0 0 8 code

/-- SCAN_SUBMIT (R385): the descriptor of A200.01 takes the lowest free queue entry (log entry 31). -/
def execScanSubmit (s : State) : Res :=
  let d := s.rd Obj.scanDesc 0
  if !s.inRun then .next (s.scanAnswer 4)
  else if !s.scanDescOk d then .next (s.scanAnswer 3)
  else
    match (List.range 16).find? fun e => !s.scanEntryUsed e with
    | none => .next (s.scanAnswer 2)
    | some e =>
      let s := { s with scanJobs := s.scanJobs ++ [(⟨.queue e, d, false, if scanJobOf d = 1 then none else some (scanCvuOf d)⟩ : ScanJob)] }
      .next ((s.wr Obj.scanResult e 1).wr Obj.scanCmd 0 (1 + e * 2 ^ 8))

/-- One block of a CHECK or COMPUTE (R386): its bytes are fed with START and FINISH, and its result is written or compared.
`acc` holds the mismatches and the first of them. -/
def State.scanBlock (s : State) (d cvu k : Nat) (acc : Nat × Nat) : State × (Nat × Nat) :=
  let size := if scanBlockOf d = 0 then scanLenOf d else scanBlockOf d
  let off := k * size
  let n := min size (scanLenOf d - off)
  let p := s.cvuParams cvu
  let reg := crcFeed p p.init (s.rangeBytes (scanStartOf d + off) n)
  let result := crcResult p reg
  let s := (s.setRun cvu reg n).setCvuResult cvu result
  let t := scanTableOf d
  if scanJobOf d = 3 then (s.store (bits t 44 4) (bits t 0 44 + 8 * k) (leBytes 8 result), acc)
  else
    let want := if scanBlockOf d = 0 then t else leCode (s.load (bits t 44 4) (bits t 0 44 + 8 * k) 8)
    (s, if result = want then acc else (acc.1 + 1, if acc.1 = 0 then k else acc.2))

/-- The first `n` blocks of a CHECK or COMPUTE. -/
def State.scanBlocksTo (s : State) (d cvu n : Nat) : State × (Nat × Nat) :=
  (List.range n).foldl (fun r k => r.1.scanBlock d cvu k r.2) (s, (0, 0))

/-- The bytes that a FILL of `n` bytes writes (R386). -/
def fillBytes (pattern n : Nat) : List Byte := (List.range (n / 8)).flatMap fun _ => leBytes 8 pattern

/-- Writes a range of a scan job. -/
def State.scanStore (s : State) (a : Nat) (bs : List Byte) : State :=
  if bits a 44 4 = 15 then s.memWrite spaceArena (bits a 0 44) bs else s.store (bits a 44 4) (bits a 0 44) bs

/-- Ends the job of an entry: its result, and the end of its hold. -/
def State.scanFinish (s : State) (e code bytes result bad first : Nat) : State :=
  let r := code + bytes * 2 ^ 64 + result * 2 ^ 128 + bad * 2 ^ 192 + first * 2 ^ 256 + (s.now % 2 ^ 64) * 2 ^ 320
  { s.wr Obj.scanResult e r with scanJobs := s.scanJobs.filter fun j => j.owner != .queue e }

/-- SCAN_JOB_START (R386, R387, R213): with no job running, the release of the Guard ranges goes first, then the check of a
rebuilt stripe, then a drain or return; then the queue's first job, once its CVU is IDLE with no feed waiting. -/
def execScanJobStart (s : State) : Res :=
  let verify (j : ScanJob) : Bool := match j.owner with | .verify _ => true | _ => false
  if s.scratched || s.scanJobs.any (·.running) || s.boot != .up || decide (2 ≤ s.power) then .next s
  else if s.guardRanges = .releasing then
    .next (if s.scanFree then { s with scanJobs := ⟨.guardFill, 0, true, some 15⟩ :: s.scanJobs } else s)
  else
    match s.scanJobs.find? verify with
    | some j =>
      .next (if s.scanFree then { s with scanJobs := { j with running := true } :: s.scanJobs.filter fun x => x != j } else s)
    | none =>
      if s.dimmCopy.isSome then .next s
      else
        match s.scanJobs with
        | [] => .next s
        | j :: rest =>
          let free := match j.cvu with
            | some c => (s.cvu c).feeds.isEmpty && s.cvuState c == 0 && !s.cvuClaimed c
            | none => true
          match j.owner with
          | .queue e =>
            if free then .next ({ s with scanJobs := { j with running := true } :: rest }.wr Obj.scanResult e 2) else .next s
          | _ => .next s

/-- The Guard ranges are filled with zeros and mapped again (R213). -/
def State.guardFill (s : State) : State :=
  let gone (k : Nat) : Bool := s.guardRangeList.any fun r => decide (memKey 0 r.1 ≤ k) && decide (k < memKey 0 (r.1 + r.2))
  { s with mem := s.mem.filter (fun c => !gone c.1), guardRanges := .free,
           scanJobs := s.scanJobs.filter fun j => j.owner != .guardFill }

/-- The reads of a CHECK or COMPUTE, with the words that a COMPUTE's table shares with other data (R160, R165): the range,
then the table. -/
def State.scanReads (s : State) (d : Nat) (ecc : Ecc) : Bool × State :=
  let t := scanTableOf d
  let n := 8 * scanBlocks d
  match s.rangeEcc ecc (scanStartOf d) (scanLenOf d) with
  | (false, s) => (false, s)
  | (true, s) =>
    let rest := eccAfter ecc (wordsOf (bits (scanStartOf d) 44 4) (bits (scanStartOf d) 0 44) (scanLenOf d))
    if scanJobOf d = 3 then s.mergeRead rest (bits t 44 4) (bits t 0 44) n
    else if scanBlockOf d = 0 then (true, s)
    else s.rangeEcc rest t n

/-- SCAN_JOB_END (R386, R387, R213): the running job has covered its range; `ecc` is the outcome of its reads. -/
def execScanJobEnd (ecc : Ecc) (s : State) : Res :=
  match s.scanJobs.find? (·.running) with
  | none => .next s
  | some j =>
    if s.scratched then .next s
    else
      match j.owner with
      | .guardFill => .next s.guardFill
      | .verify i => .next (s.verifyEnd i ecc)
      | .queue e =>
        let d := j.desc
        if scanJobOf d = 1 then
          .next ((s.scanStore (scanStartOf d) (fillBytes (bits d 256 64) (scanLenOf d))).scanFinish e 3 (scanLenOf d) 0 0 0)
        else
          match s.scanReads d ecc with
          | (false, s) => .next s
          | (true, s) =>
            let r := s.scanBlocksTo d (scanCvuOf d) (scanBlocks d)
            let result := if scanBlockOf d = 0 then r.1.fld Obj.cvuState (scanCvuOf d) 64 64 else 0
            .next (r.1.scanFinish e (if r.2.1 = 0 then 3 else 4) (scanLenOf d) result r.2.1 r.2.2)

/-- SCAN_CANCEL (R386): a queued or running job ends; `done` is how far a running one has come. Words a FILL has written
stay, in whole blocks of 64 bytes (R383); so do the values of the blocks that a COMPUTE has done. -/
def execScanCancel (entry done : Nat) (s : State) : Res :=
  if 16 ≤ entry then .next s
  else
    match s.scanJobs.find? fun j => j.owner == .queue entry with
    | none => .next (s.scanAnswer 5)
    | some j =>
      let d := j.desc
      if !j.running then .next ((s.scanFinish entry 5 0 0 0 0).scanAnswer 1)
      else
        let n := min done (scanLenOf d)
        if scanJobOf d = 1 then
          let n := n / 64 * 64
          .next (((s.scanStore (scanStartOf d) (fillBytes (bits d 256 64) n)).scanFinish entry 5 n 0 0 0).scanAnswer 1)
        else
          let blocks := if scanBlockOf d = 0 then 0 else min (n / scanBlockOf d) (scanBlocks d)
          let r := s.scanBlocksTo d (scanCvuOf d) blocks
          .next ((r.1.scanFinish entry 5 n 0 r.2.1 r.2.2).scanAnswer 1)

/-- Whether a scan job or CVU feed runs (R388). -/
def State.scanBusy (s : State) : Bool :=
  s.scanJobs.any (·.running) || (List.range 16).any fun c => s.cvuState c == 1

end Sys2Proof.Machine
end

