-- ==== Sys2Proof/Machine/Lde.lean ====
section
/-! DEFINITION. Dispatch of the LDE and FXE queues (R88, R99, R189 to R193, R203, R346). -/

namespace Sys2Proof.Machine

/-- An address register of a core (R99). -/
def State.areg (s : State) (n k : Nat) : Nat := (s.core n).areg.getD k 0

/-- A[AREG] + AOFF of a command (R190), modulo 2^64. -/
def State.ldeAddr (s : State) (n k w : Nat) : Nat := (s.areg n k + bits w 60 32) % 2 ^ 64

/-- The bytes from an address to the next multiple of 4 KiB. -/
def toPage (a : Nat) : Nat := 4096 - a % 4096

/-- Cuts `len` bytes into pieces of at most 4,096 bytes that cross no 4 KiB boundary of either address (R190): offset and
length of each, in ascending order. -/
def cutPieces : Nat → Nat → Nat → Nat → Nat → List (Nat × Nat)
  | 0, _, _, _, _ => []
  | k + 1, a, b, off, len =>
    if len = 0 then []
    else
      let n := min len (min (toPage (a + off)) (toPage (b + off)))
      (off, n) :: cutPieces k a b (off + n) (len - n)

/-- The request of a core's command for one piece. -/
def State.ldeReq (s : State) (n w op addr len tm : Nat) (owner : ReqOwner) : GReq :=
  let ord := w.testBit 7 && op != 1
  let stream := if ord then bits w 8 12 else 0
  { owner := owner, op := op, addr := addr, len := len, aop := if op = 3 then bits w 3 4 else 0,
    atype := if op = 3 then bits w 0 3 else 0, opnd := 0, ord := ord, stream := stream, release := op == 4 && w.testBit 3,
    tc := if ord then s.rd Obj.streamTc stream else s.rd Obj.coreReqTc n, tm := tm, payload := [], slice := n / 12,
    tag := 0, entry := 0, seq := 0, gen := 0, first := 0, last := 0, cut := false }

/-- The requests of a dispatched memory command, and the number of request ends that complete it: a COPY's pieces end with
their write (R99). -/
def State.ldeReqs (s : State) (n : Nat) (op : CoreOp) (q : QCmd) : List GReq :=
  let w := q.word
  let own := ReqOwner.core n q.ord
  let a := s.ldeAddr n (bits w 92 4) w
  let tm := 16 * bits w 40 20
  let len := bits w 20 20 + 1
  let most := len / 4096 + len / 4096 + 4
  match op with
  | .load => (cutPieces most a a 0 len).map fun p => s.ldeReq n w 1 ((a + p.1) % 2 ^ 64) p.2 (tm + p.1) own
  | .store => (cutPieces most a a 0 len).map fun p => s.ldeReq n w 2 ((a + p.1) % 2 ^ 64) p.2 (tm + p.1) own
  | .copy =>
    let b := s.ldeAddr n (bits w 56 4) w
    (cutPieces most a b 0 len).map fun p =>
      s.ldeReq n w 1 ((a + p.1) % 2 ^ 64) p.2 0 (.copy n q.ord ((b + p.1) % 2 ^ 64))
  | .atom => [s.ldeReq n w 3 a 16 tm own]
  | .fence => [s.ldeReq n w 4 a 1 0 own]
  | _ =>
    let r := s.ldeReq n w 5 (bits w 80 16 * 2 ^ 48) 1 0 own
    [{ r with opnd := bits w 72 8 * 2 ^ 24 + bits w 64 8 * 2 ^ 16 }]

/-- The status with which a request ends before it is sent (R183, R182, R203): no device ID, a reserved device, or an
unordered FP32 ADD in reproducibility mode. -/
def State.ldeRefused (s : State) (r : GReq) : Option Nat :=
  if s.devId = 0xFFFF then some 0x22
  else if 0x1000 ≤ r.dest then some 0x01
  else if s.repro ∧ r.op = 3 ∧ r.aop = 0 ∧ r.atype = 4 ∧ !r.ord then some 0x21
  else none

/-- Hands the requests of a command to the GMU: the command is outstanding until every one of them has ended. -/
def State.ldeStart (s : State) (n : Nat) (q : QCmd) (rs : List GReq) : State :=
  let ends (r : GReq) : Nat := match r.owner with | .copy _ _ _ => 2 | _ => 1
  let c := s.core n
  let s := s.setCore n { c with varCmds := c.varCmds ++ [⟨q, (rs.map ends).sum, false⟩] }
  (rs.foldl (fun s r => match s.ldeRefused r with
    | some st => s.endReq r st [] .clean
    | none => { s with waiting := s.waiting ++ [r] }) s).pump

/-- SETA (R191): the address register is written, and the post takes place. -/
def State.seta (s : State) (n : Nat) (q : QCmd) : State :=
  let c := s.core n
  let s := s.setCore n { c with areg := modifyNth (fun _ => bits q.word 28 64) (bits q.word 92 4) c.areg }
  s.post n q.word q.pos q.ord

/-- COLL at the CLE (R346, R347): it posts when the CLE has accepted it. `ecc` is the outcome of the read of the descriptor. -/
def State.collDispatch (s : State) (n : Nat) (q : QCmd) (ecc : Ecc) : State :=
  let w := q.word
  let c := bits w 54 6
  let a := s.ldeAddr n (bits w 92 4) w
  let reads := bits w 32 20 = 0 ∧ s.rangeHere a 64
  match if reads then s.eccRead ecc (bits a 44 4) (bits a 0 44) 64 else (true, s) with
  | (false, s) => s
  | (true, s) =>
    match s.collAccept n c a (bits w 32 20) (bits w 12 20 + 1) false none with
    | .ok s => s.post n w q.pos q.ord
    | .error code => s.collError n code c q.ord

/-- The TM ranges that the requests of a command take their data from (R99): those of a STORE and of an ATOM. -/
def ldeSources (n : Nat) (rs : List GReq) : List (Nat × Nat × Nat) :=
  rs.filterMap fun r =>
    match r.owner with
    | .core _ _ => if r.op = 2 then some (2, tmOff n r.tm, r.len) else if r.op = 3 then some (2, tmOff n r.tm, 16) else none
    | _ => none

/-- What a command of the LDE or FXE does at its dispatch. `e` is the outcome of the reads of the TM that its requests carry
(R168); the spec does not say when in the command's time they are made: at its dispatch here (log entry 77). -/
def State.queueRun (s : State) (n : Nat) (q : QCmd) (e : Ecc) : State :=
  if q.void then s.post n q.word q.pos q.ord
  else
    match CoreOp.of q.word with
    | none => s
    | some .seta => s.seta n q
    | some .coll => s.collDispatch n q e
    | some op =>
      let rs := s.ldeReqs n op q
      match eccRanges (ldeSources n rs) e s with
      | (false, s) => s
      | (true, s) => s.ldeStart n q rs

/-- QUEUE_DISPATCH (R88, R99, R189): the head of the LDE queue (`engine` 3) or the FXE queue (`engine` 5) of a core
dispatches once its wait is satisfied, unless a request of that queue still waits to be sent. The LDE and the FXE each take
their commands in order. `ecc` is the outcome of the reads of the TM that the command's requests carry. -/
def execQueueDispatch (core engine : Nat) (ecc : Ecc) (s : State) : Res :=
  if 96 ≤ core ∨ (engine ≠ 3 ∧ engine ≠ 5) then .fault .noSuchUnit
  else if !(s.coreCanRun core && s.coreLive core) then .next s
  else
    match (s.core core).engineQueue engine with
    | [] => .next s
    | q :: rest =>
      if !s.headReady core engine || s.waiting.any (fun r => r.lane == 2 * core + b2n (engine == 5)) then .next s
      else
        let s := if waitSel q.word = 0 then s else s.takeFlag core (waitSel q.word) 1
        let c := s.core core
        let s := s.setCore core (if engine = 3 then { c with lde := rest } else { c with fxe := rest })
        .next (s.queueRun core q ecc)

end Sys2Proof.Machine
end

