-- ==== Sys2Proof/Machine/Host.lean ====
section
/-! DEFINITION. The host attachment (R391 to R415): frames from a host, host access to memory, SENDs, queue pairs, command
rings and their commands, and fabric Ethernet. The ring's POWER command is with the power states (Machine/Power.lean). -/

namespace Sys2Proof.Machine

/-! ### Host access to memory -/

/-- Answers a packet with an ECN mark by a CNP, at most one in 50 microseconds (R403). -/
def State.ecnSeen (s : State) (q : Nat) (ce : Bool) : State :=
  let x := s.qp q
  let due := match x.cnpSent with | none => true | some t => decide (t + 50000 ≤ s.now)
  if ce && due then
    let s := (s.setQp q { x with cnpSent := some s.now }).hostSend x.port hostCnp q []
    s.inc Obj.hostPortCounts x.port 320 64 1
  else s

/-- Takes an op at the end of a queue pair's list, and answers what has ended. -/
def State.pushOp (s : State) (q : Nat) (o : HostOp) : State :=
  let x := s.qp q
  (s.setQp q { x with ops := x.ops ++ [o], made := x.made + 1 }).qpFlush q

/-- An op that has nothing left to do: an acknowledgement, or a NAK. -/
def State.doneOp (s : State) (q kind psn : Nat) (nak : Option Nat) : HostOp :=
  ⟨512 * (s.qp q).made + q, kind, psn, 0, 0, [], 0, false, [], nak⟩

/-- Moves the expected PSN on by the packets of a request. -/
def State.psnOn (s : State) (q packets : Nat) : State :=
  let x := s.qp q
  s.setQp q { x with expect := (x.expect + packets) % 2 ^ 24 }

/-- How a PSN stands to the one expected: 0 it is the one, 1 ahead of it, 2 behind it. -/
def State.psnPlace (s : State) (q psn : Nat) : Nat :=
  let d := (psn + 2 ^ 24 - (s.qp q).expect) % 2 ^ 24
  if d = 0 then 0 else if d < 2 ^ 23 then 1 else 2

/-- The slice that owns a location (R265). -/
def ownerSlice (a : Nat) : Nat :=
  let off := bits a 0 44
  match bits a 44 4 with
  | 0 => bits off 38 3
  | 1 => bits off 38 4 % 8
  | 2 => bits off 30 3
  | _ => 0

/-- A GMU request of the HA (R399, R537). -/
def State.hostGReq (s : State) (q id op addr len at_ : Nat) (guard : Bool) (payload : List Byte) : GReq :=
  let stream := if guard then (s.qp q).qstream else 0
  { owner := .host id, op := op, addr := addr, len := len, aop := 0, atype := if op = 3 then 3 else 0, opnd := 0, ord := guard,
    stream := stream, release := false, tc := if guard then s.rd Obj.streamTc stream else s.rd Obj.coreReqTc 96, tm := at_,
    payload := payload, slice := ownerSlice addr, tag := 0, entry := 0, seq := 0, gen := 0, first := 0, last := 0, cut := false }

/-- The address that a request names, where R398 lets it through: `bit` is the permission it needs (1 READ, 2 WRITE,
3 ATOMIC). A window whose BASE no longer names this module (R23, R183) lets nothing through. -/
def State.windowAddr (s : State) (rkey va len bit : Nat) : Option Nat :=
  let w := s.rd Obj.accessWindow (rkey % 256)
  if w.testBit 0 && bits w 8 24 == rkey / 256 && w.testBit bit && decide (va + len ≤ bits w 128 64) && s.ownAddr (bits w 64 64)
  then some (bits w 64 64 + va) else none

/-- Whether the window of a key is a GUARD window. -/
def State.windowGuard (s : State) (rkey : Nat) : Bool := (s.rd Obj.accessWindow (rkey % 256)).testBit 4

/-- A packet for a queue pair: what is done where its PSN is the one expected, and where it is behind. A queue pair that is
not READY drops it (R404); a PSN ahead is answered with a PSN sequence error. -/
def State.hostRequest (s : State) (q psn : Nat) (ce : Bool) (fresh again : State → State) : Res :=
  if 512 ≤ q then .fault .noSuchUnit
  else if s.qpState q ≠ 1 then .next s
  else
    let s := s.ecnSeen q ce
    match s.psnPlace q psn with
    | 0 => .next (fresh s)
    | 1 => .next (s.pushOp q (s.doneOp q 0 (s.qp q).expect (some hostNakSeq)))
    | _ => .next (again s)

/-- An operation that the module does not support (R394): NAK Invalid Request, and the queue pair goes to ERROR. -/
def State.hostUnsupported (s : State) (q psn : Nat) : State := (s.psnOn q 1).pushOp q (s.doneOp q 0 psn (some hostNakInvalid))

/-! ### The host ports -/

/-- HOST_FRAME_RECEIVE (R391, R392): a frame of `len` bytes arrives on a host port. `fcsOk` says whether its FCS holds, `udp`
is its UDP destination port (0 for none) and `toIp` whether it is for the port's address, `etype` its EtherType and `toMac`
whether it is for the port's MAC, `neighbour` whether it is ARP or neighbour discovery for the port's address, `vlan` the tag it
carries; `bad` names the queue pair and PSN of a RoCEv2 operation that the module does not support (R394). The frame is
counted; the port answers what is its own with its MAC; an unsupported operation gets NAK Invalid Request; RoCEv2, CDP and
fabric injection take the rest in a command of their own (log entry 16); a frame that none takes, or that carries another tag
than the port's (log entry 90), is dropped and counted. -/
def execHostFrameReceive (hp len udp etype : Nat) (fcsOk toIp toMac neighbour : Bool) (vlan : Option Nat)
    (bad : Option (Nat × Nat)) (s : State) : Res :=
  if 2 ≤ hp then .fault .noSuchUnit
  else if s.hostPort hp ≠ 1 ∨ 9216 < len then .next s
  else if !fcsOk then .next (s.inc Obj.hostPortCounts hp 128 64 1)
  else
    let s := s.inc Obj.hostPortCounts hp 0 64 1
    let roce := toIp && udp == 4791
    if vlan ≠ s.hostVlan hp then .next (s.inc Obj.hostPortCounts hp 192 64 1)
    else if roce then
      match bad with
      | some (q, psn) => if q < 512 then s.hostRequest q psn false (fun s => s.hostUnsupported q psn) (fun s => s) else .next s
      | none => .next s
    else if (toIp && udp == 48213) || (toMac && etype == s.fld Obj.hostEther 0 8 16) then .next s
    else if neighbour then .next (s.hostSend hp hostNeighbour 0 (beBytes 6 (s.fld Obj.hostPortConfig hp 0 48)))
    else .next (s.inc Obj.hostPortCounts hp 192 64 1)


/-! ### The operations -/

/-- A host access to memory (R398, R399, R496): `make` gives its requests at the address. -/
def State.hostAccess (s : State) (q psn rkey va len kind bit packets : Nat) (make : State → Nat → Nat → List GReq) : State :=
  if s.memClosed then s.pushOp q (s.doneOp q kind psn (some hostNakRnr))
  else
    match s.windowAddr rkey va len bit with
    | none => (s.psnOn q packets).pushOp q (s.doneOp q kind psn (some hostNakAccess))
    | some a =>
      let id := 512 * (s.qp q).made + q
      let reqs := make s id a
      ((s.psnOn q packets).pushOp q ⟨id, kind, psn, a, len, reqs, reqs.length, false, [], none⟩).pump

/-- The pieces of a host range (R186). -/
def hostPieces (a len : Nat) : List (Nat × Nat) := cutPieces (len / 4096 + 2) a a 0 len

/-- RDMA_WRITE (R398, R399, R400): the packets of one WRITE, the first with `psn`. -/
def execRdmaWrite (qp psn rkey va : Nat) (data : List Byte) (ce : Bool) (s : State) : Res :=
  let make (s : State) (id a : Nat) : List GReq :=
    (hostPieces a data.length).map fun p =>
      s.hostGReq qp id 2 (a + p.1) p.2 0 (s.windowGuard rkey) (sliceBytes data p.1 p.2)
  s.hostRequest qp psn ce
    (fun s => s.hostAccess qp psn rkey va data.length 0 2 ((s.qp qp).packets data.length) make)
    (fun s => s.pushOp qp (s.doneOp qp 0 psn none))

/-- RDMA_READ (R398, R399). A READ that comes again is performed again. -/
def execRdmaRead (qp psn rkey va length : Nat) (ce : Bool) (s : State) : Res :=
  let make (s : State) (id a : Nat) : List GReq :=
    (hostPieces a length).map fun p => s.hostGReq qp id 1 (a + p.1) p.2 p.1 false []
  s.hostRequest qp psn ce
    (fun s => s.hostAccess qp psn rkey va length 1 1 ((s.qp qp).packets length) make)
    (fun s => s.hostAccess qp psn rkey va length 1 1 0 make)

/-- RDMA_ATOMIC (R399): a fetch-add, or a compare-swap of `compare` by `operand`, as a U64 atomic (R201). One that comes
again is answered with the value it had. -/
def execRdmaAtomic (qp psn rkey va : Nat) (swap : Bool) (operand compare : Nat) (ce : Bool) (s : State) : Res :=
  let make (s : State) (id a : Nat) : List GReq :=
    [{ s.hostGReq qp id 3 a 16 0 false (leBytes 8 operand ++ leBytes 8 compare) with aop := if swap then 7 else 0 }]
  s.hostRequest qp psn ce
    (fun s => s.hostAccess qp psn rkey va 8 2 3 1 make)
    (fun s => match (s.qp qp).atomics.find? (fun p => p.1 == psn) with
      | some p => s.qpSend qp hostAtomicData psn p.2
      | none => s)

/-- Steps 2 to 6 of R401, with buffer `b` of the queue pair's pool; none where the read of the log's codeword could not be
corrected. -/
def State.sendSteps (s : State) (q psn b : Nat) (data : List Byte) (ecc : Ecc) : State :=
  let x := s.qp q
  let pool := bits x.entry 320 6
  let m := x.sends
  let log := bits x.entry 352 64
  let at_ := bits log 0 44 + 16 * (m % 2 ^ bits x.entry 416 4)
  let s := s.poolWrite pool (s.bufAt pool b) data
  match s.mergeRead ecc (bits log 44 4) at_ 16 with
  | (false, s) => s
  | (true, s) =>
    let entry := b + pool * 2 ^ 32 + data.length * 2 ^ 64 + m % 2 ^ 32 * 2 ^ 96
    let s := s.memStore (bits log 44 4) at_ (leBytes 16 entry)
    let s := (s.poolHandover pool (ownerQp q) b ownerHost).state
    let flag := bits x.entry 432 8
    let s := if flag = 0 then s else s.addFlag (bits x.entry 424 7) flag 1 none
    let s := s.setQp q { s.qp q with sends := m + 1 }
    (s.psnOn q (x.packets data.length)).pushOp q (s.doneOp q 3 psn none)

/-- RDMA_SEND (R401, R402, R496): a SEND is placed in a pool buffer, logged, handed to the host, flagged and acknowledged.
A pool that is BROKEN or not enabled any more is answered with Remote Operational Error (log entry 32). `ecc` is the outcome
of the read of the buffer's link word, then of the log's codeword. -/
def execRdmaSend (qp psn : Nat) (data : List Byte) (ce : Bool) (ecc : Ecc) (s : State) : Res :=
  s.hostRequest qp psn ce
    (fun s =>
      let x := s.qp qp
      let pool := bits x.entry 320 6
      let nak (s : State) (k packets : Nat) : State := (s.psnOn qp packets).pushOp qp (s.doneOp qp 3 psn (some k))
      if !x.entry.testBit 326 then nak s hostNakInvalid 1
      else if s.memClosed then nak s hostNakRnr 0
      else
        let r := s.poolAlloc pool (ownerQp qp) false ecc
        if r.state.scratched then r.state
        else
        match r.bufs with
        | [b] =>
          if s.poolSize pool < data.length then nak (r.state.poolFreeBuf pool (ownerQp qp) b).state hostNakInvalid 1
          else r.state.sendSteps qp psn b data (eccAfter ecc 1)
        | _ =>
          if r.code = poolCrust ∨ r.code = poolDry then nak r.state hostNakRnr 0 else nak r.state hostNakOperational 1)
    (fun s => s.pushOp qp (s.doneOp qp 3 psn none))

/-- CNP (R403): a received CNP halves the send rate, down to no less than 1 Gbit/s. -/
def execCnp (qp : Nat) (s : State) : Res :=
  if 512 ≤ qp then .fault .noSuchUnit
  else if s.qpState qp ≠ 1 then .next s
  else
    let x := s.qp qp
    let s := s.inc Obj.hostPortCounts x.port 384 64 1
    .next (s.setQp qp { x with rate := max 1000000000 (x.rate / 2), rateAt := s.now })

/-- RATE_RAISE (R403): 55 microseconds without a CNP raise the rate by 5 Gbit/s, up to the line rate. -/
def execRateRaise (qp : Nat) (s : State) : Res :=
  if 512 ≤ qp then .fault .noSuchUnit
  else
    let x := s.qp qp
    if s.qpState qp ≠ 1 ∨ x.rate = 400000000000 ∨ s.now < x.rateAt + 55000 then .next s
    else .next (s.setQp qp { x with rate := min 400000000000 (x.rate + 5000000000), rateAt := s.now })

/-! ### Requests of the module -/

/-- Puts a request of the module on the wire. -/
def State.putReq (s : State) (q : Nat) (r : HostReq) : State :=
  let rkey := bits (s.hostRing r.ring).desc 32 32
  let head := beBytes 4 rkey ++ beBytes 8 r.addr ++ beBytes 4 r.len
  s.qpSend q (if r.what = 2 then hostWriteReq else hostReadReq) r.psn (head ++ r.data)

/-- Sends a new request on a READY queue pair. -/
def State.sendReq (s : State) (q what ring addr len : Nat) (data : List Byte) : State :=
  let x := s.qp q
  if s.qpState q ≠ 1 then s
  else
    let r : HostReq := ⟨x.next, what, ring, addr, len, data, s.now, 0, 0⟩
    (s.setQp q { x with next := (x.next + 1) % 2 ^ 24, reqs := x.reqs ++ [r] }).putReq q r

/-- Sends the outstanding requests of a queue pair again. -/
def State.resend (s : State) (q : Nat) : State :=
  let x := s.qp q
  let reqs := x.reqs.map fun r => { r with sent := s.now }
  reqs.foldl (fun s r => s.putReq q r) (s.setQp q { x with reqs := reqs })

/-- ACK_TIMEOUT (R396, R404): the oldest request of the module has had no acknowledgement for its timeout; it is sent again,
until RETRY_CNT runs out. -/
def execAckTimeout (qp : Nat) (s : State) : Res :=
  if 512 ≤ qp then .fault .noSuchUnit
  else
    let x := s.qp qp
    match x.reqs with
    | [] => .next s
    | r :: rest =>
      if s.qpState qp ≠ 1 ∨ s.now < r.sent + 4096 * 2 ^ bits x.entry 312 5 then .next s
      else if bits x.entry 306 3 ≤ r.tries then .next (s.qpError qp)
      else
        let s := (s.setQp qp { x with reqs := { r with tries := r.tries + 1 } :: rest }).qpCount qp 3
        .next (s.resend qp)

/-- Takes PI as read from the host (R406): the ring becomes FAULT where more than E commands wait. -/
def State.ringPi (s : State) (r pi : Nat) : State :=
  let s := (s.setHostRing r { s.hostRing r with reading := false }).wrFld Obj.ringState r 32 32 pi
  let e := 2 ^ bits (s.hostRing r).desc 12 4
  if e < (pi + 2 ^ 32 - s.fld Obj.ringState r 64 32) % 2 ^ 32 then s.wrFld Obj.ringState r 0 2 2 else s

/-- The commands of 64 bytes in a batch. -/
def ringCommands (data : List Byte) (n : Nat) : List Nat :=
  (List.range n).map fun k => leCode (sliceBytes data (64 * k) 64)

/-- Takes a batch of commands (R406): CI moves on, and is written to the host. -/
def State.ringBatch (s : State) (r : Nat) (data : List Byte) : State :=
  let x := s.hostRing r
  let ci := s.fld Obj.ringState r 64 32
  let n := data.length / 64
  let new := (ringCommands data n).zipIdx.map fun p => ((ci + p.2) % 2 ^ 32, p.1)
  let s := (s.setHostRing r { x with reading := false, queue := x.queue ++ new }).wrFld Obj.ringState r 64 32 ((ci + n) % 2 ^ 32)
  s.sendReq (s.ringQp r) 2 r (bits x.desc 256 64) 4 (leBytes 4 (ci + n))

/-- What a read of the module brings: PI or commands, to a ring that still runs. -/
def State.ringRead (s : State) (h : HostReq) (data : List Byte) : State :=
  if s.ringMode h.ring ≠ 1 then s
  else if h.what = 0 then s.ringPi h.ring (leCode (sliceBytes data 0 4))
  else s.ringBatch h.ring (sliceBytes data 0 h.len)

/-- Whether PSN `a` is at or before PSN `b`. -/
def psnUpTo (a b : Nat) : Bool := decide ((b + 2 ^ 24 - a) % 2 ^ 24 < 2 ^ 23)

/-- ACKNOWLEDGEMENT (R394, R396, R404, R406): an answer from the host. `code` is 0 for an ACK of every write up to `psn`, 1 for a
PSN sequence error, 2 for Receiver Not Ready, 3, 4 and 12 for the other NAKs (as the module numbers its own), and 5 for the
READ response of the read with `psn`. -/
def execAcknowledgement (qp psn code : Nat) (data : List Byte) (s : State) : Res :=
  if 512 ≤ qp then .fault .noSuchUnit
  else if s.qpState qp ≠ 1 then .next s
  else
    let x := s.qp qp
    let writesLeft := x.reqs.filter fun r => !(r.what == 2 && psnUpTo r.psn psn)
    if code = 0 then .next (s.setQp qp { x with reqs := writesLeft })
    else if code = 5 then
      match x.reqs.find? (fun r => r.what != 2 && r.psn == psn) with
      | none => .next s
      | some h => .next ((s.setQp qp { x with reqs := writesLeft.filter fun r => r != h }).ringRead h data)
    else if code = 1 then .next ((s.qpCount qp 3).resend qp)
    else if code = 2 then
      match x.reqs.find? (fun r => r.psn == psn) with
      | none => .next s
      | some h =>
        let limit := bits x.entry 309 3
        if limit ≠ 7 ∧ limit ≤ h.rnr then .next (s.qpError qp)
        else
          let reqs := x.reqs.map fun r => if r = h then { r with rnr := r.rnr + 1 } else r
          .next (((s.setQp qp { x with reqs := reqs }).qpCount qp 3).resend qp)
    else .next (s.qpError qp)

/-! ### Connection -/

/-- Whether an entry's reserved fields are 0 and its fields in range (R396), whatever RECV_EN is (R397; log entry 90): RECV_LOG
in region 0, 1 or 2 and aligned, RECV_LOG2 from 4 to 15. -/
def qpFieldsOk (e : Nat) : Bool :=
  bits e 3 5 == 0 && bits e 56 8 == 0 && bits e 246 10 == 0 && bits e 304 2 != 3 && decide (8 ≤ bits e 312 5)
    && decide (bits e 312 5 ≤ 20) && bits e 317 3 == 0 && !e.testBit 327 && bits e 340 12 == 0 && bits e 420 4 == 0
    && !e.testBit 431 && bits e 440 72 == 0 && decide (4 ≤ bits e 416 4) && decide (bits e 396 4 < 3) && bits e 352 4 == 0

/-- The checks of CONNECT (R397). -/
def State.qpEntryOk (s : State) (q : Nat) : Bool :=
  let e := s.rd Obj.qpTable q
  let log := bits e 352 64
  let n := bits e 416 4
  let pool := bits e 320 6
  qpFieldsOk e && (!e.testBit 326
    || (s.rangeOk log (16 * 2 ^ n)
      && s.poolState pool != 0 && s.poolState pool != 5 && s.poolState pool != 6 && decide (s.poolCount pool ≤ 2 ^ n)
      && s.hasCore (bits e 424 7)))

/-- QP_CONNECT (R395 to R397): CONNECT on B100.02. -/
def execQpConnect (qp : Nat) (s : State) : Res :=
  if 512 ≤ qp then .next s
  else if s.scratched then .next (s.wr Obj.qpCmd 0 4)
  else if s.qpState qp ≠ 0 then .next (s.wr Obj.qpCmd 0 2)
  else if !s.qpEntryOk qp then .next (s.wr Obj.qpCmd 0 3)
  else
    let e := s.rd Obj.qpTable qp
    let x := { QpSt.init with entry := e, expect := bits e 280 24, next := bits e 256 24, rateAt := s.now, made := (s.qp qp).made }
    .next (((s.setQp qp x).wrFld Obj.qpTable qp 0 2 1).wr Obj.qpCmd 0 1)

/-- QP_RESET (R395, R414): RESET on B100.02. Host operations go on to be numbered from where they stood, so that a reply to a
request of an earlier connection is still discarded (R404). -/
def execQpReset (qp : Nat) (s : State) : Res :=
  if 512 ≤ qp then .next s
  else if s.scratched then .next (s.wr Obj.qpCmd 0 4)
  else
    let s := (s.setQp qp { QpSt.init with made := (s.qp qp).made }).wrFld Obj.qpTable qp 0 2 0
    .next ((s.ringsDie qp).wr Obj.qpCmd 0 1)

/-! ### Command rings -/

/-- Whether a ring descriptor may be started (R405). -/
def ringDescOk (d : Nat) : Bool :=
  bits d 9 3 == 0 && bits d 16 16 == 0 && bits d 320 192 == 0 && decide (4 ≤ bits d 12 4) && bits d 64 6 == 0
    && bits d 128 5 == 0 && bits d 192 2 == 0 && bits d 256 2 == 0

/-- RING_START (R414): START on B300.02. -/
def execRingStart (ring : Nat) (s : State) : Res :=
  if 64 ≤ ring then .next s
  else
    let d := s.rd Obj.ringDesc ring
    let x := s.hostRing ring
    if s.ringMode ring ≠ 0 ∨ !x.runs.isEmpty ∨ !x.queue.isEmpty then .next (s.wr Obj.ringCmd 0 2)
    else if !ringDescOk d then .next (s.wr Obj.ringCmd 0 3)
    else if s.qpState (bits d 0 9) ≠ 1 then .next (s.wr Obj.ringCmd 0 2)
    else .next (((s.setHostRing ring { RingSt.init with desc := d }).wr Obj.ringState ring 1).wr Obj.ringCmd 0 1)

/-- RING_STOP (R414): STOP on B300.02. -/
def execRingStop (ring : Nat) (s : State) : Res :=
  if 64 ≤ ring then .next s
  else if s.ringMode ring = 0 then .next (s.wr Obj.ringCmd 0 2)
  else
    let q := s.ringQp ring
    let x := s.qp q
    let s := s.setQp q { x with reqs := x.reqs.filter fun r => !(r.ring == ring && r.what != 2) }
    let s := (s.setHostRing ring { s.hostRing ring with reading := false }).wrFld Obj.ringState ring 0 2 0
    .next (s.wr Obj.ringCmd 0 1)

/-- RING_POLL (R406): a running ring with CI = PI reads PI once every RING_POLL_NS; with commands waiting, it reads the next
batch of at most 16 slots that follow one another. -/
def execRingPoll (ring : Nat) (s : State) : Res :=
  if 64 ≤ ring then .fault .noSuchUnit
  else
    let x := s.hostRing ring
    if s.ringMode ring ≠ 1 ∨ x.reading then .next s
    else
      let q := s.ringQp ring
      let ci := s.fld Obj.ringState ring 64 32
      let wait := (s.fld Obj.ringState ring 32 32 + 2 ^ 32 - ci) % 2 ^ 32
      let e := 2 ^ bits x.desc 12 4
      if wait = 0 then
        let due := match x.polled with | none => true | some t => decide (t + s.rd Obj.ringPollNs 0 ≤ s.now)
        if due then .next ((s.setHostRing ring { x with reading := true, polled := some s.now }).sendReq q 0 ring (bits x.desc 192 64) 4 [])
        else .next s
      else
        let n := min (min 16 wait) (e - ci % e)
        .next ((s.setHostRing ring { x with reading := true }).sendReq q 1 ring (bits x.desc 64 64 + 64 * (ci % e)) (64 * n) [])

/-- OP of a ring command. -/
def ringOp (w : Nat) : Nat := bits w 0 8

/-- Whether a ring command's reserved fields are 0 (R407, R413). -/
def ringCommandOk (w : Nat) : Bool :=
  bits w 9 23 == 0 && (match ringOp w with
    | 0 => bits w 64 448 == 0
    | 1 => !w.testBit 71 && bits w 115 397 == 0
    | 2 => bits w 70 58 == 0 && bits w 192 320 == 0
    | 3 => bits w 66 446 == 0
    | 4 =>
      let c := bits w 72 4
      bits w 70 2 == 0 && bits w 76 20 == 0 && decide (1 ≤ c) && decide (c ≤ 13) && bits w (96 + 32 * c) (416 - 32 * c) == 0
    | _ => false)

/-- Starts the first command read of a ring, where its OP is one of those of the row and its FENCE lets it (R407, R408): `f`
does its work and says what it waits for. A bad one completes with BAD_COMMAND and does nothing. -/
def State.ringGo (s : State) (r : Nat) (mine : Nat → Bool) (f : State → Nat → Nat → RingWait × State) : Res :=
  if 64 ≤ r then .fault .noSuchUnit
  else
    let x := s.hostRing r
    match x.queue with
    | [] => .next s
    | (n, w) :: rest =>
      if !mine (ringOp w) || (w.testBit 8 && !x.runs.isEmpty) || s.scratched then .next s
      else
        let out := if ringCommandOk w then f s n w else (.done 4 0, s)
        let s := out.2
        let x := s.hostRing r
        .next (s.setHostRing r { x with queue := rest, runs := x.runs ++ [⟨n, ringOp w, bits w 32 32, out.1, x.silent⟩] })

/-- RING_NOP (R407, R413): a NOP completes at start; so does a command with a reserved OP, with BAD_COMMAND. -/
def execRingNop (ring : Nat) (s : State) : Res :=
  s.ringGo ring (fun op => op == 0 || decide (4 < op)) fun s _ _ => (.done 0 0, s)

/-- RING_LAUNCH (R413, R104): completes when the core is DONE or HALTED, or the launch is refused. `ecc` is the outcome of the
read of the launch descriptor. -/
def execRingLaunch (ring : Nat) (ecc : Ecc) (s : State) : Res :=
  s.ringGo ring (· == 1) fun s _ w =>
    let r := s.tryLaunch (bits w 64 7) (bits w 72 43) ecc
    (if r.1 = 1 then .core (bits w 64 7) else .done 1 r.1, r.2)

/-- RING_COLL (R413): a COLL of OWNER_CORE with FIRST 0 that hands every contribution chunk. `ecc` is the outcome of the read of
the collective descriptor. -/
def execRingColl (ring : Nat) (ecc : Ecc) (s : State) : Res :=
  s.ringGo ring (· == 2) fun s n w =>
    let c := bits w 64 6
    let owner := (s.ctx c).owner
    if s.ctxState c ≠ 0 ∧ (s.ctx c).member ∧ s.coreLive owner then (.done 1 6, s)
    else
      let a := bits w 128 64
      match if s.rangeHere a 64 then s.eccRead ecc (bits a 44 4) (bits a 0 44) 64 else (true, s) with
      | (false, s) => (.coll, s)
      | (true, s) =>
        match s.collAccept owner c a 0 0 true (some (ringId ring n)) with
        | .ok s => (.coll, s)
        | .error code => (.done 1 code, s)

/-- RING_POOL_FREE (R413): frees buffers that the host owns; RESULT counts the frees rejected (R375). -/
def execRingPoolFree (ring : Nat) (s : State) : Res :=
  s.ringGo ring (· == 4) fun s _ w =>
    let pool := bits w 64 6
    let free (acc : Nat × State) (k : Nat) : Nat × State :=
      let a := acc.2.poolFreeBuf pool ownerHost (bits w (96 + 32 * k) 32)
      (acc.1 + b2n (a.code == poolNotOwner), a.state)
    let r := (List.range (bits w 72 4)).foldl free (0, s)
    (.done 0 r.1, r.2)

/-- What a started command has come to (R412, R413), none while it works. -/
def State.ringOutcome (s : State) (r : Nat) (k : RingRun) : Option (Nat × Nat) :=
  match k.wait with
  | .done st result => some (st, result)
  | .core n =>
    if s.coreState n = 3 ∨ s.coreState n = 4 then
      match ((s.ringCoreEnds n).hostRing r).runs.find? (fun x => x.n == k.n) with
      | some x => match x.wait with | .done st result => some (st, result) | _ => none
      | none => none
    else none
  | _ => (s.ringDone.find? fun x => x.1 == ringId r k.n).map (·.2)

/-- RING_COMPLETION (R408 to R410, R414): command `n` of a ring, which has ended, is completed: its record is written to the
host after its data, unless its ring's queue pair has left READY. -/
def execRingCompletion (ring n : Nat) (s : State) : Res :=
  if 64 ≤ ring then .fault .noSuchUnit
  else
    let x := s.hostRing ring
    match x.runs.find? fun k => k.n == n with
    | none => .next s
    | some k =>
      match s.ringOutcome ring k with
      | none => .next s
      | some (st, result) =>
        let s := s.setHostRing ring { x with runs := x.runs.filter fun y => y.n != n }
        let s := { s with ringDone := s.ringDone.filter fun y => y.1 != ringId ring n }
        if k.silent then .next s
        else
          let e := 2 ^ bits x.desc 12 4
          let record := n + ((n / e + 1) % 2) * 2 ^ 32 + k.op * 2 ^ 40 + st * 2 ^ 48 + k.user * 2 ^ 64
            + (result % 2 ^ 64) * 2 ^ 128 + (s.now % 2 ^ 64) * 2 ^ 192
          .next (s.sendReq (s.ringQp ring) 2 ring (bits x.desc 128 64 + 32 * (n % e)) 32 (leBytes 32 record))

/-! ### Fabric Ethernet and mirror copies (R415) -/

/-- The MTU of a host port (R438). -/
def State.hostMtu (s : State) (p : Nat) : Nat := s.fld Obj.hostPortConfig p 208 14

/-- Sends an Ethernet frame of a port, or drops it where the port is down or the frame too long: whether it went, and the
state. -/
def State.ethernetOut (s : State) (p : Nat) (bytes : List Byte) : Bool × State :=
  if s.hostPort p = 1 ∧ bytes.length ≤ s.hostMtu p then (true, s.hostSend p hostEthernet 0 bytes) else (false, s)

/-- FWD_OUTBOUND (R415): a FWD frame delivered to the HA leaves on FWD_PORT as the Ethernet frame its payload holds. -/
def execFwdOutbound (f : Frame) (s : State) : Res :=
  if f.bclass ≠ 4 ∨ s.scratched then .next s
  else
    let p := s.fld Obj.hostEther 0 0 1
    let r := s.ethernetOut p f.payload
    .next (if r.1 then r.2 else r.2.inc Obj.hostPortCounts p 256 64 1)

/-- FWD_INBOUND (R415): a host frame with EtherType FWD_ETYPE, a fabric header of 32 bytes and an Ethernet frame, is injected as
a FWD frame: SRC, HOPS and the buffer class are set by the HA (log entry 90). One longer than the port's MTU, or on a port that is down, is dropped. -/
def execFwdInbound (hp : Nat) (bytes : List Byte) (s : State) : Res :=
  if 2 ≤ hp then .fault .noSuchUnit
  else if s.scratched then .next s
  else if s.hostPort hp ≠ 1 ∨ s.hostMtu hp < bytes.length then .next (s.inc Obj.hostPortCounts hp 256 64 1)
  else
    let f : Frame := ⟨beCode (sliceBytes bytes 0 32), bytes.drop 32⟩
    .next (s.send (.frame ((((f.set 224 16 s.devId).set 210 6 (s.rd Obj.hopInit 0)).set 218 3 4))))

/-- MIRROR_OUT (R415, R277): the oldest copy at the mirror endpoint leaves on MIRROR_PORT to MIRROR_MAC, or is dropped and
counted. -/
def execMirrorOut (s : State) : Res :=
  match s.mirrorQueue with
  | [] => .next s
  | c :: rest =>
    let s := { s with mirrorQueue := rest }
    let e := s.rd Obj.hostEther 0
    let port := bits e 1 1
    let r := s.ethernetOut port
      (beBytes 6 (bits e 40 48) ++ beBytes 6 (s.fld Obj.hostPortConfig port 0 48) ++ beBytes 2 (bits e 24 16) ++ c.bytes)
    .next (r.2.inc Obj.mirrorCounts c.session (if r.1 then 0 else 64) 64 1)

end Sys2Proof.Machine
end

