-- ==== Sys2Proof/Machine/Nv.lean ====
section
/-! DEFINITION. Byte ranges of objects (R420), the flash stores, the NV image with its records and journal (R431 to R437,
R513), and the application of the image at a reset (R435, R436). -/

namespace Sys2Proof.Machine

/-! ### Byte ranges of an object's value (R420) -/

/-- Whether a type is one that CDP sends most significant byte first (R419). -/
def ObjType.bigEndian : ObjType → Bool
  | .u16 | .u32 | .u64 | .i16 | .i32 | .i64 | .f32 | .bits16 | .bits32 | .bits64 | .addr64 | .cmd => true
  | .bool | .u8 | .bits8 | .octets | .string => false

/-- Whether a write of a type may cover any byte range (R420). -/
def ObjType.anyBytes : ObjType → Bool
  | .octets | .string => true
  | _ => false

/-- The entries of an object, 1 for one that is no TABLE. -/
def ObjInfo.count (o : ObjInfo) : Nat := max 1 o.entries

/-- Whether an INDEX, an OFFSET and a LENGTH address bytes of an object (R420). -/
def ObjInfo.covers (o : ObjInfo) (idx off n : Nat) : Bool :=
  if o.entries = 0 then idx == 0 && decide (off + n ≤ o.bytes)
  else decide (idx < o.entries) && decide (off < o.bytes) && decide (idx * o.bytes + off + n ≤ o.entries * o.bytes)

/-- Whether a write of a type covers whole values where it must (R420). -/
def ObjInfo.wholeOk (o : ObjInfo) (off n : Nat) : Bool := o.type.anyBytes || (off == 0 && n != 0 && n % o.bytes == 0)

/-- The pieces of a byte range: the entry, the offset in it, and the bytes that fall into it. -/
def ObjInfo.pieces (o : ObjInfo) (idx off : Nat) (bs : List Byte) : List (Nat × Nat × List Byte) :=
  (List.range ((off + bs.length + o.bytes - 1) / o.bytes)).map fun k =>
    if k = 0 then (idx, off, bs.take (o.bytes - off))
    else (idx + k, 0, (bs.drop (k * o.bytes - off)).take o.bytes)

/-- An entry with bytes replaced from an offset on. -/
def State.patched (s : State) (o : ObjInfo) (i off : Nat) (bs : List Byte) : Nat :=
  leCode (overlay (leBytes o.bytes (s.view o.code i)) off bs)

/-- Applies one piece of a write at run time: the status of R421 and the state. -/
def State.writePiece (s : State) (o : ObjInfo) (p : Nat × Nat × List Byte) : Nat × State :=
  if o.code = Obj.suBitmap then if s.frozen o then (cdpState, s) else (cdpOk, s.bitmapStore p.1 p.2.1 p.2.2)
  else
    let v := s.patched o p.1 p.2.1 p.2.2
    let st := s.writeStatus o p.1 v
    if st = cdpOk then (cdpOk, s.applyWrite o.code p.1 v) else (st, s)

/-- Applies the pieces of a write in order as a whole (R420): the first status that is not OK stands, and nothing changes. -/
def State.writePieces (s : State) (o : ObjInfo) (ps : List (Nat × Nat × List Byte)) : Nat × State :=
  let r := ps.foldl (fun (r : Nat × State) p => if r.1 = cdpOk then r.2.writePiece o p else r) (cdpOk, s)
  if r.1 = cdpOk then r else (r.1, s)

/-! ### The flash stores -/

/-- A byte of a flash store; an erased byte reads 0xFF (log entry 35). -/
def State.flash8 (s : State) (store off : Nat) : Byte := KMap.get s.flash 0xFF (store * 2 ^ 32 + off)

/-- Bytes of a flash store. -/
def State.flashRead (s : State) (store off n : Nat) : List Byte := (List.range n).map fun k => s.flash8 store (off + k)

/-- Writes bytes to a flash store. -/
def State.flashWrite (s : State) (store off : Nat) (bs : List Byte) : State :=
  { s with flash := bs.zipIdx.foldl (fun m p => KMap.set m 0xFF (store * 2 ^ 32 + off + p.2) p.1) s.flash }

/-- Erases a flash store. -/
def State.flashErase (s : State) (store : Nat) : State :=
  { s with flash := s.flash.filter (fun p => p.1 / 2 ^ 32 != store),
           imageWritten := s.imageWritten.filter fun w => w.1 != store }

/-- The bytes that a flash store holds, by offset. -/
def State.flashBytes (s : State) (store : Nat) : List (Nat × Byte) :=
  (s.flash.filter fun p => p.1 / 2 ^ 32 == store).map fun p => (p.1 % 2 ^ 32, p.2)

/-- Whether bytes of a flash store have been written since it was erased (R437). -/
def State.flashWritten (s : State) (store off n : Nat) : Bool :=
  s.imageWritten.any fun w => w.1 == store && rangesMeet w.2.1 w.2.2 off n

/-! ### The NV banks -/

/-- The size of an NV bank (R431). -/
def bankSize : Nat := 2 ^ 28
/-- Where the base records begin. -/
def baseStart : Nat := 0x1000
/-- The room of the base records. -/
def baseRoom : Nat := 2 ^ 27 - 4096
/-- Where the journal begins. -/
def journalStart : Nat := 0x8000000
/-- The room of the journal. -/
def journalRoom : Nat := 2 ^ 27 - 8192
/-- Where the signature block begins. -/
def signStart : Nat := 0xFFFE000

/-- The header of a bank (R432). -/
def State.bankHead (s : State) (b : Nat) : Nat := leCode (s.flashRead b 0 64)
/-- IMAGE_SEQ. -/
def State.imageSeq (s : State) (b : Nat) : Nat := bits (s.bankHead b) 128 32
/-- ROLLBACK. -/
def State.imageRollback (s : State) (b : Nat) : Nat := bits (s.bankHead b) 160 32
/-- The base records of a bank as bytes. -/
def State.baseBytes (s : State) (b : Nat) : List Byte := s.flashRead b baseStart (bits (s.bankHead b) 192 32)

/-- Whether a bank's signature verifies (R513): COMMISSIONED, the owner key's digest, and the signature over the header and
the base records. -/
def State.signatureOk (s : State) (b : Nat) : Bool :=
  s.ownerKey != 0 && leCode (s.flashRead b signStart 8) == 0x4B434C4247495331
    && leCode (s.flashRead b (signStart + 8) 32) == s.ownerDigest
    && Config.sm2Verify s.ownerKey (s.flashRead b 0 4096 ++ s.baseBytes b) (s.flashRead b (signStart + 40) 32)

/-- Why a bank is not valid (R435, E100.03): 1 MAGIC or FORMAT, 2 GRADES, 3 digest, 4 signature, 5 rollback; 0 valid. A header
whose reserved bits or other bytes are not zero (R12, R432) is none of FORMAT 1 (log entry 92). -/
def State.bankReason (s : State) (b : Nat) : Nat :=
  let h := s.bankHead b
  if bits h 0 64 ≠ 0x4E56494D47445831 ∨ bits h 64 16 ≠ 1 ∨ bits h 88 40 ≠ 0 ∨ (s.flashRead b 64 4032).any (· != 0) then 1
  else if !(bits h 80 8).testBit (s.ident.grade - 1) then 2
  else if baseRoom < bits h 192 32 then 3
  else if Config.sm3 (s.baseBytes b) % 2 ^ 256 ≠ bits h 256 256 then 3
  else if !s.signatureOk b then 4
  else if s.imageRollback b < s.rollback then 5
  else 0

/-- Whether a bank is valid (R435). In FACTORY no bank is (R509). -/
def State.bankValid (s : State) (b : Nat) : Bool := s.ownerKey != 0 && s.bankReason b == 0

/-- The active bank that a reset chooses (R435, R437): the one that ACTIVATE has marked, if it is valid; else the valid one
with the higher IMAGE_SEQ, A if they are equal. -/
def State.chooseBank (s : State) : Option Nat :=
  match s.nvMark with
  | some b => if s.bankValid b then some b else (if s.bankValid (1 - b) then some (1 - b) else none)
  | none =>
    if s.bankValid 0 && (!s.bankValid 1 || decide (s.imageSeq 1 ≤ s.imageSeq 0)) then some 0
    else if s.bankValid 1 then some 1 else none

/-! ### Records -/

/-- A record of the image: a base record or a SET (R433, R434), or an ERASE. -/
structure NvRec where
  erase : Bool
  code : ObjCode
  index : Nat
  off : Nat
  value : List Byte
  /-- A base record, which holds whole entries or a whole value (R433). -/
  base : Bool
  deriving DecidableEq, Repr

/-- A number rounded up to a multiple of 8. -/
def pad8 (n : Nat) : Nat := (n + 7) / 8 * 8

/-- The object number in a record's head (R433). -/
def headCode (h : Nat) : ObjCode := bits h 0 16 * 2 ^ 8 + bits h 16 8

/-- The base records in a list of bytes, at most `fuel` of them. A record whose zero byte [31:24] is not zero names no object, so
that it is passed over and counted (R12, R436). -/
def parseBase : Nat → List Byte → List NvRec
  | 0, _ => []
  | fuel + 1, bs =>
    if bs.length < 12 then []
    else
      let h := leCode (bs.take 12)
      let n := bits h 64 32
      ⟨false, headCode h + bits h 24 8 * 2 ^ 24, bits h 32 32, 0, (bs.drop 12).take n, true⟩ :: parseBase fuel (bs.drop (12 + pad8 n))

/-- The bytes of a journal record without its tag (R434). -/
def journalBytes (r : NvRec) (seq : Nat) : List Byte :=
  leBytes 2 (objGroup r.code) ++ leBytes 1 (r.code % 2 ^ 8) ++ leBytes 1 (if r.erase then 2 else 1) ++ leBytes 4 r.index
    ++ leBytes 4 r.value.length ++ leBytes 4 seq ++ leBytes 4 r.off ++ fitBytes (pad8 r.value.length) r.value

/-- What stands in a journal: the records in order with their bytes, whether the tag of each is right, and its sequence
number. The journal ends at a head that is neither SET nor ERASE. -/
def parseJournal (key : Nat) : Nat → List Byte → List (NvRec × List Byte × Bool × Nat)
  | 0, _ => []
  | fuel + 1, bs =>
    let h := leCode (bs.take 20)
    let kind := bits h 24 8
    if bs.length < 20 ∨ (kind ≠ 1 ∧ kind ≠ 2) then []
    else
      let n := if kind = 2 then 0 else bits h 64 32
      let len := 20 + pad8 n
      let body := bs.take len
      let r : NvRec := ⟨kind == 2, headCode h, bits h 32 32, bits h 128 32, (bs.drop 20).take n, false⟩
      let ok := leCode ((bs.drop len).take 32) == Config.hmacSm3 key body % 2 ^ 256
      (r, body, ok, bits h 96 32) :: parseJournal key fuel (bs.drop (len + 32))

/-- The bytes of a bank's journal that are not erased at its end. -/
def State.journalUsed (s : State) (b : Nat) : Nat :=
  let offs := (s.flash.filter fun p => p.1 / 2 ^ 32 == b).filterMap fun p =>
    let o := p.1 % 2 ^ 32
    if journalStart ≤ o ∧ o < journalStart + journalRoom then some (o + 1 - journalStart) else none
  offs.foldl max 0

/-- The journal of a bank. A record is at least 52 bytes, so this many can stand in it. -/
def State.journal (s : State) (b : Nat) : List (NvRec × List Byte × Bool × Nat) :=
  let used := s.journalUsed b
  parseJournal s.nvKey (used / 52 + 1) (s.flashRead b journalStart used)

/-! ### Applying the image -/

/-- The state after an entry of an N object has taken a value from the image; an alias acts on its target (R430). -/
def State.placeValue (s : State) (c : ObjCode) (i v : Nat) : State :=
  if c = Obj.h40PortRate then s.wr Obj.portNode i (h40RateNode (s.rd Obj.portNode i) v)
  else if c = Obj.h40PortBurst then s.wr Obj.portNode i (setBits (s.rd Obj.portNode i) 128 32 v)
  else s.wr c i v

/-- The value that an entry of an N object has, which the image restores: what it reads, but for the manager's table, which reads
0 on another module (R474). -/
def State.inUse (s : State) (c : ObjCode) (i : Nat) : Nat := if c = Obj.expelGroup then s.rd c i else s.view c i

/-- Whether a record names an object that exists and is N, and covers it by R420. -/
def State.recordOk (s : State) (r : NvRec) : Option ObjInfo :=
  match objInfo r.code with
  | some o =>
    if !s.unitHere r.code ∨ o.persist ≠ .n then none
    else if r.erase then
      (if r.off = 0 ∧ r.value = [] ∧ (r.index < o.count ∨ (o.entries ≠ 0 ∧ r.index = 2 ^ 32 - 1)) then some o else none)
    else if r.base ∧ (r.value.length = 0 ∨ r.value.length % o.bytes ≠ 0) then none
    else if o.covers r.index r.off r.value.length ∧ o.wholeOk r.off r.value.length then some o else none
  | none => none

/-- Applies one record (R434, R436): none where it is passed over. `base` holds the values before the journal. -/
def State.applyRecord (base s : State) (r : NvRec) : Option State :=
  match s.recordOk r with
  | none => none
  | some o =>
    if r.erase then
      let entries := if o.entries ≠ 0 ∧ r.index = 2 ^ 32 - 1 then List.range o.entries else [r.index]
      some (entries.foldl (fun s i => s.placeValue o.code i (base.inUse o.code i)) s)
    else
      (o.pieces r.index r.off r.value).foldl (fun (a : Option State) p => a.bind fun s =>
        let v := s.patched o p.1 p.2.1 p.2.2
        if s.valueOk false o.code p.1 v then some (s.placeValue o.code p.1 v) else none) (some s)

/-- Applies records in order: the state, how many were applied and how many were passed over. -/
def State.applyRecords (base s : State) (rs : List NvRec) : State × Nat × Nat :=
  rs.foldl (fun (a : State × Nat × Nat) r => match State.applyRecord base a.1 r with
    | some s' => (s', a.2.1 + 1, a.2.2)
    | none => (a.1, a.2.1, a.2.2 + 1)) (s, 0, 0)

/-- Every N object takes its factory value (R436); POWER_CAP's is that of the grade (R534). -/
def State.factoryN (s : State) : State :=
  let keep (k : Nat) : Bool := match objInfo (k / 2 ^ 32) with | some o => o.persist != .n | none => true
  let s := { s with objs := s.objs.filter fun p => keep p.1 }
  s.wr Obj.powerCap 0 (gradePower s.ident.grade)

/-- The factory PRIO of the class nodes under the TC_KIND in use (R304). -/
def State.formClassNodes (s kinds : State) : State :=
  (List.range 512).foldl (fun s k =>
    s.wr Obj.classNode k (factoryNode (if kinds.rd Obj.tcKind (k % 8) = 0 then 0 else 1) 16384)) s

/-- An entry that names a class not of kind MEM takes the lowest class of kind MEM (R537). -/
def State.memClasses (s : State) : State :=
  let low := ((List.range 8).find? fun t => s.rd Obj.tcKind t == 1).getD 0
  let mend (c : ObjCode) (s : State) (i : Nat) : State := if s.rd Obj.tcKind (s.rd c i) = 1 then s else s.wr c i low
  (List.range 4096).foldl (mend Obj.streamTc) ((List.range 97).foldl (mend Obj.coreReqTc) s)

/-- The image of a bank applied to a state whose N objects have their factory values (R436): base records, then the journal
records with a right tag; with the counts of E100.01. -/
def State.applyBank (s : State) (b : Nat) : State × Nat × Nat × Nat × Nat :=
  let base := s.applyRecords s (parseBase (bits (s.bankHead b) 224 32) (s.baseBytes b))
  let j := s.journal b
  let good := (j.filter fun p => p.2.2.1).map (·.1)
  let all := State.applyRecords base.1 base.1 good
  (all.1, base.2.1, all.2.1, base.2.2 + all.2.2, (j.filter fun p => !p.2.2.1).length)

/-- The journal records applied, as bytes in order (R506: MR3). -/
def State.journalApplied (s : State) (b : Nat) : List Byte :=
  let base := s.applyRecords s (parseBase (bits (s.bankHead b) 224 32) (s.baseBytes b))
  ((s.journal b).foldl (fun (a : State × List Byte) p =>
    if p.2.2.1 then
      match State.applyRecord base.1 a.1 p.1 with
      | some s' => (s', a.2 ++ p.2.1)
      | none => a
    else a) (base.1, [])).2

/-- The choice of the bank and its application (R435, R436, R506 step 4). TC_KIND is settled first, because the factory
values of the class nodes are formed from it. -/
def State.nvRestore (s : State) : State :=
  let s := s.factoryN
  match s.chooseBank with
  | none => { s.memClasses with nvMark := none }
  | some b =>
    let kinds := (s.applyBank b).1
    let start := s.formClassNodes kinds
    let r := start.applyBank b
    let seq := ((s.journal b).map fun p => p.2.2.2 + 1).foldl max 0
    let log := start.journalApplied b
    let s := r.1.memClasses
    let s := s.wr Obj.nvState 0 (1 + b + s.imageSeq b * 2 ^ 32 + s.imageRollback b * 2 ^ 64 + s.journalUsed b * 2 ^ 96
      + r.2.1 * 2 ^ 128 + r.2.2.1 * 2 ^ 160 + r.2.2.2.1 * 2 ^ 192 + r.2.2.2.2 * 2 ^ 224)
    let s := (s.extend 2 (bits (s.bankHead b) 256 256)).extend 3 (Config.sm3 log % 2 ^ 256)
    { s with nvMark := none, journalSeq := seq }

/-! ### The journal at run time (R434) -/

/-- The active bank: 0 A, 1 B (E100.01). -/
def State.activeBank (s : State) : Option Nat :=
  let a := s.fld Obj.nvState 0 0 2
  if a = 0 then none else some (a - 1)

/-- Appends a record to the journal of the active bank: NV_FULL where it has no room, STATE where no bank is active. -/
def State.journalAppend (s : State) (r : NvRec) : Nat × State :=
  match s.activeBank with
  | none => (cdpState, s)
  | some b =>
    let body := journalBytes r s.journalSeq
    let used := s.fld Obj.nvState 0 96 32
    if journalRoom < used + body.length + 32 then (cdpNvFull, s)
    else
      let bs := body ++ leBytes 32 (Config.hmacSm3 s.nvKey body)
      let s := (s.flashWrite b (journalStart + used) bs).wrFld Obj.nvState 0 96 32 (used + bs.length)
      (cdpOk, { s with journalSeq := (s.journalSeq + 1) % 2 ^ 32 })

/-! ### A new image (R437) -/

/-- The standby bank: the one that is not active; A while none is (log entry 35). -/
def State.standbyBank (s : State) : Nat := match s.activeBank with | some 0 => 1 | _ => 0

/-- The state of the standby bank (E100.01): 0 unknown, 1 erased, 2 written, 3 verified. -/
def State.nvStandby (s : State) : Nat := s.fld Obj.nvState 0 2 2

/-- The answer of NV_CMD. -/
def State.nvAnswer (s : State) (code : Nat) : State := s.wr Obj.nvCmd 0 code

/-- NV_BANK_ERASE (R437): ERASE on E100.02. A pending ACTIVATE of that bank is gone with its contents. -/
def execNvBankErase (s : State) : Res :=
  if s.nvErasing then .next (s.nvAnswer 2)
  else
    let s := (s.flashErase s.standbyBank).wrFld Obj.nvState 0 2 3 0
    .next ({ s with nvErasing := true, nvMark := none }.nvAnswer 2)

/-- NV_BANK_ERASE_DONE (R437): the erase ends. -/
def execNvBankEraseDone (s : State) : Res :=
  .next (if s.nvErasing then ({ s with nvErasing := false }.wrFld Obj.nvState 0 2 2 1).nvAnswer 1 else s)

/-- NV_VERIFY (R437, R513): VERIFY on E100.02, of a bank that has been erased since it was last active. -/
def execNvVerify (s : State) : Res :=
  if s.nvErasing then .next (s.nvAnswer 2)
  else if s.nvStandby = 0 then .next (s.nvAnswer 3)
  else
    let why := if s.ownerKey = 0 ∧ s.bankReason s.standbyBank = 0 then 4 else s.bankReason s.standbyBank
    if why = 0 then .next (((s.wrFld Obj.nvState 0 2 2 3).wr Obj.nvVerify 0 0).nvAnswer 1)
    else .next (((s.wrFld Obj.nvState 0 2 2 2).wr Obj.nvVerify 0 why).nvAnswer 4)

/-- NV_ACTIVATE (R437): ACTIVATE on E100.02, refused unless VERIFY has passed since the last IMAGE_WRITE. -/
def execNvActivate (s : State) : Res :=
  if s.nvErasing then .next (s.nvAnswer 2)
  else if s.nvStandby ≠ 3 then .next (s.nvAnswer 3)
  else .next ({ s.wrFld Obj.nvState 0 4 1 1 with nvMark := some s.standbyBank }.nvAnswer 1)

end Sys2Proof.Machine
end

