-- ==== Sys2Proof/Machine/Power.lean ====
section
/-! DEFINITION. Power, energy limits, states and resets (spec/16_power_energy_states_resets.md) and the thermal actions of
R530 to R532: input events, the governor, power stages, the power states, unit resets, and what a reset of the module
leaves. The start-up after a reset is in Machine/Security.lean. -/

namespace Sys2Proof.Machine

/-! ### What a reset leaves (R499, R501, R502) -/

/-- Kinds of reset, as LAST_RESET numbers them (R504). -/
def resetPowerOn : Nat := 1
/-- Cold after a trip. -/
def resetTrip : Nat := 2
/-- RESET_n. -/
def resetPin : Nat := 3
/-- Warm. -/
def resetWarm : Nat := 4

/-- Whether an object entry keeps its value through a reset (R502): `k` says that K objects do. S objects do unless the AOP
lost its power; MR0 does where the AOP ran on (R506). F objects are not in the store. -/
def keptEntry (kind : Nat) (k : Bool) (key : Nat) : Bool :=
  match objInfo (key / 2 ^ 32) with
  | some o => (o.persist == .s && kind != resetPowerOn) || (o.persist == .k && k)
      || (key == objKey Obj.measurement 0 && decide (resetPin ≤ kind))
  | none => false

/-- The sockets whose DIMM is trained. -/
def State.trainedMask (s : State) : Nat :=
  ((List.range 12).map fun c => b2n (s.dimmTrained c) * 2 ^ c).sum

/-- The module right after a reset of a kind: what the AOP's stores, the flash and OTP hold stays, and what R502 keeps;
`ended` says that the reset ends a scratch (R501). HBM4 and DDR5 keep their contents where K objects stay (R502). -/
def State.restart (s : State) (kind : Nat) (ended : Bool) : State :=
  let keep := decide (resetPin ≤ kind) && !ended
  let s' := { State.reset with
    pending := s.pending, ident := s.ident, now := s.now, free := s.free, out := s.out,
    objs := s.objs.filter fun p => keptEntry kind keep p.1,
    mem := if keep then s.mem.filter (fun c => decide (c.1 < memKey 2 0)) else [],
    dimmKeep := if keep then s.dimmKeep ||| s.trainedMask else 0,
    guards := if keep then s.guards else [],
    guardRanges := if keep then s.guardRanges else .free,
    ownerKey := s.ownerKey, operatorKeys := s.operatorKeys, nvKey := s.nvKey, svnFuses := s.svnFuses,
    rollback := s.rollback, bootCount := s.bootCount, fwRunning := s.fwRunning, fwOwn := s.fwOwn,
    fwMark := decide (resetPin ≤ kind) && s.fwMark, nvMark := s.nvMark, imageWritten := s.imageWritten, flash := s.flash,
    rateWindow := s.now, resetLow := s.resetLow, sideband := if kind = resetPowerOn then State.reset.sideband else s.sideband }
  s'.wr Obj.lastReset 0 (kind + b2n ended * 0x80)

/-- A cold reset starts at step 1 of R506, and counts in BOOT_COUNT (R512). -/
def State.coldStart (s : State) (kind : Nat) (ended : Bool) : State :=
  { s.restart kind ended with boot := .rom, bootCount := s.bootCount + 1 }

/-- A warm reset runs steps 3 to 5 of R506; one with FW_ACTIVATE pending starts from the other slot (R507). -/
def State.warmStart (s : State) : State :=
  let s' := s.restart resetWarm s.scratched
  let s' := if s.fwMark then { s' with fwMark := false, fwRunning := 1 - s.fwRunning } else s'
  { s' with boot := if s.resetLow then .held else .aop }

/-- WARM (R499, R504): a write of 0x57 to D300.01. While the AOP's firmware does not run, no write arrives. -/
def execWarmReset (s : State) : Res :=
  if s.boot = .off ∨ s.boot = .rom ∨ s.boot = .held then .next s else .next s.warmStart

/-- RESET_N_ASSERT (R499, R522): RESET_n has been low for `ns`; from 10 microseconds on it starts the reset. Before step 3 of R506 the
module will wait; without supplies nothing else happens. -/
def execResetNAssert (ns : Nat) (s : State) : Res :=
  let s' := { s with resetLow := true }
  if ns < 10000 then .next s
  else if s.resetLow ∨ s.aopDead ∨ s.boot = .off ∨ s.boot = .rom then .next s'
  else .next { s'.restart resetPin s.scratched with boot := .held }

/-- RESET_N_RELEASE (R522): RESET_n has been high for `ns`; after 1 ms the held start-up runs on. -/
def execResetNRelease (ns : Nat) (s : State) : Res :=
  .next (if ns < 1000000 then s else { s with resetLow := false, boot := if s.boot = .held then .aop else s.boot })

/-! ### The 36 V entry (R476 to R481) -/

/-- Counts an input event: its bit of INPUT_EVENTS and its count (R503). -/
def State.inputEvent (s : State) (bit count : Nat) : State :=
  (s.wrFld Obj.inputEvents 0 bit 1 1).inc Obj.inputCounts 0 count 64 1

/-- DIP (R477): the input fell below 31.0 V, at least to `low`, for `ns`, and ended at `after`, without a trip; voltages are in units of
10 mV. A fall shorter than DIP_FILTER is not counted, nor one that does not end at 31.2 V or above. -/
def execInputDip (low ns after : Nat) (s : State) : Res :=
  .next (if s.aopDead || s.boot == .off || decide (3100 ≤ low) || decide (ns < 1000 * s.rd Obj.dipFilterUs 0) || decide (after < 3120)
    then s else s.inputEvent 0 0)

/-- OV_WARN (R476): the input has been at `volts` (10 mV) for `ns`: above 42.0 V for 5 microseconds. -/
def execOvWarn (volts ns : Nat) (s : State) : Res :=
  .next (if s.aopDead || decide (volts ≤ 4200) || decide (ns < 5000) then s else s.wrFld Obj.inputEvents 0 1 1 1)

/-- A trip (R478): every supply but the AOP's goes off. The AOP records it in its S objects; the rest is gone, and the module
waits for R479. No SCRATCH blocks are sent. -/
def State.trip (s : State) (bit count : Nat) : State :=
  if s.aopDead ∨ s.boot = .off then s
  else
    let was := s.scratched
    let s := (s.scratchRecord causePower).inputEvent bit count
    { s.restart resetTrip was with boot := .off, tripped := some was }

/-- TRIP_UV (R476, R478): the input has been at `volts` (10 mV) for `ns`: below 28.0 V for 2 microseconds, or, while the input switch
blocks, the capacitors have fallen below 28.0 V (R481). -/
def execTripUv (volts ns : Nat) (s : State) : Res :=
  .next (if volts < 2800 ∧ (2000 ≤ ns ∨ s.inputBlocked = true) then s.trip 3 128 else s)

/-- TRIP_OV (R476, R478): the input has been at `volts` (10 mV) for `ns`: at or above 44.0 V for 1 microsecond. -/
def execTripOv (volts ns : Nat) (s : State) : Res := .next (if 4400 ≤ volts ∧ 1000 ≤ ns then s.trip 4 192 else s)

/-- TRIP_RESTART (R476, R479): after a trip the input has been at `volts` (10 mV), from 30.0 V to 42.0 V without a break, for `ns`, at
least 10 ms. -/
def execTripRestart (volts ns : Nat) (s : State) : Res :=
  match s.tripped with
  | some was => .next (if s.aopDead || !within 3000 4200 volts || decide (ns < 10000000) then s else s.coldStart resetTrip was)
  | none => .next s

/-- AOP_FLOOR (R476, R479): the input is at `volts` (10 mV): below 18.0 V the AOP and the AOS stop, and S and K objects are lost. -/
def execAopFloor (volts : Nat) (s : State) : Res :=
  .next (if s.aopDead || decide (1800 ≤ volts) then s else { s.restart resetPowerOn false with boot := .off, aopDead := true })

/-- POWER_ON (R479, R480): input power is applied with the AOP stopped; after the precharge a cold reset starts. -/
def execPowerOn (s : State) : Res := .next (if s.aopDead then s.coldStart resetPowerOn false else s)

/-- REVERSE_BLOCK (R481): the input switch blocks; the governor admits nothing new. -/
def execReverseBlock (s : State) : Res :=
  .next (if s.aopDead || s.boot == .off || s.inputBlocked then s else { s.inputEvent 2 64 with inputBlocked := true })

/-- REVERSE_CONDUCT (R481): the switch conducts again and carries the load. -/
def execReverseConduct (s : State) : Res := .next { s with inputBlocked := false }

/-! ### The energy governor (R482 to R486, R532) -/

/-- STAGE_STATE codes (R504). -/
def stageEmpty : Nat := 0
/-- STARTING. -/
def stageStarting : Nat := 1
/-- ON. -/
def stageOn : Nat := 2
/-- STANDING_DOWN. -/
def stageStanding : Nat := 3
/-- SAFE_TO_REMOVE. -/
def stageSafe : Nat := 4
/-- FAILED. -/
def stageFailed : Nat := 5
/-- REFUSED. -/
def stageRefused : Nat := 6

/-- The state of a power stage. -/
def State.powerStage (s : State) (p : Nat) : Nat := s.rd Obj.stageState p

/-- The limit in force in W: the lower of POWER_CAP and 130 A times the input voltage, in units of 10 mV (R30, R482). -/
def State.powerLimit (s : State) (volts : Nat) : Nat := min (s.rd Obj.powerCap 0) (130 * volts / 100)

/-- A temperature of THERMAL_STATUS in units of 0.01 degrees. -/
def State.thermal (s : State) (lo : Nat) : Int := signed (s.fld Obj.thermalStatus 0 lo 16) 16

/-- Whether a temperature holds D (R532): from its level on, until the reading falls 2 degrees below it; `held` says that it
does already. -/
def tempHolds (held : Bool) (t level : Int) : Bool := decide (level ≤ t) || (held && decide (level - 200 < t))

/-- Whether the hottest compute-stack junction holds D (R532). -/
def State.junctionHolds (s : State) : Bool := tempHolds s.thermHold (s.thermal 0) (100 * s.rd Obj.thermLimit 0 : Nat)

/-- Whether the hottest HBM4 stack holds D (R532). -/
def State.hbmHolds (s : State) : Bool := tempHolds s.hbmHold (s.thermal 48) 9000

/-- Whether the governor holds D for a temperature (R532). -/
def State.thermHolds (s : State) : Bool := s.junctionHolds || s.hbmHolds

/-- The next P in units of 0.5 W (R482, R484, R486): it follows the load by at most 10.5 W a microsecond either way, upwards less
what the bays' ramps take of that budget, and stays at or below the limit. -/
def nextPower (p load limit charge : Nat) : Nat :=
  min limit (if p < load then min load (p + (21 - charge)) else max load (p - 21))

/-- One bay at an update of the governor (R486): a waiting ramp begins once its full power can be reserved; one that is over
ends its reservation, and a power stage then carries its share (R488). -/
def State.rampStep (s : State) (bay : Nat) : State :=
  match s.ramp bay with
  | none => s
  | some r =>
    if r.began.isNone then (if s.rampFits r.power then s.setRamp bay (some ⟨r.power, some s.now⟩) else s)
    else if !s.rampOver bay then s
    else
      let s := s.rampEnds bay
      if 32 ≤ bay ∧ s.powerStage (bay - 32) = stageStarting then s.wr Obj.stageState (bay - 32) stageOn else s

/-- What the bays' ramps have risen by a time, in units of 0.5 W. -/
def State.risenBy (s : State) (time : Nat) : Nat :=
  (s.ramps.map fun x => match x.2 with | some r => rampRisen r x.1 time | none => 0).sum

/-- Whether a ramp waits for the governor (R486). -/
def State.rampWaits (s : State) : Bool :=
  s.ramps.any fun x => match x.2 with | some r => r.began.isNone | none => false

/-- GOVERNOR_UPDATE (R482 to R484, R532): every microsecond, with the measured voltage (10 mV), current (10 mA) and power (W), and
the load in W that the admission asks for beside the ramps of bays. D rises only within the budget, and falls where the
limit, the blocked input, a temperature or a ramp that waits requires it; by how much, the spec does not say (log entry 10),
nor how many ballast strides run. The ramps' full power is kept free under the limit, and what they rise by in the
microsecond is taken from the budget (R486). -/
def execGovernorUpdate (volts amps power demand : Nat) (s : State) : Res :=
  if s.aopDead || s.boot == .off || decide (s.now < s.govAt + 1000) then .next s
  else
    let limit := s.powerLimit volts
    let s := (s.ramps.map (·.1)).foldl (fun s bay => s.rampStep bay) s
    let charge := s.risenBy s.now - s.risenBy (s.now - 1000)
    let p := nextPower s.govPower (2 * demand) (2 * limit - s.reserved) charge
    let junction := s.junctionHolds
    let hbm := s.hbmHolds
    let hold := junction || hbm
    let d := s.duty
    let falls := hold || s.inputBlocked || s.rampWaits || decide (p < 2 * demand)
    let d' := if falls then s.draw 0 % max 1 d else d + s.draw 0 % (257 - d)
    let ballast := decide (2 * demand + 21 < s.govPower)
    let at130 := decide (130 * volts / 100 < s.rd Obj.powerCap 0) && p + s.reserved == 2 * limit
    let s := if s.fld Obj.inputStatus 0 64 64 + 10000 ≤ s.now then
        s.wr Obj.inputStatus 0 (volts % 2 ^ 16 + amps % 2 ^ 16 * 2 ^ 16 + power % 2 ^ 16 * 2 ^ 32 + s.now % 2 ^ 64 * 2 ^ 64)
      else s
    let s := ((s.wrFld Obj.governorState 0 0 9 d').wrFld Obj.governorState 0 16 16 ((p + s.risenBy s.now) / 2)).wrFld Obj.governorState 0 32 16 limit
    let s := if ballast then s.wrFld Obj.governorState 0 128 64 (s.fld Obj.governorState 0 128 64 + s.draw 1) else s
    let s := if at130 || hold then s.inc Obj.governorState 0 192 64 1 else s
    let s := if hold then s.wrFld Obj.thermalEvents 0 0 1 1 else s
    .next { s.drawn with govPower := p, thermHold := junction, hbmHold := hbm, govAt := s.now }

/-! ### Temperatures and coolant (R530, R531, R535) -/

/-- The scratch cause of a sensor at its limit (R531): 0 compute-stack junction, 1 HBM4 stack, 2 fabric-stack junction, 3 an
OE, 4 a DIMM. -/
def thermalCause (sensor : Nat) : Nat :=
  if sensor < 2 then causeCore else if sensor = 3 then causeOe else causeFabric

/-- The limit of a sensor of R531, in units of 0.01 degrees; that of an OE has no figure (R240), and its sensor's report stands for it
(log entry 50). -/
def thermalBound (sensor : Nat) : Int :=
  match sensor with
  | 0 | 2 => 10500
  | 1 => 9500
  | _ => 8500

/-- THERMAL_LIMIT (R531): a sensor reads `reading`, in I16 code, and at its limit the module scratches itself. An OE's is check 5 of
R240. -/
def execThermalLimit (sensor unit reading : Nat) (s : State) : Res :=
  if 5 ≤ sensor ∨ (sensor = 3 ∧ 8 ≤ unit) then .fault .noSuchUnit
  else if s.scratched || s.boot == .off then .next s
  else if sensor = 3 then .next (s.oeChecked unit 5)
  else .next (if signed reading 16 < thermalBound sensor then s else s.scratch (thermalCause sensor))

/-- LOOP_LOST (R530): the flow of loop A (0) or B (1), in units of 0.01 L/min, falls below 1 L/min; the module stays in service. -/
def execLoopLost (loop flow : Nat) (s : State) : Res :=
  if 2 ≤ loop then .fault .noSuchUnit
  else .next (if s.aopDead || decide (100 ≤ flow) then s else s.wrFld Obj.thermalEvents 0 (1 + loop) 1 1)

/-- INLET_HIGH (R535): an inlet has been at `temp`, in I16 code of 0.01 degrees, for `ns`: above 40 degrees for 1 s. -/
def execInletHigh (temp ns : Nat) (s : State) : Res :=
  .next (if s.aopDead || decide (signed temp 16 ≤ 4000) || decide (ns < 1000000000) then s
    else s.wrFld Obj.thermalEvents 0 3 1 1)

/-- INTERNAL_FAULT (R38, R40): an uncorrectable fault in a unit of R20: in the fabric (Track, SU, TMG, BPM, CLE, CVU) or not. R40
names no bit for a fault of the GMU, the HA, the dictionary engine, Marshal or the AOP: they set CORE_FAULT like every unit that
is not of the fabric (DESIGN CHOICE, log entry 79). -/
def execInternalFault (fabric : Bool) (s : State) : Res :=
  .next (if s.boot = .off then s else s.scratch (if fabric then causeFabric else causeCore))

/-- SCRATCH_NOW (R38, R40): a write of 0x5C to 1020.04. -/
def execScratchNow (s : State) : Res :=
  .next (if s.boot = .off then s else (s.scratch causeHost).wr Obj.scratchNow 0 1)

/-! ### Power stages (R487 to R489, R504) -/

/-- Whether all 12 other stages are ON. -/
def State.othersOn (s : State) (p : Nat) : Bool := (List.range 13).all fun q => q == p || s.powerStage q == stageOn

/-- The loss of a stage (R489): with the other 12 ON the module stays in service, else it scratches itself. A stage that
carried no load is only FAILED. -/
def State.stageLost (s : State) (p : Nat) : State :=
  let st := s.powerStage p
  if st = stageOn ∨ st = stageStanding then
    let s' := s.wr Obj.stageState p stageFailed
    if s.othersOn p then s' else s'.scratch causePower
  else if st = stageStarting then (s.wr Obj.stageState p stageFailed).rampEnds (32 + p)
  else s

/-- STAGE_REMOVE (R488, R504): REMOVE on D400.03. -/
def execStageRemove (stage : Nat) (s : State) : Res :=
  if 13 ≤ stage then .next s
  else if !s.othersOn stage then .next (s.wr Obj.stageCmd 0 2)
  else if s.powerStage stage ≠ stageOn then .next (s.wr Obj.stageCmd 0 3)
  else .next ((s.wr Obj.stageState stage stageStanding).wr Obj.stageCmd 0 1)

/-- STAGE_CANCEL (R504): CANCEL on D400.03 before the stage is SAFE_TO_REMOVE: it takes its share again. -/
def execStageCancel (stage : Nat) (s : State) : Res :=
  if 13 ≤ stage then .next s
  else if s.powerStage stage ≠ stageStanding then .next (s.wr Obj.stageCmd 0 3)
  else .next ((s.wr Obj.stageState stage stageOn).wr Obj.stageCmd 0 1)

/-- STAGE_SAFE (R488): the capacitors of a stage that stands down are at `volts` (10 mV): below 5 V its latch is released. -/
def execStageSafe (stage volts : Nat) (s : State) : Res :=
  if 13 ≤ stage then .fault .noSuchUnit
  else .next (if s.powerStage stage = stageStanding ∧ volts < 500 then s.wr Obj.stageState stage stageSafe else s)

/-- STAGE_INSERT (R488): the latch of an empty bay closes; `info` is what D400.02 shows of the stage, `qualified` whether the
module takes it. A qualified stage is STARTING while it is precharged and ramped into the share over 1 ms, which the governor
admits (R486), and then ON. A stage in the bay of a lost or refused one is taken in the same way. -/
def execStageInsert (stage info : Nat) (qualified : Bool) (s : State) : Res :=
  if 13 ≤ stage then .fault .noSuchUnit
  else if s.powerStage stage = stageEmpty ∨ s.powerStage stage = stageFailed ∨ s.powerStage stage = stageRefused then
    let s := s.wr Obj.stageInfo stage (info % 2 ^ 256)
    .next (if qualified then (s.wr Obj.stageState stage stageStarting).rampBay (32 + stage) 0
      else s.wr Obj.stageState stage stageRefused)
  else .next s

/-- STAGE_FAIL (R489). -/
def execStageFail (stage : Nat) (s : State) : Res :=
  if 13 ≤ stage then .fault .noSuchUnit else .next (s.stageLost stage)

/-- STAGE_LATCH_OPEN (R488): a SAFE_TO_REMOVE stage leaves; in any other state the stage is lost, and the bay of one that was
lost already, or refused, is empty. -/
def execStageLatchOpen (stage : Nat) (s : State) : Res :=
  if 13 ≤ stage then .fault .noSuchUnit
  else
    let st := s.powerStage stage
    if st = stageSafe ∨ st = stageFailed ∨ st = stageRefused then
      .next ((s.wr Obj.stageInfo stage 0).wr Obj.stageState stage stageEmpty)
    else .next (s.stageLost stage)

/-! ### The saved list (R498) -/

/-- The objects that are copied on entry into REST. -/
def savedRest : List ObjCode :=
  [Obj.coreState, Obj.waitLimitDefault, Obj.strideCount, Obj.haltRecord, Obj.flags, Obj.seqState, Obj.summarySlots,
   Obj.pacedBusy, Obj.maskRegs, Obj.rakeOverTotal, Obj.rakeOorTotal, Obj.rakeMalformedTotal, Obj.rmaskOutsideTotal,
   Obj.satTotal, Obj.flushTotal, Obj.sramScrubPeriod, Obj.hbmScrubPeriod, Obj.ddrScrubPeriod, Obj.recalMode]
  ++ [Obj.deviceId, Obj.deadlineNs, Obj.replayAfterNs, Obj.abandonAfterUs, Obj.lateByDest, Obj.lostCount, Obj.coreReqTc,
   Obj.streamTc, Obj.srcStreams, Obj.dstStreams, Obj.streamEvents, Obj.gmuError]

/-- The objects that are copied on entry into DEEP REST. -/
def savedDeep : List ObjCode :=
  savedRest
  ++ [Obj.portConfig, Obj.headroomLimit, Obj.portDamp, Obj.tcKind, Obj.classChecked, Obj.fwdAgeNs, Obj.hopInit, Obj.portSaf,
   Obj.classBuf, Obj.markThreshold, Obj.portNode, Obj.classNode, Obj.groupNode, Obj.flowKey]
  ++ [Obj.poolConfig, Obj.arenaScrubPeriod, Obj.cvuParams, Obj.cleCvus, Obj.marshalConfig, Obj.stepTimeoutUs,
   Obj.scoreConfig, Obj.rebuildShare, Obj.reproMode, Obj.rngSeed]

/-- The saved list of a state. -/
def savedList (state : Nat) : List ObjCode := if state = 3 then savedDeep else savedRest

/-- The bytes of some objects that exist on this module (R498): of ROUTE_ACTIVE the AOS holds 0x1000 entries of a class. -/
def State.bytesOf (s : State) (mine : ObjInfo → Bool) (objs : List ObjCode) : Nat :=
  (objs.map fun c => match objInfo c with
    | some o => if s.unitHere c && mine o then (if c = Obj.routeActive then 5 * 0x1000 else o.count) * o.bytes else 0
    | none => 0).sum

/-- The K objects. -/
def kObjects : List ObjCode :=
  [Obj.redirect, Obj.guardDesc, Obj.guardState, Obj.routeActive, Obj.orientActive, Obj.mcActive, Obj.recoveryState]

/-- Copies the saved list for a state to the AOS (R493 step 3, R498), with AOS_USAGE: the AOS has 4 MiB. -/
def State.saveList (s : State) (state : Nat) : State :=
  let l := savedList state
  let k := s.bytesOf (·.persist == .k) kObjects
  let n := s.bytesOf (fun _ => true) l
  let s := { s with saved := s.objs.filter fun p => l.contains (p.1 / 2 ^ 32) }
  s.wr Obj.aosUsage 0 (k + n * 2 ^ 32 + (2 ^ 22 - k - n) * 2 ^ 64)

/-! ### Requests for a power state (R491, R492) -/

/-- Ends a POWER request with an outcome (R492): a ring's completes, POWER_CMD reads it, POWER_STATE keeps it. -/
def State.powerEnd (s : State) (ring : Option Nat) (code point : Nat) : State :=
  let s := (s.wrFld Obj.powerState 0 8 8 code).wrFld Obj.powerState 0 16 3 point
  match ring with
  | none => s.wr Obj.powerCmd 0 (2 + code * 2 ^ 8)
  | some id =>
    let status := if code = 0 then 0 else if code = 0x0A then 5 else 1
    { s with ringDone := s.ringDone ++ [(id, status, code + point * 2 ^ 8)] }

/-- Brings the transition bits of POWER_STATE and the progress of POWER_CMD up to date (R504). -/
def State.powerNote (s : State) : State :=
  let mine (r : Nat × Option Nat) : Bool := r.2.isNone
  let own := s.powerWake.any mine || (match s.powerEntry with | some e => e.ring.isNone || e.wakes.any mine | none => false)
  let s := if own then s.wrFld Obj.powerCmd 0 0 8 1 else s
  match s.powerEntry, s.powerWake with
  | some e, _ => ((s.wrFld Obj.powerState 0 2 1 1).wrFld Obj.powerState 0 3 1 (b2n e.waiting)).wrFld Obj.powerState 0 4 2 e.target
  | none, w :: _ => (s.wrFld Obj.powerState 0 2 2 1).wrFld Obj.powerState 0 4 2 w.1
  | none, [] => s.wrFld Obj.powerState 0 2 2 0

/-- Enters a state: POWER_STATE with the time of the change. -/
def State.setPower (s : State) (state : Nat) : State :=
  (s.wrFld Obj.powerState 0 0 2 state).wrFld Obj.powerState 0 64 64 (s.now % 2 ^ 64)

/-- Whether memory is still addressed (R492 code 0x08). -/
def State.memAddressed (s : State) : Bool :=
  ((List.range 64).any fun i => s.rd Obj.guardState i != 0 && s.rd Obj.guardState i != 4)
    || ((s.listed Obj.dstStreams).any fun n => (s.rd Obj.dstStreams n).testBit 0)
    || (s.listed Obj.srcStreams).any fun e => s.fld Obj.srcStreams e 32 32 != s.fld Obj.srcStreams e 64 32

/-- The refusal of an entry into REST or DEEP REST by the units (R492 codes 0x05 to 0x09), 0 where none applies. -/
def State.restRefusal (s : State) (target : Nat) : Nat :=
  if (List.range 64).any (fun x => s.ctxState x != 0 && (target == 3 || (s.ctx x).member)) then 0x05
  else if s.dimmCopy.isSome then 0x06
  else if s.scanBusy then 0x07
  else if s.memAddressed then 0x08
  else if target = 3 ∧ ((List.range 256).any s.slotBound ∨ (List.range 64).any (fun p => s.poolState p != 0)
      ∨ s.marshal.role ≠ 0) then 0x09
  else 0

/-- A request for a power state (R491 to R495). A wake joins those that wait; several wakes complete in the order in which they
came, each as a request for its state. -/
def State.powerRequest (s : State) (target : Nat) (ring : Option Nat) : State :=
  let idle := s.powerEntry.isNone && s.powerWake.isEmpty
  let wake := decide (target < 2) && (decide (2 ≤ s.power) || s.powerEntry.isSome)
  if idle ∧ s.power = target then s.powerEnd ring 0 0
  else if s.scratched ∨ !s.inService then s.powerEnd ring 0x01 0
  else if !idle ∧ !wake then s.powerEnd ring 0x02 0
  else if wake then
    match s.powerEntry with
    | some e => { s with powerEntry := some { e with wakes := e.wakes ++ [(target, ring)] } }.powerNote
    | none => { s with powerWake := s.powerWake ++ [(target, ring)] }.powerNote
  else if s.power = 3 then s.powerEnd ring 0x03 0
  else if target ≠ 0 ∧ (List.range 96).any s.coreLive then s.powerEnd ring 0x04 0
  else if target < 2 then (s.setPower target).powerEnd ring 0 0
  else
    let r := s.restRefusal target
    if r ≠ 0 then s.powerEnd ring r 0
    else { s with powerEntry := some ⟨target, ring, target == 3, 0, []⟩ }.powerNote

/-- A request by POWER_CMD. -/
def State.powerCommand (s : State) (target : Nat) : State := (s.powerRequest target none).powerNote

/-- POWER_RUN (R491): 0 written to D200.02. -/
def execPowerRun (s : State) : Res := .next (s.powerCommand 0)
/-- POWER_HOLD (R491): 1 written to D200.02. -/
def execPowerHold (s : State) : Res := .next (s.powerCommand 1)
/-- POWER_REST (R493): 2 written to D200.02. -/
def execPowerRest (s : State) : Res := .next (s.powerCommand 2)
/-- POWER_DEEP_REST (R495): 3 written to D200.02. -/
def execPowerDeepRest (s : State) : Res := .next (s.powerCommand 3)

/-- RING_POWER (R413, R491): a ring's POWER command. Its outcome is told when the state is entered, refused or abandoned. -/
def execRingPower (ring : Nat) (s : State) : Res :=
  s.ringGo ring (· == 3) fun s n w => (.power, (s.powerRequest (bits w 64 2) (some (ringId ring n))).powerNote)

/-! ### Entering REST and DEEP REST (R493 to R495) -/

/-- Serves the wakes that waited, each as a request for its state. -/
def State.serveWakes (s : State) (ws : List (Nat × Option Nat)) : State :=
  (ws.foldl (fun s w => s.powerRequest w.1 w.2) s).powerNote

/-- Abandons the entry at an abort point (R494): what it has done is undone, its request ends first, then the wakes are served. -/
def State.abandonEntry (s : State) (e : PowerEntry) (point : Nat) : State :=
  let s := { s with powerEntry := none, saved := if 2 ≤ point then [] else s.saved }
  (s.powerEnd e.ring 0x0A point).serveWakes e.wakes

/-- REST_ABORT_POINT (R493 to R495): the entry reaches its next abort point. A request that waits for Marshal waits at A1. The
saved list has been copied when A2 is reached. -/
def execRestAbortPoint (s : State) : Res :=
  match s.powerEntry with
  | none => .next s
  | some e =>
    if 4 ≤ e.point then .next s
    else if !e.wakes.isEmpty then .next (s.abandonEntry e (e.point + 1))
    else if e.waiting then .next s
    else
      let s := if e.point = 1 then s.saveList e.target else s
      .next { s with powerEntry := some { e with point := e.point + 1 } }

/-- DEEP_REST_PERMIT (R495, R468): Marshal permits the entry, and its steps start. -/
def execDeepRestPermit (s : State) : Res :=
  match s.powerEntry with
  | some e => .next (if e.waiting && e.wakes.isEmpty then { s with powerEntry := some { e with waiting := false } }.powerNote else s)
  | none => .next s

/-- A port sends REST blocks and leaves UP with cause COMMAND (R243, R495). The run of blocks stands in `out` as one block (log
entry 24). -/
def State.restPort (s : State) (p : Nat) : State :=
  if s.portMode p ≠ 1 ∨ s.portState p = portDisabled ∨ s.portState p = portHeld then s
  else (s.sendBlock p blkRest 0 0 0 false zeroBody).leaveUp p causeCommand portDown

/-- The laser sources are turned off (R495): their hours stand still. -/
def State.elsOff (s : State) : State :=
  foldUp (fun e s => if (KMap.get s.elsOn none e).isSome then s.elsPower e false else s) 0 16 s

/-- REST_ENTERED (R493 step 10, R495): the last step ends and the state is entered; a wake that came after A4 runs as an exit. -/
def execRestEntered (s : State) : Res :=
  match s.powerEntry with
  | none => .next s
  | some e =>
    if e.point < 4 then .next s
    else
      let s := if e.target = 3 then (foldUp (fun p s => s.restPort p) 0 64 s).elsOff else s
      let s := { s.setPower e.target with powerEntry := none, powerWake := e.wakes }
      .next (s.powerEnd e.ring 0 0).powerNote

/-! ### Leaving REST and DEEP REST (R497, R498, R502) -/

/-- Whether an entry's value is lost while its unit is gated: V objects, and in DEEP REST N objects too (R502). -/
def lostEntry (state key : Nat) : Bool :=
  match objInfo (key / 2 ^ 32) with
  | some o => gatedObj state o.code && (o.persist == .v || (state == 3 && o.persist == .n))
      && o.code != Obj.dimmState && o.code != Obj.dimmInfo && o.code != Obj.elsState && o.code != Obj.elsInfo
  | none => false

/-- The objects at the exit: what the gated units lost, then the saved list restored. -/
def State.restoreList (s : State) (state : Nat) : State :=
  let l := savedList state
  let kept := s.objs.filter fun p => !lostEntry state p.1 && !l.contains (p.1 / 2 ^ 32)
  let s' := { s with objs := kept, saved := [] }
  s.saved.foldl (fun s p => s.wr (p.1 / 2 ^ 32) (p.1 % 2 ^ 32) p.2) s'

/-- A core after its stack was gated: what no object holds is as after a reset; how its last run ended is restored. -/
def CoreSt.woken (c : CoreSt) : CoreSt :=
  { CoreSt.init with stop := c.stop, lastPos := c.lastPos, launchStride := c.launchStride, windowStart := c.windowStart }

/-- The compute stacks after they were gated: TM and stack SRAM zero, every controller recalibrated (R497). -/
def State.wakeCompute (s : State) : State :=
  let s := { s with
    cores := s.cores.map fun p => (p.1, p.2.woken)
    rkes := s.rkes.map fun p => (p.1, { RkeSt.init with stride := p.2.stride, windowStart := p.2.windowStart })
    mem := s.mem.filter fun c => decide (c.1 < memKey 2 0) || decide (memKey 3 0 ≤ c.1) }
  ((List.range 44).filter s.hasController).foldl (fun s c => (s.startHold c (s.recal c).temp).endHold c) s

/-- The N objects of the active bank applied to factory values (R436). -/
def State.nvValues (s : State) : State :=
  match s.activeBank with
  | none => s.factoryN.memClasses
  | some b => (((s.factoryN).formClassNodes ((s.factoryN).applyBank b).1).applyBank b).1.memClasses

/-- An object takes the values that it has in another state. -/
def State.takeObj (s other : State) (c : ObjCode) : State :=
  (other.objs.filter fun p => p.1 / 2 ^ 32 == c).foldl (fun s p => s.wr c (p.1 % 2 ^ 32) p.2) (s.clearObj c)

/-- A laser source starts again, and its bay's supply ramps (R497, R224, R486). -/
def State.elsAgain (s : State) (e : Nat) : State :=
  if s.els e = elsEmpty ∨ s.els e = elsRefused then s else (s.setEls e elsStarting).rampBay (16 + e) 36

/-- The fabric after it was off (R497): arena and bitmaps zero, units as after a warm reset, lasers starting, ports to train. -/
def State.wakeFabric (s : State) : State :=
  let nv := s.nvValues
  let s := (s.takeObj nv Obj.policer).takeObj nv Obj.collTimeout
  let s := { s with
    mem := s.mem.filter fun c => decide (c.1 < memKey 3 0)
    frames := [], copies := [], charges := [], offAt := [], grantPtr := [], acceptPtr := [], mirrorSeen := [],
    mirrorSeq := [], mirrorQueue := [], mirrorHeld := [], rings := [], credits := [], buckets := [], moves := [],
    linkLocals := [], ports := [], elsLost := [], pools := [],
    owners := [], cvus := [], scanJobs := [], sus := [], suBufs := [], ctxs := [] }
  let s := foldUp (fun e s => s.elsAgain e) 0 16 s
  let s := foldUp (fun p s => if s.portMode p = 0 then s else s.portRelease p) 0 64 s
  s.trackNote

/-- WAKE_DONE (R497): the exit's last step; RUN or HOLD is read, and the wake completes. -/
def execWakeDone (s : State) : Res :=
  match s.powerWake with
  | [] => .next s
  | w :: rest =>
    let state := s.power
    if state < 2 then .next s
    else
      let s := (s.restoreList state).wakeCompute
      let s := if state = 3 then s.wakeFabric else s
      .next (({ s.setPower w.1 with powerWake := [] }.powerEnd w.2 0 0).serveWakes rest)

/-! ### Unit resets (R500) -/

/-- Entries of an object back to their defaults, in the AOS copy too. -/
def State.clearEntries (s : State) (c : ObjCode) (lo n : Nat) : State :=
  let out (p : Nat × Nat) : Bool := !(decide (objKey c lo ≤ p.1) && decide (p.1 < objKey c (lo + n)))
  { s with objs := s.objs.filter out, saved := s.saved.filter out }

/-- The answer of UNIT_RESET (R504). -/
def State.unitAnswer (s : State) (code : Nat) : State := s.wr Obj.unitReset 0 code

/-- UNIT_RESET_CORE (R500): refused unless the core is IDLE, DONE or HALTED. Of SEQ_STATE, predicates and lap counters return
to 0. A LAUNCH that has ended keeps its result (R413). -/
def execUnitResetCore (core : Nat) (s : State) : Res :=
  if !s.hasCore core then .next (s.unitAnswer 3)
  else if s.coreLive core || s.scratched then .next (s.unitAnswer 2)
  else
    let s := if s.coreState core = 0 then s else s.ringCoreEnds core
    let s := [(Obj.flags, 256), (Obj.summarySlots, 8), (Obj.haltRecord, 1), (Obj.tileRegs, 32), (Obj.maskRegs, 8),
      (Obj.satTotal, 1), (Obj.flushTotal, 1), (Obj.rakeOverTotal, 1), (Obj.rakeOorTotal, 1), (Obj.rakeMalformedTotal, 1),
      (Obj.rmaskOutsideTotal, 1), (Obj.icacheRefetch, 1)].foldl (fun s p => s.clearEntries p.1 (p.2 * core) p.2) s
    .next ((((s.wrFld Obj.seqState core 0 16 0).wrFld Obj.seqState core 112 96 0).unitAnswer 1))

/-- UNIT_RESET_SU (R500): refused unless no slot of the SU is bound and no Guard descriptor valid (R307). -/
def execUnitResetSu (su : Nat) (s : State) : Res :=
  if 32 ≤ su then .next (s.unitAnswer 3)
  else if (List.range 8).any (fun k => s.slotBound (8 * su + k)) || s.slotReserved (8 * su + 7) || s.scratched then
    .next (s.unitAnswer 2)
  else
    let s := [Obj.programInfo, Obj.programText, Obj.suCounts, Obj.suFault].foldl (fun s c => s.clearEntries c (8 * su) 8) s
    .next ((s.setSu su SuSt.init).unitAnswer 1)

/-- UNIT_RESET_CVU (R500): refused unless the CVU is IDLE and not claimed by the CLE. -/
def execUnitResetCvu (cvu : Nat) (s : State) : Res :=
  if 16 ≤ cvu then .next (s.unitAnswer 3)
  else if s.cvuState cvu ≠ 0 || s.cvuClaimed cvu || s.cvuTaken cvu || s.scratched then .next (s.unitAnswer 2)
  else .next ((((s.clearEntries Obj.cvuRun cvu 1).clearEntries Obj.cvuState cvu 1).setCvu cvu CvuSt.init).unitAnswer 1)

/-- UNIT_RESET_HOST_PORT (R500): refused unless every queue pair on the port is in RESET and no ring of theirs RUNNING. -/
def execUnitResetHostPort (hp : Nat) (s : State) : Res :=
  if 2 ≤ hp then .next (s.unitAnswer 3)
  else if (List.range 512).any (fun q => s.qpState q != 0 && s.fld Obj.qpTable q 2 1 == hp)
      || (List.range 64).any (fun r => s.ringMode r == 1 && s.fld Obj.qpTable (s.ringQp r) 2 1 == hp) then .next (s.unitAnswer 2)
  else .next (((s.clearEntries Obj.hostPortState hp 1).clearEntries Obj.hostPortCounts hp 1).unitAnswer 1)

end Sys2Proof.Machine
end

