-- ==== Sys2Proof/Machine/Security.lean ====
section
/-! DEFINITION. Root of trust, identity and images (spec/17_security_and_images.md): the start-up after a reset (R506, R507,
R387), commissioning and keys (R509), the commits (R508), the firmware slots (R507), measurements and attestation (R511,
R512). -/

namespace Sys2Proof.Machine

/-! ### Firmware slots (R506, R507) -/

/-- What the ROM finds in a firmware slot: its SVN and the digests of its AOP and unit firmware. A slot that still holds what
manufacture put there verifies; an erased one does not. -/
def State.slotInfo (s : State) (k : Nat) : Option (Nat × Nat × Nat) :=
  if s.fwOwn.contains k then some s.ident.firmware
  else if (s.flashBytes (2 + k)).isEmpty then none
  else Config.fwCheck (s.flashBytes (2 + k))

/-- What is found in a slot that may run: its SVN is not below the fuse count (R506, R508). -/
def State.slotValid (s : State) (k : Nat) : Option (Nat × Nat × Nat) :=
  (s.slotInfo k).filter fun v => decide (s.svnFuses ≤ v.1)

/-- The slot that step 2 of R506 takes. -/
def State.chooseSlot (s : State) : Option Nat :=
  match s.slotValid 0, s.slotValid 1 with
  | some a, some b => some (if a.1 < b.1 then 1 else 0)
  | some _, none => some 0
  | none, some _ => some 1
  | none, none => none

/-- The standby slot: the one that does not run. -/
def State.standbySlot (s : State) : Nat := 1 - s.fwRunning

/-! ### The start-up (R506) -/

/-- The sockets at release: a DIMM is trained (R177), powered first with a ramp under the governor (R486) unless the reset has
kept it powered with its contents (R502); a redirected socket without one waits for it. -/
def State.startSockets (s : State) (dimms : Nat) : State :=
  foldUp (fun c s =>
    if dimms.testBit c then (if s.dimmKeep.testBit c then s.setDimm c dimmTraining else s.dimmPowers c) else if s.redirected c then s.setDimm c dimmOff else s) 0 12 s

/-- The host cages. -/
def State.startCages (s : State) (cages : List Nat) : State :=
  foldUp (fun p s => s.wr Obj.hostPortState p (cages.getD p 0)) 0 2 s

/-- Entries of a table written from pairs. -/
def State.wrPairs (s : State) (c : ObjCode) (ps : List (Nat × Nat)) : State := ps.foldl (fun s p => s.wr c p.1 p.2) s

/-- The role, manager and standby come into force from C000.01 (R440). -/
def State.startMarshal (s : State) : State :=
  let c := s.rd Obj.marshalConfig 0
  s.setMarshal { MarshalSt.init with role := bits c 0 2, manager := bits c 16 16, standby := bits c 32 16 }

/-- Steps 3 to 5 of R506: the unit firmware is measured, the NV image applied, the units released, and the start-up fill
begins. -/
def State.release (s : State) (unitDigest : Nat) (b : Bays) : State :=
  let s := (s.extend 1 unitDigest).nvRestore.claimCvus
  let s := if s.hasCompute then s.startSockets b.dimms else s
  let s := (s.wrPairs Obj.stageInfo b.stages).wrPairs Obj.stageState (b.stages.map fun p => (p.1, stageOn))
  let s := b.lasers.foldl (fun s p => (s.setEls p.1 elsStarting).rampBay (16 + p.1) 36) (s.wrPairs Obj.elsInfo b.lasers)
  let s := foldUp (fun p s => if s.portMode p = 0 then s else s.portRelease p) 0 64 s
  let k := s.bytesOf (·.persist == .k) kObjects
  let s := (s.startCages b.cages).wr Obj.aosUsage 0 (k + (2 ^ 22 - k) * 2 ^ 64)
  { s.startMarshal.trackNote with boot := .fill }

/-- RECOVERY (R507): neither slot verifies. -/
def State.recover (s : State) (b : Bays) : State := { s.startCages b.cages with boot := .recovery }

/-- BOOT (R506, R507): the ROM takes a slot, and the AOP firmware releases the units, at once or, with RESET_n low, after its
release (R522). After a RESET_n or warm reset only steps 3 to 5 run. -/
def execBoot (b : Bays) (s : State) : Res :=
  if s.boot = .rom then
    match s.chooseSlot with
    | none => .next (s.recover b)
    | some k =>
      match s.slotValid k with
      | none => .next (s.recover b)
      | some v =>
        let s := { s.extend 0 v.2.1 with fwRunning := k }
        .next (if s.resetLow then { s with boot := .held } else s.release v.2.2 b)
  else if s.boot = .aop then
    match s.slotValid s.fwRunning with
    | none => .next (s.recover b)
    | some v => .next (s.release v.2.2 b)
  else .next s

/-- The manager or standby manager enters itself in the membership table (R440, R499). -/
def State.startManager (s : State) : State :=
  let m := s.marshal
  let id := if m.role = 1 then m.manager else m.standby
  let s := (s.wr Obj.deviceId 0 id).wr Obj.serviceState 0 1
  s.wr Obj.membership id ((if m.role = 1 then 8 else 9) + s.ident.grade * 2 ^ 8 + s.rd Obj.expelGroup id * 2 ^ 24
    + s.now % 2 ^ 64 * 2 ^ 64 + s.ident.serial % 2 ^ 128 * 2 ^ 128)

/-- STARTUP_FILL (R387, R499): TM, stack SRAM and the arena are zero, and HBM4 where the reset did not keep it. A manager or
standby manager then takes its device ID and is IN_SERVICE; any other module says HELLO (R442). -/
def execStartupFill (s : State) : Res :=
  if s.boot ≠ .fill then .next s
  else
    let kept := s.rd Obj.lastReset 0 = resetPin ∨ s.rd Obj.lastReset 0 = resetWarm
    let mem := s.mem.filter fun c =>
      (decide (c.1 < memKey 1 0) && decide kept) || (decide (memKey 1 0 ≤ c.1) && decide (c.1 < memKey 2 0))
    let s : State := { s.wr Obj.scanInternal 0 0 with mem := mem, boot := .up }
    .next (if s.marshal.role = 0 ∨ s.scratched then s else s.startManager)

/-! ### Commissioning and keys (R509) -/

/-- The answer of SECURITY_CMD (R517). -/
def State.securityAnswer (s : State) (code : Nat) : State := s.wr Obj.securityCmd 0 code

/-- The owner key in COMMISSION_DESC. -/
def State.descOwner (s : State) : Nat := s.fld Obj.commissionDesc 0 0 512
/-- The operator keys in COMMISSION_DESC: entries that are not all zero. -/
def State.descOperators (s : State) : List Nat :=
  ((List.range 8).map fun i => s.fld Obj.commissionDesc 0 (512 * (i + 1)) 512).filter (· != 0)
/-- Whether the reserved part of COMMISSION_DESC is 0 (R12). -/
def State.descPlain (s : State) : Bool := s.fld Obj.commissionDesc 0 4608 512 == 0

/-- Both NV banks erased, with the journals (R509). -/
def State.eraseBanks (s : State) : State := { (s.flashErase 0).flashErase 1 with nvMark := none }

/-- COMMISSION (R509): only in FACTORY; the NV key is derived from the device secret and the owner key digest (R505). -/
def execCommission (s : State) : Res :=
  if s.fwErasing || s.nvErasing then .next (s.securityAnswer 2)
  else if s.commState ≠ 0 then .next (s.securityAnswer 3)
  else if !s.descPlain || s.descOwner == 0 then .next (s.securityAnswer 5)
  else
    let s := { s.eraseBanks with ownerKey := s.descOwner, operatorKeys := s.descOperators }
    .next { s with nvKey := Config.kdf 1 [s.ident.deviceSecret, s.ownerDigest] }.warmStart

/-- DECOMMISSION (R509): `owner` says that it comes in a session opened with the owner key. -/
def execDecommission (owner : Bool) (s : State) : Res :=
  if s.fwErasing || s.nvErasing then .next (s.securityAnswer 2)
  else if s.ownerKey = 0 then .next (s.securityAnswer 3)
  else if !owner then .next (s.securityAnswer 4)
  else .next { s.eraseBanks with ownerKey := 0, operatorKeys := [], nvKey := 0 }.warmStart

/-- KEYS (R509): replaces the operator keys. -/
def execKeysCmd (owner : Bool) (s : State) : Res :=
  if s.fwErasing || s.nvErasing then .next (s.securityAnswer 2)
  else if s.ownerKey = 0 then .next (s.securityAnswer 3)
  else if !owner then .next (s.securityAnswer 4)
  else if !s.descPlain then .next (s.securityAnswer 5)
  else .next ({ s with operatorKeys := s.descOperators }.securityAnswer 1)

/-! ### The commits (R508) -/

/-- ROLLBACK_COMMIT (R508): the rollback counter rises to the active image's ROLLBACK; a standby bank left below it loses its
verified state, and an ACTIVATE pending for it is cancelled. -/
def execRollbackCommit (owner : Bool) (s : State) : Res :=
  if s.fwErasing || s.nvErasing then .next (s.securityAnswer 2)
  else
    match s.activeBank with
    | none => .next (s.securityAnswer 3)
    | some b =>
      if !owner then .next (s.securityAnswer 4)
      else
        let s := { s with rollback := max s.rollback (s.imageRollback b) }
        let low := s.nvStandby = 3 ∧ s.imageRollback s.standbyBank < s.rollback
        let s := if low then { (s.wrFld Obj.nvState 0 2 2 2).wrFld Obj.nvState 0 4 1 0 with nvMark := none } else s
        .next (s.securityAnswer 1)

/-- SVN_COMMIT (R508): the fuse count rises to the running slot's SVN, at most 64 fuses; a standby slot left below it loses its
verified state, and an FW_ACTIVATE pending for it is cancelled. -/
def execSvnCommit (owner : Bool) (s : State) : Res :=
  if s.fwErasing || s.nvErasing then .next (s.securityAnswer 2)
  else if s.boot = .recovery then .next (s.securityAnswer 3)
  else
    match s.slotInfo s.fwRunning with
    | none => .next (s.securityAnswer 3)
    | some v =>
      if !owner then .next (s.securityAnswer 4)
      else
        let s := { s with svnFuses := max s.svnFuses (min 64 v.1) }
        let low := s.fwStandby = .verified ∧ (s.slotValid s.standbySlot).isNone
        .next ((if low then { s with fwStandby := .written, fwMark := false } else s).securityAnswer 1)

/-! ### The standby firmware slot (R507) -/

/-- FW_ERASE (R507): the standby slot is erased; a pending FW_ACTIVATE of it goes with its contents. -/
def execFwErase (s : State) : Res :=
  if s.fwErasing || s.nvErasing then .next (s.securityAnswer 2)
  else
    let k := s.standbySlot
    .next ({ s.flashErase (2 + k) with
      fwOwn := s.fwOwn.filter (· != k), fwErasing := true, fwStandby := .unknown, fwMark := false }.securityAnswer 2)

/-- FW_ERASE_DONE (R507): the erase ends. -/
def execFwEraseDone (s : State) : Res :=
  .next (if s.fwErasing then { s with fwErasing := false, fwStandby := .erased }.securityAnswer 1 else s)

/-- FW_VERIFY (R507): the standby slot is checked as the ROM would check it. -/
def execFwVerify (s : State) : Res :=
  if s.fwErasing || s.nvErasing then .next (s.securityAnswer 2)
  else if (s.slotValid s.standbySlot).isSome then .next ({ s with fwStandby := .verified }.securityAnswer 1)
  else .next ({ s with fwStandby := if s.fwStandby = Standby.verified then .written else s.fwStandby }.securityAnswer 6)

/-- FW_ACTIVATE (R507): the verified standby slot is marked; a warm reset starts from it. -/
def execFwActivate (s : State) : Res :=
  if s.fwErasing || s.nvErasing then .next (s.securityAnswer 2)
  else if s.fwStandby ≠ .verified then .next (s.securityAnswer 3)
  else .next ({ s with fwMark := true }.securityAnswer 1)

/-! ### Measurements and attestation (R511, R512) -/

/-- EXTEND (R511, R517): a digest of yours into MR6 or MR7. -/
def execExtendMr (i digest : Nat) (s : State) : Res :=
  if 2 ≤ i then .next s else .next (s.extend (6 + i) digest)

/-- The first 384 bytes of a report (R512). -/
def State.reportBody (s : State) : List Byte :=
  let seq := match s.activeBank with | some b => s.imageSeq b | none => 0
  let svn := match s.slotInfo s.fwRunning with | some v => v.1 | none => 0
  leBytes 8 0x3152545345545441
    ++ leBytes 2 1 ++ leBytes 1 s.ident.grade ++ leBytes 1 s.commState ++ leBytes 4 0 ++ leBytes 16 s.ident.serial
    ++ leBytes 2 s.devId ++ leBytes 2 0 ++ leBytes 4 svn ++ leBytes 4 s.rollback ++ leBytes 4 seq ++ leBytes 8 s.bootCount
    ++ leBytes 8 s.now ++ leBytes 32 s.ownerDigest ++ (List.range 8).flatMap (fun i => leBytes 32 (s.rd Obj.measurement i))
    ++ leBytes 32 (s.rd Obj.attestNonce 0)

/-- ATTEST (R512): 1 written to E200.02: the report over the nonce in E200.01, signed by the DIK over bytes 0 to 383. -/
def execAttest (s : State) : Res :=
  let body := s.reportBody
  .next (s.wr Obj.attest 0 (leCode (body ++ fitBytes 64 (Config.sm2Sign s.ident.deviceSecret body))))

end Sys2Proof.Machine
end

