-- ==== Sys2Proof/Machine/Physical.lean ====
section
/-! DEFINITION. The sideband (R523) with the measurements that go into it (R535), and the OSFP cages and links of the host
ports (R391, R527). -/

namespace Sys2Proof.Machine

/-! ### The sideband (R523) -/

/-- The larger of two temperatures, in code of 16 bits (R523, R535). -/
def hotter (a b : Nat) : Nat := if signed a 16 ≤ signed b 16 then b % 2 ^ 16 else a % 2 ^ 16

/-- TJ_MAX: the hottest junction of any sensor of R531; a UDX-J00-F has no compute stack, HBM4 or DIMM. -/
def State.hottest (s : State) : Nat :=
  let t (k : Nat) : Nat := s.fld Obj.thermalStatus 0 (16 * k) 16
  let fabric := hotter (t 1) (t 2)
  if s.hasCompute then hotter (hotter fabric (t 0)) (hotter (t 3) (t 4)) else fabric

/-- The block of R523 as the AOP forms it now. -/
def State.sidebandBlock (s : State) : Nat :=
  let input := s.rd Obj.inputStatus 0
  1 + s.ident.grade % 2 ^ 8 * 2 ^ 8 + s.rd Obj.serviceState 0 % 2 ^ 8 * 2 ^ 16 + s.power % 4 * 2 ^ 24
    + b2n (s.resetLow || s.boot == .recovery) * 2 ^ 26 + b2n (s.rd Obj.scratchCause 0 != 0) * 2 ^ 27
    + bits input 0 16 * 2 ^ 32 + bits input 32 16 * 2 ^ 48 + s.hottest * 2 ^ 64
    + hotter (s.fld Obj.thermalStatus 0 80 16) (s.fld Obj.thermalStatus 0 96 16) * 2 ^ 80
    + s.ident.serial % 2 ^ 128 * 2 ^ 128 + s.ident.partNumber % 2 ^ 128 * 2 ^ 256

/-- SIDEBAND_UPDATE (R523, R535): every 1 ms, while the AOP runs. `status` is what the sensors of THERMAL_STATUS read and
`temps` the ten of STACK_TEMP; the reserved bits and the absent compute stacks read 0. -/
def execSidebandUpdate (status : Nat) (temps : List Nat) (s : State) : Res :=
  if s.aopDead || decide (s.now < s.sidebandAt + 1000000) then .next s
  else
    let present (k : Nat) : Bool := decide (8 ≤ k) || (s.rd Obj.stackPresent 0).testBit k
    let s := s.wr Obj.thermalStatus 0 (bits status 0 176)
    let s := foldUp (fun k s => s.wr Obj.stackTemp k (if present k then temps.getD k 0 % 2 ^ 16 else 0)) 0 10 s
    .next { s with sideband := s.sidebandBlock, sidebandAt := s.now }

/-- A CRC-8 register of the polynomial x^8 + x^2 + x + 1 after a byte, most significant bit first. -/
def crc8Byte (reg : Nat) (b : Byte) : Nat := (List.range 8).foldl (fun r k => crcBitN 8 7 r (b.toNat.testBit (7 - k))) reg

/-- The PEC of a block read (R523): SMBus takes it over the address with the write bit, the command code, the address with the read bit,
the byte count and the bytes (PRESUMED, log entry 72). -/
def blockPec (addr : Nat) (bs : List Byte) : Byte :=
  BitVec.ofNat 8 (([addr * 2, 0, addr * 2 + 1, bs.length].map (BitVec.ofNat 8) ++ bs).foldl crc8Byte 0)

/-- SMBUS_BLOCK_READ (R523): a transfer to a 7-bit address with a command code, a write or a read, with its PEC valid or not;
`ga` is what the GA pins read. Another target's address is not for this module. -/
def execSmbusBlockRead (addr ga code : Nat) (write pec : Bool) (s : State) : Res :=
  if s.aopDead || addr != 0x50 + ga then .next s
  else if write || code != 0 || !pec then .next (s.send .sidebandNack)
  else .next (s.send (.sideband (leBytes 64 s.sideband) (blockPec addr (leBytes 64 s.sideband))))

/-! ### The host cages (R391, R527) -/

/-- Whether the host ports run (R490, R507, R522). -/
def State.hostAlive (s : State) : Bool := !s.aopDead && !s.resetLow && (s.boot == .fill || s.boot == .up || s.boot == .recovery)

/-- Whether a cage accepts an OSFP module (R527): one of the four of the table (0 400GBASE-SR8, 1 400GBASE-DR4, 2 400GBASE-FR4,
3 a passive copper cable) that declares at most 14 W. -/
def osfpQualified (medium watts : Nat) : Bool := decide (medium < 4) && decide (watts ≤ 14)

/-- OSFP_INSERT (R527): a module comes into an empty cage, with the medium and the power that it declares through CMIS. -/
def execOsfpInsert (hp medium watts : Nat) (s : State) : Res :=
  if 2 ≤ hp then .fault .noSuchUnit
  else if !s.hostAlive || s.hostPort hp != 2 then .next s
  else .next (s.wr Obj.hostPortState hp (if osfpQualified medium watts then 0 else 3))

/-- OSFP_REMOVE (R527): the port is DOWN and then NO_MODULE; its queue pairs go to ERROR by their retries (R404). -/
def execOsfpRemove (hp : Nat) (s : State) : Res :=
  if 2 ≤ hp then .fault .noSuchUnit
  else if !s.hostAlive then .next s
  else .next (s.wr Obj.hostPortState hp 2)

/-- HOST_PORT_UP (R391): the link of a port that is DOWN comes up. -/
def execHostPortUp (hp : Nat) (s : State) : Res :=
  if 2 ≤ hp then .fault .noSuchUnit
  else if !s.hostAlive || s.hostPort hp != 0 then .next s
  else .next (s.wr Obj.hostPortState hp 1)

/-- HOST_PORT_DOWN (R391): the link goes down. -/
def execHostPortDown (hp : Nat) (s : State) : Res :=
  if 2 ≤ hp then .fault .noSuchUnit
  else if !s.hostAlive || s.hostPort hp != 1 then .next s
  else .next (s.wr Obj.hostPortState hp 0)

end Sys2Proof.Machine
end

