-- ==== Sys2Proof/Machine/Rake.lean ====
section
/-! DEFINITION. The service of the shared Rake engines (R149 to R151, R153) and the totals (R155). -/

namespace Sys2Proof.Machine

/-! ### Service -/

/-- The earliest result of a Rake engine. -/
def RkeSt.nextDue (r : RkeSt) : Option Nat := minOpt (r.runs.map (·.due))

/-- The stride at which the next service starts (R150): once the occupancy of the last is over; the odd core's command not
in the stride of its arrival, in which the even core's, served first, may still arrive (log entry 84). -/
def RkeSt.startStride (r : RkeSt) (j : RkeJob) : Nat :=
  max (max r.stride r.busyUntil) (if j.core % 2 = 1 then j.arrival + 1 else j.arrival)

/-- RKE_SERVICE_START (R150, R166, R168): engine `engine` starts the next command in order of arrival once its occupancy has
ended. The command's inputs are read here; `ecc` is the outcome of their reads, in the order of R144 (descriptor, tile,
bitmap, rows of A) or of the two bitmaps of an RMASK. -/
def execRkeServiceStart (engine : Nat) (ecc : Ecc) (s : State) : Res :=
  if 48 ≤ engine then .fault .noSuchUnit
  else
    let r := s.rke engine
    match r.queue with
    | [] => .next s
    | j :: rest =>
      let t := r.startStride j
      if !s.hasRake engine || s.scratched || !above? r.nextDue t then .next s
      else
        let w := j.cmd.word
        let reads := (s.rkeCompute j.core w).1.map fun q => (2, tmOff j.core q.1, q.2)
        match eccRanges reads ecc s with
        | (false, s) => .next s
        | (true, s) =>
          let o := s.rkeCompute j.core w
          let run : RkeRun := ⟨j, t + 24, o.1.map fun q => .tm q.1 q.2, [], o.2⟩
          .next (s.setRke engine { r with queue := rest, stride := t, busyUntil := t + 16, runs := r.runs ++ [run],
                                          ahead := r.ahead + (t - r.stride) })

/-- RKE_RESULT (R149, R153): 24 strides after the start of its service the earliest command writes its area, its record
and its slot, enters the totals, and posts. `ecc` is the outcome of the reads with which TM merges the partial words (R160). -/
def execRkeResult (engine : Nat) (ecc : Ecc) (s : State) : Res :=
  if 48 ≤ engine then .fault .noSuchUnit
  else
    let r := s.rke engine
    match r.runs with
    | [] => .next s
    | x :: rest =>
      if !s.hasRake engine || s.scratched then .next s
      else
        let n := x.job.core
        let w := x.job.cmd.word
        let o := x.result
        let s := s.setRke engine { r with runs := rest, stride := max r.stride x.due, ahead := r.ahead + (x.due - r.stride) }
        match s.applyEffects n x.job.cmd.ord (o.writes.map fun p => ⟨.tm p.1 p.2.1, p.2.2, ones (8 * p.2.1)⟩) ecc with
        | (false, s) => .next s
        | (true, s) =>
          let s := if CoreOp.of w = some .rmask ∧ w.testBit 18 then s.writeSlot n (bits w 19 3) (summaryCode o.status 0 0 0)
            else s
          let s := (s.incSat Obj.rakeOverTotal n 0 64 o.overs).incSat Obj.rakeOorTotal n 0 64 o.oor
          let s := (s.incSat Obj.rakeMalformedTotal n 0 64 o.malformed).incSat Obj.rmaskOutsideTotal n 0 64 o.outside
          let c := s.core n
          let s := s.setCore n { c with rkeOut := c.rkeOut - 1 }
          .next (s.post n w x.job.cmd.pos x.job.cmd.ord)

/-- RAKE_TOTAL_CLEAR (R155): a write of a core number or 0xFF to 2090.05; a core without a Rake engine, or any other
value, is refused and changes nothing. -/
def execRakeTotalClear (value : Nat) (s : State) : Res :=
  let clear (s : State) (n : Nat) : State :=
    (((s.wr Obj.rakeOverTotal n 0).wr Obj.rakeOorTotal n 0).wr Obj.rakeMalformedTotal n 0).wr Obj.rmaskOutsideTotal n 0
  if !s.hasCompute then .next s
  else if value = 0xFF then
    .next (((((s.clearObj Obj.rakeOverTotal).clearObj Obj.rakeOorTotal).clearObj Obj.rakeMalformedTotal).clearObj
      Obj.rmaskOutsideTotal).wr Obj.rakeTotalClear 0 1)
  else if s.hasRake (value / 2) && s.hasCore value then .next ((clear s value).wr Obj.rakeTotalClear 0 1)
  else .next s

end Sys2Proof.Machine
end

