-- ==== Sys2Proof/Machine/Cdp.lean ====
section
/-! DEFINITION. The dictionary engine and CDP (R416 to R429): messages, sessions and sequence numbers, the operations, and the
session keys (R510). A write of a CMD object runs the action of that object's own command. -/

namespace Sys2Proof

/-! ### The header (R417) -/

/-- OP. -/
def CdpMsg.op (m : CdpMsg) : Nat := Machine.bits m.hdr 224 8
/-- SESSION. -/
def CdpMsg.session (m : CdpMsg) : Nat := Machine.bits m.hdr 192 16
/-- SEQ. -/
def CdpMsg.seq (m : CdpMsg) : Nat := Machine.bits m.hdr 160 32
/-- GROUP and MEMBER, as an object number. -/
def CdpMsg.code (m : CdpMsg) : Nat := Machine.bits m.hdr 144 16 * 2 ^ 8 + Machine.bits m.hdr 136 8
/-- INDEX. -/
def CdpMsg.index (m : CdpMsg) : Nat := Machine.bits m.hdr 96 32
/-- OFFSET. -/
def CdpMsg.offset (m : CdpMsg) : Nat := Machine.bits m.hdr 64 32
/-- LENGTH. -/
def CdpMsg.len (m : CdpMsg) : Nat := Machine.bits m.hdr 48 16

/-- The client a source is kept under (R423): its address and port, or its device ID. -/
def CdpMsg.peer (m : CdpMsg) : Nat := if m.via = 2 then m.addr else m.addr * 2 ^ 16 + m.udpPort

end Sys2Proof

namespace Sys2Proof.Machine

/-! ### Messages (R417, R418) -/

/-- READ (R418). -/
def opRead : Nat := 0x01
/-- WRITE. -/
def opWrite : Nat := 0x02
/-- DESCRIBE. -/
def opDescribe : Nat := 0x03
/-- NEXT. -/
def opNext : Nat := 0x04
/-- NV_WRITE. -/
def opNvWrite : Nat := 0x10
/-- NV_ERASE. -/
def opNvErase : Nat := 0x11
/-- SESSION_OPEN. -/
def opSessionOpen : Nat := 0x20
/-- SESSION_FINISH. -/
def opSessionFinish : Nat := 0x21
/-- SESSION_CLOSE. -/
def opSessionClose : Nat := 0x22
/-- IMAGE_WRITE. -/
def opImageWrite : Nat := 0x30

/-- The operations of R418. -/
def knownOps : List Nat :=
  [opRead, opWrite, opDescribe, opNext, opNvWrite, opNvErase, opSessionOpen, opSessionFinish, opSessionClose, opImageWrite]

/-- Whether a message keeps the form of R417: VERSION, a known OP, the reserved fields and those of replies 0, LENGTH at most
1,024 and in agreement with the payload, a tag where AUTH says so. -/
def msgFormed (m : CdpMsg) : Bool :=
  bits m.hdr 232 8 == 1 && knownOps.contains m.op && !m.hdr.testBit 223 && !m.hdr.testBit 221 && bits m.hdr 216 5 == 0
    && bits m.hdr 208 8 == 0 && bits m.hdr 128 8 == 0 && bits m.hdr 0 48 == 0 && decide (m.len ≤ 1024)
    && m.payload.length == (if m.op = opRead then 0 else m.len) && m.tag.isSome == m.hdr.testBit 222

/-- The tag over a header and a payload under a session key (R422). -/
def cdpTag (key : Nat) (bs : List Byte) : Nat := Config.hmacSm3 key bs % 2 ^ 256

/-! ### The transports (R416) -/

/-- Whether a message reaches the dictionary engine: over UDP at a host port that is UP, on IPv4 only where B500.01 accepts
it; over the fabric in an MGT frame of KIND 0xC0, where B500.01 accepts it and the module is neither scratched, in RECOVERY
nor in DEEP REST (R416, R439, R496, R507). -/
def State.cdpArrives (s : State) (m : CdpMsg) : Bool :=
  s.hostAlive
    && (if m.via = 2 then
          m.mgt == 0xC0 * 2 ^ 184 && (s.rd Obj.cdpConfig 0).testBit 1 && !s.scratched && s.boot != .recovery && s.power != 3
        else s.hostPort m.hp == 1 && (m.via != 1 || (s.rd Obj.cdpConfig 0).testBit 0))

/-- The header of a reply (R417): the request's with REPLY, the status and the reply's LENGTH. -/
def cdpReplyHdr (m : CdpMsg) (auth dup : Bool) (status session n : Nat) : Nat :=
  0xCD50 * 2 ^ 240 + 2 ^ 232 + m.op * 2 ^ 224 + 2 ^ 223 + b2n auth * 2 ^ 222 + b2n dup * 2 ^ 221 + status % 2 ^ 8 * 2 ^ 208
    + session % 2 ^ 16 * 2 ^ 192 + m.seq * 2 ^ 160 + bits m.hdr 136 24 * 2 ^ 136 + bits m.hdr 64 64 * 2 ^ 64 + n % 2 ^ 16 * 2 ^ 48

/-- Sends a reply to a request's client: over the fabric in an MGT frame of `s0`, the module as the request found it, unless
the module has been scratched; the tag follows under a session key. -/
def State.cdpSend (s s0 : State) (m : CdpMsg) (key : Option Nat) (bs : List Byte) : State :=
  let all := match key with | some k => bs ++ leBytes 32 (cdpTag k bs) | none => bs
  if m.via ≠ 2 then s.send (.reply (m.via * 2 ^ 144 + m.peer) all)
  else if s.scratched then s
  else s.send (.frame { hdr := s0.routing m.addr s0.mgtTc 0 false all.length + 0xC0 * 2 ^ 184, payload := all })

/-- A cached reply with DUP set, header bit 221 (R423). -/
def withDup (bs : List Byte) : List Byte := bs.take 4 ++ [(bs.getD 4 0) ||| 0x20#8] ++ bs.drop 5

/-! ### Reading an object (R419, R420) -/

/-- An entry's bytes as CDP sends them (R419). -/
def State.cdpEntry (s : State) (o : ObjInfo) (i : Nat) : List Byte :=
  let bs := leBytes o.bytes (s.view o.code i)
  if o.type.bigEndian ∧ o.code ≠ Obj.attest then bs.reverse else bs

/-- Bytes of an object from a byte of an entry on. -/
def State.cdpBytes (s : State) (o : ObjInfo) (idx off n : Nat) : List Byte :=
  if o.code = Obj.suBitmap then s.memRead spaceBitmap (idx * 2 ^ 21 + off) n
  else
    let count := (off + n + o.bytes - 1) / o.bytes
    (((List.range count).flatMap fun k => s.cdpEntry o (idx + k)).drop off).take n

/-- READ (R420): the status and the bytes. -/
def State.readObject (s : State) (c : ObjCode) (idx off n : Nat) : Nat × List Byte :=
  match objInfo c with
  | some o =>
    if !s.objHere c then (cdpNoObject, [])
    else if !o.covers idx off n then (cdpRange, [])
    else if s.gated c || s.readsClaimed o idx off n then (cdpState, [])
    else (cdpOk, s.cdpBytes o idx off n)
  | none => (cdpNoObject, [])

/-! ### Writing an object (R419, R420) -/

/-- Bytes as CDP sends them in the order in which a value is held: each whole entry of a numeric type turned round. -/
def turnEntries (size : Nat) (bs : List Byte) : List Byte :=
  (List.range (bs.length / size)).flatMap fun k => ((bs.drop (k * size)).take size).reverse

/-- WRITE of an object that is no CMD: the status and the state (R420, R421). -/
def State.writeObject (s : State) (o : ObjInfo) (idx off : Nat) (bs : List Byte) : Nat × State :=
  if o.access = .ro then (cdpReadOnly, s)
  else if !o.covers idx off bs.length then (cdpRange, s)
  else if !o.wholeOk off bs.length then (cdpWhole, s)
  else s.writePieces o (o.pieces idx off (if o.type.bigEndian then turnEntries o.bytes bs else bs))

/-- The command that a write of a CMD object asks for: none where its table gives the value no meaning. Compute, memory, GMU,
ports, Track, TMG, SUs and CLE. `e` is the outcome of the memory reads that the command makes. -/
def State.cmdAction (s : State) (c : ObjCode) (v : Nat) (e : Ecc) : Option (State → Res) :=
  let lo := bits v 0 8
  let act := bits v 8 8
  if c = Obj.scratchNow then (if v = 0x5C then some execScratchNow else none)
  else if c = Obj.coreLaunch then (if v < 2 ^ 52 then some (execCoreLaunch v e) else none)
  else if c = Obj.coreStop then (if v < 96 then some (execCoreStop v) else none)
  else if c = Obj.rakeTotalClear then
    (if v = 0xFF ∨ (s.hasRake (v / 2) ∧ s.hasCore v) then some (execRakeTotalClear v) else none)
  else if c = Obj.totalClear then (if v = 0xFF ∨ s.hasCore v then some (execTotalClear v) else none)
  else if c = Obj.recalNow then (if v < 24 ∨ (256 ≤ v ∧ v < 268) then some (execRecalNow v) else none)
  else if c = Obj.drainCmd then
    if 12 ≤ lo then none
    else if act = 1 then some (execDimmDrain lo) else if act = 2 then some (execDimmPowerOff lo)
    else if act = 3 then some (execDimmPowerOn lo) else if act = 4 then some (execDimmReturn lo)
    else if act = 5 then some (execDrainCancel lo) else none
  else if c = Obj.streamReset then (if v < 4096 then some (execStreamReset v) else none)
  else if c = Obj.guardCmd then
    if 64 ≤ lo then none
    else if act = 1 then some (execGuardActivate lo) else if act = 2 then some (execGuardDeactivate lo) else none
  else if c = Obj.portCmd then
    if 64 ≤ lo then none
    else if act = 1 then some (execPortEnable lo) else if act = 2 then some (execPortDisable lo)
    else if act = 3 then some (execRetrain lo) else if act = 4 then some (execPortSelftest lo) else none
  else if c = Obj.elsCmd then
    if 16 ≤ lo then none
    else if act = 1 then some (execElsRemove lo) else if act = 2 then some (execElsCancel lo) else none
  else if c = Obj.routeCommit then (if v = 1 then some (execRouteCommit 1) else none)
  else if c = Obj.flowCmd then
    if bits v 48 8 = 1 then (if bits v 45 3 = 0 ∧ bits v 56 8 = 0 then some (execFlowCreate v) else none)
    else if bits v 48 8 = 2 ∧ bits v 17 31 = 0 ∧ bits v 56 8 = 0 then some (execFlowDelete (bits v 0 17)) else none
  else if c = Obj.programLoad then
    if act = 1 then some (execProgramLoad lo) else if act = 2 then some (execProgramClear lo) else none
  else if c = Obj.bindCmd then
    if act = 1 then some (execBind lo e) else if act = 2 then some (execUnbind lo)
    else if act = 3 then some (execForceUnbind lo) else none
  else if c = Obj.bitmapClear then (if v < 32 then some (execBitmapClear v) else none)
  else if c = Obj.groupCmd then
    if 64 ≤ lo then none
    else if act = 1 then (if lo = 0 then some (execGroupSetup e) else none)
    else if act = 2 then some (execGroupDestroy lo) else if act = 3 then some (execGroupResume lo) else none
  else none

/-- The same for the other CMD objects. `owner` says that the session was opened with the owner key; `fed` is how far a
check-value unit or a scan job has come, and `reachable` whether a manager answers, where the command depends on it. -/
def cmdActionTwo (c : ObjCode) (v : Nat) (owner reachable : Bool) (fed : Nat) (e : Ecc) : Option (State → Res) :=
  let lo := bits v 0 8
  let act := bits v 8 8
  if c = Obj.poolCmd then
    let taker := bits v 16 16
    let buf := bits v 32 32
    if 64 ≤ lo then none
    else if act = 1 ∧ taker = 0 ∧ buf = 0 then some (execBpmAllocLow 0x4000 lo e)
    else if act = 2 ∧ taker = 0 ∧ buf = 0 then some (execBpmAllocHigh 0x4000 lo e)
    else if act = 3 ∧ taker = 0 then some (execBpmFree 0x4000 lo buf)
    else if act = 4 then some (execBpmHandover 0x4000 lo buf taker)
    else if act = 5 ∧ taker = 0 ∧ buf = 0 then some (execPoolInit lo)
    else if act = 6 ∧ taker = 0 ∧ buf = 0 then some (execPoolDisable lo) else none
  else if c = Obj.ownerQuery then (if bits v 6 26 = 0 then some (execOwnerQuery v) else none)
  else if c = Obj.cvuCmd then
    if 16 ≤ lo then none
    else if act = 1 then some (execCvuStart lo) else if act = 2 then some (execCvuFinish lo)
    else if act = 3 then some (execCvuSuspend lo fed) else if act = 4 then some (execCvuResume lo)
    else if act = 5 then some (execFeed lo) else if act = 6 then some (execCvuCancel lo fed) else none
  else if c = Obj.scanCmd then
    if act = 1 ∧ lo = 0 then some execScanSubmit
    else if act = 2 ∧ lo < 16 then some (execScanCancel lo fed) else none
  else if c = Obj.qpCmd then
    if bits v 9 3 ≠ 0 then none
    else if bits v 12 4 = 1 then some (execQpConnect (bits v 0 9))
    else if bits v 12 4 = 2 then some (execQpReset (bits v 0 9)) else none
  else if c = Obj.ringCmd then
    if 64 ≤ lo then none
    else if act = 1 then some (execRingStart lo) else if act = 2 then some (execRingStop lo) else none
  else if c = Obj.nvCmd then
    if v = 1 then some execNvBankErase else if v = 2 then some execNvVerify else if v = 3 then some execNvActivate else none
  else if c = Obj.marshalCmd then
    if bits v 24 8 ≠ 0 then none
    else if lo = 1 then some execMarshalAdmit else if lo = 2 then some (execSpareReady (bits v 8 16))
    else if lo = 3 then some (execMarshalScratch (bits v 8 16)) else if lo = 4 then some (execTakeManager reachable) else none
  else if c = Obj.powerCmd then
    if v = 0 then some execPowerRun else if v = 1 then some execPowerHold else if v = 2 then some execPowerRest
    else if v = 3 then some execPowerDeepRest else none
  else if c = Obj.resetCmd then (if v = 0x57 then some execWarmReset else none)
  else if c = Obj.unitReset then
    if act = 1 then some (execUnitResetCore lo) else if act = 2 then some (execUnitResetSu lo)
    else if act = 3 then some (execUnitResetCvu lo) else if act = 4 then some (execUnitResetHostPort lo) else none
  else if c = Obj.stageCmd then
    if 13 ≤ lo then none
    else if act = 1 then some (execStageRemove lo) else if act = 2 then some (execStageCancel lo) else none
  else if c = Obj.securityCmd then
    if v = 1 then some execCommission else if v = 2 then some (execDecommission owner) else if v = 3 then some (execKeysCmd owner)
    else if v = 4 then some (execRollbackCommit owner) else if v = 5 then some (execSvnCommit owner)
    else if v = 6 then some execFwErase else if v = 7 then some execFwVerify else if v = 8 then some execFwActivate else none
  else if c = Obj.attest then (if v = 1 then some execAttest else none)
  else none

/-- Whether a CMD object's previous action still runs and has no refusal code of its own (R421: BUSY): an erase of a slot or a
bank, a recalibration that was asked for, a stream reset, a bitmap clear put off to the end of a run. -/
def State.cmdBusy (s : State) (c : ObjCode) : Bool :=
  (c == Obj.securityCmd && s.fwErasing) || (c == Obj.nvCmd && s.nvErasing)
    || (c == Obj.recalNow && s.recals.any fun e => e.2.wanted)
    || (c == Obj.streamReset
      && ((s.srcSts.any fun e => e.2.resetSends != 0) || s.waiting.any fun r => match r.owner with | .reset _ => true | _ => false))
    || (c == Obj.bitmapClear && s.sus.any fun e => e.2.later.contains none)

/-- WRITE of a CMD object (R419): exactly its write width at OFFSET 0; the action it starts. -/
def State.writeCmd (s : State) (o : ObjInfo) (idx off : Nat) (bs : List Byte) (owner reachable : Bool) (fed : Nat) (e : Ecc) :
    Nat × Option (State → Res) :=
  let v := leCode bs.reverse
  if idx ≠ 0 ∨ o.writeBytes < off + bs.length then (cdpRange, none)
  else if off ≠ 0 ∨ bs.length ≠ o.writeBytes then (cdpWhole, none)
  else if s.gated o.code then (cdpState, none)
  else if s.cmdBusy o.code then (cdpBusy, none)
  else
    match (s.cmdAction o.code v e).or (cmdActionTwo o.code v owner reachable fed e) with
    | some f => (cdpOk, some f)
    | none => (cdpRange, none)

/-- REGISTER_WRITE (R13, R419 to R421): a write in an open session, of an object without a command of its own, applied or
refused; the answer is its status. A CMD object's write is another command's. -/
def execRegisterWrite (obj index offset : Nat) (data : List Byte) (s : State) : Res :=
  match objInfo obj with
  | some o =>
    if !s.hostAlive || o.access == .cmd then .next s
    else if !s.objHere obj then .next (s.send (.status cdpNoObject))
    else
      let r := s.writeObject o index offset data
      .next (r.2.send (.status r.1))
  | none => .next (if s.hostAlive then s.send (.status cdpNoObject) else s)

/-! ### DESCRIBE and NEXT (R427, R418) -/

/-- TYPE (R427). The list has no I16, the type of D600.04: the code is the free value `free`. -/
def typeCode (free : Nat) : ObjType → Nat
  | .bool => 0x01 | .u8 => 0x02 | .u16 => 0x03 | .u32 => 0x04 | .u64 => 0x05 | .i32 => 0x06 | .i64 => 0x07 | .f32 => 0x08
  | .bits8 => 0x09 | .bits16 => 0x0A | .bits32 => 0x0B | .bits64 => 0x0C | .addr64 => 0x0D | .octets => 0x0E
  | .string => 0x0F | .cmd => 0x11 | .i16 => free % 256

/-- ACCESS (R427). -/
def accessCode : Access → Nat
  | .ro => 1 | .rw => 2 | .wo => 3 | .w1c => 4 | .cmd => 5 | .rwq => 6

/-- PERSISTENCE (R427). -/
def persistCode : Persist → Nat
  | .f => 1 | .n => 2 | .v => 3 | .s => 4 | .k => 5

/-- The factory default of a value or of entry 0, by R419, at most 256 bytes. -/
def State.describeDefault (s : State) (o : ObjInfo) : List Byte :=
  let v := if o.persist = .f then s.rd o.code 0 else if o.code = Obj.powerCap then gradePower s.ident.grade
    else factory o.code (if o.code = Obj.maskRegs then 1 else 0)
  let size := max o.bytes o.writeBytes
  if o.type.bigEndian ∧ o.code ≠ Obj.attest then (beBytes size v).take 256 else leBytes (min size 256) v

/-- The DESCRIBE reply payload (R427). -/
def State.describeBytes (s : State) (o : ObjInfo) : List Byte :=
  let alias_ := o.code = Obj.h40PortRate ∨ o.code = Obj.h40PortBurst
  let t := typeCode (Config.freeVal s.free 0) o.type
  beBytes 1 (if o.entries = 0 then t else 0x10) ++ beBytes 1 (if o.entries = 0 then 0 else t) ++ beBytes 1 (accessCode o.access)
    ++ beBytes 1 (persistCode o.persist) ++ beBytes 1 (if alias_ then 1 else 0) ++ beBytes 3 0
    ++ beBytes 4 (max o.bytes o.writeBytes) ++ beBytes 4 o.count ++ (if alias_ then beBytes 3 Obj.portNode ++ beBytes 1 0 else beBytes 4 0)
    ++ s.describeDefault o

/-- The next object that exists after a number, in ascending number (R418, R429). -/
def State.nextObject (s : State) (c : ObjCode) : Option ObjCode :=
  (objTable.find? fun o => decide (c < o.code) && s.objHere o.code).map (·.code)

/-! ### The journal and images (R434, R437) -/

/-- NV_WRITE (R434): the status and the state. -/
def State.nvSet (s : State) (c : ObjCode) (idx off : Nat) (bs : List Byte) : Nat × State :=
  match objInfo c with
  | none => (cdpNoObject, s)
  | some o =>
    if !s.objHere c then (cdpNoObject, s)
    else if o.persist ≠ .n then (cdpNvNotN, s)
    else if s.activeBank.isNone then (cdpState, s)
    else if !o.covers idx off bs.length || !o.wholeOk off bs.length then (cdpRange, s)
    else
      let value := if o.type.bigEndian then turnEntries o.bytes bs else bs
      if (o.pieces idx off value).all fun p => s.valueOk false c p.1 (s.patched o p.1 p.2.1 p.2.2) then
        s.journalAppend ⟨false, c, idx, off, value, false⟩
      else (cdpRange, s)

/-- NV_ERASE (R434). -/
def State.nvUnset (s : State) (c : ObjCode) (idx off len : Nat) : Nat × State :=
  match objInfo c with
  | none => (cdpNoObject, s)
  | some o =>
    if !s.objHere c then (cdpNoObject, s)
    else if o.persist ≠ .n then (cdpNvNotN, s)
    else if s.activeBank.isNone then (cdpState, s)
    else if off ≠ 0 ∨ len ≠ 0 ∨ !(decide (idx < o.count) || (o.entries != 0 && idx == 2 ^ 32 - 1)) then (cdpRange, s)
    else s.journalAppend ⟨true, c, idx, 0, [], false⟩

/-- IMAGE_WRITE (R437, R507): OFFSET[31] chooses the standby firmware slot over the standby bank. What has been verified is
written again, and an activation pending for it falls. -/
def State.imageWrite (s : State) (offset : Nat) (bs : List Byte) : Nat × State :=
  let fw := decide (2 ^ 31 ≤ offset)
  let off := offset % 2 ^ 31
  let store := if fw then 2 + s.standbySlot else s.standbyBank
  let ready := if fw then !s.fwErasing && s.fwStandby != .unknown else !s.nvErasing && s.nvStandby != 0
  if !ready then (cdpNoImage, s)
  else if (if fw then 2 ^ 24 else bankSize) < off + bs.length ∨ s.flashWritten store off bs.length then (cdpRange, s)
  else
    let s := s.flashWrite store off bs
    let s := { s with imageWritten := s.imageWritten ++ [(store, off, bs.length)] }
    (cdpOk, if fw then { s with fwStandby := .written, fwMark := false }
            else { (s.wrFld Obj.nvState 0 2 2 2).wrFld Obj.nvState 0 4 1 0 with nvMark := none })

/-! ### Sessions (R422, R510) -/

/-- A session by its number. -/
def State.session (s : State) (k : Nat) : Option Session := KMap.get s.sessions none k

/-- Opens, changes or closes a session. -/
def State.setSession (s : State) (k : Nat) (x : Option Session) : State := { s with sessions := KMap.set s.sessions none k x }

/-- What a source without a session has had (R423). -/
def State.source (s : State) (m : CdpMsg) : CdpSource :=
  (s.sources.find? fun x => x.via == m.via && x.peer == m.peer).getD ⟨m.via, m.peer, none, []⟩

/-- Keeps what a source has had. -/
def State.setSource (s : State) (x : CdpSource) : State :=
  { s with sources := x :: s.sources.filter fun y => y.via != x.via || y.peer != x.peer }

/-- Keeps a reply for a repeated request (R423). -/
def State.cacheReply (s : State) (m : CdpMsg) (bs : List Byte) : State :=
  if m.session ≠ 0 then
    match s.session m.session with
    | some x => s.setSession m.session (some { x with cache := ((m.seq, bs) :: x.cache).take 64 })
    | none => s
  else
    let x := s.source m
    s.setSource { x with cache := ((m.seq, bs) :: x.cache).take 64 }

/-- Whether a session opened in FACTORY may perform a request (R510). -/
def factoryMay (m : CdpMsg) : Bool :=
  let g := objGroup m.code
  let open_ := g / 2 ^ 12 == 1 || g == 0xE000
  m.op == opSessionClose
    || ((m.op == opRead || m.op == opDescribe || m.op == opNext) && (open_ || (m.op == opNext && g / 2 ^ 12 == 0)))
    || (m.op == opWrite && (m.code == Obj.commissionDesc
      || (m.code == Obj.securityCmd && m.payload == [1#8] && m.offset == 0 && m.index == 0)))

/-- Whether a request may be performed without a session (R422). -/
def sessionlessMay (m : CdpMsg) : Bool :=
  m.op == opSessionOpen || ((m.op == opRead || m.op == opDescribe || m.op == opNext) && objGroup m.code / 2 ^ 12 == 1)

/-- A 65-byte point of which x and y are numbers (R510). -/
def pointBytes (x y : Nat) : List Byte := 4#8 :: (beBytes 32 x ++ beBytes 32 y)

/-- SESSION_OPEN (R510): the answer's status, session number and payload. The module's ephemeral point is free. -/
def State.sessionOpen (s : State) (m : CdpMsg) : Nat × Nat × List Byte × State :=
  let key := leCode ((m.payload.drop 1).take 64)
  let factory := s.ownerKey == 0
  match (List.range 16).find? fun k => (s.session (k + 1)).isNone with
  | none => (cdpNoSession, 0, [], s)
  | some k =>
    if m.payload.length ≠ 130 ∨ m.payload.getD 0 0 ≠ 4#8 ∨ m.payload.getD 65 0 ≠ 4#8 then (cdpBadMessage, 0, [], s)
    else if !(factory || key == s.ownerKey || s.operatorKeys.contains key) then (cdpAuth, 0, [], s)
    else
      let point := pointBytes (Config.freeVal s.free 0 % 2 ^ 256) (Config.freeVal s.free 1 % 2 ^ 256)
      let material := [s.ident.deviceSecret, leCode m.payload, leCode point]
      let x : Session :=
        { key := Config.kdf 2 material, finished := false, owner := s.ownerKey != 0 && key == s.ownerKey, factory := factory,
          s1 := Config.kdf 3 material % 2 ^ 256, since := s.now, last := s.now, via := m.via, peer := m.peer, high := 0, cache := [] }
      (cdpOk, k + 1, point ++ leBytes 32 (Config.kdf 4 material), (s.setSession (k + 1) (some x)).drawn)

/-! ### A request (R422 to R424, R426) -/

/-- What a request's operation answers: the status, the session number for the reply, the payload and the state. -/
structure CdpAnswer where
  status : Nat
  session : Nat
  payload : List Byte
  state : State

/-- Performs a request outside WRITE. -/
def State.cdpPerform (s : State) (m : CdpMsg) : CdpAnswer :=
  if m.op = opRead then
    let r := s.readObject m.code m.index m.offset m.len
    ⟨r.1, m.session, r.2, s⟩
  else if m.op = opDescribe then
    match objInfo m.code with
    | some o => if s.objHere m.code then ⟨cdpOk, m.session, s.describeBytes o, s.drawn⟩ else ⟨cdpNoObject, m.session, [], s⟩
    | none => ⟨cdpNoObject, m.session, [], s⟩
  else if m.op = opNext then
    match s.nextObject m.code with
    | some c =>
      if m.session = 0 ∧ objGroup c / 2 ^ 12 ≠ 1 then ⟨cdpNoObject, m.session, [], s⟩ else ⟨cdpOk, m.session, beBytes 3 c, s⟩
    | none => ⟨cdpNoObject, m.session, [], s⟩
  else if m.op = opNvWrite then
    let r := s.nvSet m.code m.index m.offset m.payload
    ⟨r.1, m.session, [], r.2⟩
  else if m.op = opNvErase then
    let r := s.nvUnset m.code m.index m.offset m.len
    ⟨r.1, m.session, [], r.2⟩
  else if m.op = opSessionOpen then
    if m.session ≠ 0 then ⟨cdpBadMessage, m.session, [], s⟩
    else
      let r := s.sessionOpen m
      ⟨r.1, r.2.1, r.2.2.1, r.2.2.2⟩
  else if m.op = opSessionClose then ⟨cdpOk, m.session, [], s.setSession m.session none⟩
  else
    let r := s.imageWrite m.offset m.payload
    ⟨r.1, m.session, [], r.2⟩

/-- Sends and keeps the reply of a request that has been performed in `s0`. -/
def State.cdpAnswer (s0 : State) (m : CdpMsg) (key : Option Nat) (a : CdpAnswer) : State :=
  let bs := beBytes 32 (cdpReplyHdr m key.isSome false a.status a.session a.payload.length) ++ a.payload
  (a.state.cacheReply m bs).cdpSend s0 m key bs

/-- A request that is not performed is answered with a status alone. -/
def State.cdpRefuse (s : State) (m : CdpMsg) (key : Option Nat) (status : Nat) : State :=
  s.cdpSend s m key (beBytes 32 (cdpReplyHdr m key.isSome false status m.session 0))

/-- A count of CDP_COUNTS (R439). -/
def State.cdpCount (s : State) (k : Nat) : State := s.inc Obj.cdpCounts 0 (64 * k) 64 1

/-- Performs a WRITE: a CMD object's action, or a write by the object's rules (R419 to R421). -/
def State.cdpPerformWrite (s : State) (m : CdpMsg) (key : Option Nat) (owner reachable : Bool) (fed : Nat) (e : Ecc) : Res :=
  let answer (st : Nat) (t : State) : State := s.cdpAnswer m key ⟨st, m.session, [], t⟩
  match objInfo m.code with
  | none => .next (answer cdpNoObject s)
  | some o =>
    if !s.objHere m.code then .next (answer cdpNoObject s)
    else if o.access = .cmd then
      let r := s.writeCmd o m.index m.offset m.payload owner reachable fed e
      match r.2 with
      | none => .next (answer r.1 s)
      | some f =>
        match f s with
        | .next t => .next (answer r.1 t)
        | .fault e => .fault e
        | .refused e => .refused e
    else
      let r := s.writeObject o m.index m.offset m.payload
      .next (answer r.1 r.2)

/-- A request that the session or source may make: by its SEQ it is performed, answered again, or refused (R423). -/
def State.cdpBySeq (s : State) (m : CdpMsg) (key : Option Nat) (high : Option Nat) (cache : List (Nat × List Byte))
    (perform : State → Res) : Res :=
  let later := match high with | some h => decide (h < m.seq) | none => true
  if later then perform s
  else
    match cache.find? fun p => p.1 == m.seq with
    | some p => .next ((s.cdpCount 1).cdpSend s m key (withDup p.2))
    | none => .next ((s.cdpCount 5).cdpRefuse m key cdpSeq)

/-- A request without a session (R422, R423). -/
def State.cdpSessionless (s : State) (m : CdpMsg) (perform : State → Res) : Res :=
  if m.tag.isSome then .next (s.cdpCount 3)
  else
    let x := s.source m
    s.cdpBySeq m none x.high x.cache fun s =>
      let s := s.setSource { x with high := some m.seq }
      if sessionlessMay m then perform (s.cdpCount 0)
      else .next (s.cdpAnswer m none ⟨cdpAuth, 0, [], s.cdpCount 2⟩)

/-- A request in a session that is open (R422, R423, R510). -/
def State.cdpInSession (s : State) (m : CdpMsg) (x : Session) (perform : State → Res) : Res :=
  let s := s.setSession m.session (some { x with last := s.now })
  s.cdpBySeq m (some x.key) (some x.high) x.cache fun s =>
    let s := s.setSession m.session (some { x with last := s.now, high := m.seq })
    if x.factory && !factoryMay m then .next (s.cdpAnswer m (some x.key) ⟨cdpAuth, m.session, [], s.cdpCount 2⟩)
    else perform (s.cdpCount 0)

/-- Whether a message carries the tag of a session (R422). -/
def tagRight (m : CdpMsg) (x : Session) : Bool := m.tag == some (cdpTag x.key (beBytes 32 m.hdr ++ m.payload))

/-- A CDP message (R416, R417, R422 to R424, R426): `perform` is what its operation does. One of another MAGIC is discarded;
in an open session one with a wrong tag is discarded and counted; then the form, the session and the SEQ are looked at. -/
def State.cdpRequest (s : State) (m : CdpMsg) (perform : State → Res) : Res :=
  if !s.cdpArrives m then .next s
  else if !m.room then .next (s.cdpCount 4)
  else if bits m.hdr 240 16 ≠ 0xCD50 then .next s
  else
    match (s.session m.session).filter (·.finished) with
    | some x =>
      if m.op = opSessionFinish then
        .next (if m.payload = leBytes 32 x.s1 then
            s.cdpSend s m (some x.key) (beBytes 32 (cdpReplyHdr m true true cdpOk m.session 0)) else s)
      else if !tagRight m x then .next (s.cdpCount 3)
      else if !msgFormed m then .next (s.cdpRefuse m (some x.key) cdpBadMessage)
      else s.cdpInSession m x perform
    | none =>
      if !msgFormed m then .next (s.cdpRefuse m none cdpBadMessage)
      else if m.op = opSessionFinish then perform s
      else if m.session ≠ 0 then .next (s.cdpRefuse m none cdpNoSession)
      else s.cdpSessionless m perform

/-- A request of one operation outside WRITE and SESSION_FINISH: a message of another operation is another command's. -/
def State.cdpOther (s : State) (op : Nat) (m : CdpMsg) : Res :=
  if m.op ≠ op then .next s
  else s.cdpRequest m fun t =>
    .next (t.cdpAnswer m ((t.session m.session).map (·.key)) (t.cdpPerform m))

/-! ### The commands -/

/-- CDP_READ (R420). A message whose OP is none of R418 is answered here too, with BAD_MESSAGE. -/
def execCdpRead (m : CdpMsg) (s : State) : Res :=
  if knownOps.contains m.op then s.cdpOther opRead m else s.cdpRequest m fun t => .next t

/-- CDP_WRITE (R419 to R421, R430). -/
def execCdpWrite (m : CdpMsg) (fed : Nat) (reachable : Bool) (e : Ecc) (s : State) : Res :=
  if m.op ≠ opWrite then .next s
  else s.cdpRequest m fun t =>
    let x := t.session m.session
    t.cdpPerformWrite m (x.map (·.key)) ((x.map (·.owner)).getD false) reachable fed e

/-- DESCRIBE (R427). -/
def execDescribe (m : CdpMsg) (s : State) : Res := s.cdpOther opDescribe m
/-- NEXT (R418, R429). -/
def execCdpNext (m : CdpMsg) (s : State) : Res := s.cdpOther opNext m
/-- NV_WRITE (R434). -/
def execNvWrite (m : CdpMsg) (s : State) : Res := s.cdpOther opNvWrite m
/-- NV_ERASE (R434). -/
def execNvErase (m : CdpMsg) (s : State) : Res := s.cdpOther opNvErase m
/-- SESSION_OPEN (R422, R510). -/
def execSessionOpen (m : CdpMsg) (s : State) : Res := s.cdpOther opSessionOpen m
/-- SESSION_CLOSE (R422). -/
def execSessionClose (m : CdpMsg) (s : State) : Res := s.cdpOther opSessionClose m
/-- IMAGE_WRITE (R437, R507). -/
def execImageWrite (m : CdpMsg) (s : State) : Res := s.cdpOther opImageWrite m

/-- SESSION_FINISH (R510): the right S1 opens the session, a wrong one discards it without a reply. -/
def execSessionFinish (m : CdpMsg) (s : State) : Res :=
  if m.op ≠ opSessionFinish then .next s
  else s.cdpRequest m fun t =>
    match t.session m.session with
    | none => .next (t.cdpRefuse m none cdpNoSession)
    | some x =>
      if m.tag.isSome ∨ m.payload.length ≠ 32 then .next (t.cdpRefuse m none cdpBadMessage)
      else if m.payload ≠ leBytes 32 x.s1 then .next (t.setSession m.session none)
      else
        let t := (t.setSession m.session (some { x with finished := true, last := t.now })).cdpCount 0
        .next (t.cdpSend t m (some x.key) (beBytes 32 (cdpReplyHdr m true false cdpOk m.session 0)))

/-- CDP_IDLE_EXPIRY (R422): a session without a request for CDP_IDLE_S closes. -/
def execCdpIdleExpiry (session : Nat) (s : State) : Res :=
  match s.session session with
  | some x =>
    .next (if x.finished && decide (x.last + s.fld Obj.cdpConfig 0 16 16 * 10 ^ 9 ≤ s.now) then s.setSession session none else s)
  | none => .next s

/-- SESSION_FINISH_TIMEOUT (R510): a session not finished within 100 ms is discarded. -/
def execSessionFinishTimeout (session : Nat) (s : State) : Res :=
  match s.session session with
  | some x => .next (if !x.finished && decide (x.since + 100000000 ≤ s.now) then s.setSession session none else s)
  | none => .next s

end Sys2Proof.Machine
end

