-- ==== Sys2Proof/Machine/Dispatch.lean ====
section
/-! DEFINITION. The one dispatch: each command to its meaning. -/

namespace Sys2Proof.Machine

/-- The effect of a command on everything but the queue. -/
def exec (i : Instr) (s : State) : Host.Outcome State Fault Refusal :=
  match i with
  | .nop core => Sys2Proof.Machine.execNop core s
  | .sqEnd core => Sys2Proof.Machine.execSqEnd core s
  | .pace core => Sys2Proof.Machine.execPace core s
  | .wait core => Sys2Proof.Machine.execWait core s
  | .post core => Sys2Proof.Machine.execPost core s
  | .flagset core => Sys2Proof.Machine.execFlagset core s
  | .pset core => Sys2Proof.Machine.execPset core s
  | .plogic core => Sys2Proof.Machine.execPlogic core s
  | .skip core => Sys2Proof.Machine.execSkip core s
  | .lapset core => Sys2Proof.Machine.execLapset core s
  | .lap core => Sys2Proof.Machine.execLap core s
  | .drain core => Sys2Proof.Machine.execDrain core s
  | .mark core => Sys2Proof.Machine.execMark core s
  | .mma core => Sys2Proof.Machine.execMma core s
  | .mout core => Sys2Proof.Machine.execMout core s
  | .mpart core => Sys2Proof.Machine.execMpart core s
  | .mclr core => Sys2Proof.Machine.execMclr core s
  | .vop core => Sys2Proof.Machine.execVop core s
  | .vcmp core => Sys2Proof.Machine.execVcmp core s
  | .vfunc core => Sys2Proof.Machine.execVfunc core s
  | .vred core => Sys2Proof.Machine.execVred core s
  | .vcvt core => Sys2Proof.Machine.execVcvt core s
  | .vwiden core => Sys2Proof.Machine.execVwiden core s
  | .vld core => Sys2Proof.Machine.execVld core s
  | .vst core => Sys2Proof.Machine.execVst core s
  | .vbmp core => Sys2Proof.Machine.execVbmp core s
  | .rake core => Sys2Proof.Machine.execRake core s
  | .rmask core => Sys2Proof.Machine.execRmask core s
  | .seta core => Sys2Proof.Machine.execSeta core s
  | .load core => Sys2Proof.Machine.execLoad core s
  | .store core => Sys2Proof.Machine.execStore core s
  | .copy core => Sys2Proof.Machine.execCopy core s
  | .atom core => Sys2Proof.Machine.execAtom core s
  | .fence core => Sys2Proof.Machine.execFence core s
  | .signal core => Sys2Proof.Machine.execSignal core s
  | .coll core => Sys2Proof.Machine.execColl core s
  | .pacedDispatch core ecc => Sys2Proof.Machine.execPacedDispatch core ecc s
  | .queueDispatch core engine ecc => Sys2Proof.Machine.execQueueDispatch core engine ecc s
  | .pacedResult core ecc => Sys2Proof.Machine.execPacedResult core ecc s
  | .waitLimit core => Sys2Proof.Machine.execWaitLimit core s
  | .coreComplete core => Sys2Proof.Machine.execCoreComplete core s
  | .icacheFill core line parity ecc => Sys2Proof.Machine.execIcacheFill core line parity ecc s
  | .coreLaunch value ecc => Sys2Proof.Machine.execCoreLaunch value ecc s
  | .coreStop value => Sys2Proof.Machine.execCoreStop value s
  | .totalClear value => Sys2Proof.Machine.execTotalClear value s
  | .strideWindowEnd => Sys2Proof.Machine.execStrideWindowEnd s
  | .rkeServiceStart engine ecc => Sys2Proof.Machine.execRkeServiceStart engine ecc s
  | .rkeResult engine ecc => Sys2Proof.Machine.execRkeResult engine ecc s
  | .rakeTotalClear value => Sys2Proof.Machine.execRakeTotalClear value s
  | .patrolRead region off ecc => Sys2Proof.Machine.execPatrolRead region off ecc s
  | .ondieCePoll ctrl count => Sys2Proof.Machine.execOndieCePoll ctrl count s
  | .recalStart ctrl temp => Sys2Proof.Machine.execRecalStart ctrl temp s
  | .recalEnd ctrl => Sys2Proof.Machine.execRecalEnd ctrl s
  | .recalForced ctrl temp => Sys2Proof.Machine.execRecalForced ctrl temp s
  | .recalNow value => Sys2Proof.Machine.execRecalNow value s
  | .dimmDrain chan => Sys2Proof.Machine.execDimmDrain chan s
  | .dimmPowerOff chan => Sys2Proof.Machine.execDimmPowerOff chan s
  | .dimmPowerOn chan => Sys2Proof.Machine.execDimmPowerOn chan s
  | .dimmReturn chan => Sys2Proof.Machine.execDimmReturn chan s
  | .drainCancel chan => Sys2Proof.Machine.execDrainCancel chan s
  | .drainBlockCopied ecc => Sys2Proof.Machine.execDrainBlockCopied ecc s
  | .dimmLatchClose chan => Sys2Proof.Machine.execDimmLatchClose chan s
  | .dimmTrained chan capacity ident mrdimm eccX4 checksum trained => Sys2Proof.Machine.execDimmTrained chan capacity ident mrdimm eccX4 checksum trained s
  | .dimmLatchOpen chan => Sys2Proof.Machine.execDimmLatchOpen chan s
  | .gmuReply f ecc => Sys2Proof.Machine.execGmuReply f ecc s
  | .replayAfterExpiry entry => Sys2Proof.Machine.execReplayAfterExpiry entry s
  | .abandonAfterExpiry tag => Sys2Proof.Machine.execAbandonAfterExpiry tag s
  | .tagQuarantineEnd tag => Sys2Proof.Machine.execTagQuarantineEnd tag s
  | .streamReset value => Sys2Proof.Machine.execStreamReset value s
  | .reqRead f ecc => Sys2Proof.Machine.execReqRead f ecc s
  | .reqWrite f ecc => Sys2Proof.Machine.execReqWrite f ecc s
  | .reqAtomic f ecc => Sys2Proof.Machine.execReqAtomic f ecc s
  | .reqFence f => Sys2Proof.Machine.execReqFence f s
  | .reqSignal f => Sys2Proof.Machine.execReqSignal f s
  | .reqPdelta f ecc => Sys2Proof.Machine.execReqPdelta f ecc s
  | .reqPclose f => Sys2Proof.Machine.execReqPclose f s
  | .guardParityReplied ctx => Sys2Proof.Machine.execGuardParityReplied ctx s
  | .guardActivate entry => Sys2Proof.Machine.execGuardActivate entry s
  | .guardDeactivate entry => Sys2Proof.Machine.execGuardDeactivate entry s
  | .guardQuiet entry => Sys2Proof.Machine.execGuardQuiet entry s
  | .stripeDemandRebuild entry stripe symbols => Sys2Proof.Machine.execStripeDemandRebuild entry stripe symbols s
  | .linkBlockReceive port block errors train => Sys2Proof.Machine.execLinkBlockReceive port block errors train s
  | .linkReplayTimeout port => Sys2Proof.Machine.execLinkReplayTimeout port s
  | .portLos port light => Sys2Proof.Machine.execPortLos port light s
  | .fecRate port lanes errors => Sys2Proof.Machine.execFecRate port lanes errors s
  | .loopMeasure port => Sys2Proof.Machine.execLoopMeasure port s
  | .trainingStart port => Sys2Proof.Machine.execTrainingStart port s
  | .trainingRetry port => Sys2Proof.Machine.execTrainingRetry port s
  | .portUp port => Sys2Proof.Machine.execPortUp port s
  | .cipherKeyAgreed port cert owner point confirm => Sys2Proof.Machine.execCipherKeyAgreed port cert owner point confirm s
  | .portEnable port => Sys2Proof.Machine.execPortEnable port s
  | .portDisable port => Sys2Proof.Machine.execPortDisable port s
  | .retrain port => Sys2Proof.Machine.execRetrain port s
  | .portSelftest port => Sys2Proof.Machine.execPortSelftest port s
  | .selftestLoopbackDone port passed => Sys2Proof.Machine.execSelftestLoopbackDone port passed s
  | .oeSelftest oe check => Sys2Proof.Machine.execOeSelftest oe check s
  | .elsOutputLoss els => Sys2Proof.Machine.execElsOutputLoss els s
  | .elsPartnerFull els => Sys2Proof.Machine.execElsPartnerFull els s
  | .elsRemove els => Sys2Proof.Machine.execElsRemove els s
  | .elsCancel els => Sys2Proof.Machine.execElsCancel els s
  | .elsRampDone els => Sys2Proof.Machine.execElsRampDone els s
  | .elsInsert els info qualified => Sys2Proof.Machine.execElsInsert els info qualified s
  | .elsStartDone els => Sys2Proof.Machine.execElsStartDone els s
  | .elsLatchOpen els => Sys2Proof.Machine.execElsLatchOpen els s
  | .frameLookup pos f => Sys2Proof.Machine.execFrameLookup pos f s
  | .mcLookup pos f => Sys2Proof.Machine.execMcLookup pos f s
  | .cellMatch => Sys2Proof.Machine.execCellMatch s
  | .frameDeparture egress => Sys2Proof.Machine.execFrameDeparture egress s
  | .fwdAgeExpiry egress => Sys2Proof.Machine.execFwdAgeExpiry egress s
  | .routeCommit value => Sys2Proof.Machine.execRouteCommit value s
  | .flowEnqueue port => Sys2Proof.Machine.execFlowEnqueue port s
  | .tmgPick port => Sys2Proof.Machine.execTmgPick port s
  | .flowCreate value => Sys2Proof.Machine.execFlowCreate value s
  | .flowDelete flow => Sys2Proof.Machine.execFlowDelete flow s
  | .suFrameDeliver ingress f => Sys2Proof.Machine.execSuFrameDeliver ingress f s
  | .suRunStart su => Sys2Proof.Machine.execSuRunStart su s
  | .ecmelNop su => Sys2Proof.Machine.execEcmelNop su s
  | .ecmelEnd su => Sys2Proof.Machine.execEcmelEnd su s
  | .ecmelDrop su => Sys2Proof.Machine.execEcmelDrop su s
  | .brz su => Sys2Proof.Machine.execBrz su s
  | .brnz su => Sys2Proof.Machine.execBrnz su s
  | .movi su => Sys2Proof.Machine.execMovi su s
  | .ecmelAlu su => Sys2Proof.Machine.execEcmelAlu su s
  | .ecmelGet su => Sys2Proof.Machine.execEcmelGet su s
  | .ecmelHdr su => Sys2Proof.Machine.execEcmelHdr su s
  | .ldp su => Sys2Proof.Machine.execLdp su s
  | .padd su => Sys2Proof.Machine.execPadd su s
  | .ohdr su => Sys2Proof.Machine.execOhdr su s
  | .oput su => Sys2Proof.Machine.execOput su s
  | .ocopy su => Sys2Proof.Machine.execOcopy su s
  | .ecmelSend su => Sys2Proof.Machine.execEcmelSend su s
  | .ecmelRsum su => Sys2Proof.Machine.execEcmelRsum su s
  | .ecmelGath su => Sys2Proof.Machine.execEcmelGath su s
  | .ecmelFilt su => Sys2Proof.Machine.execEcmelFilt su s
  | .ecmelMerge su => Sys2Proof.Machine.execEcmelMerge su s
  | .btest su => Sys2Proof.Machine.execBtest su s
  | .bset su => Sys2Proof.Machine.execBset su s
  | .gfmac su => Sys2Proof.Machine.execGfmac su s
  | .ozero su => Sys2Proof.Machine.execOzero su s
  | .guardRun ctx => Sys2Proof.Machine.execGuardRun ctx s
  | .programLoad slot => Sys2Proof.Machine.execProgramLoad slot s
  | .programClear slot => Sys2Proof.Machine.execProgramClear slot s
  | .bind slot ecc => Sys2Proof.Machine.execBind slot ecc s
  | .unbind slot => Sys2Proof.Machine.execUnbind slot s
  | .forceUnbind slot => Sys2Proof.Machine.execForceUnbind slot s
  | .bitmapClear su => Sys2Proof.Machine.execBitmapClear su s
  | .groupSetup ecc => Sys2Proof.Machine.execGroupSetup ecc s
  | .groupDestroy ctx => Sys2Proof.Machine.execGroupDestroy ctx s
  | .groupResume ctx => Sys2Proof.Machine.execGroupResume ctx s
  | .chunkSend ctx ecc => Sys2Proof.Machine.execChunkSend ctx ecc s
  | .contribFrame f op => Sys2Proof.Machine.execContribFrame f op s
  | .resultAssemble ctx target => Sys2Proof.Machine.execResultAssemble ctx target s
  | .resultFrame f => Sys2Proof.Machine.execResultFrame f s
  | .directFrame f => Sys2Proof.Machine.execDirectFrame f s
  | .grantFrame f => Sys2Proof.Machine.execGrantFrame f s
  | .retryFrame f ecc => Sys2Proof.Machine.execRetryFrame f ecc s
  | .doneFrame f => Sys2Proof.Machine.execDoneFrame f s
  | .abortFrame f => Sys2Proof.Machine.execAbortFrame f s
  | .chunkTimeout ctx => Sys2Proof.Machine.execChunkTimeout ctx s
  | .resultTimeout ctx => Sys2Proof.Machine.execResultTimeout ctx s
  | .bpmReserve owner pool n ecc => Sys2Proof.Machine.execBpmReserve owner pool n ecc s
  | .bpmAllocHigh owner pool ecc => Sys2Proof.Machine.execBpmAllocHigh owner pool ecc s
  | .bpmAllocLow owner pool ecc => Sys2Proof.Machine.execBpmAllocLow owner pool ecc s
  | .bpmHandover owner pool buffer taker => Sys2Proof.Machine.execBpmHandover owner pool buffer taker s
  | .bpmFree owner pool buffer => Sys2Proof.Machine.execBpmFree owner pool buffer s
  | .poolInit pool => Sys2Proof.Machine.execPoolInit pool s
  | .poolInitDone pool => Sys2Proof.Machine.execPoolInitDone pool s
  | .poolDisable pool => Sys2Proof.Machine.execPoolDisable pool s
  | .ownerQuery value => Sys2Proof.Machine.execOwnerQuery value s
  | .cvuStart cvu => Sys2Proof.Machine.execCvuStart cvu s
  | .cvuFinish cvu => Sys2Proof.Machine.execCvuFinish cvu s
  | .cvuSuspend cvu fed => Sys2Proof.Machine.execCvuSuspend cvu fed s
  | .cvuResume cvu => Sys2Proof.Machine.execCvuResume cvu s
  | .feed cvu => Sys2Proof.Machine.execFeed cvu s
  | .cvuCancel cvu fed => Sys2Proof.Machine.execCvuCancel cvu fed s
  | .feedDone cvu ecc => Sys2Proof.Machine.execFeedDone cvu ecc s
  | .scanSubmit => Sys2Proof.Machine.execScanSubmit s
  | .scanCancel entry done => Sys2Proof.Machine.execScanCancel entry done s
  | .scanJobStart => Sys2Proof.Machine.execScanJobStart s
  | .scanJobEnd ecc => Sys2Proof.Machine.execScanJobEnd ecc s
  | .startupFill => Sys2Proof.Machine.execStartupFill s
  | .hostFrameReceive hp len udp etype fcsOk toIp toMac neighbour vlan bad => Sys2Proof.Machine.execHostFrameReceive hp len udp etype fcsOk toIp toMac neighbour vlan bad s
  | .rdmaWrite qp psn rkey va data ce => Sys2Proof.Machine.execRdmaWrite qp psn rkey va data ce s
  | .rdmaRead qp psn rkey va length ce => Sys2Proof.Machine.execRdmaRead qp psn rkey va length ce s
  | .rdmaSend qp psn data ce ecc => Sys2Proof.Machine.execRdmaSend qp psn data ce ecc s
  | .rdmaAtomic qp psn rkey va swap operand compare ce => Sys2Proof.Machine.execRdmaAtomic qp psn rkey va swap operand compare ce s
  | .cnp qp => Sys2Proof.Machine.execCnp qp s
  | .rateRaise qp => Sys2Proof.Machine.execRateRaise qp s
  | .ackTimeout qp => Sys2Proof.Machine.execAckTimeout qp s
  | .qpConnect qp => Sys2Proof.Machine.execQpConnect qp s
  | .qpReset qp => Sys2Proof.Machine.execQpReset qp s
  | .ringPoll ring => Sys2Proof.Machine.execRingPoll ring s
  | .ringNop ring => Sys2Proof.Machine.execRingNop ring s
  | .ringLaunch ring ecc => Sys2Proof.Machine.execRingLaunch ring ecc s
  | .ringColl ring ecc => Sys2Proof.Machine.execRingColl ring ecc s
  | .ringPower ring => Sys2Proof.Machine.execRingPower ring s
  | .ringPoolFree ring => Sys2Proof.Machine.execRingPoolFree ring s
  | .ringCompletion ring n => Sys2Proof.Machine.execRingCompletion ring n s
  | .ringStart ring => Sys2Proof.Machine.execRingStart ring s
  | .ringStop ring => Sys2Proof.Machine.execRingStop ring s
  | .fwdOutbound f => Sys2Proof.Machine.execFwdOutbound f s
  | .fwdInbound hp bytes => Sys2Proof.Machine.execFwdInbound hp bytes s
  | .mirrorOut => Sys2Proof.Machine.execMirrorOut s
  | .cdpRead m => Sys2Proof.Machine.execCdpRead m s
  | .cdpWrite m fed reachable ecc => Sys2Proof.Machine.execCdpWrite m fed reachable ecc s
  | .describe m => Sys2Proof.Machine.execDescribe m s
  | .cdpNext m => Sys2Proof.Machine.execCdpNext m s
  | .nvWrite m => Sys2Proof.Machine.execNvWrite m s
  | .nvErase m => Sys2Proof.Machine.execNvErase m s
  | .sessionOpen m => Sys2Proof.Machine.execSessionOpen m s
  | .sessionFinish m => Sys2Proof.Machine.execSessionFinish m s
  | .sessionClose m => Sys2Proof.Machine.execSessionClose m s
  | .imageWrite m => Sys2Proof.Machine.execImageWrite m s
  | .cdpIdleExpiry session => Sys2Proof.Machine.execCdpIdleExpiry session s
  | .sessionFinishTimeout session => Sys2Proof.Machine.execSessionFinishTimeout session s
  | .nvBankErase => Sys2Proof.Machine.execNvBankErase s
  | .nvBankEraseDone => Sys2Proof.Machine.execNvBankEraseDone s
  | .nvVerify => Sys2Proof.Machine.execNvVerify s
  | .nvActivate => Sys2Proof.Machine.execNvActivate s
  | .heartbeatSend => Sys2Proof.Machine.execHeartbeatSend s
  | .heartbeatMsg f => Sys2Proof.Machine.execHeartbeatMsg f s
  | .heartbeatMiss dev => Sys2Proof.Machine.execHeartbeatMiss dev s
  | .probeRelayTimeout dev => Sys2Proof.Machine.execProbeRelayTimeout dev s
  | .probeFailTimeout dev => Sys2Proof.Machine.execProbeFailTimeout dev s
  | .probeMsg f => Sys2Proof.Machine.execProbeMsg f s
  | .probeAckMsg f => Sys2Proof.Machine.execProbeAckMsg f s
  | .reportSend => Sys2Proof.Machine.execReportSend s
  | .reportMsg f scratched => Sys2Proof.Machine.execReportMsg f scratched s
  | .scoreWindowEnd => Sys2Proof.Machine.execScoreWindowEnd s
  | .suspectMsg f => Sys2Proof.Machine.execSuspectMsg f s
  | .clearedMsg f => Sys2Proof.Machine.execClearedMsg f s
  | .lostMsg f => Sys2Proof.Machine.execLostMsg f s
  | .marshalFenceMsg f => Sys2Proof.Machine.execMarshalFenceMsg f s
  | .stepAckMsg f => Sys2Proof.Machine.execStepAckMsg f s
  | .stepTimeout => Sys2Proof.Machine.execStepTimeout s
  | .relayMsg f rest => Sys2Proof.Machine.execRelayMsg f rest s
  | .rerouteMsg f => Sys2Proof.Machine.execRerouteMsg f s
  | .relayedMsg f => Sys2Proof.Machine.execRelayedMsg f s
  | .rebuiltMsg f => Sys2Proof.Machine.execRebuiltMsg f s
  | .helloSend => Sys2Proof.Machine.execHelloSend s
  | .helloMsg port f => Sys2Proof.Machine.execHelloMsg port f s
  | .assignMsg f => Sys2Proof.Machine.execAssignMsg f s
  | .managerChangeMsg f => Sys2Proof.Machine.execManagerChangeMsg f s
  | .guardSyncMsg f => Sys2Proof.Machine.execGuardSyncMsg f s
  | .restQueryMsg f => Sys2Proof.Machine.execRestQueryMsg f s
  | .restAnswerMsg f => Sys2Proof.Machine.execRestAnswerMsg f s
  | .restQueryRetry dev => Sys2Proof.Machine.execRestQueryRetry dev s
  | .marshalAdmit => Sys2Proof.Machine.execMarshalAdmit s
  | .spareReady dev => Sys2Proof.Machine.execSpareReady dev s
  | .marshalScratch dev => Sys2Proof.Machine.execMarshalScratch dev s
  | .takeManager reachable => Sys2Proof.Machine.execTakeManager reachable s
  | .guardStripeRebuild entry symbols checks => Sys2Proof.Machine.execGuardStripeRebuild entry symbols checks s
  | .scratchNow => Sys2Proof.Machine.execScratchNow s
  | .inputDip low ns after => Sys2Proof.Machine.execInputDip low ns after s
  | .ovWarn volts ns => Sys2Proof.Machine.execOvWarn volts ns s
  | .tripUv volts ns => Sys2Proof.Machine.execTripUv volts ns s
  | .tripOv volts ns => Sys2Proof.Machine.execTripOv volts ns s
  | .tripRestart volts ns => Sys2Proof.Machine.execTripRestart volts ns s
  | .powerOn => Sys2Proof.Machine.execPowerOn s
  | .aopFloor volts => Sys2Proof.Machine.execAopFloor volts s
  | .reverseBlock => Sys2Proof.Machine.execReverseBlock s
  | .reverseConduct => Sys2Proof.Machine.execReverseConduct s
  | .governorUpdate volts amps power demand => Sys2Proof.Machine.execGovernorUpdate volts amps power demand s
  | .thermalLimit sensor unit reading => Sys2Proof.Machine.execThermalLimit sensor unit reading s
  | .loopLost loop flow => Sys2Proof.Machine.execLoopLost loop flow s
  | .stageRemove stage => Sys2Proof.Machine.execStageRemove stage s
  | .stageCancel stage => Sys2Proof.Machine.execStageCancel stage s
  | .stageSafe stage volts => Sys2Proof.Machine.execStageSafe stage volts s
  | .stageInsert stage info qualified => Sys2Proof.Machine.execStageInsert stage info qualified s
  | .stageFail stage => Sys2Proof.Machine.execStageFail stage s
  | .powerRun => Sys2Proof.Machine.execPowerRun s
  | .powerHold => Sys2Proof.Machine.execPowerHold s
  | .powerRest => Sys2Proof.Machine.execPowerRest s
  | .powerDeepRest => Sys2Proof.Machine.execPowerDeepRest s
  | .restAbortPoint => Sys2Proof.Machine.execRestAbortPoint s
  | .restEntered => Sys2Proof.Machine.execRestEntered s
  | .deepRestPermit => Sys2Proof.Machine.execDeepRestPermit s
  | .wakeDone => Sys2Proof.Machine.execWakeDone s
  | .warmReset => Sys2Proof.Machine.execWarmReset s
  | .unitResetCore core => Sys2Proof.Machine.execUnitResetCore core s
  | .unitResetSu su => Sys2Proof.Machine.execUnitResetSu su s
  | .unitResetCvu cvu => Sys2Proof.Machine.execUnitResetCvu cvu s
  | .unitResetHostPort hp => Sys2Proof.Machine.execUnitResetHostPort hp s
  | .resetNAssert ns => Sys2Proof.Machine.execResetNAssert ns s
  | .resetNRelease ns => Sys2Proof.Machine.execResetNRelease ns s
  | .boot bays => Sys2Proof.Machine.execBoot bays s
  | .commission => Sys2Proof.Machine.execCommission s
  | .decommission owner => Sys2Proof.Machine.execDecommission owner s
  | .keysCmd owner => Sys2Proof.Machine.execKeysCmd owner s
  | .rollbackCommit owner => Sys2Proof.Machine.execRollbackCommit owner s
  | .svnCommit owner => Sys2Proof.Machine.execSvnCommit owner s
  | .fwErase => Sys2Proof.Machine.execFwErase s
  | .fwVerify => Sys2Proof.Machine.execFwVerify s
  | .fwActivate => Sys2Proof.Machine.execFwActivate s
  | .attest => Sys2Proof.Machine.execAttest s
  | .extendMr reg digest => Sys2Proof.Machine.execExtendMr reg digest s
  | .smbusBlockRead addr ga code write pec => Sys2Proof.Machine.execSmbusBlockRead addr ga code write pec s
  | .sidebandUpdate status temps => Sys2Proof.Machine.execSidebandUpdate status temps s
  | .registerWrite obj index offset data => Sys2Proof.Machine.execRegisterWrite obj index offset data s
  | .lightReturns port => Sys2Proof.Machine.execLightReturns port s
  | .trainingCheckExpiry port light lock other errors => Sys2Proof.Machine.execTrainingCheckExpiry port light lock other errors s
  | .stageLatchOpen stage => Sys2Proof.Machine.execStageLatchOpen stage s
  | .osfpInsert hp medium watts => Sys2Proof.Machine.execOsfpInsert hp medium watts s
  | .osfpRemove hp => Sys2Proof.Machine.execOsfpRemove hp s
  | .hostPortUp hp => Sys2Proof.Machine.execHostPortUp hp s
  | .hostPortDown hp => Sys2Proof.Machine.execHostPortDown hp s
  | .acknowledgement qp psn code data => Sys2Proof.Machine.execAcknowledgement qp psn code data s
  | .fwEraseDone => Sys2Proof.Machine.execFwEraseDone s
  | .internalFault fabric => Sys2Proof.Machine.execInternalFault fabric s
  | .inletHigh temp ns => Sys2Proof.Machine.execInletHigh temp ns s

end Sys2Proof.Machine
end

