-- ==== Sys2Proof/Machine/Tick.lean ====
section
/-! DEFINITION. One tick of the reference counter, which the step takes when no command waits (R9, R80; log entry 6). -/

namespace Sys2Proof.Machine

/-- The strides that the next tick brings at a rate in units of 0.01 a tick, so that `n` ticks bring the whole part of `n`
times the rate. -/
def rateStep (rate now : Nat) : Nat := rate * (now + 1) / 100 - rate * now / 100

/-- The strides a clock gains in one tick, which the spec leaves open between 1.55 and 2.15 Gst/s (R7, R80; log entry 6). -/
def State.tickStrides (s : State) (k : Nat) : Nat :=
  rateStep 155 s.now + s.draw k % (rateStep 215 s.now - rateStep 155 s.now + 1)

/-- The stride at which the paced head of a core dispatches (R86), if nothing but time holds it. -/
def State.tickDispatch (s : State) (n : Nat) : Option Nat :=
  match (s.core n).paced with
  | [] => none
  | q :: _ => if s.headReady n q.engine then (s.dispatchStride n q).2 else none

/-- A core's strides in one tick, less those by which its commands have carried it ahead, up to the next thing that is due. -/
def State.tickCore (n : Nat) (s : State) : State :=
  if s.hasCore n && !s.scratched && decide (s.power < 2) then
    let d := s.tickStrides n
    let c := s.core n
    let s := s.setCore n { c with ahead := c.ahead - d }
    let t := s.stride n + (d - c.ahead)
    let cap (b : Option Nat) (t : Nat) : Nat := match b with | some x => min x t | none => t
    s.runTo n (max (s.stride n) (cap (s.nextExpiry n) (cap (s.tickDispatch n) (cap (s.core n).nextDue t))))
  else s

/-- A Rake engine's strides in one tick (R149), up to the start of the next service and to the next result. -/
def State.tickRake (m : Nat) (s : State) : State :=
  if s.hasRake m && !s.scratched && decide (s.power < 2) then
    let r := s.rke m
    let d := s.tickStrides (96 + m)
    let t := r.stride + (d - r.ahead)
    let t := match r.queue.head? with | some j => min t (r.startStride j) | none => t
    s.setRke m { r with stride := max r.stride (r.runs.foldl (fun t x => min t x.due) t), ahead := r.ahead - d }
  else s

/-- The bytes that the start-up fill covers (R387). -/
def State.fillTotal (s : State) : Nat :=
  2 ^ 28 + if s.hasCompute then 8 * 2 ^ 26 + (((List.range 96).filter s.hasCore).length) * 2 ^ 24
    + ((List.range 8).map s.partition).sum else 0

/-- How far the start-up fill has come after one tick more (R387, R390): its rate the spec leaves open. -/
def State.fillStep (s : State) : State :=
  if s.boot = .fill then
    let n := s.fld Obj.scanInternal 0 64 64
    s.wrFld Obj.scanInternal 0 64 64 (n + s.draw 200 % (s.fillTotal - n + 1))
  else s

/-- One tick of the reference counter. What must have ended before it ends first: a hold that has reached its bound (R170) and
a window of the stride rates (R80). -/
def State.tick (s : State) : State :=
  let s := s.holdsEnd.rateWindowEnd.fillStep.cleInject
  let s := (foldUp State.tickRake 0 48 (foldUp State.tickCore 0 96 s)).drawn
  { s with now := s.now + 1 }

end Sys2Proof.Machine
end

