-- ==== Sys2Proof/Safety.lean ====
section
/-! DEFINITION. What a sound state is: the invariant that statements about every step use; and the conditions, on the
state and the operands alone, under which a command of a core's stream issues. -/

namespace Sys2Proof

open Machine

/-- Memory and the object store are in their canonical forms: keys strictly rising, nothing listed that an unlisted key
would read as. -/
def Sound (s : State) : Prop := Memory.wf s.mem = true ∧ KMap.wf factoryKey s.objs = true

/-- Every entry of an object that is not in the list reads in `t` as it did in `s`. -/
def SameObjects (s t : State) (os : List ObjCode) : Prop := ∀ o i, o ∉ os → t.rd o i = s.rd o i

/-- The sequencer of core `n` can issue the word `w`, a command `op`, in the present stride (R82, R84): the core runs, the
word stands at the issue position of its stream, it passes the checks, and no earlier command is still being issued. -/
abbrev CanIssue (s : State) (op : CoreOp) (n w : Nat) : Prop :=
  n < 96 ∧ s.coreCanRun n = true ∧ s.coreState n = 1 ∧ (s.core n).stop = .running ∧ (s.core n).sq = none
    ∧ s.position n < (s.core n).streamLen ∧ s.fetch n (s.position n) = some w ∧ CoreOp.of w = some op
    ∧ checkCommand w (s.enabled n w) (s.hasRake (n / 2)) (s.core n) = none ∧ s.issueStride n op w ≤ s.stride n

/-- The flag that the WAIT_SEL of a word names, if it names one, is not zero (R81, R96). -/
abbrev WaitOver (s : State) (n w : Nat) : Prop := waitSel w = 0 ∨ s.flag n (waitSel w) ≠ 0

/-- A core's state after the wait of a sequencer command's WAIT_SEL has taken its one (R92). -/
def afterWait (s : State) (n w : Nat) : State := if waitSel w = 0 then s else s.waitSelOver n (waitSel w)

/-- A core's state after the wait of the WAIT_SEL of a command at the head of an engine queue has taken its one (R92, R96). -/
def afterHeadWait (s : State) (n w : Nat) : State := if waitSel w = 0 then s else s.takeFlag n (waitSel w) 1

/-- A sequencer command finishes issuing: the ordinal goes up by one, the position becomes `next`, and the post of its
POST_SEL takes place (R84, R94). -/
def finishSq (u s : State) (n w next : Nat) : State :=
  (u.issued n (s.position n) next (s.ordinal n + 1)).post n w (s.position n) (s.ordinal n + 1)

/-- The GMU of this module takes a request frame of operation `op` (R183, R185, R38, R496). -/
abbrev TakesRequest (s : State) (op : Nat) (f : Frame) : Prop :=
  s.devId ≠ 0xFFFF ∧ s.scratched = false ∧ f.op = op ∧ f.dest = s.devId ∧ s.power ≠ 3 ∧ s.hasCompute = true
    ∧ s.memClosed = false

/-- An ordered request comes in its turn at a context bound to its source and stream, where nothing waits (R194). -/
abbrev InTurn (s : State) (f : Frame) : Prop :=
  f.ordered = true ∧ (s.dst f.stream).store = none ∧ s.parked f.stream = false ∧
    s.fld Obj.dstStreams f.stream 0 1 = 1 ∧ s.fld Obj.dstStreams f.stream 16 16 = f.src ∧
    s.fld Obj.dstStreams f.stream 64 8 = f.gen ∧ s.fld Obj.dstStreams f.stream 32 32 = f.seq ∧ s.mustWait f = false ∧
    s.guardStoreOf f = none

/-- What a reply does at its requester once the request it answers has left the outstanding ones: `s` is the state with
the lateness of the reply counted, `e` the outcome of the reads that its bytes merge with (R26, R160, R192, R195, R200). -/
def afterReply (s : State) (r : GReq) (f : Frame) (e : Ecc) : State :=
  let u := ({ s with sent := s.sent.erase r }).endReq r f.status f.payload e
  (if r.ord ∧ u.srcState r.entry ≠ 0 then
    if r.op = 4 ∧ r.release ∧ f.status = 0 then u.freeSrc r.entry else u.ackMoved r.entry
  else u).pump

/-- The next instruction of the run on stream unit `u` is the word `w` with opcode `op`, within the run's budget (R311). -/
abbrev NextEcmel (s : State) (u op : Nat) (r : SuRun) (w : Nat) : Prop :=
  u < 32 ∧ (s.su u).run = some r ∧ imageInstr (s.rd Obj.programText r.slot) r.pc = w ∧ ecOp w = op ∧
    s.scratched = false ∧ r.executed < 64 * cellsOf r.frame.plen

/-- The run on a stream unit has executed one instruction more, stands at the next one, and `c` cycles are counted
(R311, R315). -/
def ecmelGoesOn (s : State) (u : Nat) (r : SuRun) (c : Nat) : State :=
  s.setSu u { s.su u with run := some { r with executed := r.executed + 1, pc := r.pc + 1, cycles := r.cycles + c } }

/-- The same after an instruction of one cycle that writes `v` to register `d` (R305, R315). -/
def ecmelWrites (s : State) (u : Nat) (r : SuRun) (d v : Nat) : State :=
  let a := s.setReg u { r with executed := r.executed + 1 } d v
  a.1.setSu u { a.1.su u with run := some { a.2 with pc := r.pc + 1, cycles := r.cycles + 1 } }

/-- From `s` to `t` a run on stream unit `u` has executed one instruction of one cycle that writes `v` to register `d`: the
other registers, all else of the run and of the unit, and all else of the module are as before (R305, R315). -/
def WritesRegister (s t : State) (u : Nat) (r : SuRun) (d v : Nat) : Prop :=
  ∃ r', (t.su u).run = some r' ∧ { r' with regs := r.regs, pc := r.pc, executed := r.executed, cycles := r.cycles } = r ∧
    r'.pc = r.pc + 1 ∧ r'.executed = r.executed + 1 ∧ r'.cycles = r.cycles + 1 ∧
    (∀ g, g < 64 → r'.reg (t.su u).kept g = if g = d ∧ d ≠ 0 then v % 2 ^ 64 else r.reg (s.su u).kept g) ∧
    { t.su u with run := (s.su u).run, kept := (s.su u).kept } = s.su u ∧ (∀ x, x ≠ u → t.su x = s.su x) ∧
    { t with sus := s.sus } = s

/-- The command `w`, number `n`, at the front of ring `r` may start (R407, R408): it is well formed, and a FENCE finds no
command still running. -/
abbrev RingHead (s : State) (r n w : Nat) (rest : List (Nat × Nat)) : Prop :=
  r < 64 ∧ (s.hostRing r).queue = (n, w) :: rest ∧ (w.testBit 8 = true → (s.hostRing r).runs = []) ∧ s.scratched = false ∧
    ringCommandOk w = true

/-- The ring's command has started and waits for `wait` (R408, R409): it has left the commands read and joined those that run. -/
def ringStarted (u : State) (r n w : Nat) (rest : List (Nat × Nat)) (wait : RingWait) : State :=
  u.setHostRing r { u.hostRing r with
    queue := rest, runs := (u.hostRing r).runs ++ [⟨n, ringOp w, bits w 32 32, wait, (u.hostRing r).silent⟩] }

/-- A packet for queue pair `q` comes with the PSN it expects, on a queue pair that is READY, and without an ECN mark
(R394, R404). -/
abbrev FreshPacket (s : State) (q psn : Nat) : Prop := q < 512 ∧ s.qpState q = 1 ∧ s.psnPlace q psn = 0

/-- A CDP request that an open session may make (R416, R417, R422, R423, R510): it arrives, keeps the form, carries the tag of
session `x`, and its SEQ is new. -/
abbrev OpenRequest (s : State) (m : CdpMsg) (x : Session) : Prop :=
  s.cdpArrives m = true ∧ m.room = true ∧ bits m.hdr 240 16 = 0xCD50 ∧ s.session m.session = some x ∧ x.finished = true ∧
    tagRight m x = true ∧ msgFormed m = true ∧ x.high < m.seq ∧ (x.factory = true → factoryMay m = true)

/-- The state in which such a request is performed: its session has its time and SEQ, and the request is counted (R422, R423,
R439). -/
def requestTaken (s : State) (m : CdpMsg) (x : Session) : State :=
  ((s.setSession m.session (some { x with last := s.now })).setSession m.session
    (some { x with last := s.now, high := m.seq })).cdpCount 0

/-- A message of the manager, of a type and of the epoch in force, reaches a module that takes part and is not the manager
(R450). -/
abbrev FromManager (s : State) (f : Frame) (mtype : Nat) : Prop :=
  s.message f mtype = true ∧ msgRole f = 1 ∧ msgEpoch f = s.epoch ∧ s.isManager = false

/-- It is the message of a step of the recovery epoch that this module has not done yet (R460). -/
abbrev StepFrom (s : State) (f : Frame) (mtype step subject : Nat) : Prop :=
  FromManager s f mtype ∧ msgStep f = step ∧ s.marshal.done.contains (step * 2 ^ 16 + subject) = false

/-- The state in which a step's message is acted on: C300.01 shows the step (R460, R475). -/
def inStep (s : State) (step : Nat) : State := s.wrFld Obj.recoveryState 0 32 8 step

/-- The step has been done in state `u`: it is remembered, and acknowledged to the manager (R460). -/
def stepTaken (u : State) (step subject : Nat) : State :=
  (u.setMarshal { u.marshal with done := (step * 2 ^ 16 + subject) :: u.marshal.done }).stepAck step subject 0

end Sys2Proof
end

