-- ==== Sys2Proof/Certificates/Slice0/Obligations.lean ====
section
/-! DEFINITION. What the model is claimed to satisfy, for the provers: completion and results of every command, what each leaves
unchanged, and the invariants of every step. -/

open Sys2Proof Sys2Proof.Machine

/-- A step runs the command at the front of the queue; with no command waiting one tick passes. From
spec/14_host_attachment_and_dictionary.md R424; spec/95_what_each_step_holds.md. Readings and choices of the model:
log entry 6. -/
def Obligations.StepRunsTheFrontCommand : Prop :=
  ∀ (s : State) (c : Instr) (rest : List Instr),
    step { s with pending := c :: rest } = exec c { s with pending := rest } ∧ step { s with pending := [] } = .next ({ s with pending := [] }.tick)

/-- The state after reset is sound, and its units, queue and record are as reset leaves them. From
spec/16_power_energy_states_resets.md R499, R502; spec/01_module_overview.md R40. Readings and choices of the model:
log entries 2, 15, 39. -/
def Obligations.ResetStateIsSound : Prop :=
  Sound State.reset ∧ State.reset.pending = [] ∧ State.reset.out = [] ∧ State.reset.mem = [] ∧ State.reset.service = 0 ∧
    State.reset.devId = 0xFFFF ∧ State.reset.power = 0 ∧ State.reset.scratched = false ∧ State.reset.powerEntry = none ∧
    State.reset.powerWake = [] ∧ State.reset.rd Obj.lastReset 0 = 1 ∧
    (∀ n, n < 96 → State.reset.coreState n = 0 ∧ State.reset.core n = CoreSt.init ∧ ∀ f, f < 256 → State.reset.flag n f = 0)

/-- Every step keeps memory and the object store in their canonical forms. From spec/16_power_energy_states_resets.md
R502; spec/00_scope.md R11. Readings and choices of the model: log entry 2. -/
def Obligations.EveryStepKeepsTheStateSound : Prop :=
  ∀ (s t : State), Sound s → step s = .next t → Sound t

/-- Every step takes one command, keeps the identity of the module, and only adds to what has been sent. From
spec/00_scope.md R2; spec/14_host_attachment_and_dictionary.md R424. Readings and choices of the model: log entries 6,
16. -/
def Obligations.EveryStepKeepsQueueIdentityAndRecord : Prop :=
  ∀ (s t : State), step s = .next t →
    t.ident = s.ident ∧ s.out <+: t.out ∧
    (∀ c rest, s.pending = c :: rest → t.pending = rest ∧ t.now = s.now) ∧
    (s.pending = [] → t.pending = [] ∧ t.now = s.now + 1 ∧ (s.heldReqs = [] → t.mem = s.mem ∧ t.scratched = s.scratched))

/-- Every well-formed command answers a next state, in every state. From spec/00_scope.md R2;
spec/95_what_each_step_holds.md. Readings and choices of the model: log entry 5. -/
def Obligations.EveryWellFormedCommandCompletes : Prop :=
  ∀ (c : Instr) (s : State), c.wf = true → ∃ t, exec c s = .next t

/-- Whatever the command, a scratched module stays scratched unless it restarts without a rank. From
spec/01_module_overview.md R38, R39; spec/16_power_energy_states_resets.md R501. Readings and choices of the model:
log entry 15. -/
def Obligations.ScratchIsLeftOnlyByAReset : Prop :=
  ∀ (c : Instr) (s t : State), s.scratched = true → s.powerEntry = none → s.powerWake = [] → exec c s = .next t →
    t.powerEntry = none ∧ t.powerWake = [] ∧
      (t.scratched = true ∨
        (t.boot ∈ [Boot.off, .held, .rom, .aop] ∧ t.service = 0 ∧ t.devId = 0xFFFF ∧ t.cores = [] ∧ t.frames = [] ∧ t.sent = []))

/-- A scratch records its cause, ends what the units have in flight, and stops compute and forwarding. From
spec/01_module_overview.md R38, R40; spec/14_host_attachment_and_dictionary.md R404; spec/11_stream_programs.md R320;
spec/13_buffer_pools_and_check_values.md R388; spec/16_power_energy_states_resets.md R502. Readings and choices of the
model: log entries 5, 58. -/
def Obligations.ScratchStopsTheModule : Prop :=
  ∀ (s : State) (cause : Nat), cause < 7 →
    let t := s.scratch cause
    t.service = 2 ∧ t.mem = s.mem ∧ t.cores = s.cores ∧ t.now = s.now ∧
    (∀ k, k < 16 → t.fld Obj.scratchCause 0 k 1 = if k = cause then 1 else s.fld Obj.scratchCause 0 k 1) ∧
    (s.scratched = false → t.rd Obj.scratchTime 0 = s.now % 2 ^ 64 ∧ t.frames = [] ∧ t.copies = [] ∧ t.waiting = [] ∧ t.sent = [] ∧
      t.heldReqs = [] ∧ t.sus = [] ∧ t.cvus = [] ∧ t.scanJobs = [] ∧ t.dimmCopy = none ∧ t.powerEntry = none ∧ t.powerWake = [] ∧
      (∀ q, q < 512 → t.qpState q ≠ 1)) ∧
    (s.scratched = true → t.rd Obj.scratchTime 0 = s.rd Obj.scratchTime 0 ∧ t.frames = s.frames ∧ t.copies = s.copies ∧
      t.sus = s.sus ∧ t.out = s.out) ∧
    (∀ n, n < 96 → exec (.nop n) t = .next t ∧ exec (.mma n) t = .next t ∧ (∀ e, exec (.pacedDispatch n e) t = .next t) ∧
      (∀ e, exec (.pacedResult n e) t = .next t) ∧ exec (.waitLimit n) t = .next t) ∧
    (∀ egress, egress < 80 → exec (.frameDeparture egress) t = .next t)

/-- Every sequencer command that can issue with a true predicate completes with the effect of its row. From
spec/03_core_sequencer.md R84, R85, R89, R90, R91, R92, R94, R96. Readings and choices of the model: log entries 46,
84. -/
def Obligations.SequencerCommandsTakeEffect : Prop :=
  ∀ (s : State) (n w : Nat), WaitOver s n w → s.enabled n w = true →
    let u := afterWait s n w
    let pos := s.position n
    let ord := s.ordinal n + 1
    (CanIssue s .nop n w → exec (.nop n) s = .next (finishSq u s n w (pos + 1))) ∧
    (CanIssue s .end_ n w → exec (.sqEnd n) s = .next (finishSq (u.stopIssue n .ended pos ord) s n w (pos + 1))) ∧
    (CanIssue s .pace n w → exec (.pace n) s =
      .next (finishSq (u.setCore n { u.core n with paceGap := max (u.core n).paceGap (bits w 0 12) }) s n w (pos + 1))) ∧
    (CanIssue s .wait n w → bits w 16 32 ≤ u.flag n (bits w 0 12) → exec (.wait n) s =
      .next (finishSq (if w.testBit 12 then u else u.takeFlag n (bits w 0 12) (bits w 16 32)) s n w (pos + 1))) ∧
    (CanIssue s .post n w → exec (.post n) s =
      .next (finishSq (u.addFlag n (bits w 0 12) (bits w 16 32) (some (pos, ord))) s n w (pos + 1))) ∧
    (CanIssue s .flagset n w → exec (.flagset n) s =
      .next (finishSq (u.flagSet n (bits w 0 12) (bits w 16 32) pos ord) s n w (pos + 1))) ∧
    (CanIssue s .pset n w → exec (.pset n) s =
      .next (finishSq (u.setPred n (bits w 0 4) ((u.rd Obj.summarySlots (8 * n + bits w 4 3)).testBit (bits w 8 5))) s n w
        (pos + 1))) ∧
    (CanIssue s .plogic n w → exec (.plogic n) s =
      .next (finishSq (u.setPred n (bits w 0 4)
        (match bits w 12 2 with
          | 0 => u.pred n (bits w 4 4) && u.pred n (bits w 8 4)
          | 1 => u.pred n (bits w 4 4) || u.pred n (bits w 8 4)
          | 2 => u.pred n (bits w 4 4) != u.pred n (bits w 8 4)
          | _ => u.pred n (bits w 4 4) && !u.pred n (bits w 8 4))) s n w (pos + 1))) ∧
    (CanIssue s .skip n w → pos + 1 + bits w 0 12 < (s.core n).streamLen →
      exec (.skip n) s = .next (finishSq u s n w (pos + 1 + bits w 0 12))) ∧
    (CanIssue s .lapset n w → exec (.lapset n) s =
      .next (finishSq (u.setLap n (bits w 0 2) (bits w 8 24)) s n w (pos + 1))) ∧
    (CanIssue s .lap n w → u.lap n (bits w 0 2) = 0 → exec (.lap n) s = .next (finishSq u s n w (pos + 1))) ∧
    (CanIssue s .lap n w → u.lap n (bits w 0 2) ≠ 0 → bits w 12 12 ≤ pos → exec (.lap n) s =
      .next (finishSq (u.setLap n (bits w 0 2) (u.lap n (bits w 0 2) - 1)) s n w (pos - bits w 12 12))) ∧
    (CanIssue s .drain n w → (u.core n).drained = true → exec (.drain n) s = .next (finishSq u s n w (pos + 1))) ∧
    (CanIssue s .mark n w → exec (.mark n) s =
      .next (finishSq (u.wrFld Obj.haltRecord n 192 32 (bits w 0 32)) s n w (pos + 1)))

/-- A SKIP or LAP out of the stream halts, a WAIT or DRAIN that must wait stays, and a void command only waits and
posts. From spec/03_core_sequencer.md R84, R85, R89, R90, R91, R106. Readings and choices of the model: log entries
46, 84. -/
def Obligations.SequencerCommandsHaltWaitOrStayVoid : Prop :=
  (∀ (s : State) (n w : Nat), WaitOver s n w → s.enabled n w = true →
     let u := afterWait s n w
     let pos := s.position n
     let ord := s.ordinal n + 1
     (CanIssue s .skip n w → (s.core n).streamLen ≤ pos + 1 + bits w 0 12 →
       exec (.skip n) s = .next (u.haltCore n 0x12 4 pos ord)) ∧
     (CanIssue s .lap n w → u.lap n (bits w 0 2) ≠ 0 → pos < bits w 12 12 → exec (.lap n) s =
       .next ((u.setLap n (bits w 0 2) (u.lap n (bits w 0 2) - 1)).haltCore n 0x12 4 pos ord)) ∧
     (CanIssue s .wait n w → u.flag n (bits w 0 12) < bits w 16 32 → ∃ t, exec (.wait n) s = .next t ∧
       t.position n = pos ∧ t.ordinal n = s.ordinal n ∧ t.flag n (bits w 0 12) = u.flag n (bits w 0 12)) ∧
     (CanIssue s .drain n w → (u.core n).drained = false → ∃ t, exec (.drain n) s = .next t ∧
       t.position n = pos ∧ t.ordinal n = s.ordinal n)) ∧
  (∀ p ∈ [(Instr.nop, CoreOp.nop), (Instr.sqEnd, CoreOp.end_), (Instr.pace, CoreOp.pace), (Instr.wait, CoreOp.wait),
       (Instr.post, CoreOp.post), (Instr.flagset, CoreOp.flagset), (Instr.pset, CoreOp.pset),
       (Instr.plogic, CoreOp.plogic), (Instr.skip, CoreOp.skip), (Instr.lapset, CoreOp.lapset), (Instr.lap, CoreOp.lap),
       (Instr.drain, CoreOp.drain), (Instr.mark, CoreOp.mark)],
     ∀ (s : State) (n w : Nat), CanIssue s p.2 n w → WaitOver s n w → s.enabled n w = false →
       exec (p.1 n) s = .next (finishSq (afterWait s n w) s n w (s.position n + 1)))

/-- Every command of an engine that can issue enters the queue of its engine, in order. From spec/03_core_sequencer.md
R81, R83, R84; spec/04_matrix_and_vector_engines.md R113. -/
def Obligations.EngineCommandsEnterTheirQueue : Prop :=
  ∀ p ∈ [(Instr.mma, CoreOp.mma), (Instr.mout, CoreOp.mout), (Instr.mpart, CoreOp.mpart), (Instr.mclr, CoreOp.mclr),
      (Instr.vop, CoreOp.vop), (Instr.vcmp, CoreOp.vcmp), (Instr.vfunc, CoreOp.vfunc), (Instr.vred, CoreOp.vred),
      (Instr.vcvt, CoreOp.vcvt), (Instr.vwiden, CoreOp.vwiden), (Instr.vld, CoreOp.vld), (Instr.vst, CoreOp.vst),
      (Instr.vbmp, CoreOp.vbmp), (Instr.rake, CoreOp.rake), (Instr.rmask, CoreOp.rmask), (Instr.seta, CoreOp.seta),
      (Instr.load, CoreOp.load), (Instr.store, CoreOp.store), (Instr.copy, CoreOp.copy), (Instr.atom, CoreOp.atom),
      (Instr.fence, CoreOp.fence), (Instr.signal, CoreOp.signal), (Instr.coll, CoreOp.coll)],
    ∀ (s : State) (n w : Nat), CanIssue s p.2 n w → (s.core n).room (engineOf w) = true →
      let c := s.core n
      let e := engineOf w
      let q : QCmd := { engine := e, word := w, ord := s.ordinal n + 1, pos := s.position n,
                        void := !s.enabled n w, gap := c.paceGap, waited := 0 }
      let d := if s.enabled n w then chainIssue p.2 w c else c
      exec (p.1 n) s = .next
        ((s.setCore n
          (if e = 3 then { d with lde := d.lde ++ [q] }
            else if e = 5 then { d with fxe := d.fxe ++ [q] }
            else { d with paced := d.paced ++ [q], paceGap := 1 })).issued n (s.position n) (s.position n + 1)
              (s.ordinal n + 1))

/-- The head of a queue dispatches when its wait is over: it leaves the queue and starts, or posts if it is void. From
spec/03_core_sequencer.md R78, R85, R86, R94, R96; spec/16_power_energy_states_resets.md R483. Readings and choices of
the model: log entries 8, 10, 77. -/
def Obligations.QueueHeadsDispatch : Prop :=
  (∀ (s : State) (core engine : Nat) (ecc : Ecc) (q : QCmd) (rest : List QCmd),
     core < 96 → (engine = 3 ∨ engine = 5) → s.coreCanRun core = true → s.coreLive core = true →
     (s.core core).engineQueue engine = q :: rest → s.headReady core engine = true →
     s.waiting.any (fun r => r.lane == 2 * core + b2n (engine == 5)) = false →
     let u := afterHeadWait s core q.word
     let v := u.setCore core
       (if engine = 3 then { u.core core with lde := rest } else { u.core core with fxe := rest })
     exec (.queueDispatch core engine ecc) s = .next (v.queueRun core q ecc) ∧
     (q.void = true → exec (.queueDispatch core engine ecc) s = .next (v.post core q.word q.pos q.ord)) ∧
     (q.void = false → CoreOp.of q.word = some .seta → bits q.word 92 4 < (s.core core).areg.length →
       ∃ t, exec (.queueDispatch core engine ecc) s = .next t ∧ t.areg core (bits q.word 92 4) = bits q.word 28 64)) ∧
  (∀ (s : State) (core free d : Nat) (ecc : Ecc) (q : QCmd) (rest : List QCmd),
     core < 96 → s.coreCanRun core = true → s.coreLive core = true → (s.core core).paced = q :: rest →
     s.dispatchStride core q = (free, some d) → s.headReady core q.engine = true →
     (d ≤ s.stride core ∨ s.clearTo core d = true) → above? (s.core core).nextDue d = true →
     let u := (s.advance core d).inc Obj.governorState 0 64 64 (d - free)
     let v := if waitSel q.word = 0 then u else u.takeFlag core (waitSel q.word) 1
     let x := v.setCore core { v.core core with paced := rest, lastDispatch := some d }
     exec (.pacedDispatch core ecc) s = .next (x.pacedRun core q ecc) ∧
     exec (.pacedDispatch core .clean) s =
       .next (if q.void then x.post core q.word q.pos q.ord else x.startPaced core q))

/-- The earliest paced result is computed, written, counted in the totals and posted once. From
spec/03_core_sequencer.md R94, R98; spec/04_matrix_and_vector_engines.md R132, R133, R135; spec/02_number_formats.md
R75. Readings and choices of the model: log entries 3, 8, 77, 85. -/
def Obligations.PacedResultsAreWrittenAndPostOnce : Prop :=
  (∀ (s : State) (core : Nat) (f : Flight) (op : CoreOp) (ecc : Ecc),
     core < 96 → s.coreCanRun core = true → s.coreLive core = true → earliest (s.core core).flights = some f →
     above? (s.nextExpiry core) f.due = true → s.dispatchesBefore core f.due = false → CoreOp.of f.cmd.word = some op →
     let u := s.advance core f.due
     let v := u.setCore core { u.core core with flights := (u.core core).flights.erase f }
     let r := computeResult op f.cmd.word f.inputs ⟨f.seed, f.rank, v.free⟩
     let written (x : State) : State :=
       ((match slotOf op f.cmd.word with
         | some k => x.writeSlot core k (summaryCode r.status r.value r.sat r.flush)
         | none => x).addTotals core r.sat r.flush).post core f.cmd.word f.cmd.pos f.cmd.ord
     let x := (v.setResult core f op).drawn
     (∀ y, x.applyEffects core f.cmd.ord r.effects ecc = (true, y) → exec (.pacedResult core ecc) s = .next (written y)) ∧
     (∀ y, x.applyEffects core f.cmd.ord r.effects ecc = (false, y) → exec (.pacedResult core ecc) s = .next y) ∧
     exec (.pacedResult core .clean) s
       = .next (written (r.effects.foldl (fun s e => s.applyEffect core f.cmd.ord e) x))) ∧
  (∀ (s : State) (core : Nat) (f : Flight) (op : CoreOp),
     core < 96 → s.coreCanRun core = true → s.coreLive core = true → earliest (s.core core).flights = some f →
     above? (s.nextExpiry core) f.due = true → s.dispatchesBefore core f.due = false → CoreOp.of f.cmd.word = some op →
     ∃ t, exec (.pacedResult core .clean) s = .next t ∧
       (postSel f.cmd.word ≠ 0 →
         t.flag core (postSel f.cmd.word) = min (s.flag core (postSel f.cmd.word) + 1) (2 ^ 32 - 1)) ∧
       (∀ g, g < 256 → g ≠ postSel f.cmd.word → t.flag core g = s.flag core g))

/-- LAUNCH starts a core or answers why not; STOP truncates it; a drained core ends DONE or HALTED; a WAIT limit halts
it. From spec/03_core_sequencer.md R96, R97, R103, R104, R105, R106, R107, R108. Readings and choices of the model:
log entries 46, 49, 77, 84. -/
def Obligations.CoresLaunchStopAndComplete : Prop :=
  (∀ (s : State) (value : Nat), s.hasCompute = true → value < 2 ^ 52 →
     let n := bits value 44 8
     let off := bits value 0 44
     (s.launchCode n off ≠ 1 → exec (.coreLaunch value .clean) s = .next (s.wr Obj.coreLaunch 0 (s.launchCode n off))) ∧
     (s.launchCode n off = 1 → ∃ t, exec (.coreLaunch value .clean) s = .next t ∧
       t.rd Obj.coreLaunch 0 = 1 ∧ t.coreState n = 1 ∧ t.position n = 0 ∧ t.ordinal n = 0 ∧ t.rd Obj.haltRecord n = 0 ∧
       (t.core n).stop = .running ∧ (t.core n).icache = [] ∧ (t.core n).streamAddr = bits (s.memCode 0 off 64) 0 44 ∧
       (t.core n).streamLen = bits (s.memCode 0 off 64) 64 32 ∧
       (∀ f, f < 256 → t.flag n f = if (s.memCode 0 off 64).testBit 208 then s.flag n f else 0))) ∧
  (∀ (s : State) (n : Nat), n < 96 → s.coreCanRun n = true →
     (s.coreState n = 1 → s.hasCompute = true → ∃ t, exec (.coreStop n) s = .next t ∧
       t.coreState n = 2 ∧ (t.core n).stop = .truncated 1 ∧ t.rd Obj.coreStop 0 = 1) ∧
     (s.coreState n = 2 → (s.core n).drained = true → (s.core n).stop = .ended →
       ∃ t, exec (.coreComplete n) s = .next t ∧ t.coreState n = 3 ∧ t.fld Obj.haltRecord n 0 8 = 0x01) ∧
     (∀ d, s.coreState n = 2 → (s.core n).drained = true → (s.core n).stop = .truncated d →
       ∃ t, exec (.coreComplete n) s = .next t ∧ t.coreState n = 4 ∧ t.fld Obj.haltRecord n 0 8 = 0x15 ∧
         t.fld Obj.haltRecord n 8 8 = d % 256) ∧
     (s.coreState n = 2 → (s.core n).drained = true → (s.core n).stop = .halted →
       exec (.coreComplete n) s = .next (s.wr Obj.coreState n 4)) ∧
     (∀ w x, s.coreLive n = true → s.firstExpiry n = some (w, x) →
       (match (s.core n).nextDue with | some d => decide (d < x) | none => false) = false →
       s.dispatchesBefore n x = false →
       exec (.waitLimit n) s = .next ((s.advance n x).haltCore n 0x10 w.engine w.pos w.ord)))

/-- Cache lines arrive from the stream, totals clear, rates update, and a Rake engine serves its two cores in order.
From spec/03_core_sequencer.md R100, R102, R108; spec/02_number_formats.md R75; spec/05_sparse_operands_rake.md R149,
R150, R155. Readings and choices of the model: log entries 6, 49, 77, 84. -/
def Obligations.CoreUnitsKeepTheirBooks : Prop :=
  (∀ (s : State) (n line : Nat) (parity : Bool) (ecc : Ecc),
     n < 96 → s.coreCanRun n = true → s.coreState n = 1 → 64 * line < (s.core n).streamLen →
     (parity = true → ((s.core n).icache.find line).isSome = true) → (∀ x ∈ ecc.flaws, x.2 ≤ 1) →
     s.held 0 ((s.core n).streamAddr + 1024 * line) = false →
     s.held 0 ((s.core n).streamAddr + 1024 * line + min 1024 (16 * ((s.core n).streamLen - 64 * line)) - 1) = false →
     ∃ t, exec (.icacheFill n line parity ecc) s = .next t ∧
       (t.core n).icache.find line
         = some (leCode (s.load 0 ((s.core n).streamAddr + 1024 * line)
             (min 1024 (16 * ((s.core n).streamLen - 64 * line))))) ∧
       t.position n = s.position n ∧ t.ordinal n = s.ordinal n) ∧
  (∀ (s : State), s.hasCompute = true →
     (∀ n, s.hasCore n = true → ∃ t, exec (.totalClear n) s = .next t ∧
       t.rd Obj.satTotal n = 0 ∧ t.rd Obj.flushTotal n = 0 ∧ t.rd Obj.totalClear 0 = 1) ∧
     (∃ t, exec (.totalClear 0xFF) s = .next t ∧
       (∀ n, t.rd Obj.satTotal n = 0 ∧ t.rd Obj.flushTotal n = 0) ∧ t.rd Obj.totalClear 0 = 1) ∧
     (∀ n, n ≠ 0xFF → s.hasCore n = false → exec (.totalClear n) s = .next s) ∧
     (∀ n, s.hasCore n = true → s.hasRake (n / 2) = true → ∃ t, exec (.rakeTotalClear n) s = .next t ∧
       t.rd Obj.rakeOverTotal n = 0 ∧ t.rd Obj.rakeOorTotal n = 0 ∧ t.rd Obj.rakeMalformedTotal n = 0 ∧
       t.rd Obj.rmaskOutsideTotal n = 0 ∧ t.rd Obj.rakeTotalClear 0 = 1) ∧
     (s.scratched = false → s.now < s.rateWindow + 2 ^ 20 → exec .strideWindowEnd s = .next s) ∧
     (s.scratched = false → s.rateWindow + 2 ^ 20 ≤ s.now → ∃ t, exec .strideWindowEnd s = .next t ∧ t.rateWindow = s.now ∧
       (∀ n, s.hasCore n = true → t.rd Obj.strideRate n
         = if 2 ≤ s.power then 0 else (s.stride n - (s.core n).windowStart) * 1000 / 2 ^ 20 % 2 ^ 32) ∧
       ∀ m, s.hasRake m = true → t.rd Obj.rkeStrideRate m
         = if 2 ≤ s.power then 0 else ((s.rke m).stride - (s.rke m).windowStart) * 1000 / 2 ^ 20 % 2 ^ 32)) ∧
  (∀ (s : State) (m : Nat), m < 48 → s.hasRake m = true → s.scratched = false →
     let r := s.rke m
     (∀ j rest, r.queue = j :: rest → above? r.nextDue (r.startStride j) = true →
       let t := r.startStride j
       let o := s.rkeCompute j.core j.cmd.word
       exec (.rkeServiceStart m .clean) s = .next (s.setRke m
         { r with queue := rest, stride := t, busyUntil := t + 16, ahead := r.ahead + (t - r.stride),
                  runs := r.runs ++ [⟨j, t + 24, o.1.map fun q => .tm q.1 q.2, [], o.2⟩] })) ∧
     (∀ x rest, r.runs = x :: rest → ∃ t, exec (.rkeResult m .clean) s = .next t ∧
       let n := x.job.core
       t.fld Obj.rakeOverTotal n 0 64 = min (s.fld Obj.rakeOverTotal n 0 64 + x.result.overs) (2 ^ 64 - 1) ∧
       t.fld Obj.rakeOorTotal n 0 64 = min (s.fld Obj.rakeOorTotal n 0 64 + x.result.oor) (2 ^ 64 - 1) ∧
       t.fld Obj.rakeMalformedTotal n 0 64 = min (s.fld Obj.rakeMalformedTotal n 0 64 + x.result.malformed) (2 ^ 64 - 1) ∧
       t.fld Obj.rmaskOutsideTotal n 0 64 = min (s.fld Obj.rmaskOutsideTotal n 0 64 + x.result.outside) (2 ^ 64 - 1) ∧
       (t.rke m).runs.map (·.job) = rest.map (·.job) ∧
       (postSel x.job.cmd.word ≠ 0 →
         t.flag n (postSel x.job.cmd.word) = min (s.flag n (postSel x.job.cmd.word) + 1) (2 ^ 32 - 1))))

/-- The DIMM commands are answered as the state of the socket says; each block of a copy is copied whole and in order.
From spec/06_local_memory_tiers.md R164, R173, R174, R175, R176, R177, R178, R181. Readings and choices of the model:
log entries 14, 44, 50, 76, 77, 78. -/
def Obligations.DimmsAreDrainedReturnedAndReplaced : Prop :=
  (∀ (s : State) (chan : Nat), s.hasCompute = true → chan < 12 →
     (s.dimmPowerOk = false → ∀ c ∈ [Instr.dimmDrain chan, .dimmPowerOff chan, .dimmPowerOn chan, .dimmReturn chan,
         .drainCancel chan], exec c s = .next (s.wr Obj.drainCmd 0 4)) ∧
     (s.dimmPowerOk = true → s.dimmCopy.isSome = true →
       exec (.dimmDrain chan) s = .next (s.wr Obj.drainCmd 0 5) ∧ exec (.dimmReturn chan) s = .next (s.wr Obj.drainCmd 0 5)) ∧
     (s.dimmPowerOk = true → s.dimmCopy = none → s.dimm chan = 3 → s.drainDescOk chan = true →
       ∃ t, exec (.dimmDrain chan) s = .next t ∧ t.dimm chan = 5 ∧ t.rd Obj.drainCmd 0 = 1 ∧
         t.fld Obj.drainProgress 0 0 4 = chan ∧ t.fld Obj.drainProgress 0 4 4 = 1 ∧ t.fld Obj.drainProgress 0 32 32 = 0 ∧
         t.dimmCopy = some ⟨s.fld Obj.drainDesc 0 32 32, s.fld Obj.drainDesc 0 64 64, s.fld Obj.drainDesc 0 0 8⟩) ∧
     (s.dimmPowerOk = true → s.dimmCopy = none → s.dimm chan = 4 → s.fld Obj.drainDesc 0 0 8 ≠ 0 →
       s.fld Obj.drainDesc 0 0 8 ≤ 100 → ∃ t, exec (.dimmReturn chan) s = .next t ∧ t.dimm chan = 6 ∧
         t.rd Obj.drainCmd 0 = 1 ∧ t.fld Obj.drainProgress 0 0 4 = chan ∧ t.fld Obj.drainProgress 0 4 4 = 2 ∧
         t.fld Obj.drainProgress 0 32 32 = 0) ∧
     (s.dimmPowerOk = true → (s.dimm chan = 4 ∨ s.dimm chan = 7 ∨ s.dimm chan = 0) →
       exec (.dimmPowerOff chan) s = .next ((s.wr Obj.dimmState chan 1).wr Obj.drainCmd 0 1)) ∧
     (s.dimmPowerOk = true → s.dimm chan = 1 →
       exec (.dimmPowerOn chan) s = .next (((s.wr Obj.dimmState chan 2).rampBay chan 50).wr Obj.drainCmd 0 1)) ∧
     (s.dimmPowerOk = true → s.dimm chan = 5 → ∃ t, exec (.drainCancel chan) s = .next t ∧ t.dimm chan = 3 ∧
       t.rd Obj.drainCmd 0 = 1 ∧ t.dimmCopy = none ∧ t.rd Obj.redirect chan = s.rd Obj.redirect chan) ∧
     (s.dimmPowerOk = true → s.dimm chan = 6 → ∃ t, exec (.drainCancel chan) s = .next t ∧ t.dimm chan = 4 ∧
       t.rd Obj.drainCmd 0 = 1 ∧ t.dimmCopy = none ∧ t.rd Obj.redirect chan = s.rd Obj.redirect chan)) ∧
  (∀ (s : State) (chan : Nat), s.hasCompute = true → chan < 12 →
     (s.dimm chan = 1 → exec (.dimmLatchClose chan) s = .next ((s.wr Obj.dimmState chan 2).rampBay chan 50)) ∧
     (∀ power, s.rampFits power = true → s.rampBay chan power = s.setRamp chan (some ⟨power, some s.now⟩)) ∧
     (∀ power, s.rampFits power = false → ∃ d, d < max 1 (s.fld Obj.governorState 0 0 9) ∧
       s.rampBay chan power = ((s.setRamp chan (some ⟨power, none⟩)).wrFld Obj.governorState 0 0 9 d).drawn) ∧
     (s.dimm chan ≠ 1 → exec (.dimmLatchOpen chan) s = .next (s.memUe 4 chan false (chan * 2 ^ 38))) ∧
     (s.dimm chan = 2 → s.rampOver chan = true → ∀ (capacity ident : Nat) (mrdimm eccX4 checksum trained : Bool),
       let why := s.dimmReason chan capacity mrdimm eccX4 checksum trained
       ∃ t, exec (.dimmTrained chan capacity ident mrdimm eccX4 checksum trained) s = .next t ∧ t.ramp chan = none ∧
         (why ≠ 0 → t.dimm chan = 7 ∧ t.fld Obj.dimmInfo chan 8 8 = why) ∧
         (why = 0 → t.dimm chan = (if s.redirected chan then 4 else 3) ∧ t.fld Obj.dimmInfo chan 0 8 = capacity ∧
           mrdimm = true ∧ eccX4 = true ∧ checksum = true ∧ trained = true ∧ 1 ≤ capacity ∧ capacity ≤ 3))) ∧
  (∀ (s : State) (k : DimmCopy) (ecc : Ecc), s.dimmCopy = some k →
     let chan := s.fld Obj.drainProgress 0 0 4
     let n := s.fld Obj.drainProgress 0 32 32
     let due := s.fld Obj.drainProgress 0 64 64 + copyTime k.share (n + 1)
     let window := chan * 2 ^ 38 + n * 4096
     let target := s.place (bits k.target 44 4) (bits k.target 0 44 + n * 4096)
     (s.now < due → exec (.drainBlockCopied ecc) s = .next s) ∧
     (s.scratched = false → s.scanFree = true → (∀ x ∈ ecc.flaws, x.2 ≤ 1) → due ≤ s.now →
       s.heldAt (1, window) = false → s.heldAt target = false →
       (s.fld Obj.drainProgress 0 4 4 = 1 → ∃ t, exec (.drainBlockCopied ecc) s = .next t ∧
         (∀ j, j < 4096 → t.mem8 target.1 (target.2 + j) = s.mem8 1 (window + j)) ∧
         t.fld Obj.drainProgress 0 32 32 = (n + 1) % 2 ^ 32 ∧
         (k.len ≤ n + 1 → t.dimm chan = 4 ∧ t.dimmCopy = none ∧ t.redirected chan = true)) ∧
       (s.fld Obj.drainProgress 0 4 4 = 2 → ∃ t, exec (.drainBlockCopied ecc) s = .next t ∧
         (∀ j, j < 4096 → t.mem8 1 (window + j) = s.mem8 target.1 (target.2 + j)) ∧
         t.fld Obj.drainProgress 0 32 32 = (n + 1) % 2 ^ 32 ∧
         (k.len ≤ n + 1 → t.dimm chan = 3 ∧ t.dimmCopy = none ∧ t.redirected chan = false))))

/-- Patrol reads count corrections and report errors; controllers recalibrate when due, forced or asked. From
spec/06_local_memory_tiers.md R165, R166, R167, R168, R170, R172. Readings and choices of the model: log entries 45,
50, 74, 77. -/
def Obligations.CorrectionsCountAndRecalibrationHolds : Prop :=
  (∀ (s : State),
     (∀ region off kind inst k n, s.patrolWord region off = some (kind, inst, k, n) → s.patrolRuns region off = true →
       let w := KMap.get s.patrols Patrol.init (256 * kind + inst)
       let q := (region, off / codewordBytes region * codewordBytes region)
       let p : Patrol := ⟨(k + 1) % n, if k = 0 then s.now + s.patrolPeriod kind else w.since⟩
       let u : State := { s with patrols := KMap.set s.patrols Patrol.init (256 * kind + inst) p }
       (k ≠ (if n ≤ w.next then 0 else w.next) ∨ (k = 0 ∧ s.now < w.since) → ∀ e, exec (.patrolRead region off e) s = .next s) ∧
       (k = (if n ≤ w.next then 0 else w.next) → (k = 0 → w.since ≤ s.now) →
         exec (.patrolRead region off .clean) s = .next u ∧
         exec (.patrolRead region off .corrected) s = .next (u.countCorrected (u.memoryAt q).1 (u.memoryAt q).2) ∧
         exec (.patrolRead region off .uncorrectable) s = .next (u.uncorrectable true q))) ∧
     (∀ ctrl count, ctrl < 24 → s.hasCompute = true → s.hasHbm ctrl = true → s.power < 2 → (s.recal ctrl).polled + 10 ^ 9 ≤ s.now →
       s.fld Obj.hbmOndieCeCount ctrl 0 64 + count < 2 ^ 64 → ∃ t, exec (.ondieCePoll ctrl count) s = .next t ∧
         t.fld Obj.hbmOndieCeCount ctrl 0 64 = s.fld Obj.hbmOndieCeCount ctrl 0 64 + count ∧ (t.recal ctrl).polled = s.now)) ∧
  (∀ (s : State) (ctrl temp : Nat), s.hasController ctrl = true → s.power < 2 →
     (s.holdFree ctrl = true → (s.recal ctrl).holding = false →
       ((s.rd Obj.recalMode 0 = 0 ∧ (800 ≤ tempChange temp (s.recal ctrl).temp ∨ 2000000000 ≤ s.now - (s.recal ctrl).last))
         ∨ (s.recal ctrl).wanted = true) →
       exec (.recalStart ctrl temp) s = .next ((s.setTemp ctrl temp).setRecal ctrl
         { s.recal ctrl with holding := true, start := s.now, temp := temp })) ∧
     ((s.recal ctrl).holding = false → s.rd Obj.recalMode 0 = 1 → 1600 ≤ tempChange temp (s.recal ctrl).temp →
       ∃ t, exec (.recalForced ctrl temp) s = .next t ∧ (t.recal ctrl).holding = true ∧ (t.recal ctrl).start = s.now ∧
         (t.recal ctrl).temp = temp) ∧
     ((s.recal ctrl).holding = true → exec (.recalEnd ctrl) s = .next (s.endHold ctrl).releaseWaiting ∧
       ((s.endHold ctrl).recal ctrl).holding = false ∧ ((s.endHold ctrl).recal ctrl).last = s.now) ∧
     (∀ t, s.pending = [] → step s = .next t → ∀ c, (t.recal c).holding = true → t.now ≤ (t.recal c).start + holdBound c) ∧
     (∀ value, s.hasCompute = true → (value < 24 ∧ ctrl = value ∨ 256 ≤ value ∧ value < 268 ∧ ctrl = 32 + value % 256) →
       ∃ t, exec (.recalNow value) s = .next t ∧ (t.recal ctrl).wanted = true ∧ t.rd Obj.recalNow 0 = 0 ∧
         (s.holdFree ctrl = true → (t.recal ctrl).holding = true ∧ (t.recal ctrl).start = s.now)))

/-- An unordered request that need not wait is performed and answered; a write changes its bytes and no others. From
spec/07_global_memory_space.md R186, R187, R188, R191, R193, R201, R202, R209. Readings and choices of the model: log
entries 14, 40, 77, 80. -/
def Obligations.UnorderedRequestsAreServed : Prop :=
  (∀ (s : State) (f : Frame), f.ordered = false → s.mustWait f = false →
     (TakesRequest s 1 f → s.mapped f.region f.off f.len = true → f.region ≠ 3 → crosses f.off f.len = false →
       s.guardAt f.region f.off = none →
       exec (.reqRead f .clean) s = .next (s.reply f 0 (s.load f.region f.off f.len))) ∧
     (TakesRequest s 2 f → s.mapped f.region f.off f.len = true → f.region ≠ 3 → crosses f.off f.len = false →
       s.guardAt f.region f.off = none →
       exec (.reqWrite f .clean) s
         = .next ((s.memStore f.region f.off (fitBytes f.len f.payload)).reply f 0 [])) ∧
     (TakesRequest s 3 f → s.mapped f.region f.off (atomicBytes f.atype) = true → f.region ≠ 3 →
       atomicOk f.aop f.atype = true → f.off % atomicBytes f.atype = 0 → s.guardAt f.region f.off = none →
       let n := atomicBytes f.atype
       let old := leCode (s.load f.region f.off n)
       exec (.reqAtomic f .clean) s = .next ((s.memStore f.region f.off (leBytes n (atomicNew f.aop f.atype old
         (leCode (sliceBytes f.payload 0 n)) (leCode (sliceBytes f.payload 8 n))))).reply f 0 (leBytes 8 old))) ∧
     (TakesRequest s 5 f → s.hasCore (bits f.hdr 32 8) = true →
       exec (.reqSignal f) s = .next ((s.addFlag (bits f.hdr 32 8) (bits f.hdr 24 8) 1
         (s.ownSignal f (bits f.hdr 32 8))).reply f 0 []) ∧
       ∃ t, exec (.reqSignal f) s = .next t ∧ t.flag (bits f.hdr 32 8) (bits f.hdr 24 8)
         = min (s.flag (bits f.hdr 32 8) (bits f.hdr 24 8) + 1) (2 ^ 32 - 1)) ∧
     (TakesRequest s 6 f → ∀ e, exec (.reqPdelta f e) s = .next (s.reply f 0x08 [])) ∧
     (∀ p ∈ [(4, Instr.reqFence f), (7, Instr.reqPclose f)], TakesRequest s p.1 f → exec p.2 s = .next (s.reply f 0 []))) ∧
  (∀ (s : State) (f : Frame), f.ordered = false → s.mustWait f = false → TakesRequest s 2 f → f.region = 0 →
     s.mapped 0 f.off f.len = true → crosses f.off f.len = false → s.guardAt 0 f.off = none →
     ∃ t, exec (.reqWrite f .clean) s = .next t ∧
       (∀ j, j < f.len → t.mem8 0 (f.off + j) = f.payload.getD j 0) ∧
       (∀ space off, memKey space off < memKey 0 f.off ∨ memKey 0 f.off + f.len ≤ memKey space off →
         t.mem8 space off = s.mem8 space off) ∧
       t.objs = s.objs)

/-- An ordered request in its turn is served and finished, and its context moves to the next sequence number. From
spec/07_global_memory_space.md R194, R195, R199, R200, R212. Readings and choices of the model: log entries 7, 17, 77,
80. -/
def Obligations.OrderedRequestsAreServedInTurn : Prop :=
  (∀ (s : State) (f : Frame) (e : Ecc), InTurn s f →
     ∀ p ∈ [(2, Instr.reqWrite f e, e), (3, Instr.reqAtomic f e, e), (4, Instr.reqFence f, .clean),
         (5, Instr.reqSignal f, .clean), (6, Instr.reqPdelta f e, e), (7, Instr.reqPclose f, .clean)],
       TakesRequest s p.1 f →
       exec p.2.1 s = .next (match (s.serve f p.2.2).status with
         | some st => (s.serve f p.2.2).state.finishOrdered f st (s.serve f p.2.2).data
         | none => (s.serve f p.2.2).state)) ∧
  (∀ (s : State) (f : Frame), InTurn s f →
     (TakesRequest s 4 f → f.release = false → ∃ t, exec (.reqFence f) s = .next t ∧
       t.fld Obj.dstStreams f.stream 32 32 = (f.seq + 1) % 2 ^ 32 ∧
       (t.dst f.stream).ring.getLast? = some (f.seq, 0, 0)) ∧
     (TakesRequest s 4 f → f.release = true → ∃ t, exec (.reqFence f) s = .next t ∧
       t.rd Obj.dstStreams f.stream = 0) ∧
     (TakesRequest s 7 f → ∃ t, exec (.reqPclose f) s = .next t ∧
       t.fld Obj.dstStreams f.stream 32 32 = (f.seq + 1) % 2 ^ 32 ∧ ∀ x ∈ (t.dst f.stream).log, x.wid = f.opnd →
         ∃ i, s.guardAt f.region f.off = some i ∧ x.desc ≠ i))

/-- A reply ends the request it matches, late or not; the timers of requests, tags and streams expire as stated. From
spec/01_module_overview.md R26; spec/07_global_memory_space.md R192, R195, R196, R199, R204, R205, R206. Readings and
choices of the model: log entries 18, 77, 81. -/
def Obligations.RepliesAndTimersEndRequests : Prop :=
  (∀ (s : State) (f : Frame) (r : GReq) (ecc : Ecc), s.gmuOn = true → 0x81 ≤ f.op → f.op ≤ 0x87 →
     s.sent.find? (fun r => r.tag == f.tag && r.op + 0x80 == f.op && r.ord == f.ordered && r.dest == f.src
       && (!r.ord || (r.stream == f.stream && r.seq == f.seq))) = some r →
     (let late := s.inc Obj.lateByDest (f.src % 4096) 0 64 1;
       (r.ord = false ∨ (f.status ≠ 0x04 ∧ f.status ≠ 0x05) ∨ ∃ e, r.owner = .reset e) →
       exec (.gmuReply f ecc) s = .next (afterReply
         (if s.now - r.first ≤ s.rd Obj.deadlineNs r.tc then s
           else if r.cut then late.inc Obj.lateByDest (f.src % 4096) 64 64 1 else late) r f ecc)) ∧
     (r.ord = true → (f.status = 0x04 ∨ f.status = 0x05) → (∀ e, r.owner ≠ .reset e) → f.gen = s.srcGen r.entry →
       s.srcState r.entry = 1 → exec (.gmuReply f ecc) s = .next (s.cutStream r.entry false).pump)) ∧
  (∀ (s : State),
     (∀ entry r rest, s.gmuOn = true → entry < 4096 → s.srcState entry = 1 → s.unacked entry = r :: rest →
       r.last + s.rd Obj.replayAfterNs 0 ≤ s.now →
       exec (.replayAfterExpiry entry) s = .next (s.cutStream entry false).pump) ∧
     (∀ tag r, s.sent.find? (fun r => !r.ord && r.tag == tag) = some r → s.scratched = false →
       r.last + 1000 * s.rd Obj.abandonAfterUs 0 ≤ s.now →
       exec (.abandonAfterExpiry tag) s = .next (({ s with
         sent := s.sent.erase r, quarantine := s.quarantine ++ [(tag, s.now + 10000000)] }).endLost r).pump) ∧
     (∀ tag q, s.quarantine.find? (fun q => q.1 == tag) = some q → q.2 ≤ s.now →
       exec (.tagQuarantineEnd tag) s = .next ({ s with quarantine := s.quarantine.erase q }).pump) ∧
     (∀ value k, s.hasCompute = true → value < 4096 → s.srcState value = 3 → (s.src value).resetSends = 0 →
       s.waiting = [] → s.freeTag (s.srcStream value % 8) = some k →
       ((s.sent.filter fun x => x.slice == s.srcStream value % 8).map GReq.space).sum + 16 ≤ 8 * 2 ^ 20 →
       ∃ t r, exec (.streamReset value) s = .next t ∧ t.waiting = [] ∧
         t.rd Obj.streamReset 0 = 1 ∧ t.sent = s.sent ++ [r] ∧ r.op = 4 ∧ r.ord = true ∧ r.release = true ∧
         r.owner = .reset value ∧ r.dest = s.srcDest value ∧ r.stream = s.srcStream value ∧ r.seq = s.srcNext value ∧
         r.gen = (s.srcGen value + 1) % 256 ∧ (t.src value).resetSends = 1) ∧
     (∀ value, s.hasCompute = true → value < 4096 → s.srcState value = 3 → (s.src value).resetSends = 0 →
       s.waiting = [] → s.freeTag (s.srcStream value % 8) = none →
       ∃ t r, exec (.streamReset value) s = .next t ∧ t.waiting = [r] ∧ r.owner = .reset value ∧ t.sent = s.sent ∧
         t.rd Obj.streamReset 0 = 1 ∧ t.srcState value = 3))

/-- Guard groups are activated, deactivated, rebuilt on demand, and their stores finish after both parity replies.
From spec/07_global_memory_space.md R208, R210, R211, R212, R214, R215, R216, R217;
spec/15_failure_recovery_reproducibility.md R465. Readings and choices of the model: log entries 20, 21, 22, 83. -/
def Obligations.GuardCommandsTakeEffect : Prop :=
  ∀ (s : State) (entry : Nat), entry < 64 →
    (s.hasCompute = true → (s.rd Obj.guardState entry = 0 ∨ s.rd Obj.guardState entry = 4) → s.guardDescOk entry = true →
      exec (.guardActivate entry) s = .next ((((s.wr Obj.guardState entry 1).setGuard entry
        GuardSt.init).guardTake.guardSync entry).wr Obj.guardCmd 0 1)) ∧
    (s.hasCompute = true → s.rd Obj.guardState entry ≠ 0 → s.rd Obj.guardState entry ≠ 4 →
      exec (.guardActivate entry) s = .next (s.wr Obj.guardCmd 0 3)) ∧
    (s.hasCompute = true → s.rd Obj.guardState entry = 1 → s.openDelta entry = false →
      exec (.guardDeactivate entry) s
        = .next (((s.wr Obj.guardState entry 0).setGuard entry GuardSt.init).guardRelease.wr Obj.guardCmd 0 1)) ∧
    (s.scratched = false → s.rd Obj.guardState entry = 2 → (s.guard entry).vacant = false → s.memberQuiet entry = true →
      exec (.guardQuiet entry) s = .next ((((s.wr Obj.guardState entry 3).rollForward entry).startStores entry).releaseWaiting)) ∧
    (∀ stripe symbols data, s.scratched = false → s.rd Obj.guardState entry = 3 → (s.guard entry).missing = true →
      (s.guard entry).done.contains stripe = false → stripe < s.fld Obj.guardDesc entry 128 32 →
      s.survivorsOk entry symbols = true → decodeStripe (s.guardK entry) symbols = some data →
      exec (.stripeDemandRebuild entry stripe symbols) s
        = .next ((((s.putSymbol entry stripe data).markStripe entry stripe).inc Obj.guardRebuild entry 0 32 1).releaseWaiting)) ∧
    (∀ ctx g, ctx < 4096 → s.scratched = false → (s.dst ctx).store = some g → g.phase = 3 →
      let done (u : State) : State := (((u.nextStore g.desc g.stripe).releaseWaiting).pump).quietTold
      (∀ st, g.failed = some st → exec (.guardParityReplied ctx) s = .next (done (s.finishOrdered g.frame st []))) ∧
      (g.failed = none →
        let u := (s.memStore g.frame.region g.frame.off (fitBytes g.frame.len g.frame.payload)).finishOrdered g.frame 0 []
        let v := u.setGuard g.desc { u.guard g.desc with closes := (u.guard g.desc).closes + 2 }
        exec (.guardParityReplied ctx) s = .next (done (v.enqueue
          [v.guardReq g.desc (s.guardK g.desc) (.close g.desc) 7 g.wid [],
            v.guardReq g.desc (s.guardK g.desc + 1) (.close g.desc) 7 g.wid []]))))

/-- Ports train step by step to UP or fail with the stated reason, and answer ENABLE, DISABLE, RETRAIN and SELFTEST.
From spec/08_fabric_ports_optics.md R219, R220, R226, R231, R235, R238, R244, R245; spec/17_security_and_images.md
R514. Readings and choices of the model: log entries 50, 52, 73, 89. -/
def Obligations.FabricPortsTrainAndObeyCommands : Prop :=
  (∀ (s : State) (p : Nat), p < 64 → s.scratched = false →
     (s.portState p = 3 → (s.port p).step = 0 → s.mayTrain p = true → ∃ t, exec (.trainingStart p) s = .next t ∧
       t.portState p = 1 ∧ (t.port p).step = 2 ∧ (t.port p).attempt = s.now) ∧
     (s.portState p = 3 → (s.port p).step = 1 → s.portMode p = 1 → (s.port p).checking = false →
       (s.port p).attempt + 100000000 ≤ s.now → ∃ t, exec (.trainingRetry p) s = .next t ∧
       t.portState p = 1 ∧ (t.port p).step = 2 ∧ (t.port p).attempt = s.now) ∧
     (s.portState p = 8 → s.portMode p = 1 → ∃ t, exec (.lightReturns p) s = .next t ∧
       t.portState p = 1 ∧ (t.port p).step = 2) ∧
     (s.portState p = 1 → (s.port p).step = 2 → ∀ other errors, ∃ t, exec (.trainingCheckExpiry p 0xFF 0xFF other errors) s
       = .next t ∧ t.portState p = 1 ∧ (t.port p).step = 3 ∧ (t.port p).stepAt = s.now) ∧
     (s.portState p = 1 → (s.port p).step = 2 → (s.port p).stepAt + 5000000 ≤ s.now → ∀ light lock other errors,
       (light ≠ 0xFF ∨ lock ≠ 0xFF) → ∃ t, exec (.trainingCheckExpiry p light lock other errors) s = .next t ∧
       t.portState p = 3 ∧ (t.port p).step = 1 ∧ t.fld Obj.portInfo p 88 8 = if light = 0xFF then 2 else 1) ∧
     (s.portState p = 1 → (s.port p).step = 3 → (s.port p).stepAt + 5000000 ≤ s.now → ∀ light lock other errors,
       ∃ t, exec (.trainingCheckExpiry p light lock other errors) s = .next t ∧
       (other = true → t.portState p = 3 ∧ t.fld Obj.portInfo p 88 8 = 0x0C) ∧
       (other = false → s.fecAbove p errors (5 * symbolsPerMs) = true → t.portState p = 3 ∧ t.fld Obj.portInfo p 88 8 = 4) ∧
       (other = false → s.fecAbove p errors (5 * symbolsPerMs) = false → t.portState p = 1 ∧ (t.port p).step = 4)) ∧
     (s.portState p = 1 → (s.port p).step = 7 → ∀ cert owner point confirm,
       let keys := [s.ident.deviceSecret, cert, point]
       exec (.cipherKeyAgreed p cert owner point confirm) s = .next
         (if Config.certChain s.ident.caCert cert = false then s.cipherFail p 2
           else if owner ≠ (if s.ownerKey = 0 then 0 else Config.sm3 (leBytes 64 s.ownerKey)) then s.cipherFail p 3
           else
             let u := s.sendInfo p (leBytes 32 (Config.kdf 23 keys % 2 ^ 256))
             if confirm ≠ Config.kdf 20 keys then u.cipherFail p 4
             else (u.setPort p { u.port p with keyed := true, keyOut := Config.kdf 21 keys, keyIn := Config.kdf 22 keys,
                                               groupOut := 0 }).trainLoops p)) ∧
     (s.portState p = 1 → (s.port p).step = 6 →
       let basis := (s.port p).loops.foldl max 0
       let used := s.rd Obj.headroomUsed 0 + 5 * headroom basis
       (used ≤ s.rd Obj.headroomLimit 0 → ∃ t, exec (.portUp p) s = .next t ∧ t.portState p = 2 ∧
         t.loopBasis p = basis % 2 ^ 32 ∧ t.portH p = headroom basis % 2 ^ 16 ∧ t.rd Obj.headroomUsed 0 = used ∧
         (t.port p).step = 0) ∧
       (s.rd Obj.headroomLimit 0 < used → ∃ t, exec (.portUp p) s = .next t ∧ t.portState p = 4 ∧
         t.fld Obj.portInfo p 88 8 = 0x0E ∧ t.rd Obj.headroomUsed 0 = s.rd Obj.headroomUsed 0))) ∧
  (∀ (s : State) (p : Nat), p < 64 →
     (s.scratched = true → ∀ c ∈ [Instr.portEnable p, .portDisable p, .retrain p, .portSelftest p],
       exec c s = .next (s.wr Obj.portCmd 0 3)) ∧
     (s.scratched = false → (s.portState p = 0 ∨ s.portState p = 4) → s.portMode p ≠ 0 →
       ∃ t, exec (.portEnable p) s = .next t ∧ t.portState p = (if s.portMode p = 1 then 3 else 6) ∧
         t.rd Obj.portCmd 0 = 1 ∧ (t.port p).downs = (s.port p).downs) ∧
     (s.scratched = false → s.portState p ≠ 0 → s.portState p ≠ 4 →
       exec (.portEnable p) s = .next (s.wr Obj.portCmd 0 2)) ∧
     (s.scratched = false → s.portState p ≠ 0 → ∃ t, exec (.portDisable p) s = .next t ∧ t.portState p = 0 ∧
       t.rd Obj.portCmd 0 = 1 ∧ (t.port p).step = 0) ∧
     (s.scratched = false → s.portState p = 0 → exec (.portDisable p) s = .next (s.wr Obj.portCmd 0 2)) ∧
     (s.scratched = false → s.portMode p = 1 → s.portState p ∈ [1, 2, 3, 4, 8] → ∃ t, exec (.retrain p) s = .next t ∧
       t.portState p = 3 ∧ t.rd Obj.portCmd 0 = 1 ∧ (t.port p).step = 0) ∧
     (s.scratched = false → s.portState p ≠ 1 → s.portState p ≠ 2 → (s.port p).checking = false →
       ∃ t, exec (.portSelftest p) s = .next t ∧ (t.port p).checking = true ∧ t.rd Obj.portCmd 0 = 1))

/-- Light, FEC, loop, replay and self-test events act on their port; laser sources start, carry, hand over and leave.
From spec/08_fabric_ports_optics.md R221, R222, R223, R224, R228, R230, R232, R236, R240, R241. Readings and choices
of the model: log entries 24, 25, 26, 89. -/
def Obligations.PortEventsAndLaserSources : Prop :=
  (∀ (s : State) (p : Nat), p < 64 → s.scratched = false →
     (∀ light, s.portState p = 2 → exec (.portLos p light) s = .next (s.leaveUp p (if light then 2 else 1) 3)) ∧
     (∀ lanes errors, s.portMode p ≠ 0 → (s.port p).second + 1000000000 ≤ s.now → ∃ t,
       exec (.fecRate p lanes errors) s
         = .next (if s.fecAbove p errors (1000 * symbolsPerMs) then t.leaveUp p 4 3 else t) ∧
       (t.port p).second = s.now ∧ t.portState p = s.portState p ∧
       ∀ l x, l < 8 → lanes[l]? = some x → x.1 < 2 ^ 16 → x.2 < 2 ^ 32 →
         t.fld Obj.laneStatus (8 * p + l) 0 16 = x.1 ∧ t.fld Obj.laneStatus (8 * p + l) 32 32 = x.2) ∧
     (s.portState p = 2 → (s.port p).probe + 1000000000 ≤ s.now → ∃ t b, exec (.loopMeasure p) s = .next t ∧
       (t.port p).probe = s.now ∧ t.out = s.out ++ [.block p 3 b]) ∧
     (∀ c rest, s.portState p = 2 → (s.port p).stored = c :: rest → c.time + s.loopBasis p + 200 ≤ s.now →
       exec (.linkReplayTimeout p) s = .next (s.startReplay p c.seq)) ∧
     (∀ passed, (s.port p).checking = true →
       let u := s.setPort p { s.port p with checking := false, judge := false }
       exec (.selftestLoopbackDone p passed) s = .next (if passed = false then u.oeFails (p / 8) 4 p
         else if (s.port p).judge then u.report 3 (u.portPeer p) 1 else u)) ∧
     (∀ oe check, oe < 8 → check ∈ [1, 2, 3, 5, 6] → exec (.oeSelftest oe check) s = .next (s.oeChecked oe check)) ∧
     (∀ block errors train, s.portMode p = 1 → s.portState p ∉ [0, 4, 6, 7] →
       let k := s.fecCorrects p
       let u := (s.portError p 0 (errors.filter fun n => decide (n ≤ k)).sum).portError p 1
         (errors.filter fun n => decide (k < n)).length
       let body := sliceBytes block 0 256
       let tr := beCode (sliceBytes block 256 16)
       let type := bits tr 124 4
       let v := if bits tr 0 32 ≠ lcrc body tr ∨ (type = 4 ∧ s.cipherOn p = false) then u.badBlock p
         else (u.trailerIn p tr).blockByType p type tr body train
       exec (.linkBlockReceive p block errors train) s
         = .next (if v.portState p = 2 then (v.egressPump p).trackNote else v))) ∧
  (∀ (s : State) (e : Nat), e < 16 →
     (s.els e = 1 → ∃ t, exec (.elsOutputLoss e) s = .next t ∧ t.els e = 6) ∧
     (s.els e = 2 → s.els (elsPartner e) = 2 → s.elsLost = [] →
       exec (.elsOutputLoss e) s = .next { s with elsLost := [e] }) ∧
     ((s.els e = 2 ∨ s.els e = 3) → s.els (elsPartner e) = 4 → s.elsLost = [] → ∃ t, exec (.elsOutputLoss e) s = .next t ∧
       t.els e = 6 ∧ t.els (elsPartner e) = 3) ∧
     (s.elsLost.contains e = true → ∃ t, exec (.elsPartnerFull e) s = .next t ∧ t.els e = 6 ∧ t.els (elsPartner e) = 3) ∧
     (s.els e = 2 → s.els (elsPartner e) = 2 → s.elsLost = [] → ∃ t, exec (.elsRemove e) s = .next t ∧ t.els e = 4 ∧
       t.rd Obj.elsCmd 0 = 1) ∧
     (s.els (elsPartner e) ≠ 2 → exec (.elsRemove e) s = .next (s.wr Obj.elsCmd 0 2)) ∧
     (s.els e = 4 → ∃ t, exec (.elsCancel e) s = .next t ∧ t.els e = 2 ∧ t.rd Obj.elsCmd 0 = 1) ∧
     (s.els e ≠ 4 → exec (.elsCancel e) s = .next (s.wr Obj.elsCmd 0 3)) ∧
     (s.els e = 4 → KMap.get s.elsSince 0 e + 10000000 ≤ s.now → ∃ t, exec (.elsRampDone e) s = .next t ∧ t.els e = 5 ∧
       t.els (elsPartner e) = 3) ∧
     ((s.els e = 0 ∨ s.els e = 6 ∨ s.els e = 7) → ∀ info qualified, ∃ t, exec (.elsInsert e info qualified) s = .next t ∧
       t.els e = (if qualified then 1 else 7) ∧ t.fld Obj.elsInfo e 0 192 = bits info 0 192) ∧
     (s.els e = 1 → s.rampOver (16 + e) = true → (s.els (elsPartner e) = 3 ∨ s.els (elsPartner e) = 2) → ∃ t, exec (.elsStartDone e) s = .next t ∧
       t.els e = 2 ∧ t.els (elsPartner e) = 2) ∧
     (s.els e = 1 → s.rampOver (16 + e) = true → s.els (elsPartner e) ≠ 3 → s.els (elsPartner e) ≠ 2 → ∃ t, exec (.elsStartDone e) s = .next t ∧
       t.els e = 3) ∧
     ((s.els e = 5 ∨ s.els e = 6 ∨ s.els e = 7) → ∃ t, exec (.elsLatchOpen e) s = .next t ∧ t.els e = 0 ∧
       t.rd Obj.elsInfo e = 0))

/-- The Track looks up, copies, drops, matches and sends frames as its tables say. From spec/09_switch_core.md R254,
R255, R256, R261, R262, R265, R266, R271, R272, R276. Readings and choices of the model: log entries 51, 88. -/
def Obligations.TrackLooksUpAndMoves : Prop :=
  ∀ (s : State), s.scratched = false →
    (∀ pos f x u e, pos < 80 → s.arriving pos f false = (some x, u) → u.routeUnicast x.frame x.ingress = .egress e →
      (x.ingress ≠ 79 ∨ u.linkLocalPort x.frame = none) → (e < 64 ∨ 72 ≤ e ∨ (u.hasCompute = true ∧ u.power ≠ 2)) → let y := { x with looked := true }
      exec (.frameLookup pos f) s = .next ((u.setFrame y).addCopy y false e).trackNote) ∧
    (∀ pos f x u k, pos < 80 → s.arriving pos f false = (some x, u) → u.routeUnicast x.frame x.ingress = .drop k →
      (x.ingress ≠ 79 ∨ u.linkLocalPort x.frame = none) → exec (.frameLookup pos f) s = .next (u.dropFrame x k).trackNote) ∧
    (∀ f x u port, s.arriving 79 f false = (some x, u) → x.ingress = 79 → u.linkLocalPort x.frame = some port →
      let v := { u with linkLocals := u.linkLocals.erase (port, x.frame) }
      let y := { x with looked := true }
      exec (.frameLookup 79 f) s = .next (if s.portState port = 2 then (v.setFrame y).addCopy y false port
        else v.dropFrame x 8).trackNote) ∧
    (∀ pos f x u es missing, pos < 80 → s.arriving pos f true = (some x, u) →
      u.routeMulticast x.frame x.ingress = some (es, missing) → es ≠ [] →
      let y := { x with looked := true }
      let v := if missing = 0 then u else u.inc Obj.mcCopyDropped 0 0 64 missing
      exec (.mcLookup pos f) s = .next (es.foldl (fun s e => s.addCopy y true e) (v.setFrame y)).trackNote) ∧
    (∀ egress k x, egress < 80 → s.nextDeparture [] (s.releaseOrder egress) = some k → s.frameOf k.frame = some x →
      exec (.frameDeparture egress) s
        = .next ((((s.setCopy { k with began := true }).mirror k x).egressPump egress).trackNote)) ∧
    (∀ egress k, egress < 80 → s.classChecked 4 = false →
      s.copies.find? (fun k => k.egress == egress && !k.began && decide (s.rd Obj.fwdAgeNs 0 < s.now - k.time)
        && (match s.frameOf k.frame with | some x => x.cls == 4 | none => false)) = some k →
      exec (.fwdAgeExpiry egress) s = .next ((s.unqueueCopy k).countDrop 9).trackNote) ∧
    (∃ t, exec .cellMatch s = .next t ∧ t.cellTime = s.cellTime + 1)

/-- ROUTE_COMMIT makes the checked shadow tables active, or reports the first check that fails. From
spec/09_switch_core.md R263, R267, R268, R270. Readings and choices of the model: log entry 52. -/
def Obligations.RouteCommitSwapsTheCopies : Prop :=
  ∀ (s : State),
    (s.scratched = false → s.commitCheck = none → ∃ t, exec (.routeCommit 1) s = .next t ∧
      (∀ k, t.rd Obj.routeActive k = if k % 65536 < 0x1000 then s.rd Obj.routeShadow k else 0) ∧ (∀ p, t.rd Obj.orientActive p = s.rd Obj.orientShadow p) ∧
      (∀ g, t.rd Obj.mcActive g = s.rd Obj.mcShadow g) ∧ (∀ k, t.rd Obj.routeShadow k = s.rd Obj.routeShadow k) ∧
      (∀ p, p < 64 → (t.rd Obj.portUsable 0).testBit p = (s.portState p == 2)) ∧
      t.rd Obj.commitResult 0 = 0 ∧ t.rd Obj.routeCommit 0 = 2) ∧
    (∀ x, s.scratched = false → s.commitCheck = some x → ∃ t, exec (.routeCommit 1) s = .next t ∧
      t.rd Obj.routeCommit 0 = 3 ∧ t.rd Obj.commitResult 0 = x.code + x.cls * 2 ^ 8 + x.index * 2 ^ 16 + x.port * 2 ^ 32 ∧
      (∀ k, t.rd Obj.routeActive k = s.rd Obj.routeActive k)) ∧
    (s.scratched = true → exec (.routeCommit 1) s = .next (s.wr Obj.routeCommit 0 4)) ∧
    (∀ value, value ≠ 1 → exec (.routeCommit value) s = .next s)

/-- Copies are policed into their flow, picked by the scheduler with credits and shapers debited; flows come and go.
From spec/10_traffic_manager.md R286, R287, R288, R289, R290, R291, R293, R294, R295, R299, R300. Readings and choices
of the model: log entries 51, 88. -/
def Obligations.TrafficManagerMovesCopies : Prop :=
  (∀ (s : State) (port : Nat), port < 64 → s.scratched = false →
     (∀ k, s.copies.find? (fun k => k.egress == port && !k.queued) = some k →
       let f := s.flowFor port k.hdr
       let r := if (s.rd Obj.flowTable f).testBit 31 then s.police (s.flowFld f 32 16) (Frame.plen ⟨k.hdr, []⟩) else (.green, s)
       (r.1 = .red → exec (.flowEnqueue port) s
         = .next (((r.2.dropCopy k).reapFrame k.frame).inc Obj.tmgCounts 0 0 64 1).trackNote) ∧
       (r.1 ≠ .red →
         let m := r.2.markCopy { k with queued := true, flow := f } (Frame.bclass ⟨k.hdr, []⟩)
         let v := m.2.flowFills f
         exec (.flowEnqueue port) s
           = .next ((v.wrFld Obj.flowTable f 96 32 (v.flowFld f 96 32 + 1)).setCopy m.1).trackNote)) ∧
     (∀ x u, s.portState port = 2 → (s.settleMoves port).portCandidate port = (some x, u) → x.colour ≠ .red →
       let plen := Frame.plen ⟨x.copy.hdr, []⟩
       let v := x.own.foldl (fun s p => s.debitShaper p.1 plen p.2) u
       let w := x.path.foldl (fun s p => s.setCredit p.2 (s.credit p.2 - s.nodeLength p.1 plen)) v
       let z := w.setCopy { x.copy with pick := some w.nextPick }
       exec (.tmgPick port) s = .next (({ z with nextPick := z.nextPick + 1 }.flowLess x.copy.flow).trackNote)) ∧
     (∀ x u, s.portState port = 2 → (s.settleMoves port).portCandidate port = (some x, u) → x.colour = .red →
       exec (.tmgPick port) s = .next (u.inc Obj.tmgCounts 0 64 64 1))) ∧
  (∀ (s : State),
     (∀ value k, value < 2 ^ 64 → bits value 45 3 = 0 → bits value 48 8 = 1 → bits value 56 8 = 0 →
       s.findFlow (bits value 0 6) (bits value 6 3) (bits value 9 12) 1 2 = none →
       (value.testBit 28 = false ∨ s.rd Obj.tcKind (bits value 6 3) ≠ 0) →
       firstBelow 130560 (fun k => s.flowFld (512 + k) 0 2 == 0) = some k →
       ∃ t, exec (.flowCreate value) s = .next t ∧ t.flowFld (512 + k) 0 2 = 1 ∧
         t.flowFld (512 + k) 3 6 = bits value 0 6 ∧ t.flowFld (512 + k) 9 3 = bits value 6 3 ∧
         t.flowFld (512 + k) 12 12 = bits value 9 12 ∧ t.flowFld (512 + k) 48 16 = 16384 ∧
         t.rd Obj.flowCmd 0 = 1 + (512 + k) * 2 ^ 8) ∧
     (∀ value, value < 2 ^ 64 → bits value 45 3 = 0 → bits value 48 8 = 1 → bits value 56 8 = 0 →
       (s.findFlow (bits value 0 6) (bits value 6 3) (bits value 9 12) 1 2).isSome = true →
       exec (.flowCreate value) s = .next (s.wrFld Obj.flowCmd 0 0 8 3)) ∧
     (∀ f, 512 ≤ f → f < 2 ^ 17 → s.flowFld f 0 2 = 1 → ∃ t, exec (.flowDelete f) s = .next t ∧
       t.flowFld f 0 2 = (if s.flowFld f 96 32 = 0 then 0 else 2) ∧ t.fld Obj.flowCmd 0 0 8 = 1) ∧
     (∀ f, f < 512 → exec (.flowDelete f) s = .next (s.wrFld Obj.flowCmd 0 0 8 5)))

/-- The register instructions of a stream program write RD and nothing else. From spec/11_stream_programs.md R305,
R311, R314, R315, R316, R327. -/
def Obligations.EcmelRegisterInstructions : Prop :=
  ∀ (s : State) (u : Nat) (r : SuRun) (w : Nat),
    let g := r.reg (s.su u).kept
    (NextEcmel s u 0x00 r w → exec (.ecmelNop u) s = .next (ecmelGoesOn s u r 1)) ∧
    (NextEcmel s u 0x05 r w →
      exec (.movi u) s = .next (ecmelWrites s u r (ecRd w) (unsigned (signed (ecImm w) 32) 64))) ∧
    (NextEcmel s u 0x06 r w →
      exec (.ecmelAlu u) s = .next (ecmelWrites s u r (ecRd w) (aluOp (bits w 0 4) (g (ecRa w)) (g (ecRb w))))) ∧
    (NextEcmel s u 0x07 r w → exec (.ecmelGet u) s = .next (ecmelWrites s u r (ecRd w) (r.item (bits w 0 4)))) ∧
    (NextEcmel s u 0x08 r w →
      exec (.ecmelHdr u) s = .next (ecmelWrites s u r (ecRd w) (bits r.frame.hdr (192 - 64 * bits w 3 2) 64))) ∧
    (NextEcmel s u 0x09 r w → g (ecRa w) + bits w 0 13 + 8 ≤ r.payload.length → exec (.ldp u) s
      = .next (ecmelWrites s u r (ecRd w) (leCode (sliceBytes r.payload (g (ecRa w) + bits w 0 13) 8)))) ∧
    (NextEcmel s u 0x09 r w → r.payload.length < g (ecRa w) + bits w 0 13 + 8 → exec (.ldp u) s
      = .next (s.runFault u { r with executed := r.executed + 1 } 2)) ∧
    (NextEcmel s u 0x0A r w →
      exec (.padd u) s = .next (ecmelWrites s u r (ecRd w) (g (ecRd w) + g (ecRa w)))) ∧
    (NextEcmel s u 0x2A r w → g (ecRa w) < s.slotBmLen r.slot →
      exec (.btest u) s = .next (ecmelWrites s u r (ecRd w) (b2n (s.bitmapBit r.slot (g (ecRa w)))))) ∧
    (NextEcmel s u 0x2A r w → s.slotBmLen r.slot ≤ g (ecRa w) → exec (.btest u) s
      = .next (s.runFault u { r with executed := r.executed + 1 } 2)) ∧
    (∀ d v, d < 64 → (s.su u).run = some r → WritesRegister s (ecmelWrites s u r d v) u r d v)

/-- The control, output, bitmap and record instructions of a stream program have their stated effects. From
spec/11_stream_programs.md R312, R313, R315, R321, R322, R323, R324, R325, R326, R327, R328, R330. -/
def Obligations.EcmelControlOutputAndRecords : Prop :=
  (∀ (s : State) (u : Nat) (r : SuRun) (w : Nat),
     let g := r.reg (s.su u).kept
     let x := { r with executed := r.executed + 1 }
     (NextEcmel s u 0x01 r w → exec (.ecmelEnd u) s = .next (s.endRun u { x with cycles := r.cycles + 1 } 1)) ∧
     (NextEcmel s u 0x02 r w → exec (.ecmelDrop u) s = .next (s.endRun u { x with cycles := r.cycles + 1 } 3)) ∧
     (NextEcmel s u 0x03 r w → exec (.brz u) s = .next (s.setSu u { s.su u with run := some { x with
       pc := if g (ecRa w) = 0 then r.pc + 1 + bits w 0 8 else r.pc + 1, cycles := r.cycles + 1 } })) ∧
     (NextEcmel s u 0x04 r w → exec (.brnz u) s = .next (s.setSu u { s.su u with run := some { x with
       pc := if g (ecRa w) = 0 then r.pc + 1 else r.pc + 1 + bits w 0 8, cycles := r.cycles + 1 } })) ∧
     (NextEcmel s u 0x10 r w → exec (.ohdr u) s
       = .next (ecmelGoesOn s u { r with ohdr := setBits r.ohdr (192 - 64 * bits w 3 2) 64 (g (ecRa w)) } 1)) ∧
     (NextEcmel s u 0x11 r w → g (ecRa w) + bits w 0 16 + 8 ≤ suOutSize → exec (.oput u) s
       = .next (ecmelGoesOn s u (r.put (g (ecRa w) + bits w 0 16) (leBytes 8 (g (ecRb w)))) 1)) ∧
     (NextEcmel s u 0x12 r w → g (ecRa w) + g (ecRb w) ≤ r.payload.length → bits w 0 16 + g (ecRb w) ≤ suOutSize →
       exec (.ocopy u) s = .next (ecmelGoesOn s u (r.put (bits w 0 16) (sliceBytes r.payload (g (ecRa w)) (g (ecRb w))))
         (1 + ceilDiv (g (ecRb w)) 64))) ∧
     (NextEcmel s u 0x31 r w → bits w 0 16 + (bits w 16 12 + 1) ≤ suOutSize → exec (.ozero u) s
       = .next (ecmelGoesOn s u (r.put (bits w 0 16) (List.replicate (bits w 16 12 + 1) 0)) (1 + ceilDiv (bits w 16 12 + 1) 64))) ∧
     (NextEcmel s u 0x30 r w → g (ecRa w) + (bits w 16 12 + 1) ≤ r.payload.length → bits w 0 16 + (bits w 16 12 + 1) ≤ suOutSize →
       exec (.gfmac u) s = .next (ecmelGoesOn s u (r.put (bits w 0 16) (xorBytes (r.outBytes (bits w 0 16) (bits w 16 12 + 1))
         (gfScale (g (ecRb w) % 256) (sliceBytes r.payload (g (ecRa w)) (bits w 16 12 + 1))))) (1 + ceilDiv (bits w 16 12 + 1) 64))) ∧
     (NextEcmel s u 0x13 r w → g (ecRa w) + g (ecRb w) ≤ suOutSize → s.sendable ⟨r.ohdr, []⟩ (g (ecRb w)) = true →
       s.posCount (72 + u / 8) (Frame.bclass ⟨r.ohdr, []⟩) < s.allowance (Frame.bclass ⟨r.ohdr, []⟩) →
       let hdr := setBits (setBits (setBits r.ohdr 196 14 (g (ecRb w))) 224 16 s.devId) 210 6
         (min (Frame.hops ⟨r.ohdr, []⟩) r.frame.hops)
       exec (.ecmelSend u) s = .next (ecmelGoesOn
         ((s.send (.frame ⟨hdr, r.outBytes (g (ecRa w)) (g (ecRb w))⟩)).suCount r.slot 2 1) u r (1 + ceilDiv (32 + g (ecRb w)) 64))) ∧
     (NextEcmel s u 0x2B r w → g (ecRa w) < s.slotBmLen r.slot → ∃ v, exec (.bset u) s = .next (ecmelGoesOn v u r 1) ∧
       v.bitmapBit r.slot (g (ecRa w)) = w.testBit 0 ∧
       (∀ j, j ≠ g (ecRa w) → v.bitmapBit r.slot j = s.bitmapBit r.slot j) ∧ { v with mem := s.mem } = s)) ∧
  (∀ (s : State) (u : Nat) (r : SuRun) (w : Nat),
     let g := r.reg (s.su u).kept
     let y := { r with executed := r.executed + 1 }
     (∀ f, NextEcmel s u 0x28 r w → ecFormat (ecFmt w) = some f →
       let rs := if w.testBit 1 then 16 else 8
       r.payload.length % rs = 0 →
       let all := recordsOf rs r.payload
       let good := all.filter (recordOk f)
       let kept := good.filter fun x =>
         decide (bits x 32 32 < s.slotBmLen r.slot) && (s.bitmapBit r.slot (bits x 32 32) == w.testBit 0)
       let v := (((s.suCount r.slot 5 kept.length).suCount r.slot 6 (good.length - kept.length)).suCount r.slot 7
         (good.filter fun x => decide (s.slotBmLen r.slot ≤ bits x 32 32)).length).suCount r.slot 8 (all.length - good.length)
       let a := v.setReg u { y with payload := kept.flatMap (leBytes rs) } (ecRd w) kept.length
       exec (.ecmelFilt u) s = .next (a.1.setSu u { a.1.su u with
         run := some { a.2 with pc := a.2.pc + 1, cycles := a.2.cycles + (1 + all.length) } })) ∧
     (∀ c v r', NextEcmel s u 0x20 r w → s.rsum u y w g = .go v r' c → exec (.ecmelRsum u) s = .next (v.setSu u { v.su u with
       run := some { r' with pc := r'.pc + 1, cycles := r'.cycles + c } })) ∧
     (∀ x v, NextEcmel s u 0x21 r w →
       let n := bits w 0 12 + 1
       n * r.payload.length ≤ 4096 →
       s.openRec u r.slot (g (ecRa w)) [1, n, r.payload.length] (n * r.payload.length) = .ok (x, v) →
       x.params = [1, n, r.payload.length] → g (ecRb w) < n → x.seen.contains (g (ecRb w)) = false →
       let z := { x with seen := x.seen ++ [g (ecRb w)], parts := x.parts ++ [(g (ecRb w), r.payload)], done := x.done + 1 }
       let out := if z.done = n then z.parts.foldl (fun r p => r.put (p.1 * r.payload.length) p.2) y else y
       let k := if z.done = n then (v.setSuRec u z).closeRec u z else v.setSuRec u z
       let a := k.setReg u out (ecRd w) (if z.done = n then 1 else 0)
       exec (.ecmelGath u) s = .next (a.1.setSu u { a.1.su u with
         run := some { a.2 with pc := a.2.pc + 1, cycles := a.2.cycles + (1 + ceilDiv r.payload.length 64) } })) ∧
     (∀ c v r', NextEcmel s u 0x29 r w → s.mergeRun u y w g = .go v r' c → exec (.ecmelMerge u) s = .next (v.setSu u { v.su u with
       run := some { r' with pc := r'.pc + 1, cycles := r'.cycles + c } })))

/-- Frames are delivered to bound slots and run; programs load, bind, unbind and clear. From
spec/11_stream_programs.md R307, R308, R309, R310, R311, R317, R319, R320, R331, R334, R335. Readings and choices of
the model: log entries 27, 54. -/
def Obligations.StreamUnitsRunTheirPrograms : Prop :=
  (∀ (s : State), s.scratched = false →
     (∀ ingress f,
       let e := if f.mc then s.rd Obj.mcSuMap (f.dest % 4096)
         else s.rd Obj.divertMap ((if f.bclass = 4 then 4096 else 0) + f.dest % 4096);
       let slot := bits e 0 8;
       e.testBit 15 = true → s.slotBound slot = true → s.slotKind slot = (if f.mc then 2 else 1) →
       (f.bclass = 3 ∨ f.bclass = 4) →
       exec (.suFrameDeliver ingress f) s = .next (s.suTake slot ingress f) ∧
       (s.slotFree slot ≠ 0 → 32 + f.plen ≤ s.poolSize (s.slotPool slot) →
         ((s.suTake slot ingress f).su (slot / 8)).waiting = (s.su (slot / 8)).waiting ++ [⟨slot, ingress, f⟩])) ∧
     (∀ u w rest, u < 32 → (s.su u).run = none → (s.su u).waiting = w :: rest → s.guardWaits u = false →
       s.slotKind w.slot ≠ 3 → ∃ t r, exec (.suRunStart u) s = .next t ∧ (t.su u).run = some r ∧ (t.su u).waiting = rest ∧
         r.slot = w.slot ∧ r.frame = w.frame ∧ r.payload = w.frame.payload ∧ r.pc = 0 ∧ r.executed = 0 ∧ r.regs = [] ∧
         r.cycles = 4) ∧
     (∀ ctx g, ctx < 4096 → (s.dst ctx).store = some g → g.phase = 1 → (s.su (guardSu ctx g.wid)).run = none →
       s.deltaRoom g.desc = true → exec (.guardRun ctx) s = .next ((s.incSat Obj.suBusy (guardSu ctx g.wid) 0 64
         (4 + 3 * ceilDiv g.old.length 64)).guardDeltas ctx))) ∧
  (∀ (s : State) (slot : Nat), slot < 256 →
     (s.slotBound slot = false → s.slotReserved slot = false → loaderCheck (s.rd Obj.programStage 0) = none →
       ∃ t, exec (.programLoad slot) s = .next t ∧ t.rd Obj.programText slot = s.rd Obj.programStage 0 ∧
         t.fld Obj.programInfo slot 0 1 = 1 ∧ t.fld Obj.programInfo slot 8 16 = bits (s.rd Obj.programStage 0) 0 16 ∧
         t.fld Obj.programInfo slot 64 64 = (s.fld Obj.programInfo slot 64 64 + 1) % 2 ^ 64 ∧ t.rd Obj.programLoad 0 = 1) ∧
     (∀ reason i, s.slotBound slot = false → s.slotReserved slot = false →
       loaderCheck (s.rd Obj.programStage 0) = some (reason, i) →
       exec (.programLoad slot) s = .next (s.wr Obj.programLoad 0 (3 + reason * 2 ^ 8 + i * 2 ^ 16))) ∧
     (s.slotBound slot = true → exec (.programLoad slot) s = .next (s.wr Obj.programLoad 0 4) ∧
       exec (.programClear slot) s = .next (s.wr Obj.programLoad 0 4)) ∧
     (s.slotBound slot = false → s.slotReserved slot = false → ∃ t, exec (.programClear slot) s = .next t ∧
       t.rd Obj.programText slot = 0 ∧ t.fld Obj.programInfo slot 0 1 = 0 ∧ t.rd Obj.programLoad 0 = 2) ∧
     (∀ ecc, let d := s.rd Obj.bindDesc 0;
       let a := s.poolReserve (bits d 8 6) (ownerSlot slot) (bits d 16 16) ecc;
       (s.bindSlot slot d [1, 2] ecc).1 = 1 → ∃ t, exec (.bind slot ecc) s = .next t ∧ t.rd Obj.bindCmd 0 = 1 ∧
         t.slotBound slot = true ∧ t.slotKind slot = bits d 0 3 ∧ t.slotUsed slot = 0 ∧ t.rd Obj.suFault slot = 0 ∧
         KMap.get t.suBufs [] slot = a.bufs) ∧
     (∀ ecc, (s.bindSlot slot (s.rd Obj.bindDesc 0) [1, 2] ecc).1 ≠ 1 → ∃ t, exec (.bind slot ecc) s = .next t ∧
       t.rd Obj.bindCmd 0 = (s.bindSlot slot (s.rd Obj.bindDesc 0) [1, 2] ecc).1 ∧ t.slotBound slot = s.slotBound slot) ∧
     (s.slotBound slot = true → s.slotKind slot < 3 → s.slotActive slot = false → ∃ t, exec (.unbind slot) s = .next t ∧
       t.slotBound slot = false ∧ KMap.get t.suBufs [] slot = [] ∧ t.rd Obj.bindCmd 0 = 1) ∧
     (s.slotBound slot = true → s.slotKind slot < 3 → ∃ t, exec (.forceUnbind slot) s = .next t ∧
       t.slotBound slot = false ∧ KMap.get t.suBufs [] slot = [] ∧ t.rd Obj.bindCmd 0 = 1) ∧
     (∀ u, u < 32 → (s.su u).run = none → (s.su u).later = [] → ∃ t, exec (.bitmapClear u) s = .next t ∧
       t.rd Obj.bitmapClear 0 = 1 ∧ (∀ off, off < 2 ^ 21 → t.mem8 spaceBitmap (u * 2 ^ 21 + off) = 0)))

/-- SETUP opens a context with its reservations, DESTROY and RESUME end or restart it. From spec/12_collectives.md
R337, R338, R339, R340, R341, R364. Readings and choices of the model: log entries 55, 87. -/
def Obligations.CollectiveGroupCommands : Prop :=
  ∀ (s : State),
    (∀ c ecc, let d := s.rd Obj.groupDesc 0
      let y : CtxSt := { CtxSt.init with desc := d }
      let x : CtxSt := { y with members := (List.range y.n).map (s.rd Obj.memberTable), rps := (List.range y.r).map (s.rd Obj.rpTable) }
      let pool := bits d 56 6
      s.inRun = true → (List.range 64).find? (fun c => s.ctxState c == 0) = some c → s.groupDescOk x = true →
      (List.range 64).any (fun k => s.ctxState k != 0 && (s.ctx k).group == x.group) = false → (x.mode = 2 → s.repro = false) →
      s.groupTreeOk x = true → (x.rp = true → 2 ^ bits d 52 2 ≤ s.freeSlots.length) → 4128 ≤ s.poolSize pool →
      let need := (if x.member then 16 * x.w else 0) + (if x.rp then 16 * ceilDiv x.w x.r * (x.n +
        (match ecFormat x.typeIn with | some f => recSlots x.mode f (s.poolSize pool) | none => 0) + 1) else 0)
      let a := s.poolReserve pool (ownerCtx c) need ecc
      let slots := if x.rp then s.freeSlots.take (2 ^ bits d 52 2) else []
      let u := slots.foldl (fun s k => s.bindCle x k) (a.state.setCtx c { x with bufs := a.bufs, slots := slots })
      let t := ((u.wr Obj.ctxState c (1 + x.group * 2 ^ 16 + bits d 128 32 * 2 ^ 32 + bits d 112 16 * 2 ^ 64
        + bits d 160 32 * 2 ^ 96 + need * 2 ^ 160)).wr Obj.ctxCounts c 0).wr Obj.groupCmd 0 (1 + c * 2 ^ 8)
      (a.code ≠ 1 → exec (.groupSetup ecc) s = .next (a.state.wrFld Obj.groupCmd 0 0 8 8)) ∧
      (a.code = 1 → exec (.groupSetup ecc) s = .next t ∧ t.ctxState c = 1 ∧ t.fld Obj.ctxState c 16 16 = x.group ∧
        t.fld Obj.ctxState c 32 32 = bits d 128 32 ∧ t.ctxEpoch c = bits d 112 16 ∧ t.fld Obj.ctxState c 96 32 = bits d 160 32 ∧
        t.ctx c = { x with bufs := a.bufs, slots := slots } ∧ (∀ k, k ∈ slots → t.slotBound k = true ∧ t.slotKind k = 3) ∧
        t.rd Obj.ctxCounts c = 0 ∧ t.rd Obj.groupCmd 0 = 1 + c * 2 ^ 8)) ∧
    (∀ c, c < 64 → s.ctxState c = 1 ∨ s.ctxState c = 3 →
      let x := s.ctx c
      let u := (x.slots.foldl State.unbindCle s).poolRelease (bits x.desc 56 6) (ownerCtx c) x.bufs
      let v := x.outbox.foldl (fun s f => s.send (.channel (76 + c % 2) f)) u
      let t := ((v.setCtx c CtxSt.init).wr Obj.ctxState c 0).wrFld Obj.groupCmd 0 0 8 1
      exec (.groupDestroy c) s = .next t ∧ t.ctxState c = 0 ∧ t.ctx c = CtxSt.init ∧ t.fld Obj.groupCmd 0 0 8 = 1 ∧
        (∀ k, k ∈ x.slots → t.slotBound k = false)) ∧
    (∀ c, c < 64 → s.ctxState c = 3 →
      let x := s.ctx c
      let first := (KMap.get x.firsts none (s.ctxAbortSeq c)).getD (s.fld Obj.ctxState c 96 32)
      ∃ t, exec (.groupResume c) s = .next t ∧ t.ctxState c = 1 ∧
      t.fld Obj.ctxState c 32 32 = s.ctxAbortSeq c ∧ t.ctxEpoch c = (s.ctxEpoch c + 1) % 2 ^ 16 ∧
      t.fld Obj.ctxState c 96 32 = first % 2 ^ 32 ∧ t.fld Obj.ctxState c 8 8 = 0 ∧
      t.ctx c = { x with retained := [], digests := [], aborted := false, early := [], parts := [], chunks := [] } ∧
      t.fld Obj.groupCmd 0 0 8 = 1) ∧
    (∀ c, c < 64 → s.ctxState c = 0 ∨ s.ctxState c = 2 → exec (.groupDestroy c) s = .next (s.wrFld Obj.groupCmd 0 0 8 9) ∧
      exec (.groupResume c) s = .next (s.wrFld Obj.groupCmd 0 0 8 9))

/-- Contribution chunks are sent and resent, results assembled and sent, and an abort reaches every context of its
group. From spec/12_collectives.md R353, R356, R357, R358, R360, R361, R362, R363. Readings and choices of the model:
log entries 28, 29, 77, 87. -/
def Obligations.CollectiveChunksResultsAndAborts : Prop :=
  (∀ (s : State), s.scratched = false →
     (∀ c k i, c < 64 → (s.ctxState c = 2 ∨ s.ctxState c = 3) → s.nextSend c = some (k, i) →
       (isExchange k.op = false ∨ (exchangeAt k (s.ctx c) (s.ctx c).n 0 i).1 ≠ (s.ctx c).n - 1) →
       exec (.chunkSend c .clean) s = .next (((s.sendChunk c k i 0).ctxCount c 0 1).setColl c { k with
         sent := i + 1, times := KMap.set k.times 0 (if isExchange k.op then 1 else k.chunkAt (s.ctx c) i) s.now })) ∧
     (∀ c k i, c < 64 → (s.ctxState c = 2 ∨ s.ctxState c = 3) → s.nextSend c = some (k, i) → isExchange k.op = true →
       (exchangeAt k (s.ctx c) (s.ctx c).n 0 i).1 = (s.ctx c).n - 1 → k.recv = (s.ctx c).n - 1 →
       k.contribs (s.ctx c) ≤ k.handed → exec (.chunkSend c .clean) s = .next (s.copyOwn c k)) ∧
     (∀ f ecc c r, cleType f = 3 → cleSub f = 2 → s.findCtx (cleGroup f) true = some c →
       (s.ctx c).retained.find? (fun r => r.1 == cleSeq f && r.2.1 == cleArg0 f) = some r →
       s.ctxTakes c (cleEpoch f) (cleSeq f) = true → exec (.retryFrame f ecc) s
         = .next ((s.sendResult c (cleSeq f) (cleArg0 f) 1 r.2.2 (some f.src)).ctxCount c 4 1)) ∧
     (∀ f c k i, cleType f = 3 → cleSub f = 2 → s.findCtx (cleGroup f) true = none → s.findCtx (cleGroup f) false = some c →
       s.ctxTakes c (cleEpoch f) (cleSeq f) = true → s.collOf c (cleSeq f) = some k →
       (isExchange k.op = true ∨ s.resultAsked c (cleSeq f) (cleArg0 f) f.src = false) →
       k.retryIndex (s.ctx c) (cleArg0 f) f.src = some i → i < k.sent →
       exec (.retryFrame f .clean) s = .next ((s.sendChunk c k i 1).ctxCount c 4 1)) ∧
     (∀ c a, c < 64 → (s.ctx c).parts.find? (fun a => !a.parts.isEmpty && decide (a.since + s.fld Obj.collTimeout 0 0 32 ≤ s.now)) = some a →
       let x := s.ctx c
       exec (.chunkTimeout c) s = .next ((s.chunkFails c a (if a.rank < 4096 then x.members.getD a.rank 0
         else if a.rank = 4096 then x.rps.getD (a.chunk % x.r) 0 else x.members.getD (a.rank - 4097) 0) 3).ctxNote c)) ∧
     (∀ c k rest l, c < 64 → (s.ctx c).colls = k :: rest →
       (if isExchange k.op then s.lateExchange (s.ctx c) k else s.lateResult c (s.ctx c) k) = some l →
       let u := s.ctxCount c 2 1
       let j := { k with failed := l.key :: k.failed, times := KMap.set k.times 0 l.timer s.now }
       exec (.resultTimeout c) s = .next (if k.failed.contains l.key then u.collAbort c k.seq 3
         else match l.again with
           | some i => (u.setColl c j).sendChunk c j i 1
           | none => ((u.setColl c { j with retries := k.retries + 1 }).ctxCount c 3 1).sendControl c l.source false 2
               k.seq k.epoch 0 l.arg 0 0))) ∧
  (∀ (s : State), s.scratched = false →
     (∀ c target r, c < 64 → (s.ctx c).chunks.find? (fun r => r.results.length == r.lens.length) = some r →
       s.collOf c r.seq = none →
       let x := s.ctx c
       let got := (List.range r.lens.length).map fun p => ((r.results.find? fun q => q.1 == p).map (·.2)).getD []
       let parts := resultParts got.flatten
       let retained := x.retained ++ [(r.seq, r.gchunk, parts)]
       let u := s.setCtx c { x with
         chunks := x.chunks.filter (fun p => !(p.seq == r.seq && p.gchunk == r.gchunk)), retained := retained.drop (retained.length - ceilDiv x.w x.r) }
       (r.op ≠ 2 → r.op ≠ 3 → exec (.resultAssemble c target) s
         = .next (((u.sendResult c r.seq r.gchunk 0 parts none).ctxCount c 0 1).ctxNote c)) ∧
       (r.op = 2 ∨ r.op = 3 →
         let v := u.sendResult c r.seq r.gchunk 0 parts (some (x.members.getD target 0))
         exec (.resultAssemble c target) s = .next (((v.sendControl c (x.mgBase + x.myRp) true 3 r.seq (v.ctxEpoch c)
           ((KMap.get x.digests none r.seq).getD 0) r.gchunk 0 0).ctxCount c 0 1).ctxNote c))) ∧
     (∀ f, cleType f = 3 → cleSub f = 4 → exec (.abortFrame f) s = .next (foldUp (fun c u =>
       if u.ctxState c ≠ 0 ∧ (u.ctx c).group = cleGroup f ∧ u.ctxEpoch c = cleEpoch f ∧ u.ctxState c ≠ 3
       then (u.abortSpread c (cleArg0 f) (bits (leCode f.payload) 64 8)).abortHere c (cleArg0 f) (bits (leCode f.payload) 64 8)
       else u) 0 64 s)) ∧
     (∀ c seq cause, s.ctxState c ≠ 0 → s.ctxState c ≠ 3 → (s.ctx c).colls = [] → (s.ctx c).slots = [] →
       (s.abortHere c seq cause).ctxState c = 3 ∧ (s.abortHere c seq cause).ctxAbortSeq c = seq % 2 ^ 32 ∧
       (s.abortHere c seq cause).fld Obj.ctxState c 8 8 = cause % 2 ^ 8))

/-- CONTRIB, RESULT, DONE, GRANT and DIRECT frames that complete a chunk take effect once its checks pass. From
spec/12_collectives.md R348, R350, R351, R354, R356, R358, R360. Readings and choices of the model: log entries 29,
55. -/
def Obligations.CollectiveFramesAreTaken : Prop :=
  ∀ (s u : State) (f : Frame) (c : Nat) (a : Assembly) (ps : List (List Byte)), s.scratched = false →
    s.ctxTakes c (cleEpoch f) (cleSeq f) = true →
    let x := s.ctx c
    let seq := cleSeq f
    let g := cleChunk f
    (∀ op, cleType f = 0 → s.findCtx (cleGroup f) true = some c → x.retained.any (fun r => r.1 == seq && r.2.1 == g) = false →
      s.rpChunk c seq g = none → u.rpChunk c seq g = none →
      s.partIn c g (cleRank f) (x.members.getD (cleRank f) 0) f = (some (a, ps), u) →
      let y := u.ctx c
      (KMap.get y.digests none seq).getD (cleDigest f) = cleDigest f →
      (∀ k, u.collOf c seq = some k → ps.map (·.length)
        = (partsOf (List.replicate (k.place y (g - k.first)).1 0)).map (·.length)) →
      let low := match KMap.get y.firsts none seq with | some y => min y g | none => g
      let v := u.setCtx c { y with
        digests := KMap.set y.digests none seq (some (cleDigest f)), firsts := KMap.set y.firsts none seq (some low) }
      let r : RpChunk := ⟨seq, g, u.rpOp c seq op, ps.map (·.length), [cleRank f], []⟩
      exec (.contribFrame f op) s = .next ((if isMove (u.rpOp c seq op)
        then v.setRpChunk c { r with results := ps.zipIdx.map fun p => (p.2, p.1) }
        else (v.setRpChunk c r).toSus c a).ctxNote c)) ∧
    (∀ k, cleType f = 1 → s.findCtx (cleGroup f) false = some c → s.collOf c seq = some k → k.first ≤ g → g - k.first < k.count →
      k.got.contains (g - k.first) = false → s.partIn c g 4096 (x.rps.getD (g % x.r) 0) f = (some (a, ps), u) →
      cleDigest f = k.digest x → k.mine x (g - k.first) = true →
      ps.map (·.length) = (resultParts (List.replicate (k.resultLen x (g - k.first)) 0)).map (·.length) →
      let v := u.writeLocal (k.dst + (k.place x (g - k.first)).2.2) ps.flatten
      let j := (v.collOf c k.seq).getD k
      exec (.resultFrame f) s = .next ((((v.setColl c { j with got := (g - k.first) :: j.got, written := j.written + 1 }).resFlag
        c j).collNote c).ctxNote c)) ∧
    (∀ k, cleType f = 3 → cleSub f = 3 → s.findCtx (cleGroup f) false = some c → s.collOf c seq = some k →
      let ch := cleArg0 f - k.first
      cleDigest f = k.digest x → k.first ≤ cleArg0 f → ch < k.count → k.got.contains ch = false → k.mine x ch = false →
      exec (.doneFrame f) s = .next (((s.setColl c { k with got := ch :: k.got }).collNote c).ctxNote c)) ∧
    (∀ k j, cleType f = 3 → cleSub f = 1 → s.findCtx (cleGroup f) false = some c → s.collOf c seq = some k →
      isExchange k.op = true → x.members.findIdx? (fun d => d == f.src) = some j →
      let ended := (leCode (sliceBytes f.payload 4 4)).testBit 0
      exec (.grantFrame f) s = .next (((s.setColl c { k with
        granted := KMap.set k.granted 0 j (max (KMap.get k.granted 0 j) (cleArg0 f)), times := KMap.set k.times 0 1 s.now,
        ended := if ended ∧ !k.ended.contains j then j :: k.ended else k.ended }).collNote c).ctxNote c)) ∧
    (∀ k, cleType f = 2 → s.findCtx (cleGroup f) false = some c → s.collOf c seq = some k → isExchange k.op = true →
      let idx := bits f.hdr 84 16
      let src := cleRank f
      let span := (k.pair x src).2
      k.recv < x.n - 1 → src = recvFrom x k.recv → k.recvGot.contains idx = false →
      s.partIn c idx (4097 + src) (x.members.getD src 0) f = (some (a, ps), u) → cleDigest f = k.digest x →
      bits f.hdr 68 16 + 1 = chunksOf span → 
      ps.map (·.length) = (partsOf (List.replicate (chunkLen span idx) 0)).map (·.length) →
      let v := u.writeLocal (k.dst + (k.pairAt x src).2 + 65536 * idx) ps.flatten
      let j := (v.collOf c k.seq).getD k
      let w := v.resFlag c j
      let z := { j with recvGot := idx :: j.recvGot, written := j.written + 1, times := KMap.set j.times 0 0 w.now }
      exec (.directFrame f) s = .next ((if z.recvGot.length = chunksOf span
        then (((w.sendControl c (x.members.getD src 0) false 1 z.seq z.epoch (z.digest x) (chunksOf span) 1 0).grantNext c
          { z with recv := z.recv + 1, recvGranted := 0, recvGot := [] }).grantAll c).collNote c
        else (w.grantNext c z).grantAll c).ctxNote c))

/-- Pools allocate from their head to one owner, take back only from it, and are made and unmade when unheld. From
spec/13_buffer_pools_and_check_values.md R369, R370, R371, R372, R373, R374, R375, R377, R389. Readings and choices of
the model: log entries 53, 54, 77, 91. -/
def Obligations.BufferPoolsServeTheirOwners : Prop :=
  (∀ (s : State) (p owner b : Nat), p < 64 → 1 ≤ s.poolState p → s.poolState p ≤ 4 →
     let held := (s.poolHeld p + 1) % 2 ^ 32
     let next := bits (leCode (s.poolRead p (s.bufAt p b) 8)) 0 32
     ((s.pool p).head = some b → s.poolFree p ≠ 0 → s.linkGood p b = true →
       (∃ t, exec (.bpmAllocHigh owner p .clean) s = .next t ∧ t.ownerOf p b = owner ∧ t.poolFree p = s.poolFree p - 1 ∧
         t.poolHeld p = held ∧ (t.pool p).head = (if next = 0xFFFFFFFF then none else some next) ∧
         (∀ q j, 2 ^ 23 * q + j ≠ 2 ^ 23 * p + b → t.ownerOf q j = s.ownerOf q j)) ∧
       (s.poolState p ≠ 3 → ∃ t, exec (.bpmAllocLow owner p .clean) s = .next t ∧ t.ownerOf p b = owner ∧
         t.poolFree p = s.poolFree p - 1 ∧ t.poolHeld p = held) ∧
       (∃ t, exec (.bpmReserve owner p 1 .clean) s = .next t ∧ t.ownerOf p b = owner ∧ t.poolFree p = s.poolFree p - 1 ∧
         t.poolHeld p = held)) ∧
     (∀ n bs u, n ≤ s.poolFree p → popMany p owner n [] s = some (bs, u) → exec (.bpmReserve owner p n .clean) s
       = .next ((⟨1, bs, (u.poolCountUp p 2 n).poolNote p⟩ : PoolAns).finish owner)) ∧
     (∀ ecc, s.poolFree p = 0 → exec (.bpmAllocLow owner p ecc) s = .next ((⟨3, [], s.poolCountUp p 4 1⟩ : PoolAns).finish owner)) ∧
     (∀ ecc, s.poolFree p ≠ 0 → s.poolState p = 3 →
       exec (.bpmAllocLow owner p ecc) s = .next ((⟨2, [], s.poolCountUp p 3 1⟩ : PoolAns).finish owner)) ∧
     (b < s.poolCount p → s.ownerOf p b = owner → owner ≠ 0 →
       (∃ t, exec (.bpmFree owner p b) s = .next t ∧ t.ownerOf p b = 0 ∧ t.poolFree p = (s.poolFree p + 1) % 2 ^ 32 ∧
         t.poolHeld p = s.poolHeld p - 1 ∧ (t.pool p).head = some b) ∧
       (∀ o, ownerOk o = true → ∃ t, exec (.bpmHandover owner p b o) s = .next t ∧ t.ownerOf p b = o ∧
         t.poolFree p = s.poolFree p ∧ t.poolHeld p = s.poolHeld p)) ∧
     (b < s.poolCount p → s.ownerOf p b ≠ owner → ∃ t, exec (.bpmFree owner p b) s = .next t ∧ t.ownerOf p b = s.ownerOf p b ∧
       t.poolFree p = s.poolFree p ∧ t.fld Obj.poolReject p 0 32 = b % 2 ^ 32)) ∧
  (∀ (s : State) (p : Nat), p < 64 →
     (s.poolState p = 0 → s.poolValid p = true → ∃ t, exec (.poolInit p) s = .next t ∧ t.poolState p = 6 ∧
       (t.pool p).inits = (s.pool p).inits + 1 ∧ t.fld Obj.poolCmd 0 0 8 = 1) ∧
     (s.poolState p = 0 → s.poolValid p = false → exec (.poolInit p) s = .next (s.wrFld Obj.poolCmd 0 0 8 8)) ∧
     (s.poolState p = 6 → ∃ t, exec (.poolInitDone p) s = .next t ∧ t.poolFree p = s.poolCount p ∧ t.poolHeld p = 0 ∧
       (t.pool p).head = some 0 ∧ t.fld Obj.poolState p 96 32 = s.poolCount p ∧ (∀ b, b < 2 ^ 23 → t.ownerOf p b = 0)) ∧
     (s.poolHeld p = 0 → s.poolState p ≠ 6 → ∃ t, exec (.poolDisable p) s = .next t ∧ t.poolState p = 0 ∧ t.poolFree p = 0 ∧
       (t.pool p).head = none ∧ t.fld Obj.poolCmd 0 0 8 = 1) ∧
     (s.poolHeld p ≠ 0 → exec (.poolDisable p) s = .next (s.wrFld Obj.poolCmd 0 0 8 6)) ∧
     (∀ b, b < 2 ^ 32 → exec (.ownerQuery (p + b * 2 ^ 32)) s = .next (s.wr Obj.ownerQuery 0
       (if s.poolState p = 0 then 2 * 2 ^ 16 else if s.poolCount p ≤ b then 2 ^ 16 else s.ownerOf p b))))

/-- A CVU gives the check value of exactly the bytes fed; scan jobs are queued, run in order and can be cancelled.
From spec/13_buffer_pools_and_check_values.md R379, R381, R383, R384, R385, R386, R387, R390. Readings and choices of
the model: log entries 30, 31, 77. -/
def Obligations.CheckValueUnitsAndScans : Prop :=
  (∀ (s : State) (c : Nat), c < 16 → s.cvuClosed c = false →
     (s.cvuState c ≠ 1 → ∃ t, exec (.cvuStart c) s = .next t ∧ t.cvuReg c = bits (s.rd Obj.cvuParams c) 128 64 ∧ t.cvuBytes c = 0 ∧
       t.rd Obj.cvuCmd 0 = 1) ∧
     (s.cvuState c ≠ 1 → ∃ t, exec (.cvuFinish c) s = .next t ∧
       t.fld Obj.cvuState c 64 64 = crcResult (s.cvuParams c) (s.cvuReg c) % 2 ^ 64 ∧ t.cvuReg c = s.cvuReg c ∧ t.rd Obj.cvuCmd 0 = 1) ∧
     (s.cvuState c = 1 → exec (.cvuStart c) s = .next (s.wr Obj.cvuCmd 0 3) ∧ exec (.cvuFinish c) s = .next (s.wr Obj.cvuCmd 0 3)) ∧
     (let d := s.rd Obj.feedDesc 0;
       bits d 98 30 = 0 → bits d 64 32 ≠ 0 → s.rangeOk (bits d 0 64) (bits d 64 32) = true → (s.cvu c).feeds = [] →
       ∃ t, exec (.feed c) s = .next t ∧ (t.cvu c).feeds = [⟨bits d 0 64, bits d 64 32, d.testBit 96, d.testBit 97⟩] ∧
         t.cvuState c = 1 ∧ t.fld Obj.cvuState c 128 64 = bits d 64 32 ∧ t.rd Obj.cvuCmd 0 = 1) ∧
     (∀ x rest fed, (s.cvu c).feeds = x :: rest → s.cvuState c = 1 →
       let was := s.fld Obj.cvuState c 128 64
       let place := x.addr + (x.len - was)
       (∃ t, exec (.cvuSuspend c fed) s = .next t ∧ t.cvuState c = 2 ∧
         t.fld Obj.cvuState c 128 64 = was - min was (ceilDiv (place + fed) 64 * 64 - place)) ∧
       (∃ t, exec (.cvuCancel c fed) s = .next t ∧ t.cvuState c = 0 ∧ (t.cvu c).feeds = [] ∧ t.fld Obj.cvuState c 128 64 = 0)) ∧
     (s.cvuState c = 2 → ∃ t, exec (.cvuResume c) s = .next t ∧ t.cvuState c = 1 ∧ t.cvuReg c = s.cvuReg c ∧ t.rd Obj.cvuCmd 0 = 1) ∧
     (∀ x, (s.cvu c).feeds = [x] → s.cvuState c = 1 → s.scratched = false →
       let was := s.fld Obj.cvuState c 128 64
       let reg := crcFeed (s.cvuParams c) (s.cvuReg c) (s.rangeBytes (x.addr + (x.len - was)) was)
       ∃ t, exec (.feedDone c .clean) s = .next t ∧ t.cvuState c = 0 ∧ (t.cvu c).feeds = [] ∧ t.cvuReg c = reg % 2 ^ 64 ∧
         (x.finish = true → t.fld Obj.cvuState c 64 64 = crcResult (s.cvuParams c) (reg % 2 ^ 64) % 2 ^ 64))) ∧
  (∀ (s : State),
     (∀ e, s.inRun = true → s.scanDescOk (s.rd Obj.scanDesc 0) = true → (List.range 16).find? (fun e => !s.scanEntryUsed e) = some e →
       ∃ t, exec .scanSubmit s = .next t ∧ t.scanJobs = s.scanJobs ++ [⟨.queue e, s.rd Obj.scanDesc 0, false,
         if scanJobOf (s.rd Obj.scanDesc 0) = 1 then none else some (scanCvuOf (s.rd Obj.scanDesc 0))⟩] ∧
         t.rd Obj.scanResult e = 1 ∧ t.rd Obj.scanCmd 0 = 1 + e * 2 ^ 8) ∧
     (∀ j rest e, s.scratched = false → s.boot = .up → s.power < 2 → s.guardRanges ≠ .releasing → s.dimmCopy = none →
       s.scanJobs = j :: rest → s.scanJobs.any (·.running) = false → j.owner = .queue e →
       (∀ x i, x ∈ s.scanJobs → x.owner ≠ .verify i) →
       (∀ c, j.cvu = some c → (s.cvu c).feeds = [] ∧ s.cvuState c = 0 ∧ s.cvuClaimed c = false) →
       ∃ t, exec .scanJobStart s = .next t ∧ t.scanJobs = { j with running := true } :: rest ∧ t.rd Obj.scanResult e = 2) ∧
     (∀ j e ecc, s.scratched = false → s.scanJobs.find? (·.running) = some j → j.owner = .queue e → scanJobOf j.desc = 1 →
       exec (.scanJobEnd ecc) s = .next ((s.scanStore (scanStartOf j.desc) (fillBytes (bits j.desc 256 64)
         (scanLenOf j.desc))).scanFinish e 3 (scanLenOf j.desc) 0 0 0)) ∧
     (∀ j e, s.scratched = false → s.scanJobs.find? (·.running) = some j → j.owner = .queue e → scanJobOf j.desc ≠ 1 →
       let d := j.desc
       let r := s.scanBlocksTo d (scanCvuOf d) (scanBlocks d)
       exec (.scanJobEnd .clean) s = .next (r.1.scanFinish e (if r.2.1 = 0 then 3 else 4) (scanLenOf d)
         (if scanBlockOf d = 0 then r.1.fld Obj.cvuState (scanCvuOf d) 64 64 else 0) r.2.1 r.2.2)) ∧
     (∀ e done j, e < 16 → s.scanJobs.find? (fun j => j.owner == .queue e) = some j → j.running = false →
       ∃ t, exec (.scanCancel e done) s = .next t ∧ t.scanJobs = s.scanJobs.filter (fun j => j.owner != .queue e) ∧
         t.fld Obj.scanResult e 0 8 = 5 ∧ t.fld Obj.scanCmd 0 0 8 = 1) ∧
     (∀ e done, e < 16 → s.scanJobs.find? (fun j => j.owner == .queue e) = none →
       exec (.scanCancel e done) s = .next (s.wrFld Obj.scanCmd 0 0 8 5)))

/-- Frames at a host port are taken, answered or counted; frames of the FWD class pass between host ports and the
fabric. From spec/14_host_attachment_and_dictionary.md R392, R415; spec/09_switch_core.md R276, R277. Readings and
choices of the model: log entry 90. -/
def Obligations.HostFramesAndFabricEthernet : Prop :=
  (∀ (s : State) (hp len udp etype : Nat) (toIp toMac neighbour : Bool) (vlan : Option Nat) (bad : Option (Nat × Nat)),
     hp < 2 → s.hostPort hp = 1 → len ≤ 9216 →
     let u := s.inc Obj.hostPortCounts hp 0 64 1
     let frame (fcs : Bool) := exec (.hostFrameReceive hp len udp etype fcs toIp toMac neighbour vlan bad) s
     let roce := toIp && udp == 4791
     let taken := (roce && bad.isNone) || (!roce && ((toIp && udp == 48213) || (toMac && etype == s.fld Obj.hostEther 0 8 16)))
     frame false = .next (s.inc Obj.hostPortCounts hp 128 64 1) ∧
     (vlan ≠ s.hostVlan hp → frame true = .next (u.inc Obj.hostPortCounts hp 192 64 1)) ∧
     (vlan = s.hostVlan hp →
       (taken = true → frame true = .next u) ∧
       (∀ q psn, roce = true → bad = some (q, psn) → FreshPacket u q psn → frame true = .next (u.hostUnsupported q psn)) ∧
       (roce = false → taken = false → neighbour = true →
         frame true = .next (u.hostSend hp hostNeighbour 0 (beBytes 6 (s.fld Obj.hostPortConfig hp 0 48)))) ∧
       (roce = false → taken = false → neighbour = false → frame true = .next (u.inc Obj.hostPortCounts hp 192 64 1)))) ∧
  (∀ (s : State),
     (∀ f, f.bclass = 4 → s.scratched = false → let p := s.fld Obj.hostEther 0 0 1
       exec (.fwdOutbound f) s = .next (if s.hostPort p = 1 ∧ f.payload.length ≤ s.fld Obj.hostPortConfig p 208 14
         then s.hostSend p hostEthernet 0 f.payload else s.inc Obj.hostPortCounts p 256 64 1)) ∧
     (∀ hp bytes, hp < 2 → s.scratched = false → s.hostPort hp = 1 → bytes.length ≤ s.fld Obj.hostPortConfig hp 208 14 →
       ∃ t f, exec (.fwdInbound hp bytes) s = .next t ∧ t = s.send (.frame f) ∧ f.src = s.devId % 2 ^ 16 ∧
         f.hops = bits (s.rd Obj.hopInit 0) 0 6 ∧ f.bclass = 4 ∧ f.payload = bytes.drop 32) ∧
     (∀ hp bytes, hp < 2 → s.scratched = false → s.hostPort hp ≠ 1 →
       exec (.fwdInbound hp bytes) s = .next (s.inc Obj.hostPortCounts hp 256 64 1)) ∧
     (∀ c rest, s.mirrorQueue = c :: rest →
       let u := { s with mirrorQueue := rest }
       let e := s.rd Obj.hostEther 0
       let bs := beBytes 6 (bits e 40 48) ++ beBytes 6 (s.fld Obj.hostPortConfig (bits e 1 1) 0 48) ++ beBytes 2 (bits e 24 16) ++ c.bytes
       exec .mirrorOut s = .next (if s.hostPort (bits e 1 1) = 1 ∧ bs.length ≤ s.fld Obj.hostPortConfig (bits e 1 1) 208 14
         then (u.hostSend (bits e 1 1) hostEthernet 0 bs).inc Obj.mirrorCounts c.session 0 64 1
         else u.inc Obj.mirrorCounts c.session 64 64 1)))

/-- Fresh packets of a READY queue pair become GMU requests, NAKs or buffers; a CNP halves the rate. From
spec/14_host_attachment_and_dictionary.md R394, R398, R399, R401, R402, R403. Readings and choices of the model: log
entries 32, 56. -/
def Obligations.HostPacketsAreServed : Prop :=
  ∀ (s : State) (q psn : Nat), FreshPacket s q psn →
    let id := 512 * (s.qp q).made + q
    (∀ rkey va data a, s.memClosed = false → s.windowAddr rkey va data.length 2 = some a →
      let reqs := (hostPieces a data.length).map fun p =>
        s.hostGReq q id 2 (a + p.1) p.2 0 (s.windowGuard rkey) (sliceBytes data p.1 p.2)
      exec (.rdmaWrite q psn rkey va data false) s = .next (((s.psnOn q ((s.qp q).packets data.length)).pushOp q
        ⟨id, 0, psn, a, data.length, reqs, reqs.length, false, [], none⟩).pump)) ∧
    (∀ rkey va len a, s.memClosed = false → s.windowAddr rkey va len 1 = some a →
      let reqs := (hostPieces a len).map fun p => s.hostGReq q id 1 (a + p.1) p.2 p.1 false []
      exec (.rdmaRead q psn rkey va len false) s = .next (((s.psnOn q ((s.qp q).packets len)).pushOp q
        ⟨id, 1, psn, a, len, reqs, reqs.length, false, [], none⟩).pump)) ∧
    (∀ rkey va swap x y a, s.memClosed = false → s.windowAddr rkey va 8 3 = some a →
      let reqs := [{ s.hostGReq q id 3 a 16 0 false (leBytes 8 x ++ leBytes 8 y) with aop := if swap then 7 else 0 }]
      exec (.rdmaAtomic q psn rkey va swap x y false) s = .next (((s.psnOn q 1).pushOp q
        ⟨id, 2, psn, a, 8, reqs, 1, false, [], none⟩).pump)) ∧
    (∀ rkey va data, s.memClosed = false → s.windowAddr rkey va data.length 2 = none →
      exec (.rdmaWrite q psn rkey va data false) s = .next ((s.psnOn q ((s.qp q).packets data.length)).pushOp q
        (s.doneOp q 0 psn (some hostNakAccess)))) ∧
    (∀ data ecc b, let pool := bits (s.qp q).entry 320 6
      let a := s.poolAlloc pool (ownerQp q) false ecc
      (s.qp q).entry.testBit 326 = true → s.memClosed = false → a.bufs = [b] → a.state.scratched = false →
      data.length ≤ s.poolSize pool → exec (.rdmaSend q psn data false ecc) s
        = .next (a.state.sendSteps q psn b data (eccAfter ecc 1))) ∧
    (∀ data ecc, let pool := bits (s.qp q).entry 320 6
      let u := s.poolCountUp pool 4 1
      (s.qp q).entry.testBit 326 = true → s.memClosed = false → s.scratched = false → 1 ≤ s.poolState pool →
      s.poolState pool ≤ 4 → s.poolFree pool = 0 →
      exec (.rdmaSend q psn data false ecc) s = .next ((u.psnOn q 0).pushOp q (u.doneOp q 3 psn (some hostNakRnr)))) ∧
    (∃ t, exec (.cnp q) s = .next t ∧ (t.qp q).rate = max 1000000000 ((s.qp q).rate / 2) ∧ (t.qp q).rateAt = s.now) ∧
    ((s.qp q).rate ≠ 400000000000 → (s.qp q).rateAt + 55000 ≤ s.now → ∃ t, exec (.rateRaise q) s = .next t ∧
      (t.qp q).rate = min 400000000000 ((s.qp q).rate + 5000000000) ∧ (t.qp q).rateAt = s.now)

/-- Requests of a queue pair are acknowledged, retried or fail; CONNECT and RESET move the queue pair. From
spec/14_host_attachment_and_dictionary.md R394, R395, R396, R397, R404, R438. Readings and choices of the model: log
entries 56, 90. -/
def Obligations.QueuePairsKeepTheirRequests : Prop :=
  ∀ (s : State) (q : Nat), q < 512 →
    (∀ r rest, s.qpState q = 1 → (s.qp q).reqs = r :: rest → r.sent + 4096 * 2 ^ bits (s.qp q).entry 312 5 ≤ s.now →
      exec (.ackTimeout q) s = .next (if bits (s.qp q).entry 306 3 ≤ r.tries then s.qpError q
        else ((s.setQp q { s.qp q with reqs := { r with tries := r.tries + 1 } :: rest }).qpCount q 3).resend q)) ∧
    (∀ psn data, s.qpState q = 1 → exec (.acknowledgement q psn 0 data) s = .next (s.setQp q { s.qp q with
      reqs := (s.qp q).reqs.filter fun r => !(r.what == 2 && psnUpTo r.psn psn) })) ∧
    (∀ psn data h, s.qpState q = 1 → (s.qp q).reqs.find? (fun r => r.what != 2 && r.psn == psn) = some h →
      exec (.acknowledgement q psn 5 data) s = .next ((s.setQp q { s.qp q with
        reqs := ((s.qp q).reqs.filter fun r => !(r.what == 2 && psnUpTo r.psn psn)).filter fun r => r != h }).ringRead h data)) ∧
    (∀ psn data, s.qpState q = 1 → exec (.acknowledgement q psn 1 data) s = .next ((s.qpCount q 3).resend q) ∧
      exec (.acknowledgement q psn 4 data) s = .next (s.qpError q)) ∧
    (s.scratched = false → s.qpState q = 0 → s.qpEntryOk q = true → ∃ t, exec (.qpConnect q) s = .next t ∧ t.qpState q = 1 ∧
      (t.qp q).expect = bits (s.rd Obj.qpTable q) 280 24 ∧ (t.qp q).next = bits (s.rd Obj.qpTable q) 256 24 ∧
      (t.qp q).ops = [] ∧ (t.qp q).reqs = [] ∧ t.rd Obj.qpCmd 0 = 1) ∧
    (s.scratched = false → s.qpState q = 0 → s.qpEntryOk q = false → exec (.qpConnect q) s = .next (s.wr Obj.qpCmd 0 3)) ∧
    (s.scratched = false → s.qpState q ≠ 0 → exec (.qpConnect q) s = .next (s.wr Obj.qpCmd 0 2)) ∧
    (s.scratched = false → ∃ t, exec (.qpReset q) s = .next t ∧ t.qpState q = 0 ∧ t.qp q = { QpSt.init with made := (s.qp q).made } ∧ t.rd Obj.qpCmd 0 = 1)

/-- Ring commands start in order, complete with a record to the host, and rings are polled, started and stopped. From
spec/14_host_attachment_and_dictionary.md R405, R406, R407, R408, R409, R410, R412, R413, R414. Readings and choices
of the model: log entry 57. -/
def Obligations.CommandRingsRunTheirCommands : Prop :=
  ∀ (s : State) (r : Nat),
    (∀ n w rest, RingHead s r n w rest →
      (ringOp w = 0 → exec (.ringNop r) s = .next (ringStarted s r n w rest (.done 0 0))) ∧
      (∀ ecc, ringOp w = 1 → let a := s.tryLaunch (bits w 64 7) (bits w 72 43) ecc
        exec (.ringLaunch r ecc) s = .next (ringStarted a.2 r n w rest (if a.1 = 1 then .core (bits w 64 7) else .done 1 a.1))) ∧
      (∀ u, ringOp w = 2 → let c := bits w 64 6
        (s.ctxState c = 0 ∨ (s.ctx c).member = false ∨ s.coreLive (s.ctx c).owner = false) →
        (s.collAccept (s.ctx c).owner c (bits w 128 64) 0 0 true (some (ringId r n)) = .ok u →
          exec (.ringColl r .clean) s = .next (ringStarted u r n w rest .coll)) ∧
        (∀ k, s.collAccept (s.ctx c).owner c (bits w 128 64) 0 0 true (some (ringId r n)) = .error k →
          exec (.ringColl r .clean) s = .next (ringStarted s r n w rest (.done 1 k)))) ∧
      (ringOp w = 3 → exec (.ringPower r) s
        = .next (ringStarted ((s.powerRequest (bits w 64 2) (some (ringId r n))).powerNote) r n w rest .power)) ∧
      (ringOp w = 4 → bits w 72 4 = 1 →
        let a := s.poolFreeBuf (bits w 64 6) ownerHost (bits w 96 32)
        exec (.ringPoolFree r) s = .next (ringStarted a.state r n w rest (.done 0 (if a.code = 4 then 1 else 0))))) ∧
    (∀ k n st result, r < 64 → (s.hostRing r).runs.find? (fun k => k.n == n) = some k → s.ringOutcome r k = some (st, result) →
      k.silent = false →
      let x := s.hostRing r
      let e := 2 ^ bits x.desc 12 4
      let u := s.setHostRing r { x with runs := x.runs.filter fun y => y.n != n }
      exec (.ringCompletion r n) s = .next (({ u with ringDone := u.ringDone.filter fun y => y.1 != ringId r n }).sendReq
        (bits x.desc 0 9) 2 r (bits x.desc 128 64 + 32 * (n % e)) 32 (leBytes 32 (n + ((n / e + 1) % 2) * 2 ^ 32 + k.op * 2 ^ 40
          + st * 2 ^ 48 + k.user * 2 ^ 64 + (result % 2 ^ 64) * 2 ^ 128 + (s.now % 2 ^ 64) * 2 ^ 192)))) ∧
    (r < 64 → s.ringMode r = 0 → (s.hostRing r).runs = [] → (s.hostRing r).queue = [] → ringDescOk (s.rd Obj.ringDesc r) = true →
      s.qpState (bits (s.rd Obj.ringDesc r) 0 9) = 1 → ∃ t, exec (.ringStart r) s = .next t ∧ t.ringMode r = 1 ∧
        t.hostRing r = { RingSt.init with desc := s.rd Obj.ringDesc r } ∧ t.rd Obj.ringCmd 0 = 1) ∧
    (r < 64 → s.ringMode r ≠ 0 → ∃ t, exec (.ringStop r) s = .next t ∧ t.ringMode r = 0 ∧ (t.hostRing r).reading = false ∧
      t.rd Obj.ringCmd 0 = 1) ∧
    (r < 64 → s.ringMode r = 1 → (s.hostRing r).reading = false →
      let x := s.hostRing r
      let ci := s.fld Obj.ringState r 64 32
      let wait := (s.fld Obj.ringState r 32 32 + 2 ^ 32 - ci) % 2 ^ 32
      let e := 2 ^ bits x.desc 12 4
      (wait = 0 → x.polled = none → exec (.ringPoll r) s = .next ((s.setHostRing r { x with
        reading := true, polled := some s.now }).sendReq (bits x.desc 0 9) 0 r (bits x.desc 192 64) 4 [])) ∧
      (wait ≠ 0 → exec (.ringPoll r) s = .next ((s.setHostRing r { x with reading := true }).sendReq (bits x.desc 0 9) 1 r
        (bits x.desc 64 64 + 64 * (ci % e)) (64 * min (min 16 wait) (e - ci % e)) [])))

/-- A request of an open session is performed once and answered with its status and data. From
spec/14_host_attachment_and_dictionary.md R417, R418, R420, R421, R422, R423, R424, R427, R429, R434, R437;
spec/17_security_and_images.md R510. Readings and choices of the model: log entries 14, 68, 69. -/
def Obligations.DictionaryRequestsArePerformed : Prop :=
  ∀ (s : State) (m : CdpMsg) (x : Session), OpenRequest s m x →
    let t := requestTaken s m x
    let ans (st : Nat) (bs : List Byte) (u : State) := t.cdpAnswer m (some x.key) ⟨st, m.session, bs, u⟩
    (m.op = 1 → let r := t.readObject m.code m.index m.offset m.len
      exec (.cdpRead m) s = .next (ans r.1 r.2 t)) ∧
    (∀ o fed reachable ecc, m.op = 2 → objInfo m.code = some o → t.objHere m.code = true → o.access ≠ .cmd →
      let r := t.writeObject o m.index m.offset m.payload
      exec (.cdpWrite m fed reachable ecc) s = .next (ans r.1 [] r.2)) ∧
    (∀ o fed reachable ecc, m.op = 2 → objInfo m.code = some o → t.objHere m.code = true → o.access = .cmd →
      (∀ f u, t.writeCmd o m.index m.offset m.payload x.owner reachable fed ecc = (0, some f) → f t = .next u →
        exec (.cdpWrite m fed reachable ecc) s = .next (ans 0 [] u)) ∧
      (∀ k, t.writeCmd o m.index m.offset m.payload x.owner reachable fed ecc = (k, none) →
        exec (.cdpWrite m fed reachable ecc) s = .next (ans k [] t))) ∧
    (∀ o, m.op = 3 → objInfo m.code = some o → t.objHere m.code = true →
      exec (.describe m) s = .next (ans 0 (t.describeBytes o) t.drawn)) ∧
    (∀ c, m.op = 4 → t.nextObject m.code = some c → m.session ≠ 0 → exec (.cdpNext m) s = .next (ans 0 (beBytes 3 c) t)) ∧
    (m.op = 0x10 → let r := t.nvSet m.code m.index m.offset m.payload
      exec (.nvWrite m) s = .next (ans r.1 [] r.2)) ∧
    (m.op = 0x11 → let r := t.nvUnset m.code m.index m.offset m.len
      exec (.nvErase m) s = .next (ans r.1 [] r.2)) ∧
    (m.op = 0x30 → let r := t.imageWrite m.offset m.payload
      exec (.imageWrite m) s = .next (ans r.1 [] r.2)) ∧
    (m.op = 0x22 → exec (.sessionClose m) s = .next (ans 0 [] (t.setSession m.session none)))

/-- Sessions are opened, finished with the right proof, and expire; a local register write answers its status. From
spec/14_host_attachment_and_dictionary.md R422, R423, R439; spec/17_security_and_images.md R510;
spec/07_global_memory_space.md R184. Readings and choices of the model: log entries 18, 68. -/
def Obligations.SessionsOpenFinishAndExpire : Prop :=
  ∀ (s : State),
    (∀ m, s.cdpArrives m = true → m.room = true → bits m.hdr 240 16 = 0xCD50 → m.session = 0 → s.session 0 = none →
      msgFormed m = true → m.op = 0x20 → m.tag = none → (∀ h, (s.source m).high = some h → h < m.seq) →
      let t := (s.setSource { s.source m with high := some m.seq }).cdpCount 0
      let r := t.sessionOpen m
      exec (.sessionOpen m) s = .next (t.cdpAnswer m none ⟨r.1, r.2.1, r.2.2.1, r.2.2.2⟩)) ∧
    (∀ m k, (List.range 16).find? (fun k => (s.session (k + 1)).isNone) = some k → m.payload.length = 130 →
      m.payload.getD 0 0 = 4#8 → m.payload.getD 65 0 = 4#8 →
      (s.ownerKey = 0 ∨ leCode ((m.payload.drop 1).take 64) = s.ownerKey) →
      (s.sessionOpen m).1 = 0 ∧ (s.sessionOpen m).2.1 = k + 1 ∧
        ((s.sessionOpen m).2.2.2.session (k + 1)).map (fun x => (x.finished, x.since, x.factory)) = some (false, s.now, s.ownerKey == 0)) ∧
    (∀ m x, s.cdpArrives m = true → m.room = true → bits m.hdr 240 16 = 0xCD50 → s.session m.session = some x → x.finished = false →
      msgFormed m = true → m.op = 0x21 → m.tag = none → m.payload.length = 32 →
      (m.payload = leBytes 32 x.s1 → ∃ t, exec (.sessionFinish m) s = .next t ∧
        t.session m.session = some { x with finished := true, last := s.now }) ∧
      (m.payload ≠ leBytes 32 x.s1 → exec (.sessionFinish m) s = .next (s.setSession m.session none))) ∧
    (∀ k x, s.session k = some x → x.finished = true → x.last + s.fld Obj.cdpConfig 0 16 16 * 10 ^ 9 ≤ s.now →
      exec (.cdpIdleExpiry k) s = .next (s.setSession k none)) ∧
    (∀ k x, s.session k = some x → x.finished = false → x.since + 100000000 ≤ s.now →
      exec (.sessionFinishTimeout k) s = .next (s.setSession k none)) ∧
    (∀ obj o index offset data, objInfo obj = some o → s.hostAlive = true → o.access ≠ .cmd → s.objHere obj = true →
      exec (.registerWrite obj index offset data) s = .next ((s.writeObject o index offset data).2.send
        (.status (s.writeObject o index offset data).1)))

/-- The standby NV bank is erased, verified and activated, each only when it may be. From
spec/14_host_attachment_and_dictionary.md R431, R432, R435, R437, R439. Readings and choices of the model: log entries
35, 92. -/
def Obligations.NvImageIsReplaced : Prop :=
  ∀ (s : State),
    (s.nvErasing = false → ∃ t, exec .nvBankErase s = .next t ∧ t.nvErasing = true ∧ t.nvMark = none ∧ t.nvStandby = 0 ∧
      t.rd Obj.nvCmd 0 = 2 ∧ (∀ off, off < 2 ^ 32 → t.flash8 s.standbyBank off = 0xFF)) ∧
    (s.nvErasing = true → ∃ t, exec .nvBankEraseDone s = .next t ∧ t.nvErasing = false ∧ t.nvStandby = 1 ∧ t.rd Obj.nvCmd 0 = 1) ∧
    (s.nvErasing = true → exec .nvVerify s = .next (s.wr Obj.nvCmd 0 2) ∧ exec .nvActivate s = .next (s.wr Obj.nvCmd 0 2)) ∧
    (s.nvErasing = false → s.nvStandby ≠ 0 →
      let why := if s.ownerKey = 0 ∧ s.bankReason s.standbyBank = 0 then 4 else s.bankReason s.standbyBank
      ∃ t, exec .nvVerify s = .next t ∧ t.nvStandby = (if why = 0 then 3 else 2) ∧ t.rd Obj.nvVerify 0 = why ∧
        t.rd Obj.nvCmd 0 = (if why = 0 then 1 else 4)) ∧
    (s.nvErasing = false → s.nvStandby = 3 → ∃ t, exec .nvActivate s = .next t ∧ t.nvMark = some s.standbyBank ∧
      t.fld Obj.nvState 0 4 1 = 1 ∧ t.rd Obj.nvCmd 0 = 1) ∧
    (s.nvErasing = false → s.nvStandby ≠ 3 → exec .nvActivate s = .next (s.wr Obj.nvCmd 0 3))

/-- Heartbeats, reports, HELLO and probes are sent when due; silence makes a suspect and then a decision to scratch.
From spec/15_failure_recovery_reproducibility.md R442, R444, R445, R446, R447, R452, R453, R454, R468. Readings and
choices of the model: log entries 33, 34, 36, 92. -/
def Obligations.MarshalBeatsProbesAndScores : Prop :=
  (∀ (s : State), s.marshalOn = true →
     (s.devId ≠ 0xFFFF → s.marshal.beatSent + 50000 ≤ s.now →
       let u := s.setMarshal { s.marshal with beatSent := s.now }
       exec .heartbeatSend s = .next (u.tellManagers 0x01 u.devId (leBytes 8 (u.service + u.ident.grade * 2 ^ 8
         + b2n (match s.powerEntry with | some e => e.waiting | none => false) * 2 ^ 16 + b2n u.repro * 2 ^ 17)))) ∧
     (s.devId ≠ 0xFFFF → s.marshal.reportSent + 10000000 ≤ s.now →
       let es := s.reportEntries
       let late := (s.listed Obj.lateByDest).foldl (fun m d =>
         let cut := s.fld Obj.lateByDest d 64 64
         KMap.set m (0, 0) d (s.fld Obj.lateByDest d 0 64 - cut, cut)) s.marshal.lateTold
       let u := (reportFrames (es.length + 1) es).foldl (fun u bs => u.tellManagers 0x04 0xFFFF bs) s
       let v : State := { u.setMarshal { u.marshal with reportSent := u.now, lateTold := late, ceTold := u.corrected } with
         reports := [], scratchSeen := [] }
       exec .reportSend s
         = .next (if v.marshal.role = 0 then v else (v.charge v.devId es).seenScratched s.scratchSeen)) ∧
     (s.devId = 0xFFFF → s.marshal.helloSent + 10000000 ≤ s.now →
       let bs := leBytes 16 s.ident.serial ++ leBytes 1 s.ident.grade
       exec .helloSend s = .next (((List.range 64).filter fun p => s.portState p == portUp).foldl
         (fun u p => u.tellPort p 0x0D 0xFFFF u.now bs) (s.setMarshal { s.marshal with helloSent := s.now }))) ∧
     (∀ d t, (s.watch d).probe = some t → s.tracks d = true → (s.watch d).suspect = true → (s.watch d).relayed = false →
       t + 100000 ≤ s.now →
       let u := s.setWatch d { s.watch d with relayed := true }
       exec (.probeRelayTimeout d) s = .next ((u.neighbours d).foldl (fun s n => s.tell n 0x02 d 0 []) u)) ∧
     (∀ d t, (s.watch d).restAt = some t → s.isManager = true → memLive (s.memState d) = true → t + 10000000 ≤ s.now →
       exec (.restQueryRetry d) s = .next (s.restQuery d))) ∧
  (∀ (s : State),
     (∀ f, s.message f 0x01 = true → s.marshal.role ≠ 0 → s.senderOf f.src < 0x1000 → s.unrelayed (s.senderOf f.src) = false →
       let d := s.senderOf f.src
       let p := leCode (sliceBytes f.payload 0 8)
       let u := (s.noteBeat d p).clearSuspect d
       exec (.heartbeatMsg f) s = .next (if u.isManager = false then u
         else if p.testBit 16 then (if u.memState d ≠ memResting ∧ (u.watch d).restAt = none then u.restQuery d else u)
         else if u.memState d = memResting then u.setMem d (u.watch d).back
         else u.setWatch d { u.watch d with restAt := none, restWait := [], restBusy := false })) ∧
     (∀ d, s.tracks d = true → (s.watch d).beat + 60000 + 50000 * (s.watch d).misses ≤ s.now →
       let u := s.setWatch d { s.watch d with misses := (s.watch d).misses + 1 }
       exec (.heartbeatMiss d) s = .next (if (s.watch d).misses = 3 ∧ (s.watch d).suspect = false then u.makeSuspect d else u)) ∧
     (∀ d t, (s.watch d).probe = some t → s.tracks d = true → (s.watch d).suspect = true → t + 200000 ≤ s.now →
       exec (.probeFailTimeout d) s = .next (s.decideScratch [d] 1)) ∧
     (∀ f, s.message f 0x02 = true → msgSubject f = s.devId → exec (.probeMsg f) s = .next ((s.send (.frame (s.msgFrame
       (if s.isManager then s.marshal.standby else s.marshal.manager) false 0x03 s.devId 0 (msgTime f) []))).msgSent)) ∧
     (∀ f, s.message f 0x02 = true → msgSubject f ≠ s.devId → exec (.probeMsg f) s = .next (((List.range 64).filter fun p =>
       s.portState p == portUp && s.portPeer p == msgSubject f).foldl (fun s p => s.tellPort p 0x02 (msgSubject f) (msgTime f) []) s)) ∧
     (∀ f, s.message f 0x03 = true → s.tracks (s.senderOf f.src) = true →
       let d := s.senderOf f.src
       exec (.probeAckMsg f) s = .next ((s.setWatch d { s.watch d with beat := s.now }).clearSuspect d)) ∧
     (∀ f l, s.message f 0x04 = true → reportSpoilt f = false → s.marshal.role ≠ 0 → s.unrelayed (s.senderOf f.src) = false →
       exec (.reportMsg f l) s = .next ((s.charge (s.senderOf f.src) (entriesOf f.payload)).seenScratched l)) ∧
     (∀ f, s.marshalOn = true → s.forMe f = true → f.bclass = 0 → msgKind f = 0xA0 → msgSpoilt f = true →
       ∀ c ∈ [Instr.heartbeatMsg f, .probeMsg f, .probeAckMsg f, .reportMsg f []],
         exec c s = .next (s.setMarshal { s.marshal with discarded := s.marshal.discarded + 1 })) ∧
     (s.marshalOn = true → s.marshal.role ≠ 0 → s.marshal.windowAt + 10000000 ≤ s.now →
       let u := s.scoreAll.setMarshal { s.marshal with windowAt := s.now }
       let c := u.rd Obj.scoreConfig 0
       let order := u.expulsionOrder
       let decided := order.foldl (fun l d => if u.mayExpel (u.epochStep != 0) l d then l ++ [d] else l) []
       let v := (order.filter fun d => !decided.contains d).foldl (fun s d => s.marshalLog 7 d 0) u
       let told := v.marshal.expelled ++ decided.map fun d => (v.rd Obj.expelGroup d, v.now)
       exec .scoreWindowEnd s = .next (if u.isManager = false ∨ bits c 48 8 = 0 ∨ bits c 56 8 = 0 then u
         else if decided = [] then v else (v.setMarshal { v.marshal with expelled := told }).decideScratch decided 5)))

/-- A module acts on the manager messages of its epoch: each step once, acknowledged. From
spec/15_failure_recovery_reproducibility.md R448, R449, R450, R457, R458, R459, R460, R461, R468. Readings and choices
of the model: log entries 34, 36. -/
def Obligations.ManagerMessagesAreObeyed : Prop :=
  ∀ (s : State) (f : Frame),
    (FromManager s f 0x05 → exec (.suspectMsg f) s = .next (s.holdDev (msgSubject f))) ∧
    (FromManager s f 0x06 → exec (.clearedMsg f) s
      = .next (if s.marshal.lost.contains (msgSubject f) then s else s.freeDev (msgSubject f))) ∧
    (StepFrom s f 0x07 1 0 →
      let ids := u16s f.payload
      let u := ((inStep s 1).doLost ids).wrFld Obj.recoveryState 0 128 16 ids.length
      exec (.lostMsg f) s = .next (if u.scratched then u else if (stepTaken u 1 0).scratched then stepTaken u 1 0
        else (stepTaken u 1 0).quietTold)) ∧
    (StepFrom s f 0x08 2 (msgSubject f) →
      let u := if msgSubject f = (inStep s 2).devId then (inStep s 2).scratch causeManager else (inStep s 2).fenceDev (msgSubject f)
      exec (.marshalFenceMsg f) s = .next (if u.scratched then u else stepTaken u 2 (msgSubject f))) ∧
    (StepFrom s f 0x0B 6 0 →
      let ids := u16s f.payload
      let u := (inStep s 6).doReroute ((List.range (ids.length / 2)).map fun k => (ids.getD (2 * k) 0, ids.getD (2 * k + 1) 0))
      exec (.rerouteMsg f) s = .next (if u.scratched then u else stepTaken u 6 0)) ∧
    (StepFrom s f 0x0C 7 0 →
      let u := (inStep s 7).doRelayed (u16s f.payload)
      exec (.relayedMsg f) s = .next (if u.scratched then u else stepTaken u 7 0)) ∧
    (∀ rest, StepFrom s f 0x0A 5 0 →
      let bs := f.payload ++ rest
      let ds := (List.range 64).map fun e => leCode (sliceBytes bs (2 + 64 * e) 64)
      (inStep s 5).service = 3 → ds.all (inStep s 5).relayDescOk = true → ds.any (·.testBit 0) = false →
      let u := ds.zipIdx.foldl (fun s p => s.relayDesc p.2 p.1) (inStep s 5)
      let v := (u.wr Obj.deviceId 0 (leCode (bs.take 2))).wr Obj.serviceState 0 1
      exec (.relayMsg f rest) s = .next (if v.scratched then v else stepTaken v 5 0)) ∧
    (∀ rest, StepFrom s f 0x0A 5 0 → (inStep s 5).service = 1 → (inStep s 5).devId = leCode ((f.payload ++ rest).take 2) →
      exec (.relayMsg f rest) s
        = .next (if (inStep s 5).scratched then inStep s 5 else stepTaken (inStep s 5) 5 0)) ∧
    (s.message f 0x05 = true → msgRole f = 2 → msgEpoch f = s.epoch → s.isManager = false →
      exec (.suspectMsg f) s = .next (s.holdDev (msgSubject f))) ∧
    (s.message f 0x05 = true → msgRole f = 1 → s.epoch < msgEpoch f →
      exec (.suspectMsg f) s = .next (if s.isManager then s.scratch causeManager
        else (s.adoptEpoch (msgEpoch f)).holdDev (msgSubject f))) ∧
    (msgSpoilt f = false → s.message f 0x05 = true → msgEpoch f < s.epoch → exec (.suspectMsg f) s = .next s) ∧
    (FromManager s f 0x0F →
      let ids := u16s f.payload
      exec (.managerChangeMsg f) s = .next ((s.setMarshal { s.marshal with
        role := if ids.getD 1 0xFFFF = s.devId then 2 else 0, manager := ids.getD 0 0xFFFF,
        standby := ids.getD 1 0xFFFF }).marshalLog 0x0A (ids.getD 0 0xFFFF) 0)) ∧
    (FromManager s f 0x11 → exec (.restQueryMsg f) s
      = .next (s.tell s.marshal.manager 0x12 (msgSubject f) 0 (leBytes 1 (b2n (s.transits (msgSubject f))))))

/-- The manager collects acknowledgements, admits modules, times out steps, answers REST and keeps Guard descriptors.
From spec/15_failure_recovery_reproducibility.md R441, R442, R460, R461, R462, R464, R468, R474. Readings and choices
of the model: log entries 34, 36. -/
def Obligations.ManagerRunsItsDomain : Prop :=
  ∀ (s : State), s.isManager = true →
    (∀ f, s.message f 0x09 = true → msgEpoch f = s.epoch → msgStep f ≠ 5 →
      exec (.stepAckMsg f) s = .next ((s.setMarshal { s.marshal with acks := (msgStep f * 2 ^ 32
        + ackKey (s.senderOf f.src) (if msgStep f = 2 then msgSubject f else 0)) :: s.marshal.acks }).advanceEpoch)) ∧
    (s.marshalOn = true → s.epochStep ≠ 0 → s.epochStep ≠ 8 → s.marshal.stepAt + 1000 * s.rd Obj.stepTimeoutUs 0 ≤ s.now →
      s.marshal.awaiting = [] → exec .stepTimeout s = .next (s.startEpoch [] false)) ∧
    (∀ f, s.message f 0x13 = true →
      let p := leCode (f.payload.take 1)
      let u := s.marshalLog (if bits p 6 2 = 1 then 8 else 9) f.src 0
      exec (.rebuiltMsg f) s = .next (u.setMarshal { u.marshal with
        rebuilds := u.marshal.rebuilds.filter (· != (f.src, bits p 0 6)) }).advanceEpoch) ∧
    (∀ f, s.message f 0x10 = true → s.marshal.role ≠ 0 → exec (.guardSyncMsg f) s = .next { s with
      guardStore := KMap.set s.guardStore 0 (64 * f.src + leCode (sliceBytes f.payload 64 1) % 64) (leCode (sliceBytes f.payload 0 64)) }) ∧
    (∀ f, s.message f 0x12 = true → (s.watch (msgSubject f)).restWait.contains f.src = true →
      let w := s.watch (msgSubject f)
      let left := w.restWait.filter (· != f.src)
      let busy := w.restBusy || leCode (f.payload.take 1) % 2 == 1
      let u := s.setWatch (msgSubject f) { w with restWait := left, restBusy := busy }
      exec (.restAnswerMsg f) s = .next (if left.isEmpty ∧ !busy then u.restGranted (msgSubject f) else u)) ∧
    (let d := s.rd Obj.admitDesc 0;
      let m := s.marshal
      bits d 145 111 = 0 → bits d 128 16 < 0x1000 → s.memState (bits d 128 16) = memFree →
      m.admits.any (fun a => a.2.1 == bits d 128 16 && a.1 != bits d 0 128) = false →
      exec .marshalAdmit s = .next ((s.setMarshal { m with
        admits := (bits d 0 128, bits d 128 16, d.testBit 144) :: m.admits.filter fun a => a.1 != bits d 0 128 }).wr Obj.marshalCmd 0 1)) ∧
    (∀ d, s.memState d = memSpare →
      let u := ((s.setMem d memReady).spareNote).wr Obj.marshalCmd 0 1
      u.marshal.vacant = [] → exec (.spareReady d) s = .next u) ∧
    (∀ d, memLive (s.memState d) = true → d ≠ s.devId →
      exec (.marshalScratch d) s = .next ((s.decideScratch [d] 4).wr Obj.marshalCmd 0 1)) ∧
    (∀ port f, port < 64 → s.message f 0x0D = true → s.devId ≠ 0xFFFF → f.dest ≠ 0xFFFF →
      exec (.helloMsg port f) s = .next (s.helloAt (leCode (sliceBytes f.payload 0 16)) (leCode (sliceBytes f.payload 16 1)) f.src))

/-- ASSIGN gives a new module its ID, TAKE_MANAGER starts an epoch, and lost stripes are rebuilt one by one. From
spec/15_failure_recovery_reproducibility.md R442, R449, R451, R465, R466, R474. Readings and choices of the model: log
entries 36, 86. -/
def Obligations.ModulesJoinTakeOverAndRebuild : Prop :=
  ∀ (s : State),
    (∀ f, s.message f 0x0E = true → s.devId = 0xFFFF → s.service = 0 → leCode (sliceBytes f.payload 8 16) = s.ident.serial →
      let p := leCode (sliceBytes f.payload 0 8)
      bits p 0 16 < 0x1000 → ∃ t, exec (.assignMsg f) s = .next t ∧ t.devId = bits p 0 16 ∧
        t.service = if p.testBit 16 then 3 else 1) ∧
    (∀ f, s.message f 0x0E = true → s.devId ≠ 0xFFFF →
      exec (.assignMsg f) s = .next (s.assignOut (leCode (sliceBytes f.payload 8 16)) f.payload)) ∧
    (s.devId ≠ 0xFFFF → s.scratched = false → s.isManager = false →
      let u := (s.setMarshal { s.marshal with role := 1, manager := s.devId, standby := 0xFFFF }).setMem s.devId memManager
      exec (.takeManager false) s = .next ((u.startEpoch s.marshal.lost true).wr Obj.marshalCmd 0 1)) ∧
    (s.devId ≠ 0xFFFF → s.scratched = false → exec (.takeManager true) s = .next (s.wr Obj.marshalCmd 0 5)) ∧
    (∀ entry symbols checks, entry < 64 → s.scratched = false → s.rd Obj.guardState entry = 3 → (s.guard entry).missing = true →
      (s.guard entry).trial = none →
      (s.nextStripe entry = none → exec (.guardStripeRebuild entry symbols checks) s = .next (s.groupRebuilt entry)) ∧
      (∀ x, s.nextStripe entry = some x →
        exec (.guardStripeRebuild entry symbols checks) s
          = .next (if s.survivorsOk entry symbols && !s.shareUsed (s.stripeController entry x) then s.tryStripe entry ⟨x, symbols, checks, false⟩ else s))) ∧
    (∀ entry t data, (trialSet (s.guardK entry) t.symbols t.second).bind (decodeStripe (s.guardK entry)) = some data →
      let u := (s.putSymbol entry t.stripe data).tryNote entry t
      s.tryStripe entry t = { u with scanJobs := ⟨.verify entry, 0, false, some 15⟩ :: u.scanJobs }) ∧
    (∀ j entry ecc, s.scratched = false → s.scanJobs.find? (·.running) = some j → j.owner = .verify entry →
      exec (.scanJobEnd ecc) s = .next (s.verifyEnd entry ecc))

/-- Dips, trips, floor and power-on act on the supplies; warm and RESET_n resets keep what each must keep. From
spec/16_power_energy_states_resets.md R476, R477, R478, R479, R480, R481, R499, R501, R502, R503;
spec/18_physical_electrical_thermal.md R522. Readings and choices of the model: log entries 2, 15, 67. -/
def Obligations.InputPowerAndResetsKeepWhatTheyMust : Prop :=
  (∀ (s : State) (volts ns : Nat),
     (s.aopDead = false → s.boot ≠ .off →
       (∀ low after, 3120 ≤ after → exec (.inputDip low ns after) s
         = .next (if low < 3100 ∧ 1000 * s.rd Obj.dipFilterUs 0 ≤ ns then s.inputEvent 0 0 else s)) ∧
       (∀ c, c = Instr.tripUv volts ns ∧ volts < 2800 ∧ (2000 ≤ ns ∨ s.inputBlocked = true) ∨
           c = Instr.tripOv volts ns ∧ 4400 ≤ volts ∧ 1000 ≤ ns →
         ∃ t, exec c s = .next t ∧ t.boot = .off ∧ t.tripped = some s.scratched ∧ t.mem = [] ∧
         t.cores = [] ∧ t.frames = [] ∧ t.flash = s.flash ∧ t.ident = s.ident ∧ t.pending = s.pending ∧
         t.rd Obj.lastReset 0 = 2 + if s.scratched then 128 else 0) ∧
       (2800 ≤ volts → volts < 4400 → exec (.tripUv volts ns) s = .next s ∧ exec (.tripOv volts ns) s = .next s) ∧
       (s.inputBlocked = false → exec .reverseBlock s = .next { s.inputEvent 2 64 with inputBlocked := true })) ∧
     (s.aopDead = false →
       exec (.ovWarn volts ns) s = .next (if 4200 < volts ∧ 5000 ≤ ns then s.wrFld Obj.inputEvents 0 1 1 1 else s) ∧
       (volts < 1800 → ∃ t, exec (.aopFloor volts) s = .next t ∧ t.boot = .off ∧ t.aopDead = true ∧ t.mem = [] ∧
         t.rd Obj.lastReset 0 = 1) ∧
       (∀ was, s.tripped = some was → 3000 ≤ volts → volts ≤ 4200 → 10000000 ≤ ns →
         ∃ t, exec (.tripRestart volts ns) s = .next t ∧ t.boot = .rom ∧ t.tripped = none ∧
         t.bootCount = s.bootCount + 1 ∧ t.rd Obj.lastReset 0 = 2 + if was then 128 else 0)) ∧
     (s.aopDead = true → ∃ t, exec .powerOn s = .next t ∧ t.boot = .rom ∧ t.aopDead = false ∧ t.bootCount = s.bootCount + 1 ∧
       t.rd Obj.lastReset 0 = 1) ∧
     exec .reverseConduct s = .next { s with inputBlocked := false }) ∧
  (∀ (s : State),
     (s.boot ≠ .off → s.boot ≠ .rom → s.boot ≠ .held → ∃ t, exec .warmReset s = .next t ∧
       t.boot = (if s.resetLow then .held else .aop) ∧ t.rd Obj.lastReset 0 = 4 + (if s.scratched then 128 else 0) ∧
       t.cores = [] ∧ t.frames = [] ∧ t.sent = [] ∧ t.ports = [] ∧ t.flash = s.flash ∧ t.ownerKey = s.ownerKey ∧
       (∀ k, k < memKey 2 0 → KMap.get t.mem 0 k = if s.scratched then 0 else KMap.get s.mem 0 k) ∧
       (∀ k, memKey 2 0 ≤ k → KMap.get t.mem 0 k = 0) ∧
       (∀ c i o, objInfo c = some o → c ≠ Obj.lastReset → c ≠ Obj.measurement →
         (o.persist = .v → identRead s.ident c = none → t.rd c i = factoryKey (objKey c i)) ∧
         (o.persist = .s → t.rd c i = s.rd c i) ∧
         (o.persist = .k → s.scratched = false → t.rd c i = s.rd c i))) ∧
     (∀ ns, 10000 ≤ ns → s.resetLow = false → s.aopDead = false → s.boot ≠ .off → s.boot ≠ .rom → ∃ t, exec (.resetNAssert ns) s = .next t ∧
       t.boot = .held ∧ t.resetLow = true ∧ t.cores = [] ∧ t.rd Obj.lastReset 0 = 3 + if s.scratched then 128 else 0) ∧
     (∀ ns, ns < 10000 → exec (.resetNAssert ns) s = .next s) ∧
     (∀ ns, 1000000 ≤ ns → s.boot = .held → ∃ t, exec (.resetNRelease ns) s = .next t ∧ t.boot = .aop ∧ t.resetLow = false ∧ t.objs = s.objs))

/-- The governor keeps power under its limit and within its slope; overheating and internal faults scratch the module.
From spec/01_module_overview.md R29, R30, R38; spec/16_power_energy_states_resets.md R482, R483, R484, R485;
spec/18_physical_electrical_thermal.md R532, R535. Readings and choices of the model: log entries 10, 78, 79. -/
def Obligations.GovernorStaysInItsBoundsAndFaultsScratch : Prop :=
  (∀ (s : State) (volts amps power demand : Nat), s.aopDead = false → s.boot ≠ .off → s.duty ≤ 256 →
      s.govAt + 1000 ≤ s.now →
     let limit := min (s.rd Obj.powerCap 0) (130 * volts / 100)
     let u := (s.ramps.map (·.1)).foldl (fun s bay => s.rampStep bay) s
     ∃ t, exec (.governorUpdate volts amps power demand) s = .next t ∧ t.duty ≤ 256 ∧
       t.govPower = nextPower s.govPower (2 * demand) (2 * limit - u.reserved) (u.risenBy s.now - u.risenBy (s.now - 1000)) ∧
       t.govPower ≤ 2 * limit ∧ t.govPower ≤ s.govPower + 21 ∧
       (s.govPower ≤ 2 * limit - u.reserved → s.govPower ≤ t.govPower + 21) ∧ t.fld Obj.governorState 0 32 16 = limit % 2 ^ 16 ∧
       t.thermHold = s.junctionHolds ∧ t.hbmHold = s.hbmHolds ∧ t.govAt = s.now ∧ t.ramps = u.ramps ∧
       (s.thermHolds = true ∨ s.inputBlocked = true ∨ u.rampWaits = true ∨ t.govPower < 2 * demand → t.duty = 0 ∨ t.duty < s.duty) ∧
       (s.thermHolds = false → s.inputBlocked = false → u.rampWaits = false → 2 * demand ≤ t.govPower → s.duty ≤ t.duty) ∧
       (∀ bay w, s.ramps = [(bay, some ⟨w, none⟩)] → s.rampFits w = true → t.ramps = [(bay, some ⟨w, some s.now⟩)] ∧
         t.reserved = w) ∧
       (∀ bay r, s.ramps = [(bay, some r)] → s.rampOver bay = true → t.ramps = []) ∧
       t.mem = s.mem ∧ t.scratched = s.scratched) ∧
  (∀ (s : State),
     (∀ sensor unit, sensor < 5 → sensor ≠ 3 → s.scratched = false → s.boot ≠ .off →
       ∀ reading, exec (.thermalLimit sensor unit reading) s
         = .next (if thermalBound sensor ≤ signed reading 16 then s.scratch (thermalCause sensor) else s)) ∧
     (∀ unit, unit < 8 → s.scratched = false → s.boot ≠ .off → ∀ reading, exec (.thermalLimit 3 unit reading) s
         = .next (s.oeChecked unit 5)) ∧
     (∀ loop flow, loop < 2 → s.aopDead = false → exec (.loopLost loop flow) s
       = .next (if flow < 100 then s.wrFld Obj.thermalEvents 0 (1 + loop) 1 1 else s)) ∧
     (∀ temp ns, s.aopDead = false → exec (.inletHigh temp ns) s
       = .next (if 4000 < signed temp 16 ∧ 1000000000 ≤ ns then s.wrFld Obj.thermalEvents 0 3 1 1 else s)) ∧
     (∀ fabric, s.boot ≠ .off →
       exec (.internalFault fabric) s = .next (s.scratch (if fabric then causeFabric else causeCore))) ∧
     (s.boot ≠ .off → exec .scratchNow s = .next ((s.scratch causeHost).wr Obj.scratchNow 0 1)))

/-- Power stages are removed, inserted and fail with the reserve counted; a unit reset clears one idle unit. From
spec/16_power_energy_states_resets.md R487, R488, R489, R500, R504. Readings and choices of the model: log entries 63,
64, 78. -/
def Obligations.StagesAndUnitsAreServiced : Prop :=
  (∀ (s : State) (p : Nat), p < 13 →
     (s.othersOn p = true → s.powerStage p = 2 →
       exec (.stageRemove p) s = .next ((s.wr Obj.stageState p 3).wr Obj.stageCmd 0 1)) ∧
     (s.othersOn p = false → exec (.stageRemove p) s = .next (s.wr Obj.stageCmd 0 2)) ∧
     (s.othersOn p = true → s.powerStage p ≠ 2 → exec (.stageRemove p) s = .next (s.wr Obj.stageCmd 0 3)) ∧
     (s.powerStage p = 3 → exec (.stageCancel p) s = .next ((s.wr Obj.stageState p 2).wr Obj.stageCmd 0 1) ∧
       ∀ volts, exec (.stageSafe p volts) s = .next (if volts < 500 then s.wr Obj.stageState p 4 else s)) ∧
     (s.powerStage p ≠ 3 → exec (.stageCancel p) s = .next (s.wr Obj.stageCmd 0 3)) ∧
     (∀ info qualified, s.powerStage p = 0 ∨ s.powerStage p = 5 ∨ s.powerStage p = 6 → exec (.stageInsert p info qualified) s
       = .next (if qualified then ((s.wr Obj.stageInfo p (info % 2 ^ 256)).wr Obj.stageState p 1).rampBay (32 + p) 0
           else (s.wr Obj.stageInfo p (info % 2 ^ 256)).wr Obj.stageState p 6)) ∧
     (∀ r, s.powerStage p = 1 → s.ramp (32 + p) = some r → s.rampOver (32 + p) = true →
       (s.rampStep (32 + p)).powerStage p = 2 ∧ (s.rampStep (32 + p)).ramp (32 + p) = none) ∧
     (s.powerStage p = 1 → exec (.stageFail p) s = .next ((s.wr Obj.stageState p 5).rampEnds (32 + p)) ∧
       exec (.stageLatchOpen p) s = exec (.stageFail p) s) ∧
     (s.powerStage p = 2 ∨ s.powerStage p = 3 → exec (.stageFail p) s = .next (if s.othersOn p then s.wr Obj.stageState p 5
         else (s.wr Obj.stageState p 5).scratch causePower) ∧ exec (.stageLatchOpen p) s = exec (.stageFail p) s) ∧
     (s.powerStage p = 4 ∨ s.powerStage p = 5 ∨ s.powerStage p = 6 →
       exec (.stageLatchOpen p) s = .next ((s.wr Obj.stageInfo p 0).wr Obj.stageState p 0))) ∧
  (∀ (s : State) (n : Nat),
     (n < 96 → s.hasCore n = true → s.coreLive n = false → s.scratched = false → ∃ t, exec (.unitResetCore n) s = .next t ∧
       t.rd Obj.unitReset 0 = 1 ∧ (∀ k, k < 256 → t.rd Obj.flags (256 * n + k) = factoryKey (objKey Obj.flags (256 * n + k))) ∧
       t.rd Obj.haltRecord n = factoryKey (objKey Obj.haltRecord n) ∧
       (∀ k, k < 32 → t.rd Obj.tileRegs (32 * n + k) = factoryKey (objKey Obj.tileRegs (32 * n + k))) ∧
       t.fld Obj.seqState n 0 16 = 0 ∧ t.fld Obj.seqState n 112 96 = 0 ∧
       (∀ m k, m < 96 → m ≠ n → k < 256 → t.rd Obj.flags (256 * m + k) = s.rd Obj.flags (256 * m + k)) ∧ t.mem = s.mem) ∧
     (n < 96 → s.hasCore n = true → s.coreLive n = true → exec (.unitResetCore n) s = .next (s.wr Obj.unitReset 0 2)) ∧
     (n < 32 → (List.range 8).any (fun k => s.slotBound (8 * n + k)) = false → s.slotReserved (8 * n + 7) = false →
       s.scratched = false → ∃ t, exec (.unitResetSu n) s = .next t ∧ t.su n = SuSt.init ∧ t.rd Obj.unitReset 0 = 1 ∧
       (∀ k, k < 8 → t.rd Obj.programText (8 * n + k) = factoryKey (objKey Obj.programText (8 * n + k)))) ∧
     (n < 16 → s.cvuState n = 0 → s.cvuClaimed n = false → s.cvuTaken n = false → s.scratched = false →
       ∃ t, exec (.unitResetCvu n) s = .next t ∧ t.cvu n = CvuSt.init ∧ t.rd Obj.cvuRun n = factoryKey (objKey Obj.cvuRun n) ∧
       t.rd Obj.unitReset 0 = 1) ∧
     (n < 2 → (List.range 512).any (fun q => s.qpState q != 0 && s.fld Obj.qpTable q 2 1 == n) = false →
       (List.range 64).any (fun r => s.ringMode r == 1 && s.fld Obj.qpTable (s.ringQp r) 2 1 == n) = false →
       ∃ t, exec (.unitResetHostPort n) s = .next t ∧ t.rd Obj.hostPortCounts n = factoryKey (objKey Obj.hostPortCounts n) ∧
       t.rd Obj.unitReset 0 = 1))

/-- RUN, HOLD, REST and DEEP REST are entered through their steps, abandoned by a wake, and left with the saved list.
From spec/16_power_energy_states_resets.md R490, R491, R492, R493, R494, R495, R497, R498. Readings and choices of the
model: log entries 37, 62, 76. -/
def Obligations.PowerStatesAreEntered : Prop :=
  ∀ (s : State),
    (s.powerEntry = none → s.powerWake = [] → s.scratched = false → s.inService = true → s.power < 2 →
      (s.power = 1 → ∃ t, exec .powerRun s = .next t ∧ t.power = 0 ∧ t.rd Obj.powerCmd 0 = 2) ∧
      ((List.range 96).any s.coreLive = false →
        (s.power = 0 → ∃ t, exec .powerHold s = .next t ∧ t.power = 1 ∧ t.rd Obj.powerCmd 0 = 2) ∧
        (s.restRefusal 2 = 0 → ∃ t, exec .powerRest s = .next t ∧ t.powerEntry = some ⟨2, none, false, 0, []⟩ ∧ t.power = s.power) ∧
        (s.restRefusal 3 = 0 → ∃ t, exec .powerDeepRest s = .next t ∧ t.powerEntry = some ⟨3, none, true, 0, []⟩ ∧
          t.power = s.power)) ∧
      ((List.range 96).any s.coreLive = true → ∃ t, exec .powerRest s = .next t ∧ t.powerEntry = none ∧ t.power = s.power ∧
        t.fld Obj.powerState 0 8 8 = 4)) ∧
    (∀ e, s.powerEntry = some e → e.point < 4 →
      (e.wakes = [] → e.waiting = false → ∃ t, exec .restAbortPoint s = .next t ∧ t.powerEntry = some { e with point := e.point + 1 } ∧
        (e.point = 1 → t.saved = s.objs.filter fun p => (savedList e.target).contains (p.1 / 2 ^ 32))) ∧
      (e.wakes ≠ [] → exec .restAbortPoint s = .next (s.abandonEntry e (e.point + 1)))) ∧
    (∀ e, s.powerEntry = some e → 4 ≤ e.point → e.target = 2 ∨ e.target = 3 → ∃ t, exec .restEntered s = .next t ∧
      t.power = e.target ∧ t.powerEntry = none ∧ t.powerWake = e.wakes) ∧
    (∀ e, s.powerEntry = some e → e.waiting = true → e.wakes = [] → ∃ t, exec .deepRestPermit s = .next t ∧
      t.powerEntry = some { e with waiting := false }) ∧
    (∀ w, s.powerWake = [w] → s.power = 2 → w.1 < 2 → ∃ t, exec .wakeDone s = .next t ∧ t.power = w.1 ∧ t.powerWake = [] ∧
      t.saved = [])

/-- Start-up measures and releases a valid slot, fills memory and comes up; ownership and counters change only as
allowed. From spec/17_security_and_images.md R506, R507, R508, R509, R510; spec/16_power_energy_states_resets.md R499,
R502; spec/13_buffer_pools_and_check_values.md R387. Readings and choices of the model: log entries 2, 4, 35, 78. -/
def Obligations.ModuleStartsAndIsOwned : Prop :=
  (∀ (s : State) (b : Bays),
     (∀ k v, s.boot = .rom → s.chooseSlot = some k → s.slotValid k = some v →
       let u := { s.extend 0 v.2.1 with fwRunning := k }
       exec (.boot b) s = .next (if s.resetLow then { u with boot := .held } else u.release v.2.2 b)) ∧
     (s.boot = .rom → s.chooseSlot = none → ∃ t, exec (.boot b) s = .next t ∧ t.boot = .recovery) ∧
     (∀ v, s.boot = .aop → s.slotValid s.fwRunning = some v → exec (.boot b) s = .next (s.release v.2.2 b)) ∧
     (∀ d, (s.release d b).boot = .fill ∧ (s.release d b).marshal.role = bits ((s.release d b).rd Obj.marshalConfig 0) 0 2) ∧
     (s.boot = .fill → ∃ t, exec .startupFill s = .next t ∧ t.boot = .up ∧
       (∀ off, off < 2 ^ 44 → t.mem8 1 off = s.mem8 1 off ∧ t.mem8 2 off = 0 ∧ t.mem8 spaceArena off = 0 ∧ t.mem8 spaceBitmap off = 0 ∧
         t.mem8 0 off = if s.rd Obj.lastReset 0 = 3 ∨ s.rd Obj.lastReset 0 = 4 then s.mem8 0 off else 0) ∧
       (s.marshal.role = 0 → t.objs = (s.wr Obj.scanInternal 0 0).objs) ∧
       (s.scratched = false → s.marshal.role = 1 → t.service = 1 ∧ t.devId = s.marshal.manager))) ∧
  (∀ (s : State), s.fwErasing = false → s.nvErasing = false →
     (s.commState = 0 → s.fld Obj.commissionDesc 0 4608 512 = 0 → s.fld Obj.commissionDesc 0 0 512 ≠ 0 →
       ∃ t, exec .commission s = .next t ∧ t.ownerKey = s.fld Obj.commissionDesc 0 0 512 ∧
         t.operatorKeys = ((List.range 8).map fun i => s.fld Obj.commissionDesc 0 (512 * (i + 1)) 512).filter (· != 0) ∧
         t.rd Obj.lastReset 0 = 4 + if s.scratched then 128 else 0) ∧
     (s.commState ≠ 0 → exec .commission s = .next (s.wr Obj.securityCmd 0 3)) ∧
     (s.ownerKey ≠ 0 → ∃ t, exec (.decommission true) s = .next t ∧ t.ownerKey = 0 ∧ t.operatorKeys = [] ∧ t.nvKey = 0 ∧
       (∀ off, off < 2 ^ 32 → t.flash8 0 off = 0xFF ∧ t.flash8 1 off = 0xFF)) ∧
     (s.ownerKey ≠ 0 → exec (.decommission false) s = .next (s.wr Obj.securityCmd 0 4) ∧
       exec (.keysCmd false) s = .next (s.wr Obj.securityCmd 0 4)) ∧
     (s.ownerKey ≠ 0 → s.fld Obj.commissionDesc 0 4608 512 = 0 → ∃ t, exec (.keysCmd true) s = .next t ∧ t.ownerKey = s.ownerKey ∧
       t.operatorKeys = ((List.range 8).map fun i => s.fld Obj.commissionDesc 0 (512 * (i + 1)) 512).filter (· != 0) ∧
       t.rd Obj.securityCmd 0 = 1) ∧
     (∀ b, s.activeBank = some b → ∃ t, exec (.rollbackCommit true) s = .next t ∧
       t.rollback = max s.rollback (s.imageRollback b) ∧ t.rd Obj.securityCmd 0 = 1) ∧
     (∀ v, s.boot ≠ .recovery → s.slotInfo s.fwRunning = some v → ∃ t, exec (.svnCommit true) s = .next t ∧
       t.svnFuses = max s.svnFuses (min 64 v.1) ∧ t.rd Obj.securityCmd 0 = 1))

/-- Firmware slots are erased, verified and activated, measurements extended and signed, and the management pins
answer. From spec/17_security_and_images.md R507, R511, R512, R517; spec/18_physical_electrical_thermal.md R523, R527,
R535; spec/14_host_attachment_and_dictionary.md R391. Readings and choices of the model: log entries 4, 65, 72. -/
def Obligations.FirmwareAttestationAndSideband : Prop :=
  (∀ (s : State), s.nvErasing = false →
     (s.fwErasing = false →
       exec .fwErase s = .next ({ s.flashErase (2 + s.standbySlot) with
         fwOwn := s.fwOwn.filter (· != s.standbySlot), fwErasing := true, fwStandby := .unknown, fwMark := false }.wr Obj.securityCmd 0 2) ∧
       (∀ off, off < 2 ^ 32 → (s.flashErase (2 + s.standbySlot)).flash8 (2 + s.standbySlot) off = 0xFF)) ∧
     (s.fwErasing = true → exec .fwEraseDone s = .next ({ s with fwErasing := false, fwStandby := .erased }.wr Obj.securityCmd 0 1) ∧
       (∀ c, c = Instr.fwErase ∨ c = Instr.fwVerify ∨ c = Instr.fwActivate → exec c s = .next (s.wr Obj.securityCmd 0 2))) ∧
     (s.fwErasing = false → (s.slotValid s.standbySlot).isSome = true →
       exec .fwVerify s = .next ({ s with fwStandby := .verified }.wr Obj.securityCmd 0 1)) ∧
     (s.fwErasing = false → (s.slotValid s.standbySlot).isSome = false → s.fwStandby ≠ .verified →
       exec .fwVerify s = .next (s.wr Obj.securityCmd 0 6)) ∧
     (s.fwErasing = false → (s.slotValid s.standbySlot).isSome = false → s.fwStandby = .verified →
       exec .fwVerify s = .next ({ s with fwStandby := .written }.wr Obj.securityCmd 0 6)) ∧
     (s.fwErasing = false → s.fwStandby = .verified →
       exec .fwActivate s = .next ({ s with fwMark := true }.wr Obj.securityCmd 0 1)) ∧
     (s.fwErasing = false → s.fwStandby ≠ .verified → exec .fwActivate s = .next (s.wr Obj.securityCmd 0 3)) ∧
     (exec .attest s = .next (s.wr Obj.attest 0 (leCode (s.reportBody ++ fitBytes 64 (Config.sm2Sign s.ident.deviceSecret s.reportBody)))) ∧
       s.reportBody.length = 384) ∧
     (∀ i d, i < 2 → exec (.extendMr i d) s = .next (s.wr Obj.measurement (6 + i)
         (Config.sm3 (leBytes 32 (s.rd Obj.measurement (6 + i)) ++ leBytes 32 d) % 2 ^ 256)) ∧
       exec (.extendMr (2 + i) d) s = .next s)) ∧
  (∀ (s : State),
     (∀ ga, s.aopDead = false → exec (.smbusBlockRead (0x50 + ga) ga 0 false true) s
       = .next { s with out := s.out ++ [.sideband (leBytes 64 s.sideband) (blockPec (0x50 + ga) (leBytes 64 s.sideband))] }) ∧
     (∀ ga code write pec, s.aopDead = false → write = true ∨ code ≠ 0 ∨ pec = false →
       exec (.smbusBlockRead (0x50 + ga) ga code write pec) s = .next { s with out := s.out ++ [.sidebandNack] }) ∧
     (∀ status temps, s.aopDead = false → s.sidebandAt + 1000000 ≤ s.now →
       let here (k : Nat) : Bool := decide (8 ≤ k) || (s.rd Obj.stackPresent 0).testBit k
       let u := foldUp (fun k v => v.wr Obj.stackTemp k (if here k then temps.getD k 0 % 2 ^ 16 else 0)) 0 10
         (s.wr Obj.thermalStatus 0 (bits status 0 176))
       exec (.sidebandUpdate status temps) s = .next { u with sideband := u.sidebandBlock, sidebandAt := s.now } ∧
       u.rd Obj.thermalStatus 0 = bits status 0 176 ∧
       (∀ k, k < 8 → u.rd Obj.stackTemp k = if (s.rd Obj.stackPresent 0).testBit k then temps.getD k 0 % 2 ^ 16 else 0)) ∧
     (∀ hp, hp < 2 → s.hostAlive = true →
       (s.hostPort hp = 2 → ∀ medium watts, exec (.osfpInsert hp medium watts) s
         = .next (s.wr Obj.hostPortState hp (if medium < 4 ∧ watts ≤ 14 then 0 else 3))) ∧
       exec (.osfpRemove hp) s = .next (s.wr Obj.hostPortState hp 2) ∧
       (s.hostPort hp = 0 → exec (.hostPortUp hp) s = .next (s.wr Obj.hostPortState hp 1)) ∧
       (s.hostPort hp = 1 → exec (.hostPortDown hp) s = .next (s.wr Obj.hostPortState hp 0))))

/-- An increment past 2^32 - 1 leaves the flag there and halts the core with FLAG_RANGE, detail 2 or 3. States R95. -/
def Obligations.FlagAtItsTopStaysAndHalts : Prop :=
  (∀ (s : State) (n f amount : Nat) (src : Option (Nat × Nat)), n < 96 → f < 256 → s.flag n f < 2 ^ 32 →
    let t := s.addFlag n f amount src
    (s.flag n f + amount < 2 ^ 32 → t.flag n f = s.flag n f + amount ∧ t.coreState n = s.coreState n) ∧
    (2 ^ 32 ≤ s.flag n f + amount → t.flag n f = 2 ^ 32 - 1 ∧
      ((s.setFlag n f (2 ^ 32 - 1)).flagsetComes n f = true → t.coreState n = s.coreState n ∧
        ∀ v pos ord, v < 2 ^ 32 → 2 ^ 32 ≤ v + KMap.get (t.core n).incNow 0 f → s.coreLive n = true → (s.core n).stop ≠ .halted →
          (t.flagSet n f v pos ord).flag n f = 2 ^ 32 - 1 ∧ (t.flagSet n f v pos ord).coreState n = 2 ∧
          ((t.flagSet n f v pos ord).core n).stop = .halted ∧ (t.flagSet n f v pos ord).fld Obj.haltRecord n 0 8 = 0x14) ∧
      ((s.setFlag n f (2 ^ 32 - 1)).flagsetComes n f = false → s.coreLive n = true → (s.core n).stop ≠ .halted → t.coreState n = 2 ∧ (t.core n).stop = .halted ∧
        t.fld Obj.haltRecord n 0 8 = 0x14 ∧
        (∀ pos ord, src = some (pos, ord) → t.fld Obj.haltRecord n 8 8 = 2 ∧ t.fld Obj.haltRecord n 32 32 = pos % 2 ^ 32 ∧
          t.fld Obj.haltRecord n 64 64 = ord % 2 ^ 64) ∧
        (src = none → t.fld Obj.haltRecord n 8 8 = 3)))) ∧
  (∀ (s : State) (n w : Nat), WaitOver s n w → s.enabled n w = true → CanIssue s .post n w →
    exec (.post n) s = .next (finishSq ((afterWait s n w).addFlag n (bits w 0 12) (bits w 16 32)
      (some (s.position n, s.ordinal n + 1))) s n w (s.position n + 1))) ∧
  (∀ (s : State) (f : Frame), f.ordered = false → s.mustWait f = false → TakesRequest s 5 f → s.hasCore (bits f.hdr 32 8) = true →
    exec (.reqSignal f) s = .next ((s.addFlag (bits f.hdr 32 8) (bits f.hdr 24 8) 1 (s.ownSignal f (bits f.hdr 32 8))).reply f 0 []) ∧
      (f.src ≠ s.devId → s.ownSignal f (bits f.hdr 32 8) = none))

/-- SKIP with a true predicate goes to pos + 1 + n or halts with reason 4; running off the end is reason 5. States
R90. -/
def Obligations.SkipJumpsOrHalts : Prop :=
  ∀ (s : State) (n : Nat),
    (∀ w, CanIssue s .skip n w → WaitOver s n w → s.enabled n w = true →
      let target := s.position n + 1 + bits w 0 12
      ∃ t, exec (.skip n) s = .next t ∧
        (target < (s.core n).streamLen → t.position n = target % 2 ^ 32 ∧ t.ordinal n = (s.ordinal n + 1) % 2 ^ 64 ∧
          (t.core n).icache = (s.core n).icache) ∧
        ((s.core n).streamLen ≤ target → t.coreState n = 2 ∧ (t.core n).stop = .halted ∧ t.fld Obj.haltRecord n 0 8 = 0x12 ∧
          t.fld Obj.haltRecord n 8 8 = 4 ∧ t.position n = s.position n)) ∧
    (∀ c ∈ [Instr.nop n, .skip n, .lap n, .mma n], n < 96 → s.coreCanRun n = true → s.coreState n = 1 → (s.core n).stop = .running →
      (s.core n).streamLen ≤ s.position n → ∃ t, exec c s = .next t ∧ t.coreState n = 2 ∧ (t.core n).stop = .halted ∧
        t.fld Obj.haltRecord n 0 8 = 0x12 ∧ t.fld Obj.haltRecord n 8 8 = 5)

/-- Maximum and minimum of two FP32 values follow the table: NaN wins, -0 lies below +0, infinities are the ends.
States R69. -/
def Obligations.MaximumAndMinimumOfTwoValues : Prop :=
  ∀ (a b : Nat), a < 2 ^ 32 → b < 2 ^ 32 →
    ((decode .fp32 a).isNan = true ∨ (decode .fp32 b).isNan = true → max32 a b = 0x7FC00000 ∧ min32 a b = 0x7FC00000) ∧
    max32 0x80000000 0 = 0 ∧ min32 0x80000000 0 = 0x80000000 ∧ max32 0 0x80000000 = 0 ∧ min32 0 0x80000000 = 0x80000000 ∧
    ((decode .fp32 b).isNan = false → max32 0xFF800000 b = b ∧ min32 0xFF800000 b = 0xFF800000 ∧ max32 0x7F800000 b = 0x7F800000 ∧
      min32 0x7F800000 b = b ∧ max32 b 0xFF800000 = b ∧ min32 b 0xFF800000 = 0xFF800000 ∧ max32 b 0x7F800000 = 0x7F800000 ∧
      min32 b 0x7F800000 = b ∧ max32 b b = b ∧ min32 b b = b) ∧
    (max32 a b = a ∨ max32 a b = b ∨ max32 a b = 0x7FC00000) ∧ (min32 a b = a ∨ min32 a b = b ∨ min32 a b = 0x7FC00000)

/-- A reset that ends a scratch clears every K object and keeps no memory contents. States R501. -/
def Obligations.ResetThatEndsAScratchKeepsNothing : Prop :=
  (∀ (s : State), s.scratched = true → s.aopDead = false → s.resetLow = false → s.boot ≠ .off → s.boot ≠ .rom → s.boot ≠ .held →
    ∀ low high floor ns, low < 2800 → 4400 ≤ high → floor < 1800 → 10000 ≤ ns →
    ∀ c ∈ [Instr.warmReset, .resetNAssert ns, .tripUv low ns, .tripOv high ns, .aopFloor floor], ∃ t, exec c s = .next t ∧ t.scratched = false ∧ t.mem = [] ∧
      ∀ code i o, objInfo code = some o → o.persist = .k → t.rd code i = factoryKey (objKey code i)) ∧
  (∀ (s : State) (volts ns : Nat), s.aopDead = false → s.tripped = some true → 3000 ≤ volts → volts ≤ 4200 → 10000000 ≤ ns →
      ∃ t, exec (.tripRestart volts ns) s = .next t ∧ t.boot = .rom ∧ t.mem = [] ∧
      ∀ code i o, objInfo code = some o → o.persist = .k → t.rd code i = factoryKey (objKey code i))

/-- The loader marks a program ARRIVAL exactly if it contains RSUM FAST, BSET, or a write of G48 to G63 in the table's
RD rows. States R318. -/
def Obligations.LoaderMarksArrivalPrograms : Prop :=
  ∀ (s : State) (slot : Nat), slot < 256 → s.slotBound slot = false → s.slotReserved slot = false →
    let image := s.rd Obj.programStage 0
    loaderCheck image = none → ∃ t, exec (.programLoad slot) s = .next t ∧
      (t.fld Obj.programInfo slot 1 1 = 1 ↔ ∃ i, i < bits image 0 16 ∧
        let w := bits image (64 + 64 * i) 64
        let op := bits w 56 8
        (op = 0x20 ∧ bits w 30 2 = 2) ∨ op = 0x2B ∨
          ((op = 0x05 ∨ op = 0x06 ∨ op = 0x07 ∨ op = 0x08 ∨ op = 0x09 ∨ op = 0x2A) ∧ 48 ≤ bits w 50 6))

/-- A sequencer or engine command that issues changes its own core, its flags of the word, and nothing else. From
spec/03_core_sequencer.md R80, R81, R84, R92, R97, R107, R135. -/
def Obligations.CoreCommandsChangeNothingElse : Prop :=
  ∀ p ∈ [Instr.nop, .sqEnd, .pace, .wait, .post, .flagset, .pset, .plogic, .skip, .lapset, .lap, .drain, .mark, .mma,
      .mout, .mpart, .mclr, .vop, .vcmp, .vfunc, .vred, .vcvt, .vwiden, .vld, .vst, .vbmp, .rake, .rmask, .seta,
      .load, .store, .copy, .atom, .fence, .signal, .coll],
    ∀ (s t : State) (n : Nat), exec (p n) s = .next t →
      t = { s with free := t.free, cores := t.cores, objs := t.objs } ∧ (∀ m, m ≠ n → t.core m = s.core m) ∧
      (∀ o i, o ∉ [Obj.coreState, Obj.strideCount, Obj.haltRecord, Obj.flags, Obj.seqState, Obj.pacedBusy] → t.rd o i = s.rd o i) ∧
      (∀ o ∈ [Obj.coreState, Obj.strideCount, Obj.haltRecord, Obj.seqState], ∀ i, i < 96 → i ≠ n → t.rd o i = s.rd o i) ∧
      (∀ i, i < 288 → i / 3 ≠ n → t.rd Obj.pacedBusy i = s.rd Obj.pacedBusy i) ∧
      (∀ i, i < 2 ^ 32 → t.rd Obj.flags i = s.rd Obj.flags i ∨ ∃ w, s.fetch n (s.position n) = some w ∧
        (waitSel w ≠ 0 ∧ i = 256 * n + waitSel w ∨ postSel w ≠ 0 ∧ i = 256 * n + postSel w ∨ i = 256 * n + bits w 0 12))

/-- What the core events, memory upkeep, and GMU commands leave unchanged. From spec/03_core_sequencer.md;
spec/05_sparse_operands_rake.md; spec/06_local_memory_tiers.md; spec/07_global_memory_space.md. -/
def Obligations.CoreAndMemoryCommandsChangeNothingElse : Prop :=
  ∀ (c : Instr) (s t : State), exec c s = .next t →
    match c with
    | .waitLimit .. =>
      t = { s with
          free := t.free, cores := t.cores, objs := t.objs } ∧
      SameObjects s t [Obj.coreState, Obj.strideCount, Obj.haltRecord, Obj.pacedBusy]
    | .coreComplete .. =>
      t = { s with
          objs := t.objs } ∧
      SameObjects s t [Obj.coreState, Obj.haltRecord]
    | .coreStop .. =>
      t = { s with
          cores := t.cores, objs := t.objs } ∧
      SameObjects s t [Obj.coreState, Obj.coreStop, Obj.haltRecord, Obj.flags]
    | .totalClear .. =>
      t = { s with
          objs := t.objs } ∧
      SameObjects s t [Obj.satTotal, Obj.flushTotal, Obj.totalClear]
    | .strideWindowEnd .. =>
      t = { s with
          cores := t.cores, rkes := t.rkes, rateWindow := t.rateWindow, objs := t.objs } ∧
      SameObjects s t [Obj.strideRate, Obj.rkeStrideRate]
    | .rakeTotalClear .. =>
      t = { s with
          objs := t.objs } ∧
      SameObjects s t [Obj.rakeOverTotal, Obj.rakeOorTotal, Obj.rakeMalformedTotal, Obj.rmaskOutsideTotal, Obj.rakeTotalClear]
    | .ondieCePoll .. =>
      t = { s with
          free := t.free, recals := t.recals, objs := t.objs } ∧
      SameObjects s t [Obj.hbmOndieCeCount]
    | .recalStart .. =>
      t = { s with
          recals := t.recals, objs := t.objs } ∧
      SameObjects s t [Obj.hbmTemp, Obj.dimmTemp]
    | .recalForced .. =>
      t = { s with
          free := t.free, recals := t.recals, objs := t.objs } ∧
      SameObjects s t [Obj.hbmTemp, Obj.hbmHold, Obj.dimmTemp, Obj.ddrHold]
    | .recalNow .. =>
      t = { s with
          recals := t.recals, objs := t.objs } ∧
      SameObjects s t [Obj.recalNow]
    | .dimmDrain .. | .dimmReturn .. | .drainCancel .. =>
      t = { s with
          dimmCopy := t.dimmCopy, objs := t.objs } ∧
      SameObjects s t [Obj.dimmState, Obj.drainCmd, Obj.drainProgress]
    | .dimmPowerOff .. =>
      t = { s with
          objs := t.objs } ∧
      SameObjects s t [Obj.dimmState, Obj.drainCmd]
    | .dimmPowerOn .. =>
      t = { s with
          free := t.free, ramps := t.ramps, objs := t.objs } ∧
      SameObjects s t [Obj.dimmState, Obj.drainCmd, Obj.governorState]
    | .dimmLatchClose .. =>
      t = { s with
          free := t.free, ramps := t.ramps, objs := t.objs } ∧
      SameObjects s t [Obj.dimmState, Obj.governorState]
    | .dimmTrained .. =>
      t = { s with
          mem := t.mem, dimmKeep := t.dimmKeep, ramps := t.ramps, objs := t.objs } ∧
      SameObjects s t [Obj.dimmState, Obj.dimmInfo]
    | .guardActivate .. =>
      t = { s with
          out := t.out, guardRanges := t.guardRanges, guards := t.guards, scanJobs := t.scanJobs,
          marshal := t.marshal, guardStore := t.guardStore, objs := t.objs } ∧
      SameObjects s t [Obj.guardState, Obj.guardCmd]
    | .guardDeactivate .. =>
      t = { s with
          guardRanges := t.guardRanges, guards := t.guards, objs := t.objs } ∧
      SameObjects s t [Obj.guardState, Obj.guardCmd]
    | .pacedDispatch .. | .queueDispatch .. | .pacedResult .. | .icacheFill .. | .coreLaunch ..
    | .rkeServiceStart .. | .rkeResult .. | .patrolRead .. | .drainBlockCopied .. | .dimmLatchOpen .. | .gmuReply ..
    | .replayAfterExpiry .. | .abandonAfterExpiry .. | .tagQuarantineEnd .. | .streamReset .. =>
      t = { s with
          mem := t.mem, free := t.free, out := t.out, cores := t.cores, rkes := t.rkes, dimmCopy := t.dimmCopy,
          waiting := t.waiting, sent := t.sent, heldReqs := t.heldReqs, frames := t.frames, copies := t.copies,
          charges := t.charges, offAt := t.offAt, mirrorQueue := t.mirrorQueue, rings := t.rings, ports := t.ports,
          elsLost := t.elsLost, cvus := t.cvus, scanJobs := t.scanJobs, sus := t.sus, qps := t.qps,
          hostRings := t.hostRings, powerEntry := t.powerEntry, powerWake := t.powerWake,
          mirrorHeld := t.mirrorHeld, moves := t.moves, linkLocals := t.linkLocals, srcSts := t.srcSts,
          dstSts := t.dstSts, guards := t.guards, ctxs := t.ctxs, ringDone := t.ringDone, marshal := t.marshal,
          patrols := t.patrols, quarantine := t.quarantine, objs := t.objs } ∧
      SameObjects s t [Obj.serviceState, Obj.scratchCause, Obj.scratchTime, Obj.coreState, Obj.strideCount, Obj.haltRecord,
          Obj.flags, Obj.pacedBusy, Obj.descIgnored, Obj.tmCeCount, Obj.ssramCeCount, Obj.memUeRecord,
          Obj.memUeExtra, Obj.hbmCeCount, Obj.dimmCeCount, Obj.portState, Obj.portInfo, Obj.headroomUsed,
          Obj.portErrors, Obj.bufUsage, Obj.positionCount, Obj.portUsable, Obj.mcResidue, Obj.mcCopyDropped,
          Obj.dropCounts, Obj.markReceived, Obj.flowTable, Obj.arenaCeCount, Obj.qpTable, Obj.ringState,
          Obj.governorState, Obj.powerState, Obj.cipherStatus, Obj.lostCount, Obj.srcStreams, Obj.gmuError,
          Obj.bindState, Obj.suCounts, Obj.suBusy, Obj.bitmapClear, Obj.ctxState, Obj.ctxCounts, Obj.collError,
          Obj.hostPortCounts, Obj.qpCounts, Obj.summarySlots, Obj.tileRegs, Obj.maskRegs, Obj.satTotal,
          Obj.flushTotal, Obj.icacheRefetch, Obj.coreLaunch, Obj.seqState, Obj.rakeOverTotal, Obj.rakeOorTotal,
          Obj.rakeMalformedTotal, Obj.rmaskOutsideTotal, Obj.dimmState, Obj.drainProgress, Obj.redirect,
          Obj.lateByDest, Obj.streamEvents, Obj.streamReset]
    | .recalEnd .. | .reqRead .. | .reqWrite .. | .reqAtomic .. | .reqFence .. | .reqSignal .. | .reqPdelta ..
    | .reqPclose .. | .guardParityReplied .. | .guardQuiet .. | .stripeDemandRebuild .. =>
      t = { s with
          mem := t.mem, free := t.free, out := t.out, cores := t.cores, rkes := t.rkes, dimmCopy := t.dimmCopy,
          recals := t.recals, waiting := t.waiting, sent := t.sent, dstSts := t.dstSts, guards := t.guards,
          heldReqs := t.heldReqs, frames := t.frames, copies := t.copies, charges := t.charges, offAt := t.offAt,
          mirrorSeen := t.mirrorSeen, mirrorSeq := t.mirrorSeq, mirrorQueue := t.mirrorQueue, rings := t.rings,
          buckets := t.buckets, ports := t.ports, elsLost := t.elsLost, cvus := t.cvus, scanJobs := t.scanJobs,
          sus := t.sus, qps := t.qps, hostRings := t.hostRings, powerEntry := t.powerEntry,
          powerWake := t.powerWake, marshal := t.marshal, guardStore := t.guardStore, mirrorHeld := t.mirrorHeld,
          moves := t.moves, linkLocals := t.linkLocals, srcSts := t.srcSts, objs := t.objs }
    | _ => True

/-- What the port, laser, Track and traffic manager commands leave unchanged. From spec/08_fabric_ports_optics.md;
spec/09_switch_core.md; spec/10_traffic_manager.md. -/
def Obligations.PortAndSwitchCommandsChangeNothingElse : Prop :=
  ∀ (c : Instr) (s t : State), exec c s = .next t →
    match c with
    | .loopMeasure .. =>
      t = { s with
          out := t.out, ports := t.ports }
    | .trainingStart .. | .trainingRetry .. | .lightReturns .. =>
      t = { s with
          out := t.out, ports := t.ports, objs := t.objs } ∧
      SameObjects s t [Obj.portState, Obj.portInfo]
    | .portUp .. =>
      t = { s with
          out := t.out, ports := t.ports, objs := t.objs } ∧
      SameObjects s t [Obj.portState, Obj.portInfo, Obj.headroomUsed, Obj.cipherStatus]
    | .cipherKeyAgreed .. =>
      t = { s with
          out := t.out, ports := t.ports, objs := t.objs } ∧
      SameObjects s t [Obj.portState, Obj.portInfo, Obj.cipherStatus]
    | .portEnable .. =>
      t = { s with
          ports := t.ports, objs := t.objs } ∧
      SameObjects s t [Obj.portState, Obj.portCmd, Obj.portInfo]
    | .portSelftest .. =>
      t = { s with
          ports := t.ports, objs := t.objs } ∧
      SameObjects s t [Obj.portCmd]
    | .elsPartnerFull .. =>
      t = { s with
          elsLost := t.elsLost, elsSince := t.elsSince, elsOn := t.elsOn, objs := t.objs } ∧
      SameObjects s t [Obj.elsState, Obj.elsInfo]
    | .elsRemove .. | .elsCancel .. =>
      t = { s with
          elsSince := t.elsSince, elsOn := t.elsOn, objs := t.objs } ∧
      SameObjects s t [Obj.elsState, Obj.elsInfo, Obj.elsCmd]
    | .elsRampDone .. =>
      t = { s with
          elsSince := t.elsSince, elsOn := t.elsOn, objs := t.objs } ∧
      SameObjects s t [Obj.elsState, Obj.elsInfo]
    | .elsInsert .. =>
      t = { s with
          free := t.free, elsSince := t.elsSince, ramps := t.ramps, elsOn := t.elsOn, objs := t.objs } ∧
      SameObjects s t [Obj.elsState, Obj.elsInfo, Obj.governorState]
    | .elsStartDone .. =>
      t = { s with
          elsSince := t.elsSince, ramps := t.ramps, elsOn := t.elsOn, objs := t.objs } ∧
      SameObjects s t [Obj.elsState, Obj.elsInfo]
    | .frameLookup .. =>
      t = { s with
          free := t.free, out := t.out, frames := t.frames, copies := t.copies, nextFrame := t.nextFrame,
          charges := t.charges, offAt := t.offAt, ports := t.ports, linkLocals := t.linkLocals, objs := t.objs } ∧
      SameObjects s t [Obj.bufUsage, Obj.positionCount, Obj.mcResidue, Obj.dropCounts, Obj.markCount]
    | .mcLookup .. =>
      t = { s with
          free := t.free, out := t.out, frames := t.frames, copies := t.copies, nextFrame := t.nextFrame,
          charges := t.charges, offAt := t.offAt, ports := t.ports, objs := t.objs } ∧
      SameObjects s t [Obj.bufUsage, Obj.positionCount, Obj.mcResidue, Obj.mcCopyDropped, Obj.dropCounts, Obj.markCount]
    | .cellMatch .. =>
      t = { s with
          free := t.free, out := t.out, frames := t.frames, copies := t.copies, cellTime := t.cellTime,
          charges := t.charges, offAt := t.offAt, grantPtr := t.grantPtr, acceptPtr := t.acceptPtr,
          ports := t.ports, objs := t.objs } ∧
      SameObjects s t [Obj.bufUsage, Obj.positionCount, Obj.mcResidue, Obj.markReceived]
    | .frameDeparture .. =>
      t = { s with
          free := t.free, out := t.out, frames := t.frames, copies := t.copies, charges := t.charges,
          offAt := t.offAt, mirrorSeen := t.mirrorSeen, mirrorSeq := t.mirrorSeq, mirrorQueue := t.mirrorQueue,
          ports := t.ports, mirrorHeld := t.mirrorHeld, objs := t.objs } ∧
      SameObjects s t [Obj.bufUsage, Obj.positionCount, Obj.mcResidue, Obj.mirrorCounts, Obj.markReceived]
    | .fwdAgeExpiry .. =>
      t = { s with
          free := t.free, out := t.out, frames := t.frames, copies := t.copies, charges := t.charges,
          offAt := t.offAt, rings := t.rings, ports := t.ports, moves := t.moves, objs := t.objs } ∧
      SameObjects s t [Obj.bufUsage, Obj.positionCount, Obj.mcResidue, Obj.dropCounts, Obj.flowTable]
    | .routeCommit .. =>
      t = { s with
          objs := t.objs } ∧
      SameObjects s t [Obj.routeActive, Obj.orientActive, Obj.routeCommit, Obj.commitResult, Obj.portUsable, Obj.mcActive]
    | .flowEnqueue .. =>
      t = { s with
          free := t.free, out := t.out, frames := t.frames, copies := t.copies, charges := t.charges,
          offAt := t.offAt, rings := t.rings, credits := t.credits, buckets := t.buckets, ports := t.ports,
          objs := t.objs } ∧
      SameObjects s t [Obj.bufUsage, Obj.positionCount, Obj.mcResidue, Obj.markCount, Obj.flowTable, Obj.policerCounts,
          Obj.tmgCounts]
    | .tmgPick .. =>
      t = { s with
          free := t.free, out := t.out, copies := t.copies, nextPick := t.nextPick, offAt := t.offAt,
          rings := t.rings, credits := t.credits, buckets := t.buckets, ports := t.ports, moves := t.moves,
          objs := t.objs } ∧
      SameObjects s t [Obj.bufUsage, Obj.mcResidue, Obj.flowTable, Obj.tmgCounts]
    | .flowCreate .. =>
      t = { s with
          free := t.free, credits := t.credits, objs := t.objs } ∧
      SameObjects s t [Obj.flowTable, Obj.flowCmd, Obj.tmgCounts]
    | .flowDelete .. =>
      t = { s with
          objs := t.objs } ∧
      SameObjects s t [Obj.flowTable, Obj.flowCmd]
    | .trainingCheckExpiry .. =>
      t = { s with
          ports := t.ports, objs := t.objs } ∧
      SameObjects s t [Obj.portState, Obj.portInfo]
    | .linkBlockReceive .. | .linkReplayTimeout .. | .portLos .. | .fecRate .. | .portDisable .. | .retrain ..
    | .selftestLoopbackDone .. | .oeSelftest .. | .elsOutputLoss .. | .elsLatchOpen .. =>
      t = { s with
          mem := t.mem, free := t.free, out := t.out, cores := t.cores, rkes := t.rkes, dimmCopy := t.dimmCopy,
          waiting := t.waiting, sent := t.sent, srcSts := t.srcSts, dstSts := t.dstSts, guards := t.guards,
          heldReqs := t.heldReqs, frames := t.frames, copies := t.copies, nextFrame := t.nextFrame,
          charges := t.charges, offAt := t.offAt, mirrorQueue := t.mirrorQueue, rings := t.rings, ports := t.ports,
          elsLost := t.elsLost, reports := t.reports, cvus := t.cvus, scanJobs := t.scanJobs, sus := t.sus,
          qps := t.qps, hostRings := t.hostRings, powerEntry := t.powerEntry, powerWake := t.powerWake,
          marshal := t.marshal, scratchSeen := t.scratchSeen, mirrorHeld := t.mirrorHeld, moves := t.moves,
          linkLocals := t.linkLocals, elsSince := t.elsSince, ramps := t.ramps, elsOn := t.elsOn, objs := t.objs } ∧
      SameObjects s t [Obj.serviceState, Obj.scratchCause, Obj.scratchTime, Obj.coreState, Obj.haltRecord, Obj.flags,
          Obj.tmCeCount, Obj.ssramCeCount, Obj.memUeRecord, Obj.memUeExtra, Obj.hbmCeCount, Obj.dimmCeCount,
          Obj.lostCount, Obj.srcStreams, Obj.streamEvents, Obj.gmuError, Obj.portState, Obj.portInfo,
          Obj.headroomUsed, Obj.portErrors, Obj.bufUsage, Obj.positionCount, Obj.portUsable, Obj.mcResidue,
          Obj.mcCopyDropped, Obj.dropCounts, Obj.mirrorCounts, Obj.markReceived, Obj.flowTable, Obj.arenaCeCount,
          Obj.hostPortCounts, Obj.qpTable, Obj.qpCounts, Obj.ringState, Obj.powerState, Obj.cipherStatus,
          Obj.laneStatus, Obj.portCmd, Obj.oeSelftest, Obj.elsState, Obj.elsInfo]
    | _ => True

/-- What the stream unit, collective, pool and check value commands leave unchanged. From spec/11_stream_programs.md;
spec/12_collectives.md; spec/13_buffer_pools_and_check_values.md. -/
def Obligations.StreamUnitAndCollectiveCommandsChangeNothingElse : Prop :=
  ∀ (c : Instr) (s t : State), exec c s = .next t →
    match c with
    | .suFrameDeliver .. =>
      t = { s with
          sus := t.sus, objs := t.objs } ∧
      SameObjects s t [Obj.bindState, Obj.suCounts, Obj.suUnmapped]
    | .suRunStart .. =>
      t = { s with
          mem := t.mem, free := t.free, cores := t.cores, rkes := t.rkes, sus := t.sus, ctxs := t.ctxs,
          ringDone := t.ringDone, objs := t.objs } ∧
      SameObjects s t [Obj.coreState, Obj.haltRecord, Obj.flags, Obj.bindState, Obj.suCounts, Obj.suFault, Obj.suBusy,
          Obj.bitmapClear, Obj.ctxState, Obj.ctxCounts]
    | .ecmelNop u | .ecmelEnd u | .ecmelDrop u | .brz u | .brnz u | .movi u | .ecmelAlu u | .ecmelGet u
    | .ecmelHdr u | .ldp u | .padd u | .ohdr u | .oput u | .ocopy u | .ecmelRsum u | .ecmelGath u | .ecmelFilt u
    | .ecmelMerge u | .btest u | .bset u | .gfmac u | .ozero u =>
      t = { s with
          mem := t.mem, sus := t.sus, objs := t.objs } ∧
      SameObjects s t [Obj.bindState, Obj.suCounts, Obj.suFault, Obj.suBusy, Obj.bitmapClear] ∧
      (∀ x, x ≠ u → t.su x = s.su x) ∧ ∀ space off, space < 16 → off < 2 ^ 44 → t.mem8 space off = s.mem8 space off
    | .ecmelSend u =>
      t = { s with
          mem := t.mem, out := t.out, sus := t.sus, objs := t.objs } ∧
      SameObjects s t [Obj.bindState, Obj.suCounts, Obj.suFault, Obj.suBusy, Obj.bitmapClear] ∧
      (∀ x, x ≠ u → t.su x = s.su x) ∧ ∀ space off, space < 16 → off < 2 ^ 44 → t.mem8 space off = s.mem8 space off
    | .programLoad .. =>
      t = { s with
          objs := t.objs } ∧
      SameObjects s t [Obj.programLoad, Obj.programInfo, Obj.programText, Obj.measurement]
    | .programClear .. =>
      t = { s with
          objs := t.objs } ∧
      SameObjects s t [Obj.programLoad, Obj.programInfo, Obj.programText]
    | .unbind .. =>
      t = { s with
          mem := t.mem, free := t.free, pools := t.pools, owners := t.owners, suBufs := t.suBufs, objs := t.objs } ∧
      SameObjects s t [Obj.bindState, Obj.bindCmd, Obj.poolState, Obj.poolFlags, Obj.poolCounts, Obj.poolReject]
    | .forceUnbind .. =>
      t = { s with
          mem := t.mem, free := t.free, pools := t.pools, owners := t.owners, sus := t.sus, suBufs := t.suBufs,
          objs := t.objs } ∧
      SameObjects s t [Obj.bindState, Obj.bindCmd, Obj.suCounts, Obj.suBusy, Obj.bitmapClear, Obj.poolState, Obj.poolFlags,
          Obj.poolCounts, Obj.poolReject]
    | .bitmapClear .. =>
      t = { s with
          mem := t.mem, sus := t.sus, objs := t.objs } ∧
      SameObjects s t [Obj.bitmapClear]
    | .groupDestroy .. =>
      t = { s with
          mem := t.mem, free := t.free, out := t.out, pools := t.pools, owners := t.owners, sus := t.sus,
          ctxs := t.ctxs, objs := t.objs } ∧
      SameObjects s t [Obj.programInfo, Obj.bindState, Obj.suCounts, Obj.suBusy, Obj.bitmapClear, Obj.groupCmd, Obj.ctxState,
          Obj.poolState, Obj.poolFlags, Obj.poolCounts, Obj.poolReject]
    | .groupResume .. =>
      t = { s with
          ctxs := t.ctxs, objs := t.objs } ∧
      SameObjects s t [Obj.groupCmd, Obj.ctxState]
    | .contribFrame .. | .resultFrame .. | .directFrame .. | .grantFrame .. | .doneFrame .. | .abortFrame ..
    | .chunkTimeout .. | .resultTimeout .. =>
      t = { s with
          mem := t.mem, free := t.free, cores := t.cores, rkes := t.rkes, sus := t.sus, ctxs := t.ctxs,
          ringDone := t.ringDone, objs := t.objs } ∧
      SameObjects s t [Obj.coreState, Obj.haltRecord, Obj.flags, Obj.bindState, Obj.suCounts, Obj.suBusy, Obj.bitmapClear,
          Obj.ctxState, Obj.ctxCounts]
    | .resultAssemble .. =>
      t = { s with
          free := t.free, ctxs := t.ctxs, objs := t.objs } ∧
      SameObjects s t [Obj.ctxState, Obj.ctxCounts]
    | .bpmHandover .. =>
      t = { s with
          free := t.free, owners := t.owners, objs := t.objs } ∧
      SameObjects s t [Obj.poolCmd, Obj.poolCounts, Obj.poolReject]
    | .bpmFree .. =>
      t = { s with
          mem := t.mem, free := t.free, pools := t.pools, owners := t.owners, objs := t.objs } ∧
      SameObjects s t [Obj.poolState, Obj.poolCmd, Obj.poolFlags, Obj.poolCounts, Obj.poolReject]
    | .poolInit .. | .poolDisable .. =>
      t = { s with
          pools := t.pools, objs := t.objs } ∧
      SameObjects s t [Obj.poolState, Obj.poolCmd]
    | .poolInitDone .. =>
      t = { s with
          mem := t.mem, free := t.free, pools := t.pools, owners := t.owners, objs := t.objs } ∧
      SameObjects s t [Obj.poolState, Obj.poolFlags, Obj.poolCounts]
    | .ownerQuery .. =>
      t = { s with
          objs := t.objs } ∧
      SameObjects s t [Obj.ownerQuery]
    | .cvuStart .. =>
      t = { s with
          objs := t.objs } ∧
      SameObjects s t [Obj.cvuRun, Obj.cvuCmd]
    | .cvuFinish .. | .cvuResume .. =>
      t = { s with
          objs := t.objs } ∧
      SameObjects s t [Obj.cvuState, Obj.cvuCmd]
    | .cvuSuspend .. =>
      t = { s with
          objs := t.objs } ∧
      SameObjects s t [Obj.cvuRun, Obj.cvuState, Obj.cvuCmd]
    | .feed .. | .cvuCancel .. =>
      t = { s with
          cvus := t.cvus, objs := t.objs } ∧
      SameObjects s t [Obj.cvuRun, Obj.cvuState, Obj.cvuCmd]
    | .scanSubmit .. =>
      t = { s with
          scanJobs := t.scanJobs, objs := t.objs } ∧
      SameObjects s t [Obj.scanCmd, Obj.scanResult]
    | .scanCancel .. =>
      t = { s with
          mem := t.mem, scanJobs := t.scanJobs, objs := t.objs } ∧
      SameObjects s t [Obj.cvuRun, Obj.cvuState, Obj.scanCmd, Obj.scanResult]
    | .scanJobStart .. =>
      t = { s with
          scanJobs := t.scanJobs, objs := t.objs } ∧
      SameObjects s t [Obj.scanResult]
    | .guardRun .. | .bind .. | .groupSetup .. | .chunkSend .. | .retryFrame .. | .bpmReserve .. | .bpmAllocHigh ..
    | .bpmAllocLow .. | .feedDone .. =>
      t = { s with
          mem := t.mem, free := t.free, out := t.out, cores := t.cores, rkes := t.rkes, dimmCopy := t.dimmCopy,
          waiting := t.waiting, sent := t.sent, srcSts := t.srcSts, dstSts := t.dstSts, guards := t.guards,
          heldReqs := t.heldReqs, frames := t.frames, copies := t.copies, charges := t.charges, offAt := t.offAt,
          mirrorQueue := t.mirrorQueue, rings := t.rings, ports := t.ports, elsLost := t.elsLost, cvus := t.cvus,
          scanJobs := t.scanJobs, sus := t.sus, qps := t.qps, hostRings := t.hostRings, powerEntry := t.powerEntry,
          powerWake := t.powerWake, marshal := t.marshal, mirrorHeld := t.mirrorHeld, moves := t.moves,
          linkLocals := t.linkLocals, pools := t.pools, owners := t.owners, suBufs := t.suBufs, ctxs := t.ctxs,
          ringDone := t.ringDone, objs := t.objs } ∧
      SameObjects s t [Obj.serviceState, Obj.scratchCause, Obj.scratchTime, Obj.coreState, Obj.haltRecord, Obj.flags,
          Obj.tmCeCount, Obj.ssramCeCount, Obj.memUeRecord, Obj.memUeExtra, Obj.hbmCeCount, Obj.dimmCeCount,
          Obj.lostCount, Obj.srcStreams, Obj.gmuError, Obj.portState, Obj.portInfo, Obj.headroomUsed,
          Obj.portErrors, Obj.bufUsage, Obj.positionCount, Obj.portUsable, Obj.mcResidue, Obj.mcCopyDropped,
          Obj.dropCounts, Obj.markReceived, Obj.flowTable, Obj.suBusy, Obj.arenaCeCount, Obj.hostPortCounts,
          Obj.qpTable, Obj.qpCounts, Obj.ringState, Obj.powerState, Obj.cipherStatus, Obj.bindState, Obj.bindCmd,
          Obj.suFault, Obj.poolState, Obj.poolFlags, Obj.poolCounts, Obj.programInfo, Obj.groupCmd, Obj.ctxState,
          Obj.ctxCounts, Obj.suCounts, Obj.bitmapClear, Obj.poolCmd, Obj.cvuRun, Obj.cvuState]
    | .scanJobEnd .. =>
      t = { s with
          mem := t.mem, free := t.free, out := t.out, cores := t.cores, rkes := t.rkes,
          guardRanges := t.guardRanges, dimmCopy := t.dimmCopy, waiting := t.waiting, sent := t.sent,
          dstSts := t.dstSts, guards := t.guards, heldReqs := t.heldReqs, frames := t.frames, copies := t.copies,
          charges := t.charges, offAt := t.offAt, mirrorSeen := t.mirrorSeen, mirrorSeq := t.mirrorSeq,
          mirrorQueue := t.mirrorQueue, rings := t.rings, buckets := t.buckets, ports := t.ports,
          elsLost := t.elsLost, cvus := t.cvus, scanJobs := t.scanJobs, sus := t.sus, qps := t.qps,
          hostRings := t.hostRings, powerEntry := t.powerEntry, powerWake := t.powerWake, marshal := t.marshal,
          guardStore := t.guardStore, mirrorHeld := t.mirrorHeld, moves := t.moves, linkLocals := t.linkLocals,
          objs := t.objs }
    | _ => True

/-- What the host, dictionary, recovery, power, security and management commands leave unchanged. From
spec/14_host_attachment_and_dictionary.md; spec/15_failure_recovery_reproducibility.md;
spec/16_power_energy_states_resets.md; spec/17_security_and_images.md; spec/18_physical_electrical_thermal.md. -/
def Obligations.ModuleCommandsChangeNothingElse : Prop :=
  ∀ (c : Instr) (s t : State), exec c s = .next t →
    match c with
    | .startupFill .. =>
      t = { s with
          mem := t.mem, boot := t.boot, objs := t.objs } ∧
      SameObjects s t [Obj.serviceState, Obj.deviceId, Obj.scanInternal, Obj.membership]
    | .hostFrameReceive .. =>
      t = { s with
          free := t.free, out := t.out, waiting := t.waiting, qps := t.qps, hostRings := t.hostRings,
          objs := t.objs } ∧
      SameObjects s t [Obj.hostPortCounts, Obj.qpTable, Obj.qpCounts, Obj.ringState]
    | .cnp .. =>
      t = { s with
          free := t.free, qps := t.qps, objs := t.objs } ∧
      SameObjects s t [Obj.hostPortCounts]
    | .rateRaise .. =>
      t = { s with
          qps := t.qps }
    | .ackTimeout .. | .acknowledgement .. =>
      t = { s with
          free := t.free, out := t.out, qps := t.qps, hostRings := t.hostRings, objs := t.objs } ∧
      SameObjects s t [Obj.hostPortCounts, Obj.qpTable, Obj.qpCounts, Obj.ringState]
    | .qpConnect .. =>
      t = { s with
          qps := t.qps, objs := t.objs } ∧
      SameObjects s t [Obj.qpTable, Obj.qpCmd]
    | .qpReset .. =>
      t = { s with
          qps := t.qps, hostRings := t.hostRings, objs := t.objs } ∧
      SameObjects s t [Obj.qpTable, Obj.qpCmd, Obj.ringState]
    | .ringPoll .. =>
      t = { s with
          free := t.free, out := t.out, qps := t.qps, hostRings := t.hostRings, objs := t.objs } ∧
      SameObjects s t [Obj.hostPortCounts, Obj.ringState]
    | .ringNop .. =>
      t = { s with
          hostRings := t.hostRings, objs := t.objs } ∧
      SameObjects s t [Obj.ringState]
    | .ringPower .. =>
      t = { s with
          ringDone := t.ringDone, hostRings := t.hostRings, powerEntry := t.powerEntry, powerWake := t.powerWake,
          objs := t.objs } ∧
      SameObjects s t [Obj.ringState, Obj.powerState, Obj.powerCmd]
    | .ringPoolFree .. =>
      t = { s with
          mem := t.mem, free := t.free, pools := t.pools, owners := t.owners, hostRings := t.hostRings,
          objs := t.objs } ∧
      SameObjects s t [Obj.poolState, Obj.poolFlags, Obj.poolCounts, Obj.poolReject, Obj.ringState]
    | .ringCompletion .. =>
      t = { s with
          free := t.free, out := t.out, ringDone := t.ringDone, qps := t.qps, hostRings := t.hostRings,
          objs := t.objs } ∧
      SameObjects s t [Obj.hostPortCounts, Obj.ringState]
    | .ringStart .. =>
      t = { s with
          hostRings := t.hostRings, objs := t.objs } ∧
      SameObjects s t [Obj.ringCmd, Obj.ringState]
    | .ringStop .. =>
      t = { s with
          qps := t.qps, hostRings := t.hostRings, objs := t.objs } ∧
      SameObjects s t [Obj.ringCmd, Obj.ringState]
    | .fwdOutbound .. | .fwdInbound .. =>
      t = { s with
          free := t.free, out := t.out, objs := t.objs } ∧
      SameObjects s t [Obj.hostPortCounts]
    | .mirrorOut .. =>
      t = { s with
          free := t.free, out := t.out, mirrorQueue := t.mirrorQueue, objs := t.objs } ∧
      SameObjects s t [Obj.mirrorCounts, Obj.hostPortCounts]
    | .cdpRead .. | .describe .. | .cdpNext .. | .nvWrite .. | .nvErase .. | .sessionOpen .. | .sessionClose ..
    | .imageWrite .. =>
      t = { s with
          free := t.free, out := t.out, fwStandby := t.fwStandby, fwMark := t.fwMark, nvMark := t.nvMark,
          imageWritten := t.imageWritten, flash := t.flash, journalSeq := t.journalSeq, sessions := t.sessions,
          sources := t.sources, objs := t.objs } ∧
      SameObjects s t [Obj.cdpCounts, Obj.nvState]
    | .sessionFinish .. =>
      t = { s with
          free := t.free, out := t.out, sessions := t.sessions, sources := t.sources, objs := t.objs } ∧
      SameObjects s t [Obj.cdpCounts]
    | .cdpIdleExpiry .. | .sessionFinishTimeout .. =>
      t = { s with
          sessions := t.sessions }
    | .nvBankErase .. =>
      t = { s with
          nvErasing := t.nvErasing, nvMark := t.nvMark, imageWritten := t.imageWritten, flash := t.flash,
          objs := t.objs } ∧
      SameObjects s t [Obj.nvState, Obj.nvCmd]
    | .nvBankEraseDone .. =>
      t = { s with
          nvErasing := t.nvErasing, objs := t.objs } ∧
      SameObjects s t [Obj.nvState, Obj.nvCmd]
    | .nvVerify .. =>
      t = { s with
          objs := t.objs } ∧
      SameObjects s t [Obj.nvState, Obj.nvCmd, Obj.nvVerify]
    | .nvActivate .. =>
      t = { s with
          nvMark := t.nvMark, objs := t.objs } ∧
      SameObjects s t [Obj.nvState, Obj.nvCmd]
    | .heartbeatSend .. =>
      t = { s with
          out := t.out, marshal := t.marshal }
    | .probeRelayTimeout .. =>
      t = { s with
          out := t.out, watches := t.watches, marshal := t.marshal }
    | .probeMsg .. | .helloSend .. =>
      t = { s with
          out := t.out, marshal := t.marshal, linkLocals := t.linkLocals }
    | .helloMsg .. =>
      t = { s with
          out := t.out, watches := t.watches, marshal := t.marshal, linkLocals := t.linkLocals, objs := t.objs } ∧
      SameObjects s t [Obj.membership]
    | .assignMsg .. =>
      t = { s with
          out := t.out, marshal := t.marshal, linkLocals := t.linkLocals, objs := t.objs } ∧
      SameObjects s t [Obj.serviceState, Obj.deviceId]
    | .guardSyncMsg .. =>
      t = { s with
          marshal := t.marshal, guardStore := t.guardStore }
    | .restAnswerMsg .. =>
      t = { s with
          watches := t.watches, marshal := t.marshal, objs := t.objs } ∧
      SameObjects s t [Obj.membership]
    | .restQueryRetry .. =>
      t = { s with
          out := t.out, watches := t.watches, marshal := t.marshal, objs := t.objs } ∧
      SameObjects s t [Obj.membership]
    | .marshalAdmit .. =>
      t = { s with
          marshal := t.marshal, objs := t.objs } ∧
      SameObjects s t [Obj.marshalCmd]
    | .inputDip .. =>
      t = { s with
          free := t.free, objs := t.objs } ∧
      SameObjects s t [Obj.inputEvents, Obj.inputCounts]
    | .ovWarn .. =>
      t = { s with
          objs := t.objs } ∧
      SameObjects s t [Obj.inputEvents]
    | .reverseBlock .. =>
      t = { s with
          free := t.free, inputBlocked := t.inputBlocked, objs := t.objs } ∧
      SameObjects s t [Obj.inputEvents, Obj.inputCounts]
    | .reverseConduct .. =>
      t = { s with
          inputBlocked := t.inputBlocked }
    | .governorUpdate .. =>
      t = { s with
          free := t.free, govPower := t.govPower, thermHold := t.thermHold, ramps := t.ramps, hbmHold := t.hbmHold,
          govAt := t.govAt, objs := t.objs } ∧
      SameObjects s t [Obj.inputStatus, Obj.governorState, Obj.stageState, Obj.thermalEvents]
    | .loopLost .. | .inletHigh .. =>
      t = { s with
          objs := t.objs } ∧
      SameObjects s t [Obj.thermalEvents]
    | .stageRemove .. | .stageCancel .. =>
      t = { s with
          objs := t.objs } ∧
      SameObjects s t [Obj.stageState, Obj.stageCmd]
    | .stageSafe .. =>
      t = { s with
          objs := t.objs } ∧
      SameObjects s t [Obj.stageState]
    | .stageInsert .. =>
      t = { s with
          free := t.free, ramps := t.ramps, objs := t.objs } ∧
      SameObjects s t [Obj.governorState, Obj.stageState, Obj.stageInfo]
    | .powerRun .. | .powerHold .. | .powerRest .. | .powerDeepRest .. =>
      t = { s with
          ringDone := t.ringDone, powerEntry := t.powerEntry, powerWake := t.powerWake, objs := t.objs } ∧
      SameObjects s t [Obj.powerState, Obj.powerCmd]
    | .restAbortPoint .. =>
      t = { s with
          ringDone := t.ringDone, powerEntry := t.powerEntry, powerWake := t.powerWake, saved := t.saved,
          objs := t.objs } ∧
      SameObjects s t [Obj.powerState, Obj.powerCmd, Obj.aosUsage]
    | .deepRestPermit .. =>
      t = { s with
          powerEntry := t.powerEntry, objs := t.objs } ∧
      SameObjects s t [Obj.powerState, Obj.powerCmd]
    | .unitResetCore .. =>
      t = { s with
          hostRings := t.hostRings, saved := t.saved, objs := t.objs } ∧
      SameObjects s t [Obj.icacheRefetch, Obj.haltRecord, Obj.flags, Obj.seqState, Obj.summarySlots, Obj.tileRegs, Obj.maskRegs,
          Obj.rakeOverTotal, Obj.rakeOorTotal, Obj.rakeMalformedTotal, Obj.rmaskOutsideTotal, Obj.satTotal,
          Obj.flushTotal, Obj.unitReset]
    | .unitResetSu .. =>
      t = { s with
          sus := t.sus, saved := t.saved, objs := t.objs } ∧
      SameObjects s t [Obj.programInfo, Obj.programText, Obj.suCounts, Obj.suFault, Obj.unitReset]
    | .unitResetCvu .. =>
      t = { s with
          cvus := t.cvus, saved := t.saved, objs := t.objs } ∧
      SameObjects s t [Obj.cvuRun, Obj.cvuState, Obj.unitReset]
    | .unitResetHostPort .. =>
      t = { s with
          saved := t.saved, objs := t.objs } ∧
      SameObjects s t [Obj.hostPortState, Obj.hostPortCounts, Obj.unitReset]
    | .resetNRelease .. =>
      t = { s with
          boot := t.boot, resetLow := t.resetLow }
    | .keysCmd .. =>
      t = { s with
          operatorKeys := t.operatorKeys, objs := t.objs } ∧
      SameObjects s t [Obj.securityCmd]
    | .rollbackCommit .. =>
      t = { s with
          rollback := t.rollback, nvMark := t.nvMark, objs := t.objs } ∧
      SameObjects s t [Obj.securityCmd, Obj.nvState]
    | .svnCommit .. =>
      t = { s with
          svnFuses := t.svnFuses, fwStandby := t.fwStandby, fwMark := t.fwMark, objs := t.objs } ∧
      SameObjects s t [Obj.securityCmd]
    | .fwErase .. =>
      t = { s with
          fwStandby := t.fwStandby, fwMark := t.fwMark, fwOwn := t.fwOwn, fwErasing := t.fwErasing,
          imageWritten := t.imageWritten, flash := t.flash, objs := t.objs } ∧
      SameObjects s t [Obj.securityCmd]
    | .fwVerify .. =>
      t = { s with
          fwStandby := t.fwStandby, objs := t.objs } ∧
      SameObjects s t [Obj.securityCmd]
    | .fwActivate .. =>
      t = { s with
          fwMark := t.fwMark, objs := t.objs } ∧
      SameObjects s t [Obj.securityCmd]
    | .attest .. =>
      t = { s with
          objs := t.objs } ∧
      SameObjects s t [Obj.attest]
    | .extendMr .. =>
      t = { s with
          objs := t.objs } ∧
      SameObjects s t [Obj.measurement]
    | .smbusBlockRead .. =>
      t = { s with
          out := t.out }
    | .sidebandUpdate .. =>
      t = { s with
          sideband := t.sideband, sidebandAt := t.sidebandAt, objs := t.objs } ∧
      SameObjects s t [Obj.thermalStatus, Obj.stackTemp]
    | .osfpInsert .. | .osfpRemove .. | .hostPortUp .. | .hostPortDown .. =>
      t = { s with
          objs := t.objs } ∧
      SameObjects s t [Obj.hostPortState]
    | .fwEraseDone .. =>
      t = { s with
          fwStandby := t.fwStandby, fwErasing := t.fwErasing, objs := t.objs } ∧
      SameObjects s t [Obj.securityCmd]
    | .rdmaWrite .. | .rdmaRead .. | .rdmaSend .. | .rdmaAtomic .. | .ringLaunch .. | .ringColl ..
    | .heartbeatMsg .. | .probeAckMsg .. | .suspectMsg .. | .clearedMsg .. | .marshalFenceMsg .. | .relayMsg ..
    | .rerouteMsg .. | .managerChangeMsg .. | .restQueryMsg .. | .scratchNow .. | .thermalLimit .. | .stageFail ..
    | .restEntered .. | .stageLatchOpen .. | .internalFault .. =>
      t = { s with
          mem := t.mem, free := t.free, out := t.out, cores := t.cores, rkes := t.rkes, dimmCopy := t.dimmCopy,
          waiting := t.waiting, sent := t.sent, srcSts := t.srcSts, dstSts := t.dstSts, guards := t.guards,
          heldReqs := t.heldReqs, frames := t.frames, copies := t.copies, charges := t.charges, offAt := t.offAt,
          mirrorQueue := t.mirrorQueue, rings := t.rings, ports := t.ports, elsLost := t.elsLost, cvus := t.cvus,
          scanJobs := t.scanJobs, sus := t.sus, qps := t.qps, hostRings := t.hostRings, powerEntry := t.powerEntry,
          powerWake := t.powerWake, marshal := t.marshal, mirrorHeld := t.mirrorHeld, moves := t.moves,
          linkLocals := t.linkLocals, pools := t.pools, owners := t.owners, ctxs := t.ctxs, ringDone := t.ringDone,
          watches := t.watches, reports := t.reports, guardRanges := t.guardRanges, ramps := t.ramps,
          elsOn := t.elsOn, objs := t.objs } ∧
      SameObjects s t [Obj.serviceState, Obj.scratchCause, Obj.scratchTime, Obj.coreState, Obj.haltRecord, Obj.flags,
          Obj.tmCeCount, Obj.ssramCeCount, Obj.memUeRecord, Obj.memUeExtra, Obj.hbmCeCount, Obj.dimmCeCount,
          Obj.lostCount, Obj.srcStreams, Obj.gmuError, Obj.portState, Obj.portInfo, Obj.headroomUsed,
          Obj.portErrors, Obj.bufUsage, Obj.positionCount, Obj.portUsable, Obj.mcResidue, Obj.mcCopyDropped,
          Obj.dropCounts, Obj.markReceived, Obj.flowTable, Obj.arenaCeCount, Obj.hostPortCounts, Obj.qpTable,
          Obj.qpCounts, Obj.ringState, Obj.powerState, Obj.cipherStatus, Obj.poolState, Obj.poolFlags,
          Obj.poolCounts, Obj.poolReject, Obj.seqState, Obj.summarySlots, Obj.pacedBusy, Obj.collError,
          Obj.bindState, Obj.suCounts, Obj.suBusy, Obj.bitmapClear, Obj.ctxState, Obj.ctxCounts, Obj.streamEvents,
          Obj.membership, Obj.marshalLog, Obj.logNext, Obj.recoveryState, Obj.deviceId, Obj.guardDesc,
          Obj.guardState, Obj.routeShadow, Obj.routeActive, Obj.scratchNow, Obj.oeSelftest, Obj.stageState,
          Obj.elsInfo, Obj.powerCmd, Obj.stageInfo]
    | .heartbeatMiss .. | .probeFailTimeout .. | .reportSend .. | .reportMsg .. | .scoreWindowEnd .. | .lostMsg ..
    | .stepAckMsg .. | .stepTimeout .. | .relayedMsg .. | .rebuiltMsg .. | .spareReady .. | .marshalScratch ..
    | .takeManager .. | .guardStripeRebuild .. | .wakeDone .. =>
      t = { s with
          mem := t.mem, free := t.free, out := t.out, cores := t.cores, rkes := t.rkes,
          guardRanges := t.guardRanges, dimmCopy := t.dimmCopy, waiting := t.waiting, sent := t.sent,
          srcSts := t.srcSts, dstSts := t.dstSts, guards := t.guards, heldReqs := t.heldReqs, frames := t.frames,
          copies := t.copies, charges := t.charges, offAt := t.offAt, mirrorSeen := t.mirrorSeen,
          mirrorSeq := t.mirrorSeq, mirrorQueue := t.mirrorQueue, rings := t.rings, buckets := t.buckets,
          ports := t.ports, elsLost := t.elsLost, reports := t.reports, cvus := t.cvus, scanJobs := t.scanJobs,
          sus := t.sus, ctxs := t.ctxs, ringDone := t.ringDone, qps := t.qps, hostRings := t.hostRings,
          powerEntry := t.powerEntry, powerWake := t.powerWake, watches := t.watches, marshal := t.marshal,
          guardStore := t.guardStore, mirrorHeld := t.mirrorHeld, moves := t.moves, linkLocals := t.linkLocals,
          scratchSeen := t.scratchSeen, recals := t.recals, grantPtr := t.grantPtr, acceptPtr := t.acceptPtr,
          credits := t.credits, elsSince := t.elsSince, pools := t.pools, owners := t.owners, suBufs := t.suBufs,
          saved := t.saved, ramps := t.ramps, elsOn := t.elsOn, objs := t.objs }
    | .boot .. =>
      t = { s with
          free := t.free, out := t.out, offAt := t.offAt, ports := t.ports, elsSince := t.elsSince, boot := t.boot,
          fwRunning := t.fwRunning, nvMark := t.nvMark, journalSeq := t.journalSeq, marshal := t.marshal,
          ramps := t.ramps, elsOn := t.elsOn, objs := t.objs }
    | .registerWrite .. =>
      t = { s with
          mem := t.mem, out := t.out, offAt := t.offAt, mirrorSeen := t.mirrorSeen, mirrorSeq := t.mirrorSeq,
          buckets := t.buckets, ports := t.ports, sus := t.sus, marshal := t.marshal, guardStore := t.guardStore,
          moves := t.moves, objs := t.objs }
    | _ => True
end

