-- ==== Sys2Proof/Laws/Memory.lean ====
section
/-! SUPPORT. The laws of the sparse maps, of the object store and of memory: what a read after a write gives, and that
every write keeps the canonical form. -/

namespace Sys2Proof.Laws

open Sys2Proof.Machine

variable {α : Type}

/-! ### Sparse maps -/

/-- A key that was put is found. -/
theorem find_put_same (m : KMap α) (k : Nat) (v : α) : (m.put k v).find k = some v := by
  induction m with
  | nil => simp [KMap.put, KMap.find]
  | cons p m ih =>
    obtain ⟨k', v'⟩ := p
    simp only [KMap.put]
    split
    · simp [KMap.find]
    · split
      · simp [KMap.find]
      · simp [KMap.find, *]

/-- Putting one key leaves the others. -/
theorem find_put_other (m : KMap α) {k j : Nat} (v : α) (h : j ≠ k) : (m.put k v).find j = m.find j := by
  induction m with
  | nil => simp [KMap.put, KMap.find, Ne.symm h]
  | cons p m ih =>
    obtain ⟨k', v'⟩ := p
    simp only [KMap.put]
    split
    · subst_vars; simp [KMap.find, Ne.symm h]
    · split
      · simp [KMap.find, Ne.symm h]
      · simp [KMap.find, ih]

/-- A key that was deleted is not found. -/
theorem find_del_same (m : KMap α) (k : Nat) : (m.del k).find k = none := by
  induction m with
  | nil => rfl
  | cons p m ih =>
    obtain ⟨k', v'⟩ := p
    simp only [KMap.del]
    split
    · exact ih
    · simp [KMap.find, *]

/-- Deleting one key leaves the others. -/
theorem find_del_other (m : KMap α) {k j : Nat} (h : j ≠ k) : (m.del k).find j = m.find j := by
  induction m with
  | nil => rfl
  | cons p m ih =>
    obtain ⟨k', v'⟩ := p
    simp only [KMap.del]
    split
    · subst_vars; simp [KMap.find, Ne.symm h, ih]
    · simp [KMap.find, ih]

variable [DecidableEq α]

/-- A read after a write of the same key gives the value written. -/
theorem get_set_same (m : KMap α) (d : α) (k : Nat) (v : α) : (m.set d k v).get d k = v := by
  unfold KMap.get KMap.set
  split
  · simp [find_del_same, *]
  · simp [find_put_same]

/-- A write of one key leaves what the others hold. -/
theorem find_set_other (m : KMap α) (d : α) {k j : Nat} (v : α) (h : j ≠ k) : (m.set d k v).find j = m.find j := by
  unfold KMap.set
  split
  · exact find_del_other m h
  · exact find_put_other m v h

/-- A write of one key leaves what the others read. -/
theorem get_set_other (m : KMap α) (d d' : α) {k j : Nat} (v : α) (h : j ≠ k) :
    (m.set d k v).get d' j = m.get d' j := by
  unfold KMap.get
  rw [find_set_other m d v h]

/-! ### The canonical form -/

/-- The form as Lean's own order on the list: keys rise strictly, and no pair holds what its key reads unlisted. -/
theorem wf_iff (d : Nat → α) (m : KMap α) :
    KMap.wf d m = true ↔ m.Pairwise (fun p q => p.1 < q.1) ∧ ∀ p ∈ m, p.2 ≠ d p.1 := by
  have some_iff : ∀ (l : KMap α) (lo : Nat), KMap.rising (some lo) l = true ↔
      l.Pairwise (fun p q => p.1 < q.1) ∧ ∀ p ∈ l, lo < p.1 := by
    intro l
    induction l with
    | nil => intro lo; simp [KMap.rising]
    | cons p l ih =>
      intro lo
      obtain ⟨k, v⟩ := p
      simp only [KMap.rising, Bool.and_eq_true, decide_eq_true_eq, ih, List.pairwise_cons, List.forall_mem_cons]
      constructor
      · rintro ⟨h1, h2, h3⟩; exact ⟨⟨h3, h2⟩, h1, fun q hq => Nat.lt_trans h1 (h3 q hq)⟩
      · rintro ⟨⟨h3, h2⟩, h1, _⟩; exact ⟨h1, h2, h3⟩
  have none_iff : KMap.rising none m = true ↔ m.Pairwise (fun p q => p.1 < q.1) := by
    cases m with
    | nil => simp [KMap.rising]
    | cons p l =>
      obtain ⟨k, v⟩ := p
      simp only [KMap.rising, some_iff, List.pairwise_cons]
      exact ⟨fun h => ⟨h.2, h.1⟩, fun h => ⟨h.2, h.1⟩⟩
  simp only [KMap.wf, Bool.and_eq_true, none_iff, List.all_eq_true, Bool.not_eq_true', decide_eq_false_iff_not]

/-- Keeping only some pairs keeps the form. -/
theorem wf_filter (d : Nat → α) (m : KMap α) (g : Nat × α → Bool) (h : KMap.wf d m = true) :
    KMap.wf d (m.filter g) = true := by
  rw [wf_iff] at h ⊢
  exact ⟨h.1.filter g, fun p hp => h.2 p ((List.mem_filter.1 hp).1)⟩

omit [DecidableEq α] in
theorem mem_put {m : KMap α} {k : Nat} {v : α} {p : Nat × α} (h : p ∈ m.put k v) : p = (k, v) ∨ p ∈ m := by
  induction m with
  | nil => simpa [KMap.put] using h
  | cons q m ih =>
    obtain ⟨k', v'⟩ := q
    simp only [KMap.put] at h
    split at h
    · rcases List.mem_cons.1 h with h | h
      · exact .inl h
      · exact .inr (List.mem_cons_of_mem _ h)
    · split at h
      · rcases List.mem_cons.1 h with h | h
        · exact .inl h
        · exact .inr h
      · rcases List.mem_cons.1 h with h | h
        · exact .inr (h ▸ List.mem_cons_self)
        · rcases ih h with h | h
          · exact .inl h
          · exact .inr (List.mem_cons_of_mem _ h)

omit [DecidableEq α] in
theorem pairwise_put {m : KMap α} (k : Nat) (v : α) (h : m.Pairwise (fun p q => p.1 < q.1)) :
    (m.put k v).Pairwise (fun p q => p.1 < q.1) := by
  induction m with
  | nil => simp [KMap.put]
  | cons q m ih =>
    obtain ⟨k', v'⟩ := q
    rw [List.pairwise_cons] at h
    simp only [KMap.put]
    split
    · subst_vars; exact List.pairwise_cons.2 ⟨h.1, h.2⟩
    · split
      · rename_i h1 h2
        refine List.pairwise_cons.2 ⟨?_, List.pairwise_cons.2 h⟩
        intro p hp
        rcases List.mem_cons.1 hp with hp | hp
        · rw [hp]; exact h2
        · exact Nat.lt_trans h2 (h.1 p hp)
      · rename_i h1 h2
        refine List.pairwise_cons.2 ⟨?_, ih h.2⟩
        intro p hp
        rcases mem_put hp with hp | hp
        · rw [hp]; show k' < k; omega
        · exact h.1 p hp

omit [DecidableEq α] in
theorem del_eq_filter (m : KMap α) (k : Nat) : m.del k = m.filter (fun p => p.1 != k) := by
  induction m with
  | nil => rfl
  | cons q m ih =>
    obtain ⟨k', v'⟩ := q
    simp only [KMap.del, List.filter_cons]
    split <;> simp_all

/-- A write keeps the form. -/
theorem wf_set (d : Nat → α) (m : KMap α) (k : Nat) (v : α) (h : KMap.wf d m = true) :
    KMap.wf d (m.set (d k) k v) = true := by
  unfold KMap.set
  split
  · rw [del_eq_filter]; exact wf_filter d m _ h
  · rename_i hv
    rw [wf_iff] at h ⊢
    refine ⟨pairwise_put k v h.1, fun p hp => ?_⟩
    rcases mem_put hp with hp | hp
    · rw [hp]; exact hv
    · exact h.2 p hp

/-! ### Memory -/

theorem mem_cellsFrom {k : Nat} {bs : List Byte} {p : Host.Cell} (h : p ∈ cellsFrom k bs) :
    k ≤ p.1 ∧ p.1 < k + bs.length ∧ p.2 ≠ 0 := by
  induction bs generalizing k with
  | nil => simp [cellsFrom] at h
  | cons b bs ih =>
    simp only [cellsFrom] at h
    split at h
    · have := ih h; simp only [List.length_cons]; exact ⟨by omega, by omega, this.2.2⟩
    · rcases List.mem_cons.1 h with h | h
      · rw [h]; simp only [List.length_cons]; exact ⟨Nat.le_refl _, by omega, by assumption⟩
      · have := ih h; simp only [List.length_cons]; exact ⟨by omega, by omega, this.2.2⟩

theorem pairwise_cellsFrom (k : Nat) (bs : List Byte) : (cellsFrom k bs).Pairwise (fun p q => p.1 < q.1) := by
  induction bs generalizing k with
  | nil => simp [cellsFrom]
  | cons b bs ih =>
    simp only [cellsFrom]
    split
    · exact ih _
    · refine List.pairwise_cons.2 ⟨fun p hp => ?_, ih _⟩
      have := (mem_cellsFrom hp).1
      show k < p.1
      omega

/-- A memory write keeps the canonical form. -/
theorem memSplice_wf (m : List Host.Cell) (k : Nat) (bs : List Byte) (h : Memory.wf m = true) :
    Memory.wf (memSplice m k bs) = true := by
  unfold Memory.wf at h ⊢
  rw [wf_iff] at h ⊢
  unfold memSplice
  constructor
  · rw [List.append_assoc]
    refine List.pairwise_append.2 ⟨h.1.filter _, List.pairwise_append.2 ⟨pairwise_cellsFrom k bs, h.1.filter _, ?_⟩, ?_⟩
    · intro a ha b hb
      have h1 := mem_cellsFrom ha
      have h2 : k + bs.length ≤ b.1 := by simpa using (List.mem_filter.1 hb).2
      omega
    · intro a ha b hb
      have h1 : a.1 < k := by simpa using (List.mem_filter.1 ha).2
      rcases List.mem_append.1 hb with hb | hb
      · have := (mem_cellsFrom hb).1; omega
      · have h2 : k + bs.length ≤ b.1 := by simpa using (List.mem_filter.1 hb).2
        omega
  · intro p hp
    rcases List.mem_append.1 hp with hp | hp
    · rcases List.mem_append.1 hp with hp | hp
      · exact h.2 p ((List.mem_filter.1 hp).1)
      · exact (mem_cellsFrom hp).2.2
    · exact h.2 p ((List.mem_filter.1 hp).1)

omit [DecidableEq α] in
theorem find_mem {m : KMap α} {k : Nat} {v : α} (h : m.find k = some v) : (k, v) ∈ m := by
  induction m with
  | nil => simp [KMap.find] at h
  | cons q m ih =>
    obtain ⟨k', v'⟩ := q
    simp only [KMap.find] at h
    split at h
    · simp_all
    · exact List.mem_cons_of_mem _ (ih h)

theorem find_append (m n : KMap Byte) (j : Nat) : KMap.find (m ++ n) j = (m.find j).or (n.find j) := by
  induction m with
  | nil => simp [KMap.find]
  | cons q m ih =>
    obtain ⟨k', v'⟩ := q
    simp only [List.cons_append, KMap.find]
    split <;> simp_all

theorem find_filter (m : KMap Byte) (g : Nat → Bool) (j : Nat) :
    KMap.find (m.filter fun p => g p.1) j = if g j then m.find j else none := by
  induction m with
  | nil => simp [KMap.find]
  | cons q m ih =>
    obtain ⟨k', v'⟩ := q
    simp only [List.filter_cons]
    by_cases hk : k' = j
    · subst hk
      by_cases hg : g k' = true <;> simp_all [KMap.find]
    · by_cases hg : g k' = true <;> simp_all [KMap.find]

theorem find_cellsFrom (k : Nat) (bs : List Byte) (j : Nat) :
    (KMap.find (cellsFrom k bs) j).getD 0 = if k ≤ j then bs.getD (j - k) 0 else 0 := by
  induction bs generalizing k with
  | nil => simp [cellsFrom, KMap.find]
  | cons b bs ih =>
    simp only [cellsFrom]
    have step : ∀ _ : k ≠ j, (if k + 1 ≤ j then bs.getD (j - (k + 1)) 0 else 0)
        = if k ≤ j then (b :: bs).getD (j - k) 0 else 0 := by
      intro hne
      by_cases h : k ≤ j
      · have e : j - k = (j - (k + 1)) + 1 := by omega
        rw [if_pos (by omega), if_pos h, e, List.getD_cons_succ]
      · rw [if_neg (by omega), if_neg h]
    split
    · rename_i hb
      rw [ih]
      by_cases hk : k = j
      · subst hk; rw [if_neg (by omega)]; simp [hb]
      · exact step hk
    · simp only [KMap.find]
      by_cases hk : k = j
      · subst hk; simp
      · rw [if_neg hk, ih]; exact step hk

/-- What a byte reads after a memory write: inside the bytes written the byte written, outside what it read before. -/
theorem mem8_memWrite (s : State) (space off : Nat) (bs : List Byte) (space' off' : Nat) :
    (s.memWrite space off bs).mem8 space' off' =
      if memKey space off ≤ memKey space' off' ∧ memKey space' off' < memKey space off + bs.length
      then bs.getD (memKey space' off' - memKey space off) 0 else s.mem8 space' off' := by
  simp only [State.mem8, State.memWrite, memSplice, KMap.get]
  generalize memKey space off = k
  generalize memKey space' off' = j
  rw [find_append, find_append]
  have e1 := find_filter s.mem (fun x => decide (x < k)) j
  have e2 := find_filter s.mem (fun x => decide (k + bs.length ≤ x)) j
  rw [e1, e2]
  have e3 := find_cellsFrom k bs j
  by_cases h1 : j < k
  · have : ¬ k ≤ j := by omega
    have h2 : ¬ (k + bs.length ≤ j) := by omega
    have e4 : KMap.find (cellsFrom k bs) j = none := by
      cases h : KMap.find (cellsFrom k bs) j with
      | none => rfl
      | some v => exact absurd (mem_cellsFrom (find_mem h)).1 this
    simp [h1, h2, this, e4]
  · by_cases h2 : k + bs.length ≤ j
    · have e4 : KMap.find (cellsFrom k bs) j = none := by
        cases h : KMap.find (cellsFrom k bs) j with
        | none => rfl
        | some v => exact absurd (mem_cellsFrom (find_mem h)).2.1 (by show ¬ j < k + bs.length; omega)
      have h3 : ¬ j < k + bs.length := by omega
      simp [h1, h2, h3, e4]
    · have h3 : k ≤ j ∧ j < k + bs.length := by omega
      simp only [h1, h2, decide_false, Bool.false_eq_true, if_false, Option.none_or, Option.or_none, h3, and_self, if_true]
      rw [e3, if_pos h3.1]

end Sys2Proof.Laws
end

