-- ==== Sys2Proof/Laws/Closed.lean ====
section
/-! SUPPORT. What a command can do to the state, said once: a property that every primitive write of a footprint keeps is
kept by every operation with that footprint. A footprint is a mask: bit n below 256 is object n of `objTable` (255: a
number that is no object's), the bits above are the fields of `State` beside the objects. -/

namespace Sys2Proof.Laws

open Sys2Proof.Machine

/-- The bit of an object number. -/
def Foot.tag (c : ObjCode) : Nat := min 255 (objTable.findIdx fun o => o.code == c)

/-- Whether a footprint holds an object. -/
def Foot.obj (m : Nat) (c : ObjCode) : Bool := m.testBit (Foot.tag c)

/-- A property that the writes in a footprint keep. -/
structure Closed (m : Nat) (P : State → Prop) : Prop where
  wr : ∀ s c i v, Foot.obj m c = true → P s → P (s.wr c i v)
  drop : ∀ s (g : Nat × Nat → Bool), (∀ p, Foot.obj m (p.1 / 2 ^ 32) = false → g p = true) →
    P s → P { s with objs := s.objs.filter g }
  mem : m.testBit 256 = true → ∀ s space off bs, P s → P (s.memWrite space off bs)
  memDrop : m.testBit 256 = true → ∀ s g, P s → P { s with mem := s.mem.filter g }
  free : m.testBit 257 = true → ∀ s, P s → P s.drawn
  out : m.testBit 258 = true → ∀ s o, P s → P (s.send o)
  now : m.testBit 259 = true → ∀ s, P s → P { s with now := s.now + 1 }
  restart : m.testBit 260 = true → ∀ s k e, P s → P (s.restart k e)
  cores : m.testBit 264 = true → ∀ s v, P s → P { s with cores := v }
  rkes : m.testBit 265 = true → ∀ s v, P s → P { s with rkes := v }
  guardRanges : m.testBit 266 = true → ∀ s v, P s → P { s with guardRanges := v }
  dimmCopy : m.testBit 267 = true → ∀ s v, P s → P { s with dimmCopy := v }
  recals : m.testBit 268 = true → ∀ s v, P s → P { s with recals := v }
  waiting : m.testBit 269 = true → ∀ s v, P s → P { s with waiting := v }
  sent : m.testBit 270 = true → ∀ s v, P s → P { s with sent := v }
  quarantine : m.testBit 271 = true → ∀ s v, P s → P { s with quarantine := v }
  srcSts : m.testBit 272 = true → ∀ s v, P s → P { s with srcSts := v }
  dstSts : m.testBit 273 = true → ∀ s v, P s → P { s with dstSts := v }
  guards : m.testBit 274 = true → ∀ s v, P s → P { s with guards := v }
  heldReqs : m.testBit 275 = true → ∀ s v, P s → P { s with heldReqs := v }
  frames : m.testBit 276 = true → ∀ s v, P s → P { s with frames := v }
  copies : m.testBit 277 = true → ∀ s v, P s → P { s with copies := v }
  nextFrame : m.testBit 278 = true → ∀ s v, P s → P { s with nextFrame := v }
  nextPick : m.testBit 279 = true → ∀ s v, P s → P { s with nextPick := v }
  cellTime : m.testBit 280 = true → ∀ s v, P s → P { s with cellTime := v }
  charges : m.testBit 281 = true → ∀ s v, P s → P { s with charges := v }
  offAt : m.testBit 282 = true → ∀ s v, P s → P { s with offAt := v }
  grantPtr : m.testBit 283 = true → ∀ s v, P s → P { s with grantPtr := v }
  acceptPtr : m.testBit 284 = true → ∀ s v, P s → P { s with acceptPtr := v }
  mirrorSeen : m.testBit 285 = true → ∀ s v, P s → P { s with mirrorSeen := v }
  mirrorSeq : m.testBit 286 = true → ∀ s v, P s → P { s with mirrorSeq := v }
  mirrorQueue : m.testBit 287 = true → ∀ s v, P s → P { s with mirrorQueue := v }
  rings : m.testBit 288 = true → ∀ s v, P s → P { s with rings := v }
  credits : m.testBit 289 = true → ∀ s v, P s → P { s with credits := v }
  buckets : m.testBit 290 = true → ∀ s v, P s → P { s with buckets := v }
  ports : m.testBit 291 = true → ∀ s v, P s → P { s with ports := v }
  elsLost : m.testBit 292 = true → ∀ s v, P s → P { s with elsLost := v }
  elsSince : m.testBit 293 = true → ∀ s v, P s → P { s with elsSince := v }
  reports : m.testBit 294 = true → ∀ s v, P s → P { s with reports := v }
  ownerKey : m.testBit 295 = true → ∀ s v, P s → P { s with ownerKey := v }
  pools : m.testBit 296 = true → ∀ s v, P s → P { s with pools := v }
  owners : m.testBit 297 = true → ∀ s v, P s → P { s with owners := v }
  cvus : m.testBit 298 = true → ∀ s v, P s → P { s with cvus := v }
  scanJobs : m.testBit 299 = true → ∀ s v, P s → P { s with scanJobs := v }
  sus : m.testBit 300 = true → ∀ s v, P s → P { s with sus := v }
  suBufs : m.testBit 301 = true → ∀ s v, P s → P { s with suBufs := v }
  ctxs : m.testBit 302 = true → ∀ s v, P s → P { s with ctxs := v }
  ringDone : m.testBit 303 = true → ∀ s v, P s → P { s with ringDone := v }
  boot : m.testBit 304 = true → ∀ s v, P s → P { s with boot := v }
  qps : m.testBit 305 = true → ∀ s v, P s → P { s with qps := v }
  hostRings : m.testBit 306 = true → ∀ s v, P s → P { s with hostRings := v }
  powerEntry : m.testBit 307 = true → ∀ s v, P s → P { s with powerEntry := v }
  powerWake : m.testBit 308 = true → ∀ s v, P s → P { s with powerWake := v }
  saved : m.testBit 309 = true → ∀ s v, P s → P { s with saved := v }
  govPower : m.testBit 310 = true → ∀ s v, P s → P { s with govPower := v }
  thermHold : m.testBit 311 = true → ∀ s v, P s → P { s with thermHold := v }
  operatorKeys : m.testBit 312 = true → ∀ s v, P s → P { s with operatorKeys := v }
  nvKey : m.testBit 313 = true → ∀ s v, P s → P { s with nvKey := v }
  svnFuses : m.testBit 314 = true → ∀ s v, P s → P { s with svnFuses := v }
  rollback : m.testBit 315 = true → ∀ s v, P s → P { s with rollback := v }
  bootCount : m.testBit 316 = true → ∀ s v, P s → P { s with bootCount := v }
  fwRunning : m.testBit 317 = true → ∀ s v, P s → P { s with fwRunning := v }
  fwStandby : m.testBit 318 = true → ∀ s v, P s → P { s with fwStandby := v }
  fwMark : m.testBit 319 = true → ∀ s v, P s → P { s with fwMark := v }
  fwOwn : m.testBit 320 = true → ∀ s v, P s → P { s with fwOwn := v }
  fwErasing : m.testBit 321 = true → ∀ s v, P s → P { s with fwErasing := v }
  nvErasing : m.testBit 322 = true → ∀ s v, P s → P { s with nvErasing := v }
  nvMark : m.testBit 323 = true → ∀ s v, P s → P { s with nvMark := v }
  imageWritten : m.testBit 324 = true → ∀ s v, P s → P { s with imageWritten := v }
  flash : m.testBit 325 = true → ∀ s v, P s → P { s with flash := v }
  journalSeq : m.testBit 326 = true → ∀ s v, P s → P { s with journalSeq := v }
  sessions : m.testBit 327 = true → ∀ s v, P s → P { s with sessions := v }
  sources : m.testBit 328 = true → ∀ s v, P s → P { s with sources := v }
  watches : m.testBit 329 = true → ∀ s v, P s → P { s with watches := v }
  marshal : m.testBit 330 = true → ∀ s v, P s → P { s with marshal := v }
  guardStore : m.testBit 331 = true → ∀ s v, P s → P { s with guardStore := v }
  scratchSeen : m.testBit 332 = true → ∀ s v, P s → P { s with scratchSeen := v }
  resetLow : m.testBit 333 = true → ∀ s v, P s → P { s with resetLow := v }
  aopDead : m.testBit 334 = true → ∀ s v, P s → P { s with aopDead := v }
  tripped : m.testBit 335 = true → ∀ s v, P s → P { s with tripped := v }
  inputBlocked : m.testBit 336 = true → ∀ s v, P s → P { s with inputBlocked := v }
  sideband : m.testBit 337 = true → ∀ s v, P s → P { s with sideband := v }
  dimmKeep : m.testBit 338 = true → ∀ s v, P s → P { s with dimmKeep := v }
  rateWindow : m.testBit 339 = true → ∀ s v, P s → P { s with rateWindow := v }
  patrols : m.testBit 340 = true → ∀ s v, P s → P { s with patrols := v }
  ramps : m.testBit 341 = true → ∀ s v, P s → P { s with ramps := v }
  mirrorHeld : m.testBit 342 = true → ∀ s v, P s → P { s with mirrorHeld := v }
  moves : m.testBit 343 = true → ∀ s v, P s → P { s with moves := v }
  linkLocals : m.testBit 344 = true → ∀ s v, P s → P { s with linkLocals := v }
  elsOn : m.testBit 345 = true → ∀ s v, P s → P { s with elsOn := v }
  hbmHold : m.testBit 346 = true → ∀ s v, P s → P { s with hbmHold := v }
  govAt : m.testBit 347 = true → ∀ s v, P s → P { s with govAt := v }
  sidebandAt : m.testBit 348 = true → ∀ s v, P s → P { s with sidebandAt := v }

/-- A bit of a smaller footprint is a bit of a larger one. -/
theorem Foot.bit_of_le {a b n : Nat} (h : a &&& b = a) (ha : a.testBit n = true) : b.testBit n = true := by
  rw [← h, Nat.testBit_and] at ha
  simp_all

/-- Footprints are ordered. -/
theorem Foot.le_trans {a b c : Nat} (hab : a &&& b = a) (hbc : b &&& c = b) : a &&& c = a := by
  rw [← hab, Nat.and_assoc, hbc]

/-- A property closed under a footprint is closed under a smaller one. -/
theorem Closed.mono {a b : Nat} {P : State → Prop} (h : Closed b P) (hab : a &&& b = a) : Closed a P where
  wr s c i v hc := h.wr s c i v (Foot.bit_of_le hab hc)
  drop s g hg := h.drop s g fun p hp => hg p (by
    cases ha : Foot.obj a (p.1 / 2 ^ 32) with
    | false => rfl
    | true => exact absurd (Foot.bit_of_le hab ha) (by simpa [Foot.obj] using hp))
  mem x := h.mem (Foot.bit_of_le hab x)
  memDrop x := h.memDrop (Foot.bit_of_le hab x)
  free x := h.free (Foot.bit_of_le hab x)
  out x := h.out (Foot.bit_of_le hab x)
  now x := h.now (Foot.bit_of_le hab x)
  restart x := h.restart (Foot.bit_of_le hab x)
  cores x := h.cores (Foot.bit_of_le hab x)
  rkes x := h.rkes (Foot.bit_of_le hab x)
  guardRanges x := h.guardRanges (Foot.bit_of_le hab x)
  dimmCopy x := h.dimmCopy (Foot.bit_of_le hab x)
  recals x := h.recals (Foot.bit_of_le hab x)
  waiting x := h.waiting (Foot.bit_of_le hab x)
  sent x := h.sent (Foot.bit_of_le hab x)
  quarantine x := h.quarantine (Foot.bit_of_le hab x)
  srcSts x := h.srcSts (Foot.bit_of_le hab x)
  dstSts x := h.dstSts (Foot.bit_of_le hab x)
  guards x := h.guards (Foot.bit_of_le hab x)
  heldReqs x := h.heldReqs (Foot.bit_of_le hab x)
  frames x := h.frames (Foot.bit_of_le hab x)
  copies x := h.copies (Foot.bit_of_le hab x)
  nextFrame x := h.nextFrame (Foot.bit_of_le hab x)
  nextPick x := h.nextPick (Foot.bit_of_le hab x)
  cellTime x := h.cellTime (Foot.bit_of_le hab x)
  charges x := h.charges (Foot.bit_of_le hab x)
  offAt x := h.offAt (Foot.bit_of_le hab x)
  grantPtr x := h.grantPtr (Foot.bit_of_le hab x)
  acceptPtr x := h.acceptPtr (Foot.bit_of_le hab x)
  mirrorSeen x := h.mirrorSeen (Foot.bit_of_le hab x)
  mirrorSeq x := h.mirrorSeq (Foot.bit_of_le hab x)
  mirrorQueue x := h.mirrorQueue (Foot.bit_of_le hab x)
  rings x := h.rings (Foot.bit_of_le hab x)
  credits x := h.credits (Foot.bit_of_le hab x)
  buckets x := h.buckets (Foot.bit_of_le hab x)
  ports x := h.ports (Foot.bit_of_le hab x)
  elsLost x := h.elsLost (Foot.bit_of_le hab x)
  elsSince x := h.elsSince (Foot.bit_of_le hab x)
  reports x := h.reports (Foot.bit_of_le hab x)
  ownerKey x := h.ownerKey (Foot.bit_of_le hab x)
  pools x := h.pools (Foot.bit_of_le hab x)
  owners x := h.owners (Foot.bit_of_le hab x)
  cvus x := h.cvus (Foot.bit_of_le hab x)
  scanJobs x := h.scanJobs (Foot.bit_of_le hab x)
  sus x := h.sus (Foot.bit_of_le hab x)
  suBufs x := h.suBufs (Foot.bit_of_le hab x)
  ctxs x := h.ctxs (Foot.bit_of_le hab x)
  ringDone x := h.ringDone (Foot.bit_of_le hab x)
  boot x := h.boot (Foot.bit_of_le hab x)
  qps x := h.qps (Foot.bit_of_le hab x)
  hostRings x := h.hostRings (Foot.bit_of_le hab x)
  powerEntry x := h.powerEntry (Foot.bit_of_le hab x)
  powerWake x := h.powerWake (Foot.bit_of_le hab x)
  saved x := h.saved (Foot.bit_of_le hab x)
  govPower x := h.govPower (Foot.bit_of_le hab x)
  thermHold x := h.thermHold (Foot.bit_of_le hab x)
  operatorKeys x := h.operatorKeys (Foot.bit_of_le hab x)
  nvKey x := h.nvKey (Foot.bit_of_le hab x)
  svnFuses x := h.svnFuses (Foot.bit_of_le hab x)
  rollback x := h.rollback (Foot.bit_of_le hab x)
  bootCount x := h.bootCount (Foot.bit_of_le hab x)
  fwRunning x := h.fwRunning (Foot.bit_of_le hab x)
  fwStandby x := h.fwStandby (Foot.bit_of_le hab x)
  fwMark x := h.fwMark (Foot.bit_of_le hab x)
  fwOwn x := h.fwOwn (Foot.bit_of_le hab x)
  fwErasing x := h.fwErasing (Foot.bit_of_le hab x)
  nvErasing x := h.nvErasing (Foot.bit_of_le hab x)
  nvMark x := h.nvMark (Foot.bit_of_le hab x)
  imageWritten x := h.imageWritten (Foot.bit_of_le hab x)
  flash x := h.flash (Foot.bit_of_le hab x)
  journalSeq x := h.journalSeq (Foot.bit_of_le hab x)
  sessions x := h.sessions (Foot.bit_of_le hab x)
  sources x := h.sources (Foot.bit_of_le hab x)
  watches x := h.watches (Foot.bit_of_le hab x)
  marshal x := h.marshal (Foot.bit_of_le hab x)
  guardStore x := h.guardStore (Foot.bit_of_le hab x)
  scratchSeen x := h.scratchSeen (Foot.bit_of_le hab x)
  resetLow x := h.resetLow (Foot.bit_of_le hab x)
  aopDead x := h.aopDead (Foot.bit_of_le hab x)
  tripped x := h.tripped (Foot.bit_of_le hab x)
  inputBlocked x := h.inputBlocked (Foot.bit_of_le hab x)
  sideband x := h.sideband (Foot.bit_of_le hab x)
  dimmKeep x := h.dimmKeep (Foot.bit_of_le hab x)
  rateWindow x := h.rateWindow (Foot.bit_of_le hab x)
  patrols x := h.patrols (Foot.bit_of_le hab x)
  ramps x := h.ramps (Foot.bit_of_le hab x)
  mirrorHeld x := h.mirrorHeld (Foot.bit_of_le hab x)
  moves x := h.moves (Foot.bit_of_le hab x)
  linkLocals x := h.linkLocals (Foot.bit_of_le hab x)
  elsOn x := h.elsOn (Foot.bit_of_le hab x)
  hbmHold x := h.hbmHold (Foot.bit_of_le hab x)
  govAt x := h.govAt (Foot.bit_of_le hab x)
  sidebandAt x := h.sidebandAt (Foot.bit_of_le hab x)

/-! ### The property over results that hold a state -/

/-- A branch keeps what both sides have. -/
theorem ite_sat {α : Sort _} {Q : α → Prop} {c : Prop} [Decidable c] {a b : α} (ha : Q a) (hb : Q b) : Q (if c then a else b) := by
  split <;> assumption

/-- A fold keeps what its start has and its step keeps. -/
theorem foldl_sat {α β : Type} {Q : β → Prop} {f : β → α → β} {b : β} {l : List α} (h : Q b)
    (hf : ∀ b a, Q b → Q (f b a)) : Q (l.foldl f b) := by
  induction l generalizing b with
  | nil => exact h
  | cons a l ih => exact ih (hf b a h)

/-- An upward fold keeps what its start has and its step keeps. -/
theorem foldUp_sat {β : Type} {Q : β → Prop} {f : Nat → β → β} {lo n : Nat} {b : β} (h : Q b)
    (hf : ∀ k b, Q b → Q (f k b)) : Q (foldUp f lo n b) := by
  induction n generalizing lo b with
  | zero => exact h
  | succ n ih => exact ih (hf lo b h)

/-- The property of the next state of an outcome, if there is one. -/
structure SatR (P : State → Prop) (r : Res) : Prop where
  out : ∀ t, r = .next t → P t
theorem SatR.next {P : State → Prop} {t : State} (h : P t) : SatR P (.next t) := ⟨by rintro _ ⟨⟩; exact h⟩
theorem SatR.fault {P : State → Prop} {f : Fault} : SatR P (.fault f) := ⟨by rintro _ ⟨⟩⟩
theorem SatR.refused {P : State → Prop} {f : Refusal} : SatR P (.refused f) := ⟨by rintro _ ⟨⟩⟩
theorem SatR.of_eq {P : State → Prop} {r : Res} {t : State} (h : SatR P r) (e : r = .next t) : P t := h.out t e

/-- The property of the first of a pair. -/
structure Sat1 {α : Type} (P : State → Prop) (r : State × α) : Prop where
  fst : P r.1
theorem Sat1.pair {α : Type} {P : State → Prop} {a : α} {t : State} (h : P t) : Sat1 P (t, a) := ⟨h⟩
theorem Sat1.of_eq {α : Type} {P : State → Prop} {r : State × α} {a : α} {t : State} (h : Sat1 P r) (e : r = (t, a)) : P t := by
  subst e; exact h.fst

/-- The property of the second of a pair. -/
structure Sat2 {α : Type} (P : State → Prop) (r : α × State) : Prop where
  snd : P r.2
theorem Sat2.pair {α : Type} {P : State → Prop} {a : α} {t : State} (h : P t) : Sat2 P (a, t) := ⟨h⟩
theorem Sat2.of_eq {α : Type} {P : State → Prop} {r : α × State} {a : α} {t : State} (h : Sat2 P r) (e : r = (a, t)) : P t := by
  subst e; exact h.snd

/-- The property of the fourth of four. -/
structure Sat4 {α β γ : Type} (P : State → Prop) (r : α × β × γ × State) : Prop where
  proj : P r.2.2.2
theorem Sat4.pair {α β γ : Type} {P : State → Prop} {a : α} {b : β} {c : γ} {t : State} (h : P t) : Sat4 P (a, b, c, t) := ⟨h⟩
theorem Sat4.of_eq {α β γ : Type} {P : State → Prop} {r : α × β × γ × State} {a : α} {b : β} {c : γ} {t : State} (h : Sat4 P r)
    (e : r = (a, b, c, t)) : P t := by subst e; exact h.proj

/-- The property of an optional state. -/
structure SatO (P : State → Prop) (r : Option State) : Prop where
  out : ∀ t, r = some t → P t
theorem SatO.some {P : State → Prop} {t : State} (h : P t) : SatO P (.some t) := ⟨by rintro _ ⟨⟩; exact h⟩
theorem SatO.none {P : State → Prop} : SatO P .none := ⟨by rintro _ ⟨⟩⟩
theorem SatO.of_eq {P : State → Prop} {r : Option State} {t : State} (h : SatO P r) (e : r = .some t) : P t := h.out t e

/-- The property of the state in an optional pair. -/
structure SatO2 {α : Type} (P : State → Prop) (r : Option (α × State)) : Prop where
  out : ∀ a t, r = some (a, t) → P t
theorem SatO2.some {α : Type} {P : State → Prop} {a : α} {t : State} (h : P t) : SatO2 P (.some (a, t)) := ⟨by rintro _ _ ⟨⟩; exact h⟩
theorem SatO2.none {α : Type} {P : State → Prop} : SatO2 (α := α) P .none := ⟨by rintro _ _ ⟨⟩⟩
theorem SatO2.of_eq {α : Type} {P : State → Prop} {r : Option (α × State)} {a : α} {t : State} (h : SatO2 P r)
    (e : r = .some (a, t)) : P t := h.out a t e

/-- The property of the state in an optional triple. -/
structure SatO3 {α β : Type} (P : State → Prop) (r : Option (α × β × State)) : Prop where
  out : ∀ a b t, r = some (a, b, t) → P t
theorem SatO3.some {α β : Type} {P : State → Prop} {a : α} {b : β} {t : State} (h : P t) : SatO3 P (.some (a, b, t)) :=
  ⟨by rintro _ _ _ ⟨⟩; exact h⟩
theorem SatO3.none {α β : Type} {P : State → Prop} : SatO3 (α := α) (β := β) P .none := ⟨by rintro _ _ _ ⟨⟩⟩
theorem SatO3.of_eq {α β : Type} {P : State → Prop} {r : Option (α × β × State)} {a : α} {b : β} {t : State} (h : SatO3 P r)
    (e : r = .some (a, b, t)) : P t := h.out a b t e

/-- The property of a state that may have been refused. -/
structure SatE {α : Type} (P : State → Prop) (r : Except α State) : Prop where
  out : ∀ t, r = .ok t → P t
theorem SatE.ok {α : Type} {P : State → Prop} {t : State} (h : P t) : SatE (α := α) P (.ok t) := ⟨by rintro _ ⟨⟩; exact h⟩
theorem SatE.error {α : Type} {P : State → Prop} {a : α} : SatE P (.error a) := ⟨by rintro _ ⟨⟩⟩
theorem SatE.of_eq {α : Type} {P : State → Prop} {r : Except α State} {t : State} (h : SatE P r) (e : r = .ok t) : P t := h.out t e

/-- The property of the state in a pair that may have been refused. -/
structure SatE2 {α β : Type} (P : State → Prop) (r : Except α (β × State)) : Prop where
  out : ∀ b t, r = .ok (b, t) → P t
theorem SatE2.ok {α β : Type} {P : State → Prop} {b : β} {t : State} (h : P t) : SatE2 (α := α) P (.ok (b, t)) :=
  ⟨by rintro _ _ ⟨⟩; exact h⟩
theorem SatE2.error {α β : Type} {P : State → Prop} {a : α} : SatE2 (β := β) P (.error a) := ⟨by rintro _ _ ⟨⟩⟩
theorem SatE2.of_eq {α β : Type} {P : State → Prop} {r : Except α (β × State)} {b : β} {t : State} (h : SatE2 P r)
    (e : r = .ok (b, t)) : P t := h.out b t e

/-- The property over an optional operation. -/
structure SatF (P : State → Prop) (r : Option (State → Res)) : Prop where
  out : ∀ f, r = some f → ∀ s, P s → SatR P (f s)
theorem SatF.some {P : State → Prop} {f : State → Res} (h : ∀ s, P s → SatR P (f s)) : SatF P (.some f) :=
  ⟨by rintro _ ⟨⟩; exact h⟩
theorem SatF.none {P : State → Prop} : SatF P .none := ⟨by rintro _ ⟨⟩⟩

/-! ### Updates of several fields -/
theorem Closed.acceptPtr_grantPtr {m : Nat} {P : State → Prop} (hP : Closed m P) {s : State} {v0} {v1} (h0 : m.testBit 284 = true) (h1 : m.testBit 283 = true) (h : P s) :
    P { s with acceptPtr := v0, grantPtr := v1 } := hP.grantPtr h1 { s with acceptPtr := v0 } v1 (hP.acceptPtr h0 s v0 h)
theorem Closed.aopDead_boot {m : Nat} {P : State → Prop} (hP : Closed m P) {s : State} {v0} {v1} (h0 : m.testBit 334 = true) (h1 : m.testBit 304 = true) (h : P s) :
    P { s with aopDead := v0, boot := v1 } := hP.boot h1 { s with aopDead := v0 } v1 (hP.aopDead h0 s v0 h)
theorem Closed.boot_bootCount {m : Nat} {P : State → Prop} (hP : Closed m P) {s : State} {v0} {v1} (h0 : m.testBit 304 = true) (h1 : m.testBit 316 = true) (h : P s) :
    P { s with boot := v0, bootCount := v1 } := hP.bootCount h1 { s with boot := v0 } v1 (hP.boot h0 s v0 h)
theorem Closed.boot_fwMark {m : Nat} {P : State → Prop} (hP : Closed m P) {s : State} {v0} {v1} (h0 : m.testBit 304 = true) (h1 : m.testBit 319 = true) (h : P s) :
    P { s with boot := v0, fwMark := v1 } := hP.fwMark h1 { s with boot := v0 } v1 (hP.boot h0 s v0 h)
theorem Closed.boot_fwMark_fwRunning {m : Nat} {P : State → Prop} (hP : Closed m P) {s : State} {v0} {v1} {v2} (h0 : m.testBit 304 = true) (h1 : m.testBit 319 = true) (h2 : m.testBit 317 = true) (h : P s) :
    P { s with boot := v0, fwMark := v1, fwRunning := v2 } := hP.fwRunning h2 { s with boot := v0, fwMark := v1 } v2 (hP.fwMark h1 { s with boot := v0 } v1 (hP.boot h0 s v0 h))
theorem Closed.boot_fwRunning {m : Nat} {P : State → Prop} (hP : Closed m P) {s : State} {v0} {v1} (h0 : m.testBit 304 = true) (h1 : m.testBit 317 = true) (h : P s) :
    P { s with boot := v0, fwRunning := v1 } := hP.fwRunning h1 { s with boot := v0 } v1 (hP.boot h0 s v0 h)
theorem Closed.boot_resetLow {m : Nat} {P : State → Prop} (hP : Closed m P) {s : State} {v0} {v1} (h0 : m.testBit 304 = true) (h1 : m.testBit 333 = true) (h : P s) :
    P { s with boot := v0, resetLow := v1 } := hP.resetLow h1 { s with boot := v0 } v1 (hP.boot h0 s v0 h)
theorem Closed.boot_tripped {m : Nat} {P : State → Prop} (hP : Closed m P) {s : State} {v0} {v1} (h0 : m.testBit 304 = true) (h1 : m.testBit 335 = true) (h : P s) :
    P { s with boot := v0, tripped := v1 } := hP.tripped h1 { s with boot := v0 } v1 (hP.boot h0 s v0 h)
theorem Closed.dstSts_waiting {m : Nat} {P : State → Prop} (hP : Closed m P) {s : State} {v0} {v1} (h0 : m.testBit 273 = true) (h1 : m.testBit 269 = true) (h : P s) :
    P { s with dstSts := v0, waiting := v1 } := hP.waiting h1 { s with dstSts := v0 } v1 (hP.dstSts h0 s v0 h)
theorem Closed.flash_imageWritten {m : Nat} {P : State → Prop} (hP : Closed m P) {s : State} {v0} {v1} (h0 : m.testBit 325 = true) (h1 : m.testBit 324 = true) (h : P s) :
    P { s with flash := v0, imageWritten := v1 } := hP.imageWritten h1 { s with flash := v0 } v1 (hP.flash h0 s v0 h)
theorem Closed.frames_nextFrame {m : Nat} {P : State → Prop} (hP : Closed m P) {s : State} {v0} {v1} (h0 : m.testBit 276 = true) (h1 : m.testBit 278 = true) (h : P s) :
    P { s with frames := v0, nextFrame := v1 } := hP.nextFrame h1 { s with frames := v0 } v1 (hP.frames h0 s v0 h)
theorem Closed.fwErasing_fwMark {m : Nat} {P : State → Prop} (hP : Closed m P) {s : State} {v0} {v1} (h0 : m.testBit 321 = true) (h1 : m.testBit 319 = true) (h : P s) :
    P { s with fwErasing := v0, fwMark := v1 } := hP.fwMark h1 { s with fwErasing := v0 } v1 (hP.fwErasing h0 s v0 h)
theorem Closed.fwErasing_fwMark_fwOwn {m : Nat} {P : State → Prop} (hP : Closed m P) {s : State} {v0} {v1} {v2} (h0 : m.testBit 321 = true) (h1 : m.testBit 319 = true) (h2 : m.testBit 320 = true) (h : P s) :
    P { s with fwErasing := v0, fwMark := v1, fwOwn := v2 } := hP.fwOwn h2 { s with fwErasing := v0, fwMark := v1 } v2 (hP.fwMark h1 { s with fwErasing := v0 } v1 (hP.fwErasing h0 s v0 h))
theorem Closed.fwErasing_fwMark_fwOwn_fwStandby {m : Nat} {P : State → Prop} (hP : Closed m P) {s : State} {v0} {v1} {v2} {v3} (h0 : m.testBit 321 = true) (h1 : m.testBit 319 = true) (h2 : m.testBit 320 = true) (h3 : m.testBit 318 = true) (h : P s) :
    P { s with fwErasing := v0, fwMark := v1, fwOwn := v2, fwStandby := v3 } := hP.fwStandby h3 { s with fwErasing := v0, fwMark := v1, fwOwn := v2 } v3 (hP.fwOwn h2 { s with fwErasing := v0, fwMark := v1 } v2 (hP.fwMark h1 { s with fwErasing := v0 } v1 (hP.fwErasing h0 s v0 h)))
theorem Closed.fwErasing_fwMark_fwStandby {m : Nat} {P : State → Prop} (hP : Closed m P) {s : State} {v0} {v1} {v2} (h0 : m.testBit 321 = true) (h1 : m.testBit 319 = true) (h2 : m.testBit 318 = true) (h : P s) :
    P { s with fwErasing := v0, fwMark := v1, fwStandby := v2 } := hP.fwStandby h2 { s with fwErasing := v0, fwMark := v1 } v2 (hP.fwMark h1 { s with fwErasing := v0 } v1 (hP.fwErasing h0 s v0 h))
theorem Closed.fwErasing_fwOwn {m : Nat} {P : State → Prop} (hP : Closed m P) {s : State} {v0} {v1} (h0 : m.testBit 321 = true) (h1 : m.testBit 320 = true) (h : P s) :
    P { s with fwErasing := v0, fwOwn := v1 } := hP.fwOwn h1 { s with fwErasing := v0 } v1 (hP.fwErasing h0 s v0 h)
theorem Closed.fwErasing_fwOwn_fwStandby {m : Nat} {P : State → Prop} (hP : Closed m P) {s : State} {v0} {v1} {v2} (h0 : m.testBit 321 = true) (h1 : m.testBit 320 = true) (h2 : m.testBit 318 = true) (h : P s) :
    P { s with fwErasing := v0, fwOwn := v1, fwStandby := v2 } := hP.fwStandby h2 { s with fwErasing := v0, fwOwn := v1 } v2 (hP.fwOwn h1 { s with fwErasing := v0 } v1 (hP.fwErasing h0 s v0 h))
theorem Closed.fwErasing_fwStandby {m : Nat} {P : State → Prop} (hP : Closed m P) {s : State} {v0} {v1} (h0 : m.testBit 321 = true) (h1 : m.testBit 318 = true) (h : P s) :
    P { s with fwErasing := v0, fwStandby := v1 } := hP.fwStandby h1 { s with fwErasing := v0 } v1 (hP.fwErasing h0 s v0 h)
theorem Closed.fwMark_fwOwn {m : Nat} {P : State → Prop} (hP : Closed m P) {s : State} {v0} {v1} (h0 : m.testBit 319 = true) (h1 : m.testBit 320 = true) (h : P s) :
    P { s with fwMark := v0, fwOwn := v1 } := hP.fwOwn h1 { s with fwMark := v0 } v1 (hP.fwMark h0 s v0 h)
theorem Closed.fwMark_fwOwn_fwStandby {m : Nat} {P : State → Prop} (hP : Closed m P) {s : State} {v0} {v1} {v2} (h0 : m.testBit 319 = true) (h1 : m.testBit 320 = true) (h2 : m.testBit 318 = true) (h : P s) :
    P { s with fwMark := v0, fwOwn := v1, fwStandby := v2 } := hP.fwStandby h2 { s with fwMark := v0, fwOwn := v1 } v2 (hP.fwOwn h1 { s with fwMark := v0 } v1 (hP.fwMark h0 s v0 h))
theorem Closed.fwMark_fwRunning {m : Nat} {P : State → Prop} (hP : Closed m P) {s : State} {v0} {v1} (h0 : m.testBit 319 = true) (h1 : m.testBit 317 = true) (h : P s) :
    P { s with fwMark := v0, fwRunning := v1 } := hP.fwRunning h1 { s with fwMark := v0 } v1 (hP.fwMark h0 s v0 h)
theorem Closed.fwMark_fwStandby {m : Nat} {P : State → Prop} (hP : Closed m P) {s : State} {v0} {v1} (h0 : m.testBit 319 = true) (h1 : m.testBit 318 = true) (h : P s) :
    P { s with fwMark := v0, fwStandby := v1 } := hP.fwStandby h1 { s with fwMark := v0 } v1 (hP.fwMark h0 s v0 h)
theorem Closed.fwMark_fwStandby_imageWritten {m : Nat} {P : State → Prop} (hP : Closed m P) {s : State} {v0} {v1} {v2} (h0 : m.testBit 319 = true) (h1 : m.testBit 318 = true) (h2 : m.testBit 324 = true) (h : P s) :
    P { s with fwMark := v0, fwStandby := v1, imageWritten := v2 } := hP.imageWritten h2 { s with fwMark := v0, fwStandby := v1 } v2 (hP.fwStandby h1 { s with fwMark := v0 } v1 (hP.fwMark h0 s v0 h))
theorem Closed.fwMark_fwStandby_imageWritten_nvMark {m : Nat} {P : State → Prop} (hP : Closed m P) {s : State} {v0} {v1} {v2} {v3} (h0 : m.testBit 319 = true) (h1 : m.testBit 318 = true) (h2 : m.testBit 324 = true) (h3 : m.testBit 323 = true) (h : P s) :
    P { s with fwMark := v0, fwStandby := v1, imageWritten := v2, nvMark := v3 } := hP.nvMark h3 { s with fwMark := v0, fwStandby := v1, imageWritten := v2 } v3 (hP.imageWritten h2 { s with fwMark := v0, fwStandby := v1 } v2 (hP.fwStandby h1 { s with fwMark := v0 } v1 (hP.fwMark h0 s v0 h)))
theorem Closed.fwMark_fwStandby_nvMark {m : Nat} {P : State → Prop} (hP : Closed m P) {s : State} {v0} {v1} {v2} (h0 : m.testBit 319 = true) (h1 : m.testBit 318 = true) (h2 : m.testBit 323 = true) (h : P s) :
    P { s with fwMark := v0, fwStandby := v1, nvMark := v2 } := hP.nvMark h2 { s with fwMark := v0, fwStandby := v1 } v2 (hP.fwStandby h1 { s with fwMark := v0 } v1 (hP.fwMark h0 s v0 h))
theorem Closed.fwMark_fwStandby_svnFuses {m : Nat} {P : State → Prop} (hP : Closed m P) {s : State} {v0} {v1} {v2} (h0 : m.testBit 319 = true) (h1 : m.testBit 318 = true) (h2 : m.testBit 314 = true) (h : P s) :
    P { s with fwMark := v0, fwStandby := v1, svnFuses := v2 } := hP.svnFuses h2 { s with fwMark := v0, fwStandby := v1 } v2 (hP.fwStandby h1 { s with fwMark := v0 } v1 (hP.fwMark h0 s v0 h))
theorem Closed.fwMark_imageWritten {m : Nat} {P : State → Prop} (hP : Closed m P) {s : State} {v0} {v1} (h0 : m.testBit 319 = true) (h1 : m.testBit 324 = true) (h : P s) :
    P { s with fwMark := v0, imageWritten := v1 } := hP.imageWritten h1 { s with fwMark := v0 } v1 (hP.fwMark h0 s v0 h)
theorem Closed.fwMark_imageWritten_nvMark {m : Nat} {P : State → Prop} (hP : Closed m P) {s : State} {v0} {v1} {v2} (h0 : m.testBit 319 = true) (h1 : m.testBit 324 = true) (h2 : m.testBit 323 = true) (h : P s) :
    P { s with fwMark := v0, imageWritten := v1, nvMark := v2 } := hP.nvMark h2 { s with fwMark := v0, imageWritten := v1 } v2 (hP.imageWritten h1 { s with fwMark := v0 } v1 (hP.fwMark h0 s v0 h))
theorem Closed.fwMark_nvMark {m : Nat} {P : State → Prop} (hP : Closed m P) {s : State} {v0} {v1} (h0 : m.testBit 319 = true) (h1 : m.testBit 323 = true) (h : P s) :
    P { s with fwMark := v0, nvMark := v1 } := hP.nvMark h1 { s with fwMark := v0 } v1 (hP.fwMark h0 s v0 h)
theorem Closed.fwMark_svnFuses {m : Nat} {P : State → Prop} (hP : Closed m P) {s : State} {v0} {v1} (h0 : m.testBit 319 = true) (h1 : m.testBit 314 = true) (h : P s) :
    P { s with fwMark := v0, svnFuses := v1 } := hP.svnFuses h1 { s with fwMark := v0 } v1 (hP.fwMark h0 s v0 h)
theorem Closed.fwOwn_fwStandby {m : Nat} {P : State → Prop} (hP : Closed m P) {s : State} {v0} {v1} (h0 : m.testBit 320 = true) (h1 : m.testBit 318 = true) (h : P s) :
    P { s with fwOwn := v0, fwStandby := v1 } := hP.fwStandby h1 { s with fwOwn := v0 } v1 (hP.fwOwn h0 s v0 h)
theorem Closed.fwStandby_imageWritten {m : Nat} {P : State → Prop} (hP : Closed m P) {s : State} {v0} {v1} (h0 : m.testBit 318 = true) (h1 : m.testBit 324 = true) (h : P s) :
    P { s with fwStandby := v0, imageWritten := v1 } := hP.imageWritten h1 { s with fwStandby := v0 } v1 (hP.fwStandby h0 s v0 h)
theorem Closed.fwStandby_imageWritten_nvMark {m : Nat} {P : State → Prop} (hP : Closed m P) {s : State} {v0} {v1} {v2} (h0 : m.testBit 318 = true) (h1 : m.testBit 324 = true) (h2 : m.testBit 323 = true) (h : P s) :
    P { s with fwStandby := v0, imageWritten := v1, nvMark := v2 } := hP.nvMark h2 { s with fwStandby := v0, imageWritten := v1 } v2 (hP.imageWritten h1 { s with fwStandby := v0 } v1 (hP.fwStandby h0 s v0 h))
theorem Closed.fwStandby_nvMark {m : Nat} {P : State → Prop} (hP : Closed m P) {s : State} {v0} {v1} (h0 : m.testBit 318 = true) (h1 : m.testBit 323 = true) (h : P s) :
    P { s with fwStandby := v0, nvMark := v1 } := hP.nvMark h1 { s with fwStandby := v0 } v1 (hP.fwStandby h0 s v0 h)
theorem Closed.fwStandby_svnFuses {m : Nat} {P : State → Prop} (hP : Closed m P) {s : State} {v0} {v1} (h0 : m.testBit 318 = true) (h1 : m.testBit 314 = true) (h : P s) :
    P { s with fwStandby := v0, svnFuses := v1 } := hP.svnFuses h1 { s with fwStandby := v0 } v1 (hP.fwStandby h0 s v0 h)
theorem Closed.govAt_govPower {m : Nat} {P : State → Prop} (hP : Closed m P) {s : State} {v0} {v1} (h0 : m.testBit 347 = true) (h1 : m.testBit 310 = true) (h : P s) :
    P { s with govAt := v0, govPower := v1 } := hP.govPower h1 { s with govAt := v0 } v1 (hP.govAt h0 s v0 h)
theorem Closed.govAt_govPower_hbmHold {m : Nat} {P : State → Prop} (hP : Closed m P) {s : State} {v0} {v1} {v2} (h0 : m.testBit 347 = true) (h1 : m.testBit 310 = true) (h2 : m.testBit 346 = true) (h : P s) :
    P { s with govAt := v0, govPower := v1, hbmHold := v2 } := hP.hbmHold h2 { s with govAt := v0, govPower := v1 } v2 (hP.govPower h1 { s with govAt := v0 } v1 (hP.govAt h0 s v0 h))
theorem Closed.govAt_govPower_hbmHold_thermHold {m : Nat} {P : State → Prop} (hP : Closed m P) {s : State} {v0} {v1} {v2} {v3} (h0 : m.testBit 347 = true) (h1 : m.testBit 310 = true) (h2 : m.testBit 346 = true) (h3 : m.testBit 311 = true) (h : P s) :
    P { s with govAt := v0, govPower := v1, hbmHold := v2, thermHold := v3 } := hP.thermHold h3 { s with govAt := v0, govPower := v1, hbmHold := v2 } v3 (hP.hbmHold h2 { s with govAt := v0, govPower := v1 } v2 (hP.govPower h1 { s with govAt := v0 } v1 (hP.govAt h0 s v0 h)))
theorem Closed.govAt_govPower_thermHold {m : Nat} {P : State → Prop} (hP : Closed m P) {s : State} {v0} {v1} {v2} (h0 : m.testBit 347 = true) (h1 : m.testBit 310 = true) (h2 : m.testBit 311 = true) (h : P s) :
    P { s with govAt := v0, govPower := v1, thermHold := v2 } := hP.thermHold h2 { s with govAt := v0, govPower := v1 } v2 (hP.govPower h1 { s with govAt := v0 } v1 (hP.govAt h0 s v0 h))
theorem Closed.govAt_hbmHold {m : Nat} {P : State → Prop} (hP : Closed m P) {s : State} {v0} {v1} (h0 : m.testBit 347 = true) (h1 : m.testBit 346 = true) (h : P s) :
    P { s with govAt := v0, hbmHold := v1 } := hP.hbmHold h1 { s with govAt := v0 } v1 (hP.govAt h0 s v0 h)
theorem Closed.govAt_hbmHold_thermHold {m : Nat} {P : State → Prop} (hP : Closed m P) {s : State} {v0} {v1} {v2} (h0 : m.testBit 347 = true) (h1 : m.testBit 346 = true) (h2 : m.testBit 311 = true) (h : P s) :
    P { s with govAt := v0, hbmHold := v1, thermHold := v2 } := hP.thermHold h2 { s with govAt := v0, hbmHold := v1 } v2 (hP.hbmHold h1 { s with govAt := v0 } v1 (hP.govAt h0 s v0 h))
theorem Closed.govAt_thermHold {m : Nat} {P : State → Prop} (hP : Closed m P) {s : State} {v0} {v1} (h0 : m.testBit 347 = true) (h1 : m.testBit 311 = true) (h : P s) :
    P { s with govAt := v0, thermHold := v1 } := hP.thermHold h1 { s with govAt := v0 } v1 (hP.govAt h0 s v0 h)
theorem Closed.govPower_hbmHold {m : Nat} {P : State → Prop} (hP : Closed m P) {s : State} {v0} {v1} (h0 : m.testBit 310 = true) (h1 : m.testBit 346 = true) (h : P s) :
    P { s with govPower := v0, hbmHold := v1 } := hP.hbmHold h1 { s with govPower := v0 } v1 (hP.govPower h0 s v0 h)
theorem Closed.govPower_hbmHold_thermHold {m : Nat} {P : State → Prop} (hP : Closed m P) {s : State} {v0} {v1} {v2} (h0 : m.testBit 310 = true) (h1 : m.testBit 346 = true) (h2 : m.testBit 311 = true) (h : P s) :
    P { s with govPower := v0, hbmHold := v1, thermHold := v2 } := hP.thermHold h2 { s with govPower := v0, hbmHold := v1 } v2 (hP.hbmHold h1 { s with govPower := v0 } v1 (hP.govPower h0 s v0 h))
theorem Closed.govPower_thermHold {m : Nat} {P : State → Prop} (hP : Closed m P) {s : State} {v0} {v1} (h0 : m.testBit 310 = true) (h1 : m.testBit 311 = true) (h : P s) :
    P { s with govPower := v0, thermHold := v1 } := hP.thermHold h1 { s with govPower := v0 } v1 (hP.govPower h0 s v0 h)
theorem Closed.guardRanges_scanJobs {m : Nat} {P : State → Prop} (hP : Closed m P) {s : State} {v0} {v1} (h0 : m.testBit 266 = true) (h1 : m.testBit 299 = true) (h : P s) :
    P { s with guardRanges := v0, scanJobs := v1 } := hP.scanJobs h1 { s with guardRanges := v0 } v1 (hP.guardRanges h0 s v0 h)
theorem Closed.hbmHold_thermHold {m : Nat} {P : State → Prop} (hP : Closed m P) {s : State} {v0} {v1} (h0 : m.testBit 346 = true) (h1 : m.testBit 311 = true) (h : P s) :
    P { s with hbmHold := v0, thermHold := v1 } := hP.thermHold h1 { s with hbmHold := v0 } v1 (hP.hbmHold h0 s v0 h)
theorem Closed.imageWritten_nvMark {m : Nat} {P : State → Prop} (hP : Closed m P) {s : State} {v0} {v1} (h0 : m.testBit 324 = true) (h1 : m.testBit 323 = true) (h : P s) :
    P { s with imageWritten := v0, nvMark := v1 } := hP.nvMark h1 { s with imageWritten := v0 } v1 (hP.imageWritten h0 s v0 h)
theorem Closed.journalSeq_nvMark {m : Nat} {P : State → Prop} (hP : Closed m P) {s : State} {v0} {v1} (h0 : m.testBit 326 = true) (h1 : m.testBit 323 = true) (h : P s) :
    P { s with journalSeq := v0, nvMark := v1 } := hP.nvMark h1 { s with journalSeq := v0 } v1 (hP.journalSeq h0 s v0 h)
theorem Closed.mirrorQueue_mirrorSeen {m : Nat} {P : State → Prop} (hP : Closed m P) {s : State} {v0} {v1} (h0 : m.testBit 287 = true) (h1 : m.testBit 285 = true) (h : P s) :
    P { s with mirrorQueue := v0, mirrorSeen := v1 } := hP.mirrorSeen h1 { s with mirrorQueue := v0 } v1 (hP.mirrorQueue h0 s v0 h)
theorem Closed.mirrorQueue_mirrorSeen_mirrorSeq {m : Nat} {P : State → Prop} (hP : Closed m P) {s : State} {v0} {v1} {v2} (h0 : m.testBit 287 = true) (h1 : m.testBit 285 = true) (h2 : m.testBit 286 = true) (h : P s) :
    P { s with mirrorQueue := v0, mirrorSeen := v1, mirrorSeq := v2 } := hP.mirrorSeq h2 { s with mirrorQueue := v0, mirrorSeen := v1 } v2 (hP.mirrorSeen h1 { s with mirrorQueue := v0 } v1 (hP.mirrorQueue h0 s v0 h))
theorem Closed.mirrorQueue_mirrorSeq {m : Nat} {P : State → Prop} (hP : Closed m P) {s : State} {v0} {v1} (h0 : m.testBit 287 = true) (h1 : m.testBit 286 = true) (h : P s) :
    P { s with mirrorQueue := v0, mirrorSeq := v1 } := hP.mirrorSeq h1 { s with mirrorQueue := v0 } v1 (hP.mirrorQueue h0 s v0 h)
theorem Closed.mirrorSeen_mirrorSeq {m : Nat} {P : State → Prop} (hP : Closed m P) {s : State} {v0} {v1} (h0 : m.testBit 285 = true) (h1 : m.testBit 286 = true) (h : P s) :
    P { s with mirrorSeen := v0, mirrorSeq := v1 } := hP.mirrorSeq h1 { s with mirrorSeen := v0 } v1 (hP.mirrorSeen h0 s v0 h)
theorem Closed.nvErasing_nvMark {m : Nat} {P : State → Prop} (hP : Closed m P) {s : State} {v0} {v1} (h0 : m.testBit 322 = true) (h1 : m.testBit 323 = true) (h : P s) :
    P { s with nvErasing := v0, nvMark := v1 } := hP.nvMark h1 { s with nvErasing := v0 } v1 (hP.nvErasing h0 s v0 h)
theorem Closed.nvKey_operatorKeys {m : Nat} {P : State → Prop} (hP : Closed m P) {s : State} {v0} {v1} (h0 : m.testBit 313 = true) (h1 : m.testBit 312 = true) (h : P s) :
    P { s with nvKey := v0, operatorKeys := v1 } := hP.operatorKeys h1 { s with nvKey := v0 } v1 (hP.nvKey h0 s v0 h)
theorem Closed.nvKey_operatorKeys_ownerKey {m : Nat} {P : State → Prop} (hP : Closed m P) {s : State} {v0} {v1} {v2} (h0 : m.testBit 313 = true) (h1 : m.testBit 312 = true) (h2 : m.testBit 295 = true) (h : P s) :
    P { s with nvKey := v0, operatorKeys := v1, ownerKey := v2 } := hP.ownerKey h2 { s with nvKey := v0, operatorKeys := v1 } v2 (hP.operatorKeys h1 { s with nvKey := v0 } v1 (hP.nvKey h0 s v0 h))
theorem Closed.nvKey_ownerKey {m : Nat} {P : State → Prop} (hP : Closed m P) {s : State} {v0} {v1} (h0 : m.testBit 313 = true) (h1 : m.testBit 295 = true) (h : P s) :
    P { s with nvKey := v0, ownerKey := v1 } := hP.ownerKey h1 { s with nvKey := v0 } v1 (hP.nvKey h0 s v0 h)
theorem Closed.nvMark_rollback {m : Nat} {P : State → Prop} (hP : Closed m P) {s : State} {v0} {v1} (h0 : m.testBit 323 = true) (h1 : m.testBit 315 = true) (h : P s) :
    P { s with nvMark := v0, rollback := v1 } := hP.rollback h1 { s with nvMark := v0 } v1 (hP.nvMark h0 s v0 h)
theorem Closed.operatorKeys_ownerKey {m : Nat} {P : State → Prop} (hP : Closed m P) {s : State} {v0} {v1} (h0 : m.testBit 312 = true) (h1 : m.testBit 295 = true) (h : P s) :
    P { s with operatorKeys := v0, ownerKey := v1 } := hP.ownerKey h1 { s with operatorKeys := v0 } v1 (hP.operatorKeys h0 s v0 h)
theorem Closed.powerEntry_powerWake {m : Nat} {P : State → Prop} (hP : Closed m P) {s : State} {v0} {v1} (h0 : m.testBit 307 = true) (h1 : m.testBit 308 = true) (h : P s) :
    P { s with powerEntry := v0, powerWake := v1 } := hP.powerWake h1 { s with powerEntry := v0 } v1 (hP.powerEntry h0 s v0 h)
theorem Closed.powerEntry_saved {m : Nat} {P : State → Prop} (hP : Closed m P) {s : State} {v0} {v1} (h0 : m.testBit 307 = true) (h1 : m.testBit 309 = true) (h : P s) :
    P { s with powerEntry := v0, saved := v1 } := hP.saved h1 { s with powerEntry := v0 } v1 (hP.powerEntry h0 s v0 h)
theorem Closed.quarantine_sent {m : Nat} {P : State → Prop} (hP : Closed m P) {s : State} {v0} {v1} (h0 : m.testBit 271 = true) (h1 : m.testBit 270 = true) (h : P s) :
    P { s with quarantine := v0, sent := v1 } := hP.sent h1 { s with quarantine := v0 } v1 (hP.quarantine h0 s v0 h)
theorem Closed.reports_scratchSeen {m : Nat} {P : State → Prop} (hP : Closed m P) {s : State} {v0} {v1} (h0 : m.testBit 294 = true) (h1 : m.testBit 332 = true) (h : P s) :
    P { s with reports := v0, scratchSeen := v1 } := hP.scratchSeen h1 { s with reports := v0 } v1 (hP.reports h0 s v0 h)
theorem Closed.sideband_sidebandAt {m : Nat} {P : State → Prop} (hP : Closed m P) {s : State} {v0} {v1} (h0 : m.testBit 337 = true) (h1 : m.testBit 348 = true) (h : P s) :
    P { s with sideband := v0, sidebandAt := v1 } := hP.sidebandAt h1 { s with sideband := v0 } v1 (hP.sideband h0 s v0 h)

/-- A footprint of all objects holds each. -/
theorem Foot.obj_of_all {m : Nat} (h : (2 ^ 256 - 1) &&& m = 2 ^ 256 - 1) (c : ObjCode) : Foot.obj m c = true := by
  refine Foot.bit_of_le h ?_
  rw [Nat.testBit_two_pow_sub_one]
  have : Foot.tag c ≤ 255 := Nat.min_le_left _ _
  simp only [decide_eq_true_eq]
  omega

/-- The first answer of a search has what every answer has. -/
theorem findSome_sat {α : Type} {P : State → Prop} {f : α → Option State} {l : List α} (h : ∀ a, SatO P (f a)) :
    SatO P (l.findSome? f) := by
  induction l with
  | nil => exact SatO.none
  | cons a l ih =>
    unfold List.findSome?
    split
    · next e => exact ⟨fun t ht => (h a).out t (e.trans ht)⟩
    · exact ih


/-- A fold keeps what its start has and its step keeps on every element of the list. -/
theorem foldl_mem_sat {α β : Type} {Q : β → Prop} {f : β → α → β} {b : β} {l : List α} (h : Q b)
    (hf : ∀ b, ∀ a ∈ l, Q b → Q (f b a)) : Q (l.foldl f b) := by
  induction l generalizing b with
  | nil => exact h
  | cons a l ih => exact ih (hf b a (.head _) h) fun b a ha => hf b a (.tail _ ha)


/-- A mapped option has what every answer of the map has. -/
theorem map_sat2 {α β : Type} {P : State → Prop} {f : α → β × State} {o : Option α} (h : ∀ a, P (f a).2) : SatO2 P (o.map f) := by
  cases o with
  | none => exact SatO2.none
  | some a => exact ⟨fun b t e => by have hh := h a; rw [Option.some.inj e] at hh; exact hh⟩


/-- A mapped option has what every answer of the map has. -/
theorem map_sat3 {α β γ : Type} {P : State → Prop} {f : α → β × γ × State} {o : Option α} (h : ∀ a, P (f a).2.2) :
    SatO3 P (o.map f) := by
  cases o with
  | none => exact SatO3.none
  | some a => exact ⟨fun b c t e => by have hh := h a; rw [Option.some.inj e] at hh; exact hh⟩


end Sys2Proof.Laws
end

