-- ==== Sys2Proof/Laws/ClosedOps.lean ====
section
/-! SUPPORT. The operations of Ops.lean keep every property that the writes of their footprint keep. -/

namespace Sys2Proof.Laws

set_option Elab.async false
set_option linter.all false

open Sys2Proof.Machine

theorem State.wr_closed {P : State → Prop} {s : State} {c : ObjCode} {m : Nat} (hP : Closed m P) (hc : Foot.obj m c = true)
    (h : P s) (i v : Nat) : P (State.wr s c i v) := hP.wr s c i v hc h

theorem State.wrFld_closed {P : State → Prop} {s : State} {c : ObjCode} {m : Nat} (hP : Closed m P) (hc : Foot.obj m c = true)
    (h : P s) (i lo w v : Nat) : P (State.wrFld s c i lo w v) := hP.wr s c i _ hc h

theorem State.clearObj_closed {P : State → Prop} {s : State} {c : ObjCode} {m : Nat} (hP : Closed m P)
    (hc : Foot.obj m c = true) (h : P s) : P (State.clearObj s c) := by
  refine hP.drop s _ (fun p hp => ?_) h
  cases he : p.1 / 2 ^ 32 == c with
  | false => show (!(p.1 / 2 ^ 32 == c)) = true; rw [he]; rfl
  | true => rw [eq_of_beq he, hc] at hp; cases hp

theorem State.drawn_closed {P : State → Prop} {s : State}
    (hP : Closed 0x20000000000000000000000000000000000000000000000000000000000000000 P) (h : P s) : P (State.drawn s) :=
  hP.free (by decide +kernel) s h

theorem State.inc_closed {P : State → Prop} {s : State} {c : ObjCode} {m : Nat} (hP : Closed m P) (hm : 0x20000000000000000000000000000000000000000000000000000000000000000 &&& m = 0x20000000000000000000000000000000000000000000000000000000000000000) (hc : Foot.obj m c = true) (h : P s) (i : Nat) (lo : Nat) (w : Nat) (n : Nat) :
 P (State.inc s c i lo w n) := by
  unfold State.inc
  repeat' with_reducible first
    | assumption | intro _ | exact hP.mono (Foot.le_trans (by decide +kernel) hm) | apply State.wrFld_closed
    | apply State.drawn_closed | apply ite_sat | apply foldl_sat | apply foldUp_sat | decide +kernel | split

theorem State.incSat_closed {P : State → Prop} {s : State} {c : ObjCode} {m : Nat} (hP : Closed m P) (hc : Foot.obj m c = true) (h : P s) (i : Nat) (lo : Nat) (w : Nat) (n : Nat) :
 P (State.incSat s c i lo w n) := by
  unfold State.incSat
  repeat' with_reducible first
    | assumption | exact hP.mono (by decide +kernel) | apply State.wrFld_closed | decide +kernel | split

theorem State.memWrite_closed {P : State → Prop} {s : State}
    (hP : Closed 0x10000000000000000000000000000000000000000000000000000000000000000 P) (h : P s) (space off : Nat) (bs : List Byte) :
    P (State.memWrite s space off bs) := hP.mem (by decide +kernel) s space off bs h

theorem State.tmWrite_closed {P : State → Prop} {s : State} (hP : Closed 0x10000000000000000000000000000000000000000000000000000000000000000 P) (h : P s) (core : Nat) (off : Nat) (n : Nat) (code : Nat) :
 P (State.tmWrite s core off n code) := by
  unfold State.tmWrite
  repeat' with_reducible first
    | assumption | exact hP.mono (by decide +kernel) | apply State.memWrite_closed | decide +kernel | split

theorem State.send_closed {P : State → Prop} {s : State}
    (hP : Closed 0x40000000000000000000000000000000000000000000000000000000000000000 P) (h : P s) (o : Out) : P (State.send s o) :=
  hP.out (by decide +kernel) s o h

theorem State.setCore_closed {P : State → Prop} {s : State} (hP : Closed 0x1000000000000000000000000000000000000000000000000000000000000000000 P) (h : P s) (n : Nat) (c : CoreSt) :
 P (State.setCore s n c) := by
  unfold State.setCore
  repeat' with_reducible first
    | assumption | exact hP.mono (by decide +kernel) | decide +kernel | split | apply hP.cores

theorem State.setRke_closed {P : State → Prop} {s : State} (hP : Closed 0x2000000000000000000000000000000000000000000000000000000000000000000 P) (h : P s) (m : Nat) (r : RkeSt) :
 P (State.setRke s m r) := by
  unfold State.setRke
  repeat' with_reducible first
    | assumption | exact hP.mono (by decide +kernel) | decide +kernel | split | apply hP.rkes

theorem State.setFlag_closed {P : State → Prop} {s : State} (hP : Closed 0x400000 P) (h : P s) (n : Nat) (f : Nat) (v : Nat) :
 P (State.setFlag s n f v) := by
  unfold State.setFlag
  repeat' with_reducible first
    | assumption | exact hP.mono (by decide +kernel) | apply State.wr_closed | decide +kernel | split

theorem State.runTo_closed {P : State → Prop} {s : State} (hP : Closed 0x1020000000000000000000000000000000000000000000000000000000002100000 P) (h : P s) (n : Nat) (t : Nat) :
 P (State.runTo s n t) := by
  unfold State.runTo
  repeat' with_reducible first
    | assumption | intro _ | exact hP.mono (by decide +kernel) | apply State.wr_closed | apply State.setCore_closed
    | apply State.inc_closed | apply ite_sat | apply foldl_sat | apply foldUp_sat | decide +kernel | split

theorem State.advance_closed {P : State → Prop} {s : State} (hP : Closed 0x1020000000000000000000000000000000000000000000000000000000002100000 P) (h : P s) (n : Nat) (t : Nat) :
 P (State.advance s n t) := by
  unfold State.advance
  repeat' with_reducible first
    | assumption | intro _ | exact hP.mono (by decide +kernel) | apply State.runTo_closed
    | apply State.setCore_closed | apply ite_sat | apply foldl_sat | apply foldUp_sat | decide +kernel | split

theorem State.rateWindowEnd_closed {P : State → Prop} {s : State} (hP : Closed 0x8000000000000000003000000000000000000000000000000000000000000000000000000000400080000 P) (h : P s) :
 P (State.rateWindowEnd s) := by
  unfold State.rateWindowEnd
  repeat' with_reducible first
    | assumption | intro _ | exact hP.mono (by decide +kernel) | apply State.setRke_closed | apply State.wr_closed
    | apply State.setCore_closed | apply ite_sat | apply foldl_sat | apply foldUp_sat | decide +kernel | split
    | apply hP.rateWindow

theorem State.haltFields_closed {P : State → Prop} {s : State} (hP : Closed 0x200000 P) (h : P s) (n : Nat) (status : Nat) (detail : Nat) (pos : Nat) (ord : Nat) :
 P (State.haltFields s n status detail pos ord) := by
  unfold State.haltFields
  repeat' with_reducible first
    | assumption | exact hP.mono (by decide +kernel) | apply State.wr_closed | decide +kernel | split

theorem State.haltCore_closed {P : State → Prop} {s : State} (hP : Closed 0x1000000000000000000000000000000000000000000000000000000000000204000 P) (h : P s) (n : Nat) (status : Nat) (detail : Nat) (pos : Nat) (ord : Nat) :
 P (State.haltCore s n status detail pos ord) := by
  unfold State.haltCore
  repeat' with_reducible first
    | assumption | intro _ | exact hP.mono (by decide +kernel) | apply State.wr_closed
    | apply State.haltFields_closed | apply State.setCore_closed | apply ite_sat | apply foldl_sat
    | apply foldUp_sat | decide +kernel | split

theorem State.stopIssue_closed {P : State → Prop} {s : State} (hP : Closed 0x1000000000000000000000000000000000000000000000000000000000000204000 P) (h : P s) (n : Nat) (why : IssueStop) (pos : Nat) (ord : Nat) :
 P (State.stopIssue s n why pos ord) := by
  unfold State.stopIssue
  repeat' with_reducible first
    | assumption | exact hP.mono (by decide +kernel) | apply State.wr_closed | apply State.haltFields_closed
    | apply State.setCore_closed | decide +kernel | split

end Sys2Proof.Laws
end

