-- ==== Sys2Proof/Laws/ClosedFrames.lean ====
section
/-! SUPPORT. The operations of Frames.lean keep every property that the writes of their footprint keep. -/

namespace Sys2Proof.Laws

set_option Elab.async false
set_option linter.all false

open Sys2Proof.Machine

theorem State.sendFrame_closed {P : State → Prop} {s : State} (hP : Closed 0x40000000000000000000000000000000000000000000000000000000000000000 P) (h : P s) (slice : Nat) (f : Frame) :
 P (State.sendFrame s slice f) := by
  unfold State.sendFrame
  repeat' with_reducible first
    | assumption | exact hP.mono (by decide +kernel) | apply State.send_closed | decide +kernel | split

theorem State.reply_closed {P : State → Prop} {s : State} (hP : Closed 0x40000000000000000000000000000000000000000000000000000000000000000 P) (h : P s) (q : Frame) (status : Nat) (data : List Byte) :
 P (State.reply s q status data) := by
  unfold State.reply
  repeat' with_reducible first
    | assumption | exact hP.mono (by decide +kernel) | apply State.sendFrame_closed | decide +kernel | split

end Sys2Proof.Laws
end

