-- ==== Sys2Proof/Laws/ClosedLink.lean ====
section
/-! SUPPORT. The operations of Link.lean keep every property that the writes of their footprint keep. -/

namespace Sys2Proof.Laws

set_option Elab.async false
set_option linter.all false

open Sys2Proof.Machine

theorem State.setPort_closed {P : State → Prop} {s : State} (hP : Closed 0x8000000000000000000000000000000000000000000000000000000000000000000000000 P) (h : P s) (p : Nat) (x : PortSt) :
 P (State.setPort s p x) := by
  unfold State.setPort
  repeat' with_reducible first
    | assumption | exact hP.mono (by decide +kernel) | decide +kernel | split | apply hP.ports

theorem State.setPortState_closed {P : State → Prop} {s : State} (hP : Closed 0x90000000000000000000 P) (h : P s) (p : Nat) (st : Nat) :
 P (State.setPortState s p st) := by
  unfold State.setPortState
  repeat' with_reducible first
    | assumption | exact hP.mono (by decide +kernel) | apply State.wr_closed | apply State.wrFld_closed
    | decide +kernel | split

theorem State.portError_closed {P : State → Prop} {s : State} (hP : Closed 0x20000000000000000000000000000000000000000000800000000000000000000 P) (h : P s) (p : Nat) (k : Nat) (n : Nat) :
 P (State.portError s p k n) := by
  unfold State.portError
  repeat' with_reducible first
    | assumption | exact hP.mono (by decide +kernel) | apply State.inc_closed | decide +kernel | split

theorem State.sendBlock_closed {P : State → Prop} {s : State} (hP : Closed 0x8000000040000000000000000000000000000000000000000000000000000000000000000 P) (h : P s) (p : Nat) (type : Nat) (cls : Nat) (seq : Nat) (info : Nat) (echo : Bool) (body : List Byte) :
 P (State.sendBlock s p type cls seq info echo body) := by
  unfold State.sendBlock
  repeat' with_reducible first
    | assumption | exact hP.mono (by decide +kernel) | apply State.setPort_closed | apply State.send_closed
    | decide +kernel | split

theorem State.closeGroup_closed {P : State → Prop} {s : State} (hP : Closed 0x8000000040000000000000000000000000000000000000000000000000000000000000000 P) (h : P s) (p : Nat) :
 P (State.closeGroup s p) := by
  unfold State.closeGroup
  repeat' with_reducible first
    | assumption | intro _ | exact hP.mono (by decide +kernel) | apply State.sendBlock_closed
    | apply State.setPort_closed | apply ite_sat | apply foldl_sat | apply foldUp_sat | decide +kernel | split

theorem State.sendCell_closed {P : State → Prop} {s : State} (hP : Closed 0x8000000040000000000000000000000000000000000000000000000000000000000000000 P) (h : P s) (p : Nat) (seq : Nat) (cls : Nat) (body : List Byte) :
 P (State.sendCell s p seq cls body) := by
  unfold State.sendCell
  repeat' with_reducible first
    | assumption | intro _ | exact hP.mono (by decide +kernel) | apply State.sendBlock_closed
    | apply State.setPort_closed | apply State.closeGroup_closed | apply ite_sat | apply foldl_sat
    | apply foldUp_sat | decide +kernel | split

theorem State.newCell_closed {P : State → Prop} {s : State} (hP : Closed 0x8000000040000000000000000000000000000000000000000000000000000000000000000 P) (h : P s) (p : Nat) (cls : Nat) (body : List Byte) :
 P (State.newCell s p cls body) := by
  unfold State.newCell
  repeat' with_reducible first
    | assumption | exact hP.mono (by decide +kernel) | apply State.setPort_closed | apply State.sendCell_closed
    | decide +kernel | split

theorem State.idleBlock_closed {P : State → Prop} {s : State} (hP : Closed 0x8000000040000000000000000000000000000000000000000000000000000000000000000 P) (h : P s) (p : Nat) :
 P (State.idleBlock s p) := by
  unfold State.idleBlock
  repeat' with_reducible first
    | assumption | intro _ | exact hP.mono (by decide +kernel) | apply State.sendBlock_closed
    | apply State.closeGroup_closed | apply ite_sat | apply foldl_sat | apply foldUp_sat | decide +kernel | split

theorem State.idleBlocks_closed {P : State → Prop} {s : State} (hP : Closed 0x8000000040000000000000000000000000000000000000000000000000000000000000000 P) (h : P s) :
 P (State.idleBlocks s) := by
  unfold State.idleBlocks
  repeat' with_reducible first
    | assumption | intro _ | exact hP.mono (by decide +kernel) | apply State.idleBlock_closed | apply ite_sat
    | apply foldl_sat | apply foldUp_sat | decide +kernel | split

theorem State.sendInfo_closed {P : State → Prop} {s : State} (hP : Closed 0x8000000040000000000000000000000000000000000000000000000000000000000000000 P) (h : P s) (p : Nat) (bytes : List Byte) :
 P (State.sendInfo s p bytes) := by
  unfold State.sendInfo
  repeat' with_reducible first
    | assumption | intro _ | exact hP.mono (by decide +kernel) | apply State.sendBlock_closed | apply ite_sat
    | apply foldl_sat | apply foldUp_sat | decide +kernel | split

end Sys2Proof.Laws
end

