-- ==== Sys2Proof/Laws/ClosedTrack.lean ====
section
/-! SUPPORT. The operations of Track.lean keep every property that the writes of their footprint keep. -/

namespace Sys2Proof.Laws

set_option Elab.async false
set_option linter.all false

open Sys2Proof.Machine

theorem State.offUpdate_closed {P : State → Prop} {s : State} (hP : Closed 0x40000000000000000000000000000000000000000000000000000000000000000000000 P) (h : P s) :
 P (State.offUpdate s) := by
  unfold State.offUpdate
  repeat' with_reducible first
    | assumption | intro _ | exact hP.mono (by decide +kernel) | apply ite_sat | apply foldl_sat | apply foldUp_sat
    | decide +kernel | split | apply hP.offAt

theorem State.trackNote_closed {P : State → Prop} {s : State} (hP : Closed 0x8040000040000000000000000000000000000000000000400800000000000000000000000 P) (h : P s) :
 P (State.trackNote s) := by
  unfold State.trackNote
  repeat' with_reducible first
    | assumption | exact hP.mono (by decide +kernel) | apply State.wr_closed | apply State.idleBlocks_closed
    | apply State.offUpdate_closed | decide +kernel | split

theorem State.chargeCell_closed {P : State → Prop} {s : State} (hP : Closed 0x20000000000000000000000000000000000000000000001000000000000000000000000 P) (h : P s) (i : Nat) (c : Nat) :
 P (State.chargeCell s i c) := by
  unfold State.chargeCell
  repeat' with_reducible first
    | assumption | exact hP.mono (by decide +kernel) | apply State.wr_closed | decide +kernel | split
    | apply hP.charges

theorem State.chargeLocal_closed {P : State → Prop} {s : State} (hP : Closed 0x20000000000000000000000000000000000000000000001000000000000000000000000 P) (h : P s) (i : Nat) (c : Nat) (x3 : Nat) :
 SatO P (State.chargeLocal s i c x3) := by
  induction x3 generalizing s with
  | zero =>
    unfold State.chargeLocal
    repeat' first
      | with_reducible assumption
      | with_reducible apply ih
      | intro _
      | exact hP.mono (by decide +kernel)
      | with_reducible apply State.chargeCell_closed
      | with_reducible apply SatO.some
      | with_reducible apply SatO.none
      | with_reducible apply ite_sat
      | with_reducible apply foldl_sat
      | with_reducible apply foldUp_sat
      | decide +kernel
      | with_reducible refine SatO.of_eq ?_ (by with_reducible assumption)
      | dsimp only
      | split
  | succ n ih =>
    unfold State.chargeLocal
    repeat' first
      | with_reducible assumption
      | with_reducible apply ih
      | intro _
      | exact hP.mono (by decide +kernel)
      | with_reducible apply State.chargeCell_closed
      | with_reducible apply SatO.some
      | with_reducible apply SatO.none
      | with_reducible apply ite_sat
      | with_reducible apply foldl_sat
      | with_reducible apply foldUp_sat
      | decide +kernel
      | with_reducible refine SatO.of_eq ?_ (by with_reducible assumption)
      | dsimp only
      | split

theorem State.releaseCell_closed {P : State → Prop} {s : State} (hP : Closed 0x20000000000000000000000000000000000000000000001000000000000000000000000 P) (h : P s) (i : Nat) (c : Nat) :
 P (State.releaseCell s i c) := by
  unfold State.releaseCell
  repeat' with_reducible first
    | assumption | exact hP.mono (by decide +kernel) | apply State.wr_closed | decide +kernel | split
    | apply hP.charges

theorem State.releaseCells_closed {P : State → Prop} {s : State} (hP : Closed 0x20000000000000000000000000000000000000000000001000000000000000000000000 P) (h : P s) (i : Nat) (c : Nat) (n : Nat) :
 P (State.releaseCells s i c n) := by
  unfold State.releaseCells
  repeat' with_reducible first
    | assumption | intro _ | exact hP.mono (by decide +kernel) | apply State.releaseCell_closed | apply ite_sat
    | apply foldl_sat | apply foldUp_sat | decide +kernel | split

theorem State.countDrop_closed {P : State → Prop} {s : State} (hP : Closed 0x20000000000000000000000000000000000001000000000000000000000000000 P) (h : P s) (k : Nat) :
 P (State.countDrop s k) := by
  unfold State.countDrop
  repeat' with_reducible first
    | assumption | exact hP.mono (by decide +kernel) | apply State.inc_closed | decide +kernel | split

theorem State.setFrame_closed {P : State → Prop} {s : State} (hP : Closed 0x1000000000000000000000000000000000000000000000000000000000000000000000 P) (h : P s) (x : TrackFrame) :
 P (State.setFrame s x) := by
  unfold State.setFrame
  repeat' with_reducible first
    | assumption | exact hP.mono (by decide +kernel) | decide +kernel | split | apply hP.frames

theorem State.setCopy_closed {P : State → Prop} {s : State} (hP : Closed 0x2000000000000000000000000000000000000000000000000000000000000000000000 P) (h : P s) (k : TrackCopy) :
 P (State.setCopy s k) := by
  unfold State.setCopy
  repeat' with_reducible first
    | assumption | exact hP.mono (by decide +kernel) | decide +kernel | split | apply hP.copies

theorem State.dropCopy_closed {P : State → Prop} {s : State} (hP : Closed 0x2000000000000000000000000000000000000000000000000000000000000000000000 P) (h : P s) (k : TrackCopy) :
 P (State.dropCopy s k) := by
  unfold State.dropCopy
  repeat' with_reducible first
    | assumption | exact hP.mono (by decide +kernel) | decide +kernel | split | apply hP.copies

theorem State.reapFrame_closed {P : State → Prop} {s : State} (hP : Closed 0x21000000000000000000000000000000000000000000001000000000000000000000000 P) (h : P s) (id : Nat) :
 P (State.reapFrame s id) := by
  unfold State.reapFrame
  repeat' with_reducible first
    | assumption | exact hP.mono (by decide +kernel) | apply State.setFrame_closed | apply State.releaseCells_closed
    | decide +kernel | split | apply hP.frames

theorem State.markCopy_closed {P : State → Prop} {s : State} (hP : Closed 0x20000000000000000000000000000000000010000000000000000000000000000 P) (h : P s) (k : TrackCopy) (c : Nat) :
 Sat2 P (State.markCopy s k c) := by
  unfold State.markCopy
  repeat' with_reducible first
    | assumption | exact hP.mono (by decide +kernel) | apply State.inc_closed | apply Sat2.snd | decide +kernel
    | split | apply Sat2.pair

theorem State.addCopy_closed {P : State → Prop} {s : State} (hP : Closed 0x2000020000000000000000000000000000000000010000000000000000000000000000 P) (h : P s) (x : TrackFrame) (mcast : Bool) (e : Nat) :
 P (State.addCopy s x mcast e) := by
  unfold State.addCopy
  repeat' with_reducible first
    | assumption | exact hP.mono (by decide +kernel) | apply State.markCopy_closed | apply Sat2.snd | decide +kernel
    | split | apply Sat2.pair | apply hP.copies

theorem State.newFrame_closed {P : State → Prop} {s : State} (hP : Closed 0x5000000000000000000000000000000000000000000000000000000000000000000000 P) (h : P s) (i : Nat) (cls : Nat) (hdr : Nat) (payload : List Byte) (banks : List Nat) (whole : Bool) :
 P (State.newFrame s i cls hdr payload banks whole) := by
  unfold State.newFrame
  repeat' with_reducible first
    | assumption | exact hP.mono (by decide +kernel) | decide +kernel | split | apply hP.frames | apply hP.nextFrame
    | apply Closed.frames_nextFrame hP

end Sys2Proof.Laws
end

