-- ==== Sys2Proof/Laws/ClosedTmg.lean ====
section
/-! SUPPORT. The operations of Tmg.lean keep every property that the writes of their footprint keep. -/

namespace Sys2Proof.Laws

set_option Elab.async false
set_option linter.all false

open Sys2Proof.Machine

theorem State.setRing_closed {P : State → Prop} {s : State} (hP : Closed 0x1000000000000000000000000000000000000000000000000000000000000000000000000 P) (h : P s) (n : Nat) (q : Nat) (l : List Nat) :
 P (State.setRing s n q l) := by
  unfold State.setRing
  repeat' with_reducible first
    | assumption | exact hP.mono (by decide +kernel) | decide +kernel | split | apply hP.rings

theorem State.setCredit_closed {P : State → Prop} {s : State} (hP : Closed 0x2000000000000000000000000000000000000000000000000000000000000000000000000 P) (h : P s) (n : Nat) (x : Int) :
 P (State.setCredit s n x) := by
  unfold State.setCredit
  repeat' with_reducible first
    | assumption | exact hP.mono (by decide +kernel) | decide +kernel | split | apply hP.credits

theorem State.wakeChild_closed {P : State → Prop} {s : State} (hP : Closed 0x3000000000000000000000000000000000000000000000000000000000000000000000000 P) (h : P s) (n : Nat) :
 P (State.wakeChild s n) := by
  unfold State.wakeChild
  repeat' with_reducible first
    | assumption | exact hP.mono (by decide +kernel) | apply State.setCredit_closed | apply State.setRing_closed
    | decide +kernel | split

theorem State.unring_closed {P : State → Prop} {s : State} (hP : Closed 0x1000000000000000000000000000000000000000000000000000000000000000000000000 P) (h : P s) (p : Nat) (n : Nat) :
 P (State.unring s p n) := by
  unfold State.unring
  repeat' with_reducible first
    | assumption | intro _ | exact hP.mono (by decide +kernel) | apply State.setRing_closed | apply ite_sat
    | apply foldl_sat | apply foldUp_sat | decide +kernel | split

theorem State.leaveRing_closed {P : State → Prop} {s : State} (hP : Closed 0x80000000000001000000000000000000000000000000000000000000000000000000000000000000000000 P) (h : P s) (n : Nat) :
 P (State.leaveRing s n) := by
  unfold State.leaveRing
  repeat' with_reducible first
    | assumption | exact hP.mono (by decide +kernel) | apply State.unring_closed | decide +kernel | split
    | apply hP.moves

theorem State.flowFills_closed {P : State → Prop} {s : State} (hP : Closed 0x3000000000000000000000000000000000000000000000000000000000000000000000000 P) (h : P s) (f : Nat) :
 P (State.flowFills s f) := by
  unfold State.flowFills
  repeat' with_reducible first
    | assumption | intro _ | exact hP.mono (by decide +kernel) | apply State.wakeChild_closed | apply ite_sat
    | apply foldl_sat | apply foldUp_sat | decide +kernel | split

theorem State.freeFlow_closed {P : State → Prop} {s : State} (hP : Closed 0x200000000000000000000000000000 P) (h : P s) (f : Nat) :
 P (State.freeFlow s f) := by
  unfold State.freeFlow
  repeat' with_reducible first
    | assumption | exact hP.mono (by decide +kernel) | apply State.wr_closed | decide +kernel | split

theorem State.flowEmpties_closed {P : State → Prop} {s : State} (hP : Closed 0x80000000000001000000000000000000000000000000000000000000200000000000000000000000000000 P) (h : P s) (f : Nat) :
 P (State.flowEmpties s f) := by
  unfold State.flowEmpties
  repeat' with_reducible first
    | assumption | intro _ | exact hP.mono (by decide +kernel) | apply State.leaveRing_closed
    | apply State.freeFlow_closed | apply ite_sat | apply foldl_sat | apply foldUp_sat | decide +kernel | split

theorem State.flowLess_closed {P : State → Prop} {s : State} (hP : Closed 0x80000000000001000000000000000000000000000000000000000000200000000000000000000000000000 P) (h : P s) (f : Nat) :
 P (State.flowLess s f) := by
  unfold State.flowLess
  repeat' with_reducible first
    | assumption | intro _ | exact hP.mono (by decide +kernel) | apply State.flowEmpties_closed
    | apply State.wrFld_closed | apply ite_sat | apply foldl_sat | apply foldUp_sat | decide +kernel | split

theorem State.unqueueCopy_closed {P : State → Prop} {s : State} (hP : Closed 0x80000000000001023000000000000000000000000000000000000000200001000000000000000000000000 P) (h : P s) (k : TrackCopy) :
 P (State.unqueueCopy s k) := by
  unfold State.unqueueCopy
  repeat' with_reducible first
    | assumption | exact hP.mono (by decide +kernel) | apply State.reapFrame_closed | apply State.flowLess_closed
    | apply State.dropCopy_closed | decide +kernel | split

theorem State.moveDue_closed {P : State → Prop} {s : State} (hP : Closed 0x80000000000000000000000000000000000000000000000000000000000000000000000000000000000000 P) (h : P s) (parent : Nat) (n : Nat) (holds : Bool) :
 P (State.moveDue s parent n holds) := by
  unfold State.moveDue
  repeat' with_reducible first
    | assumption | exact hP.mono (by decide +kernel) | decide +kernel | split | apply hP.moves

theorem State.moveChild_closed {P : State → Prop} {s : State} (hP : Closed 0x80000000000003000000000000000000000000000000000000000000000000000000000000000000000000 P) (h : P s) (n : Nat) :
 P (State.moveChild s n) := by
  unfold State.moveChild
  repeat' with_reducible first
    | assumption | intro _ | exact hP.mono (by decide +kernel) | apply State.wakeChild_closed
    | apply State.leaveRing_closed | apply ite_sat | apply foldl_sat | apply foldUp_sat | decide +kernel | split

theorem State.settleMoves_closed {P : State → Prop} {s : State} (hP : Closed 0x80000000000003000000000000000000000000000000000000000000000000000000000000000000000000 P) (h : P s) (port : Nat) :
 P (State.settleMoves s port) := by
  unfold State.settleMoves
  repeat' with_reducible first
    | assumption | intro _ | exact hP.mono (by decide +kernel) | apply State.moveChild_closed | apply ite_sat
    | apply foldl_sat | apply foldUp_sat | decide +kernel | split

theorem State.testShaper_closed {P : State → Prop} {s : State} (hP : Closed 0x4000000000000000000000000000000000000000000000000000000000000000000000000 P) (h : P s) (n : Nat) (plen : Nat) :
 Sat2 P (State.testShaper s n plen) := by
  unfold State.testShaper
  repeat' with_reducible first
    | assumption | exact hP.mono (by decide +kernel) | apply Sat2.snd | decide +kernel | split | apply Sat2.pair
    | apply hP.buckets

theorem State.debitShaper_closed {P : State → Prop} {s : State} (hP : Closed 0x4000000000000000000000000000000000000000000000000000000000000000000000000 P) (h : P s) (n : Nat) (plen : Nat) (c : Colour) :
 P (State.debitShaper s n plen c) := by
  unfold State.debitShaper
  repeat' with_reducible first
    | assumption | exact hP.mono (by decide +kernel) | decide +kernel | split | apply hP.buckets

theorem drrLoop_closed {P : State → Prop} {x3 : State} (hP : Closed 0x2000000000000000000000000000000000000000000000000000000000000000000000000 P) (h : P x3) (ok : Nat → Bool) (x1 : Nat) (x2 : List Nat) :
 SatO2 P (drrLoop ok x1 x2 x3) := by
  induction x1 generalizing x2 x3 with
  | zero => exact SatO2.none
  | succ n ih =>
    cases x2 with
    | nil => exact SatO2.none
    | cons c rest =>
      rw [drrLoop]
      split
      · split
        · exact SatO2.some h
        · exact ih (State.setCredit_closed hP h _ _) _
      · exact ih h _

theorem State.chooseChild_closed {P : State → Prop} {s : State} (hP : Closed 0x3000000000000000000000000000000000000000000000000000000000000000000000000 P) (h : P s) (n : Nat) (cands : List (Nat × Candidate)) :
 SatO3 P (State.chooseChild s n cands) := by
  unfold State.chooseChild
  dsimp only
  split
  · exact SatO3.none
  · split
    · next e =>
      refine map_sat3 fun a => State.setRing_closed (hP.mono (by decide +kernel)) ?_ _ _ _
      exact (drrLoop_closed (hP.mono (by decide +kernel)) h _ _ _).of_eq e
    · exact SatO3.none

theorem State.nodeCandidate_closed {P : State → Prop} {s : State} (hP : Closed 0x7000000000000000000000000000000000000000000000000000000000000000000000000 P) (h : P s) (n : Nat) (cands : List (Nat × Candidate)) :
 Sat2 P (State.nodeCandidate s n cands) := by
  unfold State.nodeCandidate
  repeat' with_reducible first
    | assumption | intro _ | exact hP.mono (by decide +kernel) | apply State.testShaper_closed
    | apply State.chooseChild_closed | apply Sat2.snd | apply SatO3.some | apply SatO3.none | apply ite_sat
    | apply foldl_sat | apply foldUp_sat | decide +kernel | refine Sat2.of_eq ?_ (by assumption)
    | refine SatO3.of_eq ?_ (by assumption) | split | apply Sat2.pair

theorem State.groupCandidate_closed {P : State → Prop} {s : State} (hP : Closed 0x7000000000000000000000000000000000000000000000000000000000000000000000000 P) (h : P s) (p : Nat) (n : Nat) :
 Sat2 P (State.groupCandidate s p n) := by
  unfold State.groupCandidate
  repeat' with_reducible first
    | assumption | exact hP.mono (by decide +kernel) | apply State.nodeCandidate_closed | apply Sat2.snd
    | decide +kernel | split | apply Sat2.pair

theorem gather_closed {P : State → Prop} {x2 : State} {cand : State → Nat → Option Candidate × State} (hP : Closed 0x0 P) (hcand : ∀ s n, P s → Sat2 P (cand s n)) (h : P x2) (x1 : List Nat) :
 Sat2 P (gather cand x1 x2) := by
  induction x1 generalizing x2 with
  | nil => exact Sat2.pair h
  | cons c cs ih =>
    have hr := ih (hcand x2 c h).snd
    rw [gather]
    split
    · split
      · exact hr
      · exact Sat2.pair hr.snd
    · exact hr

theorem State.classCandidate_closed {P : State → Prop} {s : State} (hP : Closed 0x7000000000000000000000000000000000000000000000000000000000000000000000000 P) (h : P s) (p : Nat) (n : Nat) :
 Sat2 P (State.classCandidate s p n) := by
  unfold State.classCandidate
  repeat' with_reducible first
    | assumption | intro _ | exact hP.mono (by decide +kernel) | apply gather_closed
    | apply State.nodeCandidate_closed | apply State.groupCandidate_closed | apply Sat2.snd | apply ite_sat
    | apply foldl_sat | apply foldUp_sat | decide +kernel | refine Sat2.of_eq ?_ (by assumption) | split
    | apply Sat2.pair

theorem State.portCandidate_closed {P : State → Prop} {s : State} (hP : Closed 0x7000000000000000000000000000000000000000000000000000000000000000000000000 P) (h : P s) (p : Nat) :
 Sat2 P (State.portCandidate s p) := by
  unfold State.portCandidate
  repeat' with_reducible first
    | assumption | intro _ | exact hP.mono (by decide +kernel) | apply State.classCandidate_closed
    | apply gather_closed | apply State.nodeCandidate_closed | apply Sat2.snd | apply ite_sat | apply foldl_sat
    | apply foldUp_sat | decide +kernel | refine Sat2.of_eq ?_ (by assumption) | split | apply Sat2.pair

theorem execTmgPick_closed {P : State → Prop} {s : State} (hP : Closed 0x8000000000000f04a000060000000000000000000000000000000004200400800000000000000000000000 P) (h : P s) (port : Nat) :
 SatR P (execTmgPick port s) := by
  unfold execTmgPick
  repeat' with_reducible first
    | assumption | intro _ | exact hP.mono (by decide +kernel) | apply State.trackNote_closed
    | apply State.portCandidate_closed | apply State.settleMoves_closed | apply State.setCredit_closed
    | apply State.flowLess_closed | apply State.inc_closed | apply State.debitShaper_closed
    | apply State.setCopy_closed | apply Sat2.snd | apply SatR.next | apply SatR.fault | apply SatR.refused
    | apply ite_sat | apply foldl_sat | apply foldUp_sat | decide +kernel | refine Sat2.of_eq ?_ (by assumption)
    | refine SatR.of_eq ?_ (by assumption) | split | apply Sat2.pair | apply hP.nextPick

theorem State.police_closed {P : State → Prop} {s : State} (hP : Closed 0x4000000020000000000000000000000000000000002000000000000000000000000000000 P) (h : P s) (x : Nat) (plen : Nat) :
 Sat2 P (State.police s x plen) := by
  unfold State.police
  repeat' with_reducible first
    | assumption | exact hP.mono (by decide +kernel) | apply State.inc_closed | apply Sat2.snd | decide +kernel
    | split | apply Sat2.pair | apply hP.buckets

theorem execFlowEnqueue_closed {P : State → Prop} {s : State} (hP : Closed 0xf063000060000000000000000000000000000000006210401800000000000000000000000 P) (h : P s) (port : Nat) :
 SatR P (execFlowEnqueue port s) := by
  unfold execFlowEnqueue
  repeat' with_reducible first
    | assumption | intro _ | exact hP.mono (by decide +kernel) | apply State.flowFills_closed
    | apply State.trackNote_closed | apply State.reapFrame_closed | apply State.wrFld_closed
    | apply State.inc_closed | apply State.police_closed | apply State.setCopy_closed | apply State.dropCopy_closed
    | apply State.markCopy_closed | apply Sat2.snd | apply SatR.next | apply SatR.fault | apply SatR.refused
    | apply ite_sat | apply foldl_sat | apply foldUp_sat | decide +kernel | refine Sat2.of_eq ?_ (by assumption)
    | refine SatR.of_eq ?_ (by assumption) | split | apply Sat2.pair

theorem execFlowCreate_closed {P : State → Prop} {s : State} (hP : Closed 0x2000000020000000000000000000000000000000004600000000000000000000000000000 P) (h : P s) (value : Nat) :
 SatR P (execFlowCreate value s) := by
  unfold execFlowCreate
  repeat' with_reducible first
    | assumption | intro _ | exact hP.mono (by decide +kernel) | apply State.wr_closed
    | apply State.setCredit_closed | apply State.wrFld_closed | apply State.inc_closed | apply SatR.next
    | apply SatR.fault | apply SatR.refused | apply ite_sat | apply foldl_sat | apply foldUp_sat | decide +kernel
    | refine SatR.of_eq ?_ (by assumption) | split

theorem execFlowDelete_closed {P : State → Prop} {s : State} (hP : Closed 0x600000000000000000000000000000 P) (h : P s) (flow : Nat) :
 SatR P (execFlowDelete flow s) := by
  unfold execFlowDelete
  repeat' with_reducible first
    | assumption | exact hP.mono (by decide +kernel) | apply State.wrFld_closed | apply State.freeFlow_closed
    | apply SatR.next | apply SatR.fault | apply SatR.refused | decide +kernel | split

end Sys2Proof.Laws
end

