-- ==== Sys2Proof/Laws/ClosedEgress.lean ====
section
/-! SUPPORT. The operations of Egress.lean keep every property that the writes of their footprint keep. -/

namespace Sys2Proof.Laws

set_option Elab.async false
set_option linter.all false

open Sys2Proof.Machine

theorem State.cellLeaves_closed {P : State → Prop} {s : State} (hP : Closed 0x23000000000000000000000000000000000000000000001000000000000000000000000 P) (h : P s) (k : TrackCopy) (x : TrackFrame) :
 P (State.cellLeaves s k x) := by
  unfold State.cellLeaves
  repeat' with_reducible first
    | assumption | exact hP.mono (by decide +kernel) | apply State.setFrame_closed | apply State.setCopy_closed
    | apply State.releaseCell_closed | decide +kernel | split

theorem State.copyLeft_closed {P : State → Prop} {s : State} (hP : Closed 0x23000000000000000000000000000000000000000000001000000000000000000000000 P) (h : P s) (k : TrackCopy) :
 P (State.copyLeft s k) := by
  unfold State.copyLeft
  repeat' with_reducible first
    | assumption | exact hP.mono (by decide +kernel) | apply State.reapFrame_closed | apply State.dropCopy_closed
    | decide +kernel | split

theorem State.sendNext_closed {P : State → Prop} {s : State} (hP : Closed 0x8023000060000000000000000000000000000000000020001000000000000000000000000 P) (h : P s) (k : TrackCopy) :
 SatO P (State.sendNext s k) := by
  unfold State.sendNext
  repeat' with_reducible first
    | assumption | exact hP.mono (by decide +kernel) | apply State.newCell_closed | apply State.cellLeaves_closed
    | apply State.inc_closed | apply State.copyLeft_closed | apply State.send_closed | apply SatO.some
    | apply SatO.none | decide +kernel | split

theorem egressGo_closed {P : State → Prop} {x2 : State} (hP : Closed 0x8023000060000000000000000000000000000000000020001000000000000000000000000 P) (h : P x2) (e : Nat) (x1 : Nat) :
 P (egressGo e x1 x2) := by
  induction x1 generalizing x2 with
  | zero => exact h
  | succ n ih =>
    rw [egressGo]
    split
    · next e' =>
      refine ih ((findSome_sat fun k => ?_).of_eq e')
      split
      · exact State.sendNext_closed (hP.mono (by decide +kernel)) h k
      · exact SatO.none
    · exact h

theorem State.egressPump_closed {P : State → Prop} {s : State} (hP : Closed 0x8023000060000000000000000000000000000000000020001000000000000000000000000 P) (h : P s) (e : Nat) :
 P (State.egressPump s e) := by
  unfold State.egressPump
  repeat' with_reducible first
    | assumption | exact hP.mono (by decide +kernel) | apply egressGo_closed | decide +kernel | split

theorem State.mirrorPut_closed {P : State → Prop} {s : State} (hP : Closed 0x800000020000000000000000000000000000000000004000000000000000000000000000 P) (h : P s) (h : MirrorHeld) (payload : List Byte) :
 P (State.mirrorPut s h payload) := by
  unfold State.mirrorPut
  repeat' with_reducible first
    | assumption | exact hP.mono (by decide +kernel) | apply State.inc_closed | decide +kernel | split
    | apply hP.mirrorQueue

theorem State.mirrorWhole_closed {P : State → Prop} {s : State} (hP : Closed 0x40000000000000800000020000000000000000000000000000000000004000000000000000000000000000 P) (h : P s) (x : TrackFrame) :
 P (State.mirrorWhole s x) := by
  unfold State.mirrorWhole
  repeat' with_reducible first
    | assumption | intro _ | exact hP.mono (by decide +kernel) | apply State.mirrorPut_closed | apply ite_sat
    | apply foldl_sat | apply foldUp_sat | decide +kernel | split | apply hP.mirrorHeld

theorem State.mirrorOne_closed {P : State → Prop} {s : State} (hP : Closed 0x40000000000000e00000020000000000000000000000000000000000004000000000000000000000000000 P) (h : P s) (m : Nat) (k : TrackCopy) (x : TrackFrame) :
 P (State.mirrorOne s m k x) := by
  unfold State.mirrorOne
  repeat' with_reducible first
    | assumption | exact hP.mono (by decide +kernel) | apply State.mirrorPut_closed | decide +kernel | split
    | apply hP.mirrorHeld | apply hP.mirrorSeen | apply hP.mirrorSeq | apply Closed.mirrorSeen_mirrorSeq hP

theorem State.mirror_closed {P : State → Prop} {s : State} (hP : Closed 0x40000000000000e00000020000000000000000000000000000000000004000000000000000000000000000 P) (h : P s) (k : TrackCopy) (x : TrackFrame) :
 P (State.mirror s k x) := by
  unfold State.mirror
  repeat' with_reducible first
    | assumption | intro _ | exact hP.mono (by decide +kernel) | apply State.mirrorOne_closed | apply ite_sat
    | apply foldl_sat | apply foldUp_sat | decide +kernel | split

theorem execFrameDeparture_closed {P : State → Prop} {s : State} (hP : Closed 0x40000000000008e63000060000000000000000000000000000000000024401800000000000000000000000 P) (h : P s) (egress : Nat) :
 SatR P (execFrameDeparture egress s) := by
  unfold execFrameDeparture
  repeat' with_reducible first
    | assumption | exact hP.mono (by decide +kernel) | apply State.trackNote_closed | apply State.egressPump_closed
    | apply State.setCopy_closed | apply State.mirror_closed | apply SatR.next | apply SatR.fault
    | apply SatR.refused | decide +kernel | split

theorem State.abandon_closed {P : State → Prop} {s : State} (hP : Closed 0xc0000000000009023000060000000000000000000000000000000000220001000000000000000000000000 P) (h : P s) (id : Nat) (late : Bool) :
 P (State.abandon s id late) := by
  unfold State.abandon
  repeat' with_reducible first
    | assumption | intro _ | exact hP.mono (by decide +kernel) | apply State.setFrame_closed
    | apply State.unqueueCopy_closed | apply State.reapFrame_closed | apply State.egressPump_closed
    | apply State.releaseCells_closed | apply ite_sat | apply foldl_sat | apply foldUp_sat | decide +kernel | split
    | apply hP.mirrorHeld

theorem State.spoilt_closed {P : State → Prop} {s : State} (hP : Closed 0xc0000000000009023000060000000000000000000000000000000000221001000000000000000000000000 P) (h : P s) (x : TrackFrame) (field : Nat) (late : Bool) :
 P (State.spoilt s x field late) := by
  unfold State.spoilt
  repeat' with_reducible first
    | assumption | exact hP.mono (by decide +kernel) | apply State.setFrame_closed | apply State.reapFrame_closed
    | apply State.abandon_closed | apply State.countDrop_closed | decide +kernel | split

theorem State.cellMore_closed {P : State → Prop} {s : State} (hP : Closed 0xc0000000000009823000060000000000000000000000000000000000225001000000000000000000000000 P) (h : P s) (p : Nat) (cls : Nat) (bank : Nat) (x : TrackFrame) (h : Nat) (data : List Byte) :
 P (State.cellMore s p cls bank x h data) := by
  unfold State.cellMore
  repeat' with_reducible first
    | assumption | intro _ | exact hP.mono (by decide +kernel) | apply State.setFrame_closed
    | apply State.chargeCell_closed | apply State.spoilt_closed | apply State.mirrorWhole_closed | apply ite_sat
    | apply foldl_sat | apply foldUp_sat | decide +kernel | split

theorem State.cellFirst_closed {P : State → Prop} {s : State} (hP : Closed 0x25000020000000000000000000000000000000000001001000000000000000000000000 P) (h : P s) (p : Nat) (cls : Nat) (bank : Nat) (h : Nat) (data : List Byte) :
 P (State.cellFirst s p cls bank h data) := by
  unfold State.cellFirst
  repeat' with_reducible first
    | assumption | exact hP.mono (by decide +kernel) | apply State.newFrame_closed | apply State.chargeCell_closed
    | apply State.countDrop_closed | decide +kernel | split | apply hP.frames | apply hP.nextFrame
    | apply Closed.frames_nextFrame hP

theorem State.abortIn_closed {P : State → Prop} {s : State} (hP : Closed 0xc0000000000009023000060000000000000000000000000000000000221001000000000000000000000000 P) (h : P s) (p : Nat) (cls : Nat) (h : Nat) :
 P (State.abortIn s p cls h) := by
  unfold State.abortIn
  repeat' with_reducible first
    | assumption | intro _ | exact hP.mono (by decide +kernel) | apply State.abandon_closed
    | apply State.countDrop_closed | apply State.spoilt_closed | apply ite_sat | apply foldl_sat | apply foldUp_sat
    | decide +kernel | split

theorem State.cellIn_closed {P : State → Prop} {s : State} (hP : Closed 0xc0000000000009867000060000000000000000000000000000000000225401800000000000000000000000 P) (h : P s) (p : Nat) (cls : Nat) (body : List Byte) :
 Sat1 P (State.cellIn s p cls body) := by
  unfold State.cellIn
  repeat' with_reducible first
    | assumption | exact hP.mono (by decide +kernel) | apply State.trackNote_closed | apply State.cellMore_closed
    | apply State.cellFirst_closed | apply State.countDrop_closed | apply State.abortIn_closed
    | apply State.spoilt_closed | apply Sat1.fst | decide +kernel | split | apply Sat1.pair

theorem State.dropFrame_closed {P : State → Prop} {s : State} (hP : Closed 0x21000020000000000000000000000000000000000001001000000000000000000000000 P) (h : P s) (x : TrackFrame) (field : Nat) :
 P (State.dropFrame s x field) := by
  unfold State.dropFrame
  repeat' with_reducible first
    | assumption | exact hP.mono (by decide +kernel) | apply State.setFrame_closed | apply State.reapFrame_closed
    | apply State.countDrop_closed | decide +kernel | split

theorem State.trackAnswers_closed {P : State → Prop} {s : State} (hP : Closed 0x21000040000000000000000000000000000000000000001000000000000000000000000 P) (h : P s) (x : TrackFrame) :
 P (State.trackAnswers s x) := by
  unfold State.trackAnswers
  repeat' with_reducible first
    | assumption | exact hP.mono (by decide +kernel) | apply State.setFrame_closed | apply State.reapFrame_closed
    | apply State.send_closed | decide +kernel | split

theorem State.lookupLink_closed {P : State → Prop} {s : State} (hP : Closed 0x100000000000000023000020000000000000000000000000000000000011001000000000000000000000000 P) (h : P s) (x : TrackFrame) (port : Nat) :
 P (State.lookupLink s x port) := by
  unfold State.lookupLink
  repeat' with_reducible first
    | assumption | exact hP.mono (by decide +kernel) | apply State.dropFrame_closed | apply State.setFrame_closed
    | apply State.addCopy_closed | decide +kernel | split | apply hP.linkLocals

theorem State.lookupOut_closed {P : State → Prop} {s : State} (hP : Closed 0x23000060000000000000000000000000000000000011001000000000000000000000000 P) (h : P s) (x : TrackFrame) :
 P (State.lookupOut s x) := by
  unfold State.lookupOut
  repeat' with_reducible first
    | assumption | intro _ | exact hP.mono (by decide +kernel) | apply State.dropFrame_closed
    | apply State.setFrame_closed | apply State.trackAnswers_closed | apply State.addCopy_closed | apply ite_sat
    | apply foldl_sat | apply foldUp_sat | decide +kernel | split

theorem State.lookup_closed {P : State → Prop} {s : State} (hP : Closed 0x100000000000000023000060000000000000000000000000000000000011001000000000000000000000000 P) (h : P s) (x : TrackFrame) :
 P (State.lookup s x) := by
  unfold State.lookup
  repeat' with_reducible first
    | assumption | intro _ | exact hP.mono (by decide +kernel) | apply State.lookupOut_closed
    | apply State.lookupLink_closed | apply ite_sat | apply foldl_sat | apply foldUp_sat | decide +kernel | split

theorem State.lookupMc_closed {P : State → Prop} {s : State} (hP : Closed 0x23000020000000000000000000000000000000000011801000000000000000000000000 P) (h : P s) (x : TrackFrame) :
 P (State.lookupMc s x) := by
  unfold State.lookupMc
  repeat' with_reducible first
    | assumption | intro _ | exact hP.mono (by decide +kernel) | apply State.dropFrame_closed
    | apply State.setFrame_closed | apply State.reapFrame_closed | apply State.addCopy_closed
    | apply State.inc_closed | apply ite_sat | apply foldl_sat | apply foldUp_sat | decide +kernel | split

theorem State.arriving_closed {P : State → Prop} {s : State} (hP : Closed 0x25000020000000000000000000000000000000000001001000000000000000000000000 P) (h : P s) (pos : Nat) (f : Frame) (mc : Bool) :
 Sat2 P (State.arriving s pos f mc) := by
  unfold State.arriving
  repeat' with_reducible first
    | assumption | intro _ | exact hP.mono (by decide +kernel) | apply State.newFrame_closed
    | apply State.chargeLocal_closed | apply State.countDrop_closed | apply Sat2.snd | apply SatO.some
    | apply SatO.none | apply ite_sat | apply foldl_sat | apply foldUp_sat | decide +kernel
    | refine Sat2.of_eq ?_ (by assumption) | refine SatO.of_eq ?_ (by assumption) | split | apply Sat2.pair

theorem execFrameLookup_closed {P : State → Prop} {s : State} (hP : Closed 0x100000000000008067000060000000000000000000000000000000000011401800000000000000000000000 P) (h : P s) (pos : Nat) (f : Frame) :
 SatR P (execFrameLookup pos f s) := by
  unfold execFrameLookup
  repeat' with_reducible first
    | assumption | intro _ | exact hP.mono (by decide +kernel) | apply State.trackNote_closed
    | apply State.arriving_closed | apply State.lookup_closed | apply Sat2.snd | apply SatR.next | apply SatR.fault
    | apply SatR.refused | apply ite_sat | apply foldl_sat | apply foldUp_sat | decide +kernel
    | refine Sat2.of_eq ?_ (by assumption) | refine SatR.of_eq ?_ (by assumption) | split | apply Sat2.pair

theorem execMcLookup_closed {P : State → Prop} {s : State} (hP : Closed 0x8067000060000000000000000000000000000000000011c01800000000000000000000000 P) (h : P s) (pos : Nat) (f : Frame) :
 SatR P (execMcLookup pos f s) := by
  unfold execMcLookup
  repeat' with_reducible first
    | assumption | intro _ | exact hP.mono (by decide +kernel) | apply State.trackNote_closed
    | apply State.arriving_closed | apply State.lookupMc_closed | apply Sat2.snd | apply SatR.next
    | apply SatR.fault | apply SatR.refused | apply ite_sat | apply foldl_sat | apply foldUp_sat | decide +kernel
    | refine Sat2.of_eq ?_ (by assumption) | refine SatR.of_eq ?_ (by assumption) | split | apply Sat2.pair

theorem State.movePointers_closed {P : State → Prop} {s : State} (hP : Closed 0x180000000000000000000000000000000000000000000000000000000000000000000000 P) (h : P s) (gs : List Grant) :
 P (State.movePointers s gs) := by
  unfold State.movePointers
  repeat' with_reducible first
    | assumption | intro _ | exact hP.mono (by decide +kernel) | apply ite_sat | apply foldl_sat | apply foldUp_sat
    | decide +kernel | split | apply hP.acceptPtr | apply hP.grantPtr | apply Closed.acceptPtr_grantPtr hP

theorem State.stage_closed {P : State → Prop} {s : State} (hP : Closed 0x2000000000000000000000000000000000000000000000000000000000000000000000 P) (h : P s) (w : Wanted) :
 P (State.stage s w) := by
  unfold State.stage
  repeat' with_reducible first
    | assumption | exact hP.mono (by decide +kernel) | decide +kernel | split | apply hP.copies

theorem execCellMatch_closed {P : State → Prop} {s : State} (hP : Closed 0x81f3000060000000000000000000000000000000000020401800000000000000000000000 P) (h : P s) :
 SatR P (execCellMatch s) := by
  unfold execCellMatch
  repeat' with_reducible first
    | assumption | intro _ | exact hP.mono (by decide +kernel) | apply State.trackNote_closed
    | apply State.movePointers_closed | apply State.stage_closed | apply State.egressPump_closed | apply SatR.next
    | apply SatR.fault | apply SatR.refused | apply ite_sat | apply foldl_sat | apply foldUp_sat | decide +kernel
    | refine SatR.of_eq ?_ (by assumption) | split | apply hP.cellTime

theorem execFwdAgeExpiry_closed {P : State → Prop} {s : State} (hP : Closed 0x80000000000009063000060000000000000000000000000000000000201401800000000000000000000000 P) (h : P s) (egress : Nat) :
 SatR P (execFwdAgeExpiry egress s) := by
  unfold execFwdAgeExpiry
  repeat' first
    | with_reducible assumption
    | intro _
    | exact hP.mono (by decide +kernel)
    | with_reducible apply State.trackNote_closed
    | with_reducible apply State.unqueueCopy_closed
    | with_reducible apply State.countDrop_closed
    | with_reducible apply SatR.next
    | with_reducible apply SatR.fault
    | with_reducible apply SatR.refused
    | with_reducible apply ite_sat
    | with_reducible apply foldl_sat
    | with_reducible apply foldUp_sat
    | decide +kernel
    | with_reducible refine SatR.of_eq ?_ (by with_reducible assumption)
    | split
    | dsimp only

theorem State.copyEntries_closed {P : State → Prop} {s : State} {src : ObjCode} {dst : ObjCode} {m : Nat} (hP : Closed m P) (hc : Foot.obj m dst = true) (h : P s) (there : Nat → Bool) :
 P (State.copyEntries s src dst there) := by
  unfold State.copyEntries
  repeat' with_reducible first
    | assumption | intro _ | exact hP.mono (by decide +kernel) | apply State.wr_closed | apply State.clearObj_closed
    | apply ite_sat | apply foldl_sat | apply foldUp_sat | decide +kernel | split

theorem State.copyObj_closed {P : State → Prop} {s : State} {src : ObjCode} {dst : ObjCode} {m : Nat} (hP : Closed m P) (hc : Foot.obj m dst = true) (h : P s) :
 P (State.copyObj s src dst) := by
  unfold State.copyObj
  repeat' with_reducible first
    | assumption | intro _ | exact hP.mono (by decide +kernel) | apply State.copyEntries_closed | apply ite_sat
    | apply foldl_sat | apply foldUp_sat | decide +kernel | split

theorem State.copyRoutes_closed {P : State → Prop} {s : State} (hP : Closed 0x4000000000000000000000000 P) (h : P s) :
 P (State.copyRoutes s) := by
  unfold State.copyRoutes
  repeat' with_reducible first
    | assumption | exact hP.mono (by decide +kernel) | apply State.copyEntries_closed | decide +kernel | split

theorem execRouteCommit_closed {P : State → Prop} {s : State} (hP : Closed 0x2f4000000000000000000000000 P) (h : P s) (value : Nat) :
 SatR P (execRouteCommit value s) := by
  unfold execRouteCommit
  repeat' with_reducible first
    | assumption | exact hP.mono (by decide +kernel) | apply State.copyObj_closed | apply State.wr_closed
    | apply State.copyRoutes_closed | apply SatR.next | apply SatR.fault | apply SatR.refused | decide +kernel
    | split

end Sys2Proof.Laws
end

