-- ==== Sys2Proof/Laws/ClosedPortDown.lean ====
section
/-! SUPPORT. The operations of PortDown.lean keep every property that the writes of their footprint keep. -/

namespace Sys2Proof.Laws

set_option Elab.async false
set_option linter.all false

open Sys2Proof.Machine

theorem State.report_closed {P : State → Prop} {s : State} (hP : Closed 0x40000000000000000000000000000000000000000000000000000000000000000000000000 P) (h : P s) (kind : Nat) (dev : Nat) (n : Nat) :
 P (State.report s kind dev n) := by
  unfold State.report
  repeat' with_reducible first
    | assumption | exact hP.mono (by decide +kernel) | decide +kernel | split | apply hP.reports

theorem State.dropPortCopies_closed {P : State → Prop} {s : State} (hP : Closed 0x80000000000001023000020000000000000000000000000000000000201801000000000000000000000000 P) (h : P s) (p : Nat) :
 P (State.dropPortCopies s p) := by
  unfold State.dropPortCopies
  repeat' with_reducible first
    | assumption | intro _ | exact hP.mono (by decide +kernel) | apply State.unqueueCopy_closed
    | apply State.inc_closed | apply State.countDrop_closed | apply ite_sat | apply foldl_sat | apply foldUp_sat
    | decide +kernel | split

theorem State.dropPortFrames_closed {P : State → Prop} {s : State} (hP : Closed 0xc0000000000009023000060000000000000000000000000000000000220001000000000000000000000000 P) (h : P s) (p : Nat) :
 P (State.dropPortFrames s p) := by
  unfold State.dropPortFrames
  repeat' with_reducible first
    | assumption | intro _ | exact hP.mono (by decide +kernel) | apply State.abandon_closed | apply ite_sat
    | apply foldl_sat | apply foldUp_sat | decide +kernel | split

theorem State.portEnds_closed {P : State → Prop} {s : State} (hP : Closed 0xc0000000000009063000060000001000000000000000000000000000221c81800a80000000000000000000 P) (h : P s) (p : Nat) (cause : Nat) :
 P (State.portEnds s p cause) := by
  unfold State.portEnds
  repeat' with_reducible first
    | assumption | exact hP.mono (by decide +kernel) | apply State.trackNote_closed
    | apply State.dropPortCopies_closed | apply State.setPort_closed | apply State.wr_closed
    | apply State.portError_closed | apply State.wrFld_closed | apply State.dropPortFrames_closed | decide +kernel
    | split | apply hP.offAt

theorem State.scratchPort_closed {P : State → Prop} {s : State} (hP : Closed 0xc0000000000009063000060000001000000000000000000000000000221c81800a90000000000000000000 P) (h : P s) (p : Nat) :
 P (State.scratchPort s p) := by
  unfold State.scratchPort
  repeat' with_reducible first
    | assumption | exact hP.mono (by decide +kernel) | apply State.sendBlock_closed | apply State.setPort_closed
    | apply State.setPortState_closed | apply State.portEnds_closed | decide +kernel | split

theorem State.scratchPorts_closed {P : State → Prop} {s : State} (hP : Closed 0xc0000000000019063000060000001000000000000000000000000000221c81800a90000000000000000000 P) (h : P s) :
 P (State.scratchPorts s) := by
  unfold State.scratchPorts
  repeat' with_reducible first
    | assumption | intro _ | exact hP.mono (by decide +kernel) | apply State.scratchPort_closed | apply ite_sat
    | apply foldl_sat | apply foldUp_sat | decide +kernel | split | apply hP.elsLost

end Sys2Proof.Laws
end

