-- ==== Sys2Proof/Laws/ClosedFlags.lean ====
section
/-! SUPPORT. The operations of Flags.lean keep every property that the writes of their footprint keep. -/

namespace Sys2Proof.Laws

set_option Elab.async false
set_option linter.all false

open Sys2Proof.Machine

theorem State.addFlag_closed {P : State → Prop} {s : State} (hP : Closed 0x1000000000000000000000000000000000000000000000000000000000000604000 P) (h : P s) (n : Nat) (f : Nat) (amount : Nat) (src : Option (Nat × Nat)) :
 P (State.addFlag s n f amount src) := by
  unfold State.addFlag
  repeat' with_reducible first
    | assumption | intro _ | exact hP.mono (by decide +kernel) | apply State.setFlag_closed
    | apply State.haltCore_closed | apply State.setCore_closed | apply ite_sat | apply foldl_sat | apply foldUp_sat
    | decide +kernel | split

theorem State.takeFlag_closed {P : State → Prop} {s : State} (hP : Closed 0x1000000000000000000000000000000000000000000000000000000000000400000 P) (h : P s) (n : Nat) (f : Nat) (amount : Nat) :
 P (State.takeFlag s n f amount) := by
  unfold State.takeFlag
  repeat' with_reducible first
    | assumption | exact hP.mono (by decide +kernel) | apply State.setFlag_closed | apply State.setCore_closed
    | decide +kernel | split

theorem State.flagSet_closed {P : State → Prop} {s : State} (hP : Closed 0x1000000000000000000000000000000000000000000000000000000000000604000 P) (h : P s) (n : Nat) (f : Nat) (v : Nat) (pos : Nat) (ord : Nat) :
 P (State.flagSet s n f v pos ord) := by
  unfold State.flagSet
  repeat' with_reducible first
    | assumption | intro _ | exact hP.mono (by decide +kernel) | apply State.setFlag_closed
    | apply State.haltCore_closed | apply ite_sat | apply foldl_sat | apply foldUp_sat | decide +kernel | split

theorem State.post_closed {P : State → Prop} {s : State} (hP : Closed 0x1000000000000000000000000000000000000000000000000000000000000604000 P) (h : P s) (n : Nat) (word : Nat) (pos : Nat) (ord : Nat) :
 P (State.post s n word pos ord) := by
  unfold State.post
  repeat' with_reducible first
    | assumption | exact hP.mono (by decide +kernel) | apply State.addFlag_closed | decide +kernel | split

theorem State.writeSlot_closed {P : State → Prop} {s : State} (hP : Closed 0x1000000 P) (h : P s) (n : Nat) (slot : Nat) (code : Nat) :
 P (State.writeSlot s n slot code) := by
  unfold State.writeSlot
  repeat' with_reducible first
    | assumption | exact hP.mono (by decide +kernel) | apply State.wr_closed | decide +kernel | split

theorem State.addTotals_closed {P : State → Prop} {s : State} (hP : Closed 0x1800000000 P) (h : P s) (n : Nat) (sat : Nat) (flush : Nat) :
 P (State.addTotals s n sat flush) := by
  unfold State.addTotals
  repeat' with_reducible first
    | assumption | exact hP.mono (by decide +kernel) | apply State.incSat_closed | decide +kernel | split

end Sys2Proof.Laws
end

