-- ==== Sys2Proof/Laws/ClosedQp.lean ====
section
/-! SUPPORT. The operations of Qp.lean keep every property that the writes of their footprint keep. -/

namespace Sys2Proof.Laws

set_option Elab.async false
set_option linter.all false

open Sys2Proof.Machine

theorem State.hostSend_closed {P : State → Prop} {s : State} (hP : Closed 0x60000000000000000000002000000000000000000000000000000000000000000 P) (h : P s) (port : Nat) (kind : Nat) (qp : Nat) (bytes : List Byte) :
 P (State.hostSend s port kind qp bytes) := by
  unfold State.hostSend
  repeat' with_reducible first
    | assumption | exact hP.mono (by decide +kernel) | apply State.inc_closed | apply State.send_closed
    | decide +kernel | split

theorem State.setQp_closed {P : State → Prop} {s : State} (hP : Closed 0x20000000000000000000000000000000000000000000000000000000000000000000000000000 P) (h : P s) (q : Nat) (x : QpSt) :
 P (State.setQp s q x) := by
  unfold State.setQp
  repeat' with_reducible first
    | assumption | exact hP.mono (by decide +kernel) | decide +kernel | split | apply hP.qps

theorem State.qpSend_closed {P : State → Prop} {s : State} (hP : Closed 0x60000000000000000000002000000000000000000000000000000000000000000 P) (h : P s) (q : Nat) (kind : Nat) (psn : Nat) (bytes : List Byte) :
 P (State.qpSend s q kind psn bytes) := by
  unfold State.qpSend
  repeat' with_reducible first
    | assumption | exact hP.mono (by decide +kernel) | apply State.hostSend_closed | decide +kernel | split

theorem State.qpCount_closed {P : State → Prop} {s : State} (hP : Closed 0x20000000000000000000010000000000000000000000000000000000000000000 P) (h : P s) (q : Nat) (k : Nat) :
 P (State.qpCount s q k) := by
  unfold State.qpCount
  repeat' with_reducible first
    | assumption | exact hP.mono (by decide +kernel) | apply State.inc_closed | decide +kernel | split

theorem State.setHostRing_closed {P : State → Prop} {s : State} (hP : Closed 0x40000000000000000000000000000000100000000000000000000000000000000000000000000 P) (h : P s) (r : Nat) (x : RingSt) :
 P (State.setHostRing s r x) := by
  unfold State.setHostRing
  repeat' with_reducible first
    | assumption | exact hP.mono (by decide +kernel) | apply State.wrFld_closed | decide +kernel | split
    | apply hP.hostRings

theorem State.ringDies_closed {P : State → Prop} {s : State} (hP : Closed 0x40000000000000000000000000000000100000000000000000000000000000000000000000000 P) (h : P s) (r : Nat) :
 P (State.ringDies s r) := by
  unfold State.ringDies
  repeat' with_reducible first
    | assumption | exact hP.mono (by decide +kernel) | apply State.setHostRing_closed | apply State.wrFld_closed
    | decide +kernel | split

theorem State.ringsDie_closed {P : State → Prop} {s : State} (hP : Closed 0x40000000000000000000000000000000100000000000000000000000000000000000000000000 P) (h : P s) (q : Nat) :
 P (State.ringsDie s q) := by
  unfold State.ringsDie
  repeat' with_reducible first
    | assumption | intro _ | exact hP.mono (by decide +kernel) | apply State.ringDies_closed | apply ite_sat
    | apply foldl_sat | apply foldUp_sat | decide +kernel | split

theorem State.qpError_closed {P : State → Prop} {s : State} (hP : Closed 0x60000000000000000000000000000000104000000000000000000000000000000000000000000 P) (h : P s) (q : Nat) :
 P (State.qpError s q) := by
  unfold State.qpError
  repeat' with_reducible first
    | assumption | exact hP.mono (by decide +kernel) | apply State.ringsDie_closed | apply State.wrFld_closed
    | apply State.setQp_closed | decide +kernel | split

theorem State.qpsError_closed {P : State → Prop} {s : State} (hP : Closed 0x60000000000000000000000000000000104000000000000000000000000000000000000000000 P) (h : P s) :
 P (State.qpsError s) := by
  unfold State.qpsError
  repeat' with_reducible first
    | assumption | intro _ | exact hP.mono (by decide +kernel) | apply State.qpError_closed | apply ite_sat
    | apply foldl_sat | apply foldUp_sat | decide +kernel | split

theorem State.ringCoreEnds_closed {P : State → Prop} {s : State} (hP : Closed 0x40000000000000000000000000000000000000000000000000000000000000000000000000000 P) (h : P s) (n : Nat) :
 P (State.ringCoreEnds s n) := by
  unfold State.ringCoreEnds
  repeat' with_reducible first
    | assumption | exact hP.mono (by decide +kernel) | decide +kernel | split | apply hP.hostRings

theorem State.qpIssue_closed {P : State → Prop} {s : State} (hP : Closed 0x20000000020000000000000000000000000000000000000000000000000000000000000000000 P) (h : P s) (q : Nat) :
 P (State.qpIssue s q) := by
  unfold State.qpIssue
  repeat' with_reducible first
    | assumption | exact hP.mono (by decide +kernel) | apply State.setQp_closed | decide +kernel | split
    | apply hP.waiting

theorem State.qpAnswer_closed {P : State → Prop} {s : State} (hP : Closed 0x60000000000060000000000000000000116000000000000000000000000000000000000000000 P) (h : P s) (q : Nat) (o : HostOp) :
 P (State.qpAnswer s q o) := by
  unfold State.qpAnswer
  repeat' with_reducible first
    | assumption | intro _ | exact hP.mono (by decide +kernel) | apply State.qpError_closed
    | apply State.qpCount_closed | apply State.setQp_closed | apply State.qpSend_closed | apply ite_sat
    | apply foldl_sat | apply foldUp_sat | decide +kernel | split

theorem qpFlushGo_closed {P : State → Prop} {x2 : State} (hP : Closed 0x60000000000060000000000000000000116000000000000000000000000000000000000000000 P) (h : P x2) (q : Nat) (x1 : Nat) :
 P (qpFlushGo q x1 x2) := by
  induction x1 generalizing x2 with
  | zero => exact h
  | succ n ih =>
    rw [qpFlushGo]
    split
    · exact h
    · split
      · exact ih (State.qpAnswer_closed (hP.mono (by decide +kernel)) (State.setQp_closed (hP.mono (by decide +kernel)) h _ _) _ _)
      · exact h

theorem State.qpFlush_closed {P : State → Prop} {s : State} (hP : Closed 0x60000000020060000000000000000000116000000000000000000000000000000000000000000 P) (h : P s) (q : Nat) :
 P (State.qpFlush s q) := by
  unfold State.qpFlush
  repeat' with_reducible first
    | assumption | exact hP.mono (by decide +kernel) | apply State.qpIssue_closed | apply qpFlushGo_closed
    | decide +kernel | split

theorem State.hostReqEnd_closed {P : State → Prop} {s : State} (hP : Closed 0x60000000020060000000000000000000116000000000000000000000000000000000000000000 P) (h : P s) (id : Nat) (r : GReq) (status : Nat) (data : List Byte) :
 P (State.hostReqEnd s id r status data) := by
  unfold State.hostReqEnd
  repeat' with_reducible first
    | assumption | exact hP.mono (by decide +kernel) | apply State.setQp_closed | apply State.qpFlush_closed
    | decide +kernel | split

end Sys2Proof.Laws
end

