-- ==== Sys2Proof/Laws/ClosedScratch.lean ====
section
/-! SUPPORT. The operations of Scratch.lean keep every property that the writes of their footprint keep. -/

namespace Sys2Proof.Laws

set_option Elab.async false
set_option linter.all false

open Sys2Proof.Machine

theorem State.scratchRecord_closed {P : State → Prop} {s : State} (hP : Closed 0x1c00 P) (h : P s) (cause : Nat) :
 P (State.scratchRecord s cause) := by
  unfold State.scratchRecord
  repeat' with_reducible first
    | assumption | exact hP.mono (by decide +kernel) | apply State.wr_closed | apply State.wrFld_closed
    | decide +kernel | split

theorem State.scratchUnits_closed {P : State → Prop} {s : State} (hP : Closed 0x1c00000001e1c00803868000000000000000800000104000000000000000000000000000000000000000000 P) (h : P s) :
 P (State.scratchUnits s) := by
  have h := State.wrFld_closed (s := s.qpsError) (c := Obj.powerState) hP (by decide +kernel)
    (State.qpsError_closed (hP.mono (by decide +kernel)) h) 0 2 2 0
  unfold State.scratchUnits
  generalize s.qpsError.wrFld Obj.powerState 0 2 2 0 = t at h ⊢
  have h := hP.frames (by decide +kernel) _ [] h
  have h := hP.copies (by decide +kernel) _ [] h
  have h := hP.mirrorQueue (by decide +kernel) _ [] h
  have h := hP.mirrorHeld (by decide +kernel) _ [] h
  have h := hP.moves (by decide +kernel) _ [] h
  have h := hP.linkLocals (by decide +kernel) _ [] h
  have h := hP.waiting (by decide +kernel) _ [] h
  have h := hP.sent (by decide +kernel) _ [] h
  have h := hP.heldReqs (by decide +kernel) _ [] h
  have h := hP.sus (by decide +kernel) _ [] h
  have h := hP.cvus (by decide +kernel) _ [] h
  have h := hP.scanJobs (by decide +kernel) _ [] h
  have h := hP.dimmCopy (by decide +kernel) _ none h
  have h := hP.powerEntry (by decide +kernel) _ none h
  have h := hP.powerWake (by decide +kernel) _ [] h
  exact h

theorem State.scratch_closed {P : State → Prop} {s : State} (hP : Closed 0x1c00000001e1c19863868060000001000000800000104000000000000221c81800a90000000000000001c00 P) (h : P s) (cause : Nat) :
 P (State.scratch s cause) := by
  unfold State.scratch
  repeat' with_reducible first
    | assumption | exact hP.mono (by decide +kernel) | apply State.scratchPorts_closed
    | apply State.scratchUnits_closed | apply State.scratchRecord_closed | decide +kernel | split

end Sys2Proof.Laws
end

