-- ==== Sys2Proof/Laws/ClosedMemMap.lean ====
section
/-! SUPPORT. The operations of MemMap.lean keep every property that the writes of their footprint keep. -/

namespace Sys2Proof.Laws

set_option Elab.async false
set_option linter.all false

open Sys2Proof.Machine

theorem State.store_closed {P : State → Prop} {s : State} (hP : Closed 0x10000000000000000000000000000000000000000000000000000000000000000 P) (h : P s) (region : Nat) (off : Nat) (bs : List Byte) :
 P (State.store s region off bs) := by
  unfold State.store
  repeat' with_reducible first
    | assumption | exact hP.mono (by decide +kernel) | apply State.memWrite_closed | decide +kernel | split

theorem State.countCorrected_closed {P : State → Prop} {s : State} (hP : Closed 0x2000000000000000000000000100000000000000000000000000408c000000000 P) (h : P s) (kind : Nat) (inst : Nat) :
 P (State.countCorrected s kind inst) := by
  unfold State.countCorrected
  repeat' with_reducible first
    | assumption | exact hP.mono (by decide +kernel) | apply State.inc_closed | decide +kernel | split

theorem State.memUe_closed {P : State → Prop} {s : State} (hP : Closed 0x1c00000001e1c19863868060000001000000800000104000000000000221c81800a90000000060000001c00 P) (h : P s) (kind : Nat) (inst : Nat) (patrol : Bool) (off : Nat) :
 P (State.memUe s kind inst patrol off) := by
  unfold State.memUe
  repeat' with_reducible first
    | assumption | exact hP.mono (by decide +kernel) | apply State.wr_closed | apply State.scratch_closed
    | apply State.inc_closed | decide +kernel | split

theorem State.uncorrectable_closed {P : State → Prop} {s : State} (hP : Closed 0x1c00000001e1c19863868060000001000000800000104000000000000221c81800a90000000060000001c00 P) (h : P s) (patrol : Bool) (q : Nat × Nat) :
 P (State.uncorrectable s patrol q) := by
  unfold State.uncorrectable
  repeat' with_reducible first
    | assumption | intro _ | exact hP.mono (by decide +kernel) | apply State.memUe_closed
    | apply State.scratch_closed | apply ite_sat | apply foldl_sat | apply foldUp_sat | decide +kernel | split

theorem State.eccWord_closed {P : State → Prop} {s : State} (hP : Closed 0x1c00000001e1c19863868070000001000000800000104001000000000221c81800a900000040ec000001c00 P) (h : P s) (patrol : Bool) (q : Nat × Nat) (extent : Nat) :
 Sat2 P (State.eccWord s patrol q extent) := by
  unfold State.eccWord
  repeat' with_reducible first
    | assumption | exact hP.mono (by decide +kernel) | apply State.countCorrected_closed
    | apply State.uncorrectable_closed | apply State.memWrite_closed | apply State.drawn_closed | apply Sat2.snd
    | decide +kernel | split | apply Sat2.pair

theorem eccWords_closed {P : State → Prop} {x2 : State} (hP : Closed 0x1c00000001e1c19863868070000001000000800000104001000000000221c81800a900000040ec000001c00 P) (h : P x2) (patrol : Bool) (x1 : List ((Nat × Nat) × Nat)) :
 Sat2 P (eccWords patrol x1 x2) := by
  induction x1 generalizing x2 with
  | nil =>
    unfold eccWords
    repeat' first
      | with_reducible assumption
      | with_reducible apply ih
      | intro _
      | exact hP.mono (by decide +kernel)
      | with_reducible apply State.eccWord_closed
      | with_reducible apply Sat2.snd
      | with_reducible apply ite_sat
      | with_reducible apply foldl_sat
      | with_reducible apply foldUp_sat
      | decide +kernel
      | with_reducible refine Sat2.of_eq ?_ (by with_reducible assumption)
      | with_reducible apply Sat2.pair
      | dsimp only
      | split
  | cons a l ih =>
    unfold eccWords
    repeat' first
      | with_reducible assumption
      | with_reducible apply ih
      | intro _
      | exact hP.mono (by decide +kernel)
      | with_reducible apply State.eccWord_closed
      | with_reducible apply Sat2.snd
      | with_reducible apply ite_sat
      | with_reducible apply foldl_sat
      | with_reducible apply foldUp_sat
      | decide +kernel
      | with_reducible refine Sat2.of_eq ?_ (by with_reducible assumption)
      | with_reducible apply Sat2.pair
      | dsimp only
      | split

theorem State.eccRead_closed {P : State → Prop} {s : State} (hP : Closed 0x1c00000001e1c19863868070000001000000800000104001000000000221c81800a900000040ec000001c00 P) (h : P s) (e : Ecc) (region : Nat) (off : Nat) (n : Nat) :
 Sat2 P (State.eccRead s e region off n) := by
  unfold State.eccRead
  repeat' with_reducible first
    | assumption | exact hP.mono (by decide +kernel) | apply eccWords_closed | apply Sat2.snd | decide +kernel
    | split | apply Sat2.pair

theorem eccRanges_closed {P : State → Prop} {x2 : State} (hP : Closed 0x1c00000001e1c19863868070000001000000800000104001000000000221c81800a900000040ec000001c00 P) (h : P x2) (x0 : List (Nat × Nat × Nat)) (x1 : Ecc) :
 Sat2 P (eccRanges x0 x1 x2) := by
  induction x0 generalizing x1 x2 with
  | nil =>
    unfold eccRanges
    repeat' first
      | with_reducible assumption
      | with_reducible apply ih
      | intro _
      | exact hP.mono (by decide +kernel)
      | with_reducible apply State.eccRead_closed
      | with_reducible apply Sat2.snd
      | with_reducible apply ite_sat
      | with_reducible apply foldl_sat
      | with_reducible apply foldUp_sat
      | decide +kernel
      | with_reducible refine Sat2.of_eq ?_ (by with_reducible assumption)
      | with_reducible apply Sat2.pair
      | dsimp only
      | split
  | cons a l ih =>
    unfold eccRanges
    repeat' first
      | with_reducible assumption
      | with_reducible apply ih
      | intro _
      | exact hP.mono (by decide +kernel)
      | with_reducible apply State.eccRead_closed
      | with_reducible apply Sat2.snd
      | with_reducible apply ite_sat
      | with_reducible apply foldl_sat
      | with_reducible apply foldUp_sat
      | decide +kernel
      | with_reducible refine Sat2.of_eq ?_ (by with_reducible assumption)
      | with_reducible apply Sat2.pair
      | dsimp only
      | split

theorem State.mergeRead_closed {P : State → Prop} {s : State} (hP : Closed 0x1c00000001e1c19863868070000001000000800000104001000000000221c81800a900000040ec000001c00 P) (h : P s) (e : Ecc) (region : Nat) (off : Nat) (len : Nat) :
 Sat2 P (State.mergeRead s e region off len) := by
  unfold State.mergeRead
  repeat' with_reducible first
    | assumption | exact hP.mono (by decide +kernel) | apply State.eccRead_closed | apply Sat2.snd | decide +kernel
    | split | apply Sat2.pair

end Sys2Proof.Laws
end

