-- ==== Sys2Proof/Laws/ClosedLocalMem.lean ====
section
/-! SUPPORT. The operations of LocalMem.lean keep every property that the writes of their footprint keep. -/

namespace Sys2Proof.Laws

set_option Elab.async false
set_option linter.all false

open Sys2Proof.Machine

theorem State.setRecal_closed {P : State → Prop} {s : State} (hP : Closed 0x10000000000000000000000000000000000000000000000000000000000000000000 P) (h : P s) (c : Nat) (r : RecalSt) :
 P (State.setRecal s c r) := by
  unfold State.setRecal
  repeat' with_reducible first
    | assumption | exact hP.mono (by decide +kernel) | decide +kernel | split | apply hP.recals

theorem execPatrolRead_closed {P : State → Prop} {s : State} (hP : Closed 0x1d00000001e1c19863868070000001000000800000104001000000000221c81800a900000040ec000001c00 P) (h : P s) (region : Nat) (off : Nat) (ecc : Ecc) :
 SatR P (execPatrolRead region off ecc s) := by
  unfold execPatrolRead
  repeat' with_reducible first
    | assumption | intro _ | exact hP.mono (by decide +kernel) | apply eccWords_closed | apply Sat2.snd
    | apply SatR.next | apply SatR.fault | apply SatR.refused | apply ite_sat | apply foldl_sat | apply foldUp_sat
    | decide +kernel | refine Sat2.of_eq ?_ (by assumption) | refine SatR.of_eq ?_ (by assumption) | split
    | apply Sat2.pair | apply hP.patrols

theorem execOndieCePoll_closed {P : State → Prop} {s : State} (hP : Closed 0x10020000000000000000000000000000000000000000000000000000100000000000 P) (h : P s) (ctrl : Nat) (count : Nat) :
 SatR P (execOndieCePoll ctrl count s) := by
  unfold execOndieCePoll
  repeat' with_reducible first
    | assumption | intro _ | exact hP.mono (by decide +kernel) | apply State.inc_closed
    | apply State.setRecal_closed | apply SatR.next | apply SatR.fault | apply SatR.refused | apply ite_sat
    | apply foldl_sat | apply foldUp_sat | decide +kernel | refine SatR.of_eq ?_ (by assumption) | split

theorem State.setTemp_closed {P : State → Prop} {s : State} (hP : Closed 0x10400000000000 P) (h : P s) (c : Nat) (temp : Nat) :
 P (State.setTemp s c temp) := by
  unfold State.setTemp
  repeat' with_reducible first
    | assumption | exact hP.mono (by decide +kernel) | apply State.wr_closed | decide +kernel | split

theorem State.startHold_closed {P : State → Prop} {s : State} (hP : Closed 0x10000000000000000000000000000000000000000000000000000000000000000000 P) (h : P s) (c : Nat) (temp : Nat) :
 P (State.startHold s c temp) := by
  unfold State.startHold
  repeat' with_reducible first
    | assumption | exact hP.mono (by decide +kernel) | apply State.setRecal_closed | decide +kernel | split

theorem execRecalStart_closed {P : State → Prop} {s : State} (hP : Closed 0x10000000000000000000000000000000000000000000000000000010400000000000 P) (h : P s) (ctrl : Nat) (temp : Nat) :
 SatR P (execRecalStart ctrl temp s) := by
  unfold execRecalStart
  repeat' with_reducible first
    | assumption | intro _ | exact hP.mono (by decide +kernel) | apply State.startHold_closed
    | apply State.setTemp_closed | apply SatR.next | apply SatR.fault | apply SatR.refused | apply ite_sat
    | apply foldl_sat | apply foldUp_sat | decide +kernel | refine SatR.of_eq ?_ (by assumption) | split

theorem execRecalForced_closed {P : State → Prop} {s : State} (hP : Closed 0x10020000000000000000000000000000000000000000000000000030c00000000000 P) (h : P s) (ctrl : Nat) (temp : Nat) :
 SatR P (execRecalForced ctrl temp s) := by
  unfold execRecalForced
  repeat' with_reducible first
    | assumption | intro _ | exact hP.mono (by decide +kernel) | apply State.inc_closed
    | apply State.startHold_closed | apply State.setTemp_closed | apply SatR.next | apply SatR.fault
    | apply SatR.refused | apply ite_sat | apply foldl_sat | apply foldUp_sat | decide +kernel
    | refine SatR.of_eq ?_ (by assumption) | split

theorem execRecalNow_closed {P : State → Prop} {s : State} (hP : Closed 0x10000000000000000000000000000000000000000000000000000080000000000000 P) (h : P s) (value : Nat) :
 SatR P (execRecalNow value s) := by
  unfold execRecalNow
  repeat' with_reducible first
    | assumption | intro _ | exact hP.mono (by decide +kernel) | apply State.wr_closed
    | apply State.startHold_closed | apply State.setRecal_closed | apply SatR.next | apply SatR.fault
    | apply SatR.refused | apply ite_sat | apply foldl_sat | apply foldUp_sat | decide +kernel
    | refine SatR.of_eq ?_ (by assumption) | split

theorem State.endHold_closed {P : State → Prop} {s : State} (hP : Closed 0x100200000000000000000000000000000000000000000000000000a0800000000000 P) (h : P s) (c : Nat) :
 P (State.endHold s c) := by
  unfold State.endHold
  repeat' with_reducible first
    | assumption | exact hP.mono (by decide +kernel) | apply State.wr_closed | apply State.wrFld_closed
    | apply State.inc_closed | apply State.setRecal_closed | decide +kernel | split

theorem State.setRamp_closed {P : State → Prop} {s : State} (hP : Closed 0x20000000000000000000000000000000000000000000000000000000000000000000000000000000000000 P) (h : P s) (bay : Nat) (r : Option Ramp) :
 P (State.setRamp s bay r) := by
  unfold State.setRamp
  repeat' with_reducible first
    | assumption | exact hP.mono (by decide +kernel) | decide +kernel | split | apply hP.ramps

theorem State.rampBay_closed {P : State → Prop} {s : State} (hP : Closed 0x20000000000000000000020000000000000200000000000000000000000000000000000000000000000000 P) (h : P s) (bay : Nat) (power : Nat) :
 P (State.rampBay s bay power) := by
  unfold State.rampBay
  repeat' with_reducible first
    | assumption | exact hP.mono (by decide +kernel) | apply State.setRamp_closed | apply State.wrFld_closed
    | apply State.drawn_closed | decide +kernel | split

theorem State.rampEnds_closed {P : State → Prop} {s : State} (hP : Closed 0x20000000000000000000000000000000000000000000000000000000000000000000000000000000000000 P) (h : P s) (bay : Nat) :
 P (State.rampEnds s bay) := by
  unfold State.rampEnds
  repeat' with_reducible first
    | assumption | exact hP.mono (by decide +kernel) | apply State.setRamp_closed | decide +kernel | split

theorem State.setDimm_closed {P : State → Prop} {s : State} (hP : Closed 0x1000000000000 P) (h : P s) (c : Nat) (st : Nat) :
 P (State.setDimm s c st) := by
  unfold State.setDimm
  repeat' with_reducible first
    | assumption | exact hP.mono (by decide +kernel) | apply State.wr_closed | decide +kernel | split

theorem State.drainAnswer_closed {P : State → Prop} {s : State} (hP : Closed 0x200000000000000 P) (h : P s) (code : Nat) :
 P (State.drainAnswer s code) := by
  unfold State.drainAnswer
  repeat' with_reducible first
    | assumption | exact hP.mono (by decide +kernel) | apply State.wr_closed | decide +kernel | split

theorem State.startCopy_closed {P : State → Prop} {s : State} (hP : Closed 0x8000000000000000000000000000000000000000000000000000400000000000000 P) (h : P s) (chan : Nat) (mode : Nat) (len : Nat) (target : Nat) (share : Nat) :
 P (State.startCopy s chan mode len target share) := by
  unfold State.startCopy
  repeat' with_reducible first
    | assumption | exact hP.mono (by decide +kernel) | apply State.wr_closed | decide +kernel | split
    | apply hP.dimmCopy

theorem execDimmDrain_closed {P : State → Prop} {s : State} (hP : Closed 0x8000000000000000000000000000000000000000000000000000601000000000000 P) (h : P s) (chan : Nat) :
 SatR P (execDimmDrain chan s) := by
  unfold execDimmDrain
  repeat' with_reducible first
    | assumption | exact hP.mono (by decide +kernel) | apply State.drainAnswer_closed | apply State.startCopy_closed
    | apply State.setDimm_closed | apply SatR.next | apply SatR.fault | apply SatR.refused | decide +kernel | split

theorem execDimmReturn_closed {P : State → Prop} {s : State} (hP : Closed 0x8000000000000000000000000000000000000000000000000000601000000000000 P) (h : P s) (chan : Nat) :
 SatR P (execDimmReturn chan s) := by
  unfold execDimmReturn
  repeat' with_reducible first
    | assumption | intro _ | exact hP.mono (by decide +kernel) | apply State.drainAnswer_closed
    | apply State.startCopy_closed | apply State.setDimm_closed | apply SatR.next | apply SatR.fault
    | apply SatR.refused | apply ite_sat | apply foldl_sat | apply foldUp_sat | decide +kernel
    | refine SatR.of_eq ?_ (by assumption) | split

theorem execDimmPowerOff_closed {P : State → Prop} {s : State} (hP : Closed 0x201000000000000 P) (h : P s) (chan : Nat) :
 SatR P (execDimmPowerOff chan s) := by
  unfold execDimmPowerOff
  repeat' with_reducible first
    | assumption | exact hP.mono (by decide +kernel) | apply State.drainAnswer_closed | apply State.setDimm_closed
    | apply SatR.next | apply SatR.fault | apply SatR.refused | decide +kernel | split

theorem State.dimmPowers_closed {P : State → Prop} {s : State} (hP : Closed 0x20000000000000000000020000000000000200000000000000000000000000000000000001000000000000 P) (h : P s) (c : Nat) :
 P (State.dimmPowers s c) := by
  unfold State.dimmPowers
  repeat' with_reducible first
    | assumption | exact hP.mono (by decide +kernel) | apply State.rampBay_closed | apply State.setDimm_closed
    | decide +kernel | split

theorem execDimmPowerOn_closed {P : State → Prop} {s : State} (hP : Closed 0x20000000000000000000020000000000000200000000000000000000000000000000000201000000000000 P) (h : P s) (chan : Nat) :
 SatR P (execDimmPowerOn chan s) := by
  unfold execDimmPowerOn
  repeat' with_reducible first
    | assumption | exact hP.mono (by decide +kernel) | apply State.drainAnswer_closed
    | apply State.dimmPowers_closed | apply SatR.next | apply SatR.fault | apply SatR.refused | decide +kernel
    | split

theorem State.endCopy_closed {P : State → Prop} {s : State} (hP : Closed 0x8000000000000000000000000000000000000000000000000000400000000000000 P) (h : P s) :
 P (State.endCopy s) := by
  unfold State.endCopy
  repeat' with_reducible first
    | assumption | exact hP.mono (by decide +kernel) | apply State.wrFld_closed | decide +kernel | split
    | apply hP.dimmCopy

theorem execDrainCancel_closed {P : State → Prop} {s : State} (hP : Closed 0x8000000000000000000000000000000000000000000000000000601000000000000 P) (h : P s) (chan : Nat) :
 SatR P (execDrainCancel chan s) := by
  unfold execDrainCancel
  repeat' with_reducible first
    | assumption | exact hP.mono (by decide +kernel) | apply State.endCopy_closed | apply State.drainAnswer_closed
    | apply State.setDimm_closed | apply SatR.next | apply SatR.fault | apply SatR.refused | decide +kernel | split

theorem State.setCvu_closed {P : State → Prop} {s : State} (hP : Closed 0x400000000000000000000000000000000000000000000000000000000000000000000000000 P) (h : P s) (c : Nat) (x : CvuSt) :
 P (State.setCvu s c x) := by
  unfold State.setCvu
  repeat' with_reducible first
    | assumption | exact hP.mono (by decide +kernel) | decide +kernel | split | apply hP.cvus

theorem execDrainBlockCopied_closed {P : State → Prop} {s : State} (hP : Closed 0x1c00000001e1c19863868070000001000000800000104001000000000221c81800a90000c050ec000001c00 P) (h : P s) (ecc : Ecc) :
 SatR P (execDrainBlockCopied ecc s) := by
  unfold execDrainBlockCopied
  repeat' first
    | with_reducible assumption
    | intro _
    | exact hP.mono (by decide +kernel)
    | with_reducible apply State.endCopy_closed
    | with_reducible apply State.wr_closed
    | with_reducible apply State.wrFld_closed
    | with_reducible apply eccWords_closed
    | with_reducible apply State.memWrite_closed
    | with_reducible apply State.setDimm_closed
    | with_reducible apply Sat2.snd
    | with_reducible apply SatR.next
    | with_reducible apply SatR.fault
    | with_reducible apply SatR.refused
    | with_reducible apply ite_sat
    | with_reducible apply foldl_sat
    | with_reducible apply foldUp_sat
    | decide +kernel
    | with_reducible refine Sat2.of_eq ?_ (by with_reducible assumption)
    | with_reducible refine SatR.of_eq ?_ (by with_reducible assumption)
    | split
    | with_reducible apply Sat2.pair
    | dsimp only

theorem execDimmLatchClose_closed {P : State → Prop} {s : State} (hP : Closed 0x20000000000000000000020000000000000200000000000000000000000000000000000001000000000000 P) (h : P s) (chan : Nat) :
 SatR P (execDimmLatchClose chan s) := by
  unfold execDimmLatchClose
  repeat' with_reducible first
    | assumption | exact hP.mono (by decide +kernel) | apply State.dimmPowers_closed | apply SatR.next
    | apply SatR.fault | apply SatR.refused | decide +kernel | split

theorem State.clearWindow_closed {P : State → Prop} {s : State} (hP : Closed 0x10000000000000000000000000000000000000000000000000000000000000000 P) (h : P s) (chan : Nat) :
 P (State.clearWindow s chan) := by
  unfold State.clearWindow
  repeat' with_reducible first
    | assumption | exact hP.mono (by decide +kernel) | decide +kernel | split | apply hP.memDrop

theorem execDimmTrained_closed {P : State → Prop} {s : State} (hP : Closed 0x24000000000000000000010000000000000000000000000000000000000000000000000003000000000000 P) (h : P s) (chan : Nat) (capacity : Nat) (ident : Nat) (mrdimm : Bool) (eccX4 : Bool) (checksum : Bool) (trained : Bool) :
 SatR P (execDimmTrained chan capacity ident mrdimm eccX4 checksum trained s) := by
  unfold execDimmTrained
  repeat' with_reducible first
    | assumption | intro _ | exact hP.mono (by decide +kernel) | apply State.wr_closed | apply State.rampEnds_closed
    | apply State.clearWindow_closed | apply State.setDimm_closed | apply SatR.next | apply SatR.fault
    | apply SatR.refused | apply ite_sat | apply foldl_sat | apply foldUp_sat | decide +kernel
    | refine SatR.of_eq ?_ (by assumption) | split | apply hP.dimmKeep

theorem execDimmLatchOpen_closed {P : State → Prop} {s : State} (hP : Closed 0x1c00000001e1c19863868060000001000000800000104000000000000221c81800a90000000060000001c00 P) (h : P s) (chan : Nat) :
 SatR P (execDimmLatchOpen chan s) := by
  unfold execDimmLatchOpen
  repeat' with_reducible first
    | assumption | exact hP.mono (by decide +kernel) | apply State.memUe_closed | apply SatR.next | apply SatR.fault
    | apply SatR.refused | decide +kernel | split

end Sys2Proof.Laws
end

