-- ==== Sys2Proof/Laws/ClosedMsgs.lean ====
section
/-! SUPPORT. The operations of Msgs.lean keep every property that the writes of their footprint keep. -/

namespace Sys2Proof.Laws

set_option Elab.async false
set_option linter.all false

open Sys2Proof.Machine

theorem State.setMarshal_closed {P : State → Prop} {s : State} (hP : Closed 0x40000000000000000000000000000000000000000000000000000000000000000000000000000000000 P) (h : P s) (m : MarshalSt) :
 P (State.setMarshal s m) := by
  unfold State.setMarshal
  repeat' with_reducible first
    | assumption | exact hP.mono (by decide +kernel) | decide +kernel | split | apply hP.marshal

theorem State.msgSent_closed {P : State → Prop} {s : State} (hP : Closed 0x40000000000000000000000000000000000000000000000000000000000000000000000000000000000 P) (h : P s) :
 P (State.msgSent s) := by
  unfold State.msgSent
  repeat' with_reducible first
    | assumption | exact hP.mono (by decide +kernel) | apply State.setMarshal_closed | decide +kernel | split

theorem State.tell_closed {P : State → Prop} {s : State} (hP : Closed 0x40000000000000000040000000000000000000000000000000000000000000000000000000000000000 P) (h : P s) (dest : Nat) (mtype : Nat) (subject : Nat) (step : Nat) (payload : List Byte) :
 P (State.tell s dest mtype subject step payload) := by
  unfold State.tell
  repeat' with_reducible first
    | assumption | exact hP.mono (by decide +kernel) | apply State.msgSent_closed | apply State.send_closed
    | decide +kernel | split

theorem State.tellAll_closed {P : State → Prop} {s : State} (hP : Closed 0x40000000000000000040000000000000000000000000000000000000000000000000000000000000000 P) (h : P s) (mtype : Nat) (subject : Nat) (step : Nat) (payload : List Byte) :
 P (State.tellAll s mtype subject step payload) := by
  unfold State.tellAll
  repeat' with_reducible first
    | assumption | exact hP.mono (by decide +kernel) | apply State.msgSent_closed | apply State.send_closed
    | decide +kernel | split

theorem State.tellPort_closed {P : State → Prop} {s : State} (hP : Closed 0x100040000000000000000040000000000000000000000000000000000000000000000000000000000000000 P) (h : P s) (port : Nat) (mtype : Nat) (subject : Nat) (time : Nat) (payload : List Byte) :
 P (State.tellPort s port mtype subject time payload) := by
  unfold State.tellPort
  repeat' with_reducible first
    | assumption | exact hP.mono (by decide +kernel) | apply State.msgSent_closed | apply State.send_closed
    | decide +kernel | split | apply hP.linkLocals

theorem State.tellManagers_closed {P : State → Prop} {s : State} (hP : Closed 0x40000000000000000040000000000000000000000000000000000000000000000000000000000000000 P) (h : P s) (mtype : Nat) (subject : Nat) (payload : List Byte) :
 P (State.tellManagers s mtype subject payload) := by
  unfold State.tellManagers
  repeat' with_reducible first
    | assumption | exact hP.mono (by decide +kernel) | apply State.tell_closed | decide +kernel | split

theorem State.stepAck_closed {P : State → Prop} {s : State} (hP : Closed 0x40000000000000000040000000000000000000000000000000000000000000000000000000000000000 P) (h : P s) (step : Nat) (subject : Nat) (result : Nat) :
 P (State.stepAck s step subject result) := by
  unfold State.stepAck
  repeat' with_reducible first
    | assumption | exact hP.mono (by decide +kernel) | apply State.tell_closed | decide +kernel | split

theorem State.guardSync_closed {P : State → Prop} {s : State} (hP : Closed 0xc0000000000000000040000000000000000000000000000000000000000000000000000000000000000 P) (h : P s) (entry : Nat) :
 P (State.guardSync s entry) := by
  unfold State.guardSync
  repeat' with_reducible first
    | assumption | exact hP.mono (by decide +kernel) | apply State.tellManagers_closed | decide +kernel | split
    | apply hP.guardStore

theorem State.quietTold_closed {P : State → Prop} {s : State} (hP : Closed 0x40000000000000000040000000000000000000000000000000000000000000000000000000000000000 P) (h : P s) :
 P (State.quietTold s) := by
  unfold State.quietTold
  repeat' with_reducible first
    | assumption | exact hP.mono (by decide +kernel) | apply State.stepAck_closed | apply State.setMarshal_closed
    | decide +kernel | split

end Sys2Proof.Laws
end

