-- ==== Sys2Proof/Laws/ClosedRegisters.lean ====
section
/-! SUPPORT. The operations of Registers.lean keep every property that the writes of their footprint keep. -/

namespace Sys2Proof.Laws

set_option Elab.async false
set_option linter.all false

open Sys2Proof.Machine

theorem State.extend_closed {P : State → Prop} {s : State} (hP : Closed 0x400000000000000000000000000000000000000000000000000000000 P) (h : P s) (i : Nat) (digest : Nat) :
 P (State.extend s i digest) := by
  unfold State.extend
  repeat' with_reducible first
    | assumption | exact hP.mono (by decide +kernel) | apply State.wr_closed | decide +kernel | split

theorem State.remeter_closed {P : State → Prop} {s : State} (hP : Closed 0x4000000000000000000000000000000000000000000000000000000000000000000000000 P) (h : P s) (n : Nat) (old : Shape) (new : Shape) :
 P (State.remeter s n old new) := by
  unfold State.remeter
  repeat' with_reducible first
    | assumption | exact hP.mono (by decide +kernel) | decide +kernel | split | apply hP.buckets

theorem State.writeNode_closed {P : State → Prop} {s : State} {c : ObjCode} {m : Nat} (hP : Closed m P) (hm : 0x80000000000004000000000000000000000000000000000000000000000000000000000000000000000000 &&& m = 0x80000000000004000000000000000000000000000000000000000000000000000000000000000000000000) (hc : Foot.obj m c = true) (h : P s) (i : Nat) (v : Nat) :
 P (State.writeNode s c i v) := by
  unfold State.writeNode
  repeat' with_reducible first
    | assumption | intro _ | exact hP.mono (Foot.le_trans (by decide +kernel) hm) | apply State.moveDue_closed
    | apply State.wr_closed | apply State.remeter_closed | apply ite_sat | apply foldl_sat | apply foldUp_sat
    | decide +kernel | split

theorem State.writeFlow_closed {P : State → Prop} {s : State} (hP : Closed 0x80000000000000000000000000000000000000000000000000000000200000000000000000000000000000 P) (h : P s) (f : Nat) (v : Nat) :
 P (State.writeFlow s f v) := by
  unfold State.writeFlow
  repeat' with_reducible first
    | assumption | intro _ | exact hP.mono (by decide +kernel) | apply State.moveDue_closed | apply State.wr_closed
    | apply ite_sat | apply foldl_sat | apply foldUp_sat | decide +kernel | split

theorem State.writePolicer_closed {P : State → Prop} {s : State} (hP : Closed 0x4000000000000000000000000000000000000000001000000000000000000000000000000 P) (h : P s) (x : Nat) (v : Nat) :
 P (State.writePolicer s x v) := by
  unfold State.writePolicer
  repeat' with_reducible first
    | assumption | exact hP.mono (by decide +kernel) | apply State.wr_closed | apply State.remeter_closed
    | decide +kernel | split

theorem State.clearCause_closed {P : State → Prop} {s : State} (hP : Closed 0x10000000000060000001800 P) (h : P s) (v : Nat) :
 P (State.clearCause s v) := by
  unfold State.clearCause
  repeat' with_reducible first
    | assumption | intro _ | exact hP.mono (by decide +kernel) | apply State.wr_closed | apply State.clearObj_closed
    | apply ite_sat | apply foldl_sat | apply foldUp_sat | decide +kernel | split

theorem State.clearInput_closed {P : State → Prop} {s : State} (hP : Closed 0xc0000000000000000000000000000000000000000000000000 P) (h : P s) (v : Nat) :
 P (State.clearInput s v) := by
  unfold State.clearInput
  repeat' with_reducible first
    | assumption | intro _ | exact hP.mono (by decide +kernel) | apply State.wr_closed | apply State.wrFld_closed
    | apply ite_sat | apply foldl_sat | apply foldUp_sat | decide +kernel | split

theorem State.bitmapStore_closed {P : State → Prop} {s : State} (hP : Closed 0x1000000000010000000000000000000000000000000000000000000000000000000000000000 P) (h : P s) (u : Nat) (off : Nat) (bs : List Byte) :
 P (State.bitmapStore s u off bs) := by
  unfold State.bitmapStore
  repeat' with_reducible first
    | assumption | exact hP.mono (by decide +kernel) | apply State.memWrite_closed | decide +kernel | split
    | apply hP.sus

theorem State.claimCvus_closed {P : State → Prop} {s : State} (hP : Closed 0x2000000000000000000000000000000000000000 P) (h : P s) :
 P (State.claimCvus s) := by
  unfold State.claimCvus
  repeat' with_reducible first
    | assumption | intro _ | exact hP.mono (by decide +kernel) | apply State.wr_closed | apply ite_sat
    | apply foldl_sat | apply foldUp_sat | decide +kernel | split

theorem State.writePortConfig_closed {P : State → Prop} {s : State} (hP : Closed 0x400000000000000000000000000000000000020000000000000000000 P) (h : P s) (p : Nat) (v : Nat) :
 P (State.writePortConfig s p v) := by
  unfold State.writePortConfig
  repeat' with_reducible first
    | assumption | intro _ | exact hP.mono (by decide +kernel) | apply State.wr_closed | apply State.extend_closed
    | apply ite_sat | apply foldl_sat | apply foldUp_sat | decide +kernel | split

theorem State.writeExpelGroup_closed {P : State → Prop} {s : State} (hP : Closed 0x60000000000000000000000000000000000000000000000 P) (h : P s) (i : Nat) (v : Nat) :
 P (State.writeExpelGroup s i v) := by
  unfold State.writeExpelGroup
  repeat' with_reducible first
    | assumption | intro _ | exact hP.mono (by decide +kernel) | apply State.wr_closed | apply State.wrFld_closed
    | apply ite_sat | apply foldl_sat | apply foldUp_sat | decide +kernel | split

theorem State.applyWrite_closed {P : State → Prop} {s : State} (hP : Closed 0x800c000000100c64000005ffffffffffffffffffffffffffffffffffffffffffffffffffffffffffffffff P) (h : P s) (c : ObjCode) (i : Nat) (v : Nat) :
 P (State.applyWrite s c i v) := by
  unfold State.applyWrite
  repeat' with_reducible first
    | assumption | intro _ | exact hP.mono (by decide +kernel) | apply State.trackNote_closed
    | apply State.clearCause_closed | apply State.clearInput_closed | apply State.writePortConfig_closed
    | apply State.bitmapStore_closed | apply State.writeFlow_closed | apply State.claimCvus_closed
    | apply State.wr_closed | apply State.writeNode_closed | apply State.writeExpelGroup_closed
    | apply State.guardSync_closed | apply State.writePolicer_closed | apply State.extend_closed
    | exact Foot.obj_of_all (by decide +kernel) _ | apply ite_sat | apply foldl_sat | apply foldUp_sat
    | decide +kernel | split | apply hP.mirrorSeen | apply hP.mirrorSeq | apply Closed.mirrorSeen_mirrorSeq hP

theorem State.rwWrite_closed {P : State → Prop} {s : State} (hP : Closed 0x800c000000100c64000005ffffffffffffffffffffffffffffffffffffffffffffffffffffffffffffffff P) (h : P s) (c : ObjCode) (i : Nat) (v : Nat) :
 SatO P (State.rwWrite s c i v) := by
  unfold State.rwWrite
  repeat' with_reducible first
    | assumption | intro _ | exact hP.mono (by decide +kernel) | apply State.applyWrite_closed | apply SatO.some
    | apply SatO.none | exact Foot.obj_of_all (by decide +kernel) _ | apply ite_sat | apply foldl_sat
    | apply foldUp_sat | decide +kernel | refine SatO.of_eq ?_ (by assumption) | split

end Sys2Proof.Laws
end

