-- ==== Sys2Proof/Laws/ClosedSequencer.lean ====
section
/-! SUPPORT. The operations of Sequencer.lean keep every property that the writes of their footprint keep. -/

namespace Sys2Proof.Laws

set_option Elab.async false
set_option linter.all false

open Sys2Proof.Machine

/-- The property of the state in a result of type SqOut. -/
structure SatSq (P : State → Prop) (r : SqOut) : Prop where
  of_go : ∀ t a, r = .go t a → P t
  of_bad : ∀ t a, r = .bad t a → P t
  of_stop : ∀ t, r = .stop t → P t
theorem SatSq.go {P : State → Prop} {t : State} {a} (h : P t) : SatSq P (.go t a) := ⟨by rintro _ _ ⟨⟩; exact h, by rintro _ _ ⟨⟩, by rintro _ ⟨⟩⟩
theorem SatSq.eq_go {P : State → Prop} {t : State} {a} {r : SqOut} (h : SatSq P r) (e : r = .go t a) : P t := h.of_go _ _ e
theorem SatSq.hold {P : State → Prop} {a} : SatSq P (.hold a) := ⟨by rintro _ _ ⟨⟩, by rintro _ _ ⟨⟩, by rintro _ ⟨⟩⟩
theorem SatSq.bad {P : State → Prop} {t : State} {a} (h : P t) : SatSq P (.bad t a) := ⟨by rintro _ _ ⟨⟩, by rintro _ _ ⟨⟩; exact h, by rintro _ ⟨⟩⟩
theorem SatSq.eq_bad {P : State → Prop} {t : State} {a} {r : SqOut} (h : SatSq P r) (e : r = .bad t a) : P t := h.of_bad _ _ e
theorem SatSq.stop {P : State → Prop} {t : State} (h : P t) : SatSq P (.stop t) := ⟨by rintro _ _ ⟨⟩, by rintro _ _ ⟨⟩, by rintro _ ⟨⟩; exact h⟩
theorem SatSq.eq_stop {P : State → Prop} {t : State} {r : SqOut} (h : SatSq P r) (e : r = .stop t) : P t := h.of_stop _ e

theorem State.setPred_closed {P : State → Prop} {s : State} (hP : Closed 0x800000 P) (h : P s) (n : Nat) (p : Nat) (v : Bool) :
 P (State.setPred s n p v) := by
  unfold State.setPred
  repeat' with_reducible first
    | assumption | exact hP.mono (by decide +kernel) | apply State.wrFld_closed | decide +kernel | split

theorem State.setLap_closed {P : State → Prop} {s : State} (hP : Closed 0x800000 P) (h : P s) (n : Nat) (k : Nat) (v : Nat) :
 P (State.setLap s n k v) := by
  unfold State.setLap
  repeat' with_reducible first
    | assumption | exact hP.mono (by decide +kernel) | apply State.wrFld_closed | decide +kernel | split

theorem sqNop_closed {P : State → Prop} {s : State} (hP : Closed 0x0 P) (h : P s) (pos : Nat) :
 SatSq P (sqNop s pos) := by
  unfold sqNop
  repeat' with_reducible first
    | assumption | exact hP.mono (by decide +kernel) | apply SatSq.go | apply SatSq.hold | apply SatSq.bad
    | apply SatSq.stop | decide +kernel | split

theorem sqEnd_closed {P : State → Prop} {s : State} (hP : Closed 0x0 P) (h : P s) :
 SatSq P (sqEnd s) := by
  unfold sqEnd
  repeat' with_reducible first
    | assumption | exact hP.mono (by decide +kernel) | apply SatSq.go | apply SatSq.hold | apply SatSq.bad
    | apply SatSq.stop | decide +kernel | split

theorem sqPace_closed {P : State → Prop} {s : State} (hP : Closed 0x1000000000000000000000000000000000000000000000000000000000000000000 P) (h : P s) (n : Nat) (w : Nat) (pos : Nat) :
 SatSq P (sqPace s n w pos) := by
  unfold sqPace
  repeat' with_reducible first
    | assumption | exact hP.mono (by decide +kernel) | apply State.setCore_closed | apply SatSq.go
    | apply SatSq.hold | apply SatSq.bad | apply SatSq.stop | decide +kernel | split

theorem sqWait_closed {P : State → Prop} {s : State} (hP : Closed 0x1000000000000000000000000000000000000000000000000000000000000400000 P) (h : P s) (n : Nat) (w : Nat) (pos : Nat) :
 SatSq P (sqWait s n w pos) := by
  unfold sqWait
  repeat' with_reducible first
    | assumption | intro _ | exact hP.mono (by decide +kernel) | apply State.takeFlag_closed | apply SatSq.go
    | apply SatSq.hold | apply SatSq.bad | apply SatSq.stop | apply ite_sat | apply foldl_sat | apply foldUp_sat
    | decide +kernel | refine SatSq.eq_go ?_ (by assumption) | refine SatSq.eq_bad ?_ (by assumption)
    | refine SatSq.eq_stop ?_ (by assumption) | split

theorem sqPost_closed {P : State → Prop} {s : State} (hP : Closed 0x1000000000000000000000000000000000000000000000000000000000000604000 P) (h : P s) (n : Nat) (w : Nat) (pos : Nat) (ord : Nat) :
 SatSq P (sqPost s n w pos ord) := by
  unfold sqPost
  repeat' with_reducible first
    | assumption | exact hP.mono (by decide +kernel) | apply State.addFlag_closed | apply SatSq.go
    | apply SatSq.hold | apply SatSq.bad | apply SatSq.stop | decide +kernel | split

theorem sqFlagset_closed {P : State → Prop} {s : State} (hP : Closed 0x1000000000000000000000000000000000000000000000000000000000000604000 P) (h : P s) (n : Nat) (w : Nat) (pos : Nat) (ord : Nat) :
 SatSq P (sqFlagset s n w pos ord) := by
  unfold sqFlagset
  repeat' with_reducible first
    | assumption | exact hP.mono (by decide +kernel) | apply State.flagSet_closed | apply SatSq.go
    | apply SatSq.hold | apply SatSq.bad | apply SatSq.stop | decide +kernel | split

theorem sqPset_closed {P : State → Prop} {s : State} (hP : Closed 0x800000 P) (h : P s) (n : Nat) (w : Nat) (pos : Nat) :
 SatSq P (sqPset s n w pos) := by
  unfold sqPset
  repeat' with_reducible first
    | assumption | exact hP.mono (by decide +kernel) | apply State.setPred_closed | apply SatSq.go
    | apply SatSq.hold | apply SatSq.bad | apply SatSq.stop | decide +kernel | split

theorem sqPlogic_closed {P : State → Prop} {s : State} (hP : Closed 0x800000 P) (h : P s) (n : Nat) (w : Nat) (pos : Nat) :
 SatSq P (sqPlogic s n w pos) := by
  unfold sqPlogic
  repeat' with_reducible first
    | assumption | exact hP.mono (by decide +kernel) | apply State.setPred_closed | apply SatSq.go
    | apply SatSq.hold | apply SatSq.bad | apply SatSq.stop | decide +kernel | split

theorem sqSkip_closed {P : State → Prop} {s : State} (hP : Closed 0x0 P) (h : P s) (n : Nat) (w : Nat) (pos : Nat) :
 SatSq P (sqSkip s n w pos) := by
  unfold sqSkip
  repeat' with_reducible first
    | assumption | intro _ | exact hP.mono (by decide +kernel) | apply SatSq.go | apply SatSq.hold | apply SatSq.bad
    | apply SatSq.stop | apply ite_sat | apply foldl_sat | apply foldUp_sat | decide +kernel
    | refine SatSq.eq_go ?_ (by assumption) | refine SatSq.eq_bad ?_ (by assumption)
    | refine SatSq.eq_stop ?_ (by assumption) | split

theorem sqLapset_closed {P : State → Prop} {s : State} (hP : Closed 0x800000 P) (h : P s) (n : Nat) (w : Nat) (pos : Nat) :
 SatSq P (sqLapset s n w pos) := by
  unfold sqLapset
  repeat' with_reducible first
    | assumption | exact hP.mono (by decide +kernel) | apply State.setLap_closed | apply SatSq.go | apply SatSq.hold
    | apply SatSq.bad | apply SatSq.stop | decide +kernel | split

theorem sqLap_closed {P : State → Prop} {s : State} (hP : Closed 0x800000 P) (h : P s) (n : Nat) (w : Nat) (pos : Nat) :
 SatSq P (sqLap s n w pos) := by
  unfold sqLap
  repeat' with_reducible first
    | assumption | intro _ | exact hP.mono (by decide +kernel) | apply State.setLap_closed | apply SatSq.go
    | apply SatSq.hold | apply SatSq.bad | apply SatSq.stop | apply ite_sat | apply foldl_sat | apply foldUp_sat
    | decide +kernel | refine SatSq.eq_go ?_ (by assumption) | refine SatSq.eq_bad ?_ (by assumption)
    | refine SatSq.eq_stop ?_ (by assumption) | split

theorem sqDrain_closed {P : State → Prop} {s : State} (hP : Closed 0x0 P) (h : P s) (n : Nat) (pos : Nat) :
 SatSq P (sqDrain s n pos) := by
  unfold sqDrain
  repeat' with_reducible first
    | assumption | exact hP.mono (by decide +kernel) | apply SatSq.go | apply SatSq.hold | apply SatSq.bad
    | apply SatSq.stop | decide +kernel | split

theorem sqMark_closed {P : State → Prop} {s : State} (hP : Closed 0x200000 P) (h : P s) (n : Nat) (w : Nat) (pos : Nat) :
 SatSq P (sqMark s n w pos) := by
  unfold sqMark
  repeat' with_reducible first
    | assumption | exact hP.mono (by decide +kernel) | apply State.wrFld_closed | apply SatSq.go | apply SatSq.hold
    | apply SatSq.bad | apply SatSq.stop | decide +kernel | split

theorem sqEffect_closed {P : State → Prop} {s : State} (hP : Closed 0x1000000000000000000000000000000000000000000000000000000000000e04000 P) (h : P s) (op : CoreOp) (n : Nat) (w : Nat) (pos : Nat) (ord : Nat) :
 SatSq P (sqEffect op s n w pos ord) := by
  unfold sqEffect
  repeat' with_reducible first
    | assumption | exact hP.mono (by decide +kernel) | apply sqMark_closed | apply sqFlagset_closed
    | apply sqPace_closed | apply sqSkip_closed | apply sqLap_closed | apply sqPost_closed | apply sqNop_closed
    | apply sqDrain_closed | apply sqPlogic_closed | apply sqWait_closed | apply sqEnd_closed
    | apply sqLapset_closed | apply sqPset_closed | apply SatSq.go | apply SatSq.hold | apply SatSq.bad
    | apply SatSq.stop | decide +kernel | split

theorem State.issued_closed {P : State → Prop} {s : State} (hP : Closed 0x1000000000000000000000000000000000000000000000000000000000000a04000 P) (h : P s) (n : Nat) (pos : Nat) (next : Nat) (ord : Nat) :
 P (State.issued s n pos next ord) := by
  unfold State.issued
  repeat' with_reducible first
    | assumption | intro _ | exact hP.mono (by decide +kernel) | apply State.stopIssue_closed
    | apply State.wrFld_closed | apply State.setCore_closed | apply ite_sat | apply foldl_sat | apply foldUp_sat
    | decide +kernel | split

theorem State.sqHold_closed {P : State → Prop} {s : State} (hP : Closed 0x1000000000000000000000000000000000000000000000000000000000000000000 P) (h : P s) (n : Nat) (w : SqWait) :
 P (State.sqHold s n w) := by
  unfold State.sqHold
  repeat' first
    | with_reducible assumption
    | intro _
    | exact hP.mono (by decide +kernel)
    | with_reducible apply State.setCore_closed
    | with_reducible apply ite_sat
    | with_reducible apply foldl_sat
    | with_reducible apply foldUp_sat
    | decide +kernel
    | split
    | dsimp only

theorem State.waitSelOver_closed {P : State → Prop} {s : State} (hP : Closed 0x1000000000000000000000000000000000000000000000000000000000000400000 P) (h : P s) (n : Nat) (f : Nat) :
 P (State.waitSelOver s n f) := by
  unfold State.waitSelOver
  repeat' with_reducible first
    | assumption | exact hP.mono (by decide +kernel) | apply State.takeFlag_closed | apply State.setCore_closed
    | decide +kernel | split

theorem issueSq_closed {P : State → Prop} {s : State} (hP : Closed 0x1000000000000000000000000000000000000000000000000000000000000e04000 P) (h : P s) (op : CoreOp) (n : Nat) (w : Nat) (pos : Nat) (ord : Nat) (en : Bool) :
 P (issueSq op s n w pos ord en) := by
  unfold issueSq
  repeat' with_reducible first
    | assumption | intro _ | exact hP.mono (by decide +kernel) | apply State.post_closed
    | apply State.waitSelOver_closed | apply State.stopIssue_closed | apply State.haltCore_closed
    | apply State.issued_closed | apply State.sqHold_closed | apply sqEffect_closed | apply SatSq.go
    | apply SatSq.hold | apply SatSq.bad | apply SatSq.stop | apply ite_sat | apply foldl_sat | apply foldUp_sat
    | decide +kernel | refine SatSq.eq_go ?_ (by assumption) | refine SatSq.eq_bad ?_ (by assumption)
    | refine SatSq.eq_stop ?_ (by assumption) | split

theorem issueQueued_closed {P : State → Prop} {s : State} (hP : Closed 0x1000000000000000000000000000000000000000000000000000000000000a04000 P) (h : P s) (op : CoreOp) (n : Nat) (w : Nat) (pos : Nat) (ord : Nat) (en : Bool) :
 P (issueQueued op s n w pos ord en) := by
  unfold issueQueued
  repeat' with_reducible first
    | assumption | intro _ | exact hP.mono (by decide +kernel) | apply State.issued_closed
    | apply State.sqHold_closed | apply State.setCore_closed | apply ite_sat | apply foldl_sat | apply foldUp_sat
    | decide +kernel | split

theorem issueRow_closed {P : State → Prop} {s : State} (hP : Closed 0x1020000000000000000000000000000000000000000000000000000000002f04000 P) (h : P s) (op : CoreOp) (n : Nat) :
 SatR P (issueRow op n s) := by
  unfold issueRow
  repeat' with_reducible first
    | assumption | intro _ | exact hP.mono (by decide +kernel) | apply issueSq_closed | apply State.haltCore_closed
    | apply issueQueued_closed | apply State.advance_closed | apply SatR.next | apply SatR.fault
    | apply SatR.refused | apply ite_sat | apply foldl_sat | apply foldUp_sat | decide +kernel
    | refine SatR.of_eq ?_ (by assumption) | split

theorem execNop_closed {P : State → Prop} {s : State} (hP : Closed 0x1020000000000000000000000000000000000000000000000000000000002f04000 P) (h : P s) (core : Nat) :
 SatR P (execNop core s) := by
  unfold execNop
  repeat' with_reducible first
    | assumption | exact hP.mono (by decide +kernel) | apply issueRow_closed | apply SatR.next | apply SatR.fault
    | apply SatR.refused | decide +kernel | split

theorem execSqEnd_closed {P : State → Prop} {s : State} (hP : Closed 0x1020000000000000000000000000000000000000000000000000000000002f04000 P) (h : P s) (core : Nat) :
 SatR P (execSqEnd core s) := by
  unfold execSqEnd
  repeat' with_reducible first
    | assumption | exact hP.mono (by decide +kernel) | apply issueRow_closed | apply SatR.next | apply SatR.fault
    | apply SatR.refused | decide +kernel | split

theorem execPace_closed {P : State → Prop} {s : State} (hP : Closed 0x1020000000000000000000000000000000000000000000000000000000002f04000 P) (h : P s) (core : Nat) :
 SatR P (execPace core s) := by
  unfold execPace
  repeat' with_reducible first
    | assumption | exact hP.mono (by decide +kernel) | apply issueRow_closed | apply SatR.next | apply SatR.fault
    | apply SatR.refused | decide +kernel | split

theorem execWait_closed {P : State → Prop} {s : State} (hP : Closed 0x1020000000000000000000000000000000000000000000000000000000002f04000 P) (h : P s) (core : Nat) :
 SatR P (execWait core s) := by
  unfold execWait
  repeat' with_reducible first
    | assumption | exact hP.mono (by decide +kernel) | apply issueRow_closed | apply SatR.next | apply SatR.fault
    | apply SatR.refused | decide +kernel | split

theorem execPost_closed {P : State → Prop} {s : State} (hP : Closed 0x1020000000000000000000000000000000000000000000000000000000002f04000 P) (h : P s) (core : Nat) :
 SatR P (execPost core s) := by
  unfold execPost
  repeat' with_reducible first
    | assumption | exact hP.mono (by decide +kernel) | apply issueRow_closed | apply SatR.next | apply SatR.fault
    | apply SatR.refused | decide +kernel | split

theorem execFlagset_closed {P : State → Prop} {s : State} (hP : Closed 0x1020000000000000000000000000000000000000000000000000000000002f04000 P) (h : P s) (core : Nat) :
 SatR P (execFlagset core s) := by
  unfold execFlagset
  repeat' with_reducible first
    | assumption | exact hP.mono (by decide +kernel) | apply issueRow_closed | apply SatR.next | apply SatR.fault
    | apply SatR.refused | decide +kernel | split

theorem execPset_closed {P : State → Prop} {s : State} (hP : Closed 0x1020000000000000000000000000000000000000000000000000000000002f04000 P) (h : P s) (core : Nat) :
 SatR P (execPset core s) := by
  unfold execPset
  repeat' with_reducible first
    | assumption | exact hP.mono (by decide +kernel) | apply issueRow_closed | apply SatR.next | apply SatR.fault
    | apply SatR.refused | decide +kernel | split

theorem execPlogic_closed {P : State → Prop} {s : State} (hP : Closed 0x1020000000000000000000000000000000000000000000000000000000002f04000 P) (h : P s) (core : Nat) :
 SatR P (execPlogic core s) := by
  unfold execPlogic
  repeat' with_reducible first
    | assumption | exact hP.mono (by decide +kernel) | apply issueRow_closed | apply SatR.next | apply SatR.fault
    | apply SatR.refused | decide +kernel | split

theorem execSkip_closed {P : State → Prop} {s : State} (hP : Closed 0x1020000000000000000000000000000000000000000000000000000000002f04000 P) (h : P s) (core : Nat) :
 SatR P (execSkip core s) := by
  unfold execSkip
  repeat' with_reducible first
    | assumption | exact hP.mono (by decide +kernel) | apply issueRow_closed | apply SatR.next | apply SatR.fault
    | apply SatR.refused | decide +kernel | split

theorem execLapset_closed {P : State → Prop} {s : State} (hP : Closed 0x1020000000000000000000000000000000000000000000000000000000002f04000 P) (h : P s) (core : Nat) :
 SatR P (execLapset core s) := by
  unfold execLapset
  repeat' with_reducible first
    | assumption | exact hP.mono (by decide +kernel) | apply issueRow_closed | apply SatR.next | apply SatR.fault
    | apply SatR.refused | decide +kernel | split

theorem execLap_closed {P : State → Prop} {s : State} (hP : Closed 0x1020000000000000000000000000000000000000000000000000000000002f04000 P) (h : P s) (core : Nat) :
 SatR P (execLap core s) := by
  unfold execLap
  repeat' with_reducible first
    | assumption | exact hP.mono (by decide +kernel) | apply issueRow_closed | apply SatR.next | apply SatR.fault
    | apply SatR.refused | decide +kernel | split

theorem execDrain_closed {P : State → Prop} {s : State} (hP : Closed 0x1020000000000000000000000000000000000000000000000000000000002f04000 P) (h : P s) (core : Nat) :
 SatR P (execDrain core s) := by
  unfold execDrain
  repeat' with_reducible first
    | assumption | exact hP.mono (by decide +kernel) | apply issueRow_closed | apply SatR.next | apply SatR.fault
    | apply SatR.refused | decide +kernel | split

theorem execMark_closed {P : State → Prop} {s : State} (hP : Closed 0x1020000000000000000000000000000000000000000000000000000000002f04000 P) (h : P s) (core : Nat) :
 SatR P (execMark core s) := by
  unfold execMark
  repeat' with_reducible first
    | assumption | exact hP.mono (by decide +kernel) | apply issueRow_closed | apply SatR.next | apply SatR.fault
    | apply SatR.refused | decide +kernel | split

theorem execMma_closed {P : State → Prop} {s : State} (hP : Closed 0x1020000000000000000000000000000000000000000000000000000000002f04000 P) (h : P s) (core : Nat) :
 SatR P (execMma core s) := by
  unfold execMma
  repeat' with_reducible first
    | assumption | exact hP.mono (by decide +kernel) | apply issueRow_closed | apply SatR.next | apply SatR.fault
    | apply SatR.refused | decide +kernel | split

theorem execMout_closed {P : State → Prop} {s : State} (hP : Closed 0x1020000000000000000000000000000000000000000000000000000000002f04000 P) (h : P s) (core : Nat) :
 SatR P (execMout core s) := by
  unfold execMout
  repeat' with_reducible first
    | assumption | exact hP.mono (by decide +kernel) | apply issueRow_closed | apply SatR.next | apply SatR.fault
    | apply SatR.refused | decide +kernel | split

theorem execMpart_closed {P : State → Prop} {s : State} (hP : Closed 0x1020000000000000000000000000000000000000000000000000000000002f04000 P) (h : P s) (core : Nat) :
 SatR P (execMpart core s) := by
  unfold execMpart
  repeat' with_reducible first
    | assumption | exact hP.mono (by decide +kernel) | apply issueRow_closed | apply SatR.next | apply SatR.fault
    | apply SatR.refused | decide +kernel | split

theorem execMclr_closed {P : State → Prop} {s : State} (hP : Closed 0x1020000000000000000000000000000000000000000000000000000000002f04000 P) (h : P s) (core : Nat) :
 SatR P (execMclr core s) := by
  unfold execMclr
  repeat' with_reducible first
    | assumption | exact hP.mono (by decide +kernel) | apply issueRow_closed | apply SatR.next | apply SatR.fault
    | apply SatR.refused | decide +kernel | split

theorem execVop_closed {P : State → Prop} {s : State} (hP : Closed 0x1020000000000000000000000000000000000000000000000000000000002f04000 P) (h : P s) (core : Nat) :
 SatR P (execVop core s) := by
  unfold execVop
  repeat' with_reducible first
    | assumption | exact hP.mono (by decide +kernel) | apply issueRow_closed | apply SatR.next | apply SatR.fault
    | apply SatR.refused | decide +kernel | split

theorem execVcmp_closed {P : State → Prop} {s : State} (hP : Closed 0x1020000000000000000000000000000000000000000000000000000000002f04000 P) (h : P s) (core : Nat) :
 SatR P (execVcmp core s) := by
  unfold execVcmp
  repeat' with_reducible first
    | assumption | exact hP.mono (by decide +kernel) | apply issueRow_closed | apply SatR.next | apply SatR.fault
    | apply SatR.refused | decide +kernel | split

theorem execVfunc_closed {P : State → Prop} {s : State} (hP : Closed 0x1020000000000000000000000000000000000000000000000000000000002f04000 P) (h : P s) (core : Nat) :
 SatR P (execVfunc core s) := by
  unfold execVfunc
  repeat' with_reducible first
    | assumption | exact hP.mono (by decide +kernel) | apply issueRow_closed | apply SatR.next | apply SatR.fault
    | apply SatR.refused | decide +kernel | split

theorem execVred_closed {P : State → Prop} {s : State} (hP : Closed 0x1020000000000000000000000000000000000000000000000000000000002f04000 P) (h : P s) (core : Nat) :
 SatR P (execVred core s) := by
  unfold execVred
  repeat' with_reducible first
    | assumption | exact hP.mono (by decide +kernel) | apply issueRow_closed | apply SatR.next | apply SatR.fault
    | apply SatR.refused | decide +kernel | split

theorem execVcvt_closed {P : State → Prop} {s : State} (hP : Closed 0x1020000000000000000000000000000000000000000000000000000000002f04000 P) (h : P s) (core : Nat) :
 SatR P (execVcvt core s) := by
  unfold execVcvt
  repeat' with_reducible first
    | assumption | exact hP.mono (by decide +kernel) | apply issueRow_closed | apply SatR.next | apply SatR.fault
    | apply SatR.refused | decide +kernel | split

theorem execVwiden_closed {P : State → Prop} {s : State} (hP : Closed 0x1020000000000000000000000000000000000000000000000000000000002f04000 P) (h : P s) (core : Nat) :
 SatR P (execVwiden core s) := by
  unfold execVwiden
  repeat' with_reducible first
    | assumption | exact hP.mono (by decide +kernel) | apply issueRow_closed | apply SatR.next | apply SatR.fault
    | apply SatR.refused | decide +kernel | split

theorem execVld_closed {P : State → Prop} {s : State} (hP : Closed 0x1020000000000000000000000000000000000000000000000000000000002f04000 P) (h : P s) (core : Nat) :
 SatR P (execVld core s) := by
  unfold execVld
  repeat' with_reducible first
    | assumption | exact hP.mono (by decide +kernel) | apply issueRow_closed | apply SatR.next | apply SatR.fault
    | apply SatR.refused | decide +kernel | split

theorem execVst_closed {P : State → Prop} {s : State} (hP : Closed 0x1020000000000000000000000000000000000000000000000000000000002f04000 P) (h : P s) (core : Nat) :
 SatR P (execVst core s) := by
  unfold execVst
  repeat' with_reducible first
    | assumption | exact hP.mono (by decide +kernel) | apply issueRow_closed | apply SatR.next | apply SatR.fault
    | apply SatR.refused | decide +kernel | split

theorem execVbmp_closed {P : State → Prop} {s : State} (hP : Closed 0x1020000000000000000000000000000000000000000000000000000000002f04000 P) (h : P s) (core : Nat) :
 SatR P (execVbmp core s) := by
  unfold execVbmp
  repeat' with_reducible first
    | assumption | exact hP.mono (by decide +kernel) | apply issueRow_closed | apply SatR.next | apply SatR.fault
    | apply SatR.refused | decide +kernel | split

theorem execRake_closed {P : State → Prop} {s : State} (hP : Closed 0x1020000000000000000000000000000000000000000000000000000000002f04000 P) (h : P s) (core : Nat) :
 SatR P (execRake core s) := by
  unfold execRake
  repeat' with_reducible first
    | assumption | exact hP.mono (by decide +kernel) | apply issueRow_closed | apply SatR.next | apply SatR.fault
    | apply SatR.refused | decide +kernel | split

theorem execRmask_closed {P : State → Prop} {s : State} (hP : Closed 0x1020000000000000000000000000000000000000000000000000000000002f04000 P) (h : P s) (core : Nat) :
 SatR P (execRmask core s) := by
  unfold execRmask
  repeat' with_reducible first
    | assumption | exact hP.mono (by decide +kernel) | apply issueRow_closed | apply SatR.next | apply SatR.fault
    | apply SatR.refused | decide +kernel | split

theorem execSeta_closed {P : State → Prop} {s : State} (hP : Closed 0x1020000000000000000000000000000000000000000000000000000000002f04000 P) (h : P s) (core : Nat) :
 SatR P (execSeta core s) := by
  unfold execSeta
  repeat' with_reducible first
    | assumption | exact hP.mono (by decide +kernel) | apply issueRow_closed | apply SatR.next | apply SatR.fault
    | apply SatR.refused | decide +kernel | split

theorem execLoad_closed {P : State → Prop} {s : State} (hP : Closed 0x1020000000000000000000000000000000000000000000000000000000002f04000 P) (h : P s) (core : Nat) :
 SatR P (execLoad core s) := by
  unfold execLoad
  repeat' with_reducible first
    | assumption | exact hP.mono (by decide +kernel) | apply issueRow_closed | apply SatR.next | apply SatR.fault
    | apply SatR.refused | decide +kernel | split

theorem execStore_closed {P : State → Prop} {s : State} (hP : Closed 0x1020000000000000000000000000000000000000000000000000000000002f04000 P) (h : P s) (core : Nat) :
 SatR P (execStore core s) := by
  unfold execStore
  repeat' with_reducible first
    | assumption | exact hP.mono (by decide +kernel) | apply issueRow_closed | apply SatR.next | apply SatR.fault
    | apply SatR.refused | decide +kernel | split

theorem execCopy_closed {P : State → Prop} {s : State} (hP : Closed 0x1020000000000000000000000000000000000000000000000000000000002f04000 P) (h : P s) (core : Nat) :
 SatR P (execCopy core s) := by
  unfold execCopy
  repeat' with_reducible first
    | assumption | exact hP.mono (by decide +kernel) | apply issueRow_closed | apply SatR.next | apply SatR.fault
    | apply SatR.refused | decide +kernel | split

theorem execAtom_closed {P : State → Prop} {s : State} (hP : Closed 0x1020000000000000000000000000000000000000000000000000000000002f04000 P) (h : P s) (core : Nat) :
 SatR P (execAtom core s) := by
  unfold execAtom
  repeat' with_reducible first
    | assumption | exact hP.mono (by decide +kernel) | apply issueRow_closed | apply SatR.next | apply SatR.fault
    | apply SatR.refused | decide +kernel | split

theorem execFence_closed {P : State → Prop} {s : State} (hP : Closed 0x1020000000000000000000000000000000000000000000000000000000002f04000 P) (h : P s) (core : Nat) :
 SatR P (execFence core s) := by
  unfold execFence
  repeat' with_reducible first
    | assumption | exact hP.mono (by decide +kernel) | apply issueRow_closed | apply SatR.next | apply SatR.fault
    | apply SatR.refused | decide +kernel | split

theorem execSignal_closed {P : State → Prop} {s : State} (hP : Closed 0x1020000000000000000000000000000000000000000000000000000000002f04000 P) (h : P s) (core : Nat) :
 SatR P (execSignal core s) := by
  unfold execSignal
  repeat' with_reducible first
    | assumption | exact hP.mono (by decide +kernel) | apply issueRow_closed | apply SatR.next | apply SatR.fault
    | apply SatR.refused | decide +kernel | split

theorem execColl_closed {P : State → Prop} {s : State} (hP : Closed 0x1020000000000000000000000000000000000000000000000000000000002f04000 P) (h : P s) (core : Nat) :
 SatR P (execColl core s) := by
  unfold execColl
  repeat' with_reducible first
    | assumption | exact hP.mono (by decide +kernel) | apply issueRow_closed | apply SatR.next | apply SatR.fault
    | apply SatR.refused | decide +kernel | split

end Sys2Proof.Laws
end

