-- ==== Sys2Proof/Laws/ClosedPaced.lean ====
section
/-! SUPPORT. The operations of Paced.lean keep every property that the writes of their footprint keep. -/

namespace Sys2Proof.Laws

set_option Elab.async false
set_option linter.all false

open Sys2Proof.Machine

theorem State.racedTm_closed {P : State → Prop} {s : State} (hP : Closed 0x10000000000000000000000000000000000000000000000000000000000000000 P) (h : P s) (n : Nat) (l : List (Nat × Nat × Nat)) :
 P (State.racedTm s n l) := by
  unfold State.racedTm
  repeat' with_reducible first
    | assumption | intro _ | exact hP.mono (by decide +kernel) | apply State.tmWrite_closed | apply ite_sat
    | apply foldl_sat | apply foldUp_sat | decide +kernel | split

theorem State.touch_closed {P : State → Prop} {s : State} (hP : Closed 0x3020000000000000000000000000000000000000000000000000000000000000000 P) (h : P s) (n : Nat) (p : Place) (wmask : Nat) (ord : Option Nat) :
 P (State.touch s n p wmask ord) := by
  unfold State.touch
  repeat' with_reducible first
    | assumption | exact hP.mono (by decide +kernel) | apply State.setRke_closed | apply State.setCore_closed
    | apply State.drawn_closed | decide +kernel | split

theorem State.applyEffect_closed {P : State → Prop} {s : State} (hP : Closed 0x3030000000000000000000000000000000000000000000000000000000018000000 P) (h : P s) (n : Nat) (ord : Nat) (e : Effect) :
 P (State.applyEffect s n ord e) := by
  unfold State.applyEffect
  repeat' with_reducible first
    | assumption | exact hP.mono (by decide +kernel) | apply State.tmWrite_closed | apply State.touch_closed
    | apply State.wr_closed | decide +kernel | split

theorem State.effectRead_closed {P : State → Prop} {s : State} (hP : Closed 0x1c00000001e1c19863868070000001000000800000104001000000000221c81800a900000040ec000001c00 P) (h : P s) (n : Nat) (e : Effect) (ecc : Ecc) :
 Sat2 P (State.effectRead s n e ecc) := by
  unfold State.effectRead
  repeat' with_reducible first
    | assumption | exact hP.mono (by decide +kernel) | apply State.eccRead_closed | apply Sat2.snd | decide +kernel
    | split | apply Sat2.pair

theorem State.applyEffects_closed {P : State → Prop} {s : State} (hP : Closed 0x1c00000001e1c1986386b070000001000000800000104001000000000221c81800a900000040ec018001c00 P) (h : P s) (n : Nat) (ord : Nat) (x3 : List Effect) (x4 : Ecc) :
 Sat2 P (State.applyEffects s n ord x3 x4) := by
  induction x3 generalizing s x4 with
  | nil => exact Sat2.pair h
  | cons e rest ih =>
    have he := State.effectRead_closed (hP.mono (by decide +kernel)) h n e x4
    rw [State.applyEffects]
    split
    · next eq => exact Sat2.pair (he.of_eq eq)
    · next eq => exact ih (State.applyEffect_closed (hP.mono (by decide +kernel)) (he.of_eq eq) _ _ _) _

theorem State.startPaced_closed {P : State → Prop} {s : State} (hP : Closed 0x3020000000000000000000000000000000000000000000000000000000004000000 P) (h : P s) (n : Nat) (q : QCmd) :
 P (State.startPaced s n q) := by
  unfold State.startPaced
  repeat' first
    | with_reducible assumption
    | intro _
    | exact hP.mono (by decide +kernel)
    | with_reducible apply State.setRke_closed
    | with_reducible apply State.setCore_closed
    | with_reducible apply State.inc_closed
    | with_reducible apply State.drawn_closed
    | with_reducible apply ite_sat
    | with_reducible apply foldl_sat
    | with_reducible apply foldUp_sat
    | decide +kernel
    | split
    | dsimp only

theorem State.pacedRun_closed {P : State → Prop} {s : State} (hP : Closed 0x1c00000001e1c1986386b070000001000000800000104001000000000221c81800a900000040ec004605c00 P) (h : P s) (n : Nat) (q : QCmd) (ecc : Ecc) :
 P (State.pacedRun s n q ecc) := by
  unfold State.pacedRun
  repeat' first
    | with_reducible assumption
    | intro _
    | exact hP.mono (by decide +kernel)
    | with_reducible apply State.post_closed
    | with_reducible apply eccRanges_closed
    | with_reducible apply State.startPaced_closed
    | with_reducible apply Sat2.snd
    | with_reducible apply ite_sat
    | with_reducible apply foldl_sat
    | with_reducible apply foldUp_sat
    | decide +kernel
    | with_reducible refine Sat2.of_eq ?_ (by with_reducible assumption)
    | split
    | with_reducible apply Sat2.pair
    | dsimp only

theorem execPacedDispatch_closed {P : State → Prop} {s : State} (hP : Closed 0x1c00000001e1c1986386b070000001000000a00000104001000000000221c81800a900000040ec006705c00 P) (h : P s) (core : Nat) (ecc : Ecc) :
 SatR P (execPacedDispatch core ecc s) := by
  unfold execPacedDispatch
  repeat' with_reducible first
    | assumption | exact hP.mono (by decide +kernel) | apply State.takeFlag_closed | apply State.setCore_closed
    | apply State.inc_closed | apply State.pacedRun_closed | apply State.advance_closed | apply SatR.next
    | apply SatR.fault | apply SatR.refused | decide +kernel | split

theorem State.setResult_closed {P : State → Prop} {s : State} (hP : Closed 0x3020000000000000000000000000000000000000000000000000000000000000000 P) (h : P s) (n : Nat) (f : Flight) (op : CoreOp) :
 P (State.setResult s n f op) := by
  unfold State.setResult
  repeat' with_reducible first
    | assumption | exact hP.mono (by decide +kernel) | apply State.touch_closed | apply State.setCore_closed
    | apply State.drawn_closed | decide +kernel | split

theorem execPacedResult_closed {P : State → Prop} {s : State} (hP : Closed 0x1c00000001e1c1986386b070000001000000800000104001000000000221c81800a900000040ed81b705c00 P) (h : P s) (core : Nat) (ecc : Ecc) :
 SatR P (execPacedResult core ecc s) := by
  unfold execPacedResult
  repeat' first
    | with_reducible assumption
    | intro _
    | exact hP.mono (by decide +kernel)
    | with_reducible apply State.post_closed
    | with_reducible apply State.addTotals_closed
    | with_reducible apply State.applyEffects_closed
    | with_reducible apply State.setResult_closed
    | with_reducible apply State.writeSlot_closed
    | with_reducible apply State.setCore_closed
    | with_reducible apply State.drawn_closed
    | with_reducible apply State.advance_closed
    | with_reducible apply Sat2.snd
    | with_reducible apply SatR.next
    | with_reducible apply SatR.fault
    | with_reducible apply SatR.refused
    | with_reducible apply ite_sat
    | with_reducible apply foldl_sat
    | with_reducible apply foldUp_sat
    | decide +kernel
    | with_reducible refine Sat2.of_eq ?_ (by with_reducible assumption)
    | with_reducible refine SatR.of_eq ?_ (by with_reducible assumption)
    | split
    | with_reducible apply Sat2.pair
    | dsimp only

theorem execWaitLimit_closed {P : State → Prop} {s : State} (hP : Closed 0x1020000000000000000000000000000000000000000000000000000000002304000 P) (h : P s) (core : Nat) :
 SatR P (execWaitLimit core s) := by
  unfold execWaitLimit
  repeat' with_reducible first
    | assumption | intro _ | exact hP.mono (by decide +kernel) | apply State.haltCore_closed
    | apply State.advance_closed | apply SatR.next | apply SatR.fault | apply SatR.refused | apply ite_sat
    | apply foldl_sat | apply foldUp_sat | decide +kernel | refine SatR.of_eq ?_ (by assumption) | split

theorem execCoreComplete_closed {P : State → Prop} {s : State} (hP : Closed 0x204000 P) (h : P s) (core : Nat) :
 SatR P (execCoreComplete core s) := by
  unfold execCoreComplete
  repeat' with_reducible first
    | assumption | exact hP.mono (by decide +kernel) | apply State.wr_closed | apply State.wrFld_closed
    | apply SatR.next | apply SatR.fault | apply SatR.refused | decide +kernel | split

theorem State.launch_closed {P : State → Prop} {s : State} (hP : Closed 0x40000000001000000000000000000000000000008000000000000000001000000000003e04000 P) (h : P s) (core : Nat) (off : Nat) :
 P (State.launch s core off) := by
  unfold State.launch
  refine State.wr_closed hP (by decide +kernel) (ite_sat ?_ (hP.drop _ _ (fun p hp => ?_) ?_)) _ _
  case refine_2 =>
    have : (p.1 / 2 ^ 32 == Obj.flags) = false := by
      cases he : p.1 / 2 ^ 32 == Obj.flags with
      | false => rfl
      | true => rw [eq_of_beq he] at hp; exact absurd hp (by decide +kernel)
    simp only [this, Bool.false_and, Bool.not_false]
  all_goals
    refine State.wr_closed hP (by decide +kernel) (State.wr_closed hP (by decide +kernel) ?_ _ _) _ _
    refine foldUp_sat (foldUp_sat ?_ fun k b hb => State.wr_closed hP (by decide +kernel) hb _ _)
      fun k b hb => State.wr_closed hP (by decide +kernel) hb _ _
    refine State.wr_closed hP (by decide +kernel) (State.wr_closed hP (by decide +kernel) ?_ _ _) _ _
    exact State.setCore_closed (hP.mono (by decide +kernel)) (State.ringCoreEnds_closed (hP.mono (by decide +kernel)) h _) _ _

theorem State.tryLaunch_closed {P : State → Prop} {s : State} (hP : Closed 0x1c00000001e1c19863869070000001000000800000104001008000000221c81800a910000040ec003e05c00 P) (h : P s) (core : Nat) (off : Nat) (ecc : Ecc) :
 Sat2 P (State.tryLaunch s core off ecc) := by
  unfold State.tryLaunch
  repeat' with_reducible first
    | assumption | intro _ | exact hP.mono (by decide +kernel) | apply State.eccRead_closed
    | apply State.launch_closed | apply Sat2.snd | apply ite_sat | apply foldl_sat | apply foldUp_sat
    | decide +kernel | refine Sat2.of_eq ?_ (by assumption) | split | apply Sat2.pair

theorem execCoreLaunch_closed {P : State → Prop} {s : State} (hP : Closed 0x1c00000001e1c19863869070000001000000800000104001008000000221c81800a910000040ec003e0dc00 P) (h : P s) (value : Nat) (ecc : Ecc) :
 SatR P (execCoreLaunch value ecc s) := by
  unfold execCoreLaunch
  repeat' with_reducible first
    | assumption | exact hP.mono (by decide +kernel) | apply State.tryLaunch_closed | apply State.wr_closed
    | apply Sat2.snd | apply SatR.next | apply SatR.fault | apply SatR.refused | decide +kernel | split
    | apply Sat2.pair

theorem execCoreStop_closed {P : State → Prop} {s : State} (hP : Closed 0x1000000000000000000000000000000000000000000000000000000000000614000 P) (h : P s) (value : Nat) :
 SatR P (execCoreStop value s) := by
  unfold execCoreStop
  repeat' with_reducible first
    | assumption | exact hP.mono (by decide +kernel) | apply State.setFlag_closed | apply State.stopIssue_closed
    | apply State.wr_closed | apply SatR.next | apply SatR.fault | apply SatR.refused | decide +kernel | split

theorem execTotalClear_closed {P : State → Prop} {s : State} (hP : Closed 0x3800000000 P) (h : P s) (value : Nat) :
 SatR P (execTotalClear value s) := by
  unfold execTotalClear
  repeat' with_reducible first
    | assumption | exact hP.mono (by decide +kernel) | apply State.wr_closed | apply State.clearObj_closed
    | apply SatR.next | apply SatR.fault | apply SatR.refused | decide +kernel | split

theorem execIcacheFill_closed {P : State → Prop} {s : State} (hP : Closed 0x1c00000001e1c19863869070000001000000800000104001000000000221c81800a900000040ec000041c00 P) (h : P s) (core : Nat) (line : Nat) (parity : Bool) (ecc : Ecc) :
 SatR P (execIcacheFill core line parity ecc s) := by
  unfold execIcacheFill
  repeat' first
    | with_reducible assumption
    | intro _
    | exact hP.mono (by decide +kernel)
    | with_reducible apply State.eccRead_closed
    | with_reducible apply State.setCore_closed
    | with_reducible apply State.inc_closed
    | with_reducible apply Sat2.snd
    | with_reducible apply SatR.next
    | with_reducible apply SatR.fault
    | with_reducible apply SatR.refused
    | with_reducible apply ite_sat
    | with_reducible apply foldl_sat
    | with_reducible apply foldUp_sat
    | decide +kernel
    | with_reducible refine Sat2.of_eq ?_ (by with_reducible assumption)
    | with_reducible refine SatR.of_eq ?_ (by with_reducible assumption)
    | split
    | with_reducible apply Sat2.pair
    | dsimp only

theorem execStrideWindowEnd_closed {P : State → Prop} {s : State} (hP : Closed 0x8000000000000000003000000000000000000000000000000000000000000000000000000000400080000 P) (h : P s) :
 SatR P (execStrideWindowEnd s) := by
  unfold execStrideWindowEnd
  repeat' with_reducible first
    | assumption | intro _ | exact hP.mono (by decide +kernel) | apply State.rateWindowEnd_closed | apply SatR.next
    | apply SatR.fault | apply SatR.refused | apply ite_sat | apply foldl_sat | apply foldUp_sat | decide +kernel
    | refine SatR.of_eq ?_ (by assumption) | split

end Sys2Proof.Laws
end

