-- ==== Sys2Proof/Laws/ClosedGmu.lean ====
section
/-! SUPPORT. The operations of Gmu.lean keep every property that the writes of their footprint keep. -/

namespace Sys2Proof.Laws

set_option Elab.async false
set_option linter.all false

open Sys2Proof.Machine

/-- The property of the state in a result of type SendTry. -/
structure SatTry (P : State → Prop) (r : SendTry) : Prop where
  of_sent : ∀ t, r = .sent t → P t
  of_ended : ∀ t, r = .ended t → P t
theorem SatTry.sent {P : State → Prop} {t : State} (h : P t) : SatTry P (.sent t) := ⟨by rintro _ ⟨⟩; exact h, by rintro _ ⟨⟩⟩
theorem SatTry.eq_sent {P : State → Prop} {t : State} {r : SendTry} (h : SatTry P r) (e : r = .sent t) : P t := h.of_sent _ e
theorem SatTry.ended {P : State → Prop} {t : State} (h : P t) : SatTry P (.ended t) := ⟨by rintro _ ⟨⟩, by rintro _ ⟨⟩; exact h⟩
theorem SatTry.eq_ended {P : State → Prop} {t : State} {r : SendTry} (h : SatTry P r) (e : r = .ended t) : P t := h.of_ended _ e
theorem SatTry.stays {P : State → Prop} : SatTry P (.stays) := ⟨by rintro _ ⟨⟩, by rintro _ ⟨⟩⟩

/-- The property of the state in a result of type Served. -/
structure SatServed (P : State → Prop) (r : Served) : Prop where
  state : P r.state
theorem SatServed.pair {P : State → Prop} {a b} {t : State} (h : P t) : SatServed P ⟨a, b, t⟩ := ⟨h⟩
theorem SatServed.of_eq {P : State → Prop} {r : Served} {a b} {t : State} (h : SatServed P r) (e : r = ⟨a, b, t⟩) : P t := by subst e; exact h.state

theorem State.setSrc_closed {P : State → Prop} {s : State} (hP : Closed 0x100000000000000000000000000000000000000000000000000000000000000000000 P) (h : P s) (e : Nat) (x : SrcSt) :
 P (State.setSrc s e x) := by
  unfold State.setSrc
  repeat' with_reducible first
    | assumption | exact hP.mono (by decide +kernel) | decide +kernel | split | apply hP.srcSts

theorem State.freeSrc_closed {P : State → Prop} {s : State} (hP : Closed 0x100000000000000000000000000000000000000000000000000100000000000000000 P) (h : P s) (e : Nat) :
 P (State.freeSrc s e) := by
  unfold State.freeSrc
  repeat' with_reducible first
    | assumption | exact hP.mono (by decide +kernel) | apply State.setSrc_closed | apply State.wr_closed
    | decide +kernel | split

theorem State.streamEvent_closed {P : State → Prop} {s : State} (hP : Closed 0x20000000000000000000000000000000000000000000000400000000000000000 P) (h : P s) (k : Nat) :
 P (State.streamEvent s k) := by
  unfold State.streamEvent
  repeat' with_reducible first
    | assumption | exact hP.mono (by decide +kernel) | apply State.inc_closed | decide +kernel | split

theorem State.gmuError_closed {P : State → Prop} {s : State} (hP : Closed 0x20000000000000000000000000000000000000000000001000000000000000000 P) (h : P s) (n : Nat) (ord : Nat) (r : GReq) (status : Nat) :
 P (State.gmuError s n ord r status) := by
  unfold State.gmuError
  repeat' with_reducible first
    | assumption | exact hP.mono (by decide +kernel) | apply State.wr_closed | apply State.inc_closed
    | decide +kernel | split

theorem State.endCmd_closed {P : State → Prop} {s : State} (hP : Closed 0x1000000000000000000000000000000000000000000000000000000000000604000 P) (h : P s) (n : Nat) (ord : Nat) (ok : Bool) :
 P (State.endCmd s n ord ok) := by
  unfold State.endCmd
  repeat' first
    | with_reducible assumption
    | intro _
    | exact hP.mono (by decide +kernel)
    | with_reducible apply State.post_closed
    | with_reducible apply State.setCore_closed
    | with_reducible apply ite_sat
    | with_reducible apply foldl_sat
    | with_reducible apply foldUp_sat
    | decide +kernel
    | split
    | dsimp only

theorem State.tmStore_closed {P : State → Prop} {s : State} (hP : Closed 0x1c00000001e1c1986386b070000001000000800000104001000000000221c81800a900000040ec000001c00 P) (h : P s) (n : Nat) (off : Nat) (bs : List Byte) (e : Ecc) :
 P (State.tmStore s n off bs e) := by
  unfold State.tmStore
  repeat' with_reducible first
    | assumption | intro _ | exact hP.mono (by decide +kernel) | apply State.touch_closed
    | apply State.mergeRead_closed | apply State.memWrite_closed | apply Sat2.snd | apply ite_sat | apply foldl_sat
    | apply foldUp_sat | decide +kernel | refine Sat2.of_eq ?_ (by assumption) | split | apply Sat2.pair

theorem State.memStore_closed {P : State → Prop} {s : State} (hP : Closed 0x3030000000000000000000000000000000000000000000000000000000000000000 P) (h : P s) (region : Nat) (off : Nat) (bs : List Byte) :
 P (State.memStore s region off bs) := by
  unfold State.memStore
  repeat' with_reducible first
    | assumption | exact hP.mono (by decide +kernel) | apply State.touch_closed | apply State.store_closed
    | decide +kernel | split

theorem State.endReq_closed {P : State → Prop} {s : State} (hP : Closed 0x1c00400001e1c19863f6b070000001000000800000116001000000000221c81800a911000040ec000605c00 P) (h : P s) (r : GReq) (status : Nat) (data : List Byte) (e : Ecc) :
 P (State.endReq s r status data e) := by
  unfold State.endReq
  repeat' with_reducible first
    | assumption | exact hP.mono (by decide +kernel) | apply State.tmStore_closed | apply State.freeSrc_closed
    | apply State.hostReqEnd_closed | apply State.gmuError_closed | apply State.endCmd_closed
    | apply State.quietTold_closed | decide +kernel | split | apply hP.dstSts | apply hP.guards | apply hP.waiting
    | apply Closed.dstSts_waiting hP

theorem State.endLost_closed {P : State → Prop} {s : State} (hP : Closed 0x1c00400001e1c19863f6b070000001000000800000116001000000000221c81800a911200040ec000605c00 P) (h : P s) (r : GReq) :
 P (State.endLost s r) := by
  unfold State.endLost
  repeat' with_reducible first
    | assumption | exact hP.mono (by decide +kernel) | apply State.endReq_closed | apply State.inc_closed
    | decide +kernel | split

theorem State.openSrc_closed {P : State → Prop} {s : State} (hP : Closed 0x100000000000000000 P) (h : P s) (dest : Nat) (stream : Nat) :
 SatO2 P (State.openSrc s dest stream) :=
  map_sat2 fun _ => State.wr_closed hP (by decide +kernel) h _ _

theorem State.launchReq_closed {P : State → Prop} {s : State} (hP : Closed 0x40040000000000000000000000000000000000000000000000000000000000000000 P) (h : P s) (r : GReq) (sync : Bool) :
 P (State.launchReq s r sync) := by
  unfold State.launchReq
  repeat' with_reducible first
    | assumption | exact hP.mono (by decide +kernel) | apply State.sendFrame_closed | decide +kernel | split
    | apply hP.sent

theorem State.sendReset_closed {P : State → Prop} {s : State} (hP : Closed 0x140040000000000000000000000000000000000000000000000100000000000000000 P) (h : P s) (r : GReq) (e : Nat) :
 P (State.sendReset s r e) := by
  unfold State.sendReset
  repeat' with_reducible first
    | assumption | exact hP.mono (by decide +kernel) | apply State.setSrc_closed | apply State.wrFld_closed
    | apply State.launchReq_closed | decide +kernel | split

theorem State.trySend_closed {P : State → Prop} {s : State} (hP : Closed 0x1c00400001e1c19863f6b070000001000000800000116001000000000221c81800a911200040ec000605c00 P) (h : P s) (r : GReq) :
 SatTry P (State.trySend s r) := by
  have ho (e f : Nat) : SatO P (((s.openSrc e f).map fun p => (p.1, true, p.2)).map fun p => p.2.2) := by
    have hs := State.openSrc_closed (hP.mono (by decide +kernel)) h e f
    cases hq : s.openSrc e f with
    | none => exact SatO.none
    | some p => exact SatO.some (hs.of_eq hq)
  unfold State.trySend
  split
  · exact SatTry.stays
  · split
    · exact SatTry.stays
    · dsimp only
      split
      · exact SatTry.sent (State.sendReset_closed (hP.mono (by decide +kernel)) h _ _)
      split
      · exact SatTry.sent (State.launchReq_closed (hP.mono (by decide +kernel)) h _ _)
      · split
        · exact SatTry.ended (State.endReq_closed (hP.mono (by decide +kernel)) h _ _ _ _)
        · next e fresh t he =>
          have ht : P t := by
            split at he
            · cases he; exact h
            · exact (ho _ _).of_eq (by rw [he]; rfl)
          by_cases h3 : t.srcState e = 3
          · rw [if_pos h3]
            exact SatTry.ended (State.endLost_closed (hP.mono (by decide +kernel)) ht _)
          · rw [if_neg h3]
            refine ite_sat SatTry.stays ?_
            · refine SatTry.sent (State.launchReq_closed (hP.mono (by decide +kernel))
                (State.wrFld_closed (c := Obj.srcStreams) hP (by decide +kernel) (ite_sat ?_ ht) _ _ _ _) _ _)
              exact State.setSrc_closed (hP.mono (by decide +kernel)) ht _ _

theorem pumpGo_closed {P : State → Prop} {x3 : State} (hP : Closed 0x1c00400001e1c19863f6b070000001000000800000116001000000000221c81800a911200040ec000605c00 P) (h : P x3) (x0 : List GReq) (x1 : List Nat) (x2 : List GReq) :
 P (pumpGo x0 x1 x2 x3) := by
  induction x0 generalizing x1 x2 x3 with
  | nil => exact hP.waiting (by decide +kernel) _ _ h
  | cons r rest ih =>
    have ht := State.trySend_closed hP h r
    rw [pumpGo]
    dsimp only
    split
    · exact ih h _ _
    · split
      · exact ih h _ _
      · refine ih ?_ _ _
        unfold SendTry.state
        split
        · exact ht.eq_sent (by assumption)
        · exact ht.eq_ended (by assumption)
        · exact h

theorem State.pump_closed {P : State → Prop} {s : State} (hP : Closed 0x1c00400001e1c19863f6b070000001000000800000116001000000000221c81800a911200040ec000605c00 P) (h : P s) :
 P (State.pump s) := by
  unfold State.pump
  repeat' with_reducible first
    | assumption | exact hP.mono (by decide +kernel) | apply pumpGo_closed | decide +kernel | split
    | apply hP.waiting

theorem State.ackMoved_closed {P : State → Prop} {s : State} (hP : Closed 0x100000000000000000 P) (h : P s) (e : Nat) :
 P (State.ackMoved s e) := by
  unfold State.ackMoved
  repeat' with_reducible first
    | assumption | intro _ | exact hP.mono (by decide +kernel) | apply State.wrFld_closed | apply ite_sat
    | apply foldl_sat | apply foldUp_sat | decide +kernel | split

theorem State.breakStream_closed {P : State → Prop} {s : State} (hP : Closed 0x1c00400001e1c19863f6b070000001000000800000116001000000000221c81800a911200040ec000605c00 P) (h : P s) (e : Nat) :
 P (State.breakStream s e) := by
  unfold State.breakStream
  repeat' with_reducible first
    | assumption | intro _ | exact hP.mono (by decide +kernel) | apply State.endLost_closed
    | apply State.wrFld_closed | apply ite_sat | apply foldl_sat | apply foldUp_sat | decide +kernel | split
    | apply hP.sent

theorem State.replayStream_closed {P : State → Prop} {s : State} (hP : Closed 0x40040000000000000000000000000000000000000000000000000000000000000000 P) (h : P s) (e : Nat) :
 P (State.replayStream s e) := by
  unfold State.replayStream
  repeat' with_reducible first
    | assumption | intro _ | exact hP.mono (by decide +kernel) | apply State.sendFrame_closed | apply ite_sat
    | apply foldl_sat | apply foldUp_sat | decide +kernel | split | apply hP.sent

theorem State.cutStream_closed {P : State → Prop} {s : State} (hP : Closed 0x1c00400001e1c19863f6b070000001000000800000116001000000000221c81800a915200040ec000605c00 P) (h : P s) (e : Nat) (wasHeld : Bool) :
 P (State.cutStream s e wasHeld) := by
  unfold State.cutStream
  repeat' with_reducible first
    | assumption | intro _ | exact hP.mono (by decide +kernel) | apply State.breakStream_closed
    | apply State.streamEvent_closed | apply State.wrFld_closed | apply State.replayStream_closed | apply ite_sat
    | apply foldl_sat | apply foldUp_sat | decide +kernel | split

theorem execGmuReply_closed {P : State → Prop} {s : State} (hP : Closed 0x1c00400001e1c19863f6b070000001000000800000116001000000000221c81800a915300040ec000605c00 P) (h : P s) (f : Frame) (ecc : Ecc) :
 SatR P (execGmuReply f ecc s) := by
  unfold execGmuReply
  repeat' first
    | with_reducible assumption
    | intro _
    | exact hP.mono (by decide +kernel)
    | with_reducible apply State.freeSrc_closed
    | with_reducible apply State.pump_closed
    | with_reducible apply State.streamEvent_closed
    | with_reducible apply State.endReq_closed
    | with_reducible apply State.cutStream_closed
    | with_reducible apply State.ackMoved_closed
    | with_reducible apply State.inc_closed
    | with_reducible apply SatR.next
    | with_reducible apply SatR.fault
    | with_reducible apply SatR.refused
    | with_reducible apply ite_sat
    | with_reducible apply foldl_sat
    | with_reducible apply foldUp_sat
    | decide +kernel
    | with_reducible refine SatR.of_eq ?_ (by with_reducible assumption)
    | split
    | with_reducible apply hP.sent
    | dsimp only

theorem execReplayAfterExpiry_closed {P : State → Prop} {s : State} (hP : Closed 0x1c00400001e1c19863f6b070000001000000800000116001000000000221c81800a915200040ec000605c00 P) (h : P s) (entry : Nat) :
 SatR P (execReplayAfterExpiry entry s) := by
  unfold execReplayAfterExpiry
  repeat' with_reducible first
    | assumption | intro _ | exact hP.mono (by decide +kernel) | apply State.freeSrc_closed
    | apply State.pump_closed | apply State.setSrc_closed | apply State.sendFrame_closed
    | apply State.cutStream_closed | apply SatR.next | apply SatR.fault | apply SatR.refused | apply ite_sat
    | apply foldl_sat | apply foldUp_sat | decide +kernel | refine SatR.of_eq ?_ (by assumption) | split
    | apply hP.sent

theorem execAbandonAfterExpiry_closed {P : State → Prop} {s : State} (hP : Closed 0x1c00400001e1c19863feb070000001000000800000116001000000000221c81800a911200040ec000605c00 P) (h : P s) (tag : Nat) :
 SatR P (execAbandonAfterExpiry tag s) := by
  unfold execAbandonAfterExpiry
  repeat' with_reducible first
    | assumption | exact hP.mono (by decide +kernel) | apply State.pump_closed | apply State.endLost_closed
    | apply SatR.next | apply SatR.fault | apply SatR.refused | decide +kernel | split | apply hP.quarantine
    | apply hP.sent | apply Closed.quarantine_sent hP

theorem execTagQuarantineEnd_closed {P : State → Prop} {s : State} (hP : Closed 0x1c00400001e1c19863feb070000001000000800000116001000000000221c81800a911200040ec000605c00 P) (h : P s) (tag : Nat) :
 SatR P (execTagQuarantineEnd tag s) := by
  unfold execTagQuarantineEnd
  repeat' with_reducible first
    | assumption | exact hP.mono (by decide +kernel) | apply State.pump_closed | apply SatR.next | apply SatR.fault
    | apply SatR.refused | decide +kernel | split | apply hP.quarantine

theorem execStreamReset_closed {P : State → Prop} {s : State} (hP : Closed 0x1c00400001e1c19863f6b070000001000000800000116001000000000221c81800a919200040ec000605c00 P) (h : P s) (value : Nat) :
 SatR P (execStreamReset value s) := by
  unfold execStreamReset
  repeat' first
    | with_reducible assumption
    | intro _
    | exact hP.mono (by decide +kernel)
    | with_reducible apply State.pump_closed
    | with_reducible apply State.wr_closed
    | with_reducible apply SatR.next
    | with_reducible apply SatR.fault
    | with_reducible apply SatR.refused
    | with_reducible apply ite_sat
    | with_reducible apply foldl_sat
    | with_reducible apply foldUp_sat
    | decide +kernel
    | with_reducible refine SatR.of_eq ?_ (by with_reducible assumption)
    | split
    | with_reducible apply hP.waiting
    | dsimp only

theorem State.setGuard_closed {P : State → Prop} {s : State} (hP : Closed 0x400000000000000000000000000000000000000000000000000000000000000000000 P) (h : P s) (i : Nat) (g : GuardSt) :
 P (State.setGuard s i g) := by
  unfold State.setGuard
  repeat' with_reducible first
    | assumption | exact hP.mono (by decide +kernel) | decide +kernel | split | apply hP.guards

theorem State.setDst_closed {P : State → Prop} {s : State} (hP : Closed 0x200000000000000000000000000000000000000000000000000000000000000000000 P) (h : P s) (n : Nat) (d : DstSt) :
 P (State.setDst s n d) := by
  unfold State.setDst
  repeat' with_reducible first
    | assumption | exact hP.mono (by decide +kernel) | decide +kernel | split | apply hP.dstSts

theorem State.windowRead_closed {P : State → Prop} {s : State} (hP : Closed 0x0 P) (h : P s) (f : Frame) :
 SatServed P (State.windowRead s f) := by
  unfold State.windowRead
  repeat' with_reducible first
    | assumption | exact hP.mono (by decide +kernel) | apply SatServed.state | decide +kernel | split
    | apply SatServed.pair

theorem State.windowWrite_closed {P : State → Prop} {s : State} (hP : Closed 0x800c000000100c64000005ffffffffffffffffffffffffffffffffffffffffffffffffffffffffffffffff P) (h : P s) (f : Frame) :
 SatServed P (State.windowWrite s f) := by
  unfold State.windowWrite
  split
  · exact SatServed.pair h
  · dsimp only
    split
    · exact SatServed.pair h
    split
    · exact SatServed.pair h
    · split
      · next e =>
        refine SatServed.pair ((foldl_sat (Q := SatO P) (SatO.some h) fun b a hb => ?_).of_eq e)
        cases b with
        | none => exact SatO.none
        | some t => exact State.rwWrite_closed (hP.mono (by decide +kernel)) (hb.of_eq rfl) _ _ _
      · exact SatServed.pair h

theorem State.serveRead_closed {P : State → Prop} {s : State} (hP : Closed 0x1c00000001e1c19863868070000001000000800000104001000000000221c81800a900000040ec000001c00 P) (h : P s) (f : Frame) (e : Ecc) :
 SatServed P (State.serveRead s f e) := by
  unfold State.serveRead
  repeat' with_reducible first
    | assumption | intro _ | exact hP.mono (by decide +kernel) | apply State.windowRead_closed
    | apply State.eccRead_closed | apply Sat2.snd | apply SatServed.state | apply ite_sat | apply foldl_sat
    | apply foldUp_sat | decide +kernel | refine Sat2.of_eq ?_ (by assumption)
    | refine SatServed.of_eq ?_ (by assumption) | split | apply Sat2.pair | apply SatServed.pair

theorem State.serveWrite_closed {P : State → Prop} {s : State} (hP : Closed 0x1c00c00001e1c1de6386b07ffffffffffffffffffffffffffffffffffffffffffffffffffffffffffffffff P) (h : P s) (f : Frame) (e : Ecc) :
 SatServed P (State.serveWrite s f e) := by
  unfold State.serveWrite
  repeat' with_reducible first
    | assumption | intro _ | exact hP.mono (by decide +kernel) | apply State.windowWrite_closed
    | apply State.mergeRead_closed | apply State.memStore_closed | apply Sat2.snd | apply SatServed.state
    | exact Foot.obj_of_all (by decide +kernel) _ | apply ite_sat | apply foldl_sat | apply foldUp_sat
    | decide +kernel | refine Sat2.of_eq ?_ (by assumption) | refine SatServed.of_eq ?_ (by assumption) | split
    | apply Sat2.pair | apply SatServed.pair

theorem State.serveAtomic_closed {P : State → Prop} {s : State} (hP : Closed 0x1c00000001e1c1986386b070000001000000800000104001000000000221c81800a900000040ec000001c00 P) (h : P s) (f : Frame) (e : Ecc) :
 SatServed P (State.serveAtomic s f e) := by
  unfold State.serveAtomic
  repeat' with_reducible first
    | assumption | intro _ | exact hP.mono (by decide +kernel) | apply State.eccRead_closed
    | apply State.memStore_closed | apply Sat2.snd | apply SatServed.state | apply ite_sat | apply foldl_sat
    | apply foldUp_sat | decide +kernel | refine Sat2.of_eq ?_ (by assumption)
    | refine SatServed.of_eq ?_ (by assumption) | split | apply Sat2.pair | apply SatServed.pair

theorem State.serveSignal_closed {P : State → Prop} {s : State} (hP : Closed 0x1000000000000000000000000000000000000000000000000000000000000604000 P) (h : P s) (f : Frame) :
 SatServed P (State.serveSignal s f) := by
  unfold State.serveSignal
  repeat' with_reducible first
    | assumption | exact hP.mono (by decide +kernel) | apply State.addFlag_closed | apply SatServed.state
    | decide +kernel | split | apply SatServed.pair

theorem State.applyDelta_closed {P : State → Prop} {s : State} (hP : Closed 0x3030000000000000000000000000000000000000000000000000000000000000000 P) (h : P s) (i : Nat) (j : Nat) (off : Nat) (payload : List Byte) :
 P (State.applyDelta s i j off payload) := by
  unfold State.applyDelta
  repeat' with_reducible first
    | assumption | exact hP.mono (by decide +kernel) | apply State.memStore_closed | decide +kernel | split

theorem State.keepDelta_closed {P : State → Prop} {s : State} (hP : Closed 0x600000000000000000000000000000000000000000000000000200000000000000000 P) (h : P s) (f : Frame) (i : Nat) (x : DeltaEntry) :
 P (State.keepDelta s f i x) := by
  unfold State.keepDelta
  repeat' with_reducible first
    | assumption | exact hP.mono (by decide +kernel) | apply State.setDst_closed | apply State.wrFld_closed
    | apply State.setGuard_closed | decide +kernel | split

theorem State.servePdelta_closed {P : State → Prop} {s : State} (hP : Closed 0x1c00000001e1c19863e6b070000001000000800000104001000000000221c81800a902000040ec000001c00 P) (h : P s) (f : Frame) (e : Ecc) :
 SatServed P (State.servePdelta s f e) := by
  unfold State.servePdelta
  repeat' with_reducible first
    | assumption | intro _ | exact hP.mono (by decide +kernel) | apply State.keepDelta_closed
    | apply State.eccRead_closed | apply State.applyDelta_closed | apply Sat2.snd | apply SatServed.state
    | apply ite_sat | apply foldl_sat | apply foldUp_sat | decide +kernel | refine Sat2.of_eq ?_ (by assumption)
    | refine SatServed.of_eq ?_ (by assumption) | split | apply Sat2.pair | apply SatServed.pair

theorem State.servePclose_closed {P : State → Prop} {s : State} (hP : Closed 0x200000000000000000000000000000000000000000000000000200000000000000000 P) (h : P s) (f : Frame) :
 SatServed P (State.servePclose s f) := by
  unfold State.servePclose
  repeat' with_reducible first
    | assumption | exact hP.mono (by decide +kernel) | apply State.setDst_closed | apply State.wrFld_closed
    | apply SatServed.state | decide +kernel | split | apply SatServed.pair

theorem State.serve_closed {P : State → Prop} {s : State} (hP : Closed 0x1c00c00001e1c1de63e6b07ffffffffffffffffffffffffffffffffffffffffffffffffffffffffffffffff P) (h : P s) (f : Frame) (e : Ecc) :
 SatServed P (State.serve s f e) := by
  unfold State.serve
  repeat' with_reducible first
    | assumption | exact hP.mono (by decide +kernel) | apply State.serveSignal_closed
    | apply State.serveWrite_closed | apply State.servePclose_closed | apply State.serveAtomic_closed
    | apply State.servePdelta_closed | apply State.serveRead_closed | apply SatServed.state
    | exact Foot.obj_of_all (by decide +kernel) _ | decide +kernel | split | apply SatServed.pair

theorem State.unbind_closed {P : State → Prop} {s : State} (hP : Closed 0x200000000000000000000000000000000000000000000000000200000000000000000 P) (h : P s) (n : Nat) :
 P (State.unbind s n) := by
  unfold State.unbind
  repeat' with_reducible first
    | assumption | exact hP.mono (by decide +kernel) | apply State.wr_closed | apply State.setDst_closed
    | decide +kernel | split

theorem State.finishOrdered_closed {P : State → Prop} {s : State} (hP : Closed 0x200040000000000000000000000000000000000000000000000200000000000000000 P) (h : P s) (f : Frame) (status : Nat) (data : List Byte) :
 P (State.finishOrdered s f status data) := by
  unfold State.finishOrdered
  repeat' with_reducible first
    | assumption | exact hP.mono (by decide +kernel) | apply State.unbind_closed | apply State.reply_closed
    | apply State.setDst_closed | apply State.wrFld_closed | decide +kernel | split

theorem State.guardBegin_closed {P : State → Prop} {s : State} (hP : Closed 0x1c00000001e1c19863e68070000001000000800000104001000000000221c81800a900000040ec000001c00 P) (h : P s) (f : Frame) (e : Ecc) (i : Nat) :
 P (State.guardBegin s f e i) := by
  unfold State.guardBegin
  repeat' with_reducible first
    | assumption | intro _ | exact hP.mono (by decide +kernel) | apply State.eccRead_closed
    | apply State.setDst_closed | apply State.setGuard_closed | apply Sat2.snd | apply ite_sat | apply foldl_sat
    | apply foldUp_sat | decide +kernel | refine Sat2.of_eq ?_ (by assumption) | split | apply Sat2.pair

theorem State.ordered_closed {P : State → Prop} {s : State} (hP : Closed 0x1c00c00001e1c1de63e6b07ffffffffffffffffffffffffffffffffffffffffffffffffffffffffffffffff P) (h : P s) (f : Frame) (e : Ecc) :
 Sat2 P (State.ordered s f e) := by
  unfold State.ordered
  repeat' first
    | with_reducible assumption
    | intro _
    | exact hP.mono (by decide +kernel)
    | with_reducible apply State.unbind_closed
    | with_reducible apply State.finishOrdered_closed
    | with_reducible apply State.reply_closed
    | with_reducible apply State.serve_closed
    | with_reducible apply State.streamEvent_closed
    | with_reducible apply State.sendFrame_closed
    | with_reducible apply State.wr_closed
    | with_reducible apply State.setDst_closed
    | with_reducible apply State.wrFld_closed
    | with_reducible apply State.guardBegin_closed
    | with_reducible apply Sat2.snd
    | with_reducible apply SatServed.state
    | exact Foot.obj_of_all (by decide +kernel) _
    | with_reducible apply ite_sat
    | with_reducible apply foldl_sat
    | with_reducible apply foldUp_sat
    | decide +kernel
    | with_reducible refine Sat2.of_eq ?_ (by with_reducible assumption)
    | with_reducible refine SatServed.of_eq ?_ (by with_reducible assumption)
    | split
    | with_reducible apply Sat2.pair
    | with_reducible apply SatServed.pair
    | dsimp only

theorem State.holdReq_closed {P : State → Prop} {s : State} (hP : Closed 0x800000000000000000000000000000000000000000000000000000000000000000000 P) (h : P s) (f : Frame) (e : Ecc) :
 P (State.holdReq s f e) := by
  unfold State.holdReq
  repeat' with_reducible first
    | assumption | exact hP.mono (by decide +kernel) | decide +kernel | split | apply hP.heldReqs

theorem State.answer_closed {P : State → Prop} {s : State} (hP : Closed 0x1c00c00001e1c1de63e6b07ffffffffffffffffffffffffffffffffffffffffffffffffffffffffffffffff P) (h : P s) (f : Frame) (e : Ecc) :
 P (State.answer s f e) := by
  unfold State.answer
  repeat' first
    | with_reducible assumption
    | intro _
    | exact hP.mono (by decide +kernel)
    | with_reducible apply State.reply_closed
    | with_reducible apply State.serve_closed
    | with_reducible apply SatServed.state
    | exact Foot.obj_of_all (by decide +kernel) _
    | with_reducible apply ite_sat
    | with_reducible apply foldl_sat
    | with_reducible apply foldUp_sat
    | decide +kernel
    | with_reducible refine SatServed.of_eq ?_ (by with_reducible assumption)
    | split
    | with_reducible apply SatServed.pair
    | dsimp only

theorem servePass_closed {P : State → Prop} {x2 : State} (hP : Closed 0x1c00c00001e1c1de63e6b07ffffffffffffffffffffffffffffffffffffffffffffffffffffffffffffffff P) (h : P x2) (x0 : List (Frame × Ecc)) (x1 : List Nat) :
 P (servePass x0 x1 x2) := by
  induction x0 generalizing x1 x2 with
  | nil =>
    unfold servePass
    repeat' first
      | with_reducible assumption
      | with_reducible apply ih
      | intro _
      | exact hP.mono (by decide +kernel)
      | with_reducible apply State.answer_closed
      | with_reducible apply State.holdReq_closed
      | with_reducible apply State.ordered_closed
      | with_reducible apply Sat2.snd
      | exact Foot.obj_of_all (by decide +kernel) _
      | with_reducible apply ite_sat
      | with_reducible apply foldl_sat
      | with_reducible apply foldUp_sat
      | decide +kernel
      | with_reducible refine Sat2.of_eq ?_ (by with_reducible assumption)
      | with_reducible apply Sat2.pair
      | dsimp only
      | split
  | cons a l ih =>
    unfold servePass
    repeat' first
      | with_reducible assumption
      | with_reducible apply ih
      | intro _
      | exact hP.mono (by decide +kernel)
      | with_reducible apply State.answer_closed
      | with_reducible apply State.holdReq_closed
      | with_reducible apply State.ordered_closed
      | with_reducible apply Sat2.snd
      | exact Foot.obj_of_all (by decide +kernel) _
      | with_reducible apply ite_sat
      | with_reducible apply foldl_sat
      | with_reducible apply foldUp_sat
      | decide +kernel
      | with_reducible refine Sat2.of_eq ?_ (by with_reducible assumption)
      | with_reducible apply Sat2.pair
      | dsimp only
      | split

theorem State.releaseWaiting_closed {P : State → Prop} {s : State} (hP : Closed 0x1c00c00001e1c1de63e6b07ffffffffffffffffffffffffffffffffffffffffffffffffffffffffffffffff P) (h : P s) :
 P (State.releaseWaiting s) := by
  unfold State.releaseWaiting
  repeat' with_reducible first
    | assumption | intro _ | exact hP.mono (by decide +kernel) | apply servePass_closed
    | exact Foot.obj_of_all (by decide +kernel) _ | apply ite_sat | apply foldl_sat | apply foldUp_sat
    | decide +kernel | split | apply hP.heldReqs

theorem State.requestIn_closed {P : State → Prop} {s : State} (hP : Closed 0x1c00c00001e1c1de63e6b07ffffffffffffffffffffffffffffffffffffffffffffffffffffffffffffffff P) (h : P s) (op : Nat) (f : Frame) (e : Ecc) :
 P (State.requestIn s op f e) := by
  unfold State.requestIn
  repeat' with_reducible first
    | assumption | intro _ | exact hP.mono (by decide +kernel) | apply State.answer_closed
    | apply State.holdReq_closed | apply State.reply_closed | apply State.ordered_closed | apply Sat2.snd
    | exact Foot.obj_of_all (by decide +kernel) _ | apply ite_sat | apply foldl_sat | apply foldUp_sat
    | decide +kernel | refine Sat2.of_eq ?_ (by assumption) | split | apply Sat2.pair

theorem execReqRead_closed {P : State → Prop} {s : State} (hP : Closed 0x1c00c00001e1c1de63e6b07ffffffffffffffffffffffffffffffffffffffffffffffffffffffffffffffff P) (h : P s) (f : Frame) (ecc : Ecc) :
 SatR P (execReqRead f ecc s) := by
  unfold execReqRead
  repeat' with_reducible first
    | assumption | exact hP.mono (by decide +kernel) | apply State.requestIn_closed | apply SatR.next
    | apply SatR.fault | apply SatR.refused | exact Foot.obj_of_all (by decide +kernel) _ | decide +kernel | split

theorem execReqWrite_closed {P : State → Prop} {s : State} (hP : Closed 0x1c00c00001e1c1de63e6b07ffffffffffffffffffffffffffffffffffffffffffffffffffffffffffffffff P) (h : P s) (f : Frame) (ecc : Ecc) :
 SatR P (execReqWrite f ecc s) := by
  unfold execReqWrite
  repeat' with_reducible first
    | assumption | exact hP.mono (by decide +kernel) | apply State.requestIn_closed | apply SatR.next
    | apply SatR.fault | apply SatR.refused | exact Foot.obj_of_all (by decide +kernel) _ | decide +kernel | split

theorem execReqAtomic_closed {P : State → Prop} {s : State} (hP : Closed 0x1c00c00001e1c1de63e6b07ffffffffffffffffffffffffffffffffffffffffffffffffffffffffffffffff P) (h : P s) (f : Frame) (ecc : Ecc) :
 SatR P (execReqAtomic f ecc s) := by
  unfold execReqAtomic
  repeat' with_reducible first
    | assumption | exact hP.mono (by decide +kernel) | apply State.requestIn_closed | apply SatR.next
    | apply SatR.fault | apply SatR.refused | exact Foot.obj_of_all (by decide +kernel) _ | decide +kernel | split

theorem execReqFence_closed {P : State → Prop} {s : State} (hP : Closed 0x1c00c00001e1c1de63e6b07ffffffffffffffffffffffffffffffffffffffffffffffffffffffffffffffff P) (h : P s) (f : Frame) :
 SatR P (execReqFence f s) := by
  unfold execReqFence
  repeat' with_reducible first
    | assumption | exact hP.mono (by decide +kernel) | apply State.requestIn_closed | apply SatR.next
    | apply SatR.fault | apply SatR.refused | exact Foot.obj_of_all (by decide +kernel) _ | decide +kernel | split

theorem execReqSignal_closed {P : State → Prop} {s : State} (hP : Closed 0x1c00c00001e1c1de63e6b07ffffffffffffffffffffffffffffffffffffffffffffffffffffffffffffffff P) (h : P s) (f : Frame) :
 SatR P (execReqSignal f s) := by
  unfold execReqSignal
  repeat' with_reducible first
    | assumption | exact hP.mono (by decide +kernel) | apply State.requestIn_closed | apply SatR.next
    | apply SatR.fault | apply SatR.refused | exact Foot.obj_of_all (by decide +kernel) _ | decide +kernel | split

theorem execReqPdelta_closed {P : State → Prop} {s : State} (hP : Closed 0x1c00c00001e1c1de63e6b07ffffffffffffffffffffffffffffffffffffffffffffffffffffffffffffffff P) (h : P s) (f : Frame) (ecc : Ecc) :
 SatR P (execReqPdelta f ecc s) := by
  unfold execReqPdelta
  repeat' with_reducible first
    | assumption | exact hP.mono (by decide +kernel) | apply State.requestIn_closed | apply SatR.next
    | apply SatR.fault | apply SatR.refused | exact Foot.obj_of_all (by decide +kernel) _ | decide +kernel | split

theorem execReqPclose_closed {P : State → Prop} {s : State} (hP : Closed 0x1c00c00001e1c1de63e6b07ffffffffffffffffffffffffffffffffffffffffffffffffffffffffffffffff P) (h : P s) (f : Frame) :
 SatR P (execReqPclose f s) := by
  unfold execReqPclose
  repeat' with_reducible first
    | assumption | exact hP.mono (by decide +kernel) | apply State.requestIn_closed | apply SatR.next
    | apply SatR.fault | apply SatR.refused | exact Foot.obj_of_all (by decide +kernel) _ | decide +kernel | split

theorem State.holdsEnd_closed {P : State → Prop} {s : State} (hP : Closed 0x1c00c00001e1c1de63e7b07ffffffffffffffffffffffffffffffffffffffffffffffffffffffffffffffff P) (h : P s) :
 P (State.holdsEnd s) := by
  unfold State.holdsEnd
  repeat' with_reducible first
    | assumption | intro _ | exact hP.mono (by decide +kernel) | apply State.endHold_closed
    | apply State.releaseWaiting_closed | exact Foot.obj_of_all (by decide +kernel) _ | apply ite_sat
    | apply foldl_sat | apply foldUp_sat | decide +kernel | split

theorem execRecalEnd_closed {P : State → Prop} {s : State} (hP : Closed 0x1c00c00001e1c1de63e7b07ffffffffffffffffffffffffffffffffffffffffffffffffffffffffffffffff P) (h : P s) (ctrl : Nat) :
 SatR P (execRecalEnd ctrl s) := by
  unfold execRecalEnd
  repeat' with_reducible first
    | assumption | exact hP.mono (by decide +kernel) | apply State.endHold_closed
    | apply State.releaseWaiting_closed | apply SatR.next | apply SatR.fault | apply SatR.refused
    | exact Foot.obj_of_all (by decide +kernel) _ | decide +kernel | split

end Sys2Proof.Laws
end

