-- ==== Sys2Proof/Laws/ClosedBpm.lean ====
section
/-! SUPPORT. The operations of Bpm.lean keep every property that the writes of their footprint keep. -/

namespace Sys2Proof.Laws

set_option Elab.async false
set_option linter.all false

open Sys2Proof.Machine

/-- The property of the state in a result of type PoolAns. -/
structure SatPool (P : State → Prop) (r : PoolAns) : Prop where
  state : P r.state
theorem SatPool.pair {P : State → Prop} {a b} {t : State} (h : P t) : SatPool P ⟨a, b, t⟩ := ⟨h⟩
theorem SatPool.of_eq {P : State → Prop} {r : PoolAns} {a b} {t : State} (h : SatPool P r) (e : r = ⟨a, b, t⟩) : P t := by subst e; exact h.state

theorem State.setPool_closed {P : State → Prop} {s : State} (hP : Closed 0x100000000000000000000000000000000000000000000000000000000000000000000000000 P) (h : P s) (p : Nat) (x : PoolSt) :
 P (State.setPool s p x) := by
  unfold State.setPool
  repeat' with_reducible first
    | assumption | exact hP.mono (by decide +kernel) | decide +kernel | split | apply hP.pools

theorem State.setOwner_closed {P : State → Prop} {s : State} (hP : Closed 0x200000000000000000000000000000000000000000000000000000000000000000000000000 P) (h : P s) (p : Nat) (b : Nat) (o : Nat) :
 P (State.setOwner s p b o) := by
  unfold State.setOwner
  repeat' with_reducible first
    | assumption | exact hP.mono (by decide +kernel) | decide +kernel | split | apply hP.owners

theorem State.poolWrite_closed {P : State → Prop} {s : State} (hP : Closed 0x10000000000000000000000000000000000000000000000000000000000000000 P) (h : P s) (p : Nat) (off : Nat) (bs : List Byte) :
 P (State.poolWrite s p off bs) := by
  unfold State.poolWrite
  repeat' with_reducible first
    | assumption | exact hP.mono (by decide +kernel) | apply State.store_closed | apply State.memWrite_closed
    | decide +kernel | split

theorem State.poolCountUp_closed {P : State → Prop} {s : State} (hP : Closed 0x20000000000000000000000000100000000000000000000000000000000000000 P) (h : P s) (p : Nat) (k : Nat) (n : Nat) :
 P (State.poolCountUp s p k n) := by
  unfold State.poolCountUp
  repeat' with_reducible first
    | assumption | exact hP.mono (by decide +kernel) | apply State.inc_closed | decide +kernel | split

theorem State.poolEnter_closed {P : State → Prop} {s : State} (hP : Closed 0x1000000000200000000000000000000000001a0000000000000000000000000000000000000 P) (h : P s) (p : Nat) (st : Nat) :
 P (State.poolEnter s p st) := by
  unfold State.poolEnter
  repeat' with_reducible first
    | assumption | exact hP.mono (by decide +kernel) | apply State.poolCountUp_closed | apply State.wrFld_closed
    | apply State.setPool_closed | decide +kernel | split

theorem State.poolNote_closed {P : State → Prop} {s : State} (hP : Closed 0x1000000000200000000000000000000000001a0000000000000000000000000000000000000 P) (h : P s) (p : Nat) :
 P (State.poolNote s p) := by
  unfold State.poolNote
  repeat' with_reducible first
    | assumption | exact hP.mono (by decide +kernel) | apply State.wrFld_closed | apply State.poolEnter_closed
    | apply State.setPool_closed | decide +kernel | split

theorem State.poolSet_closed {P : State → Prop} {s : State} (hP : Closed 0x20000000000000000000000000000000000000 P) (h : P s) (p : Nat) (free : Nat) (held : Nat) :
 P (State.poolSet s p free held) := by
  unfold State.poolSet
  repeat' with_reducible first
    | assumption | exact hP.mono (by decide +kernel) | apply State.wrFld_closed | decide +kernel | split

theorem State.pushBuf_closed {P : State → Prop} {s : State} (hP : Closed 0x100000000010000000000000000000000000000000000000000000000000000000000000000 P) (h : P s) (p : Nat) (b : Nat) :
 P (State.pushBuf s p b) := by
  unfold State.pushBuf
  repeat' with_reducible first
    | assumption | exact hP.mono (by decide +kernel) | apply State.poolWrite_closed | apply State.setPool_closed
    | decide +kernel | split

theorem State.popBuf_closed {P : State → Prop} {s : State} (hP : Closed 0x300000000030000000000000000000000000020000000000000000000000000000000000000 P) (h : P s) (p : Nat) (owner : Nat) :
 SatO2 P (State.popBuf s p owner) := by
  unfold State.popBuf
  repeat' with_reducible first
    | assumption | exact hP.mono (by decide +kernel) | apply State.poolWrite_closed | apply State.setOwner_closed
    | apply State.poolSet_closed | apply State.setPool_closed | apply State.drawn_closed | apply SatO2.some
    | apply SatO2.none | decide +kernel | split

theorem State.poolBreaks_closed {P : State → Prop} {s : State} (hP : Closed 0x1000000000200000000000000000000000001a0000000000000000000000000000000000000 P) (h : P s) (p : Nat) :
 P (State.poolBreaks s p) := by
  unfold State.poolBreaks
  repeat' with_reducible first
    | assumption | exact hP.mono (by decide +kernel) | apply State.poolEnter_closed | decide +kernel | split

theorem popMany_closed {P : State → Prop} {x4 : State} (hP : Closed 0x300000000030000000000000000000000000020000000000000000000000000000000000000 P) (h : P x4) (p : Nat) (owner : Nat) (x2 : Nat) (x3 : List Nat) :
 SatO2 P (popMany p owner x2 x3 x4) := by
  induction x2 generalizing x3 x4 with
  | zero => exact SatO2.some h
  | succ n ih =>
    rw [popMany]
    split
    · next e => exact ih ((State.popBuf_closed (hP.mono (by decide +kernel)) h _ _).of_eq e) _
    · exact SatO2.none

theorem State.poolTake_closed {P : State → Prop} {s : State} (hP : Closed 0x1c00000001e1f198638680700000010000008000001040011a0000000221c81800a900000040ec000001c00 P) (h : P s) (p : Nat) (owner : Nat) (n : Nat) (field : Nat) (ecc : Ecc) :
 SatPool P (State.poolTake s p owner n field ecc) := by
  unfold State.poolTake
  repeat' with_reducible first
    | assumption | intro _ | exact hP.mono (by decide +kernel) | apply State.poolNote_closed
    | apply State.poolCountUp_closed | apply State.poolBreaks_closed | apply eccRanges_closed | apply popMany_closed
    | apply Sat2.snd | apply SatO2.some | apply SatO2.none | apply SatPool.state | apply ite_sat | apply foldl_sat
    | apply foldUp_sat | decide +kernel | refine Sat2.of_eq ?_ (by assumption)
    | refine SatO2.of_eq ?_ (by assumption) | refine SatPool.of_eq ?_ (by assumption) | split | apply Sat2.pair
    | apply SatPool.pair

theorem State.poolReserve_closed {P : State → Prop} {s : State} (hP : Closed 0x1c00000001e1f198638680700000010000008000001040011a0000000221c81800a900000040ec000001c00 P) (h : P s) (p : Nat) (owner : Nat) (n : Nat) (ecc : Ecc) :
 SatPool P (State.poolReserve s p owner n ecc) := by
  unfold State.poolReserve
  repeat' with_reducible first
    | assumption | exact hP.mono (by decide +kernel) | apply State.poolTake_closed | apply State.poolCountUp_closed
    | apply SatPool.state | decide +kernel | split | apply SatPool.pair

theorem State.poolAlloc_closed {P : State → Prop} {s : State} (hP : Closed 0x1c00000001e1f198638680700000010000008000001040011a0000000221c81800a900000040ec000001c00 P) (h : P s) (p : Nat) (owner : Nat) (high : Bool) (ecc : Ecc) :
 SatPool P (State.poolAlloc s p owner high ecc) := by
  unfold State.poolAlloc
  repeat' with_reducible first
    | assumption | exact hP.mono (by decide +kernel) | apply State.poolTake_closed | apply State.poolCountUp_closed
    | apply SatPool.state | decide +kernel | split | apply SatPool.pair

theorem State.poolReject_closed {P : State → Prop} {s : State} (hP : Closed 0x20000000000000000000000000300000000000000000000000000000000000000 P) (h : P s) (p : Nat) (b : Nat) (caller : Nat) :
 P (State.poolReject s p b caller) := by
  unfold State.poolReject
  repeat' with_reducible first
    | assumption | exact hP.mono (by decide +kernel) | apply State.poolCountUp_closed | apply State.wr_closed
    | decide +kernel | split

theorem State.poolFreeBuf_closed {P : State → Prop} {s : State} (hP : Closed 0x3000000000300000000000000000000000003a0000000000000000000000000000000000000 P) (h : P s) (p : Nat) (caller : Nat) (b : Nat) :
 SatPool P (State.poolFreeBuf s p caller b) := by
  unfold State.poolFreeBuf
  repeat' with_reducible first
    | assumption | exact hP.mono (by decide +kernel) | apply State.poolNote_closed | apply State.poolCountUp_closed
    | apply State.setOwner_closed | apply State.pushBuf_closed | apply State.poolSet_closed
    | apply State.poolReject_closed | apply SatPool.state | decide +kernel | split | apply SatPool.pair

theorem State.poolRelease_closed {P : State → Prop} {s : State} (hP : Closed 0x3000000000300000000000000000000000003a0000000000000000000000000000000000000 P) (h : P s) (p : Nat) (owner : Nat) (bs : List Nat) :
 P (State.poolRelease s p owner bs) := by
  unfold State.poolRelease
  repeat' with_reducible first
    | assumption | intro _ | exact hP.mono (by decide +kernel) | apply State.poolFreeBuf_closed
    | apply SatPool.state | apply ite_sat | apply foldl_sat | apply foldUp_sat | decide +kernel
    | refine SatPool.of_eq ?_ (by assumption) | split | apply SatPool.pair

theorem State.poolHandover_closed {P : State → Prop} {s : State} (hP : Closed 0x200000000020000000000000000000000000300000000000000000000000000000000000000 P) (h : P s) (p : Nat) (caller : Nat) (b : Nat) (o : Nat) :
 SatPool P (State.poolHandover s p caller b o) := by
  unfold State.poolHandover
  repeat' with_reducible first
    | assumption | exact hP.mono (by decide +kernel) | apply State.setOwner_closed | apply State.poolReject_closed
    | apply SatPool.state | decide +kernel | split | apply SatPool.pair

theorem PoolAns.finish_closed {P : State → Prop} {a : PoolAns} (hP : Closed 0x40000000000000000000000000000000000000 P) (h : P a.state) (caller : Nat) :
 P (a.finish caller) := by
  unfold PoolAns.finish
  split
  · exact h
  · split
    · exact State.wr_closed hP (by decide +kernel) h _ _
    · exact State.wrFld_closed hP (by decide +kernel) h _ _ _ _

theorem execBpmReserve_closed {P : State → Prop} {s : State} (hP : Closed 0x1c00000001e1f198638680700000010000008000001040011e0000000221c81800a900000040ec000001c00 P) (h : P s) (owner : Nat) (pool : Nat) (n : Nat) (ecc : Ecc) :
 SatR P (execBpmReserve owner pool n ecc s) := by
  unfold execBpmReserve
  repeat' with_reducible first
    | assumption | exact hP.mono (by decide +kernel) | apply PoolAns.finish_closed | apply State.poolReserve_closed
    | apply SatPool.state | apply SatR.next | apply SatR.fault | apply SatR.refused | unfold PoolAns.finish
    | decide +kernel | split | apply SatPool.pair

theorem execBpmAllocHigh_closed {P : State → Prop} {s : State} (hP : Closed 0x1c00000001e1f198638680700000010000008000001040011e0000000221c81800a900000040ec000001c00 P) (h : P s) (owner : Nat) (pool : Nat) (ecc : Ecc) :
 SatR P (execBpmAllocHigh owner pool ecc s) := by
  unfold execBpmAllocHigh
  repeat' with_reducible first
    | assumption | exact hP.mono (by decide +kernel) | apply State.poolAlloc_closed | apply PoolAns.finish_closed
    | apply SatPool.state | apply SatR.next | apply SatR.fault | apply SatR.refused | unfold PoolAns.finish
    | decide +kernel | split | apply SatPool.pair

theorem execBpmAllocLow_closed {P : State → Prop} {s : State} (hP : Closed 0x1c00000001e1f198638680700000010000008000001040011e0000000221c81800a900000040ec000001c00 P) (h : P s) (owner : Nat) (pool : Nat) (ecc : Ecc) :
 SatR P (execBpmAllocLow owner pool ecc s) := by
  unfold execBpmAllocLow
  repeat' with_reducible first
    | assumption | exact hP.mono (by decide +kernel) | apply State.poolAlloc_closed | apply PoolAns.finish_closed
    | apply SatPool.state | apply SatR.next | apply SatR.fault | apply SatR.refused | unfold PoolAns.finish
    | decide +kernel | split | apply SatPool.pair

theorem execBpmHandover_closed {P : State → Prop} {s : State} (hP : Closed 0x200000000020000000000000000000000000340000000000000000000000000000000000000 P) (h : P s) (owner : Nat) (pool : Nat) (buffer : Nat) (taker : Nat) :
 SatR P (execBpmHandover owner pool buffer taker s) := by
  unfold execBpmHandover
  repeat' with_reducible first
    | assumption | exact hP.mono (by decide +kernel) | apply State.poolHandover_closed | apply PoolAns.finish_closed
    | apply SatPool.state | apply SatR.next | apply SatR.fault | apply SatR.refused | unfold PoolAns.finish
    | decide +kernel | split | apply SatPool.pair

theorem execBpmFree_closed {P : State → Prop} {s : State} (hP : Closed 0x3000000000300000000000000000000000003e0000000000000000000000000000000000000 P) (h : P s) (owner : Nat) (pool : Nat) (buffer : Nat) :
 SatR P (execBpmFree owner pool buffer s) := by
  unfold execBpmFree
  repeat' with_reducible first
    | assumption | exact hP.mono (by decide +kernel) | apply State.poolFreeBuf_closed | apply PoolAns.finish_closed
    | apply SatPool.state | apply SatR.next | apply SatR.fault | apply SatR.refused | unfold PoolAns.finish
    | decide +kernel | split | apply SatPool.pair

theorem execPoolInit_closed {P : State → Prop} {s : State} (hP : Closed 0x100000000000000000000000000000000000060000000000000000000000000000000000000 P) (h : P s) (pool : Nat) :
 SatR P (execPoolInit pool s) := by
  unfold execPoolInit
  repeat' with_reducible first
    | assumption | exact hP.mono (by decide +kernel) | apply State.wr_closed | apply State.wrFld_closed
    | apply State.setPool_closed | apply SatR.next | apply SatR.fault | apply SatR.refused | decide +kernel | split

theorem execPoolInitDone_closed {P : State → Prop} {s : State} (hP : Closed 0x3000000000300000000000000000000000001a0000000000000000000000000000000000000 P) (h : P s) (pool : Nat) :
 SatR P (execPoolInitDone pool s) := by
  unfold execPoolInitDone
  repeat' with_reducible first
    | assumption | intro _ | exact hP.mono (by decide +kernel) | apply State.poolNote_closed
    | apply State.poolWrite_closed | apply State.wr_closed | apply State.wrFld_closed | apply State.poolSet_closed
    | apply State.setPool_closed | apply SatR.next | apply SatR.fault | apply SatR.refused | apply ite_sat
    | apply foldl_sat | apply foldUp_sat | decide +kernel | refine SatR.of_eq ?_ (by assumption) | split
    | apply hP.owners

theorem execPoolDisable_closed {P : State → Prop} {s : State} (hP : Closed 0x100000000000000000000000000000000000060000000000000000000000000000000000000 P) (h : P s) (pool : Nat) :
 SatR P (execPoolDisable pool s) := by
  unfold execPoolDisable
  repeat' with_reducible first
    | assumption | exact hP.mono (by decide +kernel) | apply State.wrFld_closed | apply State.setPool_closed
    | apply SatR.next | apply SatR.fault | apply SatR.refused | decide +kernel | split

theorem execOwnerQuery_closed {P : State → Prop} {s : State} (hP : Closed 0x400000000000000000000000000000000000000 P) (h : P s) (value : Nat) :
 SatR P (execOwnerQuery value s) := by
  unfold execOwnerQuery
  repeat' with_reducible first
    | assumption | intro _ | exact hP.mono (by decide +kernel) | apply State.wr_closed | apply SatR.next
    | apply SatR.fault | apply SatR.refused | apply ite_sat | apply foldl_sat | apply foldUp_sat | decide +kernel
    | refine SatR.of_eq ?_ (by assumption) | split

end Sys2Proof.Laws
end

