-- ==== Sys2Proof/Laws/ClosedGuard.lean ====
section
/-! SUPPORT. The operations of Guard.lean keep every property that the writes of their footprint keep. -/

namespace Sys2Proof.Laws

set_option Elab.async false
set_option linter.all false

open Sys2Proof.Machine

theorem State.guardRelease_closed {P : State → Prop} {s : State} (hP : Closed 0x4000000000000000000000000000000000000000000000000000000000000000000 P) (h : P s) :
 P (State.guardRelease s) := by
  unfold State.guardRelease
  repeat' with_reducible first
    | assumption | exact hP.mono (by decide +kernel) | decide +kernel | split | apply hP.guardRanges

theorem State.guardTake_closed {P : State → Prop} {s : State} (hP : Closed 0x800000004000000000000000000000000000000000000000000000000000000000000000000 P) (h : P s) :
 P (State.guardTake s) := by
  unfold State.guardTake
  repeat' first
    | with_reducible assumption
    | intro _
    | exact hP.mono (by decide +kernel)
    | with_reducible apply ite_sat
    | with_reducible apply foldl_sat
    | with_reducible apply foldUp_sat
    | decide +kernel
    | split
    | with_reducible apply hP.guardRanges
    | with_reducible apply hP.scanJobs
    | with_reducible apply Closed.guardRanges_scanJobs hP
    | dsimp only

theorem execGuardActivate_closed {P : State → Prop} {s : State} (hP : Closed 0xc000000080000040404000000000000000000000000000000000000000000000c000000000000000000 P) (h : P s) (entry : Nat) :
 SatR P (execGuardActivate entry s) := by
  unfold execGuardActivate
  repeat' with_reducible first
    | assumption | intro _ | exact hP.mono (by decide +kernel) | apply State.guardTake_closed
    | apply State.wr_closed | apply State.setGuard_closed | apply State.guardSync_closed | apply SatR.next
    | apply SatR.fault | apply SatR.refused | apply ite_sat | apply foldl_sat | apply foldUp_sat | decide +kernel
    | refine SatR.of_eq ?_ (by assumption) | split

theorem execGuardDeactivate_closed {P : State → Prop} {s : State} (hP : Closed 0x40400000000000000000000000000000000000000000000000c000000000000000000 P) (h : P s) (entry : Nat) :
 SatR P (execGuardDeactivate entry s) := by
  unfold execGuardDeactivate
  repeat' with_reducible first
    | assumption | exact hP.mono (by decide +kernel) | apply State.guardRelease_closed | apply State.wr_closed
    | apply State.setGuard_closed | apply SatR.next | apply SatR.fault | apply SatR.refused | decide +kernel | split

theorem State.enqueue_closed {P : State → Prop} {s : State} (hP : Closed 0x20020000000000000000000000000000000000000000000000000000000000000000 P) (h : P s) (rs : List GReq) :
 P (State.enqueue s rs) := by
  unfold State.enqueue
  repeat' with_reducible first
    | assumption | exact hP.mono (by decide +kernel) | apply State.drawn_closed | decide +kernel | split
    | apply hP.waiting

theorem State.guardDeltas_closed {P : State → Prop} {s : State} (hP : Closed 0x1c00400001e1c19863f6b070000001000000800000116001000000000221c81800a911200040ec000605c00 P) (h : P s) (ctx : Nat) :
 P (State.guardDeltas s ctx) := by
  unfold State.guardDeltas
  repeat' first
    | with_reducible assumption
    | intro _
    | exact hP.mono (by decide +kernel)
    | with_reducible apply State.pump_closed
    | with_reducible apply State.enqueue_closed
    | with_reducible apply State.setDst_closed
    | with_reducible apply ite_sat
    | with_reducible apply foldl_sat
    | with_reducible apply foldUp_sat
    | decide +kernel
    | split
    | dsimp only

theorem State.nextStore_closed {P : State → Prop} {s : State} (hP : Closed 0x1c00000001e1c19863e68070000001000000800000104001000000000221c81800a900000040ec000001c00 P) (h : P s) (desc : Nat) (stripe : Nat) :
 P (State.nextStore s desc stripe) := by
  unfold State.nextStore
  repeat' with_reducible first
    | assumption | exact hP.mono (by decide +kernel) | apply State.guardBegin_closed | decide +kernel | split

theorem State.startStores_closed {P : State → Prop} {s : State} (hP : Closed 0x1c00000001e1c19863e68070000001000000800000104001000000000221c81800a900000040ec000001c00 P) (h : P s) (i : Nat) :
 P (State.startStores s i) := by
  unfold State.startStores
  repeat' with_reducible first
    | assumption | intro _ | exact hP.mono (by decide +kernel) | apply State.guardBegin_closed | apply ite_sat
    | apply foldl_sat | apply foldUp_sat | decide +kernel | split

theorem execGuardParityReplied_closed {P : State → Prop} {s : State} (hP : Closed 0x1c00c00001e1c1de63f6b07ffffffffffffffffffffffffffffffffffffffffffffffffffffffffffffffff P) (h : P s) (ctx : Nat) :
 SatR P (execGuardParityReplied ctx s) := by
  unfold execGuardParityReplied
  repeat' with_reducible first
    | assumption | exact hP.mono (by decide +kernel) | apply State.finishOrdered_closed | apply State.pump_closed
    | apply State.enqueue_closed | apply State.quietTold_closed | apply State.memStore_closed
    | apply State.setGuard_closed | apply State.releaseWaiting_closed | apply State.nextStore_closed
    | apply SatR.next | apply SatR.fault | apply SatR.refused | exact Foot.obj_of_all (by decide +kernel) _
    | decide +kernel | split

theorem State.guardVoid_closed {P : State → Prop} {s : State} (hP : Closed 0x1c00c00001e1c1de63e6f07ffffffffffffffffffffffffffffffffffffffffffffffffffffffffffffffff P) (h : P s) (i : Nat) :
 P (State.guardVoid s i) := by
  unfold State.guardVoid
  repeat' with_reducible first
    | assumption | intro _ | exact hP.mono (by decide +kernel) | apply State.finishOrdered_closed
    | apply State.guardRelease_closed | apply State.wr_closed | apply State.releaseWaiting_closed
    | exact Foot.obj_of_all (by decide +kernel) _ | apply ite_sat | apply foldl_sat | apply foldUp_sat
    | decide +kernel | split

theorem State.guardLose_closed {P : State → Prop} {s : State} (hP : Closed 0x1c00c00001e1c1de63f6f07ffffffffffffffffffffffffffffffffffffffffffffffffffffffffffffffff P) (h : P s) (i : Nat) (j : Nat) :
 P (State.guardLose s i j) := by
  unfold State.guardLose
  repeat' with_reducible first
    | assumption | intro _ | exact hP.mono (by decide +kernel) | apply State.guardVoid_closed
    | apply State.pump_closed | apply State.enqueue_closed | apply State.wr_closed | apply State.setGuard_closed
    | exact Foot.obj_of_all (by decide +kernel) _ | apply ite_sat | apply foldl_sat | apply foldUp_sat
    | decide +kernel | split

theorem State.takeOpen_closed {P : State → Prop} {s : State} (hP : Closed 0x600000000000000000000000000000000000000000000000000200000000000000000 P) (h : P s) (i : Nat) :
 P (State.takeOpen s i) := by
  unfold State.takeOpen
  repeat' with_reducible first
    | assumption | intro _ | exact hP.mono (by decide +kernel) | apply State.setDst_closed
    | apply State.wrFld_closed | apply State.setGuard_closed | apply ite_sat | apply foldl_sat | apply foldUp_sat
    | decide +kernel | split

theorem State.rollForward_closed {P : State → Prop} {s : State} (hP : Closed 0x1c00400001e1c19863f6b070000001000000800000116001000000000221c81800a913200040ec000605c00 P) (h : P s) (i : Nat) :
 P (State.rollForward s i) := by
  unfold State.rollForward
  repeat' with_reducible first
    | assumption | intro _ | exact hP.mono (by decide +kernel) | apply State.pump_closed
    | apply State.enqueue_closed | apply State.takeOpen_closed | apply ite_sat | apply foldl_sat | apply foldUp_sat
    | decide +kernel | split

theorem execGuardQuiet_closed {P : State → Prop} {s : State} (hP : Closed 0x1c00c00001e1c1de63f6b07ffffffffffffffffffffffffffffffffffffffffffffffffffffffffffffffff P) (h : P s) (entry : Nat) :
 SatR P (execGuardQuiet entry s) := by
  unfold execGuardQuiet
  repeat' with_reducible first
    | assumption | exact hP.mono (by decide +kernel) | apply State.wr_closed | apply State.startStores_closed
    | apply State.rollForward_closed | apply State.releaseWaiting_closed | apply SatR.next | apply SatR.fault
    | apply SatR.refused | exact Foot.obj_of_all (by decide +kernel) _ | decide +kernel | split

theorem State.putSymbol_closed {P : State → Prop} {s : State} (hP : Closed 0x3030000000000000000000000000000000000000000000000000000000000000000 P) (h : P s) (i : Nat) (stripe : Nat) (data : List (Nat × List Byte)) :
 P (State.putSymbol s i stripe data) := by
  unfold State.putSymbol
  repeat' with_reducible first
    | assumption | intro _ | exact hP.mono (by decide +kernel) | apply State.memStore_closed | apply ite_sat
    | apply foldl_sat | apply foldUp_sat | decide +kernel | split

theorem State.markStripe_closed {P : State → Prop} {s : State} (hP : Closed 0x400000000000000000000000000000000000000000000000000000000000000000000 P) (h : P s) (i : Nat) (stripe : Nat) :
 P (State.markStripe s i stripe) := by
  unfold State.markStripe
  repeat' with_reducible first
    | assumption | exact hP.mono (by decide +kernel) | apply State.setGuard_closed | decide +kernel | split

theorem execStripeDemandRebuild_closed {P : State → Prop} {s : State} (hP : Closed 0x1c00c00001e1c1de63e6b07ffffffffffffffffffffffffffffffffffffffffffffffffffffffffffffffff P) (h : P s) (entry : Nat) (stripe : Nat) (symbols : List (Nat × List Byte)) :
 SatR P (execStripeDemandRebuild entry stripe symbols s) := by
  unfold execStripeDemandRebuild
  repeat' with_reducible first
    | assumption | exact hP.mono (by decide +kernel) | apply State.inc_closed | apply State.putSymbol_closed
    | apply State.releaseWaiting_closed | apply State.markStripe_closed | apply SatR.next | apply SatR.fault
    | apply SatR.refused | exact Foot.obj_of_all (by decide +kernel) _ | decide +kernel | split

end Sys2Proof.Laws
end

