-- ==== Sys2Proof/Laws/ClosedSu.lean ====
section
/-! SUPPORT. The operations of Su.lean keep every property that the writes of their footprint keep. -/

namespace Sys2Proof.Laws

set_option Elab.async false
set_option linter.all false

open Sys2Proof.Machine

theorem State.setSu_closed {P : State → Prop} {s : State} (hP : Closed 0x1000000000000000000000000000000000000000000000000000000000000000000000000000 P) (h : P s) (u : Nat) (x : SuSt) :
 P (State.setSu s u x) := by
  unfold State.setSu
  repeat' with_reducible first
    | assumption | exact hP.mono (by decide +kernel) | decide +kernel | split | apply hP.sus

theorem State.useSlots_closed {P : State → Prop} {s : State} (hP : Closed 0x200000000000000000000000000000000 P) (h : P s) (slot : Nat) (d : Int) :
 P (State.useSlots s slot d) := by
  unfold State.useSlots
  repeat' with_reducible first
    | assumption | exact hP.mono (by decide +kernel) | apply State.wrFld_closed | decide +kernel | split

theorem State.noteHeld_closed {P : State → Prop} {s : State} (hP : Closed 0x200000000000000000000000000000000 P) (h : P s) (slot : Nat) :
 P (State.noteHeld s slot) := by
  unfold State.noteHeld
  repeat' with_reducible first
    | assumption | exact hP.mono (by decide +kernel) | apply State.wrFld_closed | decide +kernel | split

theorem State.noteRecs_closed {P : State → Prop} {s : State} (hP : Closed 0x200000000000000000000000000000000 P) (h : P s) (slot : Nat) :
 P (State.noteRecs s slot) := by
  unfold State.noteRecs
  repeat' with_reducible first
    | assumption | exact hP.mono (by decide +kernel) | apply State.wrFld_closed | decide +kernel | split

theorem State.suCount_closed {P : State → Prop} {s : State} (hP : Closed 0x4000000000000000000000000000000000 P) (h : P s) (slot : Nat) (k : Nat) (n : Nat) :
 P (State.suCount s slot k n) := by
  unfold State.suCount
  repeat' with_reducible first
    | assumption | exact hP.mono (by decide +kernel) | apply State.incSat_closed | decide +kernel | split

theorem State.suTake_closed {P : State → Prop} {s : State} (hP : Closed 0x1000000000000000000000000000000000000000004200000000000000000000000000000000 P) (h : P s) (slot : Nat) (ingress : Nat) (f : Frame) :
 P (State.suTake s slot ingress f) := by
  unfold State.suTake
  repeat' with_reducible first
    | assumption | intro _ | exact hP.mono (by decide +kernel) | apply State.suCount_closed
    | apply State.setSu_closed | apply State.useSlots_closed | apply ite_sat | apply foldl_sat | apply foldUp_sat
    | decide +kernel | split

theorem execSuFrameDeliver_closed {P : State → Prop} {s : State} (hP : Closed 0x1000000000000000000000000000000000000000024200000000000000000000000000000000 P) (h : P s) (ingress : Nat) (f : Frame) :
 SatR P (execSuFrameDeliver ingress f s) := by
  unfold execSuFrameDeliver
  repeat' with_reducible first
    | assumption | intro _ | exact hP.mono (by decide +kernel) | apply State.incSat_closed
    | apply State.suTake_closed | apply SatR.next | apply SatR.fault | apply SatR.refused | apply ite_sat
    | apply foldl_sat | apply foldUp_sat | decide +kernel | refine SatR.of_eq ?_ (by assumption) | split

theorem State.bitmapLater_closed {P : State → Prop} {s : State} (hP : Closed 0x1000000000010000000000000000000000000000080000000000000000000000000000000000 P) (h : P s) (u : Nat) :
 P (State.bitmapLater s u) := by
  unfold State.bitmapLater
  refine State.setSu_closed (hP.mono (by decide +kernel)) (foldl_sat h fun b w hb => ?_) _ _
  split
  · exact hP.memDrop (by decide +kernel) (b.wr Obj.bitmapClear 0 1) _ (hP.wr _ _ _ _ (by decide +kernel) hb)
  · exact State.memWrite_closed (hP.mono (by decide +kernel)) hb _ _ _

theorem State.endRun_closed {P : State → Prop} {s : State} (hP : Closed 0x1000000000010000000000000000000000000000094200000000000000000000000000000000 P) (h : P s) (u : Nat) (r : SuRun) (k : Nat) :
 P (State.endRun s u r k) := by
  unfold State.endRun
  repeat' with_reducible first
    | assumption | exact hP.mono (by decide +kernel) | apply State.incSat_closed | apply State.suCount_closed
    | apply State.setSu_closed | apply State.bitmapLater_closed | apply State.useSlots_closed | decide +kernel
    | split

theorem State.runFault_closed {P : State → Prop} {s : State} (hP : Closed 0x100000000001000000000000000000000000000009c200000000000000000000000000000000 P) (h : P s) (u : Nat) (r : SuRun) (code : Nat) :
 P (State.runFault s u r code) := by
  unfold State.runFault
  repeat' with_reducible first
    | assumption | exact hP.mono (by decide +kernel) | apply State.incSat_closed | apply State.suCount_closed
    | apply State.wr_closed | apply State.endRun_closed | decide +kernel | split

theorem execGuardRun_closed {P : State → Prop} {s : State} (hP : Closed 0x1c00400001e1c19863f6b070000001000000800000116001000010000221c81800a911200040ec000605c00 P) (h : P s) (ctx : Nat) :
 SatR P (execGuardRun ctx s) := by
  unfold execGuardRun
  repeat' with_reducible first
    | assumption | intro _ | exact hP.mono (by decide +kernel) | apply State.incSat_closed
    | apply State.guardDeltas_closed | apply SatR.next | apply SatR.fault | apply SatR.refused | apply ite_sat
    | apply foldl_sat | apply foldUp_sat | decide +kernel | refine SatR.of_eq ?_ (by assumption) | split

theorem execProgramLoad_closed {P : State → Prop} {s : State} (hP : Closed 0x4000000000000000000000001c0000000000000000000000000000000 P) (h : P s) (slot : Nat) :
 SatR P (execProgramLoad slot s) := by
  unfold execProgramLoad
  repeat' first
    | with_reducible assumption
    | intro _
    | exact hP.mono (by decide +kernel)
    | with_reducible apply State.wr_closed
    | with_reducible apply State.extend_closed
    | with_reducible apply SatR.next
    | with_reducible apply SatR.fault
    | with_reducible apply SatR.refused
    | with_reducible apply ite_sat
    | with_reducible apply foldl_sat
    | with_reducible apply foldUp_sat
    | decide +kernel
    | with_reducible refine SatR.of_eq ?_ (by with_reducible assumption)
    | split
    | dsimp only

theorem execProgramClear_closed {P : State → Prop} {s : State} (hP : Closed 0x1c0000000000000000000000000000000 P) (h : P s) (slot : Nat) :
 SatR P (execProgramClear slot s) := by
  unfold execProgramClear
  repeat' with_reducible first
    | assumption | exact hP.mono (by decide +kernel) | apply State.wr_closed | apply State.wrFld_closed
    | apply SatR.next | apply SatR.fault | apply SatR.refused | decide +kernel | split

theorem State.bindSlot_closed {P : State → Prop} {s : State} (hP : Closed 0x1c00000001e3f198638680700000010000008000001040011a0008200221c81800a900000040ec000001c00 P) (h : P s) (slot : Nat) (d : Nat) (kinds : List Nat) (ecc : Ecc) :
 Sat2 P (State.bindSlot s slot d kinds ecc) := by
  unfold State.bindSlot
  repeat' with_reducible first
    | assumption | exact hP.mono (by decide +kernel) | apply State.setSu_closed | apply State.wr_closed
    | apply State.poolReserve_closed | apply Sat2.snd | apply SatPool.state | decide +kernel | split
    | apply Sat2.pair | apply SatPool.pair | apply hP.suBufs

theorem execBind_closed {P : State → Prop} {s : State} (hP : Closed 0x1c00000001e3f198638680700000010000008000001040011a0008a00221c81800a900000040ec000001c00 P) (h : P s) (slot : Nat) (ecc : Ecc) :
 SatR P (execBind slot ecc s) := by
  unfold execBind
  repeat' with_reducible first
    | assumption | exact hP.mono (by decide +kernel) | apply State.wr_closed | apply State.bindSlot_closed
    | apply Sat2.snd | apply SatR.next | apply SatR.fault | apply SatR.refused | decide +kernel | split
    | apply Sat2.pair

theorem State.unbindSlot_closed {P : State → Prop} {s : State} (hP : Closed 0x23000000000300000000000000000000000003a0000200000000000000000000000000000000 P) (h : P s) (slot : Nat) :
 P (State.unbindSlot s slot) := by
  unfold State.unbindSlot
  repeat' with_reducible first
    | assumption | exact hP.mono (by decide +kernel) | apply State.poolRelease_closed | apply State.wr_closed
    | decide +kernel | split | apply hP.suBufs

theorem execUnbind_closed {P : State → Prop} {s : State} (hP : Closed 0x23000000000300000000000000000000000003a0000a00000000000000000000000000000000 P) (h : P s) (slot : Nat) :
 SatR P (execUnbind slot s) := by
  unfold execUnbind
  repeat' with_reducible first
    | assumption | exact hP.mono (by decide +kernel) | apply State.unbindSlot_closed | apply State.wr_closed
    | apply SatR.next | apply SatR.fault | apply SatR.refused | decide +kernel | split

theorem State.discardSlot_closed {P : State → Prop} {s : State} (hP : Closed 0x1000000000010000000000000000000000000000094000000000000000000000000000000000 P) (h : P s) (slot : Nat) :
 P (State.discardSlot s slot) := by
  unfold State.discardSlot
  repeat' first
    | with_reducible assumption
    | intro _
    | exact hP.mono (by decide +kernel)
    | with_reducible apply State.incSat_closed
    | with_reducible apply State.suCount_closed
    | with_reducible apply State.setSu_closed
    | with_reducible apply State.bitmapLater_closed
    | with_reducible apply ite_sat
    | with_reducible apply foldl_sat
    | with_reducible apply foldUp_sat
    | decide +kernel
    | split
    | dsimp only

theorem execForceUnbind_closed {P : State → Prop} {s : State} (hP : Closed 0x33000000000300000000000000000000000003a0094a00000000000000000000000000000000 P) (h : P s) (slot : Nat) :
 SatR P (execForceUnbind slot s) := by
  unfold execForceUnbind
  repeat' with_reducible first
    | assumption | exact hP.mono (by decide +kernel) | apply State.unbindSlot_closed
    | apply State.discardSlot_closed | apply State.wr_closed | apply SatR.next | apply SatR.fault
    | apply SatR.refused | decide +kernel | split

theorem execBitmapClear_closed {P : State → Prop} {s : State} (hP : Closed 0x1000000000010000000000000000000000000000080000000000000000000000000000000000 P) (h : P s) (su : Nat) :
 SatR P (execBitmapClear su s) := by
  unfold execBitmapClear
  repeat' with_reducible first
    | assumption | exact hP.mono (by decide +kernel) | apply State.setSu_closed | apply State.wr_closed
    | apply State.bitmapLater_closed | apply SatR.next | apply SatR.fault | apply SatR.refused | decide +kernel
    | split

end Sys2Proof.Laws
end

