-- ==== Sys2Proof/Laws/ClosedEcmel.lean ====
section
/-! SUPPORT. The operations of Ecmel.lean keep every property that the writes of their footprint keep. -/

namespace Sys2Proof.Laws

set_option Elab.async false
set_option linter.all false

open Sys2Proof.Machine

/-- The property of the state in a result of type EcOut. -/
structure SatEc (P : State → Prop) (r : EcOut) : Prop where
  of_go : ∀ t a b, r = .go t a b → P t
  of_jump : ∀ t a b, r = .jump t a b → P t
  of_ends : ∀ t a b, r = .ends t a b → P t
  of_fault : ∀ t a b, r = .fault t a b → P t
theorem SatEc.go {P : State → Prop} {t : State} {a} {b} (h : P t) : SatEc P (.go t a b) := ⟨by rintro _ _ _ ⟨⟩; exact h, by rintro _ _ _ ⟨⟩, by rintro _ _ _ ⟨⟩, by rintro _ _ _ ⟨⟩⟩
theorem SatEc.eq_go {P : State → Prop} {t : State} {a} {b} {r : EcOut} (h : SatEc P r) (e : r = .go t a b) : P t := h.of_go _ _ _ e
theorem SatEc.jump {P : State → Prop} {t : State} {a} {b} (h : P t) : SatEc P (.jump t a b) := ⟨by rintro _ _ _ ⟨⟩, by rintro _ _ _ ⟨⟩; exact h, by rintro _ _ _ ⟨⟩, by rintro _ _ _ ⟨⟩⟩
theorem SatEc.eq_jump {P : State → Prop} {t : State} {a} {b} {r : EcOut} (h : SatEc P r) (e : r = .jump t a b) : P t := h.of_jump _ _ _ e
theorem SatEc.ends {P : State → Prop} {t : State} {a} {b} (h : P t) : SatEc P (.ends t a b) := ⟨by rintro _ _ _ ⟨⟩, by rintro _ _ _ ⟨⟩, by rintro _ _ _ ⟨⟩; exact h, by rintro _ _ _ ⟨⟩⟩
theorem SatEc.eq_ends {P : State → Prop} {t : State} {a} {b} {r : EcOut} (h : SatEc P r) (e : r = .ends t a b) : P t := h.of_ends _ _ _ e
theorem SatEc.fault {P : State → Prop} {t : State} {a} {b} (h : P t) : SatEc P (.fault t a b) := ⟨by rintro _ _ _ ⟨⟩, by rintro _ _ _ ⟨⟩, by rintro _ _ _ ⟨⟩, by rintro _ _ _ ⟨⟩; exact h⟩
theorem SatEc.eq_fault {P : State → Prop} {t : State} {a} {b} {r : EcOut} (h : SatEc P r) (e : r = .fault t a b) : P t := h.of_fault _ _ _ e
theorem SatEc.waits {P : State → Prop} : SatEc P (.waits) := ⟨by rintro _ _ _ ⟨⟩, by rintro _ _ _ ⟨⟩, by rintro _ _ _ ⟨⟩, by rintro _ _ _ ⟨⟩⟩

theorem State.setReg_closed {P : State → Prop} {s : State} (hP : Closed 0x1000000000000000000000000000000000000000000000000000000000000000000000000000 P) (h : P s) (u : Nat) (r : SuRun) (g : Nat) (v : Nat) :
 Sat1 P (State.setReg s u r g v) := by
  unfold State.setReg
  repeat' with_reducible first
    | assumption | exact hP.mono (by decide +kernel) | apply State.setSu_closed | apply Sat1.fst | decide +kernel
    | split | apply Sat1.pair

theorem State.ecmel_closed {P : State → Prop} {s : State} {f : SuRun → Nat → (Nat → Nat) → State → EcOut} (hP : Closed 0x100000000001000000000000000000000000000009c200000000000000000000000000000000 P) (hf : ∀ r n k s, P s → SatEc P (f r n k s)) (h : P s) (u : Nat) (op : Nat) :
 SatR P (State.ecmel s u op f) := by
  unfold State.ecmel
  repeat' first
    | with_reducible assumption
    | intro _
    | exact hP.mono (by decide +kernel)
    | with_reducible apply hf
    | with_reducible apply State.setSu_closed
    | with_reducible apply State.runFault_closed
    | with_reducible apply State.endRun_closed
    | with_reducible apply SatEc.go
    | with_reducible apply SatEc.jump
    | with_reducible apply SatEc.ends
    | with_reducible apply SatEc.fault
    | with_reducible apply SatEc.waits
    | with_reducible apply SatR.next
    | with_reducible apply SatR.fault
    | with_reducible apply SatR.refused
    | with_reducible apply ite_sat
    | with_reducible apply foldl_sat
    | with_reducible apply foldUp_sat
    | decide +kernel
    | with_reducible refine SatEc.eq_go ?_ (by with_reducible assumption)
    | with_reducible refine SatEc.eq_jump ?_ (by with_reducible assumption)
    | with_reducible refine SatEc.eq_ends ?_ (by with_reducible assumption)
    | with_reducible refine SatEc.eq_fault ?_ (by with_reducible assumption)
    | with_reducible refine SatR.of_eq ?_ (by with_reducible assumption)
    | split
    | dsimp only

theorem State.goReg_closed {P : State → Prop} {s : State} (hP : Closed 0x1000000000000000000000000000000000000000000000000000000000000000000000000000 P) (h : P s) (u : Nat) (r : SuRun) (g : Nat) (v : Nat) (c : Nat) :
 SatEc P (State.goReg s u r g v c) := by
  unfold State.goReg
  repeat' with_reducible first
    | assumption | exact hP.mono (by decide +kernel) | apply State.setReg_closed | apply Sat1.fst | apply SatEc.go
    | apply SatEc.jump | apply SatEc.ends | apply SatEc.fault | apply SatEc.waits | decide +kernel | split
    | apply Sat1.pair

theorem execEcmelNop_closed {P : State → Prop} {s : State} (hP : Closed 0x100000000001000000000000000000000000000009c200000000000000000000000000000000 P) (h : P s) (su : Nat) :
 SatR P (execEcmelNop su s) := by
  unfold execEcmelNop
  repeat' with_reducible first
    | assumption | intro _ | exact hP.mono (by decide +kernel) | apply State.ecmel_closed | apply SatEc.go
    | apply SatEc.jump | apply SatEc.ends | apply SatEc.fault | apply SatEc.waits | apply SatR.next
    | apply SatR.fault | apply SatR.refused | apply ite_sat | apply foldl_sat | apply foldUp_sat | decide +kernel
    | refine SatEc.eq_go ?_ (by assumption) | refine SatEc.eq_jump ?_ (by assumption)
    | refine SatEc.eq_ends ?_ (by assumption) | refine SatEc.eq_fault ?_ (by assumption)
    | refine SatR.of_eq ?_ (by assumption) | split

theorem execEcmelEnd_closed {P : State → Prop} {s : State} (hP : Closed 0x100000000001000000000000000000000000000009c200000000000000000000000000000000 P) (h : P s) (su : Nat) :
 SatR P (execEcmelEnd su s) := by
  unfold execEcmelEnd
  repeat' with_reducible first
    | assumption | intro _ | exact hP.mono (by decide +kernel) | apply State.ecmel_closed | apply SatEc.go
    | apply SatEc.jump | apply SatEc.ends | apply SatEc.fault | apply SatEc.waits | apply SatR.next
    | apply SatR.fault | apply SatR.refused | apply ite_sat | apply foldl_sat | apply foldUp_sat | decide +kernel
    | refine SatEc.eq_go ?_ (by assumption) | refine SatEc.eq_jump ?_ (by assumption)
    | refine SatEc.eq_ends ?_ (by assumption) | refine SatEc.eq_fault ?_ (by assumption)
    | refine SatR.of_eq ?_ (by assumption) | split

theorem execEcmelDrop_closed {P : State → Prop} {s : State} (hP : Closed 0x100000000001000000000000000000000000000009c200000000000000000000000000000000 P) (h : P s) (su : Nat) :
 SatR P (execEcmelDrop su s) := by
  unfold execEcmelDrop
  repeat' with_reducible first
    | assumption | intro _ | exact hP.mono (by decide +kernel) | apply State.ecmel_closed | apply SatEc.go
    | apply SatEc.jump | apply SatEc.ends | apply SatEc.fault | apply SatEc.waits | apply SatR.next
    | apply SatR.fault | apply SatR.refused | apply ite_sat | apply foldl_sat | apply foldUp_sat | decide +kernel
    | refine SatEc.eq_go ?_ (by assumption) | refine SatEc.eq_jump ?_ (by assumption)
    | refine SatEc.eq_ends ?_ (by assumption) | refine SatEc.eq_fault ?_ (by assumption)
    | refine SatR.of_eq ?_ (by assumption) | split

theorem execBrz_closed {P : State → Prop} {s : State} (hP : Closed 0x100000000001000000000000000000000000000009c200000000000000000000000000000000 P) (h : P s) (su : Nat) :
 SatR P (execBrz su s) := by
  unfold execBrz
  repeat' with_reducible first
    | assumption | intro _ | exact hP.mono (by decide +kernel) | apply State.ecmel_closed | apply SatEc.go
    | apply SatEc.jump | apply SatEc.ends | apply SatEc.fault | apply SatEc.waits | apply SatR.next
    | apply SatR.fault | apply SatR.refused | apply ite_sat | apply foldl_sat | apply foldUp_sat | decide +kernel
    | refine SatEc.eq_go ?_ (by assumption) | refine SatEc.eq_jump ?_ (by assumption)
    | refine SatEc.eq_ends ?_ (by assumption) | refine SatEc.eq_fault ?_ (by assumption)
    | refine SatR.of_eq ?_ (by assumption) | split

theorem execBrnz_closed {P : State → Prop} {s : State} (hP : Closed 0x100000000001000000000000000000000000000009c200000000000000000000000000000000 P) (h : P s) (su : Nat) :
 SatR P (execBrnz su s) := by
  unfold execBrnz
  repeat' with_reducible first
    | assumption | intro _ | exact hP.mono (by decide +kernel) | apply State.ecmel_closed | apply SatEc.go
    | apply SatEc.jump | apply SatEc.ends | apply SatEc.fault | apply SatEc.waits | apply SatR.next
    | apply SatR.fault | apply SatR.refused | apply ite_sat | apply foldl_sat | apply foldUp_sat | decide +kernel
    | refine SatEc.eq_go ?_ (by assumption) | refine SatEc.eq_jump ?_ (by assumption)
    | refine SatEc.eq_ends ?_ (by assumption) | refine SatEc.eq_fault ?_ (by assumption)
    | refine SatR.of_eq ?_ (by assumption) | split

theorem execMovi_closed {P : State → Prop} {s : State} (hP : Closed 0x100000000001000000000000000000000000000009c200000000000000000000000000000000 P) (h : P s) (su : Nat) :
 SatR P (execMovi su s) := by
  unfold execMovi
  repeat' with_reducible first
    | assumption | intro _ | exact hP.mono (by decide +kernel) | apply State.goReg_closed | apply State.ecmel_closed
    | apply SatEc.go | apply SatEc.jump | apply SatEc.ends | apply SatEc.fault | apply SatEc.waits | apply SatR.next
    | apply SatR.fault | apply SatR.refused | apply ite_sat | apply foldl_sat | apply foldUp_sat | decide +kernel
    | refine SatEc.eq_go ?_ (by assumption) | refine SatEc.eq_jump ?_ (by assumption)
    | refine SatEc.eq_ends ?_ (by assumption) | refine SatEc.eq_fault ?_ (by assumption)
    | refine SatR.of_eq ?_ (by assumption) | split

theorem execEcmelAlu_closed {P : State → Prop} {s : State} (hP : Closed 0x100000000001000000000000000000000000000009c200000000000000000000000000000000 P) (h : P s) (su : Nat) :
 SatR P (execEcmelAlu su s) := by
  unfold execEcmelAlu
  repeat' with_reducible first
    | assumption | intro _ | exact hP.mono (by decide +kernel) | apply State.goReg_closed | apply State.ecmel_closed
    | apply SatEc.go | apply SatEc.jump | apply SatEc.ends | apply SatEc.fault | apply SatEc.waits | apply SatR.next
    | apply SatR.fault | apply SatR.refused | apply ite_sat | apply foldl_sat | apply foldUp_sat | decide +kernel
    | refine SatEc.eq_go ?_ (by assumption) | refine SatEc.eq_jump ?_ (by assumption)
    | refine SatEc.eq_ends ?_ (by assumption) | refine SatEc.eq_fault ?_ (by assumption)
    | refine SatR.of_eq ?_ (by assumption) | split

theorem execEcmelGet_closed {P : State → Prop} {s : State} (hP : Closed 0x100000000001000000000000000000000000000009c200000000000000000000000000000000 P) (h : P s) (su : Nat) :
 SatR P (execEcmelGet su s) := by
  unfold execEcmelGet
  repeat' with_reducible first
    | assumption | intro _ | exact hP.mono (by decide +kernel) | apply State.goReg_closed | apply State.ecmel_closed
    | apply SatEc.go | apply SatEc.jump | apply SatEc.ends | apply SatEc.fault | apply SatEc.waits | apply SatR.next
    | apply SatR.fault | apply SatR.refused | apply ite_sat | apply foldl_sat | apply foldUp_sat | decide +kernel
    | refine SatEc.eq_go ?_ (by assumption) | refine SatEc.eq_jump ?_ (by assumption)
    | refine SatEc.eq_ends ?_ (by assumption) | refine SatEc.eq_fault ?_ (by assumption)
    | refine SatR.of_eq ?_ (by assumption) | split

theorem execEcmelHdr_closed {P : State → Prop} {s : State} (hP : Closed 0x100000000001000000000000000000000000000009c200000000000000000000000000000000 P) (h : P s) (su : Nat) :
 SatR P (execEcmelHdr su s) := by
  unfold execEcmelHdr
  repeat' with_reducible first
    | assumption | intro _ | exact hP.mono (by decide +kernel) | apply State.goReg_closed | apply State.ecmel_closed
    | apply SatEc.go | apply SatEc.jump | apply SatEc.ends | apply SatEc.fault | apply SatEc.waits | apply SatR.next
    | apply SatR.fault | apply SatR.refused | apply ite_sat | apply foldl_sat | apply foldUp_sat | decide +kernel
    | refine SatEc.eq_go ?_ (by assumption) | refine SatEc.eq_jump ?_ (by assumption)
    | refine SatEc.eq_ends ?_ (by assumption) | refine SatEc.eq_fault ?_ (by assumption)
    | refine SatR.of_eq ?_ (by assumption) | split

theorem execLdp_closed {P : State → Prop} {s : State} (hP : Closed 0x100000000001000000000000000000000000000009c200000000000000000000000000000000 P) (h : P s) (su : Nat) :
 SatR P (execLdp su s) := by
  unfold execLdp
  repeat' with_reducible first
    | assumption | intro _ | exact hP.mono (by decide +kernel) | apply State.goReg_closed | apply State.ecmel_closed
    | apply SatEc.go | apply SatEc.jump | apply SatEc.ends | apply SatEc.fault | apply SatEc.waits | apply SatR.next
    | apply SatR.fault | apply SatR.refused | apply ite_sat | apply foldl_sat | apply foldUp_sat | decide +kernel
    | refine SatEc.eq_go ?_ (by assumption) | refine SatEc.eq_jump ?_ (by assumption)
    | refine SatEc.eq_ends ?_ (by assumption) | refine SatEc.eq_fault ?_ (by assumption)
    | refine SatR.of_eq ?_ (by assumption) | split

theorem execPadd_closed {P : State → Prop} {s : State} (hP : Closed 0x100000000001000000000000000000000000000009c200000000000000000000000000000000 P) (h : P s) (su : Nat) :
 SatR P (execPadd su s) := by
  unfold execPadd
  repeat' with_reducible first
    | assumption | intro _ | exact hP.mono (by decide +kernel) | apply State.goReg_closed | apply State.ecmel_closed
    | apply SatEc.go | apply SatEc.jump | apply SatEc.ends | apply SatEc.fault | apply SatEc.waits | apply SatR.next
    | apply SatR.fault | apply SatR.refused | apply ite_sat | apply foldl_sat | apply foldUp_sat | decide +kernel
    | refine SatEc.eq_go ?_ (by assumption) | refine SatEc.eq_jump ?_ (by assumption)
    | refine SatEc.eq_ends ?_ (by assumption) | refine SatEc.eq_fault ?_ (by assumption)
    | refine SatR.of_eq ?_ (by assumption) | split

theorem execOhdr_closed {P : State → Prop} {s : State} (hP : Closed 0x100000000001000000000000000000000000000009c200000000000000000000000000000000 P) (h : P s) (su : Nat) :
 SatR P (execOhdr su s) := by
  unfold execOhdr
  repeat' with_reducible first
    | assumption | intro _ | exact hP.mono (by decide +kernel) | apply State.ecmel_closed | apply SatEc.go
    | apply SatEc.jump | apply SatEc.ends | apply SatEc.fault | apply SatEc.waits | apply SatR.next
    | apply SatR.fault | apply SatR.refused | apply ite_sat | apply foldl_sat | apply foldUp_sat | decide +kernel
    | refine SatEc.eq_go ?_ (by assumption) | refine SatEc.eq_jump ?_ (by assumption)
    | refine SatEc.eq_ends ?_ (by assumption) | refine SatEc.eq_fault ?_ (by assumption)
    | refine SatR.of_eq ?_ (by assumption) | split

theorem execOput_closed {P : State → Prop} {s : State} (hP : Closed 0x100000000001000000000000000000000000000009c200000000000000000000000000000000 P) (h : P s) (su : Nat) :
 SatR P (execOput su s) := by
  unfold execOput
  repeat' with_reducible first
    | assumption | intro _ | exact hP.mono (by decide +kernel) | apply State.ecmel_closed | apply SatEc.go
    | apply SatEc.jump | apply SatEc.ends | apply SatEc.fault | apply SatEc.waits | apply SatR.next
    | apply SatR.fault | apply SatR.refused | apply ite_sat | apply foldl_sat | apply foldUp_sat | decide +kernel
    | refine SatEc.eq_go ?_ (by assumption) | refine SatEc.eq_jump ?_ (by assumption)
    | refine SatEc.eq_ends ?_ (by assumption) | refine SatEc.eq_fault ?_ (by assumption)
    | refine SatR.of_eq ?_ (by assumption) | split

theorem execOcopy_closed {P : State → Prop} {s : State} (hP : Closed 0x100000000001000000000000000000000000000009c200000000000000000000000000000000 P) (h : P s) (su : Nat) :
 SatR P (execOcopy su s) := by
  unfold execOcopy
  repeat' with_reducible first
    | assumption | intro _ | exact hP.mono (by decide +kernel) | apply State.ecmel_closed | apply SatEc.go
    | apply SatEc.jump | apply SatEc.ends | apply SatEc.fault | apply SatEc.waits | apply SatR.next
    | apply SatR.fault | apply SatR.refused | apply ite_sat | apply foldl_sat | apply foldUp_sat | decide +kernel
    | refine SatEc.eq_go ?_ (by assumption) | refine SatEc.eq_jump ?_ (by assumption)
    | refine SatEc.eq_ends ?_ (by assumption) | refine SatEc.eq_fault ?_ (by assumption)
    | refine SatR.of_eq ?_ (by assumption) | split

theorem execEcmelSend_closed {P : State → Prop} {s : State} (hP : Closed 0x100000000005000000000000000000000000000009c200000000000000000000000000000000 P) (h : P s) (su : Nat) :
 SatR P (execEcmelSend su s) := by
  unfold execEcmelSend
  repeat' with_reducible first
    | assumption | intro _ | exact hP.mono (by decide +kernel) | apply State.suCount_closed
    | apply State.ecmel_closed | apply State.send_closed | apply SatEc.go | apply SatEc.jump | apply SatEc.ends
    | apply SatEc.fault | apply SatEc.waits | apply SatR.next | apply SatR.fault | apply SatR.refused
    | apply ite_sat | apply foldl_sat | apply foldUp_sat | decide +kernel | refine SatEc.eq_go ?_ (by assumption)
    | refine SatEc.eq_jump ?_ (by assumption) | refine SatEc.eq_ends ?_ (by assumption)
    | refine SatEc.eq_fault ?_ (by assumption) | refine SatR.of_eq ?_ (by assumption) | split

theorem State.setSuRec_closed {P : State → Prop} {s : State} (hP : Closed 0x1000000000000000000000000000000000000000000000000000000000000000000000000000 P) (h : P s) (u : Nat) (x : SuRec) :
 P (State.setSuRec s u x) := by
  unfold State.setSuRec
  repeat' with_reducible first
    | assumption | exact hP.mono (by decide +kernel) | apply State.setSu_closed | decide +kernel | split

theorem State.closeRec_closed {P : State → Prop} {s : State} (hP : Closed 0x1000000000000000000000000000000000000000004200000000000000000000000000000000 P) (h : P s) (u : Nat) (x : SuRec) :
 P (State.closeRec s u x) := by
  unfold State.closeRec
  repeat' with_reducible first
    | assumption | exact hP.mono (by decide +kernel) | apply State.noteRecs_closed | apply State.suCount_closed
    | apply State.setSu_closed | apply State.useSlots_closed | decide +kernel | split

theorem State.openRec_closed {P : State → Prop} {s : State} (hP : Closed 0x1000000000000000000000000000000000000000000200000000000000000000000000000000 P) (h : P s) (u : Nat) (slot : Nat) (key : Nat) (params : List Nat) (bytes : Nat) :
 SatE2 P (State.openRec s u slot key params bytes) := by
  unfold State.openRec
  repeat' with_reducible first
    | assumption | intro _ | exact hP.mono (by decide +kernel) | apply State.noteRecs_closed
    | apply State.setSu_closed | apply State.useSlots_closed | apply SatE2.ok | apply SatE2.error | apply ite_sat
    | apply foldl_sat | apply foldUp_sat | decide +kernel | refine SatE2.of_eq ?_ (by assumption) | split

theorem State.refold_closed {P : State → Prop} {s : State} (hP : Closed 0x1000000000000000000000000000000000000000000200000000000000000000000000000000 P) (h : P s) (u : Nat) (r : SuRun) (key : Nat) (lo : Nat) (hi : Nat) (keep : Option Nat) :
 P (State.refold s u r key lo hi keep) := by
  unfold State.refold
  repeat' with_reducible first
    | assumption | exact hP.mono (by decide +kernel) | apply State.setSu_closed | apply State.noteHeld_closed
    | apply State.useSlots_closed | decide +kernel | split

theorem State.rsum_closed {P : State → Prop} {s : State} (hP : Closed 0x1000000000000000000000000000000000000000004200000000000000000000000000000000 P) (h : P s) (u : Nat) (r : SuRun) (w : Nat) (g : Nat → Nat) :
 SatEc P (State.rsum s u r w g) := by
  unfold State.rsum
  repeat' first
    | with_reducible assumption
    | intro _
    | exact hP.mono (by decide +kernel)
    | with_reducible apply State.suCount_closed
    | with_reducible apply State.setSuRec_closed
    | with_reducible apply State.goReg_closed
    | with_reducible apply State.closeRec_closed
    | with_reducible apply State.refold_closed
    | with_reducible apply State.openRec_closed
    | with_reducible apply SatE2.ok
    | with_reducible apply SatE2.error
    | with_reducible apply SatEc.go
    | with_reducible apply SatEc.jump
    | with_reducible apply SatEc.ends
    | with_reducible apply SatEc.fault
    | with_reducible apply SatEc.waits
    | with_reducible apply ite_sat
    | with_reducible apply foldl_sat
    | with_reducible apply foldUp_sat
    | decide +kernel
    | with_reducible refine SatE2.of_eq ?_ (by with_reducible assumption)
    | with_reducible refine SatEc.eq_go ?_ (by with_reducible assumption)
    | with_reducible refine SatEc.eq_jump ?_ (by with_reducible assumption)
    | with_reducible refine SatEc.eq_ends ?_ (by with_reducible assumption)
    | with_reducible refine SatEc.eq_fault ?_ (by with_reducible assumption)
    | split
    | dsimp only

theorem execEcmelRsum_closed {P : State → Prop} {s : State} (hP : Closed 0x100000000001000000000000000000000000000009c200000000000000000000000000000000 P) (h : P s) (su : Nat) :
 SatR P (execEcmelRsum su s) := by
  unfold execEcmelRsum
  repeat' with_reducible first
    | assumption | intro _ | exact hP.mono (by decide +kernel) | apply State.rsum_closed | apply State.ecmel_closed
    | apply SatEc.go | apply SatEc.jump | apply SatEc.ends | apply SatEc.fault | apply SatEc.waits | apply SatR.next
    | apply SatR.fault | apply SatR.refused | apply ite_sat | apply foldl_sat | apply foldUp_sat | decide +kernel
    | refine SatEc.eq_go ?_ (by assumption) | refine SatEc.eq_jump ?_ (by assumption)
    | refine SatEc.eq_ends ?_ (by assumption) | refine SatEc.eq_fault ?_ (by assumption)
    | refine SatR.of_eq ?_ (by assumption) | split

theorem State.gath_closed {P : State → Prop} {s : State} (hP : Closed 0x1000000000000000000000000000000000000000004200000000000000000000000000000000 P) (h : P s) (u : Nat) (r : SuRun) (w : Nat) (g : Nat → Nat) :
 SatEc P (State.gath s u r w g) := by
  unfold State.gath
  repeat' with_reducible first
    | assumption | intro _ | exact hP.mono (by decide +kernel) | apply State.setSuRec_closed
    | apply State.goReg_closed | apply State.closeRec_closed | apply State.openRec_closed | apply SatE2.ok
    | apply SatE2.error | apply SatEc.go | apply SatEc.jump | apply SatEc.ends | apply SatEc.fault
    | apply SatEc.waits | apply ite_sat | apply foldl_sat | apply foldUp_sat | decide +kernel
    | refine SatE2.of_eq ?_ (by assumption) | refine SatEc.eq_go ?_ (by assumption)
    | refine SatEc.eq_jump ?_ (by assumption) | refine SatEc.eq_ends ?_ (by assumption)
    | refine SatEc.eq_fault ?_ (by assumption) | split

theorem execEcmelGath_closed {P : State → Prop} {s : State} (hP : Closed 0x100000000001000000000000000000000000000009c200000000000000000000000000000000 P) (h : P s) (su : Nat) :
 SatR P (execEcmelGath su s) := by
  unfold execEcmelGath
  repeat' with_reducible first
    | assumption | intro _ | exact hP.mono (by decide +kernel) | apply State.ecmel_closed | apply State.gath_closed
    | apply SatEc.go | apply SatEc.jump | apply SatEc.ends | apply SatEc.fault | apply SatEc.waits | apply SatR.next
    | apply SatR.fault | apply SatR.refused | apply ite_sat | apply foldl_sat | apply foldUp_sat | decide +kernel
    | refine SatEc.eq_go ?_ (by assumption) | refine SatEc.eq_jump ?_ (by assumption)
    | refine SatEc.eq_ends ?_ (by assumption) | refine SatEc.eq_fault ?_ (by assumption)
    | refine SatR.of_eq ?_ (by assumption) | split

theorem execEcmelFilt_closed {P : State → Prop} {s : State} (hP : Closed 0x100000000001000000000000000000000000000009c200000000000000000000000000000000 P) (h : P s) (su : Nat) :
 SatR P (execEcmelFilt su s) := by
  unfold execEcmelFilt
  repeat' with_reducible first
    | assumption | intro _ | exact hP.mono (by decide +kernel) | apply State.suCount_closed
    | apply State.goReg_closed | apply State.ecmel_closed | apply SatEc.go | apply SatEc.jump | apply SatEc.ends
    | apply SatEc.fault | apply SatEc.waits | apply SatR.next | apply SatR.fault | apply SatR.refused
    | apply ite_sat | apply foldl_sat | apply foldUp_sat | decide +kernel | refine SatEc.eq_go ?_ (by assumption)
    | refine SatEc.eq_jump ?_ (by assumption) | refine SatEc.eq_ends ?_ (by assumption)
    | refine SatEc.eq_fault ?_ (by assumption) | refine SatR.of_eq ?_ (by assumption) | split

theorem State.mergeRun_closed {P : State → Prop} {s : State} (hP : Closed 0x1000000000000000000000000000000000000000004200000000000000000000000000000000 P) (h : P s) (u : Nat) (r : SuRun) (w : Nat) (g : Nat → Nat) :
 SatEc P (State.mergeRun s u r w g) := by
  unfold State.mergeRun
  repeat' with_reducible first
    | assumption | intro _ | exact hP.mono (by decide +kernel) | apply State.suCount_closed
    | apply State.setSuRec_closed | apply State.goReg_closed | apply State.closeRec_closed
    | apply State.openRec_closed | apply SatE2.ok | apply SatE2.error | apply SatEc.go | apply SatEc.jump
    | apply SatEc.ends | apply SatEc.fault | apply SatEc.waits | apply ite_sat | apply foldl_sat | apply foldUp_sat
    | decide +kernel | refine SatE2.of_eq ?_ (by assumption) | refine SatEc.eq_go ?_ (by assumption)
    | refine SatEc.eq_jump ?_ (by assumption) | refine SatEc.eq_ends ?_ (by assumption)
    | refine SatEc.eq_fault ?_ (by assumption) | split

theorem execEcmelMerge_closed {P : State → Prop} {s : State} (hP : Closed 0x100000000001000000000000000000000000000009c200000000000000000000000000000000 P) (h : P s) (su : Nat) :
 SatR P (execEcmelMerge su s) := by
  unfold execEcmelMerge
  repeat' with_reducible first
    | assumption | intro _ | exact hP.mono (by decide +kernel) | apply State.mergeRun_closed
    | apply State.ecmel_closed | apply SatEc.go | apply SatEc.jump | apply SatEc.ends | apply SatEc.fault
    | apply SatEc.waits | apply SatR.next | apply SatR.fault | apply SatR.refused | apply ite_sat | apply foldl_sat
    | apply foldUp_sat | decide +kernel | refine SatEc.eq_go ?_ (by assumption)
    | refine SatEc.eq_jump ?_ (by assumption) | refine SatEc.eq_ends ?_ (by assumption)
    | refine SatEc.eq_fault ?_ (by assumption) | refine SatR.of_eq ?_ (by assumption) | split

theorem execBtest_closed {P : State → Prop} {s : State} (hP : Closed 0x100000000001000000000000000000000000000009c200000000000000000000000000000000 P) (h : P s) (su : Nat) :
 SatR P (execBtest su s) := by
  unfold execBtest
  repeat' with_reducible first
    | assumption | intro _ | exact hP.mono (by decide +kernel) | apply State.goReg_closed | apply State.ecmel_closed
    | apply SatEc.go | apply SatEc.jump | apply SatEc.ends | apply SatEc.fault | apply SatEc.waits | apply SatR.next
    | apply SatR.fault | apply SatR.refused | apply ite_sat | apply foldl_sat | apply foldUp_sat | decide +kernel
    | refine SatEc.eq_go ?_ (by assumption) | refine SatEc.eq_jump ?_ (by assumption)
    | refine SatEc.eq_ends ?_ (by assumption) | refine SatEc.eq_fault ?_ (by assumption)
    | refine SatR.of_eq ?_ (by assumption) | split

theorem execBset_closed {P : State → Prop} {s : State} (hP : Closed 0x100000000001000000000000000000000000000009c200000000000000000000000000000000 P) (h : P s) (su : Nat) :
 SatR P (execBset su s) := by
  unfold execBset
  repeat' with_reducible first
    | assumption | intro _ | exact hP.mono (by decide +kernel) | apply State.ecmel_closed
    | apply State.memWrite_closed | apply SatEc.go | apply SatEc.jump | apply SatEc.ends | apply SatEc.fault
    | apply SatEc.waits | apply SatR.next | apply SatR.fault | apply SatR.refused | apply ite_sat | apply foldl_sat
    | apply foldUp_sat | decide +kernel | refine SatEc.eq_go ?_ (by assumption)
    | refine SatEc.eq_jump ?_ (by assumption) | refine SatEc.eq_ends ?_ (by assumption)
    | refine SatEc.eq_fault ?_ (by assumption) | refine SatR.of_eq ?_ (by assumption) | split

theorem execGfmac_closed {P : State → Prop} {s : State} (hP : Closed 0x100000000001000000000000000000000000000009c200000000000000000000000000000000 P) (h : P s) (su : Nat) :
 SatR P (execGfmac su s) := by
  unfold execGfmac
  repeat' with_reducible first
    | assumption | intro _ | exact hP.mono (by decide +kernel) | apply State.ecmel_closed | apply SatEc.go
    | apply SatEc.jump | apply SatEc.ends | apply SatEc.fault | apply SatEc.waits | apply SatR.next
    | apply SatR.fault | apply SatR.refused | apply ite_sat | apply foldl_sat | apply foldUp_sat | decide +kernel
    | refine SatEc.eq_go ?_ (by assumption) | refine SatEc.eq_jump ?_ (by assumption)
    | refine SatEc.eq_ends ?_ (by assumption) | refine SatEc.eq_fault ?_ (by assumption)
    | refine SatR.of_eq ?_ (by assumption) | split

theorem execOzero_closed {P : State → Prop} {s : State} (hP : Closed 0x100000000001000000000000000000000000000009c200000000000000000000000000000000 P) (h : P s) (su : Nat) :
 SatR P (execOzero su s) := by
  unfold execOzero
  repeat' with_reducible first
    | assumption | intro _ | exact hP.mono (by decide +kernel) | apply State.ecmel_closed | apply SatEc.go
    | apply SatEc.jump | apply SatEc.ends | apply SatEc.fault | apply SatEc.waits | apply SatR.next
    | apply SatR.fault | apply SatR.refused | apply ite_sat | apply foldl_sat | apply foldUp_sat | decide +kernel
    | refine SatEc.eq_go ?_ (by assumption) | refine SatEc.eq_jump ?_ (by assumption)
    | refine SatEc.eq_ends ?_ (by assumption) | refine SatEc.eq_fault ?_ (by assumption)
    | refine SatR.of_eq ?_ (by assumption) | split

end Sys2Proof.Laws
end

