-- ==== Sys2Proof/Laws/ClosedColl.lean ====
section
/-! SUPPORT. The operations of Coll.lean keep every property that the writes of their footprint keep. -/

namespace Sys2Proof.Laws

set_option Elab.async false
set_option linter.all false

open Sys2Proof.Machine

theorem State.setCtx_closed {P : State → Prop} {s : State} (hP : Closed 0x4000000000000000000000000000000000000000000000000000000000000000000000000000 P) (h : P s) (c : Nat) (x : CtxSt) :
 P (State.setCtx s c x) := by
  unfold State.setCtx
  repeat' with_reducible first
    | assumption | exact hP.mono (by decide +kernel) | decide +kernel | split | apply hP.ctxs

theorem State.ctxCount_closed {P : State → Prop} {s : State} (hP : Closed 0x20000000000000000000000000004000000000000000000000000000000000000 P) (h : P s) (c : Nat) (k : Nat) (n : Nat) :
 P (State.ctxCount s c k n) := by
  unfold State.ctxCount
  repeat' with_reducible first
    | assumption | exact hP.mono (by decide +kernel) | apply State.inc_closed | decide +kernel | split

theorem State.ctxNote_closed {P : State → Prop} {s : State} (hP : Closed 0x1000000000000000000000000000000000000 P) (h : P s) (c : Nat) :
 P (State.ctxNote s c) := by
  unfold State.ctxNote
  repeat' with_reducible first
    | assumption | exact hP.mono (by decide +kernel) | apply State.wrFld_closed | decide +kernel | split

theorem State.cleSend_closed {P : State → Prop} {s : State} (hP : Closed 0x4000000000000000000000000000000000000000000000000000000000000000000000000000 P) (h : P s) (c : Nat) (f : Frame) :
 P (State.cleSend s c f) := by
  unfold State.cleSend
  repeat' with_reducible first
    | assumption | exact hP.mono (by decide +kernel) | apply State.setCtx_closed | decide +kernel | split

theorem State.cleTurn_closed {P : State → Prop} {s : State} (hP : Closed 0x4000000000040000000000000000000000000000000000000000000000000000000000000000 P) (h : P s) :
 P (State.cleTurn s) := by
  unfold State.cleTurn
  repeat' with_reducible first
    | assumption | intro _ | exact hP.mono (by decide +kernel) | apply State.setCtx_closed | apply State.send_closed
    | apply ite_sat | apply foldl_sat | apply foldUp_sat | decide +kernel | split

theorem cleTurns_closed {P : State → Prop} {x1 : State} (hP : Closed 0x4000000000040000000000000000000000000000000000000000000000000000000000000000 P) (h : P x1) (x0 : Nat) :
 P (cleTurns x0 x1) := by
  induction x0 generalizing x1 with
  | zero =>
    unfold cleTurns
    repeat' first
      | with_reducible assumption
      | with_reducible apply ih
      | intro _
      | exact hP.mono (by decide +kernel)
      | with_reducible apply State.cleTurn_closed
      | with_reducible apply ite_sat
      | with_reducible apply foldl_sat
      | with_reducible apply foldUp_sat
      | decide +kernel
      | dsimp only
      | split
  | succ n ih =>
    unfold cleTurns
    repeat' first
      | with_reducible assumption
      | with_reducible apply ih
      | intro _
      | exact hP.mono (by decide +kernel)
      | with_reducible apply State.cleTurn_closed
      | with_reducible apply ite_sat
      | with_reducible apply foldl_sat
      | with_reducible apply foldUp_sat
      | decide +kernel
      | dsimp only
      | split

theorem State.cleInject_closed {P : State → Prop} {s : State} (hP : Closed 0x4000000000040000000000000000000000000000000000000000000000000000000000000000 P) (h : P s) :
 P (State.cleInject s) := by
  unfold State.cleInject
  repeat' with_reducible first
    | assumption | exact hP.mono (by decide +kernel) | apply cleTurns_closed | decide +kernel | split

theorem State.sendParts_closed {P : State → Prop} {s : State} (hP : Closed 0x4000000000000000000000000000000000000000000000000000000000000000000000000000 P) (h : P s) (c : Nat) (dest : Nat) (mc : Bool) (h : CleHead) (parts : List (List Byte)) :
 P (State.sendParts s c dest mc h parts) := by
  unfold State.sendParts
  repeat' with_reducible first
    | assumption | intro _ | exact hP.mono (by decide +kernel) | apply State.cleSend_closed | apply ite_sat
    | apply foldl_sat | apply foldUp_sat | decide +kernel | split

theorem State.sendControl_closed {P : State → Prop} {s : State} (hP : Closed 0x4000000000000000000000000000000000000000000000000000000000000000000000000000 P) (h : P s) (c : Nat) (dest : Nat) (mc : Bool) (sub : Nat) (seq : Nat) (epoch : Nat) (digest : Nat) (arg0 : Nat) (arg1 : Nat) (cause : Nat) :
 P (State.sendControl s c dest mc sub seq epoch digest arg0 arg1 cause) := by
  unfold State.sendControl
  repeat' with_reducible first
    | assumption | exact hP.mono (by decide +kernel) | apply State.cleSend_closed | decide +kernel | split

theorem State.setColl_closed {P : State → Prop} {s : State} (hP : Closed 0x4000000000000000000000000000000000000000000000000000000000000000000000000000 P) (h : P s) (c : Nat) (k : CollSt) :
 P (State.setColl s c k) := by
  unfold State.setColl
  repeat' with_reducible first
    | assumption | exact hP.mono (by decide +kernel) | apply State.setCtx_closed | decide +kernel | split

theorem State.writeLocal_closed {P : State → Prop} {s : State} (hP : Closed 0x3030000000000000000000000000000000000000000000000000000000000000000 P) (h : P s) (addr : Nat) (bs : List Byte) :
 P (State.writeLocal s addr bs) := by
  unfold State.writeLocal
  repeat' with_reducible first
    | assumption | exact hP.mono (by decide +kernel) | apply State.memStore_closed | decide +kernel | split

theorem State.collRecord_closed {P : State → Prop} {s : State} (hP : Closed 0x8000000003030000000000000000000000000000000000000000000000000000000000604000 P) (h : P s) (c : Nat) (k : CollSt) (status : Nat) :
 P (State.collRecord s c k status) := by
  unfold State.collRecord
  repeat' with_reducible first
    | assumption | exact hP.mono (by decide +kernel) | apply State.writeLocal_closed | apply State.addFlag_closed
    | decide +kernel | split | apply hP.ringDone

theorem completeGo_closed {P : State → Prop} {x2 : State} (hP : Closed 0xc000000003030000000000000000000000000004000000000000000000000000000000604000 P) (h : P x2) (c : Nat) (x1 : Nat) :
 P (completeGo c x1 x2) := by
  induction x1 generalizing x2 with
  | zero => exact h
  | succ n ih =>
    rw [completeGo]
    split
    · exact h
    · split
      · exact ih (State.ctxCount_closed (hP.mono (by decide +kernel)) (State.collRecord_closed (hP.mono (by decide +kernel))
          (State.setCtx_closed (hP.mono (by decide +kernel)) h _ _) _ _ _) _ _ _)
      · exact h

theorem State.collNote_closed {P : State → Prop} {s : State} (hP : Closed 0xc000000003030000000000000000000000000005000000000000000000000000000000604000 P) (h : P s) (c : Nat) :
 P (State.collNote s c) := by
  unfold State.collNote
  repeat' with_reducible first
    | assumption | exact hP.mono (by decide +kernel) | apply completeGo_closed | apply State.ctxNote_closed
    | decide +kernel | split

theorem State.clearSlot_closed {P : State → Prop} {s : State} (hP : Closed 0x1000000000010000000000000000000000000000094200000000000000000000000000000000 P) (h : P s) (slot : Nat) :
 P (State.clearSlot s slot) := by
  unfold State.clearSlot
  repeat' with_reducible first
    | assumption | exact hP.mono (by decide +kernel) | apply State.discardSlot_closed | apply State.wrFld_closed
    | decide +kernel | split

theorem State.abortHere_closed {P : State → Prop} {s : State} (hP : Closed 0xd000000003030000000000000000000000000005094200000000000000000000000000604000 P) (h : P s) (c : Nat) (seq : Nat) (cause : Nat) :
 P (State.abortHere s c seq cause) := by
  unfold State.abortHere
  repeat' with_reducible first
    | assumption | intro _ | exact hP.mono (by decide +kernel) | apply State.collRecord_closed
    | apply State.wr_closed | apply State.clearSlot_closed | apply State.ctxCount_closed | apply State.setCtx_closed
    | apply ite_sat | apply foldl_sat | apply foldUp_sat | decide +kernel | split

theorem State.abortSpread_closed {P : State → Prop} {s : State} (hP : Closed 0x4000000000000000000000000000000000000000000000000000000000000000000000000000 P) (h : P s) (c : Nat) (seq : Nat) (cause : Nat) :
 P (State.abortSpread s c seq cause) := by
  unfold State.abortSpread
  repeat' with_reducible first
    | assumption | intro _ | exact hP.mono (by decide +kernel) | apply State.sendControl_closed
    | apply State.setCtx_closed | apply ite_sat | apply foldl_sat | apply foldUp_sat | decide +kernel | split

theorem State.collAbort_closed {P : State → Prop} {s : State} (hP : Closed 0xd000000003030000000000000000000000000005094200000000000000000000000000604000 P) (h : P s) (c : Nat) (seq : Nat) (cause : Nat) :
 P (State.collAbort s c seq cause) := by
  unfold State.collAbort
  repeat' with_reducible first
    | assumption | intro _ | exact hP.mono (by decide +kernel) | apply State.sendControl_closed
    | apply State.abortHere_closed | apply State.abortSpread_closed | apply ite_sat | apply foldl_sat
    | apply foldUp_sat | decide +kernel | split

theorem State.collLost_closed {P : State → Prop} {s : State} (hP : Closed 0xd000000003030000000000000000000000000005094200000000000000000000000000604000 P) (h : P s) (dev : Nat) :
 P (State.collLost s dev) := by
  unfold State.collLost
  repeat' with_reducible first
    | assumption | intro _ | exact hP.mono (by decide +kernel) | apply State.collAbort_closed | apply ite_sat
    | apply foldl_sat | apply foldUp_sat | decide +kernel | split

theorem State.chunkRead_closed {P : State → Prop} {s : State} (hP : Closed 0x1c00000001e1c19863868070000001000000800000104001000000000221c81800a900000040ec000001c00 P) (h : P s) (k : CollSt) (x : CtxSt) (i : Nat) (ecc : Ecc) :
 Sat2 P (State.chunkRead s k x i ecc) := by
  unfold State.chunkRead
  repeat' with_reducible first
    | assumption | exact hP.mono (by decide +kernel) | apply State.eccRead_closed | apply Sat2.snd | decide +kernel
    | split | apply Sat2.pair

theorem State.sendChunk_closed {P : State → Prop} {s : State} (hP : Closed 0x4000000000000000000000000000000000000000000000000000000000000000000000000000 P) (h : P s) (c : Nat) (k : CollSt) (i : Nat) (t : Nat) :
 P (State.sendChunk s c k i t) := by
  unfold State.sendChunk
  repeat' with_reducible first
    | assumption | exact hP.mono (by decide +kernel) | apply State.sendParts_closed | decide +kernel | split

theorem State.grantNext_closed {P : State → Prop} {s : State} (hP : Closed 0x4000000000000000000000000000000000000000000000000000000000000000000000000000 P) (h : P s) (c : Nat) (k : CollSt) :
 P (State.grantNext s c k) := by
  unfold State.grantNext
  repeat' with_reducible first
    | assumption | intro _ | exact hP.mono (by decide +kernel) | apply State.setColl_closed
    | apply State.sendControl_closed | apply ite_sat | apply foldl_sat | apply foldUp_sat | decide +kernel | split

theorem State.grantAll_closed {P : State → Prop} {s : State} (hP : Closed 0x4000000000000000000000000000000000000000000000000000000000000000000000000000 P) (h : P s) (c : Nat) :
 P (State.grantAll s c) := by
  unfold State.grantAll
  repeat' with_reducible first
    | assumption | intro _ | exact hP.mono (by decide +kernel) | apply State.grantNext_closed | apply ite_sat
    | apply foldl_sat | apply foldUp_sat | decide +kernel | split

theorem State.copyOwn_closed {P : State → Prop} {s : State} (hP : Closed 0xd000000003030000000000000000000000000005094200000000000000000000000000604000 P) (h : P s) (c : Nat) (k : CollSt) :
 P (State.copyOwn s c k) := by
  unfold State.copyOwn
  repeat' with_reducible first
    | assumption | intro _ | exact hP.mono (by decide +kernel) | apply State.collNote_closed
    | apply State.setColl_closed | apply State.writeLocal_closed | apply State.collAbort_closed | apply ite_sat
    | apply foldl_sat | apply foldUp_sat | decide +kernel | split

theorem execChunkSend_closed {P : State → Prop} {s : State} (hP : Closed 0x1c00000001edc1986386b070000001000000800000104001005094200221c81800a900000040ec000605c00 P) (h : P s) (ctx : Nat) (ecc : Ecc) :
 SatR P (execChunkSend ctx ecc s) := by
  unfold execChunkSend
  repeat' first
    | with_reducible assumption
    | intro _
    | exact hP.mono (by decide +kernel)
    | with_reducible apply State.setColl_closed
    | with_reducible apply State.chunkRead_closed
    | with_reducible apply State.copyOwn_closed
    | with_reducible apply State.ctxCount_closed
    | with_reducible apply State.sendChunk_closed
    | with_reducible apply Sat2.snd
    | with_reducible apply SatR.next
    | with_reducible apply SatR.fault
    | with_reducible apply SatR.refused
    | with_reducible apply ite_sat
    | with_reducible apply foldl_sat
    | with_reducible apply foldUp_sat
    | decide +kernel
    | with_reducible refine Sat2.of_eq ?_ (by with_reducible assumption)
    | with_reducible refine SatR.of_eq ?_ (by with_reducible assumption)
    | split
    | with_reducible apply Sat2.pair
    | dsimp only

theorem State.setAssembly_closed {P : State → Prop} {s : State} (hP : Closed 0x4000000000000000000000000000000000000000000000000000000000000000000000000000 P) (h : P s) (c : Nat) (a : Assembly) :
 P (State.setAssembly s c a) := by
  unfold State.setAssembly
  repeat' with_reducible first
    | assumption | exact hP.mono (by decide +kernel) | apply State.setCtx_closed | decide +kernel | split

theorem State.dropAssembly_closed {P : State → Prop} {s : State} (hP : Closed 0x4000000000000000000000000000000000000000000000000000000000000000000000000000 P) (h : P s) (c : Nat) (a : Assembly) :
 P (State.dropAssembly s c a) := by
  unfold State.dropAssembly
  repeat' with_reducible first
    | assumption | exact hP.mono (by decide +kernel) | apply State.setCtx_closed | decide +kernel | split

theorem State.chunkFails_closed {P : State → Prop} {s : State} (hP : Closed 0xd000000003030000000000000000000000000005094200000000000000000000000000604000 P) (h : P s) (c : Nat) (a : Assembly) (source : Nat) (cause : Nat) :
 P (State.chunkFails s c a source cause) := by
  unfold State.chunkFails
  repeat' with_reducible first
    | assumption | intro _ | exact hP.mono (by decide +kernel) | apply State.setColl_closed
    | apply State.sendControl_closed | apply State.setAssembly_closed | apply State.ctxCount_closed
    | apply State.collAbort_closed | apply ite_sat | apply foldl_sat | apply foldUp_sat | decide +kernel | split

theorem State.partIn_closed {P : State → Prop} {s : State} (hP : Closed 0xd000000003030000000000000000000000000005094200000000000000000000000000604000 P) (h : P s) (c : Nat) (chunk : Nat) (rank : Nat) (source : Nat) (f : Frame) :
 Sat2 P (State.partIn s c chunk rank source f) := by
  unfold State.partIn
  repeat' with_reducible first
    | assumption | exact hP.mono (by decide +kernel) | apply State.setAssembly_closed
    | apply State.dropAssembly_closed | apply State.ctxCount_closed | apply State.chunkFails_closed | apply Sat2.snd
    | decide +kernel | split | apply Sat2.pair

theorem State.setRpChunk_closed {P : State → Prop} {s : State} (hP : Closed 0x4000000000000000000000000000000000000000000000000000000000000000000000000000 P) (h : P s) (c : Nat) (r : RpChunk) :
 P (State.setRpChunk s c r) := by
  unfold State.setRpChunk
  repeat' with_reducible first
    | assumption | exact hP.mono (by decide +kernel) | apply State.setCtx_closed | decide +kernel | split

theorem State.toSus_closed {P : State → Prop} {s : State} (hP : Closed 0x1000000000000000000000000000000000000000004200000000000000000000000000000000 P) (h : P s) (c : Nat) (a : Assembly) :
 P (State.toSus s c a) := by
  unfold State.toSus
  repeat' with_reducible first
    | assumption | intro _ | exact hP.mono (by decide +kernel) | apply State.suTake_closed | apply ite_sat
    | apply foldl_sat | apply foldUp_sat | decide +kernel | split

theorem execContribFrame_closed {P : State → Prop} {s : State} (hP : Closed 0xd000000003030000000000000000000000000005094200000000000000000000000000604000 P) (h : P s) (f : Frame) (op : Nat) :
 SatR P (execContribFrame f op s) := by
  unfold execContribFrame
  repeat' with_reducible first
    | assumption | intro _ | exact hP.mono (by decide +kernel) | apply State.partIn_closed
    | apply State.toSus_closed | apply State.ctxNote_closed | apply State.ctxCount_closed
    | apply State.collAbort_closed | apply State.setRpChunk_closed | apply State.setCtx_closed | apply Sat2.snd
    | apply SatR.next | apply SatR.fault | apply SatR.refused | apply ite_sat | apply foldl_sat | apply foldUp_sat
    | decide +kernel | refine Sat2.of_eq ?_ (by assumption) | refine SatR.of_eq ?_ (by assumption) | split
    | apply Sat2.pair

theorem State.resultPart_closed {P : State → Prop} {s : State} (hP : Closed 0x4000000000000000000000000000000000000000000000000000000000000000000000000000 P) (h : P s) (c : Nat) (seq : Nat) (g : Nat) (part : Nat) (bs : List Byte) :
 P (State.resultPart s c seq g part bs) := by
  unfold State.resultPart
  repeat' with_reducible first
    | assumption | exact hP.mono (by decide +kernel) | apply State.setRpChunk_closed | decide +kernel | split

theorem State.reduceRun_closed {P : State → Prop} {s : State} (hP : Closed 0xd00000000303000000000000000000000000000509c200000000000000000000000000604000 P) (h : P s) (u : Nat) (r : SuRun) :
 P (State.reduceRun s u r) := by
  unfold State.reduceRun
  dsimp only
  split
  · exact State.endRun_closed (hP.mono (by decide +kernel)) h _ _ _
  · split
    · next e =>
      have ht := (State.rsum_closed (hP.mono (by decide +kernel)) h _ _ _ _).eq_go e
      refine State.endRun_closed (hP.mono (by decide +kernel)) (State.drawn_closed (hP.mono (by decide +kernel)) (ite_sat ?_ ht)) _ _ _
      exact State.resultPart_closed (hP.mono (by decide +kernel)) ht _ _ _ _ _
    · next e =>
      have ht := (State.rsum_closed (hP.mono (by decide +kernel)) h _ _ _ _).eq_fault e
      exact State.collAbort_closed (hP.mono (by decide +kernel)) (State.runFault_closed (hP.mono (by decide +kernel)) ht _ _ _) _ _ _
    · exact h

theorem execSuRunStart_closed {P : State → Prop} {s : State} (hP : Closed 0xd00000000303000000000000000000000000000509c200000000000000000000000000604000 P) (h : P s) (su : Nat) :
 SatR P (execSuRunStart su s) := by
  unfold execSuRunStart
  repeat' first
    | with_reducible assumption
    | intro _
    | exact hP.mono (by decide +kernel)
    | with_reducible apply State.setSu_closed
    | with_reducible apply State.reduceRun_closed
    | with_reducible apply State.drawn_closed
    | with_reducible apply SatR.next
    | with_reducible apply SatR.fault
    | with_reducible apply SatR.refused
    | with_reducible apply ite_sat
    | with_reducible apply foldl_sat
    | with_reducible apply foldUp_sat
    | decide +kernel
    | with_reducible refine SatR.of_eq ?_ (by with_reducible assumption)
    | split
    | dsimp only

theorem State.sendResult_closed {P : State → Prop} {s : State} (hP : Closed 0x4000000000000000000000000000000000000000000000000000000000000000000000000000 P) (h : P s) (c : Nat) (seq : Nat) (g : Nat) (t : Nat) (parts : List (List Byte)) (dest : Option Nat) :
 P (State.sendResult s c seq g t parts dest) := by
  unfold State.sendResult
  repeat' with_reducible first
    | assumption | exact hP.mono (by decide +kernel) | apply State.sendParts_closed | decide +kernel | split

theorem execResultAssemble_closed {P : State → Prop} {s : State} (hP : Closed 0x4000000000020000000000000000000000000005000000000000000000000000000000000000 P) (h : P s) (ctx : Nat) (target : Nat) :
 SatR P (execResultAssemble ctx target s) := by
  unfold execResultAssemble
  repeat' first
    | with_reducible assumption
    | intro _
    | exact hP.mono (by decide +kernel)
    | with_reducible apply State.sendControl_closed
    | with_reducible apply State.ctxNote_closed
    | with_reducible apply State.ctxCount_closed
    | with_reducible apply State.sendResult_closed
    | with_reducible apply State.setCtx_closed
    | with_reducible apply SatR.next
    | with_reducible apply SatR.fault
    | with_reducible apply SatR.refused
    | with_reducible apply ite_sat
    | with_reducible apply foldl_sat
    | with_reducible apply foldUp_sat
    | decide +kernel
    | with_reducible refine SatR.of_eq ?_ (by with_reducible assumption)
    | split
    | dsimp only

theorem State.resFlag_closed {P : State → Prop} {s : State} (hP : Closed 0x1000000000000000000000000000000000000000000000000000000000000604000 P) (h : P s) (c : Nat) (k : CollSt) :
 P (State.resFlag s c k) := by
  unfold State.resFlag
  repeat' with_reducible first
    | assumption | intro _ | exact hP.mono (by decide +kernel) | apply State.addFlag_closed | apply ite_sat
    | apply foldl_sat | apply foldUp_sat | decide +kernel | split

theorem State.resultIn_closed {P : State → Prop} {s : State} (hP : Closed 0xd000000003030000000000000000000000000005094200000000000000000000000000604000 P) (h : P s) (c : Nat) (k : CollSt) (f : Frame) :
 P (State.resultIn s c k f) := by
  unfold State.resultIn
  repeat' with_reducible first
    | assumption | intro _ | exact hP.mono (by decide +kernel) | apply State.collNote_closed
    | apply State.setColl_closed | apply State.partIn_closed | apply State.writeLocal_closed
    | apply State.ctxCount_closed | apply State.resFlag_closed | apply State.collAbort_closed | apply Sat2.snd
    | apply ite_sat | apply foldl_sat | apply foldUp_sat | decide +kernel | refine Sat2.of_eq ?_ (by assumption)
    | split | apply Sat2.pair

theorem State.doneIn_closed {P : State → Prop} {s : State} (hP : Closed 0xd000000003030000000000000000000000000005094200000000000000000000000000604000 P) (h : P s) (c : Nat) (k : CollSt) (f : Frame) :
 P (State.doneIn s c k f) := by
  unfold State.doneIn
  repeat' with_reducible first
    | assumption | intro _ | exact hP.mono (by decide +kernel) | apply State.collNote_closed
    | apply State.setColl_closed | apply State.collAbort_closed | apply ite_sat | apply foldl_sat | apply foldUp_sat
    | decide +kernel | split

theorem State.grantIn_closed {P : State → Prop} {s : State} (hP : Closed 0xc000000003030000000000000000000000000005000000000000000000000000000000604000 P) (h : P s) (c : Nat) (k : CollSt) (f : Frame) :
 P (State.grantIn s c k f) := by
  unfold State.grantIn
  repeat' first
    | with_reducible assumption
    | intro _
    | exact hP.mono (by decide +kernel)
    | with_reducible apply State.collNote_closed
    | with_reducible apply State.setColl_closed
    | with_reducible apply ite_sat
    | with_reducible apply foldl_sat
    | with_reducible apply foldUp_sat
    | decide +kernel
    | split
    | dsimp only

theorem State.directIn_closed {P : State → Prop} {s : State} (hP : Closed 0xd000000003030000000000000000000000000005094200000000000000000000000000604000 P) (h : P s) (c : Nat) (k : CollSt) (f : Frame) :
 P (State.directIn s c k f) := by
  unfold State.directIn
  repeat' with_reducible first
    | assumption | intro _ | exact hP.mono (by decide +kernel) | apply State.collNote_closed
    | apply State.sendControl_closed | apply State.partIn_closed | apply State.grantAll_closed
    | apply State.writeLocal_closed | apply State.grantNext_closed | apply State.ctxCount_closed
    | apply State.resFlag_closed | apply State.collAbort_closed | apply Sat2.snd | apply ite_sat | apply foldl_sat
    | apply foldUp_sat | decide +kernel | refine Sat2.of_eq ?_ (by assumption) | split | apply Sat2.pair

theorem State.memberFrame_closed {P : State → Prop} {s : State} (hP : Closed 0xd000000003030000000000000000000000000005094200000000000000000000000000604000 P) (h : P s) (c : Nat) (k : CollSt) (f : Frame) :
 P (State.memberFrame s c k f) := by
  unfold State.memberFrame
  repeat' with_reducible first
    | assumption | exact hP.mono (by decide +kernel) | apply State.grantIn_closed | apply State.doneIn_closed
    | apply State.resultIn_closed | apply State.directIn_closed | decide +kernel | split

theorem State.toMember_closed {P : State → Prop} {s : State} (hP : Closed 0xd000000003030000000000000000000000000005094200000000000000000000000000604000 P) (h : P s) (f : Frame) :
 P (State.toMember s f) := by
  unfold State.toMember
  repeat' with_reducible first
    | assumption | exact hP.mono (by decide +kernel) | apply State.memberFrame_closed | apply State.ctxNote_closed
    | apply State.ctxCount_closed | apply State.setCtx_closed | decide +kernel | split

theorem execResultFrame_closed {P : State → Prop} {s : State} (hP : Closed 0xd000000003030000000000000000000000000005094200000000000000000000000000604000 P) (h : P s) (f : Frame) :
 SatR P (execResultFrame f s) := by
  unfold execResultFrame
  repeat' with_reducible first
    | assumption | exact hP.mono (by decide +kernel) | apply State.toMember_closed | apply SatR.next
    | apply SatR.fault | apply SatR.refused | decide +kernel | split

theorem execDirectFrame_closed {P : State → Prop} {s : State} (hP : Closed 0xd000000003030000000000000000000000000005094200000000000000000000000000604000 P) (h : P s) (f : Frame) :
 SatR P (execDirectFrame f s) := by
  unfold execDirectFrame
  repeat' with_reducible first
    | assumption | exact hP.mono (by decide +kernel) | apply State.toMember_closed | apply SatR.next
    | apply SatR.fault | apply SatR.refused | decide +kernel | split

theorem execGrantFrame_closed {P : State → Prop} {s : State} (hP : Closed 0xd000000003030000000000000000000000000005094200000000000000000000000000604000 P) (h : P s) (f : Frame) :
 SatR P (execGrantFrame f s) := by
  unfold execGrantFrame
  repeat' with_reducible first
    | assumption | exact hP.mono (by decide +kernel) | apply State.toMember_closed | apply SatR.next
    | apply SatR.fault | apply SatR.refused | decide +kernel | split

theorem execDoneFrame_closed {P : State → Prop} {s : State} (hP : Closed 0xd000000003030000000000000000000000000005094200000000000000000000000000604000 P) (h : P s) (f : Frame) :
 SatR P (execDoneFrame f s) := by
  unfold execDoneFrame
  repeat' with_reducible first
    | assumption | exact hP.mono (by decide +kernel) | apply State.toMember_closed | apply SatR.next
    | apply SatR.fault | apply SatR.refused | decide +kernel | split

theorem State.answerRetry_closed {P : State → Prop} {s : State} (hP : Closed 0x1c00000001e5c19863868070000001000000800000104001004000000221c81800a900000040ec000001c00 P) (h : P s) (c : Nat) (k : CollSt) (arg : Nat) (src : Nat) (ecc : Ecc) :
 P (State.answerRetry s c k arg src ecc) := by
  unfold State.answerRetry
  repeat' first
    | with_reducible assumption
    | intro _
    | exact hP.mono (by decide +kernel)
    | with_reducible apply State.setColl_closed
    | with_reducible apply State.chunkRead_closed
    | with_reducible apply State.ctxCount_closed
    | with_reducible apply State.sendChunk_closed
    | with_reducible apply Sat2.snd
    | with_reducible apply ite_sat
    | with_reducible apply foldl_sat
    | with_reducible apply foldUp_sat
    | decide +kernel
    | with_reducible refine Sat2.of_eq ?_ (by with_reducible assumption)
    | split
    | with_reducible apply Sat2.pair
    | dsimp only

theorem execRetryFrame_closed {P : State → Prop} {s : State} (hP : Closed 0x1c00000001e5c19863868070000001000000800000104001004000000221c81800a900000040ec000001c00 P) (h : P s) (f : Frame) (ecc : Ecc) :
 SatR P (execRetryFrame f ecc s) := by
  unfold execRetryFrame
  repeat' first
    | with_reducible assumption
    | intro _
    | exact hP.mono (by decide +kernel)
    | with_reducible apply State.answerRetry_closed
    | with_reducible apply State.ctxCount_closed
    | with_reducible apply State.sendResult_closed
    | with_reducible apply SatR.next
    | with_reducible apply SatR.fault
    | with_reducible apply SatR.refused
    | with_reducible apply ite_sat
    | with_reducible apply foldl_sat
    | with_reducible apply foldUp_sat
    | decide +kernel
    | with_reducible refine SatR.of_eq ?_ (by with_reducible assumption)
    | split
    | dsimp only

theorem execAbortFrame_closed {P : State → Prop} {s : State} (hP : Closed 0xd000000003030000000000000000000000000005094200000000000000000000000000604000 P) (h : P s) (f : Frame) :
 SatR P (execAbortFrame f s) := by
  unfold execAbortFrame
  repeat' with_reducible first
    | assumption | intro _ | exact hP.mono (by decide +kernel) | apply State.abortHere_closed
    | apply State.abortSpread_closed | apply SatR.next | apply SatR.fault | apply SatR.refused | apply ite_sat
    | apply foldl_sat | apply foldUp_sat | decide +kernel | refine SatR.of_eq ?_ (by assumption) | split

theorem execChunkTimeout_closed {P : State → Prop} {s : State} (hP : Closed 0xd000000003030000000000000000000000000005094200000000000000000000000000604000 P) (h : P s) (ctx : Nat) :
 SatR P (execChunkTimeout ctx s) := by
  unfold execChunkTimeout
  repeat' first
    | with_reducible assumption
    | intro _
    | exact hP.mono (by decide +kernel)
    | with_reducible apply State.ctxNote_closed
    | with_reducible apply State.chunkFails_closed
    | with_reducible apply SatR.next
    | with_reducible apply SatR.fault
    | with_reducible apply SatR.refused
    | with_reducible apply ite_sat
    | with_reducible apply foldl_sat
    | with_reducible apply foldUp_sat
    | decide +kernel
    | with_reducible refine SatR.of_eq ?_ (by with_reducible assumption)
    | split
    | dsimp only

theorem execResultTimeout_closed {P : State → Prop} {s : State} (hP : Closed 0xd000000003030000000000000000000000000005094200000000000000000000000000604000 P) (h : P s) (ctx : Nat) :
 SatR P (execResultTimeout ctx s) := by
  unfold execResultTimeout
  repeat' first
    | with_reducible assumption
    | intro _
    | exact hP.mono (by decide +kernel)
    | with_reducible apply State.setColl_closed
    | with_reducible apply State.sendControl_closed
    | with_reducible apply State.ctxCount_closed
    | with_reducible apply State.sendChunk_closed
    | with_reducible apply State.collAbort_closed
    | with_reducible apply SatR.next
    | with_reducible apply SatR.fault
    | with_reducible apply SatR.refused
    | with_reducible apply ite_sat
    | with_reducible apply foldl_sat
    | with_reducible apply foldUp_sat
    | decide +kernel
    | with_reducible refine SatR.of_eq ?_ (by with_reducible assumption)
    | split
    | dsimp only

theorem State.collBegin_closed {P : State → Prop} {s : State} (hP : Closed 0xd000000003030000000000000000000000000005094200000000000000000000000000604000 P) (h : P s) (c : Nat) (k : CollSt) :
 P (State.collBegin s c k) := by
  unfold State.collBegin
  repeat' with_reducible first
    | assumption | intro _ | exact hP.mono (by decide +kernel) | apply State.collNote_closed
    | apply State.memberFrame_closed | apply State.grantNext_closed | apply State.wrFld_closed
    | apply State.setCtx_closed | apply ite_sat | apply foldl_sat | apply foldUp_sat | decide +kernel | split

theorem State.collAccept_closed {P : State → Prop} {s : State} (hP : Closed 0xd000000003030000000000000000000000000005094200000000000000000000000000604000 P) (h : P s) (core : Nat) (c : Nat) (addr : Nat) (first : Nat) (n : Nat) (all : Bool) (ring : Option Nat) :
 SatE P (State.collAccept s core c addr first n all ring) := by
  unfold State.collAccept
  repeat' with_reducible first
    | assumption | intro _ | exact hP.mono (by decide +kernel) | apply State.setColl_closed
    | apply State.collBegin_closed | apply SatE.ok | apply SatE.error | apply ite_sat | apply foldl_sat
    | apply foldUp_sat | decide +kernel | refine SatE.of_eq ?_ (by assumption) | split

theorem State.collError_closed {P : State → Prop} {s : State} (hP : Closed 0x20000000000000000000000000008000000000000000000000000000000000000 P) (h : P s) (core : Nat) (code : Nat) (c : Nat) (ord : Nat) :
 P (State.collError s core code c ord) := by
  unfold State.collError
  repeat' with_reducible first
    | assumption | exact hP.mono (by decide +kernel) | apply State.wr_closed | apply State.inc_closed
    | decide +kernel | split

theorem State.bindCle_closed {P : State → Prop} {s : State} (hP : Closed 0x1000000000020000000000000000000000000000008280000000000000000000000000000000 P) (h : P s) (x : CtxSt) (slot : Nat) :
 P (State.bindCle s x slot) := by
  unfold State.bindCle
  repeat' with_reducible first
    | assumption | exact hP.mono (by decide +kernel) | apply State.setSu_closed | apply State.wr_closed
    | apply State.drawn_closed | decide +kernel | split

theorem State.groupStatus_closed {P : State → Prop} {s : State} (hP : Closed 0x800000000000000000000000000000000000 P) (h : P s) (code : Nat) :
 P (State.groupStatus s code) := by
  unfold State.groupStatus
  repeat' with_reducible first
    | assumption | exact hP.mono (by decide +kernel) | apply State.wrFld_closed | decide +kernel | split

theorem execGroupSetup_closed {P : State → Prop} {s : State} (hP : Closed 0x1c00000001e5f198638680700000010000008000001040011a5808280221c81800a900000040ec000001c00 P) (h : P s) (ecc : Ecc) :
 SatR P (execGroupSetup ecc s) := by
  unfold execGroupSetup
  repeat' with_reducible first
    | assumption | intro _ | exact hP.mono (by decide +kernel) | apply State.wr_closed | apply State.bindCle_closed
    | apply State.poolReserve_closed | apply State.groupStatus_closed | apply State.setCtx_closed
    | apply SatPool.state | apply SatR.next | apply SatR.fault | apply SatR.refused | apply ite_sat
    | apply foldl_sat | apply foldUp_sat | decide +kernel | refine SatPool.of_eq ?_ (by assumption)
    | refine SatR.of_eq ?_ (by assumption) | split | apply SatPool.pair

theorem State.unbindCle_closed {P : State → Prop} {s : State} (hP : Closed 0x1000000000010000000000000000000000000000094280000000000000000000000000000000 P) (h : P s) (slot : Nat) :
 P (State.unbindCle s slot) := by
  unfold State.unbindCle
  repeat' with_reducible first
    | assumption | exact hP.mono (by decide +kernel) | apply State.discardSlot_closed | apply State.wr_closed
    | apply State.wrFld_closed | decide +kernel | split

theorem execGroupDestroy_closed {P : State → Prop} {s : State} (hP : Closed 0x53000000000700000000000000000000000003a1894280000000000000000000000000000000 P) (h : P s) (ctx : Nat) :
 SatR P (execGroupDestroy ctx s) := by
  unfold execGroupDestroy
  repeat' with_reducible first
    | assumption | intro _ | exact hP.mono (by decide +kernel) | apply State.poolRelease_closed
    | apply State.unbindCle_closed | apply State.wr_closed | apply State.groupStatus_closed
    | apply State.setCtx_closed | apply State.send_closed | apply SatR.next | apply SatR.fault | apply SatR.refused
    | apply ite_sat | apply foldl_sat | apply foldUp_sat | decide +kernel | refine SatR.of_eq ?_ (by assumption)
    | split

theorem execGroupResume_closed {P : State → Prop} {s : State} (hP : Closed 0x4000000000000000000000000000000000000001800000000000000000000000000000000000 P) (h : P s) (ctx : Nat) :
 SatR P (execGroupResume ctx s) := by
  unfold execGroupResume
  repeat' with_reducible first
    | assumption | exact hP.mono (by decide +kernel) | apply State.wr_closed | apply State.groupStatus_closed
    | apply State.setCtx_closed | apply SatR.next | apply SatR.fault | apply SatR.refused | decide +kernel | split

end Sys2Proof.Laws
end

