-- ==== Sys2Proof/Laws/ClosedPorts.lean ====
section
/-! SUPPORT. The operations of Ports.lean keep every property that the writes of their footprint keep. -/

namespace Sys2Proof.Laws

set_option Elab.async false
set_option linter.all false

open Sys2Proof.Machine

theorem State.cutVia_closed {P : State → Prop} {s : State} (hP : Closed 0x1c00400001e1c19863f6b070000001000000800000116001000000000221c81800a915200040ec000605c00 P) (h : P s) (p : Nat) :
 P (State.cutVia s p) := by
  unfold State.cutVia
  repeat' with_reducible first
    | assumption | intro _ | exact hP.mono (by decide +kernel) | apply State.pump_closed
    | apply State.cutStream_closed | apply ite_sat | apply foldl_sat | apply foldUp_sat | decide +kernel | split

theorem State.leaveUp_closed {P : State → Prop} {s : State} (hP : Closed 0x1c00400001e1c59863f6b070000001000000800000116001000000000221c81800a915200040ec000605c00 P) (h : P s) (p : Nat) (cause : Nat) (next : Nat) :
 P (State.leaveUp s p cause next) := by
  unfold State.leaveUp
  repeat' with_reducible first
    | assumption | exact hP.mono (by decide +kernel) | apply State.cutVia_closed | apply State.setPort_closed
    | apply State.setPortState_closed | apply State.report_closed | apply State.wrFld_closed
    | apply State.portEnds_closed | decide +kernel | split

theorem State.trainStart_closed {P : State → Prop} {s : State} (hP : Closed 0x8000000040000000000000000000000000000000000000000000090000000000000000000 P) (h : P s) (p : Nat) :
 P (State.trainStart s p) := by
  unfold State.trainStart
  repeat' with_reducible first
    | assumption | exact hP.mono (by decide +kernel) | apply State.setPort_closed | apply State.setPortState_closed
    | apply State.sendInfo_closed | decide +kernel | split

theorem State.trainFail_closed {P : State → Prop} {s : State} (hP : Closed 0x8000000000000000000000000000000000000000000000000000090000000000000000000 P) (h : P s) (p : Nat) (reason : Nat) :
 P (State.trainFail s p reason) := by
  unfold State.trainFail
  repeat' with_reducible first
    | assumption | exact hP.mono (by decide +kernel) | apply State.setPort_closed | apply State.setPortState_closed
    | apply State.wrFld_closed | decide +kernel | split

theorem State.trainStep_closed {P : State → Prop} {s : State} (hP : Closed 0x8000000000000000000000000000000000000000000000000000000000000000000000000 P) (h : P s) (p : Nat) (k : Nat) :
 P (State.trainStep s p k) := by
  unfold State.trainStep
  repeat' with_reducible first
    | assumption | exact hP.mono (by decide +kernel) | apply State.setPort_closed | decide +kernel | split

theorem State.sendProbe_closed {P : State → Prop} {s : State} (hP : Closed 0x8000000040000000000000000000000000000000000000000000000000000000000000000 P) (h : P s) (p : Nat) :
 P (State.sendProbe s p) := by
  unfold State.sendProbe
  repeat' with_reducible first
    | assumption | exact hP.mono (by decide +kernel) | apply State.sendBlock_closed | decide +kernel | split

theorem execTrainingStart_closed {P : State → Prop} {s : State} (hP : Closed 0x8000000040000000000000000000000000000000000000000000090000000000000000000 P) (h : P s) (port : Nat) :
 SatR P (execTrainingStart port s) := by
  unfold execTrainingStart
  repeat' with_reducible first
    | assumption | exact hP.mono (by decide +kernel) | apply State.trainStart_closed | apply SatR.next
    | apply SatR.fault | apply SatR.refused | decide +kernel | split

theorem execTrainingRetry_closed {P : State → Prop} {s : State} (hP : Closed 0x8000000040000000000000000000000000000000000000000000090000000000000000000 P) (h : P s) (port : Nat) :
 SatR P (execTrainingRetry port s) := by
  unfold execTrainingRetry
  repeat' with_reducible first
    | assumption | intro _ | exact hP.mono (by decide +kernel) | apply State.trainStart_closed | apply SatR.next
    | apply SatR.fault | apply SatR.refused | apply ite_sat | apply foldl_sat | apply foldUp_sat | decide +kernel
    | refine SatR.of_eq ?_ (by assumption) | split

theorem execTrainingCheckExpiry_closed {P : State → Prop} {s : State} (hP : Closed 0x8000000000000000000000000000000000000000000000000000090000000000000000000 P) (h : P s) (port : Nat) (light : Nat) (lock : Nat) (other : Bool) (errors : Nat) :
 SatR P (execTrainingCheckExpiry port light lock other errors s) := by
  unfold execTrainingCheckExpiry
  repeat' with_reducible first
    | assumption | intro _ | exact hP.mono (by decide +kernel) | apply State.trainStep_closed
    | apply State.trainFail_closed | apply SatR.next | apply SatR.fault | apply SatR.refused | apply ite_sat
    | apply foldl_sat | apply foldUp_sat | decide +kernel | refine SatR.of_eq ?_ (by assumption) | split

theorem State.trainLoops_closed {P : State → Prop} {s : State} (hP : Closed 0x8000000040000000000000000000000000000000000000000000000000000000000000000 P) (h : P s) (p : Nat) :
 P (State.trainLoops s p) := by
  unfold State.trainLoops
  repeat' with_reducible first
    | assumption | exact hP.mono (by decide +kernel) | apply State.trainStep_closed | apply State.sendProbe_closed
    | decide +kernel | split

theorem State.cipherFail_closed {P : State → Prop} {s : State} (hP : Closed 0x8000000000000001000000000000000000000000000000000000090000000000000000000 P) (h : P s) (p : Nat) (k : Nat) :
 P (State.cipherFail s p k) := by
  unfold State.cipherFail
  repeat' with_reducible first
    | assumption | exact hP.mono (by decide +kernel) | apply State.trainFail_closed | apply State.wrFld_closed
    | decide +kernel | split

theorem State.sendKeys_closed {P : State → Prop} {s : State} (hP : Closed 0x8000000060000000000000000000000000000000000000000000000000000000000000000 P) (h : P s) (p : Nat) :
 P (State.sendKeys s p) := by
  unfold State.sendKeys
  repeat' with_reducible first
    | assumption | exact hP.mono (by decide +kernel) | apply State.sendInfo_closed | apply State.drawn_closed
    | decide +kernel | split

theorem State.trainPeer_closed {P : State → Prop} {s : State} (hP : Closed 0x8000000060000001000000000000000000000000000000000000090000000000000000000 P) (h : P s) (p : Nat) (d : TrainData) :
 P (State.trainPeer s p d) := by
  unfold State.trainPeer
  repeat' with_reducible first
    | assumption | intro _ | exact hP.mono (by decide +kernel) | apply State.trainLoops_closed
    | apply State.trainStep_closed | apply State.trainFail_closed | apply State.wr_closed
    | apply State.sendKeys_closed | apply State.cipherFail_closed | apply ite_sat | apply foldl_sat
    | apply foldUp_sat | decide +kernel | split

theorem execCipherKeyAgreed_closed {P : State → Prop} {s : State} (hP : Closed 0x8000000040000001000000000000000000000000000000000000090000000000000000000 P) (h : P s) (port : Nat) (cert : Nat) (owner : Nat) (point : Nat) (confirm : Nat) :
 SatR P (execCipherKeyAgreed port cert owner point confirm s) := by
  unfold execCipherKeyAgreed
  repeat' with_reducible first
    | assumption | intro _ | exact hP.mono (by decide +kernel) | apply State.trainLoops_closed
    | apply State.setPort_closed | apply State.sendInfo_closed | apply State.cipherFail_closed | apply SatR.next
    | apply SatR.fault | apply SatR.refused | apply ite_sat | apply foldl_sat | apply foldUp_sat | decide +kernel
    | refine SatR.of_eq ?_ (by assumption) | split

theorem execPortUp_closed {P : State → Prop} {s : State} (hP : Closed 0x8000000040000001000000000000000000000000000000000000290000000000000000000 P) (h : P s) (port : Nat) :
 SatR P (execPortUp port s) := by
  unfold execPortUp
  repeat' with_reducible first
    | assumption | intro _ | exact hP.mono (by decide +kernel) | apply State.setPort_closed
    | apply State.trainFail_closed | apply State.wr_closed | apply State.setPortState_closed
    | apply State.wrFld_closed | apply State.idleBlock_closed | apply SatR.next | apply SatR.fault
    | apply SatR.refused | apply ite_sat | apply foldl_sat | apply foldUp_sat | decide +kernel
    | refine SatR.of_eq ?_ (by assumption) | split

theorem State.startReplay_closed {P : State → Prop} {s : State} (hP : Closed 0x1c00400001e1c59863f6b070000001000000800000116001000000000221c81800a915200040ec000605c00 P) (h : P s) (p : Nat) (first : Nat) :
 P (State.startReplay s p first) := by
  unfold State.startReplay
  repeat' first
    | with_reducible assumption
    | intro _
    | exact hP.mono (by decide +kernel)
    | with_reducible apply State.leaveUp_closed
    | with_reducible apply State.setPort_closed
    | with_reducible apply State.sendCell_closed
    | with_reducible apply State.portError_closed
    | with_reducible apply State.closeGroup_closed
    | with_reducible apply ite_sat
    | with_reducible apply foldl_sat
    | with_reducible apply foldUp_sat
    | decide +kernel
    | split
    | dsimp only

theorem State.acked_closed {P : State → Prop} {s : State} (hP : Closed 0x8000000000000000000000000000000000000000000000000000000000000000000000000 P) (h : P s) (p : Nat) (ack : Nat) :
 P (State.acked s p ack) := by
  unfold State.acked
  repeat' first
    | with_reducible assumption
    | intro _
    | exact hP.mono (by decide +kernel)
    | with_reducible apply State.setPort_closed
    | with_reducible apply ite_sat
    | with_reducible apply foldl_sat
    | with_reducible apply foldUp_sat
    | decide +kernel
    | split
    | dsimp only

theorem execLinkReplayTimeout_closed {P : State → Prop} {s : State} (hP : Closed 0x1c00400001e1c59863f6b070000001000000800000116001000000000221c81800a915200040ec000605c00 P) (h : P s) (port : Nat) :
 SatR P (execLinkReplayTimeout port s) := by
  unfold execLinkReplayTimeout
  repeat' with_reducible first
    | assumption | exact hP.mono (by decide +kernel) | apply State.startReplay_closed | apply SatR.next
    | apply SatR.fault | apply SatR.refused | decide +kernel | split

theorem State.badBlock_closed {P : State → Prop} {s : State} (hP : Closed 0x8000000020000000000000000000000000000000000000000000800000000000000000000 P) (h : P s) (p : Nat) :
 P (State.badBlock s p) := by
  unfold State.badBlock
  repeat' with_reducible first
    | assumption | exact hP.mono (by decide +kernel) | apply State.setPort_closed | apply State.portError_closed
    | decide +kernel | split

theorem State.cellAccepted_closed {P : State → Prop} {s : State} (hP : Closed 0x1c00400001e1c59867f6b070000001000000800000116001000000000225c81800a915200040ec000605c00 P) (h : P s) (p : Nat) (cls : Nat) (body : List Byte) :
 P (State.cellAccepted s p cls body) := by
  unfold State.cellAccepted
  repeat' first
    | with_reducible assumption
    | intro _
    | exact hP.mono (by decide +kernel)
    | with_reducible apply State.leaveUp_closed
    | with_reducible apply State.setPort_closed
    | with_reducible apply State.cellIn_closed
    | with_reducible apply State.portError_closed
    | with_reducible apply Sat1.fst
    | with_reducible apply ite_sat
    | with_reducible apply foldl_sat
    | with_reducible apply foldUp_sat
    | decide +kernel
    | with_reducible refine Sat1.of_eq ?_ (by with_reducible assumption)
    | split
    | with_reducible apply Sat1.pair
    | dsimp only

theorem State.cellBlock_closed {P : State → Prop} {s : State} (hP : Closed 0x1c00400001e1c59867f6b070000001000000800000116001000000000225c81800a915200040ec000605c00 P) (h : P s) (p : Nat) (seq : Nat) (cls : Nat) (body : List Byte) :
 P (State.cellBlock s p seq cls body) := by
  unfold State.cellBlock
  repeat' with_reducible first
    | assumption | intro _ | exact hP.mono (by decide +kernel) | apply State.setPort_closed
    | apply State.cellAccepted_closed | apply ite_sat | apply foldl_sat | apply foldUp_sat | decide +kernel | split

theorem State.tagBlock_closed {P : State → Prop} {s : State} (hP : Closed 0x1c00400001e1c59867f6b070000001000000800000116001000000000225c81800a915200040ec000605c00 P) (h : P s) (p : Nat) (info : Nat) (body : List Byte) :
 P (State.tagBlock s p info body) := by
  unfold State.tagBlock
  repeat' with_reducible first
    | assumption | intro _ | exact hP.mono (by decide +kernel) | apply State.setPort_closed
    | apply State.cellAccepted_closed | apply State.portError_closed | apply State.badBlock_closed
    | apply State.inc_closed | apply ite_sat | apply foldl_sat | apply foldUp_sat | decide +kernel | split

theorem State.trailerIn_closed {P : State → Prop} {s : State} (hP : Closed 0x1c00400001e1c59863f6b070000001000000800000116001000000000221c81800a915200040ec000605c00 P) (h : P s) (p : Nat) (t : Nat) :
 P (State.trailerIn s p t) := by
  unfold State.trailerIn
  repeat' with_reducible first
    | assumption | intro _ | exact hP.mono (by decide +kernel) | apply State.setPort_closed
    | apply State.acked_closed | apply State.startReplay_closed | apply ite_sat | apply foldl_sat | apply foldUp_sat
    | decide +kernel | split

theorem State.loopBlock_closed {P : State → Prop} {s : State} (hP : Closed 0x1c00400001e1c59863f6b070000001000000800000116001000000000221c81800a915200040ec000605c00 P) (h : P s) (p : Nat) (t : Nat) :
 P (State.loopBlock s p t) := by
  unfold State.loopBlock
  repeat' with_reducible first
    | assumption | intro _ | exact hP.mono (by decide +kernel) | apply State.leaveUp_closed
    | apply State.sendBlock_closed | apply State.setPort_closed | apply State.trainStep_closed
    | apply State.trainFail_closed | apply State.portError_closed | apply State.sendProbe_closed | apply ite_sat
    | apply foldl_sat | apply foldUp_sat | decide +kernel | split

theorem State.sawScratched_closed {P : State → Prop} {s : State} (hP : Closed 0x100000000000000000000000000000000000000000000000000000000000000000000000000000000000 P) (h : P s) (dev : Nat) :
 P (State.sawScratched s dev) := by
  unfold State.sawScratched
  repeat' with_reducible first
    | assumption | exact hP.mono (by decide +kernel) | decide +kernel | split | apply hP.scratchSeen

theorem State.scratchBlock_closed {P : State → Prop} {s : State} (hP : Closed 0x1c01400001e1c59863f6b070000001000000800000116001000000000221c81800a915200040ec000605c00 P) (h : P s) (p : Nat) (dev : Nat) :
 P (State.scratchBlock s p dev) := by
  unfold State.scratchBlock
  repeat' with_reducible first
    | assumption | intro _ | exact hP.mono (by decide +kernel) | apply State.leaveUp_closed
    | apply State.setPort_closed | apply State.setPortState_closed | apply State.wrFld_closed
    | apply State.sawScratched_closed | apply ite_sat | apply foldl_sat | apply foldUp_sat | decide +kernel | split

theorem State.scratchOver_closed {P : State → Prop} {s : State} (hP : Closed 0x8000000000000000000000000000000000000000000000000000090000000000000000000 P) (h : P s) (p : Nat) (type : Nat) :
 P (State.scratchOver s p type) := by
  unfold State.scratchOver
  repeat' with_reducible first
    | assumption | exact hP.mono (by decide +kernel) | apply State.setPort_closed | apply State.setPortState_closed
    | decide +kernel | split

theorem State.blockByType_closed {P : State → Prop} {s : State} (hP : Closed 0x1c01400001e1c59867f6b070000001000000800000116001000000000225c81800a915200040ec000605c00 P) (h : P s) (p : Nat) (type : Nat) (t : Nat) (body : List Byte) (train : Option TrainData) :
 P (State.blockByType s p type t body train) := by
  unfold State.blockByType
  repeat' with_reducible first
    | assumption | intro _ | exact hP.mono (by decide +kernel) | apply State.leaveUp_closed
    | apply State.setPort_closed | apply State.loopBlock_closed | apply State.scratchBlock_closed
    | apply State.scratchOver_closed | apply State.setPortState_closed | apply State.wrFld_closed
    | apply State.cellBlock_closed | apply State.trainPeer_closed | apply State.tagBlock_closed | apply ite_sat
    | apply foldl_sat | apply foldUp_sat | decide +kernel | split

theorem execLinkBlockReceive_closed {P : State → Prop} {s : State} (hP : Closed 0x1c01400001e1c59867f6b070000001000000800000116001000000000225c81800a915200040ec000605c00 P) (h : P s) (port : Nat) (block : List Byte) (errors : List Nat) (train : Option TrainData) :
 SatR P (execLinkBlockReceive port block errors train s) := by
  unfold execLinkBlockReceive
  repeat' with_reducible first
    | assumption | intro _ | exact hP.mono (by decide +kernel) | apply State.trackNote_closed
    | apply State.blockByType_closed | apply State.portError_closed | apply State.trailerIn_closed
    | apply State.badBlock_closed | apply State.egressPump_closed | apply State.send_closed | apply SatR.next
    | apply SatR.fault | apply SatR.refused | apply ite_sat | apply foldl_sat | apply foldUp_sat | decide +kernel
    | refine SatR.of_eq ?_ (by assumption) | split

theorem execPortLos_closed {P : State → Prop} {s : State} (hP : Closed 0x1c00400001e1c59863f6b070000001000000800000116001000000000221c81800a915200040ec000605c00 P) (h : P s) (port : Nat) (light : Bool) :
 SatR P (execPortLos port light s) := by
  unfold execPortLos
  repeat' with_reducible first
    | assumption | exact hP.mono (by decide +kernel) | apply State.leaveUp_closed | apply State.scratchOver_closed
    | apply State.trainFail_closed | apply SatR.next | apply SatR.fault | apply SatR.refused | decide +kernel
    | split

theorem execFecRate_closed {P : State → Prop} {s : State} (hP : Closed 0x1c00400001e1c59863f6b070000001000000800000116001000000000221c81801a915200040ec000605c00 P) (h : P s) (port : Nat) (lanes : List (Nat × Nat)) (errors : Nat) :
 SatR P (execFecRate port lanes errors s) := by
  unfold execFecRate
  repeat' with_reducible first
    | assumption | intro _ | exact hP.mono (by decide +kernel) | apply State.leaveUp_closed
    | apply State.setPort_closed | apply State.wr_closed | apply SatR.next | apply SatR.fault | apply SatR.refused
    | apply ite_sat | apply foldl_sat | apply foldUp_sat | decide +kernel | refine SatR.of_eq ?_ (by assumption)
    | split

theorem execLoopMeasure_closed {P : State → Prop} {s : State} (hP : Closed 0x8000000040000000000000000000000000000000000000000000000000000000000000000 P) (h : P s) (port : Nat) :
 SatR P (execLoopMeasure port s) := by
  unfold execLoopMeasure
  repeat' with_reducible first
    | assumption | exact hP.mono (by decide +kernel) | apply State.setPort_closed | apply State.sendProbe_closed
    | apply SatR.next | apply SatR.fault | apply SatR.refused | decide +kernel | split

theorem execLightReturns_closed {P : State → Prop} {s : State} (hP : Closed 0x8000000040000000000000000000000000000000000000000000090000000000000000000 P) (h : P s) (port : Nat) :
 SatR P (execLightReturns port s) := by
  unfold execLightReturns
  repeat' with_reducible first
    | assumption | exact hP.mono (by decide +kernel) | apply State.trainStart_closed | apply SatR.next
    | apply SatR.fault | apply SatR.refused | decide +kernel | split

theorem State.portCmd_closed {P : State → Prop} {s : State} (hP : Closed 0x40000000000000000000 P) (h : P s) (code : Nat) :
 P (State.portCmd s code) := by
  unfold State.portCmd
  repeat' with_reducible first
    | assumption | exact hP.mono (by decide +kernel) | apply State.wr_closed | decide +kernel | split

theorem State.portRelease_closed {P : State → Prop} {s : State} (hP : Closed 0x8000000000000000000000000000000000000000000000000000090000000000000000000 P) (h : P s) (p : Nat) :
 P (State.portRelease s p) := by
  unfold State.portRelease
  repeat' with_reducible first
    | assumption | exact hP.mono (by decide +kernel) | apply State.setPort_closed | apply State.setPortState_closed
    | decide +kernel | split

theorem execPortEnable_closed {P : State → Prop} {s : State} (hP : Closed 0x80000000000000000000000000000000000000000000000000000d0000000000000000000 P) (h : P s) (port : Nat) :
 SatR P (execPortEnable port s) := by
  unfold execPortEnable
  repeat' with_reducible first
    | assumption | exact hP.mono (by decide +kernel) | apply State.portCmd_closed | apply State.portRelease_closed
    | apply SatR.next | apply SatR.fault | apply SatR.refused | decide +kernel | split

theorem execPortDisable_closed {P : State → Prop} {s : State} (hP : Closed 0x1c00400001e1c59863f6b070000001000000800000116001000000000221c81800ad15200040ec000605c00 P) (h : P s) (port : Nat) :
 SatR P (execPortDisable port s) := by
  unfold execPortDisable
  repeat' with_reducible first
    | assumption | exact hP.mono (by decide +kernel) | apply State.leaveUp_closed | apply State.setPort_closed
    | apply State.portCmd_closed | apply State.setPortState_closed | apply SatR.next | apply SatR.fault
    | apply SatR.refused | decide +kernel | split

theorem execRetrain_closed {P : State → Prop} {s : State} (hP : Closed 0x1c00400001e1c59863f6b070000001000000800000116001000000000221c81800ad15200040ec000605c00 P) (h : P s) (port : Nat) :
 SatR P (execRetrain port s) := by
  unfold execRetrain
  repeat' with_reducible first
    | assumption | exact hP.mono (by decide +kernel) | apply State.leaveUp_closed | apply State.setPort_closed
    | apply State.portCmd_closed | apply State.setPortState_closed | apply SatR.next | apply SatR.fault
    | apply SatR.refused | decide +kernel | split

theorem execPortSelftest_closed {P : State → Prop} {s : State} (hP : Closed 0x8000000000000000000000000000000000000000000000000000040000000000000000000 P) (h : P s) (port : Nat) :
 SatR P (execPortSelftest port s) := by
  unfold execPortSelftest
  repeat' with_reducible first
    | assumption | exact hP.mono (by decide +kernel) | apply State.setPort_closed | apply State.portCmd_closed
    | apply SatR.next | apply SatR.fault | apply SatR.refused | decide +kernel | split

theorem State.oeFails_closed {P : State → Prop} {s : State} (hP : Closed 0x1c00000001e1c19863868060000001000000800000104000000000000221c81810a90000000000000001c00 P) (h : P s) (oe : Nat) (check : Nat) (port : Nat) :
 P (State.oeFails s oe check port) := by
  unfold State.oeFails
  repeat' with_reducible first
    | assumption | exact hP.mono (by decide +kernel) | apply State.wr_closed | apply State.scratch_closed
    | decide +kernel | split

theorem execSelftestLoopbackDone_closed {P : State → Prop} {s : State} (hP : Closed 0x1c00000001e1c59863868060000001000000800000104000000000000221c81810a90000000000000001c00 P) (h : P s) (port : Nat) (passed : Bool) :
 SatR P (execSelftestLoopbackDone port passed s) := by
  unfold execSelftestLoopbackDone
  repeat' with_reducible first
    | assumption | intro _ | exact hP.mono (by decide +kernel) | apply State.setPort_closed
    | apply State.report_closed | apply State.oeFails_closed | apply SatR.next | apply SatR.fault
    | apply SatR.refused | apply ite_sat | apply foldl_sat | apply foldUp_sat | decide +kernel
    | refine SatR.of_eq ?_ (by assumption) | split

theorem State.oeChecked_closed {P : State → Prop} {s : State} (hP : Closed 0x1c00400001e1c59863f6b070000001000000800000116001000000000221c81810a915200040ec000605c00 P) (h : P s) (oe : Nat) (check : Nat) :
 P (State.oeChecked s oe check) := by
  unfold State.oeChecked
  repeat' with_reducible first
    | assumption | intro _ | exact hP.mono (by decide +kernel) | apply State.leaveUp_closed
    | apply State.oeFails_closed | apply ite_sat | apply foldl_sat | apply foldUp_sat | decide +kernel | split

theorem execOeSelftest_closed {P : State → Prop} {s : State} (hP : Closed 0x1c00400001e1c59863f6b070000001000000800000116001000000000221c81810a915200040ec000605c00 P) (h : P s) (oe : Nat) (check : Nat) :
 SatR P (execOeSelftest oe check s) := by
  unfold execOeSelftest
  repeat' with_reducible first
    | assumption | exact hP.mono (by decide +kernel) | apply State.oeChecked_closed | apply SatR.next
    | apply SatR.fault | apply SatR.refused | decide +kernel | split

theorem State.elsPower_closed {P : State → Prop} {s : State} (hP : Closed 0x200000000000000000000000000000000000000000000000000000000000000004000000000000000000000 P) (h : P s) (e : Nat) (on : Bool) :
 P (State.elsPower s e on) := by
  unfold State.elsPower
  repeat' with_reducible first
    | assumption | exact hP.mono (by decide +kernel) | apply State.wrFld_closed | decide +kernel | split
    | apply hP.elsOn

theorem State.setEls_closed {P : State → Prop} {s : State} (hP : Closed 0x200000000000020000000000000000000000000000000000000000000000000006000000000000000000000 P) (h : P s) (e : Nat) (v : Nat) :
 P (State.setEls s e v) := by
  unfold State.setEls
  repeat' with_reducible first
    | assumption | exact hP.mono (by decide +kernel) | apply State.wr_closed | apply State.elsPower_closed
    | decide +kernel | split | apply hP.elsSince

theorem State.elsLoses_closed {P : State → Prop} {s : State} (hP : Closed 0x3e00400001e1c79863f6b070000001000000800000116001000000000221c81816a915200040ec000605c00 P) (h : P s) (e : Nat) :
 P (State.elsLoses s e) := by
  unfold State.elsLoses
  repeat' with_reducible first
    | assumption | exact hP.mono (by decide +kernel) | apply State.setEls_closed | apply State.oeChecked_closed
    | apply State.rampEnds_closed | decide +kernel | split | apply hP.elsLost

theorem execElsOutputLoss_closed {P : State → Prop} {s : State} (hP : Closed 0x3e00400001e1c79863f6b070000001000000800000116001000000000221c81816a915200040ec000605c00 P) (h : P s) (els : Nat) :
 SatR P (execElsOutputLoss els s) := by
  unfold execElsOutputLoss
  repeat' with_reducible first
    | assumption | exact hP.mono (by decide +kernel) | apply State.elsLoses_closed | apply SatR.next
    | apply SatR.fault | apply SatR.refused | decide +kernel | split

theorem execElsPartnerFull_closed {P : State → Prop} {s : State} (hP : Closed 0x200000000000030000000000000000000000000000000000000000000000000006000000000000000000000 P) (h : P s) (els : Nat) :
 SatR P (execElsPartnerFull els s) := by
  unfold execElsPartnerFull
  repeat' with_reducible first
    | assumption | exact hP.mono (by decide +kernel) | apply State.setEls_closed | apply SatR.next
    | apply SatR.fault | apply SatR.refused | decide +kernel | split | apply hP.elsLost

theorem execElsRemove_closed {P : State → Prop} {s : State} (hP : Closed 0x20000000000002000000000000000000000000000000000000000000000000000e000000000000000000000 P) (h : P s) (els : Nat) :
 SatR P (execElsRemove els s) := by
  unfold execElsRemove
  repeat' with_reducible first
    | assumption | exact hP.mono (by decide +kernel) | apply State.setEls_closed | apply State.wr_closed
    | apply SatR.next | apply SatR.fault | apply SatR.refused | decide +kernel | split

theorem execElsCancel_closed {P : State → Prop} {s : State} (hP : Closed 0x20000000000002000000000000000000000000000000000000000000000000000e000000000000000000000 P) (h : P s) (els : Nat) :
 SatR P (execElsCancel els s) := by
  unfold execElsCancel
  repeat' with_reducible first
    | assumption | exact hP.mono (by decide +kernel) | apply State.setEls_closed | apply State.wr_closed
    | apply SatR.next | apply SatR.fault | apply SatR.refused | decide +kernel | split

theorem execElsRampDone_closed {P : State → Prop} {s : State} (hP : Closed 0x200000000000020000000000000000000000000000000000000000000000000006000000000000000000000 P) (h : P s) (els : Nat) :
 SatR P (execElsRampDone els s) := by
  unfold execElsRampDone
  repeat' with_reducible first
    | assumption | exact hP.mono (by decide +kernel) | apply State.setEls_closed | apply SatR.next
    | apply SatR.fault | apply SatR.refused | decide +kernel | split

theorem execElsInsert_closed {P : State → Prop} {s : State} (hP : Closed 0x220000000000020000000020000000000000200000000000000000000000000006000000000000000000000 P) (h : P s) (els : Nat) (info : Nat) (qualified : Bool) :
 SatR P (execElsInsert els info qualified s) := by
  unfold execElsInsert
  repeat' with_reducible first
    | assumption | intro _ | exact hP.mono (by decide +kernel) | apply State.setEls_closed | apply State.wr_closed
    | apply State.rampBay_closed | apply SatR.next | apply SatR.fault | apply SatR.refused | apply ite_sat
    | apply foldl_sat | apply foldUp_sat | decide +kernel | refine SatR.of_eq ?_ (by assumption) | split

theorem execElsStartDone_closed {P : State → Prop} {s : State} (hP : Closed 0x220000000000020000000000000000000000000000000000000000000000000006000000000000000000000 P) (h : P s) (els : Nat) :
 SatR P (execElsStartDone els s) := by
  unfold execElsStartDone
  repeat' with_reducible first
    | assumption | intro _ | exact hP.mono (by decide +kernel) | apply State.setEls_closed
    | apply State.rampEnds_closed | apply SatR.next | apply SatR.fault | apply SatR.refused | apply ite_sat
    | apply foldl_sat | apply foldUp_sat | decide +kernel | refine SatR.of_eq ?_ (by assumption) | split

theorem execElsLatchOpen_closed {P : State → Prop} {s : State} (hP : Closed 0x3e00400001e1c79863f6b070000001000000800000116001000000000221c81816a915200040ec000605c00 P) (h : P s) (els : Nat) :
 SatR P (execElsLatchOpen els s) := by
  unfold execElsLatchOpen
  repeat' with_reducible first
    | assumption | intro _ | exact hP.mono (by decide +kernel) | apply State.setEls_closed | apply State.wr_closed
    | apply State.elsLoses_closed | apply SatR.next | apply SatR.fault | apply SatR.refused | apply ite_sat
    | apply foldl_sat | apply foldUp_sat | decide +kernel | refine SatR.of_eq ?_ (by assumption) | split

end Sys2Proof.Laws
end

