-- ==== Sys2Proof/Laws/ClosedMarshal.lean ====
section
/-! SUPPORT. The operations of Marshal.lean keep every property that the writes of their footprint keep. -/

namespace Sys2Proof.Laws

set_option Elab.async false
set_option linter.all false

open Sys2Proof.Machine

theorem State.passMessage_closed {P : State → Prop} {s : State} (hP : Closed 0x40000000000000000000000000000000000000000000000000000000000000000000000000000000000 P) (h : P s) (f : Frame) :
 P (State.passMessage s f) := by
  unfold State.passMessage
  repeat' with_reducible first
    | assumption | exact hP.mono (by decide +kernel) | apply State.setMarshal_closed | decide +kernel | split

theorem State.setMem_closed {P : State → Prop} {s : State} (hP : Closed 0x20000000000000000000000000000000000000000000000 P) (h : P s) (d : Nat) (st : Nat) :
 P (State.setMem s d st) := by
  unfold State.setMem
  repeat' with_reducible first
    | assumption | exact hP.mono (by decide +kernel) | apply State.wrFld_closed | decide +kernel | split

theorem State.setWatch_closed {P : State → Prop} {s : State} (hP : Closed 0x20000000000000000000000000000000000000000000000000000000000000000000000000000000000 P) (h : P s) (d : Nat) (w : Watch) :
 P (State.setWatch s d w) := by
  unfold State.setWatch
  repeat' with_reducible first
    | assumption | exact hP.mono (by decide +kernel) | decide +kernel | split | apply hP.watches

theorem State.spareNote_closed {P : State → Prop} {s : State} (hP : Closed 0x400000000000000000000000000000000000000000000000 P) (h : P s) :
 P (State.spareNote s) := by
  unfold State.spareNote
  repeat' with_reducible first
    | assumption | exact hP.mono (by decide +kernel) | apply State.wrFld_closed | decide +kernel | split

theorem State.marshalLog_closed {P : State → Prop} {s : State} (hP : Closed 0x1800000000000000000000000000000000000000000000000 P) (h : P s) (event : Nat) (subject : Nat) (reason : Nat) :
 P (State.marshalLog s event subject reason) := by
  unfold State.marshalLog
  repeat' with_reducible first
    | assumption | exact hP.mono (by decide +kernel) | apply State.incSat_closed | apply State.wr_closed
    | decide +kernel | split

theorem State.holdDev_closed {P : State → Prop} {s : State} (hP : Closed 0x40000000000000000000000000000000000000000000000000000000000000000100000000000000000 P) (h : P s) (d : Nat) :
 P (State.holdDev s d) := by
  unfold State.holdDev
  repeat' with_reducible first
    | assumption | intro _ | exact hP.mono (by decide +kernel) | apply State.wrFld_closed
    | apply State.setMarshal_closed | apply ite_sat | apply foldl_sat | apply foldUp_sat | decide +kernel | split

theorem State.freeDev_closed {P : State → Prop} {s : State} (hP : Closed 0x1c00400001e1c19863f6b070000001000000800000116001000000000221c81800a915200040ec000605c00 P) (h : P s) (d : Nat) :
 P (State.freeDev s d) := by
  unfold State.freeDev
  repeat' with_reducible first
    | assumption | intro _ | exact hP.mono (by decide +kernel) | apply State.pump_closed
    | apply State.cutStream_closed | apply State.wrFld_closed | apply State.setMarshal_closed | apply ite_sat
    | apply foldl_sat | apply foldUp_sat | decide +kernel | split

theorem State.fencePort_closed {P : State → Prop} {s : State} (hP : Closed 0x1c00400001e1c59863f6b070000001000000800000116001000000000221c81800a915200040ec000605c00 P) (h : P s) (d : Nat) (p : Nat) :
 P (State.fencePort s d p) := by
  unfold State.fencePort
  repeat' with_reducible first
    | assumption | intro _ | exact hP.mono (by decide +kernel) | apply State.leaveUp_closed
    | apply State.setPort_closed | apply State.setPortState_closed | apply ite_sat | apply foldl_sat
    | apply foldUp_sat | decide +kernel | split

theorem State.fenceDev_closed {P : State → Prop} {s : State} (hP : Closed 0x1c00400001e1c59863f6b070000001000000800000116001000000000221c81800a915200040ec000605c00 P) (h : P s) (d : Nat) :
 P (State.fenceDev s d) := by
  unfold State.fenceDev
  repeat' with_reducible first
    | assumption | intro _ | exact hP.mono (by decide +kernel) | apply State.fencePort_closed | apply ite_sat
    | apply foldl_sat | apply foldUp_sat | decide +kernel | split

theorem State.groupLoses_closed {P : State → Prop} {s : State} (hP : Closed 0x1c00c00001e1c1de63f6f07ffffffffffffffffffffffffffffffffffffffffffffffffffffffffffffffff P) (h : P s) (ids : List Nat) (ended : Bool) (i : Nat) :
 P (State.groupLoses s ids ended i) := by
  unfold State.groupLoses
  repeat' with_reducible first
    | assumption | intro _ | exact hP.mono (by decide +kernel) | apply State.guardLose_closed
    | apply State.wr_closed | apply State.setGuard_closed | exact Foot.obj_of_all (by decide +kernel) _
    | apply ite_sat | apply foldl_sat | apply foldUp_sat | decide +kernel | split

theorem State.doLost_closed {P : State → Prop} {s : State} (hP : Closed 0x1c00c00001edc1de63f6f07ffffffffffffffffffffffffffffffffffffffffffffffffffffffffffffffff P) (h : P s) (ids : List Nat) :
 P (State.doLost s ids) := by
  unfold State.doLost
  repeat' with_reducible first
    | assumption | intro _ | exact hP.mono (by decide +kernel) | apply State.scratch_closed
    | apply State.setMem_closed | apply State.groupLoses_closed | apply State.setMarshal_closed
    | apply State.holdDev_closed | apply State.collLost_closed | exact Foot.obj_of_all (by decide +kernel) _
    | apply ite_sat | apply foldl_sat | apply foldUp_sat | decide +kernel | split

theorem State.reroutePair_closed {P : State → Prop} {s : State} (hP : Closed 0x6000000000000000000000000 P) (h : P s) (spare : Nat) (rank : Nat) :
 P (State.reroutePair s spare rank) := by
  refine foldl_sat h fun b c hb => ?_
  have hw (o : ObjCode) (t : State) (ho : Foot.obj 0x6000000000000000000000000 o = true) (ht : P t) (v w i j : Nat) :
      P ((t.wr o i v).wr o j w) := State.wr_closed hP ho (State.wr_closed hP ho ht _ _) _ _
  exact hw _ _ (by decide +kernel) (hw _ _ (by decide +kernel) hb _ _ _ _) _ _ _ _

theorem State.relayEntry_closed {P : State → Prop} {s : State} (hP : Closed 0x20000000000000000000000000000000000020000000000000000000000000000000000000000000000 P) (h : P s) (spare : Nat) (rank : Nat) :
 P (State.relayEntry s spare rank) := by
  unfold State.relayEntry
  repeat' with_reducible first
    | assumption | exact hP.mono (by decide +kernel) | apply State.setWatch_closed | apply State.wr_closed
    | apply State.setMem_closed | decide +kernel | split

theorem State.doReroute_closed {P : State → Prop} {s : State} (hP : Closed 0x20000000000000000000000000000000000020000000000000000000006000000000000000000000000 P) (h : P s) (pairs : List (Nat × Nat)) :
 P (State.doReroute s pairs) := by
  unfold State.doReroute
  repeat' with_reducible first
    | assumption | intro _ | exact hP.mono (by decide +kernel) | apply State.relayEntry_closed
    | apply State.reroutePair_closed | apply ite_sat | apply foldl_sat | apply foldUp_sat | decide +kernel | split

theorem State.doRelayed_closed {P : State → Prop} {s : State} (hP : Closed 0x1c00c00001e1c1de63f6b07ffffffffffffffffffffffffffffffffffffffffffffffffffffffffffffffff P) (h : P s) (ids : List Nat) :
 P (State.doRelayed s ids) := by
  unfold State.doRelayed
  repeat' with_reducible first
    | assumption | intro _ | exact hP.mono (by decide +kernel) | apply State.freeDev_closed | apply State.wr_closed
    | apply State.wrFld_closed | apply State.rollForward_closed | apply State.setGuard_closed
    | apply State.releaseWaiting_closed | apply State.setMarshal_closed
    | exact Foot.obj_of_all (by decide +kernel) _ | apply ite_sat | apply foldl_sat | apply foldUp_sat
    | decide +kernel | split

theorem State.selectRank_closed {P : State → Prop} {s : State} (hP : Closed 0x40000000000000000000000000000000001820000000000000000000000000000000000000000000000 P) (h : P s) (rank : Nat) :
 P (State.selectRank s rank) := by
  unfold State.selectRank
  repeat' first
    | with_reducible assumption
    | intro _
    | exact hP.mono (by decide +kernel)
    | with_reducible apply State.setMem_closed
    | with_reducible apply State.setMarshal_closed
    | with_reducible apply State.marshalLog_closed
    | with_reducible apply ite_sat
    | with_reducible apply foldl_sat
    | with_reducible apply foldUp_sat
    | decide +kernel
    | split
    | dsimp only

theorem State.sendRelay_closed {P : State → Prop} {s : State} (hP : Closed 0x40000000000000000040000000000000000000000000000000000000000000000000000000000000000 P) (h : P s) (spare : Nat) (rank : Nat) :
 P (State.sendRelay s spare rank) := by
  unfold State.sendRelay
  repeat' with_reducible first
    | assumption | exact hP.mono (by decide +kernel) | apply State.tell_closed | decide +kernel | split

theorem State.stepBegin_closed {P : State → Prop} {s : State} (hP : Closed 0x1c00e00001edc5de63f6f07ffffffffffffffffffffffffffffffffffffffffffffffffffffffffffffffff P) (h : P s) (k : Nat) :
 P (State.stepBegin s k) := by
  unfold State.stepBegin
  repeat' with_reducible first
    | assumption | intro _ | exact hP.mono (by decide +kernel) | apply State.relayEntry_closed
    | apply State.spareNote_closed | apply State.doRelayed_closed | apply State.tellAll_closed
    | apply State.sendRelay_closed | apply State.fenceDev_closed | apply State.wrFld_closed
    | apply State.tell_closed | apply State.selectRank_closed | apply State.doReroute_closed
    | apply State.setMarshal_closed | apply State.marshalLog_closed | apply State.doLost_closed
    | exact Foot.obj_of_all (by decide +kernel) _ | apply ite_sat | apply foldl_sat | apply foldUp_sat
    | decide +kernel | split

theorem advanceGo_closed {P : State → Prop} {x1 : State} (hP : Closed 0x1c00e00001edc5de63f6f07ffffffffffffffffffffffffffffffffffffffffffffffffffffffffffffffff P) (h : P x1) (x0 : Nat) :
 P (advanceGo x0 x1) := by
  induction x0 generalizing x1 with
  | zero => exact h
  | succ n ih =>
    rw [advanceGo]
    dsimp only
    split
    · exact h
    · split
      · exact ih (State.stepBegin_closed (hP.mono (by decide +kernel)) h _)
      · split
        · exact State.setMarshal_closed (hP.mono (by decide +kernel)) (State.wrFld_closed hP (by decide +kernel) h _ _ _ _) _
        · exact h

theorem State.advanceEpoch_closed {P : State → Prop} {s : State} (hP : Closed 0x1c00e00001edc5de63f6f07ffffffffffffffffffffffffffffffffffffffffffffffffffffffffffffffff P) (h : P s) :
 P (State.advanceEpoch s) := by
  unfold State.advanceEpoch
  repeat' with_reducible first
    | assumption | exact hP.mono (by decide +kernel) | apply State.spareNote_closed | apply advanceGo_closed
    | exact Foot.obj_of_all (by decide +kernel) _ | decide +kernel | split

theorem State.tellChange_closed {P : State → Prop} {s : State} (hP : Closed 0x40000000000000000040000000000000001800000000000000000000000000000000000000000000000 P) (h : P s) :
 P (State.tellChange s) := by
  unfold State.tellChange
  repeat' with_reducible first
    | assumption | exact hP.mono (by decide +kernel) | apply State.tellAll_closed | apply State.marshalLog_closed
    | decide +kernel | split

theorem State.startEpoch_closed {P : State → Prop} {s : State} (hP : Closed 0x1c00e00001edc5de63f6f07ffffffffffffffffffffffffffffffffffffffffffffffffffffffffffffffff P) (h : P s) (new : List Nat) (change : Bool) :
 P (State.startEpoch s new change) := by
  unfold State.startEpoch
  repeat' with_reducible first
    | assumption | exact hP.mono (by decide +kernel) | apply State.advanceEpoch_closed
    | apply State.tellChange_closed | apply State.wr_closed | apply State.setMarshal_closed
    | apply State.marshalLog_closed | apply State.stepBegin_closed | exact Foot.obj_of_all (by decide +kernel) _
    | decide +kernel | split

theorem State.appointStandby_closed {P : State → Prop} {s : State} (hP : Closed 0x40000000000000000000000000000000000020000000000000000000000000000000000000000000000 P) (h : P s) :
 P (State.appointStandby s) := by
  unfold State.appointStandby
  repeat' with_reducible first
    | assumption | exact hP.mono (by decide +kernel) | apply State.setMem_closed | apply State.setMarshal_closed
    | decide +kernel | split

theorem State.markScratched_closed {P : State → Prop} {s : State} (hP : Closed 0x60000000000000000000000000000000001820000000000000000000000000000000000000000000000 P) (h : P s) (d : Nat) (reason : Nat) :
 P (State.markScratched s d reason) := by
  unfold State.markScratched
  repeat' with_reducible first
    | assumption | exact hP.mono (by decide +kernel) | apply State.setWatch_closed | apply State.setMem_closed
    | apply State.setMarshal_closed | apply State.marshalLog_closed | decide +kernel | split

theorem State.decideScratch_closed {P : State → Prop} {s : State} (hP : Closed 0x1c00e00001edc5de63f6f07ffffffffffffffffffffffffffffffffffffffffffffffffffffffffffffffff P) (h : P s) (ds : List Nat) (reason : Nat) :
 P (State.decideScratch s ds reason) := by
  unfold State.decideScratch
  repeat' with_reducible first
    | assumption | intro _ | exact hP.mono (by decide +kernel) | apply State.appointStandby_closed
    | apply State.startEpoch_closed | apply State.setMem_closed | apply State.markScratched_closed
    | apply State.setMarshal_closed | exact Foot.obj_of_all (by decide +kernel) _ | apply ite_sat | apply foldl_sat
    | apply foldUp_sat | decide +kernel | split

theorem execHeartbeatSend_closed {P : State → Prop} {s : State} (hP : Closed 0x40000000000000000040000000000000000000000000000000000000000000000000000000000000000 P) (h : P s) :
 SatR P (execHeartbeatSend s) := by
  unfold execHeartbeatSend
  repeat' with_reducible first
    | assumption | exact hP.mono (by decide +kernel) | apply State.tellManagers_closed
    | apply State.setMarshal_closed | apply SatR.next | apply SatR.fault | apply SatR.refused | decide +kernel
    | split

theorem State.clearSuspect_closed {P : State → Prop} {s : State} (hP : Closed 0x1c00600001e1c19863f6b070000001000000801820116001000000000221c81800a915200040ec000605c00 P) (h : P s) (d : Nat) :
 P (State.clearSuspect s d) := by
  unfold State.clearSuspect
  repeat' with_reducible first
    | assumption | intro _ | exact hP.mono (by decide +kernel) | apply State.setWatch_closed
    | apply State.freeDev_closed | apply State.tellAll_closed | apply State.setMem_closed
    | apply State.marshalLog_closed | apply ite_sat | apply foldl_sat | apply foldUp_sat | decide +kernel | split

theorem State.restGranted_closed {P : State → Prop} {s : State} (hP : Closed 0x20000000000000000000000000000000000020000000000000000000000000000000000000000000000 P) (h : P s) (d : Nat) :
 P (State.restGranted s d) := by
  unfold State.restGranted
  repeat' with_reducible first
    | assumption | exact hP.mono (by decide +kernel) | apply State.setWatch_closed | apply State.setMem_closed
    | decide +kernel | split

theorem State.restQuery_closed {P : State → Prop} {s : State} (hP : Closed 0x60000000000000000040000000000000000020000000000000000000000000000000000000000000000 P) (h : P s) (d : Nat) :
 P (State.restQuery s d) := by
  unfold State.restQuery
  repeat' with_reducible first
    | assumption | intro _ | exact hP.mono (by decide +kernel) | apply State.setWatch_closed
    | apply State.tell_closed | apply State.restGranted_closed | apply ite_sat | apply foldl_sat | apply foldUp_sat
    | decide +kernel | split

theorem State.noteBeat_closed {P : State → Prop} {s : State} (hP : Closed 0x20000000000000000000000000000000000020000000000000000000000000000000000000000000000 P) (h : P s) (d : Nat) (p : Nat) :
 P (State.noteBeat s d p) := by
  unfold State.noteBeat
  repeat' with_reducible first
    | assumption | exact hP.mono (by decide +kernel) | apply State.setWatch_closed | apply State.wrFld_closed
    | apply State.setMem_closed | decide +kernel | split

theorem execHeartbeatMsg_closed {P : State → Prop} {s : State} (hP : Closed 0x1c00600001e1c19863f6b070000001000000801820116001000000000221c81800a915200040ec000605c00 P) (h : P s) (f : Frame) :
 SatR P (execHeartbeatMsg f s) := by
  unfold execHeartbeatMsg
  repeat' with_reducible first
    | assumption | intro _ | exact hP.mono (by decide +kernel) | apply State.setWatch_closed
    | apply State.noteBeat_closed | apply State.clearSuspect_closed | apply State.setMem_closed
    | apply State.restQuery_closed | apply State.passMessage_closed | apply SatR.next | apply SatR.fault
    | apply SatR.refused | apply ite_sat | apply foldl_sat | apply foldUp_sat | decide +kernel
    | refine SatR.of_eq ?_ (by assumption) | split

theorem State.makeSuspect_closed {P : State → Prop} {s : State} (hP : Closed 0x1c00e00001edc5de63f6f07ffffffffffffffffffffffffffffffffffffffffffffffffffffffffffffffff P) (h : P s) (d : Nat) :
 P (State.makeSuspect s d) := by
  unfold State.makeSuspect
  repeat' with_reducible first
    | assumption | intro _ | exact hP.mono (by decide +kernel) | apply State.decideScratch_closed
    | apply State.setWatch_closed | apply State.tellAll_closed | apply State.setMem_closed | apply State.tell_closed
    | apply State.marshalLog_closed | apply State.holdDev_closed | exact Foot.obj_of_all (by decide +kernel) _
    | apply ite_sat | apply foldl_sat | apply foldUp_sat | decide +kernel | split

theorem execHeartbeatMiss_closed {P : State → Prop} {s : State} (hP : Closed 0x1c00e00001edc5de63f6f07ffffffffffffffffffffffffffffffffffffffffffffffffffffffffffffffff P) (h : P s) (dev : Nat) :
 SatR P (execHeartbeatMiss dev s) := by
  unfold execHeartbeatMiss
  repeat' with_reducible first
    | assumption | intro _ | exact hP.mono (by decide +kernel) | apply State.setWatch_closed
    | apply State.makeSuspect_closed | apply SatR.next | apply SatR.fault | apply SatR.refused
    | exact Foot.obj_of_all (by decide +kernel) _ | apply ite_sat | apply foldl_sat | apply foldUp_sat
    | decide +kernel | refine SatR.of_eq ?_ (by assumption) | split

theorem execProbeRelayTimeout_closed {P : State → Prop} {s : State} (hP : Closed 0x60000000000000000040000000000000000000000000000000000000000000000000000000000000000 P) (h : P s) (dev : Nat) :
 SatR P (execProbeRelayTimeout dev s) := by
  unfold execProbeRelayTimeout
  repeat' first
    | with_reducible assumption
    | intro _
    | exact hP.mono (by decide +kernel)
    | with_reducible apply State.setWatch_closed
    | with_reducible apply State.tell_closed
    | with_reducible apply SatR.next
    | with_reducible apply SatR.fault
    | with_reducible apply SatR.refused
    | with_reducible apply ite_sat
    | with_reducible apply foldl_sat
    | with_reducible apply foldUp_sat
    | decide +kernel
    | with_reducible refine SatR.of_eq ?_ (by with_reducible assumption)
    | split
    | dsimp only

theorem execProbeFailTimeout_closed {P : State → Prop} {s : State} (hP : Closed 0x1c00e00001edc5de63f6f07ffffffffffffffffffffffffffffffffffffffffffffffffffffffffffffffff P) (h : P s) (dev : Nat) :
 SatR P (execProbeFailTimeout dev s) := by
  unfold execProbeFailTimeout
  repeat' first
    | with_reducible assumption
    | intro _
    | exact hP.mono (by decide +kernel)
    | with_reducible apply State.decideScratch_closed
    | with_reducible apply SatR.next
    | with_reducible apply SatR.fault
    | with_reducible apply SatR.refused
    | exact Foot.obj_of_all (by decide +kernel) _
    | with_reducible apply ite_sat
    | with_reducible apply foldl_sat
    | with_reducible apply foldUp_sat
    | decide +kernel
    | with_reducible refine SatR.of_eq ?_ (by with_reducible assumption)
    | split
    | dsimp only

theorem execProbeMsg_closed {P : State → Prop} {s : State} (hP : Closed 0x100040000000000000000040000000000000000000000000000000000000000000000000000000000000000 P) (h : P s) (f : Frame) :
 SatR P (execProbeMsg f s) := by
  unfold execProbeMsg
  repeat' with_reducible first
    | assumption | intro _ | exact hP.mono (by decide +kernel) | apply State.tellPort_closed
    | apply State.msgSent_closed | apply State.passMessage_closed | apply State.send_closed | apply SatR.next
    | apply SatR.fault | apply SatR.refused | apply ite_sat | apply foldl_sat | apply foldUp_sat | decide +kernel
    | refine SatR.of_eq ?_ (by assumption) | split

theorem execProbeAckMsg_closed {P : State → Prop} {s : State} (hP : Closed 0x1c00600001e1c19863f6b070000001000000801820116001000000000221c81800a915200040ec000605c00 P) (h : P s) (f : Frame) :
 SatR P (execProbeAckMsg f s) := by
  unfold execProbeAckMsg
  repeat' with_reducible first
    | assumption | intro _ | exact hP.mono (by decide +kernel) | apply State.setWatch_closed
    | apply State.clearSuspect_closed | apply State.passMessage_closed | apply SatR.next | apply SatR.fault
    | apply SatR.refused | apply ite_sat | apply foldl_sat | apply foldUp_sat | decide +kernel
    | refine SatR.of_eq ?_ (by assumption) | split

theorem State.charge_closed {P : State → Prop} {s : State} (hP : Closed 0x20000000000000000000000000000000000000000000000000000000000000000000000000000000000 P) (h : P s) (d : Nat) (es : List (Nat × Nat × Nat)) :
 P (State.charge s d es) := by
  unfold State.charge
  repeat' with_reducible first
    | assumption | intro _ | exact hP.mono (by decide +kernel) | apply State.setWatch_closed | apply ite_sat
    | apply foldl_sat | apply foldUp_sat | decide +kernel | split

theorem State.seenScratched_closed {P : State → Prop} {s : State} (hP : Closed 0x1c00e00001edc5de63f6f07ffffffffffffffffffffffffffffffffffffffffffffffffffffffffffffffff P) (h : P s) (ds : List Nat) :
 P (State.seenScratched s ds) := by
  unfold State.seenScratched
  repeat' with_reducible first
    | assumption | intro _ | exact hP.mono (by decide +kernel) | apply State.decideScratch_closed
    | exact Foot.obj_of_all (by decide +kernel) _ | apply ite_sat | apply foldl_sat | apply foldUp_sat
    | decide +kernel | split

theorem execReportSend_closed {P : State → Prop} {s : State} (hP : Closed 0x1c01e00001edc5de63f6f07ffffffffffffffffffffffffffffffffffffffffffffffffffffffffffffffff P) (h : P s) :
 SatR P (execReportSend s) := by
  unfold execReportSend
  repeat' with_reducible first
    | assumption | intro _ | exact hP.mono (by decide +kernel) | apply State.tellManagers_closed
    | apply State.seenScratched_closed | apply State.charge_closed | apply State.setMarshal_closed | apply SatR.next
    | apply SatR.fault | apply SatR.refused | exact Foot.obj_of_all (by decide +kernel) _ | apply ite_sat
    | apply foldl_sat | apply foldUp_sat | decide +kernel | refine SatR.of_eq ?_ (by assumption) | split
    | apply hP.reports | apply hP.scratchSeen | apply Closed.reports_scratchSeen hP

theorem execReportMsg_closed {P : State → Prop} {s : State} (hP : Closed 0x1c00e00001edc5de63f6f07ffffffffffffffffffffffffffffffffffffffffffffffffffffffffffffffff P) (h : P s) (f : Frame) (scratched : List Nat) :
 SatR P (execReportMsg f scratched s) := by
  unfold execReportMsg
  repeat' with_reducible first
    | assumption | exact hP.mono (by decide +kernel) | apply State.seenScratched_closed | apply State.charge_closed
    | apply State.passMessage_closed | apply SatR.next | apply SatR.fault | apply SatR.refused
    | exact Foot.obj_of_all (by decide +kernel) _ | decide +kernel | split

theorem State.scoreAll_closed {P : State → Prop} {s : State} (hP : Closed 0x20000000000000000000000000000000000020000000000000000000000000000000000000000000000 P) (h : P s) :
 P (State.scoreAll s) := by
  unfold State.scoreAll
  repeat' with_reducible first
    | assumption | intro _ | exact hP.mono (by decide +kernel) | apply State.setWatch_closed
    | apply State.wrFld_closed | apply ite_sat | apply foldl_sat | apply foldUp_sat | decide +kernel | split

theorem execScoreWindowEnd_closed {P : State → Prop} {s : State} (hP : Closed 0x1c00e00001edc5de63f6f07ffffffffffffffffffffffffffffffffffffffffffffffffffffffffffffffff P) (h : P s) :
 SatR P (execScoreWindowEnd s) := by
  unfold execScoreWindowEnd
  repeat' with_reducible first
    | assumption | intro _ | exact hP.mono (by decide +kernel) | apply State.decideScratch_closed
    | apply State.scoreAll_closed | apply State.setMarshal_closed | apply State.marshalLog_closed | apply SatR.next
    | apply SatR.fault | apply SatR.refused | exact Foot.obj_of_all (by decide +kernel) _ | apply ite_sat
    | apply foldl_sat | apply foldUp_sat | decide +kernel | refine SatR.of_eq ?_ (by assumption) | split

theorem State.adoptEpoch_closed {P : State → Prop} {s : State} (hP : Closed 0x40000000000000000000000000000000000400000000000000000000000000000000000000000000000 P) (h : P s) (e : Nat) :
 P (State.adoptEpoch s e) := by
  unfold State.adoptEpoch
  repeat' with_reducible first
    | assumption | exact hP.mono (by decide +kernel) | apply State.wrFld_closed | apply State.setMarshal_closed
    | decide +kernel | split

theorem State.onManager_closed {P : State → Prop} {s : State} {act : State → State} (hP : Closed 0x1c00400001e1c19863868060000001000000800400104000000000000221c81800a90000000000000001c00 P) (hact : ∀ s, P s → P (act s)) (h : P s) (f : Frame) (mtype : Nat) :
 SatR P (State.onManager s f mtype act) := by
  unfold State.onManager
  repeat' with_reducible first
    | assumption | exact hP.mono (by decide +kernel) | apply hact | apply State.scratch_closed
    | apply State.adoptEpoch_closed | apply State.passMessage_closed | apply SatR.next | apply SatR.fault
    | apply SatR.refused | decide +kernel | split

theorem State.onStep_closed {P : State → Prop} {s : State} {act : State → Bool × State} (hP : Closed 0x1c00400001e1c19863868060000001000000800400104000000000000221c81800a90000000000000001c00 P) (hact : ∀ s, P s → Sat2 P (act s)) (h : P s) (f : Frame) (mtype : Nat) (step : Nat) (subject : Nat) :
 SatR P (State.onStep s f mtype step subject act) := by
  unfold State.onStep
  repeat' with_reducible first
    | assumption | intro _ | exact hP.mono (by decide +kernel) | apply hact | apply State.onManager_closed
    | apply State.wrFld_closed | apply State.stepAck_closed | apply State.setMarshal_closed | apply Sat2.snd
    | apply SatR.next | apply SatR.fault | apply SatR.refused | apply ite_sat | apply foldl_sat | apply foldUp_sat
    | decide +kernel | refine Sat2.of_eq ?_ (by assumption) | refine SatR.of_eq ?_ (by assumption) | split
    | apply Sat2.pair

theorem execSuspectMsg_closed {P : State → Prop} {s : State} (hP : Closed 0x1c00400001e1c19863868060000001000000800400104000000000000221c81800a90100000000000001c00 P) (h : P s) (f : Frame) :
 SatR P (execSuspectMsg f s) := by
  unfold execSuspectMsg
  repeat' with_reducible first
    | assumption | intro _ | exact hP.mono (by decide +kernel) | apply State.onManager_closed
    | apply State.holdDev_closed | apply SatR.next | apply SatR.fault | apply SatR.refused | apply ite_sat
    | apply foldl_sat | apply foldUp_sat | decide +kernel | refine SatR.of_eq ?_ (by assumption) | split

theorem execClearedMsg_closed {P : State → Prop} {s : State} (hP : Closed 0x1c00400001e1c19863f6b070000001000000800400116001000000000221c81800a915200040ec000605c00 P) (h : P s) (f : Frame) :
 SatR P (execClearedMsg f s) := by
  unfold execClearedMsg
  repeat' with_reducible first
    | assumption | intro _ | exact hP.mono (by decide +kernel) | apply State.freeDev_closed
    | apply State.onManager_closed | apply SatR.next | apply SatR.fault | apply SatR.refused | apply ite_sat
    | apply foldl_sat | apply foldUp_sat | decide +kernel | refine SatR.of_eq ?_ (by assumption) | split

theorem execLostMsg_closed {P : State → Prop} {s : State} (hP : Closed 0x1c00c00001edc1de63f6f07ffffffffffffffffffffffffffffffffffffffffffffffffffffffffffffffff P) (h : P s) (f : Frame) :
 SatR P (execLostMsg f s) := by
  unfold execLostMsg
  repeat' with_reducible first
    | assumption | intro _ | exact hP.mono (by decide +kernel) | apply State.onStep_closed
    | apply State.wrFld_closed | apply State.quietTold_closed | apply State.doLost_closed | apply Sat2.snd
    | apply SatR.next | apply SatR.fault | apply SatR.refused | exact Foot.obj_of_all (by decide +kernel) _
    | apply ite_sat | apply foldl_sat | apply foldUp_sat | decide +kernel | refine Sat2.of_eq ?_ (by assumption)
    | refine SatR.of_eq ?_ (by assumption) | split | apply Sat2.pair

theorem execMarshalFenceMsg_closed {P : State → Prop} {s : State} (hP : Closed 0x1c00400001e1c59863f6b070000001000000800400116001000000000221c81800a915200040ec000605c00 P) (h : P s) (f : Frame) :
 SatR P (execMarshalFenceMsg f s) := by
  unfold execMarshalFenceMsg
  repeat' with_reducible first
    | assumption | intro _ | exact hP.mono (by decide +kernel) | apply State.onStep_closed
    | apply State.fenceDev_closed | apply State.scratch_closed | apply Sat2.snd | apply SatR.next | apply SatR.fault
    | apply SatR.refused | apply ite_sat | apply foldl_sat | apply foldUp_sat | decide +kernel
    | refine Sat2.of_eq ?_ (by assumption) | refine SatR.of_eq ?_ (by assumption) | split | apply Sat2.pair

theorem execRerouteMsg_closed {P : State → Prop} {s : State} (hP : Closed 0x1c00600001e1c19863868060000001000000800420104000000000000221c87800a90000000000000001c00 P) (h : P s) (f : Frame) :
 SatR P (execRerouteMsg f s) := by
  unfold execRerouteMsg
  repeat' with_reducible first
    | assumption | intro _ | exact hP.mono (by decide +kernel) | apply State.onStep_closed
    | apply State.doReroute_closed | apply Sat2.snd | apply SatR.next | apply SatR.fault | apply SatR.refused
    | apply ite_sat | apply foldl_sat | apply foldUp_sat | decide +kernel | refine Sat2.of_eq ?_ (by assumption)
    | refine SatR.of_eq ?_ (by assumption) | split | apply Sat2.pair

theorem execRelayedMsg_closed {P : State → Prop} {s : State} (hP : Closed 0x1c00c00001e1c1de63f6b07ffffffffffffffffffffffffffffffffffffffffffffffffffffffffffffffff P) (h : P s) (f : Frame) :
 SatR P (execRelayedMsg f s) := by
  unfold execRelayedMsg
  repeat' with_reducible first
    | assumption | intro _ | exact hP.mono (by decide +kernel) | apply State.doRelayed_closed
    | apply State.onStep_closed | apply Sat2.snd | apply SatR.next | apply SatR.fault | apply SatR.refused
    | exact Foot.obj_of_all (by decide +kernel) _ | apply ite_sat | apply foldl_sat | apply foldUp_sat
    | decide +kernel | refine Sat2.of_eq ?_ (by assumption) | refine SatR.of_eq ?_ (by assumption) | split
    | apply Sat2.pair

theorem State.relayDesc_closed {P : State → Prop} {s : State} (hP : Closed 0x404000000000000000000000000000000000000000000000006000000000000000000 P) (h : P s) (i : Nat) (d : Nat) :
 P (State.relayDesc s i d) := by
  unfold State.relayDesc
  repeat' with_reducible first
    | assumption | exact hP.mono (by decide +kernel) | apply State.wr_closed | apply State.setGuard_closed
    | decide +kernel | split | apply hP.guardRanges

theorem execRelayMsg_closed {P : State → Prop} {s : State} (hP : Closed 0x1c00400001e1c19863c6c060000001000000800400104000000000000221c81800a96001000000000001c00 P) (h : P s) (f : Frame) (rest : List Byte) :
 SatR P (execRelayMsg f rest s) := by
  unfold execRelayMsg
  repeat' with_reducible first
    | assumption | intro _ | exact hP.mono (by decide +kernel) | apply State.wr_closed | apply State.onStep_closed
    | apply State.relayDesc_closed | apply Sat2.snd | apply SatR.next | apply SatR.fault | apply SatR.refused
    | apply ite_sat | apply foldl_sat | apply foldUp_sat | decide +kernel | refine Sat2.of_eq ?_ (by assumption)
    | refine SatR.of_eq ?_ (by assumption) | split | apply Sat2.pair

theorem execStepAckMsg_closed {P : State → Prop} {s : State} (hP : Closed 0x1c00e00001edc5de63f6f07ffffffffffffffffffffffffffffffffffffffffffffffffffffffffffffffff P) (h : P s) (f : Frame) :
 SatR P (execStepAckMsg f s) := by
  unfold execStepAckMsg
  repeat' first
    | with_reducible assumption
    | intro _
    | exact hP.mono (by decide +kernel)
    | with_reducible apply State.advanceEpoch_closed
    | with_reducible apply State.sendRelay_closed
    | with_reducible apply State.selectRank_closed
    | with_reducible apply State.setMarshal_closed
    | with_reducible apply State.passMessage_closed
    | with_reducible apply SatR.next
    | with_reducible apply SatR.fault
    | with_reducible apply SatR.refused
    | exact Foot.obj_of_all (by decide +kernel) _
    | with_reducible apply ite_sat
    | with_reducible apply foldl_sat
    | with_reducible apply foldUp_sat
    | decide +kernel
    | with_reducible refine SatR.of_eq ?_ (by with_reducible assumption)
    | split
    | dsimp only

theorem execStepTimeout_closed {P : State → Prop} {s : State} (hP : Closed 0x1c00e00001edc5de63f6f07ffffffffffffffffffffffffffffffffffffffffffffffffffffffffffffffff P) (h : P s) :
 SatR P (execStepTimeout s) := by
  unfold execStepTimeout
  repeat' with_reducible first
    | assumption | intro _ | exact hP.mono (by decide +kernel) | apply State.startEpoch_closed
    | apply State.makeSuspect_closed | apply SatR.next | apply SatR.fault | apply SatR.refused
    | exact Foot.obj_of_all (by decide +kernel) _ | apply ite_sat | apply foldl_sat | apply foldUp_sat
    | decide +kernel | refine SatR.of_eq ?_ (by assumption) | split

theorem execRebuiltMsg_closed {P : State → Prop} {s : State} (hP : Closed 0x1c00e00001edc5de63f6f07ffffffffffffffffffffffffffffffffffffffffffffffffffffffffffffffff P) (h : P s) (f : Frame) :
 SatR P (execRebuiltMsg f s) := by
  unfold execRebuiltMsg
  repeat' with_reducible first
    | assumption | exact hP.mono (by decide +kernel) | apply State.advanceEpoch_closed
    | apply State.setMarshal_closed | apply State.marshalLog_closed | apply State.passMessage_closed
    | apply SatR.next | apply SatR.fault | apply SatR.refused | exact Foot.obj_of_all (by decide +kernel) _
    | decide +kernel | split

theorem execManagerChangeMsg_closed {P : State → Prop} {s : State} (hP : Closed 0x1c00400001e1c19863868060000001000000801c00104000000000000221c81800a90000000000000001c00 P) (h : P s) (f : Frame) :
 SatR P (execManagerChangeMsg f s) := by
  unfold execManagerChangeMsg
  repeat' with_reducible first
    | assumption | intro _ | exact hP.mono (by decide +kernel) | apply State.onManager_closed
    | apply State.setMarshal_closed | apply State.marshalLog_closed | apply SatR.next | apply SatR.fault
    | apply SatR.refused | apply ite_sat | apply foldl_sat | apply foldUp_sat | decide +kernel
    | refine SatR.of_eq ?_ (by assumption) | split

theorem execGuardSyncMsg_closed {P : State → Prop} {s : State} (hP : Closed 0xc0000000000000000000000000000000000000000000000000000000000000000000000000000000000 P) (h : P s) (f : Frame) :
 SatR P (execGuardSyncMsg f s) := by
  unfold execGuardSyncMsg
  repeat' with_reducible first
    | assumption | exact hP.mono (by decide +kernel) | apply State.passMessage_closed | apply SatR.next
    | apply SatR.fault | apply SatR.refused | decide +kernel | split | apply hP.guardStore

theorem execHelloSend_closed {P : State → Prop} {s : State} (hP : Closed 0x100040000000000000000040000000000000000000000000000000000000000000000000000000000000000 P) (h : P s) :
 SatR P (execHelloSend s) := by
  unfold execHelloSend
  repeat' with_reducible first
    | assumption | intro _ | exact hP.mono (by decide +kernel) | apply State.tellPort_closed
    | apply State.setMarshal_closed | apply SatR.next | apply SatR.fault | apply SatR.refused | apply ite_sat
    | apply foldl_sat | apply foldUp_sat | decide +kernel | refine SatR.of_eq ?_ (by assumption) | split

theorem State.assignOut_closed {P : State → Prop} {s : State} (hP : Closed 0x100040000000000000000040000000000000000000000000000000000000000000000000000000000000000 P) (h : P s) (serial : Nat) (bs : List Byte) :
 P (State.assignOut s serial bs) := by
  unfold State.assignOut
  repeat' with_reducible first
    | assumption | intro _ | exact hP.mono (by decide +kernel) | apply State.tellPort_closed | apply ite_sat
    | apply foldl_sat | apply foldUp_sat | decide +kernel | split

theorem State.assign_closed {P : State → Prop} {s : State} (hP : Closed 0x100060000000000000000040000000000000000020000000000000000000000000000000000000000000000 P) (h : P s) (serial : Nat) (grade : Nat) (relay : Nat) (id : Nat) (spare : Bool) :
 P (State.assign s serial grade relay id spare) := by
  unfold State.assign
  repeat' with_reducible first
    | assumption | intro _ | exact hP.mono (by decide +kernel) | apply State.assignOut_closed
    | apply State.setWatch_closed | apply State.wr_closed | apply State.tell_closed | apply State.setMarshal_closed
    | apply ite_sat | apply foldl_sat | apply foldUp_sat | decide +kernel | split

theorem State.freeOld_closed {P : State → Prop} {s : State} (hP : Closed 0x20000000000000000000000000000000000000000000000 P) (h : P s) (serial : Nat) :
 P (State.freeOld s serial) := by
  unfold State.freeOld
  repeat' with_reducible first
    | assumption | intro _ | exact hP.mono (by decide +kernel) | apply State.wr_closed | apply ite_sat
    | apply foldl_sat | apply foldUp_sat | decide +kernel | split

theorem State.helloAt_closed {P : State → Prop} {s : State} (hP : Closed 0x100060000000000000000040000000000000000020000000000000000000000000000000000000000000000 P) (h : P s) (serial : Nat) (grade : Nat) (relay : Nat) :
 P (State.helloAt s serial grade relay) := by
  unfold State.helloAt
  repeat' first
    | with_reducible assumption
    | intro _
    | exact hP.mono (by decide +kernel)
    | with_reducible apply State.freeOld_closed
    | with_reducible apply State.assign_closed
    | with_reducible apply ite_sat
    | with_reducible apply foldl_sat
    | with_reducible apply foldUp_sat
    | decide +kernel
    | split
    | dsimp only

theorem execHelloMsg_closed {P : State → Prop} {s : State} (hP : Closed 0x100060000000000000000040000000000000000020000000000000000000000000000000000000000000000 P) (h : P s) (port : Nat) (f : Frame) :
 SatR P (execHelloMsg port f s) := by
  unfold execHelloMsg
  repeat' with_reducible first
    | assumption | intro _ | exact hP.mono (by decide +kernel) | apply State.helloAt_closed
    | apply State.tell_closed | apply State.setMarshal_closed | apply State.passMessage_closed | apply SatR.next
    | apply SatR.fault | apply SatR.refused | apply ite_sat | apply foldl_sat | apply foldUp_sat | decide +kernel
    | refine SatR.of_eq ?_ (by assumption) | split

theorem execAssignMsg_closed {P : State → Prop} {s : State} (hP : Closed 0x100040000000000000000040000000000000000000000000000000000000000000000001000000000000400 P) (h : P s) (f : Frame) :
 SatR P (execAssignMsg f s) := by
  unfold execAssignMsg
  repeat' with_reducible first
    | assumption | intro _ | exact hP.mono (by decide +kernel) | apply State.assignOut_closed
    | apply State.wr_closed | apply State.passMessage_closed | apply SatR.next | apply SatR.fault
    | apply SatR.refused | apply ite_sat | apply foldl_sat | apply foldUp_sat | decide +kernel
    | refine SatR.of_eq ?_ (by assumption) | split

theorem State.marshalAnswer_closed {P : State → Prop} {s : State} (hP : Closed 0x80000000000000000000000000000000000000000000000 P) (h : P s) (code : Nat) :
 P (State.marshalAnswer s code) := by
  unfold State.marshalAnswer
  repeat' with_reducible first
    | assumption | exact hP.mono (by decide +kernel) | apply State.wr_closed | decide +kernel | split

theorem execMarshalAdmit_closed {P : State → Prop} {s : State} (hP : Closed 0x40000000000000000000000000000000000080000000000000000000000000000000000000000000000 P) (h : P s) :
 SatR P (execMarshalAdmit s) := by
  unfold execMarshalAdmit
  repeat' with_reducible first
    | assumption | intro _ | exact hP.mono (by decide +kernel) | apply State.marshalAnswer_closed
    | apply State.setMarshal_closed | apply SatR.next | apply SatR.fault | apply SatR.refused | apply ite_sat
    | apply foldl_sat | apply foldUp_sat | decide +kernel | refine SatR.of_eq ?_ (by assumption) | split

theorem execSpareReady_closed {P : State → Prop} {s : State} (hP : Closed 0x1c00e00001edc5de63f6f07ffffffffffffffffffffffffffffffffffffffffffffffffffffffffffffffff P) (h : P s) (dev : Nat) :
 SatR P (execSpareReady dev s) := by
  unfold execSpareReady
  repeat' with_reducible first
    | assumption | exact hP.mono (by decide +kernel) | apply State.spareNote_closed | apply State.startEpoch_closed
    | apply State.setMem_closed | apply State.marshalAnswer_closed | apply SatR.next | apply SatR.fault
    | apply SatR.refused | exact Foot.obj_of_all (by decide +kernel) _ | decide +kernel | split

theorem execMarshalScratch_closed {P : State → Prop} {s : State} (hP : Closed 0x1c00e00001edc5de63f6f07ffffffffffffffffffffffffffffffffffffffffffffffffffffffffffffffff P) (h : P s) (dev : Nat) :
 SatR P (execMarshalScratch dev s) := by
  unfold execMarshalScratch
  repeat' with_reducible first
    | assumption | exact hP.mono (by decide +kernel) | apply State.decideScratch_closed
    | apply State.marshalAnswer_closed | apply SatR.next | apply SatR.fault | apply SatR.refused
    | exact Foot.obj_of_all (by decide +kernel) _ | decide +kernel | split

theorem execTakeManager_closed {P : State → Prop} {s : State} (hP : Closed 0x1c00e00001edc5de63f6f07ffffffffffffffffffffffffffffffffffffffffffffffffffffffffffffffff P) (h : P s) (reachable : Bool) :
 SatR P (execTakeManager reachable s) := by
  unfold execTakeManager
  repeat' with_reducible first
    | assumption | exact hP.mono (by decide +kernel) | apply State.startEpoch_closed | apply State.setMem_closed
    | apply State.marshalAnswer_closed | apply State.setMarshal_closed | apply SatR.next | apply SatR.fault
    | apply SatR.refused | exact Foot.obj_of_all (by decide +kernel) _ | decide +kernel | split

theorem execRestQueryMsg_closed {P : State → Prop} {s : State} (hP : Closed 0x1c00400001e1c19863868060000001000000800400104000000000000221c81800a90000000000000001c00 P) (h : P s) (f : Frame) :
 SatR P (execRestQueryMsg f s) := by
  unfold execRestQueryMsg
  repeat' with_reducible first
    | assumption | intro _ | exact hP.mono (by decide +kernel) | apply State.onManager_closed
    | apply State.tell_closed | apply SatR.next | apply SatR.fault | apply SatR.refused | apply ite_sat
    | apply foldl_sat | apply foldUp_sat | decide +kernel | refine SatR.of_eq ?_ (by assumption) | split

theorem execRestAnswerMsg_closed {P : State → Prop} {s : State} (hP : Closed 0x60000000000000000000000000000000000020000000000000000000000000000000000000000000000 P) (h : P s) (f : Frame) :
 SatR P (execRestAnswerMsg f s) := by
  unfold execRestAnswerMsg
  repeat' with_reducible first
    | assumption | intro _ | exact hP.mono (by decide +kernel) | apply State.setWatch_closed
    | apply State.restGranted_closed | apply State.passMessage_closed | apply SatR.next | apply SatR.fault
    | apply SatR.refused | apply ite_sat | apply foldl_sat | apply foldUp_sat | decide +kernel
    | refine SatR.of_eq ?_ (by assumption) | split

theorem execRestQueryRetry_closed {P : State → Prop} {s : State} (hP : Closed 0x60000000000000000040000000000000000020000000000000000000000000000000000000000000000 P) (h : P s) (dev : Nat) :
 SatR P (execRestQueryRetry dev s) := by
  unfold execRestQueryRetry
  repeat' with_reducible first
    | assumption | exact hP.mono (by decide +kernel) | apply State.restQuery_closed | apply SatR.next
    | apply SatR.fault | apply SatR.refused | decide +kernel | split

end Sys2Proof.Laws
end

