-- ==== Sys2Proof/Laws/ClosedLde.lean ====
section
/-! SUPPORT. The operations of Lde.lean keep every property that the writes of their footprint keep. -/

namespace Sys2Proof.Laws

set_option Elab.async false
set_option linter.all false

open Sys2Proof.Machine

theorem State.ldeStart_closed {P : State → Prop} {s : State} (hP : Closed 0x1c00400001e1c19863f6b070000001000000800000116001000000000221c81800a911200040ec000605c00 P) (h : P s) (n : Nat) (q : QCmd) (rs : List GReq) :
 P (State.ldeStart s n q rs) := by
  unfold State.ldeStart
  repeat' with_reducible first
    | assumption | intro _ | exact hP.mono (by decide +kernel) | apply State.pump_closed | apply State.endReq_closed
    | apply State.setCore_closed | apply ite_sat | apply foldl_sat | apply foldUp_sat | decide +kernel | split
    | apply hP.waiting

theorem State.seta_closed {P : State → Prop} {s : State} (hP : Closed 0x1000000000000000000000000000000000000000000000000000000000000604000 P) (h : P s) (n : Nat) (q : QCmd) :
 P (State.seta s n q) := by
  unfold State.seta
  repeat' with_reducible first
    | assumption | exact hP.mono (by decide +kernel) | apply State.post_closed | apply State.setCore_closed
    | decide +kernel | split

theorem State.collDispatch_closed {P : State → Prop} {s : State} (hP : Closed 0x1c00000001edc1986386b07000000100000080000010400100d094200221c81800a900000040ec000605c00 P) (h : P s) (n : Nat) (q : QCmd) (ecc : Ecc) :
 P (State.collDispatch s n q ecc) := by
  unfold State.collDispatch
  repeat' first
    | with_reducible assumption
    | intro _
    | exact hP.mono (by decide +kernel)
    | with_reducible apply State.post_closed
    | with_reducible apply State.collAccept_closed
    | with_reducible apply State.eccRead_closed
    | with_reducible apply State.collError_closed
    | with_reducible apply Sat2.snd
    | with_reducible apply SatE.ok
    | with_reducible apply SatE.error
    | with_reducible apply ite_sat
    | with_reducible apply foldl_sat
    | with_reducible apply foldUp_sat
    | decide +kernel
    | with_reducible refine Sat2.of_eq ?_ (by with_reducible assumption)
    | with_reducible refine SatE.of_eq ?_ (by with_reducible assumption)
    | split
    | with_reducible apply Sat2.pair
    | dsimp only

theorem State.queueRun_closed {P : State → Prop} {s : State} (hP : Closed 0x1c00400001edc19863f6b07000000100000080000011600100d094200221c81800a911200040ec000605c00 P) (h : P s) (n : Nat) (q : QCmd) (e : Ecc) :
 P (State.queueRun s n q e) := by
  unfold State.queueRun
  repeat' first
    | with_reducible assumption
    | intro _
    | exact hP.mono (by decide +kernel)
    | with_reducible apply State.post_closed
    | with_reducible apply State.collDispatch_closed
    | with_reducible apply State.seta_closed
    | with_reducible apply eccRanges_closed
    | with_reducible apply State.ldeStart_closed
    | with_reducible apply Sat2.snd
    | with_reducible apply ite_sat
    | with_reducible apply foldl_sat
    | with_reducible apply foldUp_sat
    | decide +kernel
    | with_reducible refine Sat2.of_eq ?_ (by with_reducible assumption)
    | split
    | with_reducible apply Sat2.pair
    | dsimp only

theorem execQueueDispatch_closed {P : State → Prop} {s : State} (hP : Closed 0x1c00400001edc19863f6b07000000100000080000011600100d094200221c81800a911200040ec000605c00 P) (h : P s) (core : Nat) (engine : Nat) (ecc : Ecc) :
 SatR P (execQueueDispatch core engine ecc s) := by
  unfold execQueueDispatch
  repeat' with_reducible first
    | assumption | exact hP.mono (by decide +kernel) | apply State.queueRun_closed | apply State.takeFlag_closed
    | apply State.setCore_closed | apply SatR.next | apply SatR.fault | apply SatR.refused | decide +kernel | split

end Sys2Proof.Laws
end

