-- ==== Sys2Proof/Laws/ClosedRebuild.lean ====
section
/-! SUPPORT. The operations of Rebuild.lean keep every property that the writes of their footprint keep. -/

namespace Sys2Proof.Laws

set_option Elab.async false
set_option linter.all false

open Sys2Proof.Machine

theorem State.groupRebuilt_closed {P : State → Prop} {s : State} (hP : Closed 0x40000000000000400040000000000000000000000000000000000000000000004000000000000000000 P) (h : P s) (i : Nat) :
 P (State.groupRebuilt s i) := by
  unfold State.groupRebuilt
  repeat' with_reducible first
    | assumption | exact hP.mono (by decide +kernel) | apply State.wr_closed | apply State.setGuard_closed
    | apply State.tell_closed | decide +kernel | split

theorem State.rebuildVoid_closed {P : State → Prop} {s : State} (hP : Closed 0x1c00c00001e1c1de63e6f07ffffffffffffffffffffffffffffffffffffffffffffffffffffffffffffffff P) (h : P s) (i : Nat) :
 P (State.rebuildVoid s i) := by
  unfold State.rebuildVoid
  repeat' with_reducible first
    | assumption | exact hP.mono (by decide +kernel) | apply State.guardVoid_closed | apply State.setGuard_closed
    | apply State.tell_closed | exact Foot.obj_of_all (by decide +kernel) _ | decide +kernel | split

theorem State.stripeDone_closed {P : State → Prop} {s : State} (hP : Closed 0x1c00c00001e1c1de63e6b07ffffffffffffffffffffffffffffffffffffffffffffffffffffffffffffffff P) (h : P s) (i : Nat) (stripe : Nat) (second : Nat) :
 P (State.stripeDone s i stripe second) := by
  unfold State.stripeDone
  repeat' with_reducible first
    | assumption | exact hP.mono (by decide +kernel) | apply State.startStores_closed | apply State.inc_closed
    | apply State.releaseWaiting_closed | apply State.markStripe_closed
    | exact Foot.obj_of_all (by decide +kernel) _ | decide +kernel | split

theorem State.tryNote_closed {P : State → Prop} {s : State} (hP : Closed 0x400000000000000000000000000000000000000000000000000000000000000000000 P) (h : P s) (i : Nat) (t : Trial) :
 P (State.tryNote s i t) := by
  unfold State.tryNote
  repeat' with_reducible first
    | assumption | exact hP.mono (by decide +kernel) | apply State.setGuard_closed | decide +kernel | split

theorem State.tryStripe_closed {P : State → Prop} {s : State} (hP : Closed 0x1c00c00001e1c1de63e6f07ffffffffffffffffffffffffffffffffffffffffffffffffffffffffffffffff P) (h : P s) (i : Nat) (t : Trial) :
 P (State.tryStripe s i t) := by
  have hs (t : Trial) (o : Option (List (Nat × List Byte))) : SatO P (o.map fun data =>
      let s := (s.putSymbol i t.stripe data).tryNote i t
      { s with scanJobs := ⟨.verify i, 0, false, some 15⟩ :: s.scanJobs }) := by
    cases o with
    | none => exact SatO.none
    | some data =>
      exact SatO.some (hP.scanJobs (by decide +kernel) _ _ (State.tryNote_closed (hP.mono (by decide +kernel))
        (State.putSymbol_closed (hP.mono (by decide +kernel)) h _ _ _) _ _))
  unfold State.tryStripe
  dsimp only
  split
  · next e => exact (hs _ _).of_eq e
  · split
    · next e =>
      split at e
      · cases e
      · exact (hs { t with second := true } _).of_eq e
    · exact State.rebuildVoid_closed (hP.mono (by decide +kernel)) h _

theorem execGuardStripeRebuild_closed {P : State → Prop} {s : State} (hP : Closed 0x1c00c00001e1c1de63e6f07ffffffffffffffffffffffffffffffffffffffffffffffffffffffffffffffff P) (h : P s) (entry : Nat)
    (symbols : List (Nat × List Byte)) (checks : List (Nat × Nat)) : SatR P (execGuardStripeRebuild entry symbols checks s) := by
  unfold execGuardStripeRebuild
  split
  · exact SatR.next h
  · split
    · exact SatR.next (State.groupRebuilt_closed (hP.mono (by decide +kernel)) h _)
    · exact SatR.next (ite_sat (State.tryStripe_closed (hP.mono (by decide +kernel)) h _ _) h)

theorem State.verifyEnd_closed {P : State → Prop} {s : State} (hP : Closed 0x1c00c00001e1c1de63e6f07ffffffffffffffffffffffffffffffffffffffffffffffffffffffffffffffff P) (h : P s) (i : Nat) (ecc : Ecc) :
 P (State.verifyEnd s i ecc) := by
  have h := hP.scanJobs (by decide +kernel) _ (s.scanJobs.filter fun j => j.owner != ScanOwner.verify i) h
  unfold State.verifyEnd
  dsimp only
  generalize ({ s with scanJobs := s.scanJobs.filter fun j => j.owner != ScanOwner.verify i } : State) = u at h ⊢
  split
  · exact h
  · next t _ =>
    have he := State.eccRead_closed (hP.mono (by decide +kernel)) h ecc (u.guardRegion i) (u.guardBase i + 4096 * t.stripe) 4096
    split
    · next e => exact he.of_eq e
    · next v e =>
      have hv := he.of_eq e
      have hw (c k : Nat) : P ((v.wr Obj.cvuRun 15 k).wrFld Obj.cvuState 15 64 64 c) :=
        State.wrFld_closed hP (by decide +kernel) (hP.wr _ _ _ _ (by decide +kernel) hv) _ _ _ _
      generalize crcRaw _ = c
      generalize c + 4096 * 2 ^ 64 = k
      specialize hw c k
      generalize (v.wr Obj.cvuRun 15 k).wrFld Obj.cvuState 15 64 64 c = w at hw ⊢
      have hg (g : GuardSt) : P (w.setGuard i g) := State.setGuard_closed (hP.mono (by decide +kernel)) hw _ _
      refine ite_sat (hg _) (ite_sat ?_ (ite_sat (State.rebuildVoid_closed (hP.mono (by decide +kernel)) (hg _) _)
        (State.tryStripe_closed (hP.mono (by decide +kernel)) (hg _) _ _)))
      have hd := State.stripeDone_closed (hP.mono (by decide +kernel)) (hg { w.guard i with trial := none }) i t.stripe (b2n t.second)
      exact ite_sat (State.groupRebuilt_closed (hP.mono (by decide +kernel)) hd _) hd

end Sys2Proof.Laws
end

