-- ==== Sys2Proof/Laws/ClosedCvu.lean ====
section
/-! SUPPORT. The operations of Cvu.lean keep every property that the writes of their footprint keep. -/

namespace Sys2Proof.Laws

set_option Elab.async false
set_option linter.all false

open Sys2Proof.Machine

theorem State.setRun_closed {P : State → Prop} {s : State} (hP : Closed 0x4000000000000000000000000000000000000000 P) (h : P s) (c : Nat) (reg : Nat) (bytes : Nat) :
 P (State.setRun s c reg bytes) := by
  unfold State.setRun
  repeat' with_reducible first
    | assumption | exact hP.mono (by decide +kernel) | apply State.wr_closed | decide +kernel | split

theorem State.setCvuState_closed {P : State → Prop} {s : State} (hP : Closed 0x8000000000000000000000000000000000000000 P) (h : P s) (c : Nat) (v : Nat) :
 P (State.setCvuState s c v) := by
  unfold State.setCvuState
  repeat' with_reducible first
    | assumption | exact hP.mono (by decide +kernel) | apply State.wrFld_closed | decide +kernel | split

theorem State.setCvuResult_closed {P : State → Prop} {s : State} (hP : Closed 0x8000000000000000000000000000000000000000 P) (h : P s) (c : Nat) (v : Nat) :
 P (State.setCvuResult s c v) := by
  unfold State.setCvuResult
  repeat' with_reducible first
    | assumption | exact hP.mono (by decide +kernel) | apply State.wrFld_closed | decide +kernel | split

theorem State.setFeedLeft_closed {P : State → Prop} {s : State} (hP : Closed 0x8000000000000000000000000000000000000000 P) (h : P s) (c : Nat) (v : Nat) :
 P (State.setFeedLeft s c v) := by
  unfold State.setFeedLeft
  repeat' with_reducible first
    | assumption | exact hP.mono (by decide +kernel) | apply State.wrFld_closed | decide +kernel | split

theorem State.cvuAnswer_closed {P : State → Prop} {s : State} (hP : Closed 0x10000000000000000000000000000000000000000 P) (h : P s) (code : Nat) :
 P (State.cvuAnswer s code) := by
  unfold State.cvuAnswer
  repeat' with_reducible first
    | assumption | exact hP.mono (by decide +kernel) | apply State.wr_closed | decide +kernel | split

theorem State.cvuBegin_closed {P : State → Prop} {s : State} (hP : Closed 0x4000000000000000000000000000000000000000 P) (h : P s) (c : Nat) :
 P (State.cvuBegin s c) := by
  unfold State.cvuBegin
  repeat' with_reducible first
    | assumption | exact hP.mono (by decide +kernel) | apply State.setRun_closed | decide +kernel | split

theorem State.cvuEnd_closed {P : State → Prop} {s : State} (hP : Closed 0x8000000000000000000000000000000000000000 P) (h : P s) (c : Nat) :
 P (State.cvuEnd s c) := by
  unfold State.cvuEnd
  repeat' with_reducible first
    | assumption | exact hP.mono (by decide +kernel) | apply State.setCvuResult_closed | decide +kernel | split

theorem State.cvuCommand_closed {P : State → Prop} {s : State} {f : State → State} (hP : Closed 0x10000000000000000000000000000000000000000 P) (hf : ∀ s, P s → P (f s)) (h : P s) (c : Nat) (ok : Nat → Bool) :
 P (State.cvuCommand s c ok f) := by
  unfold State.cvuCommand
  repeat' with_reducible first
    | assumption | exact hP.mono (by decide +kernel) | apply hf | apply State.cvuAnswer_closed | decide +kernel
    | split

theorem execCvuStart_closed {P : State → Prop} {s : State} (hP : Closed 0x14000000000000000000000000000000000000000 P) (h : P s) (cvu : Nat) :
 SatR P (execCvuStart cvu s) := by
  unfold execCvuStart
  repeat' with_reducible first
    | assumption | intro _ | exact hP.mono (by decide +kernel) | apply State.cvuCommand_closed
    | apply State.cvuBegin_closed | apply SatR.next | apply SatR.fault | apply SatR.refused | apply ite_sat
    | apply foldl_sat | apply foldUp_sat | decide +kernel | refine SatR.of_eq ?_ (by assumption) | split

theorem execCvuFinish_closed {P : State → Prop} {s : State} (hP : Closed 0x18000000000000000000000000000000000000000 P) (h : P s) (cvu : Nat) :
 SatR P (execCvuFinish cvu s) := by
  unfold execCvuFinish
  repeat' with_reducible first
    | assumption | intro _ | exact hP.mono (by decide +kernel) | apply State.cvuEnd_closed
    | apply State.cvuCommand_closed | apply SatR.next | apply SatR.fault | apply SatR.refused | apply ite_sat
    | apply foldl_sat | apply foldUp_sat | decide +kernel | refine SatR.of_eq ?_ (by assumption) | split

theorem State.feedBegin_closed {P : State → Prop} {s : State} (hP : Closed 0xc000000000000000000000000000000000000000 P) (h : P s) (c : Nat) :
 P (State.feedBegin s c) := by
  unfold State.feedBegin
  repeat' with_reducible first
    | assumption | exact hP.mono (by decide +kernel) | apply State.setFeedLeft_closed
    | apply State.setCvuState_closed | apply State.cvuBegin_closed | decide +kernel | split

theorem execFeed_closed {P : State → Prop} {s : State} (hP : Closed 0x40000000000000000000000000000000001c000000000000000000000000000000000000000 P) (h : P s) (cvu : Nat) :
 SatR P (execFeed cvu s) := by
  unfold execFeed
  repeat' with_reducible first
    | assumption | intro _ | exact hP.mono (by decide +kernel) | apply State.setCvu_closed
    | apply State.cvuAnswer_closed | apply State.feedBegin_closed | apply SatR.next | apply SatR.fault
    | apply SatR.refused | apply ite_sat | apply foldl_sat | apply foldUp_sat | decide +kernel
    | refine SatR.of_eq ?_ (by assumption) | split

theorem State.feedTo_closed {P : State → Prop} {s : State} (hP : Closed 0xc000000000000000000000000000000000000000 P) (h : P s) (c : Nat) (f : Feed) (left : Nat) :
 P (State.feedTo s c f left) := by
  unfold State.feedTo
  repeat' with_reducible first
    | assumption | exact hP.mono (by decide +kernel) | apply State.setFeedLeft_closed | apply State.setRun_closed
    | decide +kernel | split

theorem execCvuSuspend_closed {P : State → Prop} {s : State} (hP : Closed 0x1c000000000000000000000000000000000000000 P) (h : P s) (cvu : Nat) (fed : Nat) :
 SatR P (execCvuSuspend cvu fed s) := by
  unfold execCvuSuspend
  repeat' with_reducible first
    | assumption | intro _ | exact hP.mono (by decide +kernel) | apply State.cvuCommand_closed
    | apply State.setCvuState_closed | apply State.feedTo_closed | apply SatR.next | apply SatR.fault
    | apply SatR.refused | unfold id | apply ite_sat | apply foldl_sat | apply foldUp_sat | decide +kernel
    | refine SatR.of_eq ?_ (by assumption) | split

theorem execCvuResume_closed {P : State → Prop} {s : State} (hP : Closed 0x18000000000000000000000000000000000000000 P) (h : P s) (cvu : Nat) :
 SatR P (execCvuResume cvu s) := by
  unfold execCvuResume
  repeat' with_reducible first
    | assumption | intro _ | exact hP.mono (by decide +kernel) | apply State.cvuCommand_closed
    | apply State.setCvuState_closed | apply SatR.next | apply SatR.fault | apply SatR.refused | apply ite_sat
    | apply foldl_sat | apply foldUp_sat | decide +kernel | refine SatR.of_eq ?_ (by assumption) | split

theorem execCvuCancel_closed {P : State → Prop} {s : State} (hP : Closed 0x40000000000000000000000000000000001c000000000000000000000000000000000000000 P) (h : P s) (cvu : Nat) (fed : Nat) :
 SatR P (execCvuCancel cvu fed s) := by
  unfold execCvuCancel
  repeat' with_reducible first
    | assumption | intro _ | exact hP.mono (by decide +kernel) | apply State.setFeedLeft_closed
    | apply State.cvuCommand_closed | apply State.setCvu_closed | apply State.setCvuState_closed
    | apply State.feedTo_closed | apply SatR.next | apply SatR.fault | apply SatR.refused | apply ite_sat
    | apply foldl_sat | apply foldUp_sat | decide +kernel | refine SatR.of_eq ?_ (by assumption) | split

theorem State.rangeEcc_closed {P : State → Prop} {s : State} (hP : Closed 0x1c00000001e1c19863868070000001000000800000104001000000000221c81800a900000040ec000001c00 P) (h : P s) (ecc : Ecc) (a : Nat) (n : Nat) :
 Sat2 P (State.rangeEcc s ecc a n) := by
  unfold State.rangeEcc
  repeat' with_reducible first
    | assumption | exact hP.mono (by decide +kernel) | apply State.eccRead_closed | apply Sat2.snd | decide +kernel
    | split | apply Sat2.pair

theorem execFeedDone_closed {P : State → Prop} {s : State} (hP : Closed 0x1c00000001e1c1986386807000000100000080000010400d000000000221c81800a900000040ec000001c00 P) (h : P s) (cvu : Nat) (ecc : Ecc) :
 SatR P (execFeedDone cvu ecc s) := by
  unfold execFeedDone
  repeat' with_reducible first
    | assumption | intro _ | exact hP.mono (by decide +kernel) | apply State.cvuEnd_closed
    | apply State.rangeEcc_closed | apply State.setCvu_closed | apply State.feedTo_closed
    | apply State.feedBegin_closed | apply Sat2.snd | apply SatR.next | apply SatR.fault | apply SatR.refused
    | apply ite_sat | apply foldl_sat | apply foldUp_sat | decide +kernel | refine Sat2.of_eq ?_ (by assumption)
    | refine SatR.of_eq ?_ (by assumption) | split | apply Sat2.pair

theorem State.scanAnswer_closed {P : State → Prop} {s : State} (hP : Closed 0x100000000000000000000000000000000000000000 P) (h : P s) (code : Nat) :
 P (State.scanAnswer s code) := by
  unfold State.scanAnswer
  repeat' with_reducible first
    | assumption | exact hP.mono (by decide +kernel) | apply State.wrFld_closed | decide +kernel | split

theorem execScanSubmit_closed {P : State → Prop} {s : State} (hP : Closed 0x800000000000000000000000000000000300000000000000000000000000000000000000000 P) (h : P s) :
 SatR P (execScanSubmit s) := by
  unfold execScanSubmit
  repeat' with_reducible first
    | assumption | intro _ | exact hP.mono (by decide +kernel) | apply State.wr_closed
    | apply State.scanAnswer_closed | apply SatR.next | apply SatR.fault | apply SatR.refused | apply ite_sat
    | apply foldl_sat | apply foldUp_sat | decide +kernel | refine SatR.of_eq ?_ (by assumption) | split
    | apply hP.scanJobs

theorem State.scanBlock_closed {P : State → Prop} {s : State} (hP : Closed 0x1000000000000000000000000c000000000000000000000000000000000000000 P) (h : P s) (d : Nat) (cvu : Nat) (k : Nat) (acc : Nat × Nat) :
 Sat1 P (State.scanBlock s d cvu k acc) := by
  unfold State.scanBlock
  repeat' with_reducible first
    | assumption | exact hP.mono (by decide +kernel) | apply State.store_closed | apply State.setCvuResult_closed
    | apply State.setRun_closed | apply Sat1.fst | decide +kernel | split | apply Sat1.pair

theorem State.scanBlocksTo_closed {P : State → Prop} {s : State} (hP : Closed 0x1000000000000000000000000c000000000000000000000000000000000000000 P) (h : P s) (d : Nat) (cvu : Nat) (n : Nat) :
 Sat1 P (State.scanBlocksTo s d cvu n) := by
  unfold State.scanBlocksTo
  repeat' with_reducible first
    | assumption | intro _ | exact hP.mono (by decide +kernel) | apply State.scanBlock_closed | apply Sat1.fst
    | apply ite_sat | apply foldl_sat | apply foldUp_sat | decide +kernel | refine Sat1.of_eq ?_ (by assumption)
    | split | apply Sat1.pair

theorem State.scanStore_closed {P : State → Prop} {s : State} (hP : Closed 0x10000000000000000000000000000000000000000000000000000000000000000 P) (h : P s) (a : Nat) (bs : List Byte) :
 P (State.scanStore s a bs) := by
  unfold State.scanStore
  repeat' with_reducible first
    | assumption | exact hP.mono (by decide +kernel) | apply State.store_closed | apply State.memWrite_closed
    | decide +kernel | split

theorem State.scanFinish_closed {P : State → Prop} {s : State} (hP : Closed 0x800000000000000000000000000000000200000000000000000000000000000000000000000 P) (h : P s) (e : Nat) (code : Nat) (bytes : Nat) (result : Nat) (bad : Nat) (first : Nat) :
 P (State.scanFinish s e code bytes result bad first) := by
  unfold State.scanFinish
  repeat' with_reducible first
    | assumption | exact hP.mono (by decide +kernel) | apply State.wr_closed | decide +kernel | split
    | apply hP.scanJobs

theorem execScanJobStart_closed {P : State → Prop} {s : State} (hP : Closed 0x800000000000000000000000000000000200000000000000000000000000000000000000000 P) (h : P s) :
 SatR P (execScanJobStart s) := by
  unfold execScanJobStart
  repeat' with_reducible first
    | assumption | intro _ | exact hP.mono (by decide +kernel) | apply State.wr_closed | apply SatR.next
    | apply SatR.fault | apply SatR.refused | apply ite_sat | apply foldl_sat | apply foldUp_sat | decide +kernel
    | refine SatR.of_eq ?_ (by assumption) | split | apply hP.scanJobs

theorem State.guardFill_closed {P : State → Prop} {s : State} (hP : Closed 0x800000004010000000000000000000000000000000000000000000000000000000000000000 P) (h : P s) :
 P (State.guardFill s) :=
  hP.scanJobs (by decide +kernel) _ _ (hP.guardRanges (by decide +kernel) _ _ (hP.memDrop (by decide +kernel) _ _ h))

theorem State.scanReads_closed {P : State → Prop} {s : State} (hP : Closed 0x1c00000001e1c19863868070000001000000800000104001000000000221c81800a900000040ec000001c00 P) (h : P s) (d : Nat) (ecc : Ecc) :
 Sat2 P (State.scanReads s d ecc) := by
  unfold State.scanReads
  repeat' with_reducible first
    | assumption | intro _ | exact hP.mono (by decide +kernel) | apply State.rangeEcc_closed
    | apply State.mergeRead_closed | apply Sat2.snd | apply ite_sat | apply foldl_sat | apply foldUp_sat
    | decide +kernel | refine Sat2.of_eq ?_ (by assumption) | split | apply Sat2.pair

theorem execScanJobEnd_closed {P : State → Prop} {s : State} (hP : Closed 0x1c00c00001e1c1de63e6f07ffffffffffffffffffffffffffffffffffffffffffffffffffffffffffffffff P) (h : P s) (ecc : Ecc) :
 SatR P (execScanJobEnd ecc s) := by
  unfold execScanJobEnd
  repeat' with_reducible first
    | assumption | intro _ | exact hP.mono (by decide +kernel) | apply State.verifyEnd_closed
    | apply State.guardFill_closed | apply State.scanFinish_closed | apply State.scanReads_closed
    | apply State.scanStore_closed | apply State.scanBlocksTo_closed | apply Sat1.fst | apply Sat2.snd
    | apply SatR.next | apply SatR.fault | apply SatR.refused | exact Foot.obj_of_all (by decide +kernel) _
    | apply ite_sat | apply foldl_sat | apply foldUp_sat | decide +kernel | refine Sat1.of_eq ?_ (by assumption)
    | refine Sat2.of_eq ?_ (by assumption) | refine SatR.of_eq ?_ (by assumption) | split | apply Sat1.pair
    | apply Sat2.pair

theorem execScanCancel_closed {P : State → Prop} {s : State} (hP : Closed 0x80000000001000000000000000000000030c000000000000000000000000000000000000000 P) (h : P s) (entry : Nat) (done : Nat) :
 SatR P (execScanCancel entry done s) := by
  unfold execScanCancel
  repeat' with_reducible first
    | assumption | intro _ | exact hP.mono (by decide +kernel) | apply State.scanFinish_closed
    | apply State.scanAnswer_closed | apply State.scanStore_closed | apply State.scanBlocksTo_closed
    | apply Sat1.fst | apply SatR.next | apply SatR.fault | apply SatR.refused | apply ite_sat | apply foldl_sat
    | apply foldUp_sat | decide +kernel | refine Sat1.of_eq ?_ (by assumption)
    | refine SatR.of_eq ?_ (by assumption) | split | apply Sat1.pair

end Sys2Proof.Laws
end

