-- ==== Sys2Proof/Laws/ClosedHost.lean ====
section
/-! SUPPORT. The operations of Host.lean keep every property that the writes of their footprint keep. -/

namespace Sys2Proof.Laws

set_option Elab.async false
set_option linter.all false

open Sys2Proof.Machine

theorem State.ecnSeen_closed {P : State → Prop} {s : State} (hP : Closed 0x20000000000060000000000000000000002000000000000000000000000000000000000000000 P) (h : P s) (q : Nat) (ce : Bool) :
 P (State.ecnSeen s q ce) := by
  unfold State.ecnSeen
  repeat' with_reducible first
    | assumption | intro _ | exact hP.mono (by decide +kernel) | apply State.hostSend_closed
    | apply State.setQp_closed | apply State.inc_closed | apply ite_sat | apply foldl_sat | apply foldUp_sat
    | decide +kernel | split

theorem State.pushOp_closed {P : State → Prop} {s : State} (hP : Closed 0x60000000020060000000000000000000116000000000000000000000000000000000000000000 P) (h : P s) (q : Nat) (o : HostOp) :
 P (State.pushOp s q o) := by
  unfold State.pushOp
  repeat' with_reducible first
    | assumption | exact hP.mono (by decide +kernel) | apply State.setQp_closed | apply State.qpFlush_closed
    | decide +kernel | split

theorem State.psnOn_closed {P : State → Prop} {s : State} (hP : Closed 0x20000000000000000000000000000000000000000000000000000000000000000000000000000 P) (h : P s) (q : Nat) (packets : Nat) :
 P (State.psnOn s q packets) := by
  unfold State.psnOn
  repeat' with_reducible first
    | assumption | exact hP.mono (by decide +kernel) | apply State.setQp_closed | decide +kernel | split

theorem State.hostRequest_closed {P : State → Prop} {s : State} {fresh : State → State} {again : State → State} (hP : Closed 0x60000000020060000000000000000000116000000000000000000000000000000000000000000 P) (hfresh : ∀ s, P s → P (fresh s)) (hagain : ∀ s, P s → P (again s)) (h : P s) (q : Nat) (psn : Nat) (ce : Bool) :
 SatR P (State.hostRequest s q psn ce fresh again) := by
  unfold State.hostRequest
  repeat' first
    | with_reducible assumption
    | intro _
    | exact hP.mono (by decide +kernel)
    | with_reducible apply hfresh
    | with_reducible apply hagain
    | with_reducible apply State.pushOp_closed
    | with_reducible apply State.ecnSeen_closed
    | with_reducible apply SatR.next
    | with_reducible apply SatR.fault
    | with_reducible apply SatR.refused
    | with_reducible apply ite_sat
    | with_reducible apply foldl_sat
    | with_reducible apply foldUp_sat
    | decide +kernel
    | with_reducible refine SatR.of_eq ?_ (by with_reducible assumption)
    | split
    | dsimp only

theorem State.hostUnsupported_closed {P : State → Prop} {s : State} (hP : Closed 0x60000000020060000000000000000000116000000000000000000000000000000000000000000 P) (h : P s) (q : Nat) (psn : Nat) :
 P (State.hostUnsupported s q psn) := by
  unfold State.hostUnsupported
  repeat' with_reducible first
    | assumption | exact hP.mono (by decide +kernel) | apply State.psnOn_closed | apply State.pushOp_closed
    | decide +kernel | split

theorem execHostFrameReceive_closed {P : State → Prop} {s : State} (hP : Closed 0x60000000020060000000000000000000116000000000000000000000000000000000000000000 P) (h : P s) (hp : Nat) (len : Nat) (udp : Nat) (etype : Nat) (fcsOk : Bool) (toIp : Bool) (toMac : Bool) (neighbour : Bool) (vlan : Option Nat) (bad : Option (Nat × Nat)) :
 SatR P (execHostFrameReceive hp len udp etype fcsOk toIp toMac neighbour vlan bad s) := by
  unfold execHostFrameReceive
  repeat' with_reducible first
    | assumption | intro _ | exact hP.mono (by decide +kernel) | apply State.hostUnsupported_closed
    | apply State.hostSend_closed | apply State.inc_closed | apply State.hostRequest_closed | apply SatR.next
    | apply SatR.fault | apply SatR.refused | apply ite_sat | apply foldl_sat | apply foldUp_sat | decide +kernel
    | refine SatR.of_eq ?_ (by assumption) | split

theorem State.hostAccess_closed {P : State → Prop} {s : State} (hP : Closed 0x1c00400001e1c19863f6b070000001000000800000116001000000000221c81800a911200040ec000605c00 P) (h : P s) (q : Nat) (psn : Nat) (rkey : Nat) (va : Nat) (len : Nat) (kind : Nat) (bit : Nat) (packets : Nat) (make : State → Nat → Nat → List GReq) :
 P (State.hostAccess s q psn rkey va len kind bit packets make) := by
  unfold State.hostAccess
  repeat' with_reducible first
    | assumption | exact hP.mono (by decide +kernel) | apply State.psnOn_closed | apply State.pump_closed
    | apply State.pushOp_closed | decide +kernel | split

theorem execRdmaWrite_closed {P : State → Prop} {s : State} (hP : Closed 0x1c00400001e1c19863f6b070000001000000800000116001000000000221c81800a911200040ec000605c00 P) (h : P s) (qp : Nat) (psn : Nat) (rkey : Nat) (va : Nat) (data : List Byte) (ce : Bool) :
 SatR P (execRdmaWrite qp psn rkey va data ce s) := by
  unfold execRdmaWrite
  repeat' with_reducible first
    | assumption | intro _ | exact hP.mono (by decide +kernel) | apply State.pushOp_closed
    | apply State.hostAccess_closed | apply State.hostRequest_closed | apply SatR.next | apply SatR.fault
    | apply SatR.refused | apply ite_sat | apply foldl_sat | apply foldUp_sat | decide +kernel
    | refine SatR.of_eq ?_ (by assumption) | split

theorem execRdmaRead_closed {P : State → Prop} {s : State} (hP : Closed 0x1c00400001e1c19863f6b070000001000000800000116001000000000221c81800a911200040ec000605c00 P) (h : P s) (qp : Nat) (psn : Nat) (rkey : Nat) (va : Nat) (length : Nat) (ce : Bool) :
 SatR P (execRdmaRead qp psn rkey va length ce s) := by
  unfold execRdmaRead
  repeat' with_reducible first
    | assumption | intro _ | exact hP.mono (by decide +kernel) | apply State.hostAccess_closed
    | apply State.hostRequest_closed | apply SatR.next | apply SatR.fault | apply SatR.refused | apply ite_sat
    | apply foldl_sat | apply foldUp_sat | decide +kernel | refine SatR.of_eq ?_ (by assumption) | split

theorem execRdmaAtomic_closed {P : State → Prop} {s : State} (hP : Closed 0x1c00400001e1c19863f6b070000001000000800000116001000000000221c81800a911200040ec000605c00 P) (h : P s) (qp : Nat) (psn : Nat) (rkey : Nat) (va : Nat) (swap : Bool) (operand : Nat) (compare : Nat) (ce : Bool) :
 SatR P (execRdmaAtomic qp psn rkey va swap operand compare ce s) := by
  unfold execRdmaAtomic
  repeat' with_reducible first
    | assumption | intro _ | exact hP.mono (by decide +kernel) | apply State.hostAccess_closed
    | apply State.hostRequest_closed | apply State.qpSend_closed | apply SatR.next | apply SatR.fault
    | apply SatR.refused | apply ite_sat | apply foldl_sat | apply foldUp_sat | decide +kernel
    | refine SatR.of_eq ?_ (by assumption) | split

theorem State.sendSteps_closed {P : State → Prop} {s : State} (hP : Closed 0x1c00000001e1e1986386b070000001000000800000116001300000000221c81800a900000040ec000605c00 P) (h : P s) (q : Nat) (psn : Nat) (b : Nat) (data : List Byte) (ecc : Ecc) :
 P (State.sendSteps s q psn b data ecc) := by
  unfold State.sendSteps
  repeat' first
    | with_reducible assumption
    | intro _
    | exact hP.mono (by decide +kernel)
    | with_reducible apply State.psnOn_closed
    | with_reducible apply State.poolWrite_closed
    | with_reducible apply State.mergeRead_closed
    | with_reducible apply State.poolHandover_closed
    | with_reducible apply State.setQp_closed
    | with_reducible apply State.memStore_closed
    | with_reducible apply State.pushOp_closed
    | with_reducible apply State.addFlag_closed
    | with_reducible apply Sat2.snd
    | with_reducible apply SatPool.state
    | with_reducible apply ite_sat
    | with_reducible apply foldl_sat
    | with_reducible apply foldUp_sat
    | decide +kernel
    | with_reducible refine Sat2.of_eq ?_ (by with_reducible assumption)
    | with_reducible refine SatPool.of_eq ?_ (by with_reducible assumption)
    | split
    | with_reducible apply Sat2.pair
    | with_reducible apply SatPool.pair
    | dsimp only

theorem execRdmaSend_closed {P : State → Prop} {s : State} (hP : Closed 0x1c00000001e1f1986386b0700000010000008000001160013a0000000221c81800a900000040ec000605c00 P) (h : P s) (qp : Nat) (psn : Nat) (data : List Byte) (ce : Bool) (ecc : Ecc) :
 SatR P (execRdmaSend qp psn data ce ecc s) := by
  unfold execRdmaSend
  repeat' first
    | with_reducible assumption
    | intro _
    | exact hP.mono (by decide +kernel)
    | with_reducible apply State.psnOn_closed
    | with_reducible apply State.poolAlloc_closed
    | with_reducible apply State.poolFreeBuf_closed
    | with_reducible apply State.sendSteps_closed
    | with_reducible apply State.pushOp_closed
    | with_reducible apply State.hostRequest_closed
    | with_reducible apply SatPool.state
    | with_reducible apply SatR.next
    | with_reducible apply SatR.fault
    | with_reducible apply SatR.refused
    | with_reducible apply ite_sat
    | with_reducible apply foldl_sat
    | with_reducible apply foldUp_sat
    | decide +kernel
    | with_reducible refine SatPool.of_eq ?_ (by with_reducible assumption)
    | with_reducible refine SatR.of_eq ?_ (by with_reducible assumption)
    | split
    | with_reducible apply SatPool.pair
    | dsimp only

theorem execCnp_closed {P : State → Prop} {s : State} (hP : Closed 0x20000000000020000000000000000000002000000000000000000000000000000000000000000 P) (h : P s) (qp : Nat) :
 SatR P (execCnp qp s) := by
  unfold execCnp
  repeat' with_reducible first
    | assumption | exact hP.mono (by decide +kernel) | apply State.setQp_closed | apply State.inc_closed
    | apply SatR.next | apply SatR.fault | apply SatR.refused | decide +kernel | split

theorem execRateRaise_closed {P : State → Prop} {s : State} (hP : Closed 0x20000000000000000000000000000000000000000000000000000000000000000000000000000 P) (h : P s) (qp : Nat) :
 SatR P (execRateRaise qp s) := by
  unfold execRateRaise
  repeat' with_reducible first
    | assumption | intro _ | exact hP.mono (by decide +kernel) | apply State.setQp_closed | apply SatR.next
    | apply SatR.fault | apply SatR.refused | apply ite_sat | apply foldl_sat | apply foldUp_sat | decide +kernel
    | refine SatR.of_eq ?_ (by assumption) | split

theorem State.putReq_closed {P : State → Prop} {s : State} (hP : Closed 0x60000000000000000000002000000000000000000000000000000000000000000 P) (h : P s) (q : Nat) (r : HostReq) :
 P (State.putReq s q r) := by
  unfold State.putReq
  repeat' with_reducible first
    | assumption | exact hP.mono (by decide +kernel) | apply State.qpSend_closed | decide +kernel | split

theorem State.sendReq_closed {P : State → Prop} {s : State} (hP : Closed 0x20000000000060000000000000000000002000000000000000000000000000000000000000000 P) (h : P s) (q : Nat) (what : Nat) (ring : Nat) (addr : Nat) (len : Nat) (data : List Byte) :
 P (State.sendReq s q what ring addr len data) := by
  unfold State.sendReq
  repeat' with_reducible first
    | assumption | exact hP.mono (by decide +kernel) | apply State.putReq_closed | apply State.setQp_closed
    | decide +kernel | split

theorem State.resend_closed {P : State → Prop} {s : State} (hP : Closed 0x20000000000060000000000000000000002000000000000000000000000000000000000000000 P) (h : P s) (q : Nat) :
 P (State.resend s q) := by
  unfold State.resend
  repeat' with_reducible first
    | assumption | intro _ | exact hP.mono (by decide +kernel) | apply State.putReq_closed
    | apply State.setQp_closed | apply ite_sat | apply foldl_sat | apply foldUp_sat | decide +kernel | split

theorem execAckTimeout_closed {P : State → Prop} {s : State} (hP : Closed 0x60000000000060000000000000000000116000000000000000000000000000000000000000000 P) (h : P s) (qp : Nat) :
 SatR P (execAckTimeout qp s) := by
  unfold execAckTimeout
  repeat' first
    | with_reducible assumption
    | intro _
    | exact hP.mono (by decide +kernel)
    | with_reducible apply State.qpError_closed
    | with_reducible apply State.resend_closed
    | with_reducible apply State.qpCount_closed
    | with_reducible apply State.setQp_closed
    | with_reducible apply SatR.next
    | with_reducible apply SatR.fault
    | with_reducible apply SatR.refused
    | with_reducible apply ite_sat
    | with_reducible apply foldl_sat
    | with_reducible apply foldUp_sat
    | decide +kernel
    | with_reducible refine SatR.of_eq ?_ (by with_reducible assumption)
    | split
    | dsimp only

theorem State.ringPi_closed {P : State → Prop} {s : State} (hP : Closed 0x40000000000000000000000000000000100000000000000000000000000000000000000000000 P) (h : P s) (r : Nat) (pi : Nat) :
 P (State.ringPi s r pi) := by
  unfold State.ringPi
  repeat' with_reducible first
    | assumption | intro _ | exact hP.mono (by decide +kernel) | apply State.setHostRing_closed
    | apply State.wrFld_closed | apply ite_sat | apply foldl_sat | apply foldUp_sat | decide +kernel | split

theorem State.ringBatch_closed {P : State → Prop} {s : State} (hP : Closed 0x60000000000060000000000000000000102000000000000000000000000000000000000000000 P) (h : P s) (r : Nat) (data : List Byte) :
 P (State.ringBatch s r data) := by
  unfold State.ringBatch
  repeat' with_reducible first
    | assumption | exact hP.mono (by decide +kernel) | apply State.sendReq_closed | apply State.setHostRing_closed
    | apply State.wrFld_closed | decide +kernel | split

theorem State.ringRead_closed {P : State → Prop} {s : State} (hP : Closed 0x60000000000060000000000000000000102000000000000000000000000000000000000000000 P) (h : P s) (h : HostReq) (data : List Byte) :
 P (State.ringRead s h data) := by
  unfold State.ringRead
  repeat' with_reducible first
    | assumption | exact hP.mono (by decide +kernel) | apply State.ringPi_closed | apply State.ringBatch_closed
    | decide +kernel | split

theorem execAcknowledgement_closed {P : State → Prop} {s : State} (hP : Closed 0x60000000000060000000000000000000116000000000000000000000000000000000000000000 P) (h : P s) (qp : Nat) (psn : Nat) (code : Nat) (data : List Byte) :
 SatR P (execAcknowledgement qp psn code data s) := by
  unfold execAcknowledgement
  repeat' with_reducible first
    | assumption | intro _ | exact hP.mono (by decide +kernel) | apply State.qpError_closed
    | apply State.resend_closed | apply State.qpCount_closed | apply State.setQp_closed
    | apply State.ringRead_closed | apply SatR.next | apply SatR.fault | apply SatR.refused | apply ite_sat
    | apply foldl_sat | apply foldUp_sat | decide +kernel | refine SatR.of_eq ?_ (by assumption) | split

theorem execQpConnect_closed {P : State → Prop} {s : State} (hP : Closed 0x2000000000000000000000000000000000c000000000000000000000000000000000000000000 P) (h : P s) (qp : Nat) :
 SatR P (execQpConnect qp s) := by
  unfold execQpConnect
  repeat' with_reducible first
    | assumption | exact hP.mono (by decide +kernel) | apply State.wr_closed | apply State.wrFld_closed
    | apply State.setQp_closed | apply SatR.next | apply SatR.fault | apply SatR.refused | decide +kernel | split

theorem execQpReset_closed {P : State → Prop} {s : State} (hP : Closed 0x6000000000000000000000000000000010c000000000000000000000000000000000000000000 P) (h : P s) (qp : Nat) :
 SatR P (execQpReset qp s) := by
  unfold execQpReset
  repeat' with_reducible first
    | assumption | exact hP.mono (by decide +kernel) | apply State.wr_closed | apply State.ringsDie_closed
    | apply State.wrFld_closed | apply State.setQp_closed | apply SatR.next | apply SatR.fault | apply SatR.refused
    | decide +kernel | split

theorem execRingStart_closed {P : State → Prop} {s : State} (hP : Closed 0x40000000000000000000000000000000180000000000000000000000000000000000000000000 P) (h : P s) (ring : Nat) :
 SatR P (execRingStart ring s) := by
  unfold execRingStart
  repeat' with_reducible first
    | assumption | intro _ | exact hP.mono (by decide +kernel) | apply State.wr_closed
    | apply State.setHostRing_closed | apply SatR.next | apply SatR.fault | apply SatR.refused | apply ite_sat
    | apply foldl_sat | apply foldUp_sat | decide +kernel | refine SatR.of_eq ?_ (by assumption) | split

theorem execRingStop_closed {P : State → Prop} {s : State} (hP : Closed 0x60000000000000000000000000000000180000000000000000000000000000000000000000000 P) (h : P s) (ring : Nat) :
 SatR P (execRingStop ring s) := by
  unfold execRingStop
  repeat' with_reducible first
    | assumption | exact hP.mono (by decide +kernel) | apply State.wr_closed | apply State.setHostRing_closed
    | apply State.wrFld_closed | apply State.setQp_closed | apply SatR.next | apply SatR.fault | apply SatR.refused
    | decide +kernel | split

theorem execRingPoll_closed {P : State → Prop} {s : State} (hP : Closed 0x60000000000060000000000000000000102000000000000000000000000000000000000000000 P) (h : P s) (ring : Nat) :
 SatR P (execRingPoll ring s) := by
  unfold execRingPoll
  repeat' with_reducible first
    | assumption | intro _ | exact hP.mono (by decide +kernel) | apply State.sendReq_closed
    | apply State.setHostRing_closed | apply SatR.next | apply SatR.fault | apply SatR.refused | apply ite_sat
    | apply foldl_sat | apply foldUp_sat | decide +kernel | refine SatR.of_eq ?_ (by assumption) | split

theorem State.ringGo_closed {P : State → Prop} {s : State} {f : State → Nat → Nat → RingWait × State} (hP : Closed 0x40000000000000000000000000000000100000000000000000000000000000000000000000000 P) (hf : ∀ s n w, P s → Sat2 P (f s n w)) (h : P s) (r : Nat) (mine : Nat → Bool) :
 SatR P (State.ringGo s r mine f) := by
  unfold State.ringGo
  repeat' first
    | with_reducible assumption
    | intro _
    | exact hP.mono (by decide +kernel)
    | with_reducible apply hf
    | with_reducible apply State.setHostRing_closed
    | with_reducible apply Sat2.snd
    | with_reducible apply SatR.next
    | with_reducible apply SatR.fault
    | with_reducible apply SatR.refused
    | with_reducible apply ite_sat
    | with_reducible apply foldl_sat
    | with_reducible apply foldUp_sat
    | decide +kernel
    | with_reducible refine Sat2.of_eq ?_ (by with_reducible assumption)
    | with_reducible refine SatR.of_eq ?_ (by with_reducible assumption)
    | split
    | with_reducible apply Sat2.pair
    | dsimp only

theorem execRingNop_closed {P : State → Prop} {s : State} (hP : Closed 0x40000000000000000000000000000000100000000000000000000000000000000000000000000 P) (h : P s) (ring : Nat) :
 SatR P (execRingNop ring s) := by
  unfold execRingNop
  repeat' with_reducible first
    | assumption | intro _ | exact hP.mono (by decide +kernel) | apply State.ringGo_closed | apply Sat2.snd
    | apply SatR.next | apply SatR.fault | apply SatR.refused | apply ite_sat | apply foldl_sat | apply foldUp_sat
    | decide +kernel | refine Sat2.of_eq ?_ (by assumption) | refine SatR.of_eq ?_ (by assumption) | split
    | apply Sat2.pair

theorem execRingLaunch_closed {P : State → Prop} {s : State} (hP : Closed 0x1c00000001e1c19863869070000001000000800000104001008000000221c81800a910000040ec003e05c00 P) (h : P s) (ring : Nat) (ecc : Ecc) :
 SatR P (execRingLaunch ring ecc s) := by
  unfold execRingLaunch
  repeat' with_reducible first
    | assumption | intro _ | exact hP.mono (by decide +kernel) | apply State.tryLaunch_closed
    | apply State.ringGo_closed | apply Sat2.snd | apply SatR.next | apply SatR.fault | apply SatR.refused
    | apply ite_sat | apply foldl_sat | apply foldUp_sat | decide +kernel | refine Sat2.of_eq ?_ (by assumption)
    | refine SatR.of_eq ?_ (by assumption) | split | apply Sat2.pair

theorem execRingColl_closed {P : State → Prop} {s : State} (hP : Closed 0x1c00000001edc1986386b070000001000000800000104001005094200221c81800a900000040ec000605c00 P) (h : P s) (ring : Nat) (ecc : Ecc) :
 SatR P (execRingColl ring ecc s) := by
  unfold execRingColl
  repeat' with_reducible first
    | assumption | intro _ | exact hP.mono (by decide +kernel) | apply State.collAccept_closed
    | apply State.eccRead_closed | apply State.ringGo_closed | apply Sat2.snd | apply SatE.ok | apply SatE.error
    | apply SatR.next | apply SatR.fault | apply SatR.refused | apply ite_sat | apply foldl_sat | apply foldUp_sat
    | decide +kernel | refine Sat2.of_eq ?_ (by assumption) | refine SatE.of_eq ?_ (by assumption)
    | refine SatR.of_eq ?_ (by assumption) | split | apply Sat2.pair

theorem execRingPoolFree_closed {P : State → Prop} {s : State} (hP : Closed 0x403000000000300000000000000000001000003a0000000000000000000000000000000000000 P) (h : P s) (ring : Nat) :
 SatR P (execRingPoolFree ring s) := by
  unfold execRingPoolFree
  repeat' with_reducible first
    | assumption | intro _ | exact hP.mono (by decide +kernel) | apply State.poolFreeBuf_closed
    | apply State.ringGo_closed | apply Sat2.snd | apply SatPool.state | apply SatR.next | apply SatR.fault
    | apply SatR.refused | apply ite_sat | apply foldl_sat | apply foldUp_sat | decide +kernel
    | refine Sat2.of_eq ?_ (by assumption) | refine SatPool.of_eq ?_ (by assumption)
    | refine SatR.of_eq ?_ (by assumption) | split | apply Sat2.pair | apply SatPool.pair

theorem execRingCompletion_closed {P : State → Prop} {s : State} (hP : Closed 0x68000000000060000000000000000000102000000000000000000000000000000000000000000 P) (h : P s) (ring : Nat) (n : Nat) :
 SatR P (execRingCompletion ring n s) := by
  unfold execRingCompletion
  repeat' first
    | with_reducible assumption
    | intro _
    | exact hP.mono (by decide +kernel)
    | with_reducible apply State.sendReq_closed
    | with_reducible apply State.setHostRing_closed
    | with_reducible apply SatR.next
    | with_reducible apply SatR.fault
    | with_reducible apply SatR.refused
    | with_reducible apply ite_sat
    | with_reducible apply foldl_sat
    | with_reducible apply foldUp_sat
    | decide +kernel
    | with_reducible refine SatR.of_eq ?_ (by with_reducible assumption)
    | split
    | with_reducible apply hP.ringDone
    | dsimp only

theorem State.ethernetOut_closed {P : State → Prop} {s : State} (hP : Closed 0x60000000000000000000002000000000000000000000000000000000000000000 P) (h : P s) (p : Nat) (bytes : List Byte) :
 Sat2 P (State.ethernetOut s p bytes) := by
  unfold State.ethernetOut
  repeat' with_reducible first
    | assumption | exact hP.mono (by decide +kernel) | apply State.hostSend_closed | apply Sat2.snd | decide +kernel
    | split | apply Sat2.pair

theorem execFwdOutbound_closed {P : State → Prop} {s : State} (hP : Closed 0x60000000000000000000002000000000000000000000000000000000000000000 P) (h : P s) (f : Frame) :
 SatR P (execFwdOutbound f s) := by
  unfold execFwdOutbound
  repeat' with_reducible first
    | assumption | exact hP.mono (by decide +kernel) | apply State.inc_closed | apply State.ethernetOut_closed
    | apply Sat2.snd | apply SatR.next | apply SatR.fault | apply SatR.refused | decide +kernel | split
    | apply Sat2.pair

theorem execFwdInbound_closed {P : State → Prop} {s : State} (hP : Closed 0x60000000000000000000002000000000000000000000000000000000000000000 P) (h : P s) (hp : Nat) (bytes : List Byte) :
 SatR P (execFwdInbound hp bytes s) := by
  unfold execFwdInbound
  repeat' with_reducible first
    | assumption | exact hP.mono (by decide +kernel) | apply State.inc_closed | apply State.send_closed
    | apply SatR.next | apply SatR.fault | apply SatR.refused | decide +kernel | split

theorem execMirrorOut_closed {P : State → Prop} {s : State} (hP : Closed 0x800000060000000000000000000002000000000000004000000000000000000000000000 P) (h : P s) :
 SatR P (execMirrorOut s) := by
  unfold execMirrorOut
  repeat' with_reducible first
    | assumption | exact hP.mono (by decide +kernel) | apply State.inc_closed | apply State.ethernetOut_closed
    | apply Sat2.snd | apply SatR.next | apply SatR.fault | apply SatR.refused | decide +kernel | split
    | apply Sat2.pair | apply hP.mirrorQueue

end Sys2Proof.Laws
end

