-- ==== Sys2Proof/Laws/ClosedNv.lean ====
section
/-! SUPPORT. The operations of Nv.lean keep every property that the writes of their footprint keep. -/

namespace Sys2Proof.Laws

set_option Elab.async false
set_option linter.all false

open Sys2Proof.Machine

theorem State.writePiece_closed {P : State → Prop} {s : State} (hP : Closed 0x800c000000100c64000005ffffffffffffffffffffffffffffffffffffffffffffffffffffffffffffffff P) (h : P s) (o : ObjInfo) (p : Nat × Nat × List Byte) :
 Sat2 P (State.writePiece s o p) := by
  unfold State.writePiece
  repeat' with_reducible first
    | assumption | exact hP.mono (by decide +kernel) | apply State.bitmapStore_closed
    | apply State.applyWrite_closed | apply Sat2.snd | exact Foot.obj_of_all (by decide +kernel) _ | decide +kernel
    | split | apply Sat2.pair

theorem State.writePieces_closed {P : State → Prop} {s : State} (hP : Closed 0x800c000000100c64000005ffffffffffffffffffffffffffffffffffffffffffffffffffffffffffffffff P) (h : P s) (o : ObjInfo) (ps : List (Nat × Nat × List Byte)) :
 Sat2 P (State.writePieces s o ps) := by
  have hr := foldl_sat (Q := Sat2 P) (f := fun (r : Nat × State) p => if r.1 = cdpOk then r.2.writePiece o p else r) (l := ps)
    (Sat2.pair (a := cdpOk) h) fun b a hb => by
      split
      · exact State.writePiece_closed (hP.mono (by decide +kernel)) hb.snd _ _
      · exact hb
  exact ite_sat hr (Sat2.pair h)

theorem State.flashWrite_closed {P : State → Prop} {s : State} (hP : Closed 0x2000000000000000000000000000000000000000000000000000000000000000000000000000000000 P) (h : P s) (store : Nat) (off : Nat) (bs : List Byte) :
 P (State.flashWrite s store off bs) := by
  unfold State.flashWrite
  repeat' with_reducible first
    | assumption | exact hP.mono (by decide +kernel) | decide +kernel | split | apply hP.flash

theorem State.flashErase_closed {P : State → Prop} {s : State} (hP : Closed 0x3000000000000000000000000000000000000000000000000000000000000000000000000000000000 P) (h : P s) (store : Nat) :
 P (State.flashErase s store) := by
  unfold State.flashErase
  repeat' with_reducible first
    | assumption | exact hP.mono (by decide +kernel) | decide +kernel | split | apply hP.flash
    | apply hP.imageWritten | apply Closed.flash_imageWritten hP

theorem State.placeValue_closed {P : State → Prop} {s : State} {c : ObjCode} {m : Nat} (hP : Closed m P) (hm : Foot.obj m Obj.portNode = true) (hc : Foot.obj m c = true) (h : P s) (i : Nat) (v : Nat) :
 P (State.placeValue s c i v) := by
  unfold State.placeValue
  split
  · exact hP.wr _ _ _ _ hm h
  · split
    · exact hP.wr _ _ _ _ hm h
    · exact hP.wr _ _ _ _ hc h

theorem State.applyRecord_closed {P : State → Prop} {s : State} (hP : Closed 0xffffffffffffffffffffffffffffffffffffffffffffffffffffffffffffffff P) (h : P s) (base : State) (r : NvRec) :
 SatO P (State.applyRecord base s r) := by
  have ha (c : ObjCode) : Foot.obj 0xffffffffffffffffffffffffffffffffffffffffffffffffffffffffffffffff c = true := Foot.obj_of_all (by decide +kernel) c
  unfold State.applyRecord
  split
  · exact SatO.none
  · split
    · exact SatO.some (foldl_sat h fun b a hb => State.placeValue_closed hP (ha _) (ha _) hb _ _)
    · refine foldl_sat (Q := SatO P) (SatO.some h) fun b a hb => ?_
      cases b with
      | none => exact SatO.none
      | some t =>
        show SatO P (if _ then _ else _)
        split
        · exact SatO.some (State.placeValue_closed hP (ha _) (ha _) (hb.of_eq rfl) _ _)
        · exact SatO.none

theorem State.applyRecords_closed {P : State → Prop} {s : State} (hP : Closed 0xffffffffffffffffffffffffffffffffffffffffffffffffffffffffffffffff P) (h : P s) (base : State) (rs : List NvRec) :
 Sat1 P (State.applyRecords base s rs) := by
  unfold State.applyRecords
  repeat' with_reducible first
    | assumption | intro _ | exact hP.mono (by decide +kernel) | apply State.applyRecord_closed | apply Sat1.fst
    | apply SatO.some | apply SatO.none | exact Foot.obj_of_all (by decide +kernel) _ | apply ite_sat
    | apply foldl_sat | apply foldUp_sat | decide +kernel | refine Sat1.of_eq ?_ (by assumption)
    | refine SatO.of_eq ?_ (by assumption) | split | apply Sat1.pair

theorem State.factoryN_closed {P : State → Prop} {s : State} (hP : Closed 0xffffffffffffffffffffffffffffffffffffffffffffffffffffffffffffffff P) (h : P s) :
 P (State.factoryN s) := by
  have ha (c : ObjCode) : Foot.obj 0xffffffffffffffffffffffffffffffffffffffffffffffffffffffffffffffff c = true := Foot.obj_of_all (by decide +kernel) c
  refine State.wr_closed hP (ha _) (hP.drop _ _ (fun p hp => ?_) h) _ _
  rw [ha] at hp; cases hp

theorem State.formClassNodes_closed {P : State → Prop} {s : State} (hP : Closed 0x80000000000000000000000000000 P) (h : P s) (kinds : State) :
 P (State.formClassNodes s kinds) := by
  unfold State.formClassNodes
  repeat' with_reducible first
    | assumption | intro _ | exact hP.mono (by decide +kernel) | apply State.wr_closed | apply ite_sat
    | apply foldl_sat | apply foldUp_sat | decide +kernel | split

theorem State.memClasses_closed {P : State → Prop} {s : State} (hP : Closed 0xc0000000000000000 P) (h : P s) :
 P (State.memClasses s) := by
  unfold State.memClasses
  repeat' with_reducible first
    | assumption | intro _ | exact hP.mono (by decide +kernel) | apply State.wr_closed | apply ite_sat
    | apply foldl_sat | apply foldUp_sat | decide +kernel | split

theorem State.applyBank_closed {P : State → Prop} {s : State} (hP : Closed 0xffffffffffffffffffffffffffffffffffffffffffffffffffffffffffffffff P) (h : P s) (b : Nat) :
 Sat1 P (State.applyBank s b) := by
  unfold State.applyBank
  repeat' with_reducible first
    | assumption | exact hP.mono (by decide +kernel) | apply State.applyRecords_closed | apply Sat1.fst
    | exact Foot.obj_of_all (by decide +kernel) _ | decide +kernel | split | apply Sat1.pair

theorem State.nvRestore_closed {P : State → Prop} {s : State} (hP : Closed 0x480000000000000000ffffffffffffffffffffffffffffffffffffffffffffffffffffffffffffffff P) (h : P s) :
 P (State.nvRestore s) := by
  unfold State.nvRestore
  repeat' with_reducible first
    | assumption | exact hP.mono (by decide +kernel) | apply State.formClassNodes_closed
    | apply State.factoryN_closed | apply State.wr_closed | apply State.applyBank_closed
    | apply State.memClasses_closed | apply State.extend_closed | apply Sat1.fst
    | exact Foot.obj_of_all (by decide +kernel) _ | decide +kernel | split | apply Sat1.pair | apply hP.journalSeq
    | apply hP.nvMark | apply Closed.journalSeq_nvMark hP

theorem State.journalAppend_closed {P : State → Prop} {s : State} (hP : Closed 0x6000000000000000000000000020000000000000000000000000000000000000000000000000000000 P) (h : P s) (r : NvRec) :
 Sat2 P (State.journalAppend s r) := by
  unfold State.journalAppend
  repeat' with_reducible first
    | assumption | exact hP.mono (by decide +kernel) | apply State.flashWrite_closed | apply State.wrFld_closed
    | apply Sat2.snd | decide +kernel | split | apply Sat2.pair | apply hP.journalSeq

theorem State.nvAnswer_closed {P : State → Prop} {s : State} (hP : Closed 0x40000000000000000000000000000000000000000000000000000000 P) (h : P s) (code : Nat) :
 P (State.nvAnswer s code) := by
  unfold State.nvAnswer
  repeat' with_reducible first
    | assumption | exact hP.mono (by decide +kernel) | apply State.wr_closed | decide +kernel | split

theorem execNvBankErase_closed {P : State → Prop} {s : State} (hP : Closed 0x3c00000000000000000000000060000000000000000000000000000000000000000000000000000000 P) (h : P s) :
 SatR P (execNvBankErase s) := by
  unfold execNvBankErase
  repeat' with_reducible first
    | assumption | exact hP.mono (by decide +kernel) | apply State.flashErase_closed | apply State.nvAnswer_closed
    | apply State.wrFld_closed | apply SatR.next | apply SatR.fault | apply SatR.refused | decide +kernel | split
    | apply hP.nvErasing | apply hP.nvMark | apply Closed.nvErasing_nvMark hP

theorem execNvBankEraseDone_closed {P : State → Prop} {s : State} (hP : Closed 0x400000000000000000000000060000000000000000000000000000000000000000000000000000000 P) (h : P s) :
 SatR P (execNvBankEraseDone s) := by
  unfold execNvBankEraseDone
  repeat' with_reducible first
    | assumption | exact hP.mono (by decide +kernel) | apply State.nvAnswer_closed | apply State.wrFld_closed
    | apply SatR.next | apply SatR.fault | apply SatR.refused | decide +kernel | split | apply hP.nvErasing

theorem execNvVerify_closed {P : State → Prop} {s : State} (hP : Closed 0xe0000000000000000000000000000000000000000000000000000000 P) (h : P s) :
 SatR P (execNvVerify s) := by
  unfold execNvVerify
  repeat' with_reducible first
    | assumption | intro _ | exact hP.mono (by decide +kernel) | apply State.nvAnswer_closed | apply State.wr_closed
    | apply State.wrFld_closed | apply SatR.next | apply SatR.fault | apply SatR.refused | apply ite_sat
    | apply foldl_sat | apply foldUp_sat | decide +kernel | refine SatR.of_eq ?_ (by assumption) | split

theorem execNvActivate_closed {P : State → Prop} {s : State} (hP : Closed 0x800000000000000000000000060000000000000000000000000000000000000000000000000000000 P) (h : P s) :
 SatR P (execNvActivate s) := by
  unfold execNvActivate
  repeat' with_reducible first
    | assumption | exact hP.mono (by decide +kernel) | apply State.nvAnswer_closed | apply State.wrFld_closed
    | apply SatR.next | apply SatR.fault | apply SatR.refused | decide +kernel | split | apply hP.nvMark

end Sys2Proof.Laws
end

