-- ==== Sys2Proof/Laws/ClosedPower.lean ====
section
/-! SUPPORT. The operations of Power.lean keep every property that the writes of their footprint keep. -/

namespace Sys2Proof.Laws

set_option Elab.async false
set_option linter.all false

open Sys2Proof.Machine

theorem State.restart_closed {P : State → Prop} {s : State} (hP : Closed 0x100000000000000000000000000000000000000000000000000000000000000000 P) (h : P s) (kind : Nat) (ended : Bool) :
 P (State.restart s kind ended) := hP.restart (by decide +kernel) s kind ended h

theorem State.coldStart_closed {P : State → Prop} {s : State} (hP : Closed 0x10010000000000100000000000000000000000000000000000000000000000000000000000000000 P) (h : P s) (kind : Nat) (ended : Bool) :
 P (State.coldStart s kind ended) := by
  unfold State.coldStart
  repeat' with_reducible first
    | assumption | exact hP.mono (by decide +kernel) | apply State.restart_closed | decide +kernel | split
    | apply hP.boot | apply hP.bootCount | apply Closed.boot_bootCount hP

theorem State.warmStart_closed {P : State → Prop} {s : State} (hP : Closed 0xa0010000000000100000000000000000000000000000000000000000000000000000000000000000 P) (h : P s) :
 P (State.warmStart s) := by
  unfold State.warmStart
  repeat' with_reducible first
    | assumption | exact hP.mono (by decide +kernel) | apply State.restart_closed | decide +kernel | split
    | apply hP.boot | apply hP.fwMark | apply hP.fwRunning | apply Closed.boot_fwMark hP
    | apply Closed.boot_fwRunning hP | apply Closed.fwMark_fwRunning hP | apply Closed.boot_fwMark_fwRunning hP

theorem execWarmReset_closed {P : State → Prop} {s : State} (hP : Closed 0xa0010000000000100000000000000000000000000000000000000000000000000000000000000000 P) (h : P s) :
 SatR P (execWarmReset s) := by
  unfold execWarmReset
  repeat' with_reducible first
    | assumption | exact hP.mono (by decide +kernel) | apply State.warmStart_closed | apply SatR.next
    | apply SatR.fault | apply SatR.refused | decide +kernel | split

theorem execResetNAssert_closed {P : State → Prop} {s : State} (hP : Closed 0x200000010000000000100000000000000000000000000000000000000000000000000000000000000000 P) (h : P s) (ns : Nat) :
 SatR P (execResetNAssert ns s) := by
  unfold execResetNAssert
  repeat' with_reducible first
    | assumption | exact hP.mono (by decide +kernel) | apply State.restart_closed | apply SatR.next
    | apply SatR.fault | apply SatR.refused | decide +kernel | split | apply hP.boot | apply hP.resetLow
    | apply Closed.boot_resetLow hP

theorem execResetNRelease_closed {P : State → Prop} {s : State} (hP : Closed 0x200000010000000000000000000000000000000000000000000000000000000000000000000000000000 P) (h : P s) (ns : Nat) :
 SatR P (execResetNRelease ns s) := by
  unfold execResetNRelease
  repeat' with_reducible first
    | assumption | exact hP.mono (by decide +kernel) | apply SatR.next | apply SatR.fault | apply SatR.refused
    | decide +kernel | split | apply hP.boot | apply hP.resetLow | apply Closed.boot_resetLow hP

theorem State.inputEvent_closed {P : State → Prop} {s : State} (hP : Closed 0x200000000000000c0000000000000000000000000000000000000000000000000 P) (h : P s) (bit : Nat) (count : Nat) :
 P (State.inputEvent s bit count) := by
  unfold State.inputEvent
  repeat' with_reducible first
    | assumption | exact hP.mono (by decide +kernel) | apply State.wrFld_closed | apply State.inc_closed
    | decide +kernel | split

theorem execInputDip_closed {P : State → Prop} {s : State} (hP : Closed 0x200000000000000c0000000000000000000000000000000000000000000000000 P) (h : P s) (low : Nat) (ns : Nat) (after : Nat) :
 SatR P (execInputDip low ns after s) := by
  unfold execInputDip
  repeat' with_reducible first
    | assumption | exact hP.mono (by decide +kernel) | apply State.inputEvent_closed | apply SatR.next
    | apply SatR.fault | apply SatR.refused | decide +kernel | split

theorem execOvWarn_closed {P : State → Prop} {s : State} (hP : Closed 0x40000000000000000000000000000000000000000000000000 P) (h : P s) (volts : Nat) (ns : Nat) :
 SatR P (execOvWarn volts ns s) := by
  unfold execOvWarn
  repeat' with_reducible first
    | assumption | exact hP.mono (by decide +kernel) | apply State.wrFld_closed | apply SatR.next | apply SatR.fault
    | apply SatR.refused | decide +kernel | split

theorem State.trip_closed {P : State → Prop} {s : State} (hP : Closed 0x8000000100000000001200000000000000c0000000000000000000000000000000000000000000001c00 P) (h : P s) (bit : Nat) (count : Nat) :
 P (State.trip s bit count) := by
  unfold State.trip
  repeat' with_reducible first
    | assumption | exact hP.mono (by decide +kernel) | apply State.inputEvent_closed | apply State.restart_closed
    | apply State.scratchRecord_closed | decide +kernel | split | apply hP.boot | apply hP.tripped
    | apply Closed.boot_tripped hP

theorem execTripUv_closed {P : State → Prop} {s : State} (hP : Closed 0x8000000100000000001200000000000000c0000000000000000000000000000000000000000000001c00 P) (h : P s) (volts : Nat) (ns : Nat) :
 SatR P (execTripUv volts ns s) := by
  unfold execTripUv
  repeat' with_reducible first
    | assumption | exact hP.mono (by decide +kernel) | apply State.trip_closed | apply SatR.next | apply SatR.fault
    | apply SatR.refused | decide +kernel | split

theorem execTripOv_closed {P : State → Prop} {s : State} (hP : Closed 0x8000000100000000001200000000000000c0000000000000000000000000000000000000000000001c00 P) (h : P s) (volts : Nat) (ns : Nat) :
 SatR P (execTripOv volts ns s) := by
  unfold execTripOv
  repeat' with_reducible first
    | assumption | exact hP.mono (by decide +kernel) | apply State.trip_closed | apply SatR.next | apply SatR.fault
    | apply SatR.refused | decide +kernel | split

theorem execTripRestart_closed {P : State → Prop} {s : State} (hP : Closed 0x10010000000000100000000000000000000000000000000000000000000000000000000000000000 P) (h : P s) (volts : Nat) (ns : Nat) :
 SatR P (execTripRestart volts ns s) := by
  unfold execTripRestart
  repeat' with_reducible first
    | assumption | exact hP.mono (by decide +kernel) | apply State.coldStart_closed | apply SatR.next
    | apply SatR.fault | apply SatR.refused | decide +kernel | split

theorem execAopFloor_closed {P : State → Prop} {s : State} (hP : Closed 0x400000010000000000100000000000000000000000000000000000000000000000000000000000000000 P) (h : P s) (volts : Nat) :
 SatR P (execAopFloor volts s) := by
  unfold execAopFloor
  repeat' with_reducible first
    | assumption | exact hP.mono (by decide +kernel) | apply State.restart_closed | apply SatR.next
    | apply SatR.fault | apply SatR.refused | decide +kernel | split | apply hP.aopDead | apply hP.boot
    | apply Closed.aopDead_boot hP

theorem execPowerOn_closed {P : State → Prop} {s : State} (hP : Closed 0x10010000000000100000000000000000000000000000000000000000000000000000000000000000 P) (h : P s) :
 SatR P (execPowerOn s) := by
  unfold execPowerOn
  repeat' with_reducible first
    | assumption | exact hP.mono (by decide +kernel) | apply State.coldStart_closed | apply SatR.next
    | apply SatR.fault | apply SatR.refused | decide +kernel | split

theorem execReverseBlock_closed {P : State → Prop} {s : State} (hP : Closed 0x10000000000000000000200000000000000c0000000000000000000000000000000000000000000000000 P) (h : P s) :
 SatR P (execReverseBlock s) := by
  unfold execReverseBlock
  repeat' with_reducible first
    | assumption | exact hP.mono (by decide +kernel) | apply State.inputEvent_closed | apply SatR.next
    | apply SatR.fault | apply SatR.refused | decide +kernel | split | apply hP.inputBlocked

theorem execReverseConduct_closed {P : State → Prop} {s : State} (hP : Closed 0x1000000000000000000000000000000000000000000000000000000000000000000000000000000000000 P) (h : P s) :
 SatR P (execReverseConduct s) := by
  unfold execReverseConduct
  repeat' with_reducible first
    | assumption | exact hP.mono (by decide +kernel) | apply SatR.next | apply SatR.fault | apply SatR.refused
    | decide +kernel | split | apply hP.inputBlocked

theorem State.rampStep_closed {P : State → Prop} {s : State} (hP : Closed 0x20000000000000000000000000000000010000000000000000000000000000000000000000000000000000 P) (h : P s) (bay : Nat) :
 P (State.rampStep s bay) := by
  unfold State.rampStep
  repeat' with_reducible first
    | assumption | intro _ | exact hP.mono (by decide +kernel) | apply State.setRamp_closed | apply State.wr_closed
    | apply State.rampEnds_closed | apply ite_sat | apply foldl_sat | apply foldUp_sat | decide +kernel | split

theorem execGovernorUpdate_closed {P : State → Prop} {s : State} (hP : Closed 0xc20000000c00000000000020000000000210220000000000000000000000000000000000000000000000000 P) (h : P s) (volts : Nat) (amps : Nat) (power : Nat) (demand : Nat) :
 SatR P (execGovernorUpdate volts amps power demand s) := by
  unfold execGovernorUpdate
  repeat' with_reducible first
    | assumption | intro _ | exact hP.mono (by decide +kernel) | apply State.rampStep_closed | apply State.wr_closed
    | apply State.wrFld_closed | apply State.inc_closed | apply State.drawn_closed | apply SatR.next
    | apply SatR.fault | apply SatR.refused | apply ite_sat | apply foldl_sat | apply foldUp_sat | decide +kernel
    | refine SatR.of_eq ?_ (by assumption) | split | apply hP.govAt | apply hP.govPower | apply hP.hbmHold
    | apply hP.thermHold | apply Closed.govAt_govPower hP | apply Closed.govAt_hbmHold hP
    | apply Closed.govAt_thermHold hP | apply Closed.govPower_hbmHold hP | apply Closed.govPower_thermHold hP
    | apply Closed.hbmHold_thermHold hP | apply Closed.govAt_govPower_hbmHold hP
    | apply Closed.govAt_govPower_thermHold hP | apply Closed.govAt_hbmHold_thermHold hP
    | apply Closed.govPower_hbmHold_thermHold hP | apply Closed.govAt_govPower_hbmHold_thermHold hP

theorem execThermalLimit_closed {P : State → Prop} {s : State} (hP : Closed 0x1c00400001e1c59863f6b070000001000000800000116001000000000221c81810a915200040ec000605c00 P) (h : P s) (sensor : Nat) (unit : Nat) (reading : Nat) :
 SatR P (execThermalLimit sensor unit reading s) := by
  unfold execThermalLimit
  repeat' with_reducible first
    | assumption | exact hP.mono (by decide +kernel) | apply State.scratch_closed | apply State.oeChecked_closed
    | apply SatR.next | apply SatR.fault | apply SatR.refused | decide +kernel | split

theorem execLoopLost_closed {P : State → Prop} {s : State} (hP : Closed 0x200000000000000000000000000000000000000000000000000000 P) (h : P s) (loop : Nat) (flow : Nat) :
 SatR P (execLoopLost loop flow s) := by
  unfold execLoopLost
  repeat' with_reducible first
    | assumption | exact hP.mono (by decide +kernel) | apply State.wrFld_closed | apply SatR.next | apply SatR.fault
    | apply SatR.refused | decide +kernel | split

theorem execInletHigh_closed {P : State → Prop} {s : State} (hP : Closed 0x200000000000000000000000000000000000000000000000000000 P) (h : P s) (temp : Nat) (ns : Nat) :
 SatR P (execInletHigh temp ns s) := by
  unfold execInletHigh
  repeat' with_reducible first
    | assumption | exact hP.mono (by decide +kernel) | apply State.wrFld_closed | apply SatR.next | apply SatR.fault
    | apply SatR.refused | decide +kernel | split

theorem execInternalFault_closed {P : State → Prop} {s : State} (hP : Closed 0x1c00000001e1c19863868060000001000000800000104000000000000221c81800a90000000000000001c00 P) (h : P s) (fabric : Bool) :
 SatR P (execInternalFault fabric s) := by
  unfold execInternalFault
  repeat' with_reducible first
    | assumption | exact hP.mono (by decide +kernel) | apply State.scratch_closed | apply SatR.next
    | apply SatR.fault | apply SatR.refused | decide +kernel | split

theorem execScratchNow_closed {P : State → Prop} {s : State} (hP : Closed 0x1c00000001e1c19863868060000001000000800000104000000000000221c81800a90000000000000003c00 P) (h : P s) :
 SatR P (execScratchNow s) := by
  unfold execScratchNow
  repeat' with_reducible first
    | assumption | exact hP.mono (by decide +kernel) | apply State.wr_closed | apply State.scratch_closed
    | apply SatR.next | apply SatR.fault | apply SatR.refused | decide +kernel | split

theorem State.stageLost_closed {P : State → Prop} {s : State} (hP : Closed 0x1e00000001e1c19863868060000001000010800000104000000000000221c81800a90000000000000001c00 P) (h : P s) (p : Nat) :
 P (State.stageLost s p) := by
  unfold State.stageLost
  repeat' with_reducible first
    | assumption | intro _ | exact hP.mono (by decide +kernel) | apply State.wr_closed | apply State.scratch_closed
    | apply State.rampEnds_closed | apply ite_sat | apply foldl_sat | apply foldUp_sat | decide +kernel | split

theorem execStageRemove_closed {P : State → Prop} {s : State} (hP : Closed 0x50000000000000000000000000000000000000000000000000000 P) (h : P s) (stage : Nat) :
 SatR P (execStageRemove stage s) := by
  unfold execStageRemove
  repeat' with_reducible first
    | assumption | exact hP.mono (by decide +kernel) | apply State.wr_closed | apply SatR.next | apply SatR.fault
    | apply SatR.refused | decide +kernel | split

theorem execStageCancel_closed {P : State → Prop} {s : State} (hP : Closed 0x50000000000000000000000000000000000000000000000000000 P) (h : P s) (stage : Nat) :
 SatR P (execStageCancel stage s) := by
  unfold execStageCancel
  repeat' with_reducible first
    | assumption | exact hP.mono (by decide +kernel) | apply State.wr_closed | apply SatR.next | apply SatR.fault
    | apply SatR.refused | decide +kernel | split

theorem execStageSafe_closed {P : State → Prop} {s : State} (hP : Closed 0x10000000000000000000000000000000000000000000000000000 P) (h : P s) (stage : Nat) (volts : Nat) :
 SatR P (execStageSafe stage volts s) := by
  unfold execStageSafe
  repeat' with_reducible first
    | assumption | exact hP.mono (by decide +kernel) | apply State.wr_closed | apply SatR.next | apply SatR.fault
    | apply SatR.refused | decide +kernel | split

theorem execStageInsert_closed {P : State → Prop} {s : State} (hP : Closed 0x20000000000000000000020000000000030200000000000000000000000000000000000000000000000000 P) (h : P s) (stage : Nat) (info : Nat) (qualified : Bool) :
 SatR P (execStageInsert stage info qualified s) := by
  unfold execStageInsert
  repeat' with_reducible first
    | assumption | exact hP.mono (by decide +kernel) | apply State.wr_closed | apply State.rampBay_closed
    | apply SatR.next | apply SatR.fault | apply SatR.refused | decide +kernel | split

theorem execStageFail_closed {P : State → Prop} {s : State} (hP : Closed 0x1e00000001e1c19863868060000001000010800000104000000000000221c81800a90000000000000001c00 P) (h : P s) (stage : Nat) :
 SatR P (execStageFail stage s) := by
  unfold execStageFail
  repeat' with_reducible first
    | assumption | exact hP.mono (by decide +kernel) | apply State.stageLost_closed | apply SatR.next
    | apply SatR.fault | apply SatR.refused | decide +kernel | split

theorem execStageLatchOpen_closed {P : State → Prop} {s : State} (hP : Closed 0x1e00000001e1c19863868060000001000030800000104000000000000221c81800a90000000000000001c00 P) (h : P s) (stage : Nat) :
 SatR P (execStageLatchOpen stage s) := by
  unfold execStageLatchOpen
  repeat' with_reducible first
    | assumption | intro _ | exact hP.mono (by decide +kernel) | apply State.wr_closed
    | apply State.stageLost_closed | apply SatR.next | apply SatR.fault | apply SatR.refused | apply ite_sat
    | apply foldl_sat | apply foldUp_sat | decide +kernel | refine SatR.of_eq ?_ (by assumption) | split

theorem State.saveList_closed {P : State → Prop} {s : State} (hP : Closed 0x200000000000000000000000080000000000000000000000000000000000000000000000000000 P) (h : P s) (state : Nat) :
 P (State.saveList s state) := by
  unfold State.saveList
  repeat' with_reducible first
    | assumption | exact hP.mono (by decide +kernel) | apply State.wr_closed | decide +kernel | split
    | apply hP.saved

theorem State.powerEnd_closed {P : State → Prop} {s : State} (hP : Closed 0x8000000000000000000000001800000000000000000000000000000000000000000000000000 P) (h : P s) (ring : Option Nat) (code : Nat) (point : Nat) :
 P (State.powerEnd s ring code point) := by
  unfold State.powerEnd
  repeat' with_reducible first
    | assumption | exact hP.mono (by decide +kernel) | apply State.wr_closed | apply State.wrFld_closed
    | decide +kernel | split | apply hP.ringDone

theorem State.powerNote_closed {P : State → Prop} {s : State} (hP : Closed 0x1800000000000000000000000000000000000000000000000000 P) (h : P s) :
 P (State.powerNote s) := by
  unfold State.powerNote
  repeat' first
    | with_reducible assumption
    | intro _
    | exact hP.mono (by decide +kernel)
    | with_reducible apply State.wrFld_closed
    | with_reducible apply ite_sat
    | with_reducible apply foldl_sat
    | with_reducible apply foldUp_sat
    | decide +kernel
    | split
    | dsimp only

theorem State.setPower_closed {P : State → Prop} {s : State} (hP : Closed 0x800000000000000000000000000000000000000000000000000 P) (h : P s) (state : Nat) :
 P (State.setPower s state) := by
  unfold State.setPower
  repeat' with_reducible first
    | assumption | exact hP.mono (by decide +kernel) | apply State.wrFld_closed | decide +kernel | split

theorem State.powerRequest_closed {P : State → Prop} {s : State} (hP : Closed 0x188000000000000000000000001800000000000000000000000000000000000000000000000000 P) (h : P s) (target : Nat) (ring : Option Nat) :
 P (State.powerRequest s target ring) := by
  unfold State.powerRequest
  repeat' with_reducible first
    | assumption | exact hP.mono (by decide +kernel) | apply State.powerNote_closed | apply State.powerEnd_closed
    | apply State.setPower_closed | decide +kernel | split | apply hP.powerEntry | apply hP.powerWake
    | apply Closed.powerEntry_powerWake hP

theorem State.powerCommand_closed {P : State → Prop} {s : State} (hP : Closed 0x188000000000000000000000001800000000000000000000000000000000000000000000000000 P) (h : P s) (target : Nat) :
 P (State.powerCommand s target) := by
  unfold State.powerCommand
  repeat' with_reducible first
    | assumption | exact hP.mono (by decide +kernel) | apply State.powerNote_closed
    | apply State.powerRequest_closed | decide +kernel | split

theorem execPowerRun_closed {P : State → Prop} {s : State} (hP : Closed 0x188000000000000000000000001800000000000000000000000000000000000000000000000000 P) (h : P s) :
 SatR P (execPowerRun s) := by
  unfold execPowerRun
  repeat' with_reducible first
    | assumption | exact hP.mono (by decide +kernel) | apply State.powerCommand_closed | apply SatR.next
    | apply SatR.fault | apply SatR.refused | decide +kernel | split

theorem execPowerHold_closed {P : State → Prop} {s : State} (hP : Closed 0x188000000000000000000000001800000000000000000000000000000000000000000000000000 P) (h : P s) :
 SatR P (execPowerHold s) := by
  unfold execPowerHold
  repeat' with_reducible first
    | assumption | exact hP.mono (by decide +kernel) | apply State.powerCommand_closed | apply SatR.next
    | apply SatR.fault | apply SatR.refused | decide +kernel | split

theorem execPowerRest_closed {P : State → Prop} {s : State} (hP : Closed 0x188000000000000000000000001800000000000000000000000000000000000000000000000000 P) (h : P s) :
 SatR P (execPowerRest s) := by
  unfold execPowerRest
  repeat' with_reducible first
    | assumption | exact hP.mono (by decide +kernel) | apply State.powerCommand_closed | apply SatR.next
    | apply SatR.fault | apply SatR.refused | decide +kernel | split

theorem execPowerDeepRest_closed {P : State → Prop} {s : State} (hP : Closed 0x188000000000000000000000001800000000000000000000000000000000000000000000000000 P) (h : P s) :
 SatR P (execPowerDeepRest s) := by
  unfold execPowerDeepRest
  repeat' with_reducible first
    | assumption | exact hP.mono (by decide +kernel) | apply State.powerCommand_closed | apply SatR.next
    | apply SatR.fault | apply SatR.refused | decide +kernel | split

theorem execRingPower_closed {P : State → Prop} {s : State} (hP : Closed 0x1c8000000000000000000000001800000100000000000000000000000000000000000000000000 P) (h : P s) (ring : Nat) :
 SatR P (execRingPower ring s) := by
  unfold execRingPower
  repeat' with_reducible first
    | assumption | intro _ | exact hP.mono (by decide +kernel) | apply State.powerNote_closed
    | apply State.ringGo_closed | apply State.powerRequest_closed | apply Sat2.snd | apply SatR.next
    | apply SatR.fault | apply SatR.refused | apply ite_sat | apply foldl_sat | apply foldUp_sat | decide +kernel
    | refine Sat2.of_eq ?_ (by assumption) | refine SatR.of_eq ?_ (by assumption) | split | apply Sat2.pair

theorem State.serveWakes_closed {P : State → Prop} {s : State} (hP : Closed 0x188000000000000000000000001800000000000000000000000000000000000000000000000000 P) (h : P s) (ws : List (Nat × Option Nat)) :
 P (State.serveWakes s ws) := by
  unfold State.serveWakes
  repeat' with_reducible first
    | assumption | intro _ | exact hP.mono (by decide +kernel) | apply State.powerNote_closed
    | apply State.powerRequest_closed | apply ite_sat | apply foldl_sat | apply foldUp_sat | decide +kernel | split

theorem State.abandonEntry_closed {P : State → Prop} {s : State} (hP : Closed 0x388000000000000000000000001800000000000000000000000000000000000000000000000000 P) (h : P s) (e : PowerEntry) (point : Nat) :
 P (State.abandonEntry s e point) := by
  unfold State.abandonEntry
  repeat' with_reducible first
    | assumption | exact hP.mono (by decide +kernel) | apply State.serveWakes_closed | apply State.powerEnd_closed
    | decide +kernel | split | apply hP.powerEntry | apply hP.saved | apply Closed.powerEntry_saved hP

theorem execRestAbortPoint_closed {P : State → Prop} {s : State} (hP : Closed 0x388000000000000000000000081800000000000000000000000000000000000000000000000000 P) (h : P s) :
 SatR P (execRestAbortPoint s) := by
  unfold execRestAbortPoint
  repeat' with_reducible first
    | assumption | exact hP.mono (by decide +kernel) | apply State.abandonEntry_closed | apply State.saveList_closed
    | apply SatR.next | apply SatR.fault | apply SatR.refused | decide +kernel | split | apply hP.powerEntry

theorem execDeepRestPermit_closed {P : State → Prop} {s : State} (hP : Closed 0x80000000000000000000000001800000000000000000000000000000000000000000000000000 P) (h : P s) :
 SatR P (execDeepRestPermit s) := by
  unfold execDeepRestPermit
  repeat' with_reducible first
    | assumption | exact hP.mono (by decide +kernel) | apply State.powerNote_closed | apply SatR.next
    | apply SatR.fault | apply SatR.refused | decide +kernel | split | apply hP.powerEntry

theorem State.restPort_closed {P : State → Prop} {s : State} (hP : Closed 0x1c00400001e1c59863f6b070000001000000800000116001000000000221c81800a915200040ec000605c00 P) (h : P s) (p : Nat) :
 P (State.restPort s p) := by
  unfold State.restPort
  repeat' with_reducible first
    | assumption | exact hP.mono (by decide +kernel) | apply State.leaveUp_closed | apply State.sendBlock_closed
    | decide +kernel | split

theorem State.elsOff_closed {P : State → Prop} {s : State} (hP : Closed 0x200000000000000000000000000000000000000000000000000000000000000004000000000000000000000 P) (h : P s) :
 P (State.elsOff s) := by
  unfold State.elsOff
  repeat' with_reducible first
    | assumption | intro _ | exact hP.mono (by decide +kernel) | apply State.elsPower_closed | apply ite_sat
    | apply foldl_sat | apply foldUp_sat | decide +kernel | split

theorem execRestEntered_closed {P : State → Prop} {s : State} (hP : Closed 0x3c00400001e9c59863f6b070000001000001800000116001000000000221c81804a915200040ec000605c00 P) (h : P s) :
 SatR P (execRestEntered s) := by
  unfold execRestEntered
  repeat' with_reducible first
    | assumption | intro _ | exact hP.mono (by decide +kernel) | apply State.powerNote_closed
    | apply State.restPort_closed | apply State.elsOff_closed | apply State.powerEnd_closed
    | apply State.setPower_closed | apply SatR.next | apply SatR.fault | apply SatR.refused | apply ite_sat
    | apply foldl_sat | apply foldUp_sat | decide +kernel | refine SatR.of_eq ?_ (by assumption) | split
    | apply hP.powerEntry | apply hP.powerWake | apply Closed.powerEntry_powerWake hP

theorem State.restoreList_closed {P : State → Prop} {s : State} (hP : Closed 0x20000000000000ffffffffffffffffffffffffffffffffffffffffffffffffffffffffffffffff P) (h : P s) (state : Nat) :
 P (State.restoreList s state) := by
  have ha (c : ObjCode) : Foot.obj 0x20000000000000ffffffffffffffffffffffffffffffffffffffffffffffffffffffffffffffff c = true := Foot.obj_of_all (by decide +kernel) c
  refine foldl_sat (hP.saved (by decide +kernel) _ _ (hP.drop _ _ (fun p hp => ?_) h)) fun b a hb => State.wr_closed hP (ha _) hb _ _
  rw [ha] at hp; cases hp

theorem State.wakeCompute_closed {P : State → Prop} {s : State} (hP : Closed 0x130300000000000000000000000000000000000000000000000000a0800000000000 P) (h : P s) :
 P (State.wakeCompute s) := by
  have h1 := hP.memDrop (by decide +kernel) _ (fun c => decide (c.1 < memKey 2 0) || decide (memKey 3 0 ≤ c.1))
    (hP.rkes (by decide +kernel) _ (s.rkes.map fun p => (p.1, { RkeSt.init with stride := p.2.stride, windowStart := p.2.windowStart }))
      (hP.cores (by decide +kernel) s (s.cores.map fun p => (p.1, p.2.woken)) h))
  refine foldl_sat h1 fun b a hb => ?_
  exact State.endHold_closed (hP.mono (by decide +kernel)) (State.startHold_closed (hP.mono (by decide +kernel)) hb _ _) _

theorem State.nvValues_closed {P : State → Prop} {s : State} (hP : Closed 0xffffffffffffffffffffffffffffffffffffffffffffffffffffffffffffffff P) (h : P s) :
 P (State.nvValues s) := by
  unfold State.nvValues
  repeat' with_reducible first
    | assumption | exact hP.mono (by decide +kernel) | apply State.formClassNodes_closed
    | apply State.factoryN_closed | apply State.applyBank_closed | apply State.memClasses_closed | apply Sat1.fst
    | exact Foot.obj_of_all (by decide +kernel) _ | decide +kernel | split | apply Sat1.pair

theorem State.takeObj_closed {P : State → Prop} {s : State} {c : ObjCode} {m : Nat} (hP : Closed m P) (hc : Foot.obj m c = true) (h : P s) (other : State) :
 P (State.takeObj s other c) := by
  unfold State.takeObj
  repeat' with_reducible first
    | assumption | intro _ | exact hP.mono (by decide +kernel) | apply State.wr_closed | apply State.clearObj_closed
    | apply ite_sat | apply foldl_sat | apply foldUp_sat | decide +kernel | split

theorem State.elsAgain_closed {P : State → Prop} {s : State} (hP : Closed 0x220000000000020000000020000000000000200000000000000000000000000006000000000000000000000 P) (h : P s) (e : Nat) :
 P (State.elsAgain s e) := by
  unfold State.elsAgain
  repeat' with_reducible first
    | assumption | exact hP.mono (by decide +kernel) | apply State.setEls_closed | apply State.rampBay_closed
    | decide +kernel | split

theorem State.wakeFabric_closed {P : State → Prop} {s : State} (hP : Closed 0x3e0000000007f3ffe300007ffffffffffffffffffffffffffffffffffffffffffffffffffffffffffffffff P) (h : P s) :
 P (State.wakeFabric s) := by
  have h1 := State.takeObj_closed (c := Obj.collTimeout) hP (by decide +kernel)
    (State.takeObj_closed (c := Obj.policer) hP (by decide +kernel) h s.nvValues) s.nvValues
  refine State.trackNote_closed (hP.mono (by decide +kernel)) (foldUp_sat (foldUp_sat ?_ fun k b hb =>
    State.elsAgain_closed (hP.mono (by decide +kernel)) hb _) fun k b hb => ite_sat hb
      (State.portRelease_closed (hP.mono (by decide +kernel)) hb _))
  generalize (s.takeObj s.nvValues Obj.policer).takeObj s.nvValues Obj.collTimeout = t at h1 ⊢
  have h := hP.memDrop (by decide +kernel) _ (fun c => decide (c.1 < memKey 3 0)) h1
  have h := hP.frames (by decide +kernel) _ [] h
  have h := hP.copies (by decide +kernel) _ [] h
  have h := hP.charges (by decide +kernel) _ [] h
  have h := hP.offAt (by decide +kernel) _ [] h
  have h := hP.grantPtr (by decide +kernel) _ [] h
  have h := hP.acceptPtr (by decide +kernel) _ [] h
  have h := hP.mirrorSeen (by decide +kernel) _ [] h
  have h := hP.mirrorSeq (by decide +kernel) _ [] h
  have h := hP.mirrorQueue (by decide +kernel) _ [] h
  have h := hP.mirrorHeld (by decide +kernel) _ [] h
  have h := hP.rings (by decide +kernel) _ [] h
  have h := hP.credits (by decide +kernel) _ [] h
  have h := hP.buckets (by decide +kernel) _ [] h
  have h := hP.moves (by decide +kernel) _ [] h
  have h := hP.linkLocals (by decide +kernel) _ [] h
  have h := hP.ports (by decide +kernel) _ [] h
  have h := hP.elsLost (by decide +kernel) _ [] h
  have h := hP.pools (by decide +kernel) _ [] h
  have h := hP.owners (by decide +kernel) _ [] h
  have h := hP.cvus (by decide +kernel) _ [] h
  have h := hP.scanJobs (by decide +kernel) _ [] h
  have h := hP.sus (by decide +kernel) _ [] h
  have h := hP.suBufs (by decide +kernel) _ [] h
  have h := hP.ctxs (by decide +kernel) _ [] h
  exact h

theorem execWakeDone_closed {P : State → Prop} {s : State} (hP : Closed 0x3e000000038ff3ffe301307ffffffffffffffffffffffffffffffffffffffffffffffffffffffffffffffff P) (h : P s) :
 SatR P (execWakeDone s) := by
  unfold execWakeDone
  repeat' with_reducible first
    | assumption | intro _ | exact hP.mono (by decide +kernel) | apply State.serveWakes_closed
    | apply State.wakeCompute_closed | apply State.wakeFabric_closed | apply State.restoreList_closed
    | apply State.powerEnd_closed | apply State.setPower_closed | apply SatR.next | apply SatR.fault
    | apply SatR.refused | exact Foot.obj_of_all (by decide +kernel) _ | apply ite_sat | apply foldl_sat
    | apply foldUp_sat | decide +kernel | refine SatR.of_eq ?_ (by assumption) | split | apply hP.powerWake

theorem State.clearEntries_closed {P : State → Prop} {s : State} {c : ObjCode} {m : Nat} (hP : Closed m P) (hm : m.testBit 309 = true) (hc : Foot.obj m c = true) (h : P s) (lo : Nat) (n : Nat) :
 P (State.clearEntries s c lo n) := by
  refine hP.saved hm _ _ (hP.drop _ _ (fun p hp => ?_) h)
  by_cases hk : objKey c lo ≤ p.1 ∧ p.1 < objKey c (lo + n)
  · unfold objKey at hk
    have hl := Nat.mod_lt (lo + n) (show 0 < 2 ^ 32 by decide)
    have : p.1 / 2 ^ 32 = c := Nat.div_eq_of_lt_le (by omega) (by rw [Nat.succ_mul]; omega)
    rw [this, hc] at hp; cases hp
  · simp only [← Bool.decide_and, hk, decide_false, Bool.not_false]

theorem State.unitAnswer_closed {P : State → Prop} {s : State} (hP : Closed 0x4000000000000000000000000000000000000000000000000000 P) (h : P s) (code : Nat) :
 P (State.unitAnswer s code) := by
  unfold State.unitAnswer
  repeat' with_reducible first
    | assumption | exact hP.mono (by decide +kernel) | apply State.wr_closed | decide +kernel | split

theorem execUnitResetCore_closed {P : State → Prop} {s : State} (hP : Closed 0x2400000000000000000000000040000000000000000000000000000000000000000019f9e40000 P) (h : P s) (core : Nat) :
 SatR P (execUnitResetCore core s) := by
  have ha (t : State) (ht : P t) (r : Nat) : P (t.unitAnswer r) := State.unitAnswer_closed (hP.mono (by decide +kernel)) ht r
  unfold execUnitResetCore
  refine ite_sat (SatR.next (ha _ h _)) (ite_sat (SatR.next (ha _ h _)) (SatR.next (ha _ (State.wrFld_closed hP (by decide +kernel)
    (State.wrFld_closed hP (by decide +kernel) ?_ _ _ _ _) _ _ _ _) _)))
  have hs : P (if s.coreState core = 0 then s else s.ringCoreEnds core) :=
    ite_sat h (State.ringCoreEnds_closed (hP.mono (by decide +kernel)) h _)
  generalize (if s.coreState core = 0 then s else s.ringCoreEnds core) = t at hs ⊢
  refine foldl_mem_sat hs fun b p hp hb => State.clearEntries_closed hP (by decide +kernel) ?_ hb _ _
  exact (show ∀ p ∈ [(Obj.flags, 256), (Obj.summarySlots, 8), (Obj.haltRecord, 1), (Obj.tileRegs, 32), (Obj.maskRegs, 8),
    (Obj.satTotal, 1), (Obj.flushTotal, 1), (Obj.rakeOverTotal, 1), (Obj.rakeOorTotal, 1), (Obj.rakeMalformedTotal, 1),
    (Obj.rmaskOutsideTotal, 1), (Obj.icacheRefetch, 1)],
    Foot.obj 0x2400000000000000000000000040000000000000000000000000000000000000000019f9e40000 p.1 = true by decide +kernel) p hp

theorem execUnitResetSu_closed {P : State → Prop} {s : State} (hP : Closed 0x20100000000000000000000000400000000000000000c180000000000000000000000000000000 P) (h : P s) (su : Nat) :
 SatR P (execUnitResetSu su s) := by
  have ha (t : State) (ht : P t) (r : Nat) : P (t.unitAnswer r) := State.unitAnswer_closed (hP.mono (by decide +kernel)) ht r
  unfold execUnitResetSu
  refine ite_sat (SatR.next (ha _ h _)) (ite_sat (SatR.next (ha _ h _)) (SatR.next (ha _
    (State.setSu_closed (hP.mono (by decide +kernel)) ?_ _ _) _)))
  have he (t : State) (ht : P t) (c : ObjCode) (hc : Foot.obj 0x20100000000000000000000000400000000000000000c180000000000000000000000000000000 c = true)
      (lo n : Nat) : P (t.clearEntries c lo n) := State.clearEntries_closed hP (by decide +kernel) hc ht lo n
  simp only [List.foldl_cons, List.foldl_nil]
  repeat' first
    | exact h
    | refine he _ ?_ _ (by decide +kernel) _ _

theorem execUnitResetCvu_closed {P : State → Prop} {s : State} (hP : Closed 0x20040000000000000000000000400000000000c000000000000000000000000000000000000000 P) (h : P s) (cvu : Nat) :
 SatR P (execUnitResetCvu cvu s) := by
  unfold execUnitResetCvu
  repeat' with_reducible first
    | assumption | exact hP.mono (by decide +kernel) | apply State.clearEntries_closed | apply State.setCvu_closed
    | apply State.unitAnswer_closed | apply SatR.next | apply SatR.fault | apply SatR.refused | decide +kernel
    | split

theorem execUnitResetHostPort_closed {P : State → Prop} {s : State} (hP : Closed 0x200000000000000000000000004000000002800000000000000000000000000000000000000000 P) (h : P s) (hp : Nat) :
 SatR P (execUnitResetHostPort hp s) := by
  unfold execUnitResetHostPort
  repeat' with_reducible first
    | assumption | exact hP.mono (by decide +kernel) | apply State.clearEntries_closed
    | apply State.unitAnswer_closed | apply SatR.next | apply SatR.fault | apply SatR.refused | decide +kernel
    | split

end Sys2Proof.Laws
end

