-- ==== Sys2Proof/Laws/ClosedSecurity.lean ====
section
/-! SUPPORT. The operations of Security.lean keep every property that the writes of their footprint keep. -/

namespace Sys2Proof.Laws

set_option Elab.async false
set_option linter.all false

open Sys2Proof.Machine

theorem State.startSockets_closed {P : State → Prop} {s : State} (hP : Closed 0x20000000000000000000020000000000000200000000000000000000000000000000000001000000000000 P) (h : P s) (dimms : Nat) :
 P (State.startSockets s dimms) := by
  unfold State.startSockets
  repeat' with_reducible first
    | assumption | intro _ | exact hP.mono (by decide +kernel) | apply State.dimmPowers_closed
    | apply State.setDimm_closed | apply ite_sat | apply foldl_sat | apply foldUp_sat | decide +kernel | split

theorem State.startCages_closed {P : State → Prop} {s : State} (hP : Closed 0x800000000000000000000000000000000000000000 P) (h : P s) (cages : List Nat) :
 P (State.startCages s cages) := by
  unfold State.startCages
  repeat' with_reducible first
    | assumption | intro _ | exact hP.mono (by decide +kernel) | apply State.wr_closed | apply ite_sat
    | apply foldl_sat | apply foldUp_sat | decide +kernel | split

theorem State.wrPairs_closed {P : State → Prop} {s : State} {c : ObjCode} {m : Nat} (hP : Closed m P) (hc : Foot.obj m c = true) (h : P s) (ps : List (Nat × Nat)) :
 P (State.wrPairs s c ps) := by
  unfold State.wrPairs
  repeat' with_reducible first
    | assumption | intro _ | exact hP.mono (by decide +kernel) | apply State.wr_closed | apply ite_sat
    | apply foldl_sat | apply foldUp_sat | decide +kernel | split

theorem State.startMarshal_closed {P : State → Prop} {s : State} (hP : Closed 0x40000000000000000000000000000000000000000000000000000000000000000000000000000000000 P) (h : P s) :
 P (State.startMarshal s) := by
  unfold State.startMarshal
  repeat' with_reducible first
    | assumption | exact hP.mono (by decide +kernel) | apply State.setMarshal_closed | decide +kernel | split

theorem State.release_closed {P : State → Prop} {s : State} (hP : Closed 0x22004480001002804000006ffffffffffffffffffffffffffffffffffffffffffffffffffffffffffffffff P) (h : P s) (unitDigest : Nat) (b : Bays) :
 P (State.release s unitDigest b) := by
  unfold State.release
  repeat' with_reducible first
    | assumption | intro _ | exact hP.mono (by decide +kernel) | apply State.trackNote_closed
    | apply State.wrPairs_closed | apply State.setEls_closed | apply State.nvRestore_closed
    | apply State.claimCvus_closed | apply State.wr_closed | apply State.portRelease_closed
    | apply State.startSockets_closed | apply State.startCages_closed | apply State.extend_closed
    | apply State.startMarshal_closed | apply State.rampBay_closed | exact Foot.obj_of_all (by decide +kernel) _
    | apply ite_sat | apply foldl_sat | apply foldUp_sat | decide +kernel | split | apply hP.boot

theorem State.recover_closed {P : State → Prop} {s : State} (hP : Closed 0x10000000000000000000000000000000000800000000000000000000000000000000000000000 P) (h : P s) (b : Bays) :
 P (State.recover s b) := by
  unfold State.recover
  repeat' with_reducible first
    | assumption | exact hP.mono (by decide +kernel) | apply State.startCages_closed | decide +kernel | split
    | apply hP.boot

theorem execBoot_closed {P : State → Prop} {s : State} (hP : Closed 0x22004482001002804000006ffffffffffffffffffffffffffffffffffffffffffffffffffffffffffffffff P) (h : P s) (b : Bays) :
 SatR P (execBoot b s) := by
  unfold execBoot
  repeat' with_reducible first
    | assumption | intro _ | exact hP.mono (by decide +kernel) | apply State.extend_closed
    | apply State.release_closed | apply State.recover_closed | apply SatR.next | apply SatR.fault
    | apply SatR.refused | exact Foot.obj_of_all (by decide +kernel) _ | apply ite_sat | apply foldl_sat
    | apply foldUp_sat | decide +kernel | refine SatR.of_eq ?_ (by assumption) | split | apply hP.boot
    | apply hP.fwRunning | apply Closed.boot_fwRunning hP

theorem State.startManager_closed {P : State → Prop} {s : State} (hP : Closed 0x20000000000000000000000000000001000000000000400 P) (h : P s) :
 P (State.startManager s) := by
  unfold State.startManager
  repeat' with_reducible first
    | assumption | exact hP.mono (by decide +kernel) | apply State.wr_closed | decide +kernel | split

theorem execStartupFill_closed {P : State → Prop} {s : State} (hP : Closed 0x10000000000010000000000000000020000400000000000000000000000001000000000000400 P) (h : P s) :
 SatR P (execStartupFill s) := by
  unfold execStartupFill
  split
  · exact SatR.next h
  · dsimp only
    refine SatR.next (ite_sat ?_ (State.startManager_closed (hP.mono (by decide +kernel)) ?_)) <;>
      exact hP.boot (by decide +kernel) _ _ (hP.memDrop (by decide +kernel) (s.wr Obj.scanInternal 0 0) _
        (hP.wr _ _ _ _ (by decide +kernel) h))

theorem State.securityAnswer_closed {P : State → Prop} {s : State} (hP : Closed 0x10000000000000000000000000000000000000000000000000000000 P) (h : P s) (code : Nat) :
 P (State.securityAnswer s code) := by
  unfold State.securityAnswer
  repeat' with_reducible first
    | assumption | exact hP.mono (by decide +kernel) | apply State.wr_closed | decide +kernel | split

theorem State.eraseBanks_closed {P : State → Prop} {s : State} (hP : Closed 0x3800000000000000000000000000000000000000000000000000000000000000000000000000000000 P) (h : P s) :
 P (State.eraseBanks s) := by
  unfold State.eraseBanks
  repeat' with_reducible first
    | assumption | exact hP.mono (by decide +kernel) | apply State.flashErase_closed | decide +kernel | split
    | apply hP.nvMark

theorem execCommission_closed {P : State → Prop} {s : State} (hP : Closed 0x38a3010080000000100000000010000000000000000000000000000000000000000000000000000000 P) (h : P s) :
 SatR P (execCommission s) := by
  unfold execCommission
  repeat' with_reducible first
    | assumption | exact hP.mono (by decide +kernel) | apply State.eraseBanks_closed | apply State.warmStart_closed
    | apply State.securityAnswer_closed | apply SatR.next | apply SatR.fault | apply SatR.refused | decide +kernel
    | split | apply hP.nvKey | apply hP.operatorKeys | apply hP.ownerKey | apply Closed.nvKey_operatorKeys hP
    | apply Closed.nvKey_ownerKey hP | apply Closed.operatorKeys_ownerKey hP
    | apply Closed.nvKey_operatorKeys_ownerKey hP

theorem execDecommission_closed {P : State → Prop} {s : State} (hP : Closed 0x38a3010080000000100000000010000000000000000000000000000000000000000000000000000000 P) (h : P s) (owner : Bool) :
 SatR P (execDecommission owner s) := by
  unfold execDecommission
  repeat' with_reducible first
    | assumption | exact hP.mono (by decide +kernel) | apply State.eraseBanks_closed | apply State.warmStart_closed
    | apply State.securityAnswer_closed | apply SatR.next | apply SatR.fault | apply SatR.refused | decide +kernel
    | split | apply hP.nvKey | apply hP.operatorKeys | apply hP.ownerKey | apply Closed.nvKey_operatorKeys hP
    | apply Closed.nvKey_ownerKey hP | apply Closed.operatorKeys_ownerKey hP
    | apply Closed.nvKey_operatorKeys_ownerKey hP

theorem execKeysCmd_closed {P : State → Prop} {s : State} (hP : Closed 0x1000000000000000000000010000000000000000000000000000000000000000000000000000000 P) (h : P s) (owner : Bool) :
 SatR P (execKeysCmd owner s) := by
  unfold execKeysCmd
  repeat' with_reducible first
    | assumption | exact hP.mono (by decide +kernel) | apply State.securityAnswer_closed | apply SatR.next
    | apply SatR.fault | apply SatR.refused | decide +kernel | split | apply hP.operatorKeys

theorem execRollbackCommit_closed {P : State → Prop} {s : State} (hP : Closed 0x808000000000000000000000030000000000000000000000000000000000000000000000000000000 P) (h : P s) (owner : Bool) :
 SatR P (execRollbackCommit owner s) := by
  unfold execRollbackCommit
  repeat' with_reducible first
    | assumption | exact hP.mono (by decide +kernel) | apply State.wrFld_closed | apply State.securityAnswer_closed
    | apply SatR.next | apply SatR.fault | apply SatR.refused | decide +kernel | split | apply hP.nvMark
    | apply hP.rollback | apply Closed.nvMark_rollback hP

theorem execSvnCommit_closed {P : State → Prop} {s : State} (hP : Closed 0xc4000000000000000000000010000000000000000000000000000000000000000000000000000000 P) (h : P s) (owner : Bool) :
 SatR P (execSvnCommit owner s) := by
  unfold execSvnCommit
  repeat' with_reducible first
    | assumption | exact hP.mono (by decide +kernel) | apply State.securityAnswer_closed | apply SatR.next
    | apply SatR.fault | apply SatR.refused | decide +kernel | split | apply hP.fwMark | apply hP.fwStandby
    | apply hP.svnFuses | apply Closed.fwMark_fwStandby hP | apply Closed.fwMark_svnFuses hP
    | apply Closed.fwStandby_svnFuses hP | apply Closed.fwMark_fwStandby_svnFuses hP

theorem execFwErase_closed {P : State → Prop} {s : State} (hP : Closed 0x33c0000000000000000000000010000000000000000000000000000000000000000000000000000000 P) (h : P s) :
 SatR P (execFwErase s) := by
  unfold execFwErase
  repeat' with_reducible first
    | assumption | exact hP.mono (by decide +kernel) | apply State.flashErase_closed
    | apply State.securityAnswer_closed | apply SatR.next | apply SatR.fault | apply SatR.refused | decide +kernel
    | split | apply hP.fwErasing | apply hP.fwMark | apply hP.fwOwn | apply hP.fwStandby
    | apply Closed.fwErasing_fwMark hP | apply Closed.fwErasing_fwOwn hP | apply Closed.fwErasing_fwStandby hP
    | apply Closed.fwMark_fwOwn hP | apply Closed.fwMark_fwStandby hP | apply Closed.fwOwn_fwStandby hP
    | apply Closed.fwErasing_fwMark_fwOwn hP | apply Closed.fwErasing_fwMark_fwStandby hP
    | apply Closed.fwErasing_fwOwn_fwStandby hP | apply Closed.fwMark_fwOwn_fwStandby hP
    | apply Closed.fwErasing_fwMark_fwOwn_fwStandby hP

theorem execFwEraseDone_closed {P : State → Prop} {s : State} (hP : Closed 0x240000000000000000000000010000000000000000000000000000000000000000000000000000000 P) (h : P s) :
 SatR P (execFwEraseDone s) := by
  unfold execFwEraseDone
  repeat' with_reducible first
    | assumption | exact hP.mono (by decide +kernel) | apply State.securityAnswer_closed | apply SatR.next
    | apply SatR.fault | apply SatR.refused | decide +kernel | split | apply hP.fwErasing | apply hP.fwStandby
    | apply Closed.fwErasing_fwStandby hP

theorem execFwVerify_closed {P : State → Prop} {s : State} (hP : Closed 0x40000000000000000000000010000000000000000000000000000000000000000000000000000000 P) (h : P s) :
 SatR P (execFwVerify s) := by
  unfold execFwVerify
  repeat' with_reducible first
    | assumption | exact hP.mono (by decide +kernel) | apply State.securityAnswer_closed | apply SatR.next
    | apply SatR.fault | apply SatR.refused | decide +kernel | split | apply hP.fwStandby

theorem execFwActivate_closed {P : State → Prop} {s : State} (hP : Closed 0x80000000000000000000000010000000000000000000000000000000000000000000000000000000 P) (h : P s) :
 SatR P (execFwActivate s) := by
  unfold execFwActivate
  repeat' with_reducible first
    | assumption | exact hP.mono (by decide +kernel) | apply State.securityAnswer_closed | apply SatR.next
    | apply SatR.fault | apply SatR.refused | decide +kernel | split | apply hP.fwMark

theorem execExtendMr_closed {P : State → Prop} {s : State} (hP : Closed 0x400000000000000000000000000000000000000000000000000000000 P) (h : P s) (i : Nat) (digest : Nat) :
 SatR P (execExtendMr i digest s) := by
  unfold execExtendMr
  repeat' with_reducible first
    | assumption | exact hP.mono (by decide +kernel) | apply State.extend_closed | apply SatR.next
    | apply SatR.fault | apply SatR.refused | decide +kernel | split

theorem execAttest_closed {P : State → Prop} {s : State} (hP : Closed 0x200000000000000000000000000000000000000000000000000000000 P) (h : P s) :
 SatR P (execAttest s) := by
  unfold execAttest
  repeat' with_reducible first
    | assumption | exact hP.mono (by decide +kernel) | apply State.wr_closed | apply SatR.next | apply SatR.fault
    | apply SatR.refused | decide +kernel | split

end Sys2Proof.Laws
end

