-- ==== Sys2Proof/Laws/ClosedPhysical.lean ====
section
/-! SUPPORT. The operations of Physical.lean keep every property that the writes of their footprint keep. -/

namespace Sys2Proof.Laws

set_option Elab.async false
set_option linter.all false

open Sys2Proof.Machine

theorem execSidebandUpdate_closed {P : State → Prop} {s : State} (hP : Closed 0x1002000000000000000000000000000000900000000000000000000000000000000000000000000000000000 P) (h : P s) (status : Nat) (temps : List Nat) :
 SatR P (execSidebandUpdate status temps s) := by
  unfold execSidebandUpdate
  repeat' with_reducible first
    | assumption | intro _ | exact hP.mono (by decide +kernel) | apply State.wr_closed | apply SatR.next
    | apply SatR.fault | apply SatR.refused | apply ite_sat | apply foldl_sat | apply foldUp_sat | decide +kernel
    | refine SatR.of_eq ?_ (by assumption) | split | apply hP.sideband | apply hP.sidebandAt
    | apply Closed.sideband_sidebandAt hP

theorem execSmbusBlockRead_closed {P : State → Prop} {s : State} (hP : Closed 0x40000000000000000000000000000000000000000000000000000000000000000 P) (h : P s) (addr : Nat) (ga : Nat) (code : Nat) (write : Bool) (pec : Bool) :
 SatR P (execSmbusBlockRead addr ga code write pec s) := by
  unfold execSmbusBlockRead
  repeat' with_reducible first
    | assumption | exact hP.mono (by decide +kernel) | apply State.send_closed | apply SatR.next | apply SatR.fault
    | apply SatR.refused | decide +kernel | split

theorem execOsfpInsert_closed {P : State → Prop} {s : State} (hP : Closed 0x800000000000000000000000000000000000000000 P) (h : P s) (hp : Nat) (medium : Nat) (watts : Nat) :
 SatR P (execOsfpInsert hp medium watts s) := by
  unfold execOsfpInsert
  repeat' with_reducible first
    | assumption | exact hP.mono (by decide +kernel) | apply State.wr_closed | apply SatR.next | apply SatR.fault
    | apply SatR.refused | decide +kernel | split

theorem execOsfpRemove_closed {P : State → Prop} {s : State} (hP : Closed 0x800000000000000000000000000000000000000000 P) (h : P s) (hp : Nat) :
 SatR P (execOsfpRemove hp s) := by
  unfold execOsfpRemove
  repeat' with_reducible first
    | assumption | exact hP.mono (by decide +kernel) | apply State.wr_closed | apply SatR.next | apply SatR.fault
    | apply SatR.refused | decide +kernel | split

theorem execHostPortUp_closed {P : State → Prop} {s : State} (hP : Closed 0x800000000000000000000000000000000000000000 P) (h : P s) (hp : Nat) :
 SatR P (execHostPortUp hp s) := by
  unfold execHostPortUp
  repeat' with_reducible first
    | assumption | exact hP.mono (by decide +kernel) | apply State.wr_closed | apply SatR.next | apply SatR.fault
    | apply SatR.refused | decide +kernel | split

theorem execHostPortDown_closed {P : State → Prop} {s : State} (hP : Closed 0x800000000000000000000000000000000000000000 P) (h : P s) (hp : Nat) :
 SatR P (execHostPortDown hp s) := by
  unfold execHostPortDown
  repeat' with_reducible first
    | assumption | exact hP.mono (by decide +kernel) | apply State.wr_closed | apply SatR.next | apply SatR.fault
    | apply SatR.refused | decide +kernel | split

end Sys2Proof.Laws
end

