-- ==== Sys2Proof/Laws/ClosedRake.lean ====
section
/-! SUPPORT. The operations of Rake.lean keep every property that the writes of their footprint keep. -/

namespace Sys2Proof.Laws

set_option Elab.async false
set_option linter.all false

open Sys2Proof.Machine

theorem execRkeServiceStart_closed {P : State → Prop} {s : State} (hP : Closed 0x1c00000001e1c1986386a070000001000000800000104001000000000221c81800a900000040ec000001c00 P) (h : P s) (engine : Nat) (ecc : Ecc) :
 SatR P (execRkeServiceStart engine ecc s) := by
  unfold execRkeServiceStart
  repeat' first
    | with_reducible assumption
    | intro _
    | exact hP.mono (by decide +kernel)
    | with_reducible apply State.setRke_closed
    | with_reducible apply eccRanges_closed
    | with_reducible apply Sat2.snd
    | with_reducible apply SatR.next
    | with_reducible apply SatR.fault
    | with_reducible apply SatR.refused
    | with_reducible apply ite_sat
    | with_reducible apply foldl_sat
    | with_reducible apply foldUp_sat
    | decide +kernel
    | with_reducible refine Sat2.of_eq ?_ (by with_reducible assumption)
    | with_reducible refine SatR.of_eq ?_ (by with_reducible assumption)
    | split
    | with_reducible apply Sat2.pair
    | dsimp only

theorem execRkeResult_closed {P : State → Prop} {s : State} (hP : Closed 0x1c00000001e1c1986386b070000001000000800000104001000000000221c81800a900000040ec1f9605c00 P) (h : P s) (engine : Nat) (ecc : Ecc) :
 SatR P (execRkeResult engine ecc s) := by
  unfold execRkeResult
  repeat' first
    | with_reducible assumption
    | intro _
    | exact hP.mono (by decide +kernel)
    | with_reducible apply State.post_closed
    | with_reducible apply State.incSat_closed
    | with_reducible apply State.applyEffects_closed
    | with_reducible apply State.setRke_closed
    | with_reducible apply State.writeSlot_closed
    | with_reducible apply State.setCore_closed
    | with_reducible apply Sat2.snd
    | with_reducible apply SatR.next
    | with_reducible apply SatR.fault
    | with_reducible apply SatR.refused
    | with_reducible apply ite_sat
    | with_reducible apply foldl_sat
    | with_reducible apply foldUp_sat
    | decide +kernel
    | with_reducible refine Sat2.of_eq ?_ (by with_reducible assumption)
    | with_reducible refine SatR.of_eq ?_ (by with_reducible assumption)
    | split
    | with_reducible apply Sat2.pair
    | dsimp only

theorem execRakeTotalClear_closed {P : State → Prop} {s : State} (hP : Closed 0x3e0000000 P) (h : P s) (value : Nat) :
 SatR P (execRakeTotalClear value s) := by
  unfold execRakeTotalClear
  repeat' with_reducible first
    | assumption | exact hP.mono (by decide +kernel) | apply State.wr_closed | apply State.clearObj_closed
    | apply SatR.next | apply SatR.fault | apply SatR.refused | decide +kernel | split

end Sys2Proof.Laws
end

