-- ==== Sys2Proof/Laws/ClosedCdp.lean ====
section
/-! SUPPORT. The operations of Cdp.lean keep every property that the writes of their footprint keep. -/

namespace Sys2Proof.Laws

set_option Elab.async false
set_option linter.all false

open Sys2Proof.Machine

/-- The property of the state in a result of type CdpAnswer. -/
structure SatCdp (P : State → Prop) (r : CdpAnswer) : Prop where
  state : P r.state
theorem SatCdp.pair {P : State → Prop} {a b c} {t : State} (h : P t) : SatCdp P ⟨a, b, c, t⟩ := ⟨h⟩
theorem SatCdp.of_eq {P : State → Prop} {r : CdpAnswer} {a b c} {t : State} (h : SatCdp P r) (e : r = ⟨a, b, c, t⟩) : P t := by subst e; exact h.state

/-- The property over the operation of a pair. -/
structure SatF2 {α : Type} (P : State → Prop) (r : α × Option (State → Res)) : Prop where
  snd : SatF P r.2
theorem SatF2.pair {α : Type} {P : State → Prop} {a : α} {f : Option (State → Res)} (h : SatF P f) : SatF2 P (a, f) := ⟨h⟩

theorem State.cdpSend_closed {P : State → Prop} {s : State} (hP : Closed 0x40000000000000000000000000000000000000000000000000000000000000000 P) (h : P s) (s0 : State) (m : CdpMsg) (key : Option Nat) (bs : List Byte) :
 P (State.cdpSend s s0 m key bs) := by
  unfold State.cdpSend
  repeat' with_reducible first
    | assumption | exact hP.mono (by decide +kernel) | apply State.send_closed | decide +kernel | split

theorem State.writeObject_closed {P : State → Prop} {s : State} (hP : Closed 0x800c000000100c64000005ffffffffffffffffffffffffffffffffffffffffffffffffffffffffffffffff P) (h : P s) (o : ObjInfo) (idx : Nat) (off : Nat) (bs : List Byte) :
 Sat2 P (State.writeObject s o idx off bs) := by
  unfold State.writeObject
  repeat' with_reducible first
    | assumption | exact hP.mono (by decide +kernel) | apply State.writePieces_closed | apply Sat2.snd
    | exact Foot.obj_of_all (by decide +kernel) _ | decide +kernel | split | apply Sat2.pair

theorem State.cmdAction_closed {P : State → Prop} {s : State} (hP : Closed 0x3e00c00001e7f7b863f7f070000001400000a000001160013ad89cbc4621ef580eaddd206850efbe3e1fc00 P) (h : P s) (c : ObjCode) (v : Nat) (e : Ecc) :
 SatF P (State.cmdAction s c v e) := by
  unfold State.cmdAction
  repeat' with_reducible first
    | assumption | intro _ | exact hP.mono (by decide +kernel) | apply execGroupDestroy_closed
    | apply execElsCancel_closed | apply execRetrain_closed | apply execProgramLoad_closed
    | apply execGuardDeactivate_closed | apply execDimmReturn_closed | apply execProgramClear_closed
    | apply execFlowCreate_closed | apply execElsRemove_closed | apply execDimmDrain_closed
    | apply execForceUnbind_closed | apply execCoreStop_closed | apply execGroupSetup_closed
    | apply execGroupResume_closed | apply execFlowDelete_closed | apply execBind_closed
    | apply execDrainCancel_closed | apply execBitmapClear_closed | apply execDimmPowerOn_closed
    | apply execGuardActivate_closed | apply execRakeTotalClear_closed | apply execStreamReset_closed
    | apply execRouteCommit_closed | apply execDimmPowerOff_closed | apply execUnbind_closed
    | apply execScratchNow_closed | apply execCoreLaunch_closed | apply execTotalClear_closed
    | apply execPortSelftest_closed | apply execRecalNow_closed | apply execPortEnable_closed
    | apply execPortDisable_closed | apply SatF.some | apply SatF.none | apply SatR.next | apply SatR.fault
    | apply SatR.refused | apply ite_sat | apply foldl_sat | apply foldUp_sat | decide +kernel
    | refine SatR.of_eq ?_ (by assumption) | split

theorem cmdActionTwo_closed {P : State → Prop} (hP : Closed 0x1c00e3fef3fdfdde63f6f17ffffffffffffffffffffffffffffffffffffffffffffffffffffffffffffffff P) (c : ObjCode) (v : Nat) (owner : Bool) (reachable : Bool) (fed : Nat) (e : Ecc) :
 SatF P (cmdActionTwo c v owner reachable fed e) := by
  unfold cmdActionTwo
  repeat' with_reducible first
    | assumption | intro _ | exact hP.mono (by decide +kernel) | apply execCvuFinish_closed
    | apply execFwErase_closed | apply execOwnerQuery_closed | apply execPoolInit_closed
    | apply execCvuResume_closed | apply execScanCancel_closed | apply execFeed_closed
    | apply execPoolDisable_closed | apply execQpConnect_closed | apply execRollbackCommit_closed
    | apply execPowerRun_closed | apply execUnitResetHostPort_closed | apply execCvuStart_closed
    | apply execBpmFree_closed | apply execScanSubmit_closed | apply execCommission_closed
    | apply execTakeManager_closed | apply execSpareReady_closed | apply execUnitResetCore_closed
    | apply execBpmAllocLow_closed | apply execFwActivate_closed | apply execQpReset_closed
    | apply execMarshalScratch_closed | apply execRingStop_closed | apply execNvActivate_closed
    | apply execPowerHold_closed | apply execKeysCmd_closed | apply execBpmAllocHigh_closed
    | apply execSvnCommit_closed | apply execPowerDeepRest_closed | apply execFwVerify_closed
    | apply execRingStart_closed | apply execUnitResetCvu_closed | apply execNvVerify_closed
    | apply execNvBankErase_closed | apply execBpmHandover_closed | apply execUnitResetSu_closed
    | apply execStageCancel_closed | apply execMarshalAdmit_closed | apply execAttest_closed
    | apply execStageRemove_closed | apply execDecommission_closed | apply execCvuCancel_closed
    | apply execWarmReset_closed | apply execCvuSuspend_closed | apply execPowerRest_closed | apply SatF.some
    | apply SatF.none | apply SatR.next | apply SatR.fault | apply SatR.refused
    | exact Foot.obj_of_all (by decide +kernel) _ | apply ite_sat | apply foldl_sat | apply foldUp_sat
    | decide +kernel | refine SatR.of_eq ?_ (by assumption) | split

theorem State.writeCmd_closed {P : State → Prop} {s : State} (hP : Closed 0x3e00e3fef3fffffe63f7f17ffffffffffffffffffffffffffffffffffffffffffffffffffffffffffffffff P) (h : P s) (o : ObjInfo) (idx : Nat) (off : Nat) (bs : List Byte) (owner : Bool) (reachable : Bool) (fed : Nat) (ecc : Ecc) :
 SatF2 P (State.writeCmd s o idx off bs owner reachable fed ecc) := by
  unfold State.writeCmd
  refine ite_sat (SatF2.pair SatF.none) (ite_sat (SatF2.pair SatF.none) (ite_sat (SatF2.pair SatF.none)
    (ite_sat (SatF2.pair SatF.none) ?_)))
  have h1 := State.cmdAction_closed (hP.mono (by decide +kernel)) h o.code (leCode bs.reverse) ecc
  have h2 := cmdActionTwo_closed (hP.mono (by decide +kernel)) o.code (leCode bs.reverse) owner reachable fed ecc
  split
  · next f e =>
    refine SatF2.pair (SatF.some fun t ht => ?_)
    cases hq : s.cmdAction o.code (leCode bs.reverse) ecc with
    | none => rw [hq, Option.none_or] at e; exact h2.out f e t ht
    | some g => rw [hq, Option.some_or] at e; exact h1.out f (hq.trans e) t ht
  · exact SatF2.pair SatF.none

theorem execRegisterWrite_closed {P : State → Prop} {s : State} (hP : Closed 0x800c000000100c64000005ffffffffffffffffffffffffffffffffffffffffffffffffffffffffffffffff P) (h : P s) (obj : Nat) (index : Nat) (offset : Nat) (data : List Byte) :
 SatR P (execRegisterWrite obj index offset data s) := by
  unfold execRegisterWrite
  repeat' with_reducible first
    | assumption | exact hP.mono (by decide +kernel) | apply State.writeObject_closed | apply State.send_closed
    | apply Sat2.snd | apply SatR.next | apply SatR.fault | apply SatR.refused
    | exact Foot.obj_of_all (by decide +kernel) _ | decide +kernel | split | apply Sat2.pair

theorem State.nvSet_closed {P : State → Prop} {s : State} (hP : Closed 0x6000000000000000000000000020000000000000000000000000000000000000000000000000000000 P) (h : P s) (c : ObjCode) (idx : Nat) (off : Nat) (bs : List Byte) :
 Sat2 P (State.nvSet s c idx off bs) := by
  unfold State.nvSet
  repeat' with_reducible first
    | assumption | exact hP.mono (by decide +kernel) | apply State.journalAppend_closed | apply Sat2.snd
    | decide +kernel | split | apply Sat2.pair

theorem State.nvUnset_closed {P : State → Prop} {s : State} (hP : Closed 0x6000000000000000000000000020000000000000000000000000000000000000000000000000000000 P) (h : P s) (c : ObjCode) (idx : Nat) (off : Nat) (len : Nat) :
 Sat2 P (State.nvUnset s c idx off len) := by
  unfold State.nvUnset
  repeat' with_reducible first
    | assumption | exact hP.mono (by decide +kernel) | apply State.journalAppend_closed | apply Sat2.snd
    | decide +kernel | split | apply Sat2.pair

theorem State.imageWrite_closed {P : State → Prop} {s : State} (hP : Closed 0x38c0000000000000000000000020000000000000000000000000000000000000000000000000000000 P) (h : P s) (offset : Nat) (bs : List Byte) :
 Sat2 P (State.imageWrite s offset bs) := by
  unfold State.imageWrite
  repeat' with_reducible first
    | assumption | exact hP.mono (by decide +kernel) | apply State.flashWrite_closed | apply State.wrFld_closed
    | apply Sat2.snd | decide +kernel | split | apply Sat2.pair | apply hP.fwMark | apply hP.fwStandby
    | apply hP.imageWritten | apply hP.nvMark | apply Closed.fwMark_fwStandby hP
    | apply Closed.fwMark_imageWritten hP | apply Closed.fwMark_nvMark hP | apply Closed.fwStandby_imageWritten hP
    | apply Closed.fwStandby_nvMark hP | apply Closed.imageWritten_nvMark hP
    | apply Closed.fwMark_fwStandby_imageWritten hP | apply Closed.fwMark_fwStandby_nvMark hP
    | apply Closed.fwMark_imageWritten_nvMark hP | apply Closed.fwStandby_imageWritten_nvMark hP
    | apply Closed.fwMark_fwStandby_imageWritten_nvMark hP

theorem State.setSession_closed {P : State → Prop} {s : State} (hP : Closed 0x8000000000000000000000000000000000000000000000000000000000000000000000000000000000 P) (h : P s) (k : Nat) (x : Option Session) :
 P (State.setSession s k x) := by
  unfold State.setSession
  repeat' with_reducible first
    | assumption | exact hP.mono (by decide +kernel) | decide +kernel | split | apply hP.sessions

theorem State.setSource_closed {P : State → Prop} {s : State} (hP : Closed 0x10000000000000000000000000000000000000000000000000000000000000000000000000000000000 P) (h : P s) (x : CdpSource) :
 P (State.setSource s x) := by
  unfold State.setSource
  repeat' with_reducible first
    | assumption | exact hP.mono (by decide +kernel) | decide +kernel | split | apply hP.sources

theorem State.cacheReply_closed {P : State → Prop} {s : State} (hP : Closed 0x18000000000000000000000000000000000000000000000000000000000000000000000000000000000 P) (h : P s) (m : CdpMsg) (bs : List Byte) :
 P (State.cacheReply s m bs) := by
  unfold State.cacheReply
  repeat' with_reducible first
    | assumption | exact hP.mono (by decide +kernel) | apply State.setSource_closed | apply State.setSession_closed
    | decide +kernel | split

theorem State.sessionOpen_closed {P : State → Prop} {s : State} (hP : Closed 0x8000000000000000020000000000000000000000000000000000000000000000000000000000000000 P) (h : P s) (m : CdpMsg) :
 Sat4 P (State.sessionOpen s m) := by
  unfold State.sessionOpen
  repeat' with_reducible first
    | assumption | exact hP.mono (by decide +kernel) | apply State.setSession_closed | apply State.drawn_closed
    | apply Sat4.proj | decide +kernel | split | apply Sat4.pair

theorem State.cdpPerform_closed {P : State → Prop} {s : State} (hP : Closed 0xf8c0000000000000020000000020000000000000000000000000000000000000000000000000000000 P) (h : P s) (m : CdpMsg) :
 SatCdp P (State.cdpPerform s m) := by
  unfold State.cdpPerform
  refine ite_sat (SatCdp.pair h) (ite_sat ?_ (ite_sat ?_ (ite_sat ?_ (ite_sat ?_ (ite_sat ?_ (ite_sat ?_ ?_))))))
  · split
    · exact ite_sat (SatCdp.pair (State.drawn_closed (hP.mono (by decide +kernel)) h)) (SatCdp.pair h)
    · exact SatCdp.pair h
  · split
    · exact ite_sat (SatCdp.pair h) (SatCdp.pair h)
    · exact SatCdp.pair h
  · exact SatCdp.pair (State.nvSet_closed (hP.mono (by decide +kernel)) h _ _ _ _).snd
  · exact SatCdp.pair (State.nvUnset_closed (hP.mono (by decide +kernel)) h _ _ _ _).snd
  · exact ite_sat (SatCdp.pair h) (SatCdp.pair (State.sessionOpen_closed (hP.mono (by decide +kernel)) h _).proj)
  · exact SatCdp.pair (State.setSession_closed (hP.mono (by decide +kernel)) h _ _)
  · exact SatCdp.pair (State.imageWrite_closed (hP.mono (by decide +kernel)) h _ _).snd

theorem State.cdpAnswer_closed {P : State → Prop} {s0 : State} (hP : Closed 0x18000000000000000040000000000000000000000000000000000000000000000000000000000000000 P) (m : CdpMsg) (key : Option Nat) (a : CdpAnswer) (h : P a.state) :
 P (State.cdpAnswer s0 m key a) :=
  State.cdpSend_closed (hP.mono (by decide +kernel)) (State.cacheReply_closed (hP.mono (by decide +kernel)) h _ _) _ _ _ _

theorem State.cdpRefuse_closed {P : State → Prop} {s : State} (hP : Closed 0x40000000000000000000000000000000000000000000000000000000000000000 P) (h : P s) (m : CdpMsg) (key : Option Nat) (status : Nat) :
 P (State.cdpRefuse s m key status) := by
  unfold State.cdpRefuse
  repeat' with_reducible first
    | assumption | exact hP.mono (by decide +kernel) | apply State.cdpSend_closed | decide +kernel | split

theorem State.cdpCount_closed {P : State → Prop} {s : State} (hP : Closed 0x20000000000000000002000000000000000000000000000000000000000000000 P) (h : P s) (k : Nat) :
 P (State.cdpCount s k) := by
  unfold State.cdpCount
  repeat' with_reducible first
    | assumption | exact hP.mono (by decide +kernel) | apply State.inc_closed | decide +kernel | split

theorem State.cdpPerformWrite_closed {P : State → Prop} {s : State} (hP : Closed 0x3e00fbfef3fffffe63f7f17ffffffffffffffffffffffffffffffffffffffffffffffffffffffffffffffff P) (h : P s) (m : CdpMsg) (key : Option Nat) (owner : Bool) (reachable : Bool) (fed : Nat) (ecc : Ecc) :
 SatR P (State.cdpPerformWrite s m key owner reachable fed ecc) := by
  have ha (r : Nat) (t : State) (ht : P t) : P (s.cdpAnswer m key ⟨r, m.session, [], t⟩) :=
    State.cdpAnswer_closed (hP.mono (by decide +kernel)) m key _ ht
  unfold State.cdpPerformWrite
  dsimp only
  split
  · exact SatR.next (ha _ _ h)
  · next o e =>
    refine ite_sat (SatR.next (ha _ _ h)) (ite_sat ?_ (SatR.next (ha _ _ (State.writeObject_closed (hP.mono (by decide +kernel)) h _ _ _ _).snd)))
    have hw := State.writeCmd_closed (hP.mono (by decide +kernel)) h o m.index m.offset m.payload owner reachable fed ecc
    split
    · exact SatR.next (ha _ _ h)
    · next f ef =>
      have hf := hw.snd.out f ef s h
      split
      · next t et => exact SatR.next (ha _ _ (hf.of_eq et))
      · exact SatR.fault
      · exact SatR.refused

theorem State.cdpBySeq_closed {P : State → Prop} {s : State} {perform : State → Res} (hP : Closed 0x60000000000000000002000000000000000000000000000000000000000000000 P) (hperform : ∀ s, P s → SatR P (perform s)) (h : P s) (m : CdpMsg) (key : Option Nat) (high : Option Nat) (cache : List (Nat × List Byte)) :
 SatR P (State.cdpBySeq s m key high cache perform) := by
  unfold State.cdpBySeq
  repeat' with_reducible first
    | assumption | intro _ | exact hP.mono (by decide +kernel) | apply hperform | apply State.cdpRefuse_closed
    | apply State.cdpSend_closed | apply State.cdpCount_closed | apply SatR.next | apply SatR.fault
    | apply SatR.refused | apply ite_sat | apply foldl_sat | apply foldUp_sat | decide +kernel
    | refine SatR.of_eq ?_ (by assumption) | split

theorem State.cdpSessionless_closed {P : State → Prop} {s : State} {perform : State → Res} (hP : Closed 0x18000000000000000060000000000000000002000000000000000000000000000000000000000000000 P) (hperform : ∀ s, P s → SatR P (perform s)) (h : P s) (m : CdpMsg) :
 SatR P (State.cdpSessionless s m perform) := by
  unfold State.cdpSessionless
  repeat' with_reducible first
    | assumption | intro _ | exact hP.mono (by decide +kernel) | apply hperform | apply State.setSource_closed
    | apply State.cdpAnswer_closed | apply State.cdpCount_closed | apply State.cdpBySeq_closed | apply SatR.next
    | apply SatR.fault | apply SatR.refused | apply ite_sat | apply foldl_sat | apply foldUp_sat | decide +kernel
    | refine SatR.of_eq ?_ (by assumption) | split

theorem State.cdpInSession_closed {P : State → Prop} {s : State} {perform : State → Res} (hP : Closed 0x18000000000000000060000000000000000002000000000000000000000000000000000000000000000 P) (hperform : ∀ s, P s → SatR P (perform s)) (h : P s) (m : CdpMsg) (x : Session) :
 SatR P (State.cdpInSession s m x perform) := by
  unfold State.cdpInSession
  repeat' with_reducible first
    | assumption | intro _ | exact hP.mono (by decide +kernel) | apply hperform | apply State.setSession_closed
    | apply State.cdpAnswer_closed | apply State.cdpCount_closed | apply State.cdpBySeq_closed | apply SatR.next
    | apply SatR.fault | apply SatR.refused | apply ite_sat | apply foldl_sat | apply foldUp_sat | decide +kernel
    | refine SatR.of_eq ?_ (by assumption) | split

theorem State.cdpRequest_closed {P : State → Prop} {s : State} {perform : State → Res} (hP : Closed 0x18000000000000000060000000000000000002000000000000000000000000000000000000000000000 P) (hperform : ∀ s, P s → SatR P (perform s)) (h : P s) (m : CdpMsg) :
 SatR P (State.cdpRequest s m perform) := by
  unfold State.cdpRequest
  repeat' with_reducible first
    | assumption | exact hP.mono (by decide +kernel) | apply hperform | apply State.cdpRefuse_closed
    | apply State.cdpSend_closed | apply State.cdpSessionless_closed | apply State.cdpInSession_closed
    | apply State.cdpCount_closed | apply SatR.next | apply SatR.fault | apply SatR.refused | decide +kernel | split

theorem State.cdpOther_closed {P : State → Prop} {s : State} (hP : Closed 0x1f8c0000000000000060000000020000000002000000000000000000000000000000000000000000000 P) (h : P s) (op : Nat) (m : CdpMsg) :
 SatR P (State.cdpOther s op m) := by
  unfold State.cdpOther
  repeat' with_reducible first
    | assumption | intro _ | exact hP.mono (by decide +kernel) | apply State.cdpAnswer_closed
    | apply State.cdpPerform_closed | apply State.cdpRequest_closed | apply SatCdp.state | apply SatR.next
    | apply SatR.fault | apply SatR.refused | apply ite_sat | apply foldl_sat | apply foldUp_sat | decide +kernel
    | refine SatR.of_eq ?_ (by assumption) | split | apply SatCdp.pair

theorem execCdpRead_closed {P : State → Prop} {s : State} (hP : Closed 0x1f8c0000000000000060000000020000000002000000000000000000000000000000000000000000000 P) (h : P s) (m : CdpMsg) :
 SatR P (execCdpRead m s) := by
  unfold execCdpRead
  repeat' with_reducible first
    | assumption | exact hP.mono (by decide +kernel) | apply State.cdpOther_closed | apply State.cdpRequest_closed
    | apply SatR.next | apply SatR.fault | apply SatR.refused | decide +kernel | split

theorem execCdpWrite_closed {P : State → Prop} {s : State} (hP : Closed 0x3e00fbfef3fffffe63f7f17ffffffffffffffffffffffffffffffffffffffffffffffffffffffffffffffff P) (h : P s) (m : CdpMsg) (fed : Nat) (reachable : Bool) (e : Ecc) :
 SatR P (execCdpWrite m fed reachable e s) := by
  unfold execCdpWrite
  repeat' first
    | with_reducible assumption
    | intro _
    | exact hP.mono (by decide +kernel)
    | with_reducible apply State.cdpPerformWrite_closed
    | with_reducible apply State.cdpRequest_closed
    | with_reducible apply SatR.next
    | with_reducible apply SatR.fault
    | with_reducible apply SatR.refused
    | exact Foot.obj_of_all (by decide +kernel) _
    | with_reducible apply ite_sat
    | with_reducible apply foldl_sat
    | with_reducible apply foldUp_sat
    | decide +kernel
    | with_reducible refine SatR.of_eq ?_ (by with_reducible assumption)
    | split
    | dsimp only

theorem execDescribe_closed {P : State → Prop} {s : State} (hP : Closed 0x1f8c0000000000000060000000020000000002000000000000000000000000000000000000000000000 P) (h : P s) (m : CdpMsg) :
 SatR P (execDescribe m s) := by
  unfold execDescribe
  repeat' with_reducible first
    | assumption | exact hP.mono (by decide +kernel) | apply State.cdpOther_closed | apply SatR.next
    | apply SatR.fault | apply SatR.refused | decide +kernel | split

theorem execCdpNext_closed {P : State → Prop} {s : State} (hP : Closed 0x1f8c0000000000000060000000020000000002000000000000000000000000000000000000000000000 P) (h : P s) (m : CdpMsg) :
 SatR P (execCdpNext m s) := by
  unfold execCdpNext
  repeat' with_reducible first
    | assumption | exact hP.mono (by decide +kernel) | apply State.cdpOther_closed | apply SatR.next
    | apply SatR.fault | apply SatR.refused | decide +kernel | split

theorem execNvWrite_closed {P : State → Prop} {s : State} (hP : Closed 0x1f8c0000000000000060000000020000000002000000000000000000000000000000000000000000000 P) (h : P s) (m : CdpMsg) :
 SatR P (execNvWrite m s) := by
  unfold execNvWrite
  repeat' with_reducible first
    | assumption | exact hP.mono (by decide +kernel) | apply State.cdpOther_closed | apply SatR.next
    | apply SatR.fault | apply SatR.refused | decide +kernel | split

theorem execNvErase_closed {P : State → Prop} {s : State} (hP : Closed 0x1f8c0000000000000060000000020000000002000000000000000000000000000000000000000000000 P) (h : P s) (m : CdpMsg) :
 SatR P (execNvErase m s) := by
  unfold execNvErase
  repeat' with_reducible first
    | assumption | exact hP.mono (by decide +kernel) | apply State.cdpOther_closed | apply SatR.next
    | apply SatR.fault | apply SatR.refused | decide +kernel | split

theorem execSessionOpen_closed {P : State → Prop} {s : State} (hP : Closed 0x1f8c0000000000000060000000020000000002000000000000000000000000000000000000000000000 P) (h : P s) (m : CdpMsg) :
 SatR P (execSessionOpen m s) := by
  unfold execSessionOpen
  repeat' with_reducible first
    | assumption | exact hP.mono (by decide +kernel) | apply State.cdpOther_closed | apply SatR.next
    | apply SatR.fault | apply SatR.refused | decide +kernel | split

theorem execSessionClose_closed {P : State → Prop} {s : State} (hP : Closed 0x1f8c0000000000000060000000020000000002000000000000000000000000000000000000000000000 P) (h : P s) (m : CdpMsg) :
 SatR P (execSessionClose m s) := by
  unfold execSessionClose
  repeat' with_reducible first
    | assumption | exact hP.mono (by decide +kernel) | apply State.cdpOther_closed | apply SatR.next
    | apply SatR.fault | apply SatR.refused | decide +kernel | split

theorem execImageWrite_closed {P : State → Prop} {s : State} (hP : Closed 0x1f8c0000000000000060000000020000000002000000000000000000000000000000000000000000000 P) (h : P s) (m : CdpMsg) :
 SatR P (execImageWrite m s) := by
  unfold execImageWrite
  repeat' with_reducible first
    | assumption | exact hP.mono (by decide +kernel) | apply State.cdpOther_closed | apply SatR.next
    | apply SatR.fault | apply SatR.refused | decide +kernel | split

theorem execSessionFinish_closed {P : State → Prop} {s : State} (hP : Closed 0x18000000000000000060000000000000000002000000000000000000000000000000000000000000000 P) (h : P s) (m : CdpMsg) :
 SatR P (execSessionFinish m s) := by
  unfold execSessionFinish
  repeat' with_reducible first
    | assumption | intro _ | exact hP.mono (by decide +kernel) | apply State.setSession_closed
    | apply State.cdpRefuse_closed | apply State.cdpSend_closed | apply State.cdpCount_closed
    | apply State.cdpRequest_closed | apply SatR.next | apply SatR.fault | apply SatR.refused | apply ite_sat
    | apply foldl_sat | apply foldUp_sat | decide +kernel | refine SatR.of_eq ?_ (by assumption) | split

theorem execCdpIdleExpiry_closed {P : State → Prop} {s : State} (hP : Closed 0x8000000000000000000000000000000000000000000000000000000000000000000000000000000000 P) (h : P s) (session : Nat) :
 SatR P (execCdpIdleExpiry session s) := by
  unfold execCdpIdleExpiry
  repeat' with_reducible first
    | assumption | exact hP.mono (by decide +kernel) | apply State.setSession_closed | apply SatR.next
    | apply SatR.fault | apply SatR.refused | decide +kernel | split

theorem execSessionFinishTimeout_closed {P : State → Prop} {s : State} (hP : Closed 0x8000000000000000000000000000000000000000000000000000000000000000000000000000000000 P) (h : P s) (session : Nat) :
 SatR P (execSessionFinishTimeout session s) := by
  unfold execSessionFinishTimeout
  repeat' with_reducible first
    | assumption | exact hP.mono (by decide +kernel) | apply State.setSession_closed | apply SatR.next
    | apply SatR.fault | apply SatR.refused | decide +kernel | split

end Sys2Proof.Laws
end

