-- ==== Sys2Proof/Laws/ClosedDispatch.lean ====
section
/-! SUPPORT. The operations of Dispatch.lean keep every property that the writes of their footprint keep. -/

namespace Sys2Proof.Laws

set_option Elab.async false
set_option linter.all false

open Sys2Proof.Machine

theorem exec_closed {P : State → Prop} {s : State} (hP : Closed 0x1fffffffffffffffffffff17ffffffffffffffffffffffffffffffffffffffffffffffffffffffffffffffff P) (h : P s) (i : Instr) :
 SatR P (exec i s) := by
  unfold exec
  repeat' with_reducible first
    | assumption | exact hP.mono (by decide +kernel) | apply execElsPartnerFull_closed
    | apply execDeepRestPermit_closed | apply execVred_closed | apply execOput_closed | apply execPowerOn_closed
    | apply execLoopLost_closed | apply execGroupDestroy_closed | apply execCvuFinish_closed
    | apply execSelftestLoopbackDone_closed | apply execTrainingRetry_closed | apply execRdmaRead_closed
    | apply execChunkSend_closed | apply execIcacheFill_closed | apply execSessionFinishTimeout_closed
    | apply execAssignMsg_closed | apply execStageInsert_closed | apply execThermalLimit_closed
    | apply execPacedDispatch_closed | apply execElsCancel_closed | apply execClearedMsg_closed
    | apply execHelloMsg_closed | apply execFwErase_closed | apply execSidebandUpdate_closed
    | apply execEcmelHdr_closed | apply execGuardRun_closed | apply execCdpNext_closed | apply execOwnerQuery_closed
    | apply execTrainingCheckExpiry_closed | apply execPoolInit_closed | apply execCvuResume_closed
    | apply execRecalStart_closed | apply execRecalEnd_closed | apply execRetrain_closed
    | apply execAbandonAfterExpiry_closed | apply execScanCancel_closed | apply execScanJobEnd_closed
    | apply execFeed_closed | apply execLdp_closed | apply execFwEraseDone_closed | apply execPoolDisable_closed
    | apply execSignal_closed | apply execFlowEnqueue_closed | apply execQpConnect_closed | apply execPset_closed
    | apply execProgramLoad_closed | apply execTripRestart_closed | apply execRollbackCommit_closed
    | apply execGuardDeactivate_closed | apply execDimmReturn_closed | apply execReportMsg_closed
    | apply execRelayedMsg_closed | apply execFence_closed | apply execElsOutputLoss_closed | apply execBrz_closed
    | apply execPowerRun_closed | apply execDimmLatchOpen_closed | apply execStepAckMsg_closed
    | apply execRmask_closed | apply execLostMsg_closed | apply execPacedResult_closed
    | apply execUnitResetHostPort_closed | apply execRake_closed | apply execReverseConduct_closed
    | apply execCvuStart_closed | apply execRestQueryMsg_closed | apply execTripUv_closed | apply execVcmp_closed
    | apply execReplayAfterExpiry_closed | apply execLightReturns_closed | apply execRingPoolFree_closed
    | apply execProgramClear_closed | apply execFlowCreate_closed | apply execElsRemove_closed
    | apply execRerouteMsg_closed | apply execHeartbeatMiss_closed | apply execReqPdelta_closed
    | apply execColl_closed | apply execBrnz_closed | apply execDimmDrain_closed | apply execBpmFree_closed
    | apply execScanSubmit_closed | apply execCommission_closed | apply execEcmelSend_closed
    | apply execPlogic_closed | apply execTakeManager_closed | apply execForceUnbind_closed
    | apply execStageFail_closed | apply execCoreStop_closed | apply execSessionFinish_closed
    | apply execCdpRead_closed | apply execOsfpRemove_closed | apply execGroupSetup_closed
    | apply execRecalForced_closed | apply execSpareReady_closed | apply execHeartbeatMsg_closed
    | apply execSuspectMsg_closed | apply execQueueDispatch_closed | apply execMout_closed | apply execMma_closed
    | apply execUnitResetCore_closed | apply execFrameLookup_closed | apply execContribFrame_closed
    | apply execResetNRelease_closed | apply execCoreComplete_closed | apply execCopy_closed | apply execPace_closed
    | apply execPortLos_closed | apply execDrainBlockCopied_closed | apply execStartupFill_closed
    | apply execBpmAllocLow_closed | apply execPortUp_closed | apply execHelloSend_closed
    | apply execGroupResume_closed | apply execFwActivate_closed | apply execRebuiltMsg_closed
    | apply execAtom_closed | apply execFwdInbound_closed | apply execGfmac_closed | apply execDescribe_closed
    | apply execFlowDelete_closed | apply execLoopMeasure_closed | apply execRestAbortPoint_closed
    | apply execRingNop_closed | apply execQpReset_closed | apply execScanJobStart_closed
    | apply execOndieCePoll_closed | apply execGmuReply_closed | apply execTagQuarantineEnd_closed
    | apply execLap_closed | apply execBpmReserve_closed | apply execVcvt_closed | apply execReqAtomic_closed
    | apply execBind_closed | apply execCellMatch_closed | apply execMarshalScratch_closed
    | apply execGovernorUpdate_closed | apply execResultTimeout_closed | apply execDrainCancel_closed
    | apply execBitmapClear_closed | apply execOsfpInsert_closed | apply execResultAssemble_closed
    | apply execRingStop_closed | apply execInletHigh_closed | apply execResetNAssert_closed
    | apply execDimmPowerOn_closed | apply execScoreWindowEnd_closed | apply execRdmaWrite_closed
    | apply execNvActivate_closed | apply execChunkTimeout_closed | apply execEcmelNop_closed
    | apply execRestQueryRetry_closed | apply execGuardActivate_closed | apply execRestEntered_closed
    | apply execBset_closed | apply execDimmLatchClose_closed | apply execInternalFault_closed
    | apply execGuardSyncMsg_closed | apply execDirectFrame_closed | apply execRakeTotalClear_closed
    | apply execNop_closed | apply execRingLaunch_closed | apply execPowerHold_closed
    | apply execRkeServiceStart_closed | apply execEcmelEnd_closed | apply execPoolInitDone_closed
    | apply execKeysCmd_closed | apply execBpmAllocHigh_closed | apply execSvnCommit_closed | apply execStore_closed
    | apply execCdpIdleExpiry_closed | apply execLoad_closed | apply execMark_closed | apply execPadd_closed
    | apply execEcmelMerge_closed | apply execPowerDeepRest_closed | apply execStreamReset_closed
    | apply execVfunc_closed | apply execFwVerify_closed | apply execAbortFrame_closed
    | apply execFwdOutbound_closed | apply execEcmelFilt_closed | apply execRingPoll_closed
    | apply execProbeMsg_closed | apply execReqSignal_closed | apply execDoneFrame_closed
    | apply execRouteCommit_closed | apply execOvWarn_closed | apply execRingStart_closed
    | apply execFwdAgeExpiry_closed | apply execDimmPowerOff_closed | apply execDrain_closed
    | apply execReqRead_closed | apply execUnbind_closed | apply execUnitResetCvu_closed | apply execEcmelGet_closed
    | apply execNvVerify_closed | apply execScratchNow_closed | apply execFrameDeparture_closed
    | apply execEcmelDrop_closed | apply execTripOv_closed | apply execNvBankErase_closed
    | apply execCoreLaunch_closed | apply execWait_closed | apply execOhdr_closed | apply execBpmHandover_closed
    | apply execBtest_closed | apply execFeedDone_closed | apply execResultFrame_closed | apply execInputDip_closed
    | apply execRkeResult_closed | apply execEcmelAlu_closed | apply execRdmaAtomic_closed
    | apply execUnitResetSu_closed | apply execLapset_closed | apply execGuardQuiet_closed
    | apply execTotalClear_closed | apply execSuFrameDeliver_closed | apply execStrideWindowEnd_closed
    | apply execAopFloor_closed | apply execStageCancel_closed | apply execFlagset_closed
    | apply execManagerChangeMsg_closed | apply execGuardStripeRebuild_closed | apply execRelayMsg_closed
    | apply execEcmelRsum_closed | apply execSmbusBlockRead_closed | apply execStripeDemandRebuild_closed
    | apply execBoot_closed | apply execRingColl_closed | apply execNvErase_closed | apply execSqEnd_closed
    | apply execVwiden_closed | apply execRetryFrame_closed | apply execRingPower_closed | apply execReqFence_closed
    | apply execReverseBlock_closed | apply execElsLatchOpen_closed | apply execFecRate_closed
    | apply execDimmTrained_closed | apply execNvBankEraseDone_closed | apply execImageWrite_closed
    | apply execHeartbeatSend_closed | apply execMovi_closed | apply execMarshalAdmit_closed
    | apply execLinkBlockReceive_closed | apply execPortSelftest_closed | apply execPost_closed
    | apply execSuRunStart_closed | apply execOeSelftest_closed | apply execRegisterWrite_closed
    | apply execHostFrameReceive_closed | apply execTmgPick_closed | apply execReportSend_closed
    | apply execStepTimeout_closed | apply execSessionClose_closed | apply execProbeAckMsg_closed
    | apply execWakeDone_closed | apply execGuardParityReplied_closed | apply execAttest_closed
    | apply execStageRemove_closed | apply execElsRampDone_closed | apply execDecommission_closed
    | apply execSessionOpen_closed | apply execCipherKeyAgreed_closed | apply execCvuCancel_closed
    | apply execHostPortUp_closed | apply execStageSafe_closed | apply execAckTimeout_closed
    | apply execLinkReplayTimeout_closed | apply execRateRaise_closed | apply execEcmelGath_closed
    | apply execProbeRelayTimeout_closed | apply execWarmReset_closed | apply execCvuSuspend_closed
    | apply execRecalNow_closed | apply execVbmp_closed | apply execProbeFailTimeout_closed
    | apply execHostPortDown_closed | apply execElsInsert_closed | apply execMpart_closed | apply execVst_closed
    | apply execPortEnable_closed | apply execGrantFrame_closed | apply execAcknowledgement_closed
    | apply execStageLatchOpen_closed | apply execPowerRest_closed | apply execCnp_closed | apply execVld_closed
    | apply execOzero_closed | apply execReqWrite_closed | apply execElsStartDone_closed | apply execMclr_closed
    | apply execNvWrite_closed | apply execRingCompletion_closed | apply execExtendMr_closed
    | apply execMirrorOut_closed | apply execMcLookup_closed | apply execWaitLimit_closed
    | apply execReqPclose_closed | apply execCdpWrite_closed | apply execPatrolRead_closed
    | apply execPortDisable_closed | apply execVop_closed | apply execSkip_closed | apply execTrainingStart_closed
    | apply execOcopy_closed | apply execRdmaSend_closed | apply execRestAnswerMsg_closed | apply execSeta_closed
    | apply execMarshalFenceMsg_closed | apply SatR.next | apply SatR.fault | apply SatR.refused
    | exact Foot.obj_of_all (by decide +kernel) _ | decide +kernel | split

end Sys2Proof.Laws
end

