-- ==== Sys2Proof/Laws/ClosedTick.lean ====
section
/-! SUPPORT. The operations of Tick.lean keep every property that the writes of their footprint keep. -/

namespace Sys2Proof.Laws

set_option Elab.async false
set_option linter.all false

open Sys2Proof.Machine

theorem State.tickCore_closed {P : State → Prop} {s : State} (hP : Closed 0x1020000000000000000000000000000000000000000000000000000000002100000 P) (h : P s) (n : Nat) :
 P (State.tickCore n s) := by
  unfold State.tickCore
  repeat' with_reducible first
    | assumption | exact hP.mono (by decide +kernel) | apply State.runTo_closed | apply State.setCore_closed
    | decide +kernel | split

theorem State.tickRake_closed {P : State → Prop} {s : State} (hP : Closed 0x2000000000000000000000000000000000000000000000000000000000000000000 P) (h : P s) (m : Nat) :
 P (State.tickRake m s) := by
  unfold State.tickRake
  repeat' with_reducible first
    | assumption | exact hP.mono (by decide +kernel) | apply State.setRke_closed | decide +kernel | split

theorem State.fillStep_closed {P : State → Prop} {s : State} (hP : Closed 0x400000000000000000000000000000000000000000 P) (h : P s) :
 P (State.fillStep s) := by
  unfold State.fillStep
  repeat' with_reducible first
    | assumption | exact hP.mono (by decide +kernel) | apply State.wrFld_closed | decide +kernel | split

theorem State.tick_closed {P : State → Prop} {s : State} (hP : Closed 0x1c80c00001e5c1de63e7b0fffffffffffffffffffffffffffffffffffffffffffffffffffffffffffffffff P) (h : P s) :
 P (State.tick s) := by
  unfold State.tick
  repeat' with_reducible first
    | assumption | intro _ | exact hP.mono (by decide +kernel) | apply State.rateWindowEnd_closed
    | apply State.holdsEnd_closed | apply State.tickRake_closed | apply State.cleInject_closed
    | apply State.tickCore_closed | apply State.fillStep_closed | apply State.drawn_closed
    | exact Foot.obj_of_all (by decide +kernel) _ | apply ite_sat | apply foldl_sat | apply foldUp_sat
    | decide +kernel | split | apply hP.now

end Sys2Proof.Laws
end

