-- ==== Sys2Proof/Laws/State.lean ====
section
/-! SUPPORT. The laws of the record updates of `State`: what each leaves of every field, and what a read of an object, a
field of an object or a unit's own state gives after one. -/

namespace Sys2Proof.Machine

open Sys2Proof.Laws

set_option Elab.async false

section

variable (s : State)

/-! `State.wr` -/

@[simp] theorem State.wr_pending (c : ObjCode) (i v : Nat) : (s.wr c i v).pending = s.pending := rfl
@[simp] theorem State.wr_ident (c : ObjCode) (i v : Nat) : (s.wr c i v).ident = s.ident := rfl
@[simp] theorem State.wr_now (c : ObjCode) (i v : Nat) : (s.wr c i v).now = s.now := rfl
@[simp] theorem State.wr_free (c : ObjCode) (i v : Nat) : (s.wr c i v).free = s.free := rfl
@[simp] theorem State.wr_objs (c : ObjCode) (i v : Nat) : (s.wr c i v).objs = KMap.set s.objs (factoryKey (objKey c i)) (objKey c i) v := rfl
@[simp] theorem State.wr_mem (c : ObjCode) (i v : Nat) : (s.wr c i v).mem = s.mem := rfl
@[simp] theorem State.wr_out (c : ObjCode) (i v : Nat) : (s.wr c i v).out = s.out := rfl
@[simp] theorem State.wr_cores (c : ObjCode) (i v : Nat) : (s.wr c i v).cores = s.cores := rfl
@[simp] theorem State.wr_rkes (c : ObjCode) (i v : Nat) : (s.wr c i v).rkes = s.rkes := rfl
@[simp] theorem State.wr_rateWindow (c : ObjCode) (i v : Nat) : (s.wr c i v).rateWindow = s.rateWindow := rfl
@[simp] theorem State.wr_guardRanges (c : ObjCode) (i v : Nat) : (s.wr c i v).guardRanges = s.guardRanges := rfl
@[simp] theorem State.wr_dimmCopy (c : ObjCode) (i v : Nat) : (s.wr c i v).dimmCopy = s.dimmCopy := rfl
@[simp] theorem State.wr_recals (c : ObjCode) (i v : Nat) : (s.wr c i v).recals = s.recals := rfl
@[simp] theorem State.wr_patrols (c : ObjCode) (i v : Nat) : (s.wr c i v).patrols = s.patrols := rfl
@[simp] theorem State.wr_ramps (c : ObjCode) (i v : Nat) : (s.wr c i v).ramps = s.ramps := rfl
@[simp] theorem State.wr_waiting (c : ObjCode) (i v : Nat) : (s.wr c i v).waiting = s.waiting := rfl
@[simp] theorem State.wr_sent (c : ObjCode) (i v : Nat) : (s.wr c i v).sent = s.sent := rfl
@[simp] theorem State.wr_quarantine (c : ObjCode) (i v : Nat) : (s.wr c i v).quarantine = s.quarantine := rfl
@[simp] theorem State.wr_srcSts (c : ObjCode) (i v : Nat) : (s.wr c i v).srcSts = s.srcSts := rfl
@[simp] theorem State.wr_dstSts (c : ObjCode) (i v : Nat) : (s.wr c i v).dstSts = s.dstSts := rfl
@[simp] theorem State.wr_guards (c : ObjCode) (i v : Nat) : (s.wr c i v).guards = s.guards := rfl
@[simp] theorem State.wr_heldReqs (c : ObjCode) (i v : Nat) : (s.wr c i v).heldReqs = s.heldReqs := rfl
@[simp] theorem State.wr_frames (c : ObjCode) (i v : Nat) : (s.wr c i v).frames = s.frames := rfl
@[simp] theorem State.wr_copies (c : ObjCode) (i v : Nat) : (s.wr c i v).copies = s.copies := rfl
@[simp] theorem State.wr_nextFrame (c : ObjCode) (i v : Nat) : (s.wr c i v).nextFrame = s.nextFrame := rfl
@[simp] theorem State.wr_nextPick (c : ObjCode) (i v : Nat) : (s.wr c i v).nextPick = s.nextPick := rfl
@[simp] theorem State.wr_cellTime (c : ObjCode) (i v : Nat) : (s.wr c i v).cellTime = s.cellTime := rfl
@[simp] theorem State.wr_charges (c : ObjCode) (i v : Nat) : (s.wr c i v).charges = s.charges := rfl
@[simp] theorem State.wr_offAt (c : ObjCode) (i v : Nat) : (s.wr c i v).offAt = s.offAt := rfl
@[simp] theorem State.wr_grantPtr (c : ObjCode) (i v : Nat) : (s.wr c i v).grantPtr = s.grantPtr := rfl
@[simp] theorem State.wr_acceptPtr (c : ObjCode) (i v : Nat) : (s.wr c i v).acceptPtr = s.acceptPtr := rfl
@[simp] theorem State.wr_mirrorSeen (c : ObjCode) (i v : Nat) : (s.wr c i v).mirrorSeen = s.mirrorSeen := rfl
@[simp] theorem State.wr_mirrorSeq (c : ObjCode) (i v : Nat) : (s.wr c i v).mirrorSeq = s.mirrorSeq := rfl
@[simp] theorem State.wr_mirrorQueue (c : ObjCode) (i v : Nat) : (s.wr c i v).mirrorQueue = s.mirrorQueue := rfl
@[simp] theorem State.wr_mirrorHeld (c : ObjCode) (i v : Nat) : (s.wr c i v).mirrorHeld = s.mirrorHeld := rfl
@[simp] theorem State.wr_rings (c : ObjCode) (i v : Nat) : (s.wr c i v).rings = s.rings := rfl
@[simp] theorem State.wr_credits (c : ObjCode) (i v : Nat) : (s.wr c i v).credits = s.credits := rfl
@[simp] theorem State.wr_buckets (c : ObjCode) (i v : Nat) : (s.wr c i v).buckets = s.buckets := rfl
@[simp] theorem State.wr_moves (c : ObjCode) (i v : Nat) : (s.wr c i v).moves = s.moves := rfl
@[simp] theorem State.wr_linkLocals (c : ObjCode) (i v : Nat) : (s.wr c i v).linkLocals = s.linkLocals := rfl
@[simp] theorem State.wr_ports (c : ObjCode) (i v : Nat) : (s.wr c i v).ports = s.ports := rfl
@[simp] theorem State.wr_elsLost (c : ObjCode) (i v : Nat) : (s.wr c i v).elsLost = s.elsLost := rfl
@[simp] theorem State.wr_elsSince (c : ObjCode) (i v : Nat) : (s.wr c i v).elsSince = s.elsSince := rfl
@[simp] theorem State.wr_elsOn (c : ObjCode) (i v : Nat) : (s.wr c i v).elsOn = s.elsOn := rfl
@[simp] theorem State.wr_reports (c : ObjCode) (i v : Nat) : (s.wr c i v).reports = s.reports := rfl
@[simp] theorem State.wr_ownerKey (c : ObjCode) (i v : Nat) : (s.wr c i v).ownerKey = s.ownerKey := rfl
@[simp] theorem State.wr_pools (c : ObjCode) (i v : Nat) : (s.wr c i v).pools = s.pools := rfl
@[simp] theorem State.wr_owners (c : ObjCode) (i v : Nat) : (s.wr c i v).owners = s.owners := rfl
@[simp] theorem State.wr_cvus (c : ObjCode) (i v : Nat) : (s.wr c i v).cvus = s.cvus := rfl
@[simp] theorem State.wr_scanJobs (c : ObjCode) (i v : Nat) : (s.wr c i v).scanJobs = s.scanJobs := rfl
@[simp] theorem State.wr_sus (c : ObjCode) (i v : Nat) : (s.wr c i v).sus = s.sus := rfl
@[simp] theorem State.wr_suBufs (c : ObjCode) (i v : Nat) : (s.wr c i v).suBufs = s.suBufs := rfl
@[simp] theorem State.wr_ctxs (c : ObjCode) (i v : Nat) : (s.wr c i v).ctxs = s.ctxs := rfl
@[simp] theorem State.wr_ringDone (c : ObjCode) (i v : Nat) : (s.wr c i v).ringDone = s.ringDone := rfl
@[simp] theorem State.wr_boot (c : ObjCode) (i v : Nat) : (s.wr c i v).boot = s.boot := rfl
@[simp] theorem State.wr_qps (c : ObjCode) (i v : Nat) : (s.wr c i v).qps = s.qps := rfl
@[simp] theorem State.wr_hostRings (c : ObjCode) (i v : Nat) : (s.wr c i v).hostRings = s.hostRings := rfl
@[simp] theorem State.wr_powerEntry (c : ObjCode) (i v : Nat) : (s.wr c i v).powerEntry = s.powerEntry := rfl
@[simp] theorem State.wr_powerWake (c : ObjCode) (i v : Nat) : (s.wr c i v).powerWake = s.powerWake := rfl
@[simp] theorem State.wr_saved (c : ObjCode) (i v : Nat) : (s.wr c i v).saved = s.saved := rfl
@[simp] theorem State.wr_govPower (c : ObjCode) (i v : Nat) : (s.wr c i v).govPower = s.govPower := rfl
@[simp] theorem State.wr_thermHold (c : ObjCode) (i v : Nat) : (s.wr c i v).thermHold = s.thermHold := rfl
@[simp] theorem State.wr_operatorKeys (c : ObjCode) (i v : Nat) : (s.wr c i v).operatorKeys = s.operatorKeys := rfl
@[simp] theorem State.wr_nvKey (c : ObjCode) (i v : Nat) : (s.wr c i v).nvKey = s.nvKey := rfl
@[simp] theorem State.wr_svnFuses (c : ObjCode) (i v : Nat) : (s.wr c i v).svnFuses = s.svnFuses := rfl
@[simp] theorem State.wr_rollback (c : ObjCode) (i v : Nat) : (s.wr c i v).rollback = s.rollback := rfl
@[simp] theorem State.wr_bootCount (c : ObjCode) (i v : Nat) : (s.wr c i v).bootCount = s.bootCount := rfl
@[simp] theorem State.wr_fwRunning (c : ObjCode) (i v : Nat) : (s.wr c i v).fwRunning = s.fwRunning := rfl
@[simp] theorem State.wr_fwStandby (c : ObjCode) (i v : Nat) : (s.wr c i v).fwStandby = s.fwStandby := rfl
@[simp] theorem State.wr_fwMark (c : ObjCode) (i v : Nat) : (s.wr c i v).fwMark = s.fwMark := rfl
@[simp] theorem State.wr_fwOwn (c : ObjCode) (i v : Nat) : (s.wr c i v).fwOwn = s.fwOwn := rfl
@[simp] theorem State.wr_fwErasing (c : ObjCode) (i v : Nat) : (s.wr c i v).fwErasing = s.fwErasing := rfl
@[simp] theorem State.wr_nvErasing (c : ObjCode) (i v : Nat) : (s.wr c i v).nvErasing = s.nvErasing := rfl
@[simp] theorem State.wr_nvMark (c : ObjCode) (i v : Nat) : (s.wr c i v).nvMark = s.nvMark := rfl
@[simp] theorem State.wr_imageWritten (c : ObjCode) (i v : Nat) : (s.wr c i v).imageWritten = s.imageWritten := rfl
@[simp] theorem State.wr_flash (c : ObjCode) (i v : Nat) : (s.wr c i v).flash = s.flash := rfl
@[simp] theorem State.wr_journalSeq (c : ObjCode) (i v : Nat) : (s.wr c i v).journalSeq = s.journalSeq := rfl
@[simp] theorem State.wr_sessions (c : ObjCode) (i v : Nat) : (s.wr c i v).sessions = s.sessions := rfl
@[simp] theorem State.wr_sources (c : ObjCode) (i v : Nat) : (s.wr c i v).sources = s.sources := rfl
@[simp] theorem State.wr_watches (c : ObjCode) (i v : Nat) : (s.wr c i v).watches = s.watches := rfl
@[simp] theorem State.wr_marshal (c : ObjCode) (i v : Nat) : (s.wr c i v).marshal = s.marshal := rfl
@[simp] theorem State.wr_guardStore (c : ObjCode) (i v : Nat) : (s.wr c i v).guardStore = s.guardStore := rfl
@[simp] theorem State.wr_scratchSeen (c : ObjCode) (i v : Nat) : (s.wr c i v).scratchSeen = s.scratchSeen := rfl
@[simp] theorem State.wr_resetLow (c : ObjCode) (i v : Nat) : (s.wr c i v).resetLow = s.resetLow := rfl
@[simp] theorem State.wr_aopDead (c : ObjCode) (i v : Nat) : (s.wr c i v).aopDead = s.aopDead := rfl
@[simp] theorem State.wr_tripped (c : ObjCode) (i v : Nat) : (s.wr c i v).tripped = s.tripped := rfl
@[simp] theorem State.wr_inputBlocked (c : ObjCode) (i v : Nat) : (s.wr c i v).inputBlocked = s.inputBlocked := rfl
@[simp] theorem State.wr_sideband (c : ObjCode) (i v : Nat) : (s.wr c i v).sideband = s.sideband := rfl
@[simp] theorem State.wr_dimmKeep (c : ObjCode) (i v : Nat) : (s.wr c i v).dimmKeep = s.dimmKeep := rfl
@[simp] theorem State.wr_hbmHold (c : ObjCode) (i v : Nat) : (s.wr c i v).hbmHold = s.hbmHold := rfl
@[simp] theorem State.wr_govAt (c : ObjCode) (i v : Nat) : (s.wr c i v).govAt = s.govAt := rfl
@[simp] theorem State.wr_sidebandAt (c : ObjCode) (i v : Nat) : (s.wr c i v).sidebandAt = s.sidebandAt := rfl
@[simp] theorem State.wr_mem8 (c : ObjCode) (i v : Nat) (sp of : Nat) : (s.wr c i v).mem8 sp of = s.mem8 sp of := rfl

/-! `State.wrFld` -/

@[simp] theorem State.wrFld_pending (c : ObjCode) (i lo w v : Nat) : (s.wrFld c i lo w v).pending = s.pending := rfl
@[simp] theorem State.wrFld_ident (c : ObjCode) (i lo w v : Nat) : (s.wrFld c i lo w v).ident = s.ident := rfl
@[simp] theorem State.wrFld_now (c : ObjCode) (i lo w v : Nat) : (s.wrFld c i lo w v).now = s.now := rfl
@[simp] theorem State.wrFld_free (c : ObjCode) (i lo w v : Nat) : (s.wrFld c i lo w v).free = s.free := rfl
@[simp] theorem State.wrFld_objs (c : ObjCode) (i lo w v : Nat) : (s.wrFld c i lo w v).objs = KMap.set s.objs (factoryKey (objKey c i)) (objKey c i) (setBits (s.rd c i) lo w v) := rfl
@[simp] theorem State.wrFld_mem (c : ObjCode) (i lo w v : Nat) : (s.wrFld c i lo w v).mem = s.mem := rfl
@[simp] theorem State.wrFld_out (c : ObjCode) (i lo w v : Nat) : (s.wrFld c i lo w v).out = s.out := rfl
@[simp] theorem State.wrFld_cores (c : ObjCode) (i lo w v : Nat) : (s.wrFld c i lo w v).cores = s.cores := rfl
@[simp] theorem State.wrFld_rkes (c : ObjCode) (i lo w v : Nat) : (s.wrFld c i lo w v).rkes = s.rkes := rfl
@[simp] theorem State.wrFld_rateWindow (c : ObjCode) (i lo w v : Nat) : (s.wrFld c i lo w v).rateWindow = s.rateWindow := rfl
@[simp] theorem State.wrFld_guardRanges (c : ObjCode) (i lo w v : Nat) : (s.wrFld c i lo w v).guardRanges = s.guardRanges := rfl
@[simp] theorem State.wrFld_dimmCopy (c : ObjCode) (i lo w v : Nat) : (s.wrFld c i lo w v).dimmCopy = s.dimmCopy := rfl
@[simp] theorem State.wrFld_recals (c : ObjCode) (i lo w v : Nat) : (s.wrFld c i lo w v).recals = s.recals := rfl
@[simp] theorem State.wrFld_patrols (c : ObjCode) (i lo w v : Nat) : (s.wrFld c i lo w v).patrols = s.patrols := rfl
@[simp] theorem State.wrFld_ramps (c : ObjCode) (i lo w v : Nat) : (s.wrFld c i lo w v).ramps = s.ramps := rfl
@[simp] theorem State.wrFld_waiting (c : ObjCode) (i lo w v : Nat) : (s.wrFld c i lo w v).waiting = s.waiting := rfl
@[simp] theorem State.wrFld_sent (c : ObjCode) (i lo w v : Nat) : (s.wrFld c i lo w v).sent = s.sent := rfl
@[simp] theorem State.wrFld_quarantine (c : ObjCode) (i lo w v : Nat) : (s.wrFld c i lo w v).quarantine = s.quarantine := rfl
@[simp] theorem State.wrFld_srcSts (c : ObjCode) (i lo w v : Nat) : (s.wrFld c i lo w v).srcSts = s.srcSts := rfl
@[simp] theorem State.wrFld_dstSts (c : ObjCode) (i lo w v : Nat) : (s.wrFld c i lo w v).dstSts = s.dstSts := rfl
@[simp] theorem State.wrFld_guards (c : ObjCode) (i lo w v : Nat) : (s.wrFld c i lo w v).guards = s.guards := rfl
@[simp] theorem State.wrFld_heldReqs (c : ObjCode) (i lo w v : Nat) : (s.wrFld c i lo w v).heldReqs = s.heldReqs := rfl
@[simp] theorem State.wrFld_frames (c : ObjCode) (i lo w v : Nat) : (s.wrFld c i lo w v).frames = s.frames := rfl
@[simp] theorem State.wrFld_copies (c : ObjCode) (i lo w v : Nat) : (s.wrFld c i lo w v).copies = s.copies := rfl
@[simp] theorem State.wrFld_nextFrame (c : ObjCode) (i lo w v : Nat) : (s.wrFld c i lo w v).nextFrame = s.nextFrame := rfl
@[simp] theorem State.wrFld_nextPick (c : ObjCode) (i lo w v : Nat) : (s.wrFld c i lo w v).nextPick = s.nextPick := rfl
@[simp] theorem State.wrFld_cellTime (c : ObjCode) (i lo w v : Nat) : (s.wrFld c i lo w v).cellTime = s.cellTime := rfl
@[simp] theorem State.wrFld_charges (c : ObjCode) (i lo w v : Nat) : (s.wrFld c i lo w v).charges = s.charges := rfl
@[simp] theorem State.wrFld_offAt (c : ObjCode) (i lo w v : Nat) : (s.wrFld c i lo w v).offAt = s.offAt := rfl
@[simp] theorem State.wrFld_grantPtr (c : ObjCode) (i lo w v : Nat) : (s.wrFld c i lo w v).grantPtr = s.grantPtr := rfl
@[simp] theorem State.wrFld_acceptPtr (c : ObjCode) (i lo w v : Nat) : (s.wrFld c i lo w v).acceptPtr = s.acceptPtr := rfl
@[simp] theorem State.wrFld_mirrorSeen (c : ObjCode) (i lo w v : Nat) : (s.wrFld c i lo w v).mirrorSeen = s.mirrorSeen := rfl
@[simp] theorem State.wrFld_mirrorSeq (c : ObjCode) (i lo w v : Nat) : (s.wrFld c i lo w v).mirrorSeq = s.mirrorSeq := rfl
@[simp] theorem State.wrFld_mirrorQueue (c : ObjCode) (i lo w v : Nat) : (s.wrFld c i lo w v).mirrorQueue = s.mirrorQueue := rfl
@[simp] theorem State.wrFld_mirrorHeld (c : ObjCode) (i lo w v : Nat) : (s.wrFld c i lo w v).mirrorHeld = s.mirrorHeld := rfl
@[simp] theorem State.wrFld_rings (c : ObjCode) (i lo w v : Nat) : (s.wrFld c i lo w v).rings = s.rings := rfl
@[simp] theorem State.wrFld_credits (c : ObjCode) (i lo w v : Nat) : (s.wrFld c i lo w v).credits = s.credits := rfl
@[simp] theorem State.wrFld_buckets (c : ObjCode) (i lo w v : Nat) : (s.wrFld c i lo w v).buckets = s.buckets := rfl
@[simp] theorem State.wrFld_moves (c : ObjCode) (i lo w v : Nat) : (s.wrFld c i lo w v).moves = s.moves := rfl
@[simp] theorem State.wrFld_linkLocals (c : ObjCode) (i lo w v : Nat) : (s.wrFld c i lo w v).linkLocals = s.linkLocals := rfl
@[simp] theorem State.wrFld_ports (c : ObjCode) (i lo w v : Nat) : (s.wrFld c i lo w v).ports = s.ports := rfl
@[simp] theorem State.wrFld_elsLost (c : ObjCode) (i lo w v : Nat) : (s.wrFld c i lo w v).elsLost = s.elsLost := rfl
@[simp] theorem State.wrFld_elsSince (c : ObjCode) (i lo w v : Nat) : (s.wrFld c i lo w v).elsSince = s.elsSince := rfl
@[simp] theorem State.wrFld_elsOn (c : ObjCode) (i lo w v : Nat) : (s.wrFld c i lo w v).elsOn = s.elsOn := rfl
@[simp] theorem State.wrFld_reports (c : ObjCode) (i lo w v : Nat) : (s.wrFld c i lo w v).reports = s.reports := rfl
@[simp] theorem State.wrFld_ownerKey (c : ObjCode) (i lo w v : Nat) : (s.wrFld c i lo w v).ownerKey = s.ownerKey := rfl
@[simp] theorem State.wrFld_pools (c : ObjCode) (i lo w v : Nat) : (s.wrFld c i lo w v).pools = s.pools := rfl
@[simp] theorem State.wrFld_owners (c : ObjCode) (i lo w v : Nat) : (s.wrFld c i lo w v).owners = s.owners := rfl
@[simp] theorem State.wrFld_cvus (c : ObjCode) (i lo w v : Nat) : (s.wrFld c i lo w v).cvus = s.cvus := rfl
@[simp] theorem State.wrFld_scanJobs (c : ObjCode) (i lo w v : Nat) : (s.wrFld c i lo w v).scanJobs = s.scanJobs := rfl
@[simp] theorem State.wrFld_sus (c : ObjCode) (i lo w v : Nat) : (s.wrFld c i lo w v).sus = s.sus := rfl
@[simp] theorem State.wrFld_suBufs (c : ObjCode) (i lo w v : Nat) : (s.wrFld c i lo w v).suBufs = s.suBufs := rfl
@[simp] theorem State.wrFld_ctxs (c : ObjCode) (i lo w v : Nat) : (s.wrFld c i lo w v).ctxs = s.ctxs := rfl
@[simp] theorem State.wrFld_ringDone (c : ObjCode) (i lo w v : Nat) : (s.wrFld c i lo w v).ringDone = s.ringDone := rfl
@[simp] theorem State.wrFld_boot (c : ObjCode) (i lo w v : Nat) : (s.wrFld c i lo w v).boot = s.boot := rfl
@[simp] theorem State.wrFld_qps (c : ObjCode) (i lo w v : Nat) : (s.wrFld c i lo w v).qps = s.qps := rfl
@[simp] theorem State.wrFld_hostRings (c : ObjCode) (i lo w v : Nat) : (s.wrFld c i lo w v).hostRings = s.hostRings := rfl
@[simp] theorem State.wrFld_powerEntry (c : ObjCode) (i lo w v : Nat) : (s.wrFld c i lo w v).powerEntry = s.powerEntry := rfl
@[simp] theorem State.wrFld_powerWake (c : ObjCode) (i lo w v : Nat) : (s.wrFld c i lo w v).powerWake = s.powerWake := rfl
@[simp] theorem State.wrFld_saved (c : ObjCode) (i lo w v : Nat) : (s.wrFld c i lo w v).saved = s.saved := rfl
@[simp] theorem State.wrFld_govPower (c : ObjCode) (i lo w v : Nat) : (s.wrFld c i lo w v).govPower = s.govPower := rfl
@[simp] theorem State.wrFld_thermHold (c : ObjCode) (i lo w v : Nat) : (s.wrFld c i lo w v).thermHold = s.thermHold := rfl
@[simp] theorem State.wrFld_operatorKeys (c : ObjCode) (i lo w v : Nat) : (s.wrFld c i lo w v).operatorKeys = s.operatorKeys := rfl
@[simp] theorem State.wrFld_nvKey (c : ObjCode) (i lo w v : Nat) : (s.wrFld c i lo w v).nvKey = s.nvKey := rfl
@[simp] theorem State.wrFld_svnFuses (c : ObjCode) (i lo w v : Nat) : (s.wrFld c i lo w v).svnFuses = s.svnFuses := rfl
@[simp] theorem State.wrFld_rollback (c : ObjCode) (i lo w v : Nat) : (s.wrFld c i lo w v).rollback = s.rollback := rfl
@[simp] theorem State.wrFld_bootCount (c : ObjCode) (i lo w v : Nat) : (s.wrFld c i lo w v).bootCount = s.bootCount := rfl
@[simp] theorem State.wrFld_fwRunning (c : ObjCode) (i lo w v : Nat) : (s.wrFld c i lo w v).fwRunning = s.fwRunning := rfl
@[simp] theorem State.wrFld_fwStandby (c : ObjCode) (i lo w v : Nat) : (s.wrFld c i lo w v).fwStandby = s.fwStandby := rfl
@[simp] theorem State.wrFld_fwMark (c : ObjCode) (i lo w v : Nat) : (s.wrFld c i lo w v).fwMark = s.fwMark := rfl
@[simp] theorem State.wrFld_fwOwn (c : ObjCode) (i lo w v : Nat) : (s.wrFld c i lo w v).fwOwn = s.fwOwn := rfl
@[simp] theorem State.wrFld_fwErasing (c : ObjCode) (i lo w v : Nat) : (s.wrFld c i lo w v).fwErasing = s.fwErasing := rfl
@[simp] theorem State.wrFld_nvErasing (c : ObjCode) (i lo w v : Nat) : (s.wrFld c i lo w v).nvErasing = s.nvErasing := rfl
@[simp] theorem State.wrFld_nvMark (c : ObjCode) (i lo w v : Nat) : (s.wrFld c i lo w v).nvMark = s.nvMark := rfl
@[simp] theorem State.wrFld_imageWritten (c : ObjCode) (i lo w v : Nat) : (s.wrFld c i lo w v).imageWritten = s.imageWritten := rfl
@[simp] theorem State.wrFld_flash (c : ObjCode) (i lo w v : Nat) : (s.wrFld c i lo w v).flash = s.flash := rfl
@[simp] theorem State.wrFld_journalSeq (c : ObjCode) (i lo w v : Nat) : (s.wrFld c i lo w v).journalSeq = s.journalSeq := rfl
@[simp] theorem State.wrFld_sessions (c : ObjCode) (i lo w v : Nat) : (s.wrFld c i lo w v).sessions = s.sessions := rfl
@[simp] theorem State.wrFld_sources (c : ObjCode) (i lo w v : Nat) : (s.wrFld c i lo w v).sources = s.sources := rfl
@[simp] theorem State.wrFld_watches (c : ObjCode) (i lo w v : Nat) : (s.wrFld c i lo w v).watches = s.watches := rfl
@[simp] theorem State.wrFld_marshal (c : ObjCode) (i lo w v : Nat) : (s.wrFld c i lo w v).marshal = s.marshal := rfl
@[simp] theorem State.wrFld_guardStore (c : ObjCode) (i lo w v : Nat) : (s.wrFld c i lo w v).guardStore = s.guardStore := rfl
@[simp] theorem State.wrFld_scratchSeen (c : ObjCode) (i lo w v : Nat) : (s.wrFld c i lo w v).scratchSeen = s.scratchSeen := rfl
@[simp] theorem State.wrFld_resetLow (c : ObjCode) (i lo w v : Nat) : (s.wrFld c i lo w v).resetLow = s.resetLow := rfl
@[simp] theorem State.wrFld_aopDead (c : ObjCode) (i lo w v : Nat) : (s.wrFld c i lo w v).aopDead = s.aopDead := rfl
@[simp] theorem State.wrFld_tripped (c : ObjCode) (i lo w v : Nat) : (s.wrFld c i lo w v).tripped = s.tripped := rfl
@[simp] theorem State.wrFld_inputBlocked (c : ObjCode) (i lo w v : Nat) : (s.wrFld c i lo w v).inputBlocked = s.inputBlocked := rfl
@[simp] theorem State.wrFld_sideband (c : ObjCode) (i lo w v : Nat) : (s.wrFld c i lo w v).sideband = s.sideband := rfl
@[simp] theorem State.wrFld_dimmKeep (c : ObjCode) (i lo w v : Nat) : (s.wrFld c i lo w v).dimmKeep = s.dimmKeep := rfl
@[simp] theorem State.wrFld_hbmHold (c : ObjCode) (i lo w v : Nat) : (s.wrFld c i lo w v).hbmHold = s.hbmHold := rfl
@[simp] theorem State.wrFld_govAt (c : ObjCode) (i lo w v : Nat) : (s.wrFld c i lo w v).govAt = s.govAt := rfl
@[simp] theorem State.wrFld_sidebandAt (c : ObjCode) (i lo w v : Nat) : (s.wrFld c i lo w v).sidebandAt = s.sidebandAt := rfl
@[simp] theorem State.wrFld_mem8 (c : ObjCode) (i lo w v : Nat) (sp of : Nat) : (s.wrFld c i lo w v).mem8 sp of = s.mem8 sp of := rfl

/-! `State.setFlag` -/

@[simp] theorem State.setFlag_pending (n f v : Nat) : (s.setFlag n f v).pending = s.pending := rfl
@[simp] theorem State.setFlag_ident (n f v : Nat) : (s.setFlag n f v).ident = s.ident := rfl
@[simp] theorem State.setFlag_now (n f v : Nat) : (s.setFlag n f v).now = s.now := rfl
@[simp] theorem State.setFlag_free (n f v : Nat) : (s.setFlag n f v).free = s.free := rfl
@[simp] theorem State.setFlag_mem (n f v : Nat) : (s.setFlag n f v).mem = s.mem := rfl
@[simp] theorem State.setFlag_out (n f v : Nat) : (s.setFlag n f v).out = s.out := rfl
@[simp] theorem State.setFlag_cores (n f v : Nat) : (s.setFlag n f v).cores = s.cores := rfl
@[simp] theorem State.setFlag_rkes (n f v : Nat) : (s.setFlag n f v).rkes = s.rkes := rfl
@[simp] theorem State.setFlag_rateWindow (n f v : Nat) : (s.setFlag n f v).rateWindow = s.rateWindow := rfl
@[simp] theorem State.setFlag_guardRanges (n f v : Nat) : (s.setFlag n f v).guardRanges = s.guardRanges := rfl
@[simp] theorem State.setFlag_dimmCopy (n f v : Nat) : (s.setFlag n f v).dimmCopy = s.dimmCopy := rfl
@[simp] theorem State.setFlag_recals (n f v : Nat) : (s.setFlag n f v).recals = s.recals := rfl
@[simp] theorem State.setFlag_patrols (n f v : Nat) : (s.setFlag n f v).patrols = s.patrols := rfl
@[simp] theorem State.setFlag_ramps (n f v : Nat) : (s.setFlag n f v).ramps = s.ramps := rfl
@[simp] theorem State.setFlag_waiting (n f v : Nat) : (s.setFlag n f v).waiting = s.waiting := rfl
@[simp] theorem State.setFlag_sent (n f v : Nat) : (s.setFlag n f v).sent = s.sent := rfl
@[simp] theorem State.setFlag_quarantine (n f v : Nat) : (s.setFlag n f v).quarantine = s.quarantine := rfl
@[simp] theorem State.setFlag_srcSts (n f v : Nat) : (s.setFlag n f v).srcSts = s.srcSts := rfl
@[simp] theorem State.setFlag_dstSts (n f v : Nat) : (s.setFlag n f v).dstSts = s.dstSts := rfl
@[simp] theorem State.setFlag_guards (n f v : Nat) : (s.setFlag n f v).guards = s.guards := rfl
@[simp] theorem State.setFlag_heldReqs (n f v : Nat) : (s.setFlag n f v).heldReqs = s.heldReqs := rfl
@[simp] theorem State.setFlag_frames (n f v : Nat) : (s.setFlag n f v).frames = s.frames := rfl
@[simp] theorem State.setFlag_copies (n f v : Nat) : (s.setFlag n f v).copies = s.copies := rfl
@[simp] theorem State.setFlag_nextFrame (n f v : Nat) : (s.setFlag n f v).nextFrame = s.nextFrame := rfl
@[simp] theorem State.setFlag_nextPick (n f v : Nat) : (s.setFlag n f v).nextPick = s.nextPick := rfl
@[simp] theorem State.setFlag_cellTime (n f v : Nat) : (s.setFlag n f v).cellTime = s.cellTime := rfl
@[simp] theorem State.setFlag_charges (n f v : Nat) : (s.setFlag n f v).charges = s.charges := rfl
@[simp] theorem State.setFlag_offAt (n f v : Nat) : (s.setFlag n f v).offAt = s.offAt := rfl
@[simp] theorem State.setFlag_grantPtr (n f v : Nat) : (s.setFlag n f v).grantPtr = s.grantPtr := rfl
@[simp] theorem State.setFlag_acceptPtr (n f v : Nat) : (s.setFlag n f v).acceptPtr = s.acceptPtr := rfl
@[simp] theorem State.setFlag_mirrorSeen (n f v : Nat) : (s.setFlag n f v).mirrorSeen = s.mirrorSeen := rfl
@[simp] theorem State.setFlag_mirrorSeq (n f v : Nat) : (s.setFlag n f v).mirrorSeq = s.mirrorSeq := rfl
@[simp] theorem State.setFlag_mirrorQueue (n f v : Nat) : (s.setFlag n f v).mirrorQueue = s.mirrorQueue := rfl
@[simp] theorem State.setFlag_mirrorHeld (n f v : Nat) : (s.setFlag n f v).mirrorHeld = s.mirrorHeld := rfl
@[simp] theorem State.setFlag_rings (n f v : Nat) : (s.setFlag n f v).rings = s.rings := rfl
@[simp] theorem State.setFlag_credits (n f v : Nat) : (s.setFlag n f v).credits = s.credits := rfl
@[simp] theorem State.setFlag_buckets (n f v : Nat) : (s.setFlag n f v).buckets = s.buckets := rfl
@[simp] theorem State.setFlag_moves (n f v : Nat) : (s.setFlag n f v).moves = s.moves := rfl
@[simp] theorem State.setFlag_linkLocals (n f v : Nat) : (s.setFlag n f v).linkLocals = s.linkLocals := rfl
@[simp] theorem State.setFlag_ports (n f v : Nat) : (s.setFlag n f v).ports = s.ports := rfl
@[simp] theorem State.setFlag_elsLost (n f v : Nat) : (s.setFlag n f v).elsLost = s.elsLost := rfl
@[simp] theorem State.setFlag_elsSince (n f v : Nat) : (s.setFlag n f v).elsSince = s.elsSince := rfl
@[simp] theorem State.setFlag_elsOn (n f v : Nat) : (s.setFlag n f v).elsOn = s.elsOn := rfl
@[simp] theorem State.setFlag_reports (n f v : Nat) : (s.setFlag n f v).reports = s.reports := rfl
@[simp] theorem State.setFlag_ownerKey (n f v : Nat) : (s.setFlag n f v).ownerKey = s.ownerKey := rfl
@[simp] theorem State.setFlag_pools (n f v : Nat) : (s.setFlag n f v).pools = s.pools := rfl
@[simp] theorem State.setFlag_owners (n f v : Nat) : (s.setFlag n f v).owners = s.owners := rfl
@[simp] theorem State.setFlag_cvus (n f v : Nat) : (s.setFlag n f v).cvus = s.cvus := rfl
@[simp] theorem State.setFlag_scanJobs (n f v : Nat) : (s.setFlag n f v).scanJobs = s.scanJobs := rfl
@[simp] theorem State.setFlag_sus (n f v : Nat) : (s.setFlag n f v).sus = s.sus := rfl
@[simp] theorem State.setFlag_suBufs (n f v : Nat) : (s.setFlag n f v).suBufs = s.suBufs := rfl
@[simp] theorem State.setFlag_ctxs (n f v : Nat) : (s.setFlag n f v).ctxs = s.ctxs := rfl
@[simp] theorem State.setFlag_ringDone (n f v : Nat) : (s.setFlag n f v).ringDone = s.ringDone := rfl
@[simp] theorem State.setFlag_boot (n f v : Nat) : (s.setFlag n f v).boot = s.boot := rfl
@[simp] theorem State.setFlag_qps (n f v : Nat) : (s.setFlag n f v).qps = s.qps := rfl
@[simp] theorem State.setFlag_hostRings (n f v : Nat) : (s.setFlag n f v).hostRings = s.hostRings := rfl
@[simp] theorem State.setFlag_powerEntry (n f v : Nat) : (s.setFlag n f v).powerEntry = s.powerEntry := rfl
@[simp] theorem State.setFlag_powerWake (n f v : Nat) : (s.setFlag n f v).powerWake = s.powerWake := rfl
@[simp] theorem State.setFlag_saved (n f v : Nat) : (s.setFlag n f v).saved = s.saved := rfl
@[simp] theorem State.setFlag_govPower (n f v : Nat) : (s.setFlag n f v).govPower = s.govPower := rfl
@[simp] theorem State.setFlag_thermHold (n f v : Nat) : (s.setFlag n f v).thermHold = s.thermHold := rfl
@[simp] theorem State.setFlag_operatorKeys (n f v : Nat) : (s.setFlag n f v).operatorKeys = s.operatorKeys := rfl
@[simp] theorem State.setFlag_nvKey (n f v : Nat) : (s.setFlag n f v).nvKey = s.nvKey := rfl
@[simp] theorem State.setFlag_svnFuses (n f v : Nat) : (s.setFlag n f v).svnFuses = s.svnFuses := rfl
@[simp] theorem State.setFlag_rollback (n f v : Nat) : (s.setFlag n f v).rollback = s.rollback := rfl
@[simp] theorem State.setFlag_bootCount (n f v : Nat) : (s.setFlag n f v).bootCount = s.bootCount := rfl
@[simp] theorem State.setFlag_fwRunning (n f v : Nat) : (s.setFlag n f v).fwRunning = s.fwRunning := rfl
@[simp] theorem State.setFlag_fwStandby (n f v : Nat) : (s.setFlag n f v).fwStandby = s.fwStandby := rfl
@[simp] theorem State.setFlag_fwMark (n f v : Nat) : (s.setFlag n f v).fwMark = s.fwMark := rfl
@[simp] theorem State.setFlag_fwOwn (n f v : Nat) : (s.setFlag n f v).fwOwn = s.fwOwn := rfl
@[simp] theorem State.setFlag_fwErasing (n f v : Nat) : (s.setFlag n f v).fwErasing = s.fwErasing := rfl
@[simp] theorem State.setFlag_nvErasing (n f v : Nat) : (s.setFlag n f v).nvErasing = s.nvErasing := rfl
@[simp] theorem State.setFlag_nvMark (n f v : Nat) : (s.setFlag n f v).nvMark = s.nvMark := rfl
@[simp] theorem State.setFlag_imageWritten (n f v : Nat) : (s.setFlag n f v).imageWritten = s.imageWritten := rfl
@[simp] theorem State.setFlag_flash (n f v : Nat) : (s.setFlag n f v).flash = s.flash := rfl
@[simp] theorem State.setFlag_journalSeq (n f v : Nat) : (s.setFlag n f v).journalSeq = s.journalSeq := rfl
@[simp] theorem State.setFlag_sessions (n f v : Nat) : (s.setFlag n f v).sessions = s.sessions := rfl
@[simp] theorem State.setFlag_sources (n f v : Nat) : (s.setFlag n f v).sources = s.sources := rfl
@[simp] theorem State.setFlag_watches (n f v : Nat) : (s.setFlag n f v).watches = s.watches := rfl
@[simp] theorem State.setFlag_marshal (n f v : Nat) : (s.setFlag n f v).marshal = s.marshal := rfl
@[simp] theorem State.setFlag_guardStore (n f v : Nat) : (s.setFlag n f v).guardStore = s.guardStore := rfl
@[simp] theorem State.setFlag_scratchSeen (n f v : Nat) : (s.setFlag n f v).scratchSeen = s.scratchSeen := rfl
@[simp] theorem State.setFlag_resetLow (n f v : Nat) : (s.setFlag n f v).resetLow = s.resetLow := rfl
@[simp] theorem State.setFlag_aopDead (n f v : Nat) : (s.setFlag n f v).aopDead = s.aopDead := rfl
@[simp] theorem State.setFlag_tripped (n f v : Nat) : (s.setFlag n f v).tripped = s.tripped := rfl
@[simp] theorem State.setFlag_inputBlocked (n f v : Nat) : (s.setFlag n f v).inputBlocked = s.inputBlocked := rfl
@[simp] theorem State.setFlag_sideband (n f v : Nat) : (s.setFlag n f v).sideband = s.sideband := rfl
@[simp] theorem State.setFlag_dimmKeep (n f v : Nat) : (s.setFlag n f v).dimmKeep = s.dimmKeep := rfl
@[simp] theorem State.setFlag_hbmHold (n f v : Nat) : (s.setFlag n f v).hbmHold = s.hbmHold := rfl
@[simp] theorem State.setFlag_govAt (n f v : Nat) : (s.setFlag n f v).govAt = s.govAt := rfl
@[simp] theorem State.setFlag_sidebandAt (n f v : Nat) : (s.setFlag n f v).sidebandAt = s.sidebandAt := rfl
@[simp] theorem State.setFlag_mem8 (n f v : Nat) (sp of : Nat) : (s.setFlag n f v).mem8 sp of = s.mem8 sp of := rfl

/-! `State.drawn` -/

@[simp] theorem State.drawn_pending : (s.drawn).pending = s.pending := rfl
@[simp] theorem State.drawn_ident : (s.drawn).ident = s.ident := rfl
@[simp] theorem State.drawn_now : (s.drawn).now = s.now := rfl
@[simp] theorem State.drawn_free : (s.drawn).free = s.free + 1 := rfl
@[simp] theorem State.drawn_objs : (s.drawn).objs = s.objs := rfl
@[simp] theorem State.drawn_mem : (s.drawn).mem = s.mem := rfl
@[simp] theorem State.drawn_out : (s.drawn).out = s.out := rfl
@[simp] theorem State.drawn_cores : (s.drawn).cores = s.cores := rfl
@[simp] theorem State.drawn_rkes : (s.drawn).rkes = s.rkes := rfl
@[simp] theorem State.drawn_rateWindow : (s.drawn).rateWindow = s.rateWindow := rfl
@[simp] theorem State.drawn_guardRanges : (s.drawn).guardRanges = s.guardRanges := rfl
@[simp] theorem State.drawn_dimmCopy : (s.drawn).dimmCopy = s.dimmCopy := rfl
@[simp] theorem State.drawn_recals : (s.drawn).recals = s.recals := rfl
@[simp] theorem State.drawn_patrols : (s.drawn).patrols = s.patrols := rfl
@[simp] theorem State.drawn_ramps : (s.drawn).ramps = s.ramps := rfl
@[simp] theorem State.drawn_waiting : (s.drawn).waiting = s.waiting := rfl
@[simp] theorem State.drawn_sent : (s.drawn).sent = s.sent := rfl
@[simp] theorem State.drawn_quarantine : (s.drawn).quarantine = s.quarantine := rfl
@[simp] theorem State.drawn_srcSts : (s.drawn).srcSts = s.srcSts := rfl
@[simp] theorem State.drawn_dstSts : (s.drawn).dstSts = s.dstSts := rfl
@[simp] theorem State.drawn_guards : (s.drawn).guards = s.guards := rfl
@[simp] theorem State.drawn_heldReqs : (s.drawn).heldReqs = s.heldReqs := rfl
@[simp] theorem State.drawn_frames : (s.drawn).frames = s.frames := rfl
@[simp] theorem State.drawn_copies : (s.drawn).copies = s.copies := rfl
@[simp] theorem State.drawn_nextFrame : (s.drawn).nextFrame = s.nextFrame := rfl
@[simp] theorem State.drawn_nextPick : (s.drawn).nextPick = s.nextPick := rfl
@[simp] theorem State.drawn_cellTime : (s.drawn).cellTime = s.cellTime := rfl
@[simp] theorem State.drawn_charges : (s.drawn).charges = s.charges := rfl
@[simp] theorem State.drawn_offAt : (s.drawn).offAt = s.offAt := rfl
@[simp] theorem State.drawn_grantPtr : (s.drawn).grantPtr = s.grantPtr := rfl
@[simp] theorem State.drawn_acceptPtr : (s.drawn).acceptPtr = s.acceptPtr := rfl
@[simp] theorem State.drawn_mirrorSeen : (s.drawn).mirrorSeen = s.mirrorSeen := rfl
@[simp] theorem State.drawn_mirrorSeq : (s.drawn).mirrorSeq = s.mirrorSeq := rfl
@[simp] theorem State.drawn_mirrorQueue : (s.drawn).mirrorQueue = s.mirrorQueue := rfl
@[simp] theorem State.drawn_mirrorHeld : (s.drawn).mirrorHeld = s.mirrorHeld := rfl
@[simp] theorem State.drawn_rings : (s.drawn).rings = s.rings := rfl
@[simp] theorem State.drawn_credits : (s.drawn).credits = s.credits := rfl
@[simp] theorem State.drawn_buckets : (s.drawn).buckets = s.buckets := rfl
@[simp] theorem State.drawn_moves : (s.drawn).moves = s.moves := rfl
@[simp] theorem State.drawn_linkLocals : (s.drawn).linkLocals = s.linkLocals := rfl
@[simp] theorem State.drawn_ports : (s.drawn).ports = s.ports := rfl
@[simp] theorem State.drawn_elsLost : (s.drawn).elsLost = s.elsLost := rfl
@[simp] theorem State.drawn_elsSince : (s.drawn).elsSince = s.elsSince := rfl
@[simp] theorem State.drawn_elsOn : (s.drawn).elsOn = s.elsOn := rfl
@[simp] theorem State.drawn_reports : (s.drawn).reports = s.reports := rfl
@[simp] theorem State.drawn_ownerKey : (s.drawn).ownerKey = s.ownerKey := rfl
@[simp] theorem State.drawn_pools : (s.drawn).pools = s.pools := rfl
@[simp] theorem State.drawn_owners : (s.drawn).owners = s.owners := rfl
@[simp] theorem State.drawn_cvus : (s.drawn).cvus = s.cvus := rfl
@[simp] theorem State.drawn_scanJobs : (s.drawn).scanJobs = s.scanJobs := rfl
@[simp] theorem State.drawn_sus : (s.drawn).sus = s.sus := rfl
@[simp] theorem State.drawn_suBufs : (s.drawn).suBufs = s.suBufs := rfl
@[simp] theorem State.drawn_ctxs : (s.drawn).ctxs = s.ctxs := rfl
@[simp] theorem State.drawn_ringDone : (s.drawn).ringDone = s.ringDone := rfl
@[simp] theorem State.drawn_boot : (s.drawn).boot = s.boot := rfl
@[simp] theorem State.drawn_qps : (s.drawn).qps = s.qps := rfl
@[simp] theorem State.drawn_hostRings : (s.drawn).hostRings = s.hostRings := rfl
@[simp] theorem State.drawn_powerEntry : (s.drawn).powerEntry = s.powerEntry := rfl
@[simp] theorem State.drawn_powerWake : (s.drawn).powerWake = s.powerWake := rfl
@[simp] theorem State.drawn_saved : (s.drawn).saved = s.saved := rfl
@[simp] theorem State.drawn_govPower : (s.drawn).govPower = s.govPower := rfl
@[simp] theorem State.drawn_thermHold : (s.drawn).thermHold = s.thermHold := rfl
@[simp] theorem State.drawn_operatorKeys : (s.drawn).operatorKeys = s.operatorKeys := rfl
@[simp] theorem State.drawn_nvKey : (s.drawn).nvKey = s.nvKey := rfl
@[simp] theorem State.drawn_svnFuses : (s.drawn).svnFuses = s.svnFuses := rfl
@[simp] theorem State.drawn_rollback : (s.drawn).rollback = s.rollback := rfl
@[simp] theorem State.drawn_bootCount : (s.drawn).bootCount = s.bootCount := rfl
@[simp] theorem State.drawn_fwRunning : (s.drawn).fwRunning = s.fwRunning := rfl
@[simp] theorem State.drawn_fwStandby : (s.drawn).fwStandby = s.fwStandby := rfl
@[simp] theorem State.drawn_fwMark : (s.drawn).fwMark = s.fwMark := rfl
@[simp] theorem State.drawn_fwOwn : (s.drawn).fwOwn = s.fwOwn := rfl
@[simp] theorem State.drawn_fwErasing : (s.drawn).fwErasing = s.fwErasing := rfl
@[simp] theorem State.drawn_nvErasing : (s.drawn).nvErasing = s.nvErasing := rfl
@[simp] theorem State.drawn_nvMark : (s.drawn).nvMark = s.nvMark := rfl
@[simp] theorem State.drawn_imageWritten : (s.drawn).imageWritten = s.imageWritten := rfl
@[simp] theorem State.drawn_flash : (s.drawn).flash = s.flash := rfl
@[simp] theorem State.drawn_journalSeq : (s.drawn).journalSeq = s.journalSeq := rfl
@[simp] theorem State.drawn_sessions : (s.drawn).sessions = s.sessions := rfl
@[simp] theorem State.drawn_sources : (s.drawn).sources = s.sources := rfl
@[simp] theorem State.drawn_watches : (s.drawn).watches = s.watches := rfl
@[simp] theorem State.drawn_marshal : (s.drawn).marshal = s.marshal := rfl
@[simp] theorem State.drawn_guardStore : (s.drawn).guardStore = s.guardStore := rfl
@[simp] theorem State.drawn_scratchSeen : (s.drawn).scratchSeen = s.scratchSeen := rfl
@[simp] theorem State.drawn_resetLow : (s.drawn).resetLow = s.resetLow := rfl
@[simp] theorem State.drawn_aopDead : (s.drawn).aopDead = s.aopDead := rfl
@[simp] theorem State.drawn_tripped : (s.drawn).tripped = s.tripped := rfl
@[simp] theorem State.drawn_inputBlocked : (s.drawn).inputBlocked = s.inputBlocked := rfl
@[simp] theorem State.drawn_sideband : (s.drawn).sideband = s.sideband := rfl
@[simp] theorem State.drawn_dimmKeep : (s.drawn).dimmKeep = s.dimmKeep := rfl
@[simp] theorem State.drawn_hbmHold : (s.drawn).hbmHold = s.hbmHold := rfl
@[simp] theorem State.drawn_govAt : (s.drawn).govAt = s.govAt := rfl
@[simp] theorem State.drawn_sidebandAt : (s.drawn).sidebandAt = s.sidebandAt := rfl
@[simp] theorem State.drawn_rd (ob : ObjCode) (jj : Nat) : (s.drawn).rd ob jj = s.rd ob jj := rfl
@[simp] theorem State.drawn_fld (ob : ObjCode) (jj ll ww : Nat) : (s.drawn).fld ob jj ll ww = s.fld ob jj ll ww := rfl
@[simp] theorem State.drawn_mem8 (sp of : Nat) : (s.drawn).mem8 sp of = s.mem8 sp of := rfl

/-! `State.memWrite` -/

@[simp] theorem State.memWrite_pending (space off : Nat) (bs : List Byte) : (s.memWrite space off bs).pending = s.pending := rfl
@[simp] theorem State.memWrite_ident (space off : Nat) (bs : List Byte) : (s.memWrite space off bs).ident = s.ident := rfl
@[simp] theorem State.memWrite_now (space off : Nat) (bs : List Byte) : (s.memWrite space off bs).now = s.now := rfl
@[simp] theorem State.memWrite_free (space off : Nat) (bs : List Byte) : (s.memWrite space off bs).free = s.free := rfl
@[simp] theorem State.memWrite_objs (space off : Nat) (bs : List Byte) : (s.memWrite space off bs).objs = s.objs := rfl
@[simp] theorem State.memWrite_out (space off : Nat) (bs : List Byte) : (s.memWrite space off bs).out = s.out := rfl
@[simp] theorem State.memWrite_cores (space off : Nat) (bs : List Byte) : (s.memWrite space off bs).cores = s.cores := rfl
@[simp] theorem State.memWrite_rkes (space off : Nat) (bs : List Byte) : (s.memWrite space off bs).rkes = s.rkes := rfl
@[simp] theorem State.memWrite_rateWindow (space off : Nat) (bs : List Byte) : (s.memWrite space off bs).rateWindow = s.rateWindow := rfl
@[simp] theorem State.memWrite_guardRanges (space off : Nat) (bs : List Byte) : (s.memWrite space off bs).guardRanges = s.guardRanges := rfl
@[simp] theorem State.memWrite_dimmCopy (space off : Nat) (bs : List Byte) : (s.memWrite space off bs).dimmCopy = s.dimmCopy := rfl
@[simp] theorem State.memWrite_recals (space off : Nat) (bs : List Byte) : (s.memWrite space off bs).recals = s.recals := rfl
@[simp] theorem State.memWrite_patrols (space off : Nat) (bs : List Byte) : (s.memWrite space off bs).patrols = s.patrols := rfl
@[simp] theorem State.memWrite_ramps (space off : Nat) (bs : List Byte) : (s.memWrite space off bs).ramps = s.ramps := rfl
@[simp] theorem State.memWrite_waiting (space off : Nat) (bs : List Byte) : (s.memWrite space off bs).waiting = s.waiting := rfl
@[simp] theorem State.memWrite_sent (space off : Nat) (bs : List Byte) : (s.memWrite space off bs).sent = s.sent := rfl
@[simp] theorem State.memWrite_quarantine (space off : Nat) (bs : List Byte) : (s.memWrite space off bs).quarantine = s.quarantine := rfl
@[simp] theorem State.memWrite_srcSts (space off : Nat) (bs : List Byte) : (s.memWrite space off bs).srcSts = s.srcSts := rfl
@[simp] theorem State.memWrite_dstSts (space off : Nat) (bs : List Byte) : (s.memWrite space off bs).dstSts = s.dstSts := rfl
@[simp] theorem State.memWrite_guards (space off : Nat) (bs : List Byte) : (s.memWrite space off bs).guards = s.guards := rfl
@[simp] theorem State.memWrite_heldReqs (space off : Nat) (bs : List Byte) : (s.memWrite space off bs).heldReqs = s.heldReqs := rfl
@[simp] theorem State.memWrite_frames (space off : Nat) (bs : List Byte) : (s.memWrite space off bs).frames = s.frames := rfl
@[simp] theorem State.memWrite_copies (space off : Nat) (bs : List Byte) : (s.memWrite space off bs).copies = s.copies := rfl
@[simp] theorem State.memWrite_nextFrame (space off : Nat) (bs : List Byte) : (s.memWrite space off bs).nextFrame = s.nextFrame := rfl
@[simp] theorem State.memWrite_nextPick (space off : Nat) (bs : List Byte) : (s.memWrite space off bs).nextPick = s.nextPick := rfl
@[simp] theorem State.memWrite_cellTime (space off : Nat) (bs : List Byte) : (s.memWrite space off bs).cellTime = s.cellTime := rfl
@[simp] theorem State.memWrite_charges (space off : Nat) (bs : List Byte) : (s.memWrite space off bs).charges = s.charges := rfl
@[simp] theorem State.memWrite_offAt (space off : Nat) (bs : List Byte) : (s.memWrite space off bs).offAt = s.offAt := rfl
@[simp] theorem State.memWrite_grantPtr (space off : Nat) (bs : List Byte) : (s.memWrite space off bs).grantPtr = s.grantPtr := rfl
@[simp] theorem State.memWrite_acceptPtr (space off : Nat) (bs : List Byte) : (s.memWrite space off bs).acceptPtr = s.acceptPtr := rfl
@[simp] theorem State.memWrite_mirrorSeen (space off : Nat) (bs : List Byte) : (s.memWrite space off bs).mirrorSeen = s.mirrorSeen := rfl
@[simp] theorem State.memWrite_mirrorSeq (space off : Nat) (bs : List Byte) : (s.memWrite space off bs).mirrorSeq = s.mirrorSeq := rfl
@[simp] theorem State.memWrite_mirrorQueue (space off : Nat) (bs : List Byte) : (s.memWrite space off bs).mirrorQueue = s.mirrorQueue := rfl
@[simp] theorem State.memWrite_mirrorHeld (space off : Nat) (bs : List Byte) : (s.memWrite space off bs).mirrorHeld = s.mirrorHeld := rfl
@[simp] theorem State.memWrite_rings (space off : Nat) (bs : List Byte) : (s.memWrite space off bs).rings = s.rings := rfl
@[simp] theorem State.memWrite_credits (space off : Nat) (bs : List Byte) : (s.memWrite space off bs).credits = s.credits := rfl
@[simp] theorem State.memWrite_buckets (space off : Nat) (bs : List Byte) : (s.memWrite space off bs).buckets = s.buckets := rfl
@[simp] theorem State.memWrite_moves (space off : Nat) (bs : List Byte) : (s.memWrite space off bs).moves = s.moves := rfl
@[simp] theorem State.memWrite_linkLocals (space off : Nat) (bs : List Byte) : (s.memWrite space off bs).linkLocals = s.linkLocals := rfl
@[simp] theorem State.memWrite_ports (space off : Nat) (bs : List Byte) : (s.memWrite space off bs).ports = s.ports := rfl
@[simp] theorem State.memWrite_elsLost (space off : Nat) (bs : List Byte) : (s.memWrite space off bs).elsLost = s.elsLost := rfl
@[simp] theorem State.memWrite_elsSince (space off : Nat) (bs : List Byte) : (s.memWrite space off bs).elsSince = s.elsSince := rfl
@[simp] theorem State.memWrite_elsOn (space off : Nat) (bs : List Byte) : (s.memWrite space off bs).elsOn = s.elsOn := rfl
@[simp] theorem State.memWrite_reports (space off : Nat) (bs : List Byte) : (s.memWrite space off bs).reports = s.reports := rfl
@[simp] theorem State.memWrite_ownerKey (space off : Nat) (bs : List Byte) : (s.memWrite space off bs).ownerKey = s.ownerKey := rfl
@[simp] theorem State.memWrite_pools (space off : Nat) (bs : List Byte) : (s.memWrite space off bs).pools = s.pools := rfl
@[simp] theorem State.memWrite_owners (space off : Nat) (bs : List Byte) : (s.memWrite space off bs).owners = s.owners := rfl
@[simp] theorem State.memWrite_cvus (space off : Nat) (bs : List Byte) : (s.memWrite space off bs).cvus = s.cvus := rfl
@[simp] theorem State.memWrite_scanJobs (space off : Nat) (bs : List Byte) : (s.memWrite space off bs).scanJobs = s.scanJobs := rfl
@[simp] theorem State.memWrite_sus (space off : Nat) (bs : List Byte) : (s.memWrite space off bs).sus = s.sus := rfl
@[simp] theorem State.memWrite_suBufs (space off : Nat) (bs : List Byte) : (s.memWrite space off bs).suBufs = s.suBufs := rfl
@[simp] theorem State.memWrite_ctxs (space off : Nat) (bs : List Byte) : (s.memWrite space off bs).ctxs = s.ctxs := rfl
@[simp] theorem State.memWrite_ringDone (space off : Nat) (bs : List Byte) : (s.memWrite space off bs).ringDone = s.ringDone := rfl
@[simp] theorem State.memWrite_boot (space off : Nat) (bs : List Byte) : (s.memWrite space off bs).boot = s.boot := rfl
@[simp] theorem State.memWrite_qps (space off : Nat) (bs : List Byte) : (s.memWrite space off bs).qps = s.qps := rfl
@[simp] theorem State.memWrite_hostRings (space off : Nat) (bs : List Byte) : (s.memWrite space off bs).hostRings = s.hostRings := rfl
@[simp] theorem State.memWrite_powerEntry (space off : Nat) (bs : List Byte) : (s.memWrite space off bs).powerEntry = s.powerEntry := rfl
@[simp] theorem State.memWrite_powerWake (space off : Nat) (bs : List Byte) : (s.memWrite space off bs).powerWake = s.powerWake := rfl
@[simp] theorem State.memWrite_saved (space off : Nat) (bs : List Byte) : (s.memWrite space off bs).saved = s.saved := rfl
@[simp] theorem State.memWrite_govPower (space off : Nat) (bs : List Byte) : (s.memWrite space off bs).govPower = s.govPower := rfl
@[simp] theorem State.memWrite_thermHold (space off : Nat) (bs : List Byte) : (s.memWrite space off bs).thermHold = s.thermHold := rfl
@[simp] theorem State.memWrite_operatorKeys (space off : Nat) (bs : List Byte) : (s.memWrite space off bs).operatorKeys = s.operatorKeys := rfl
@[simp] theorem State.memWrite_nvKey (space off : Nat) (bs : List Byte) : (s.memWrite space off bs).nvKey = s.nvKey := rfl
@[simp] theorem State.memWrite_svnFuses (space off : Nat) (bs : List Byte) : (s.memWrite space off bs).svnFuses = s.svnFuses := rfl
@[simp] theorem State.memWrite_rollback (space off : Nat) (bs : List Byte) : (s.memWrite space off bs).rollback = s.rollback := rfl
@[simp] theorem State.memWrite_bootCount (space off : Nat) (bs : List Byte) : (s.memWrite space off bs).bootCount = s.bootCount := rfl
@[simp] theorem State.memWrite_fwRunning (space off : Nat) (bs : List Byte) : (s.memWrite space off bs).fwRunning = s.fwRunning := rfl
@[simp] theorem State.memWrite_fwStandby (space off : Nat) (bs : List Byte) : (s.memWrite space off bs).fwStandby = s.fwStandby := rfl
@[simp] theorem State.memWrite_fwMark (space off : Nat) (bs : List Byte) : (s.memWrite space off bs).fwMark = s.fwMark := rfl
@[simp] theorem State.memWrite_fwOwn (space off : Nat) (bs : List Byte) : (s.memWrite space off bs).fwOwn = s.fwOwn := rfl
@[simp] theorem State.memWrite_fwErasing (space off : Nat) (bs : List Byte) : (s.memWrite space off bs).fwErasing = s.fwErasing := rfl
@[simp] theorem State.memWrite_nvErasing (space off : Nat) (bs : List Byte) : (s.memWrite space off bs).nvErasing = s.nvErasing := rfl
@[simp] theorem State.memWrite_nvMark (space off : Nat) (bs : List Byte) : (s.memWrite space off bs).nvMark = s.nvMark := rfl
@[simp] theorem State.memWrite_imageWritten (space off : Nat) (bs : List Byte) : (s.memWrite space off bs).imageWritten = s.imageWritten := rfl
@[simp] theorem State.memWrite_flash (space off : Nat) (bs : List Byte) : (s.memWrite space off bs).flash = s.flash := rfl
@[simp] theorem State.memWrite_journalSeq (space off : Nat) (bs : List Byte) : (s.memWrite space off bs).journalSeq = s.journalSeq := rfl
@[simp] theorem State.memWrite_sessions (space off : Nat) (bs : List Byte) : (s.memWrite space off bs).sessions = s.sessions := rfl
@[simp] theorem State.memWrite_sources (space off : Nat) (bs : List Byte) : (s.memWrite space off bs).sources = s.sources := rfl
@[simp] theorem State.memWrite_watches (space off : Nat) (bs : List Byte) : (s.memWrite space off bs).watches = s.watches := rfl
@[simp] theorem State.memWrite_marshal (space off : Nat) (bs : List Byte) : (s.memWrite space off bs).marshal = s.marshal := rfl
@[simp] theorem State.memWrite_guardStore (space off : Nat) (bs : List Byte) : (s.memWrite space off bs).guardStore = s.guardStore := rfl
@[simp] theorem State.memWrite_scratchSeen (space off : Nat) (bs : List Byte) : (s.memWrite space off bs).scratchSeen = s.scratchSeen := rfl
@[simp] theorem State.memWrite_resetLow (space off : Nat) (bs : List Byte) : (s.memWrite space off bs).resetLow = s.resetLow := rfl
@[simp] theorem State.memWrite_aopDead (space off : Nat) (bs : List Byte) : (s.memWrite space off bs).aopDead = s.aopDead := rfl
@[simp] theorem State.memWrite_tripped (space off : Nat) (bs : List Byte) : (s.memWrite space off bs).tripped = s.tripped := rfl
@[simp] theorem State.memWrite_inputBlocked (space off : Nat) (bs : List Byte) : (s.memWrite space off bs).inputBlocked = s.inputBlocked := rfl
@[simp] theorem State.memWrite_sideband (space off : Nat) (bs : List Byte) : (s.memWrite space off bs).sideband = s.sideband := rfl
@[simp] theorem State.memWrite_dimmKeep (space off : Nat) (bs : List Byte) : (s.memWrite space off bs).dimmKeep = s.dimmKeep := rfl
@[simp] theorem State.memWrite_hbmHold (space off : Nat) (bs : List Byte) : (s.memWrite space off bs).hbmHold = s.hbmHold := rfl
@[simp] theorem State.memWrite_govAt (space off : Nat) (bs : List Byte) : (s.memWrite space off bs).govAt = s.govAt := rfl
@[simp] theorem State.memWrite_sidebandAt (space off : Nat) (bs : List Byte) : (s.memWrite space off bs).sidebandAt = s.sidebandAt := rfl
@[simp] theorem State.memWrite_rd (space off : Nat) (bs : List Byte) (ob : ObjCode) (jj : Nat) : (s.memWrite space off bs).rd ob jj = s.rd ob jj := rfl
@[simp] theorem State.memWrite_fld (space off : Nat) (bs : List Byte) (ob : ObjCode) (jj ll ww : Nat) : (s.memWrite space off bs).fld ob jj ll ww = s.fld ob jj ll ww := rfl

/-! `State.send` -/

@[simp] theorem State.send_pending (o : Out) : (s.send o).pending = s.pending := rfl
@[simp] theorem State.send_ident (o : Out) : (s.send o).ident = s.ident := rfl
@[simp] theorem State.send_now (o : Out) : (s.send o).now = s.now := rfl
@[simp] theorem State.send_free (o : Out) : (s.send o).free = s.free := rfl
@[simp] theorem State.send_objs (o : Out) : (s.send o).objs = s.objs := rfl
@[simp] theorem State.send_mem (o : Out) : (s.send o).mem = s.mem := rfl
@[simp] theorem State.send_out (o : Out) : (s.send o).out = s.out ++ [o] := rfl
@[simp] theorem State.send_cores (o : Out) : (s.send o).cores = s.cores := rfl
@[simp] theorem State.send_rkes (o : Out) : (s.send o).rkes = s.rkes := rfl
@[simp] theorem State.send_rateWindow (o : Out) : (s.send o).rateWindow = s.rateWindow := rfl
@[simp] theorem State.send_guardRanges (o : Out) : (s.send o).guardRanges = s.guardRanges := rfl
@[simp] theorem State.send_dimmCopy (o : Out) : (s.send o).dimmCopy = s.dimmCopy := rfl
@[simp] theorem State.send_recals (o : Out) : (s.send o).recals = s.recals := rfl
@[simp] theorem State.send_patrols (o : Out) : (s.send o).patrols = s.patrols := rfl
@[simp] theorem State.send_ramps (o : Out) : (s.send o).ramps = s.ramps := rfl
@[simp] theorem State.send_waiting (o : Out) : (s.send o).waiting = s.waiting := rfl
@[simp] theorem State.send_sent (o : Out) : (s.send o).sent = s.sent := rfl
@[simp] theorem State.send_quarantine (o : Out) : (s.send o).quarantine = s.quarantine := rfl
@[simp] theorem State.send_srcSts (o : Out) : (s.send o).srcSts = s.srcSts := rfl
@[simp] theorem State.send_dstSts (o : Out) : (s.send o).dstSts = s.dstSts := rfl
@[simp] theorem State.send_guards (o : Out) : (s.send o).guards = s.guards := rfl
@[simp] theorem State.send_heldReqs (o : Out) : (s.send o).heldReqs = s.heldReqs := rfl
@[simp] theorem State.send_frames (o : Out) : (s.send o).frames = s.frames := rfl
@[simp] theorem State.send_copies (o : Out) : (s.send o).copies = s.copies := rfl
@[simp] theorem State.send_nextFrame (o : Out) : (s.send o).nextFrame = s.nextFrame := rfl
@[simp] theorem State.send_nextPick (o : Out) : (s.send o).nextPick = s.nextPick := rfl
@[simp] theorem State.send_cellTime (o : Out) : (s.send o).cellTime = s.cellTime := rfl
@[simp] theorem State.send_charges (o : Out) : (s.send o).charges = s.charges := rfl
@[simp] theorem State.send_offAt (o : Out) : (s.send o).offAt = s.offAt := rfl
@[simp] theorem State.send_grantPtr (o : Out) : (s.send o).grantPtr = s.grantPtr := rfl
@[simp] theorem State.send_acceptPtr (o : Out) : (s.send o).acceptPtr = s.acceptPtr := rfl
@[simp] theorem State.send_mirrorSeen (o : Out) : (s.send o).mirrorSeen = s.mirrorSeen := rfl
@[simp] theorem State.send_mirrorSeq (o : Out) : (s.send o).mirrorSeq = s.mirrorSeq := rfl
@[simp] theorem State.send_mirrorQueue (o : Out) : (s.send o).mirrorQueue = s.mirrorQueue := rfl
@[simp] theorem State.send_mirrorHeld (o : Out) : (s.send o).mirrorHeld = s.mirrorHeld := rfl
@[simp] theorem State.send_rings (o : Out) : (s.send o).rings = s.rings := rfl
@[simp] theorem State.send_credits (o : Out) : (s.send o).credits = s.credits := rfl
@[simp] theorem State.send_buckets (o : Out) : (s.send o).buckets = s.buckets := rfl
@[simp] theorem State.send_moves (o : Out) : (s.send o).moves = s.moves := rfl
@[simp] theorem State.send_linkLocals (o : Out) : (s.send o).linkLocals = s.linkLocals := rfl
@[simp] theorem State.send_ports (o : Out) : (s.send o).ports = s.ports := rfl
@[simp] theorem State.send_elsLost (o : Out) : (s.send o).elsLost = s.elsLost := rfl
@[simp] theorem State.send_elsSince (o : Out) : (s.send o).elsSince = s.elsSince := rfl
@[simp] theorem State.send_elsOn (o : Out) : (s.send o).elsOn = s.elsOn := rfl
@[simp] theorem State.send_reports (o : Out) : (s.send o).reports = s.reports := rfl
@[simp] theorem State.send_ownerKey (o : Out) : (s.send o).ownerKey = s.ownerKey := rfl
@[simp] theorem State.send_pools (o : Out) : (s.send o).pools = s.pools := rfl
@[simp] theorem State.send_owners (o : Out) : (s.send o).owners = s.owners := rfl
@[simp] theorem State.send_cvus (o : Out) : (s.send o).cvus = s.cvus := rfl
@[simp] theorem State.send_scanJobs (o : Out) : (s.send o).scanJobs = s.scanJobs := rfl
@[simp] theorem State.send_sus (o : Out) : (s.send o).sus = s.sus := rfl
@[simp] theorem State.send_suBufs (o : Out) : (s.send o).suBufs = s.suBufs := rfl
@[simp] theorem State.send_ctxs (o : Out) : (s.send o).ctxs = s.ctxs := rfl
@[simp] theorem State.send_ringDone (o : Out) : (s.send o).ringDone = s.ringDone := rfl
@[simp] theorem State.send_boot (o : Out) : (s.send o).boot = s.boot := rfl
@[simp] theorem State.send_qps (o : Out) : (s.send o).qps = s.qps := rfl
@[simp] theorem State.send_hostRings (o : Out) : (s.send o).hostRings = s.hostRings := rfl
@[simp] theorem State.send_powerEntry (o : Out) : (s.send o).powerEntry = s.powerEntry := rfl
@[simp] theorem State.send_powerWake (o : Out) : (s.send o).powerWake = s.powerWake := rfl
@[simp] theorem State.send_saved (o : Out) : (s.send o).saved = s.saved := rfl
@[simp] theorem State.send_govPower (o : Out) : (s.send o).govPower = s.govPower := rfl
@[simp] theorem State.send_thermHold (o : Out) : (s.send o).thermHold = s.thermHold := rfl
@[simp] theorem State.send_operatorKeys (o : Out) : (s.send o).operatorKeys = s.operatorKeys := rfl
@[simp] theorem State.send_nvKey (o : Out) : (s.send o).nvKey = s.nvKey := rfl
@[simp] theorem State.send_svnFuses (o : Out) : (s.send o).svnFuses = s.svnFuses := rfl
@[simp] theorem State.send_rollback (o : Out) : (s.send o).rollback = s.rollback := rfl
@[simp] theorem State.send_bootCount (o : Out) : (s.send o).bootCount = s.bootCount := rfl
@[simp] theorem State.send_fwRunning (o : Out) : (s.send o).fwRunning = s.fwRunning := rfl
@[simp] theorem State.send_fwStandby (o : Out) : (s.send o).fwStandby = s.fwStandby := rfl
@[simp] theorem State.send_fwMark (o : Out) : (s.send o).fwMark = s.fwMark := rfl
@[simp] theorem State.send_fwOwn (o : Out) : (s.send o).fwOwn = s.fwOwn := rfl
@[simp] theorem State.send_fwErasing (o : Out) : (s.send o).fwErasing = s.fwErasing := rfl
@[simp] theorem State.send_nvErasing (o : Out) : (s.send o).nvErasing = s.nvErasing := rfl
@[simp] theorem State.send_nvMark (o : Out) : (s.send o).nvMark = s.nvMark := rfl
@[simp] theorem State.send_imageWritten (o : Out) : (s.send o).imageWritten = s.imageWritten := rfl
@[simp] theorem State.send_flash (o : Out) : (s.send o).flash = s.flash := rfl
@[simp] theorem State.send_journalSeq (o : Out) : (s.send o).journalSeq = s.journalSeq := rfl
@[simp] theorem State.send_sessions (o : Out) : (s.send o).sessions = s.sessions := rfl
@[simp] theorem State.send_sources (o : Out) : (s.send o).sources = s.sources := rfl
@[simp] theorem State.send_watches (o : Out) : (s.send o).watches = s.watches := rfl
@[simp] theorem State.send_marshal (o : Out) : (s.send o).marshal = s.marshal := rfl
@[simp] theorem State.send_guardStore (o : Out) : (s.send o).guardStore = s.guardStore := rfl
@[simp] theorem State.send_scratchSeen (o : Out) : (s.send o).scratchSeen = s.scratchSeen := rfl
@[simp] theorem State.send_resetLow (o : Out) : (s.send o).resetLow = s.resetLow := rfl
@[simp] theorem State.send_aopDead (o : Out) : (s.send o).aopDead = s.aopDead := rfl
@[simp] theorem State.send_tripped (o : Out) : (s.send o).tripped = s.tripped := rfl
@[simp] theorem State.send_inputBlocked (o : Out) : (s.send o).inputBlocked = s.inputBlocked := rfl
@[simp] theorem State.send_sideband (o : Out) : (s.send o).sideband = s.sideband := rfl
@[simp] theorem State.send_dimmKeep (o : Out) : (s.send o).dimmKeep = s.dimmKeep := rfl
@[simp] theorem State.send_hbmHold (o : Out) : (s.send o).hbmHold = s.hbmHold := rfl
@[simp] theorem State.send_govAt (o : Out) : (s.send o).govAt = s.govAt := rfl
@[simp] theorem State.send_sidebandAt (o : Out) : (s.send o).sidebandAt = s.sidebandAt := rfl
@[simp] theorem State.send_rd (o : Out) (ob : ObjCode) (jj : Nat) : (s.send o).rd ob jj = s.rd ob jj := rfl
@[simp] theorem State.send_fld (o : Out) (ob : ObjCode) (jj ll ww : Nat) : (s.send o).fld ob jj ll ww = s.fld ob jj ll ww := rfl
@[simp] theorem State.send_mem8 (o : Out) (sp of : Nat) : (s.send o).mem8 sp of = s.mem8 sp of := rfl

/-! `State.setCore` -/

@[simp] theorem State.setCore_pending (n : Nat) (c : CoreSt) : (s.setCore n c).pending = s.pending := rfl
@[simp] theorem State.setCore_ident (n : Nat) (c : CoreSt) : (s.setCore n c).ident = s.ident := rfl
@[simp] theorem State.setCore_now (n : Nat) (c : CoreSt) : (s.setCore n c).now = s.now := rfl
@[simp] theorem State.setCore_free (n : Nat) (c : CoreSt) : (s.setCore n c).free = s.free := rfl
@[simp] theorem State.setCore_objs (n : Nat) (c : CoreSt) : (s.setCore n c).objs = s.objs := rfl
@[simp] theorem State.setCore_mem (n : Nat) (c : CoreSt) : (s.setCore n c).mem = s.mem := rfl
@[simp] theorem State.setCore_out (n : Nat) (c : CoreSt) : (s.setCore n c).out = s.out := rfl
@[simp] theorem State.setCore_rkes (n : Nat) (c : CoreSt) : (s.setCore n c).rkes = s.rkes := rfl
@[simp] theorem State.setCore_rateWindow (n : Nat) (c : CoreSt) : (s.setCore n c).rateWindow = s.rateWindow := rfl
@[simp] theorem State.setCore_guardRanges (n : Nat) (c : CoreSt) : (s.setCore n c).guardRanges = s.guardRanges := rfl
@[simp] theorem State.setCore_dimmCopy (n : Nat) (c : CoreSt) : (s.setCore n c).dimmCopy = s.dimmCopy := rfl
@[simp] theorem State.setCore_recals (n : Nat) (c : CoreSt) : (s.setCore n c).recals = s.recals := rfl
@[simp] theorem State.setCore_patrols (n : Nat) (c : CoreSt) : (s.setCore n c).patrols = s.patrols := rfl
@[simp] theorem State.setCore_ramps (n : Nat) (c : CoreSt) : (s.setCore n c).ramps = s.ramps := rfl
@[simp] theorem State.setCore_waiting (n : Nat) (c : CoreSt) : (s.setCore n c).waiting = s.waiting := rfl
@[simp] theorem State.setCore_sent (n : Nat) (c : CoreSt) : (s.setCore n c).sent = s.sent := rfl
@[simp] theorem State.setCore_quarantine (n : Nat) (c : CoreSt) : (s.setCore n c).quarantine = s.quarantine := rfl
@[simp] theorem State.setCore_srcSts (n : Nat) (c : CoreSt) : (s.setCore n c).srcSts = s.srcSts := rfl
@[simp] theorem State.setCore_dstSts (n : Nat) (c : CoreSt) : (s.setCore n c).dstSts = s.dstSts := rfl
@[simp] theorem State.setCore_guards (n : Nat) (c : CoreSt) : (s.setCore n c).guards = s.guards := rfl
@[simp] theorem State.setCore_heldReqs (n : Nat) (c : CoreSt) : (s.setCore n c).heldReqs = s.heldReqs := rfl
@[simp] theorem State.setCore_frames (n : Nat) (c : CoreSt) : (s.setCore n c).frames = s.frames := rfl
@[simp] theorem State.setCore_copies (n : Nat) (c : CoreSt) : (s.setCore n c).copies = s.copies := rfl
@[simp] theorem State.setCore_nextFrame (n : Nat) (c : CoreSt) : (s.setCore n c).nextFrame = s.nextFrame := rfl
@[simp] theorem State.setCore_nextPick (n : Nat) (c : CoreSt) : (s.setCore n c).nextPick = s.nextPick := rfl
@[simp] theorem State.setCore_cellTime (n : Nat) (c : CoreSt) : (s.setCore n c).cellTime = s.cellTime := rfl
@[simp] theorem State.setCore_charges (n : Nat) (c : CoreSt) : (s.setCore n c).charges = s.charges := rfl
@[simp] theorem State.setCore_offAt (n : Nat) (c : CoreSt) : (s.setCore n c).offAt = s.offAt := rfl
@[simp] theorem State.setCore_grantPtr (n : Nat) (c : CoreSt) : (s.setCore n c).grantPtr = s.grantPtr := rfl
@[simp] theorem State.setCore_acceptPtr (n : Nat) (c : CoreSt) : (s.setCore n c).acceptPtr = s.acceptPtr := rfl
@[simp] theorem State.setCore_mirrorSeen (n : Nat) (c : CoreSt) : (s.setCore n c).mirrorSeen = s.mirrorSeen := rfl
@[simp] theorem State.setCore_mirrorSeq (n : Nat) (c : CoreSt) : (s.setCore n c).mirrorSeq = s.mirrorSeq := rfl
@[simp] theorem State.setCore_mirrorQueue (n : Nat) (c : CoreSt) : (s.setCore n c).mirrorQueue = s.mirrorQueue := rfl
@[simp] theorem State.setCore_mirrorHeld (n : Nat) (c : CoreSt) : (s.setCore n c).mirrorHeld = s.mirrorHeld := rfl
@[simp] theorem State.setCore_rings (n : Nat) (c : CoreSt) : (s.setCore n c).rings = s.rings := rfl
@[simp] theorem State.setCore_credits (n : Nat) (c : CoreSt) : (s.setCore n c).credits = s.credits := rfl
@[simp] theorem State.setCore_buckets (n : Nat) (c : CoreSt) : (s.setCore n c).buckets = s.buckets := rfl
@[simp] theorem State.setCore_moves (n : Nat) (c : CoreSt) : (s.setCore n c).moves = s.moves := rfl
@[simp] theorem State.setCore_linkLocals (n : Nat) (c : CoreSt) : (s.setCore n c).linkLocals = s.linkLocals := rfl
@[simp] theorem State.setCore_ports (n : Nat) (c : CoreSt) : (s.setCore n c).ports = s.ports := rfl
@[simp] theorem State.setCore_elsLost (n : Nat) (c : CoreSt) : (s.setCore n c).elsLost = s.elsLost := rfl
@[simp] theorem State.setCore_elsSince (n : Nat) (c : CoreSt) : (s.setCore n c).elsSince = s.elsSince := rfl
@[simp] theorem State.setCore_elsOn (n : Nat) (c : CoreSt) : (s.setCore n c).elsOn = s.elsOn := rfl
@[simp] theorem State.setCore_reports (n : Nat) (c : CoreSt) : (s.setCore n c).reports = s.reports := rfl
@[simp] theorem State.setCore_ownerKey (n : Nat) (c : CoreSt) : (s.setCore n c).ownerKey = s.ownerKey := rfl
@[simp] theorem State.setCore_pools (n : Nat) (c : CoreSt) : (s.setCore n c).pools = s.pools := rfl
@[simp] theorem State.setCore_owners (n : Nat) (c : CoreSt) : (s.setCore n c).owners = s.owners := rfl
@[simp] theorem State.setCore_cvus (n : Nat) (c : CoreSt) : (s.setCore n c).cvus = s.cvus := rfl
@[simp] theorem State.setCore_scanJobs (n : Nat) (c : CoreSt) : (s.setCore n c).scanJobs = s.scanJobs := rfl
@[simp] theorem State.setCore_sus (n : Nat) (c : CoreSt) : (s.setCore n c).sus = s.sus := rfl
@[simp] theorem State.setCore_suBufs (n : Nat) (c : CoreSt) : (s.setCore n c).suBufs = s.suBufs := rfl
@[simp] theorem State.setCore_ctxs (n : Nat) (c : CoreSt) : (s.setCore n c).ctxs = s.ctxs := rfl
@[simp] theorem State.setCore_ringDone (n : Nat) (c : CoreSt) : (s.setCore n c).ringDone = s.ringDone := rfl
@[simp] theorem State.setCore_boot (n : Nat) (c : CoreSt) : (s.setCore n c).boot = s.boot := rfl
@[simp] theorem State.setCore_qps (n : Nat) (c : CoreSt) : (s.setCore n c).qps = s.qps := rfl
@[simp] theorem State.setCore_hostRings (n : Nat) (c : CoreSt) : (s.setCore n c).hostRings = s.hostRings := rfl
@[simp] theorem State.setCore_powerEntry (n : Nat) (c : CoreSt) : (s.setCore n c).powerEntry = s.powerEntry := rfl
@[simp] theorem State.setCore_powerWake (n : Nat) (c : CoreSt) : (s.setCore n c).powerWake = s.powerWake := rfl
@[simp] theorem State.setCore_saved (n : Nat) (c : CoreSt) : (s.setCore n c).saved = s.saved := rfl
@[simp] theorem State.setCore_govPower (n : Nat) (c : CoreSt) : (s.setCore n c).govPower = s.govPower := rfl
@[simp] theorem State.setCore_thermHold (n : Nat) (c : CoreSt) : (s.setCore n c).thermHold = s.thermHold := rfl
@[simp] theorem State.setCore_operatorKeys (n : Nat) (c : CoreSt) : (s.setCore n c).operatorKeys = s.operatorKeys := rfl
@[simp] theorem State.setCore_nvKey (n : Nat) (c : CoreSt) : (s.setCore n c).nvKey = s.nvKey := rfl
@[simp] theorem State.setCore_svnFuses (n : Nat) (c : CoreSt) : (s.setCore n c).svnFuses = s.svnFuses := rfl
@[simp] theorem State.setCore_rollback (n : Nat) (c : CoreSt) : (s.setCore n c).rollback = s.rollback := rfl
@[simp] theorem State.setCore_bootCount (n : Nat) (c : CoreSt) : (s.setCore n c).bootCount = s.bootCount := rfl
@[simp] theorem State.setCore_fwRunning (n : Nat) (c : CoreSt) : (s.setCore n c).fwRunning = s.fwRunning := rfl
@[simp] theorem State.setCore_fwStandby (n : Nat) (c : CoreSt) : (s.setCore n c).fwStandby = s.fwStandby := rfl
@[simp] theorem State.setCore_fwMark (n : Nat) (c : CoreSt) : (s.setCore n c).fwMark = s.fwMark := rfl
@[simp] theorem State.setCore_fwOwn (n : Nat) (c : CoreSt) : (s.setCore n c).fwOwn = s.fwOwn := rfl
@[simp] theorem State.setCore_fwErasing (n : Nat) (c : CoreSt) : (s.setCore n c).fwErasing = s.fwErasing := rfl
@[simp] theorem State.setCore_nvErasing (n : Nat) (c : CoreSt) : (s.setCore n c).nvErasing = s.nvErasing := rfl
@[simp] theorem State.setCore_nvMark (n : Nat) (c : CoreSt) : (s.setCore n c).nvMark = s.nvMark := rfl
@[simp] theorem State.setCore_imageWritten (n : Nat) (c : CoreSt) : (s.setCore n c).imageWritten = s.imageWritten := rfl
@[simp] theorem State.setCore_flash (n : Nat) (c : CoreSt) : (s.setCore n c).flash = s.flash := rfl
@[simp] theorem State.setCore_journalSeq (n : Nat) (c : CoreSt) : (s.setCore n c).journalSeq = s.journalSeq := rfl
@[simp] theorem State.setCore_sessions (n : Nat) (c : CoreSt) : (s.setCore n c).sessions = s.sessions := rfl
@[simp] theorem State.setCore_sources (n : Nat) (c : CoreSt) : (s.setCore n c).sources = s.sources := rfl
@[simp] theorem State.setCore_watches (n : Nat) (c : CoreSt) : (s.setCore n c).watches = s.watches := rfl
@[simp] theorem State.setCore_marshal (n : Nat) (c : CoreSt) : (s.setCore n c).marshal = s.marshal := rfl
@[simp] theorem State.setCore_guardStore (n : Nat) (c : CoreSt) : (s.setCore n c).guardStore = s.guardStore := rfl
@[simp] theorem State.setCore_scratchSeen (n : Nat) (c : CoreSt) : (s.setCore n c).scratchSeen = s.scratchSeen := rfl
@[simp] theorem State.setCore_resetLow (n : Nat) (c : CoreSt) : (s.setCore n c).resetLow = s.resetLow := rfl
@[simp] theorem State.setCore_aopDead (n : Nat) (c : CoreSt) : (s.setCore n c).aopDead = s.aopDead := rfl
@[simp] theorem State.setCore_tripped (n : Nat) (c : CoreSt) : (s.setCore n c).tripped = s.tripped := rfl
@[simp] theorem State.setCore_inputBlocked (n : Nat) (c : CoreSt) : (s.setCore n c).inputBlocked = s.inputBlocked := rfl
@[simp] theorem State.setCore_sideband (n : Nat) (c : CoreSt) : (s.setCore n c).sideband = s.sideband := rfl
@[simp] theorem State.setCore_dimmKeep (n : Nat) (c : CoreSt) : (s.setCore n c).dimmKeep = s.dimmKeep := rfl
@[simp] theorem State.setCore_hbmHold (n : Nat) (c : CoreSt) : (s.setCore n c).hbmHold = s.hbmHold := rfl
@[simp] theorem State.setCore_govAt (n : Nat) (c : CoreSt) : (s.setCore n c).govAt = s.govAt := rfl
@[simp] theorem State.setCore_sidebandAt (n : Nat) (c : CoreSt) : (s.setCore n c).sidebandAt = s.sidebandAt := rfl
@[simp] theorem State.setCore_rd (n : Nat) (c : CoreSt) (ob : ObjCode) (jj : Nat) : (s.setCore n c).rd ob jj = s.rd ob jj := rfl
@[simp] theorem State.setCore_fld (n : Nat) (c : CoreSt) (ob : ObjCode) (jj ll ww : Nat) : (s.setCore n c).fld ob jj ll ww = s.fld ob jj ll ww := rfl
@[simp] theorem State.setCore_mem8 (n : Nat) (c : CoreSt) (sp of : Nat) : (s.setCore n c).mem8 sp of = s.mem8 sp of := rfl

/-! `State.setRke` -/

@[simp] theorem State.setRke_pending (m : Nat) (r : RkeSt) : (s.setRke m r).pending = s.pending := rfl
@[simp] theorem State.setRke_ident (m : Nat) (r : RkeSt) : (s.setRke m r).ident = s.ident := rfl
@[simp] theorem State.setRke_now (m : Nat) (r : RkeSt) : (s.setRke m r).now = s.now := rfl
@[simp] theorem State.setRke_free (m : Nat) (r : RkeSt) : (s.setRke m r).free = s.free := rfl
@[simp] theorem State.setRke_objs (m : Nat) (r : RkeSt) : (s.setRke m r).objs = s.objs := rfl
@[simp] theorem State.setRke_mem (m : Nat) (r : RkeSt) : (s.setRke m r).mem = s.mem := rfl
@[simp] theorem State.setRke_out (m : Nat) (r : RkeSt) : (s.setRke m r).out = s.out := rfl
@[simp] theorem State.setRke_cores (m : Nat) (r : RkeSt) : (s.setRke m r).cores = s.cores := rfl
@[simp] theorem State.setRke_rateWindow (m : Nat) (r : RkeSt) : (s.setRke m r).rateWindow = s.rateWindow := rfl
@[simp] theorem State.setRke_guardRanges (m : Nat) (r : RkeSt) : (s.setRke m r).guardRanges = s.guardRanges := rfl
@[simp] theorem State.setRke_dimmCopy (m : Nat) (r : RkeSt) : (s.setRke m r).dimmCopy = s.dimmCopy := rfl
@[simp] theorem State.setRke_recals (m : Nat) (r : RkeSt) : (s.setRke m r).recals = s.recals := rfl
@[simp] theorem State.setRke_patrols (m : Nat) (r : RkeSt) : (s.setRke m r).patrols = s.patrols := rfl
@[simp] theorem State.setRke_ramps (m : Nat) (r : RkeSt) : (s.setRke m r).ramps = s.ramps := rfl
@[simp] theorem State.setRke_waiting (m : Nat) (r : RkeSt) : (s.setRke m r).waiting = s.waiting := rfl
@[simp] theorem State.setRke_sent (m : Nat) (r : RkeSt) : (s.setRke m r).sent = s.sent := rfl
@[simp] theorem State.setRke_quarantine (m : Nat) (r : RkeSt) : (s.setRke m r).quarantine = s.quarantine := rfl
@[simp] theorem State.setRke_srcSts (m : Nat) (r : RkeSt) : (s.setRke m r).srcSts = s.srcSts := rfl
@[simp] theorem State.setRke_dstSts (m : Nat) (r : RkeSt) : (s.setRke m r).dstSts = s.dstSts := rfl
@[simp] theorem State.setRke_guards (m : Nat) (r : RkeSt) : (s.setRke m r).guards = s.guards := rfl
@[simp] theorem State.setRke_heldReqs (m : Nat) (r : RkeSt) : (s.setRke m r).heldReqs = s.heldReqs := rfl
@[simp] theorem State.setRke_frames (m : Nat) (r : RkeSt) : (s.setRke m r).frames = s.frames := rfl
@[simp] theorem State.setRke_copies (m : Nat) (r : RkeSt) : (s.setRke m r).copies = s.copies := rfl
@[simp] theorem State.setRke_nextFrame (m : Nat) (r : RkeSt) : (s.setRke m r).nextFrame = s.nextFrame := rfl
@[simp] theorem State.setRke_nextPick (m : Nat) (r : RkeSt) : (s.setRke m r).nextPick = s.nextPick := rfl
@[simp] theorem State.setRke_cellTime (m : Nat) (r : RkeSt) : (s.setRke m r).cellTime = s.cellTime := rfl
@[simp] theorem State.setRke_charges (m : Nat) (r : RkeSt) : (s.setRke m r).charges = s.charges := rfl
@[simp] theorem State.setRke_offAt (m : Nat) (r : RkeSt) : (s.setRke m r).offAt = s.offAt := rfl
@[simp] theorem State.setRke_grantPtr (m : Nat) (r : RkeSt) : (s.setRke m r).grantPtr = s.grantPtr := rfl
@[simp] theorem State.setRke_acceptPtr (m : Nat) (r : RkeSt) : (s.setRke m r).acceptPtr = s.acceptPtr := rfl
@[simp] theorem State.setRke_mirrorSeen (m : Nat) (r : RkeSt) : (s.setRke m r).mirrorSeen = s.mirrorSeen := rfl
@[simp] theorem State.setRke_mirrorSeq (m : Nat) (r : RkeSt) : (s.setRke m r).mirrorSeq = s.mirrorSeq := rfl
@[simp] theorem State.setRke_mirrorQueue (m : Nat) (r : RkeSt) : (s.setRke m r).mirrorQueue = s.mirrorQueue := rfl
@[simp] theorem State.setRke_mirrorHeld (m : Nat) (r : RkeSt) : (s.setRke m r).mirrorHeld = s.mirrorHeld := rfl
@[simp] theorem State.setRke_rings (m : Nat) (r : RkeSt) : (s.setRke m r).rings = s.rings := rfl
@[simp] theorem State.setRke_credits (m : Nat) (r : RkeSt) : (s.setRke m r).credits = s.credits := rfl
@[simp] theorem State.setRke_buckets (m : Nat) (r : RkeSt) : (s.setRke m r).buckets = s.buckets := rfl
@[simp] theorem State.setRke_moves (m : Nat) (r : RkeSt) : (s.setRke m r).moves = s.moves := rfl
@[simp] theorem State.setRke_linkLocals (m : Nat) (r : RkeSt) : (s.setRke m r).linkLocals = s.linkLocals := rfl
@[simp] theorem State.setRke_ports (m : Nat) (r : RkeSt) : (s.setRke m r).ports = s.ports := rfl
@[simp] theorem State.setRke_elsLost (m : Nat) (r : RkeSt) : (s.setRke m r).elsLost = s.elsLost := rfl
@[simp] theorem State.setRke_elsSince (m : Nat) (r : RkeSt) : (s.setRke m r).elsSince = s.elsSince := rfl
@[simp] theorem State.setRke_elsOn (m : Nat) (r : RkeSt) : (s.setRke m r).elsOn = s.elsOn := rfl
@[simp] theorem State.setRke_reports (m : Nat) (r : RkeSt) : (s.setRke m r).reports = s.reports := rfl
@[simp] theorem State.setRke_ownerKey (m : Nat) (r : RkeSt) : (s.setRke m r).ownerKey = s.ownerKey := rfl
@[simp] theorem State.setRke_pools (m : Nat) (r : RkeSt) : (s.setRke m r).pools = s.pools := rfl
@[simp] theorem State.setRke_owners (m : Nat) (r : RkeSt) : (s.setRke m r).owners = s.owners := rfl
@[simp] theorem State.setRke_cvus (m : Nat) (r : RkeSt) : (s.setRke m r).cvus = s.cvus := rfl
@[simp] theorem State.setRke_scanJobs (m : Nat) (r : RkeSt) : (s.setRke m r).scanJobs = s.scanJobs := rfl
@[simp] theorem State.setRke_sus (m : Nat) (r : RkeSt) : (s.setRke m r).sus = s.sus := rfl
@[simp] theorem State.setRke_suBufs (m : Nat) (r : RkeSt) : (s.setRke m r).suBufs = s.suBufs := rfl
@[simp] theorem State.setRke_ctxs (m : Nat) (r : RkeSt) : (s.setRke m r).ctxs = s.ctxs := rfl
@[simp] theorem State.setRke_ringDone (m : Nat) (r : RkeSt) : (s.setRke m r).ringDone = s.ringDone := rfl
@[simp] theorem State.setRke_boot (m : Nat) (r : RkeSt) : (s.setRke m r).boot = s.boot := rfl
@[simp] theorem State.setRke_qps (m : Nat) (r : RkeSt) : (s.setRke m r).qps = s.qps := rfl
@[simp] theorem State.setRke_hostRings (m : Nat) (r : RkeSt) : (s.setRke m r).hostRings = s.hostRings := rfl
@[simp] theorem State.setRke_powerEntry (m : Nat) (r : RkeSt) : (s.setRke m r).powerEntry = s.powerEntry := rfl
@[simp] theorem State.setRke_powerWake (m : Nat) (r : RkeSt) : (s.setRke m r).powerWake = s.powerWake := rfl
@[simp] theorem State.setRke_saved (m : Nat) (r : RkeSt) : (s.setRke m r).saved = s.saved := rfl
@[simp] theorem State.setRke_govPower (m : Nat) (r : RkeSt) : (s.setRke m r).govPower = s.govPower := rfl
@[simp] theorem State.setRke_thermHold (m : Nat) (r : RkeSt) : (s.setRke m r).thermHold = s.thermHold := rfl
@[simp] theorem State.setRke_operatorKeys (m : Nat) (r : RkeSt) : (s.setRke m r).operatorKeys = s.operatorKeys := rfl
@[simp] theorem State.setRke_nvKey (m : Nat) (r : RkeSt) : (s.setRke m r).nvKey = s.nvKey := rfl
@[simp] theorem State.setRke_svnFuses (m : Nat) (r : RkeSt) : (s.setRke m r).svnFuses = s.svnFuses := rfl
@[simp] theorem State.setRke_rollback (m : Nat) (r : RkeSt) : (s.setRke m r).rollback = s.rollback := rfl
@[simp] theorem State.setRke_bootCount (m : Nat) (r : RkeSt) : (s.setRke m r).bootCount = s.bootCount := rfl
@[simp] theorem State.setRke_fwRunning (m : Nat) (r : RkeSt) : (s.setRke m r).fwRunning = s.fwRunning := rfl
@[simp] theorem State.setRke_fwStandby (m : Nat) (r : RkeSt) : (s.setRke m r).fwStandby = s.fwStandby := rfl
@[simp] theorem State.setRke_fwMark (m : Nat) (r : RkeSt) : (s.setRke m r).fwMark = s.fwMark := rfl
@[simp] theorem State.setRke_fwOwn (m : Nat) (r : RkeSt) : (s.setRke m r).fwOwn = s.fwOwn := rfl
@[simp] theorem State.setRke_fwErasing (m : Nat) (r : RkeSt) : (s.setRke m r).fwErasing = s.fwErasing := rfl
@[simp] theorem State.setRke_nvErasing (m : Nat) (r : RkeSt) : (s.setRke m r).nvErasing = s.nvErasing := rfl
@[simp] theorem State.setRke_nvMark (m : Nat) (r : RkeSt) : (s.setRke m r).nvMark = s.nvMark := rfl
@[simp] theorem State.setRke_imageWritten (m : Nat) (r : RkeSt) : (s.setRke m r).imageWritten = s.imageWritten := rfl
@[simp] theorem State.setRke_flash (m : Nat) (r : RkeSt) : (s.setRke m r).flash = s.flash := rfl
@[simp] theorem State.setRke_journalSeq (m : Nat) (r : RkeSt) : (s.setRke m r).journalSeq = s.journalSeq := rfl
@[simp] theorem State.setRke_sessions (m : Nat) (r : RkeSt) : (s.setRke m r).sessions = s.sessions := rfl
@[simp] theorem State.setRke_sources (m : Nat) (r : RkeSt) : (s.setRke m r).sources = s.sources := rfl
@[simp] theorem State.setRke_watches (m : Nat) (r : RkeSt) : (s.setRke m r).watches = s.watches := rfl
@[simp] theorem State.setRke_marshal (m : Nat) (r : RkeSt) : (s.setRke m r).marshal = s.marshal := rfl
@[simp] theorem State.setRke_guardStore (m : Nat) (r : RkeSt) : (s.setRke m r).guardStore = s.guardStore := rfl
@[simp] theorem State.setRke_scratchSeen (m : Nat) (r : RkeSt) : (s.setRke m r).scratchSeen = s.scratchSeen := rfl
@[simp] theorem State.setRke_resetLow (m : Nat) (r : RkeSt) : (s.setRke m r).resetLow = s.resetLow := rfl
@[simp] theorem State.setRke_aopDead (m : Nat) (r : RkeSt) : (s.setRke m r).aopDead = s.aopDead := rfl
@[simp] theorem State.setRke_tripped (m : Nat) (r : RkeSt) : (s.setRke m r).tripped = s.tripped := rfl
@[simp] theorem State.setRke_inputBlocked (m : Nat) (r : RkeSt) : (s.setRke m r).inputBlocked = s.inputBlocked := rfl
@[simp] theorem State.setRke_sideband (m : Nat) (r : RkeSt) : (s.setRke m r).sideband = s.sideband := rfl
@[simp] theorem State.setRke_dimmKeep (m : Nat) (r : RkeSt) : (s.setRke m r).dimmKeep = s.dimmKeep := rfl
@[simp] theorem State.setRke_hbmHold (m : Nat) (r : RkeSt) : (s.setRke m r).hbmHold = s.hbmHold := rfl
@[simp] theorem State.setRke_govAt (m : Nat) (r : RkeSt) : (s.setRke m r).govAt = s.govAt := rfl
@[simp] theorem State.setRke_sidebandAt (m : Nat) (r : RkeSt) : (s.setRke m r).sidebandAt = s.sidebandAt := rfl
@[simp] theorem State.setRke_rd (m : Nat) (r : RkeSt) (ob : ObjCode) (jj : Nat) : (s.setRke m r).rd ob jj = s.rd ob jj := rfl
@[simp] theorem State.setRke_fld (m : Nat) (r : RkeSt) (ob : ObjCode) (jj ll ww : Nat) : (s.setRke m r).fld ob jj ll ww = s.fld ob jj ll ww := rfl
@[simp] theorem State.setRke_mem8 (m : Nat) (r : RkeSt) (sp of : Nat) : (s.setRke m r).mem8 sp of = s.mem8 sp of := rfl

/-! `State.setSrc` -/

@[simp] theorem State.setSrc_pending (e : Nat) (x : SrcSt) : (s.setSrc e x).pending = s.pending := rfl
@[simp] theorem State.setSrc_ident (e : Nat) (x : SrcSt) : (s.setSrc e x).ident = s.ident := rfl
@[simp] theorem State.setSrc_now (e : Nat) (x : SrcSt) : (s.setSrc e x).now = s.now := rfl
@[simp] theorem State.setSrc_free (e : Nat) (x : SrcSt) : (s.setSrc e x).free = s.free := rfl
@[simp] theorem State.setSrc_objs (e : Nat) (x : SrcSt) : (s.setSrc e x).objs = s.objs := rfl
@[simp] theorem State.setSrc_mem (e : Nat) (x : SrcSt) : (s.setSrc e x).mem = s.mem := rfl
@[simp] theorem State.setSrc_out (e : Nat) (x : SrcSt) : (s.setSrc e x).out = s.out := rfl
@[simp] theorem State.setSrc_cores (e : Nat) (x : SrcSt) : (s.setSrc e x).cores = s.cores := rfl
@[simp] theorem State.setSrc_rkes (e : Nat) (x : SrcSt) : (s.setSrc e x).rkes = s.rkes := rfl
@[simp] theorem State.setSrc_rateWindow (e : Nat) (x : SrcSt) : (s.setSrc e x).rateWindow = s.rateWindow := rfl
@[simp] theorem State.setSrc_guardRanges (e : Nat) (x : SrcSt) : (s.setSrc e x).guardRanges = s.guardRanges := rfl
@[simp] theorem State.setSrc_dimmCopy (e : Nat) (x : SrcSt) : (s.setSrc e x).dimmCopy = s.dimmCopy := rfl
@[simp] theorem State.setSrc_recals (e : Nat) (x : SrcSt) : (s.setSrc e x).recals = s.recals := rfl
@[simp] theorem State.setSrc_patrols (e : Nat) (x : SrcSt) : (s.setSrc e x).patrols = s.patrols := rfl
@[simp] theorem State.setSrc_ramps (e : Nat) (x : SrcSt) : (s.setSrc e x).ramps = s.ramps := rfl
@[simp] theorem State.setSrc_waiting (e : Nat) (x : SrcSt) : (s.setSrc e x).waiting = s.waiting := rfl
@[simp] theorem State.setSrc_sent (e : Nat) (x : SrcSt) : (s.setSrc e x).sent = s.sent := rfl
@[simp] theorem State.setSrc_quarantine (e : Nat) (x : SrcSt) : (s.setSrc e x).quarantine = s.quarantine := rfl
@[simp] theorem State.setSrc_dstSts (e : Nat) (x : SrcSt) : (s.setSrc e x).dstSts = s.dstSts := rfl
@[simp] theorem State.setSrc_guards (e : Nat) (x : SrcSt) : (s.setSrc e x).guards = s.guards := rfl
@[simp] theorem State.setSrc_heldReqs (e : Nat) (x : SrcSt) : (s.setSrc e x).heldReqs = s.heldReqs := rfl
@[simp] theorem State.setSrc_frames (e : Nat) (x : SrcSt) : (s.setSrc e x).frames = s.frames := rfl
@[simp] theorem State.setSrc_copies (e : Nat) (x : SrcSt) : (s.setSrc e x).copies = s.copies := rfl
@[simp] theorem State.setSrc_nextFrame (e : Nat) (x : SrcSt) : (s.setSrc e x).nextFrame = s.nextFrame := rfl
@[simp] theorem State.setSrc_nextPick (e : Nat) (x : SrcSt) : (s.setSrc e x).nextPick = s.nextPick := rfl
@[simp] theorem State.setSrc_cellTime (e : Nat) (x : SrcSt) : (s.setSrc e x).cellTime = s.cellTime := rfl
@[simp] theorem State.setSrc_charges (e : Nat) (x : SrcSt) : (s.setSrc e x).charges = s.charges := rfl
@[simp] theorem State.setSrc_offAt (e : Nat) (x : SrcSt) : (s.setSrc e x).offAt = s.offAt := rfl
@[simp] theorem State.setSrc_grantPtr (e : Nat) (x : SrcSt) : (s.setSrc e x).grantPtr = s.grantPtr := rfl
@[simp] theorem State.setSrc_acceptPtr (e : Nat) (x : SrcSt) : (s.setSrc e x).acceptPtr = s.acceptPtr := rfl
@[simp] theorem State.setSrc_mirrorSeen (e : Nat) (x : SrcSt) : (s.setSrc e x).mirrorSeen = s.mirrorSeen := rfl
@[simp] theorem State.setSrc_mirrorSeq (e : Nat) (x : SrcSt) : (s.setSrc e x).mirrorSeq = s.mirrorSeq := rfl
@[simp] theorem State.setSrc_mirrorQueue (e : Nat) (x : SrcSt) : (s.setSrc e x).mirrorQueue = s.mirrorQueue := rfl
@[simp] theorem State.setSrc_mirrorHeld (e : Nat) (x : SrcSt) : (s.setSrc e x).mirrorHeld = s.mirrorHeld := rfl
@[simp] theorem State.setSrc_rings (e : Nat) (x : SrcSt) : (s.setSrc e x).rings = s.rings := rfl
@[simp] theorem State.setSrc_credits (e : Nat) (x : SrcSt) : (s.setSrc e x).credits = s.credits := rfl
@[simp] theorem State.setSrc_buckets (e : Nat) (x : SrcSt) : (s.setSrc e x).buckets = s.buckets := rfl
@[simp] theorem State.setSrc_moves (e : Nat) (x : SrcSt) : (s.setSrc e x).moves = s.moves := rfl
@[simp] theorem State.setSrc_linkLocals (e : Nat) (x : SrcSt) : (s.setSrc e x).linkLocals = s.linkLocals := rfl
@[simp] theorem State.setSrc_ports (e : Nat) (x : SrcSt) : (s.setSrc e x).ports = s.ports := rfl
@[simp] theorem State.setSrc_elsLost (e : Nat) (x : SrcSt) : (s.setSrc e x).elsLost = s.elsLost := rfl
@[simp] theorem State.setSrc_elsSince (e : Nat) (x : SrcSt) : (s.setSrc e x).elsSince = s.elsSince := rfl
@[simp] theorem State.setSrc_elsOn (e : Nat) (x : SrcSt) : (s.setSrc e x).elsOn = s.elsOn := rfl
@[simp] theorem State.setSrc_reports (e : Nat) (x : SrcSt) : (s.setSrc e x).reports = s.reports := rfl
@[simp] theorem State.setSrc_ownerKey (e : Nat) (x : SrcSt) : (s.setSrc e x).ownerKey = s.ownerKey := rfl
@[simp] theorem State.setSrc_pools (e : Nat) (x : SrcSt) : (s.setSrc e x).pools = s.pools := rfl
@[simp] theorem State.setSrc_owners (e : Nat) (x : SrcSt) : (s.setSrc e x).owners = s.owners := rfl
@[simp] theorem State.setSrc_cvus (e : Nat) (x : SrcSt) : (s.setSrc e x).cvus = s.cvus := rfl
@[simp] theorem State.setSrc_scanJobs (e : Nat) (x : SrcSt) : (s.setSrc e x).scanJobs = s.scanJobs := rfl
@[simp] theorem State.setSrc_sus (e : Nat) (x : SrcSt) : (s.setSrc e x).sus = s.sus := rfl
@[simp] theorem State.setSrc_suBufs (e : Nat) (x : SrcSt) : (s.setSrc e x).suBufs = s.suBufs := rfl
@[simp] theorem State.setSrc_ctxs (e : Nat) (x : SrcSt) : (s.setSrc e x).ctxs = s.ctxs := rfl
@[simp] theorem State.setSrc_ringDone (e : Nat) (x : SrcSt) : (s.setSrc e x).ringDone = s.ringDone := rfl
@[simp] theorem State.setSrc_boot (e : Nat) (x : SrcSt) : (s.setSrc e x).boot = s.boot := rfl
@[simp] theorem State.setSrc_qps (e : Nat) (x : SrcSt) : (s.setSrc e x).qps = s.qps := rfl
@[simp] theorem State.setSrc_hostRings (e : Nat) (x : SrcSt) : (s.setSrc e x).hostRings = s.hostRings := rfl
@[simp] theorem State.setSrc_powerEntry (e : Nat) (x : SrcSt) : (s.setSrc e x).powerEntry = s.powerEntry := rfl
@[simp] theorem State.setSrc_powerWake (e : Nat) (x : SrcSt) : (s.setSrc e x).powerWake = s.powerWake := rfl
@[simp] theorem State.setSrc_saved (e : Nat) (x : SrcSt) : (s.setSrc e x).saved = s.saved := rfl
@[simp] theorem State.setSrc_govPower (e : Nat) (x : SrcSt) : (s.setSrc e x).govPower = s.govPower := rfl
@[simp] theorem State.setSrc_thermHold (e : Nat) (x : SrcSt) : (s.setSrc e x).thermHold = s.thermHold := rfl
@[simp] theorem State.setSrc_operatorKeys (e : Nat) (x : SrcSt) : (s.setSrc e x).operatorKeys = s.operatorKeys := rfl
@[simp] theorem State.setSrc_nvKey (e : Nat) (x : SrcSt) : (s.setSrc e x).nvKey = s.nvKey := rfl
@[simp] theorem State.setSrc_svnFuses (e : Nat) (x : SrcSt) : (s.setSrc e x).svnFuses = s.svnFuses := rfl
@[simp] theorem State.setSrc_rollback (e : Nat) (x : SrcSt) : (s.setSrc e x).rollback = s.rollback := rfl
@[simp] theorem State.setSrc_bootCount (e : Nat) (x : SrcSt) : (s.setSrc e x).bootCount = s.bootCount := rfl
@[simp] theorem State.setSrc_fwRunning (e : Nat) (x : SrcSt) : (s.setSrc e x).fwRunning = s.fwRunning := rfl
@[simp] theorem State.setSrc_fwStandby (e : Nat) (x : SrcSt) : (s.setSrc e x).fwStandby = s.fwStandby := rfl
@[simp] theorem State.setSrc_fwMark (e : Nat) (x : SrcSt) : (s.setSrc e x).fwMark = s.fwMark := rfl
@[simp] theorem State.setSrc_fwOwn (e : Nat) (x : SrcSt) : (s.setSrc e x).fwOwn = s.fwOwn := rfl
@[simp] theorem State.setSrc_fwErasing (e : Nat) (x : SrcSt) : (s.setSrc e x).fwErasing = s.fwErasing := rfl
@[simp] theorem State.setSrc_nvErasing (e : Nat) (x : SrcSt) : (s.setSrc e x).nvErasing = s.nvErasing := rfl
@[simp] theorem State.setSrc_nvMark (e : Nat) (x : SrcSt) : (s.setSrc e x).nvMark = s.nvMark := rfl
@[simp] theorem State.setSrc_imageWritten (e : Nat) (x : SrcSt) : (s.setSrc e x).imageWritten = s.imageWritten := rfl
@[simp] theorem State.setSrc_flash (e : Nat) (x : SrcSt) : (s.setSrc e x).flash = s.flash := rfl
@[simp] theorem State.setSrc_journalSeq (e : Nat) (x : SrcSt) : (s.setSrc e x).journalSeq = s.journalSeq := rfl
@[simp] theorem State.setSrc_sessions (e : Nat) (x : SrcSt) : (s.setSrc e x).sessions = s.sessions := rfl
@[simp] theorem State.setSrc_sources (e : Nat) (x : SrcSt) : (s.setSrc e x).sources = s.sources := rfl
@[simp] theorem State.setSrc_watches (e : Nat) (x : SrcSt) : (s.setSrc e x).watches = s.watches := rfl
@[simp] theorem State.setSrc_marshal (e : Nat) (x : SrcSt) : (s.setSrc e x).marshal = s.marshal := rfl
@[simp] theorem State.setSrc_guardStore (e : Nat) (x : SrcSt) : (s.setSrc e x).guardStore = s.guardStore := rfl
@[simp] theorem State.setSrc_scratchSeen (e : Nat) (x : SrcSt) : (s.setSrc e x).scratchSeen = s.scratchSeen := rfl
@[simp] theorem State.setSrc_resetLow (e : Nat) (x : SrcSt) : (s.setSrc e x).resetLow = s.resetLow := rfl
@[simp] theorem State.setSrc_aopDead (e : Nat) (x : SrcSt) : (s.setSrc e x).aopDead = s.aopDead := rfl
@[simp] theorem State.setSrc_tripped (e : Nat) (x : SrcSt) : (s.setSrc e x).tripped = s.tripped := rfl
@[simp] theorem State.setSrc_inputBlocked (e : Nat) (x : SrcSt) : (s.setSrc e x).inputBlocked = s.inputBlocked := rfl
@[simp] theorem State.setSrc_sideband (e : Nat) (x : SrcSt) : (s.setSrc e x).sideband = s.sideband := rfl
@[simp] theorem State.setSrc_dimmKeep (e : Nat) (x : SrcSt) : (s.setSrc e x).dimmKeep = s.dimmKeep := rfl
@[simp] theorem State.setSrc_hbmHold (e : Nat) (x : SrcSt) : (s.setSrc e x).hbmHold = s.hbmHold := rfl
@[simp] theorem State.setSrc_govAt (e : Nat) (x : SrcSt) : (s.setSrc e x).govAt = s.govAt := rfl
@[simp] theorem State.setSrc_sidebandAt (e : Nat) (x : SrcSt) : (s.setSrc e x).sidebandAt = s.sidebandAt := rfl
@[simp] theorem State.setSrc_rd (e : Nat) (x : SrcSt) (ob : ObjCode) (jj : Nat) : (s.setSrc e x).rd ob jj = s.rd ob jj := rfl
@[simp] theorem State.setSrc_fld (e : Nat) (x : SrcSt) (ob : ObjCode) (jj ll ww : Nat) : (s.setSrc e x).fld ob jj ll ww = s.fld ob jj ll ww := rfl
@[simp] theorem State.setSrc_mem8 (e : Nat) (x : SrcSt) (sp of : Nat) : (s.setSrc e x).mem8 sp of = s.mem8 sp of := rfl

/-! `State.setDst` -/

@[simp] theorem State.setDst_pending (n : Nat) (d : DstSt) : (s.setDst n d).pending = s.pending := rfl
@[simp] theorem State.setDst_ident (n : Nat) (d : DstSt) : (s.setDst n d).ident = s.ident := rfl
@[simp] theorem State.setDst_now (n : Nat) (d : DstSt) : (s.setDst n d).now = s.now := rfl
@[simp] theorem State.setDst_free (n : Nat) (d : DstSt) : (s.setDst n d).free = s.free := rfl
@[simp] theorem State.setDst_objs (n : Nat) (d : DstSt) : (s.setDst n d).objs = s.objs := rfl
@[simp] theorem State.setDst_mem (n : Nat) (d : DstSt) : (s.setDst n d).mem = s.mem := rfl
@[simp] theorem State.setDst_out (n : Nat) (d : DstSt) : (s.setDst n d).out = s.out := rfl
@[simp] theorem State.setDst_cores (n : Nat) (d : DstSt) : (s.setDst n d).cores = s.cores := rfl
@[simp] theorem State.setDst_rkes (n : Nat) (d : DstSt) : (s.setDst n d).rkes = s.rkes := rfl
@[simp] theorem State.setDst_rateWindow (n : Nat) (d : DstSt) : (s.setDst n d).rateWindow = s.rateWindow := rfl
@[simp] theorem State.setDst_guardRanges (n : Nat) (d : DstSt) : (s.setDst n d).guardRanges = s.guardRanges := rfl
@[simp] theorem State.setDst_dimmCopy (n : Nat) (d : DstSt) : (s.setDst n d).dimmCopy = s.dimmCopy := rfl
@[simp] theorem State.setDst_recals (n : Nat) (d : DstSt) : (s.setDst n d).recals = s.recals := rfl
@[simp] theorem State.setDst_patrols (n : Nat) (d : DstSt) : (s.setDst n d).patrols = s.patrols := rfl
@[simp] theorem State.setDst_ramps (n : Nat) (d : DstSt) : (s.setDst n d).ramps = s.ramps := rfl
@[simp] theorem State.setDst_waiting (n : Nat) (d : DstSt) : (s.setDst n d).waiting = s.waiting := rfl
@[simp] theorem State.setDst_sent (n : Nat) (d : DstSt) : (s.setDst n d).sent = s.sent := rfl
@[simp] theorem State.setDst_quarantine (n : Nat) (d : DstSt) : (s.setDst n d).quarantine = s.quarantine := rfl
@[simp] theorem State.setDst_srcSts (n : Nat) (d : DstSt) : (s.setDst n d).srcSts = s.srcSts := rfl
@[simp] theorem State.setDst_guards (n : Nat) (d : DstSt) : (s.setDst n d).guards = s.guards := rfl
@[simp] theorem State.setDst_heldReqs (n : Nat) (d : DstSt) : (s.setDst n d).heldReqs = s.heldReqs := rfl
@[simp] theorem State.setDst_frames (n : Nat) (d : DstSt) : (s.setDst n d).frames = s.frames := rfl
@[simp] theorem State.setDst_copies (n : Nat) (d : DstSt) : (s.setDst n d).copies = s.copies := rfl
@[simp] theorem State.setDst_nextFrame (n : Nat) (d : DstSt) : (s.setDst n d).nextFrame = s.nextFrame := rfl
@[simp] theorem State.setDst_nextPick (n : Nat) (d : DstSt) : (s.setDst n d).nextPick = s.nextPick := rfl
@[simp] theorem State.setDst_cellTime (n : Nat) (d : DstSt) : (s.setDst n d).cellTime = s.cellTime := rfl
@[simp] theorem State.setDst_charges (n : Nat) (d : DstSt) : (s.setDst n d).charges = s.charges := rfl
@[simp] theorem State.setDst_offAt (n : Nat) (d : DstSt) : (s.setDst n d).offAt = s.offAt := rfl
@[simp] theorem State.setDst_grantPtr (n : Nat) (d : DstSt) : (s.setDst n d).grantPtr = s.grantPtr := rfl
@[simp] theorem State.setDst_acceptPtr (n : Nat) (d : DstSt) : (s.setDst n d).acceptPtr = s.acceptPtr := rfl
@[simp] theorem State.setDst_mirrorSeen (n : Nat) (d : DstSt) : (s.setDst n d).mirrorSeen = s.mirrorSeen := rfl
@[simp] theorem State.setDst_mirrorSeq (n : Nat) (d : DstSt) : (s.setDst n d).mirrorSeq = s.mirrorSeq := rfl
@[simp] theorem State.setDst_mirrorQueue (n : Nat) (d : DstSt) : (s.setDst n d).mirrorQueue = s.mirrorQueue := rfl
@[simp] theorem State.setDst_mirrorHeld (n : Nat) (d : DstSt) : (s.setDst n d).mirrorHeld = s.mirrorHeld := rfl
@[simp] theorem State.setDst_rings (n : Nat) (d : DstSt) : (s.setDst n d).rings = s.rings := rfl
@[simp] theorem State.setDst_credits (n : Nat) (d : DstSt) : (s.setDst n d).credits = s.credits := rfl
@[simp] theorem State.setDst_buckets (n : Nat) (d : DstSt) : (s.setDst n d).buckets = s.buckets := rfl
@[simp] theorem State.setDst_moves (n : Nat) (d : DstSt) : (s.setDst n d).moves = s.moves := rfl
@[simp] theorem State.setDst_linkLocals (n : Nat) (d : DstSt) : (s.setDst n d).linkLocals = s.linkLocals := rfl
@[simp] theorem State.setDst_ports (n : Nat) (d : DstSt) : (s.setDst n d).ports = s.ports := rfl
@[simp] theorem State.setDst_elsLost (n : Nat) (d : DstSt) : (s.setDst n d).elsLost = s.elsLost := rfl
@[simp] theorem State.setDst_elsSince (n : Nat) (d : DstSt) : (s.setDst n d).elsSince = s.elsSince := rfl
@[simp] theorem State.setDst_elsOn (n : Nat) (d : DstSt) : (s.setDst n d).elsOn = s.elsOn := rfl
@[simp] theorem State.setDst_reports (n : Nat) (d : DstSt) : (s.setDst n d).reports = s.reports := rfl
@[simp] theorem State.setDst_ownerKey (n : Nat) (d : DstSt) : (s.setDst n d).ownerKey = s.ownerKey := rfl
@[simp] theorem State.setDst_pools (n : Nat) (d : DstSt) : (s.setDst n d).pools = s.pools := rfl
@[simp] theorem State.setDst_owners (n : Nat) (d : DstSt) : (s.setDst n d).owners = s.owners := rfl
@[simp] theorem State.setDst_cvus (n : Nat) (d : DstSt) : (s.setDst n d).cvus = s.cvus := rfl
@[simp] theorem State.setDst_scanJobs (n : Nat) (d : DstSt) : (s.setDst n d).scanJobs = s.scanJobs := rfl
@[simp] theorem State.setDst_sus (n : Nat) (d : DstSt) : (s.setDst n d).sus = s.sus := rfl
@[simp] theorem State.setDst_suBufs (n : Nat) (d : DstSt) : (s.setDst n d).suBufs = s.suBufs := rfl
@[simp] theorem State.setDst_ctxs (n : Nat) (d : DstSt) : (s.setDst n d).ctxs = s.ctxs := rfl
@[simp] theorem State.setDst_ringDone (n : Nat) (d : DstSt) : (s.setDst n d).ringDone = s.ringDone := rfl
@[simp] theorem State.setDst_boot (n : Nat) (d : DstSt) : (s.setDst n d).boot = s.boot := rfl
@[simp] theorem State.setDst_qps (n : Nat) (d : DstSt) : (s.setDst n d).qps = s.qps := rfl
@[simp] theorem State.setDst_hostRings (n : Nat) (d : DstSt) : (s.setDst n d).hostRings = s.hostRings := rfl
@[simp] theorem State.setDst_powerEntry (n : Nat) (d : DstSt) : (s.setDst n d).powerEntry = s.powerEntry := rfl
@[simp] theorem State.setDst_powerWake (n : Nat) (d : DstSt) : (s.setDst n d).powerWake = s.powerWake := rfl
@[simp] theorem State.setDst_saved (n : Nat) (d : DstSt) : (s.setDst n d).saved = s.saved := rfl
@[simp] theorem State.setDst_govPower (n : Nat) (d : DstSt) : (s.setDst n d).govPower = s.govPower := rfl
@[simp] theorem State.setDst_thermHold (n : Nat) (d : DstSt) : (s.setDst n d).thermHold = s.thermHold := rfl
@[simp] theorem State.setDst_operatorKeys (n : Nat) (d : DstSt) : (s.setDst n d).operatorKeys = s.operatorKeys := rfl
@[simp] theorem State.setDst_nvKey (n : Nat) (d : DstSt) : (s.setDst n d).nvKey = s.nvKey := rfl
@[simp] theorem State.setDst_svnFuses (n : Nat) (d : DstSt) : (s.setDst n d).svnFuses = s.svnFuses := rfl
@[simp] theorem State.setDst_rollback (n : Nat) (d : DstSt) : (s.setDst n d).rollback = s.rollback := rfl
@[simp] theorem State.setDst_bootCount (n : Nat) (d : DstSt) : (s.setDst n d).bootCount = s.bootCount := rfl
@[simp] theorem State.setDst_fwRunning (n : Nat) (d : DstSt) : (s.setDst n d).fwRunning = s.fwRunning := rfl
@[simp] theorem State.setDst_fwStandby (n : Nat) (d : DstSt) : (s.setDst n d).fwStandby = s.fwStandby := rfl
@[simp] theorem State.setDst_fwMark (n : Nat) (d : DstSt) : (s.setDst n d).fwMark = s.fwMark := rfl
@[simp] theorem State.setDst_fwOwn (n : Nat) (d : DstSt) : (s.setDst n d).fwOwn = s.fwOwn := rfl
@[simp] theorem State.setDst_fwErasing (n : Nat) (d : DstSt) : (s.setDst n d).fwErasing = s.fwErasing := rfl
@[simp] theorem State.setDst_nvErasing (n : Nat) (d : DstSt) : (s.setDst n d).nvErasing = s.nvErasing := rfl
@[simp] theorem State.setDst_nvMark (n : Nat) (d : DstSt) : (s.setDst n d).nvMark = s.nvMark := rfl
@[simp] theorem State.setDst_imageWritten (n : Nat) (d : DstSt) : (s.setDst n d).imageWritten = s.imageWritten := rfl
@[simp] theorem State.setDst_flash (n : Nat) (d : DstSt) : (s.setDst n d).flash = s.flash := rfl
@[simp] theorem State.setDst_journalSeq (n : Nat) (d : DstSt) : (s.setDst n d).journalSeq = s.journalSeq := rfl
@[simp] theorem State.setDst_sessions (n : Nat) (d : DstSt) : (s.setDst n d).sessions = s.sessions := rfl
@[simp] theorem State.setDst_sources (n : Nat) (d : DstSt) : (s.setDst n d).sources = s.sources := rfl
@[simp] theorem State.setDst_watches (n : Nat) (d : DstSt) : (s.setDst n d).watches = s.watches := rfl
@[simp] theorem State.setDst_marshal (n : Nat) (d : DstSt) : (s.setDst n d).marshal = s.marshal := rfl
@[simp] theorem State.setDst_guardStore (n : Nat) (d : DstSt) : (s.setDst n d).guardStore = s.guardStore := rfl
@[simp] theorem State.setDst_scratchSeen (n : Nat) (d : DstSt) : (s.setDst n d).scratchSeen = s.scratchSeen := rfl
@[simp] theorem State.setDst_resetLow (n : Nat) (d : DstSt) : (s.setDst n d).resetLow = s.resetLow := rfl
@[simp] theorem State.setDst_aopDead (n : Nat) (d : DstSt) : (s.setDst n d).aopDead = s.aopDead := rfl
@[simp] theorem State.setDst_tripped (n : Nat) (d : DstSt) : (s.setDst n d).tripped = s.tripped := rfl
@[simp] theorem State.setDst_inputBlocked (n : Nat) (d : DstSt) : (s.setDst n d).inputBlocked = s.inputBlocked := rfl
@[simp] theorem State.setDst_sideband (n : Nat) (d : DstSt) : (s.setDst n d).sideband = s.sideband := rfl
@[simp] theorem State.setDst_dimmKeep (n : Nat) (d : DstSt) : (s.setDst n d).dimmKeep = s.dimmKeep := rfl
@[simp] theorem State.setDst_hbmHold (n : Nat) (d : DstSt) : (s.setDst n d).hbmHold = s.hbmHold := rfl
@[simp] theorem State.setDst_govAt (n : Nat) (d : DstSt) : (s.setDst n d).govAt = s.govAt := rfl
@[simp] theorem State.setDst_sidebandAt (n : Nat) (d : DstSt) : (s.setDst n d).sidebandAt = s.sidebandAt := rfl
@[simp] theorem State.setDst_rd (n : Nat) (d : DstSt) (ob : ObjCode) (jj : Nat) : (s.setDst n d).rd ob jj = s.rd ob jj := rfl
@[simp] theorem State.setDst_fld (n : Nat) (d : DstSt) (ob : ObjCode) (jj ll ww : Nat) : (s.setDst n d).fld ob jj ll ww = s.fld ob jj ll ww := rfl
@[simp] theorem State.setDst_mem8 (n : Nat) (d : DstSt) (sp of : Nat) : (s.setDst n d).mem8 sp of = s.mem8 sp of := rfl

/-! `State.setGuard` -/

@[simp] theorem State.setGuard_pending (i : Nat) (g : GuardSt) : (s.setGuard i g).pending = s.pending := rfl
@[simp] theorem State.setGuard_ident (i : Nat) (g : GuardSt) : (s.setGuard i g).ident = s.ident := rfl
@[simp] theorem State.setGuard_now (i : Nat) (g : GuardSt) : (s.setGuard i g).now = s.now := rfl
@[simp] theorem State.setGuard_free (i : Nat) (g : GuardSt) : (s.setGuard i g).free = s.free := rfl
@[simp] theorem State.setGuard_objs (i : Nat) (g : GuardSt) : (s.setGuard i g).objs = s.objs := rfl
@[simp] theorem State.setGuard_mem (i : Nat) (g : GuardSt) : (s.setGuard i g).mem = s.mem := rfl
@[simp] theorem State.setGuard_out (i : Nat) (g : GuardSt) : (s.setGuard i g).out = s.out := rfl
@[simp] theorem State.setGuard_cores (i : Nat) (g : GuardSt) : (s.setGuard i g).cores = s.cores := rfl
@[simp] theorem State.setGuard_rkes (i : Nat) (g : GuardSt) : (s.setGuard i g).rkes = s.rkes := rfl
@[simp] theorem State.setGuard_rateWindow (i : Nat) (g : GuardSt) : (s.setGuard i g).rateWindow = s.rateWindow := rfl
@[simp] theorem State.setGuard_guardRanges (i : Nat) (g : GuardSt) : (s.setGuard i g).guardRanges = s.guardRanges := rfl
@[simp] theorem State.setGuard_dimmCopy (i : Nat) (g : GuardSt) : (s.setGuard i g).dimmCopy = s.dimmCopy := rfl
@[simp] theorem State.setGuard_recals (i : Nat) (g : GuardSt) : (s.setGuard i g).recals = s.recals := rfl
@[simp] theorem State.setGuard_patrols (i : Nat) (g : GuardSt) : (s.setGuard i g).patrols = s.patrols := rfl
@[simp] theorem State.setGuard_ramps (i : Nat) (g : GuardSt) : (s.setGuard i g).ramps = s.ramps := rfl
@[simp] theorem State.setGuard_waiting (i : Nat) (g : GuardSt) : (s.setGuard i g).waiting = s.waiting := rfl
@[simp] theorem State.setGuard_sent (i : Nat) (g : GuardSt) : (s.setGuard i g).sent = s.sent := rfl
@[simp] theorem State.setGuard_quarantine (i : Nat) (g : GuardSt) : (s.setGuard i g).quarantine = s.quarantine := rfl
@[simp] theorem State.setGuard_srcSts (i : Nat) (g : GuardSt) : (s.setGuard i g).srcSts = s.srcSts := rfl
@[simp] theorem State.setGuard_dstSts (i : Nat) (g : GuardSt) : (s.setGuard i g).dstSts = s.dstSts := rfl
@[simp] theorem State.setGuard_heldReqs (i : Nat) (g : GuardSt) : (s.setGuard i g).heldReqs = s.heldReqs := rfl
@[simp] theorem State.setGuard_frames (i : Nat) (g : GuardSt) : (s.setGuard i g).frames = s.frames := rfl
@[simp] theorem State.setGuard_copies (i : Nat) (g : GuardSt) : (s.setGuard i g).copies = s.copies := rfl
@[simp] theorem State.setGuard_nextFrame (i : Nat) (g : GuardSt) : (s.setGuard i g).nextFrame = s.nextFrame := rfl
@[simp] theorem State.setGuard_nextPick (i : Nat) (g : GuardSt) : (s.setGuard i g).nextPick = s.nextPick := rfl
@[simp] theorem State.setGuard_cellTime (i : Nat) (g : GuardSt) : (s.setGuard i g).cellTime = s.cellTime := rfl
@[simp] theorem State.setGuard_charges (i : Nat) (g : GuardSt) : (s.setGuard i g).charges = s.charges := rfl
@[simp] theorem State.setGuard_offAt (i : Nat) (g : GuardSt) : (s.setGuard i g).offAt = s.offAt := rfl
@[simp] theorem State.setGuard_grantPtr (i : Nat) (g : GuardSt) : (s.setGuard i g).grantPtr = s.grantPtr := rfl
@[simp] theorem State.setGuard_acceptPtr (i : Nat) (g : GuardSt) : (s.setGuard i g).acceptPtr = s.acceptPtr := rfl
@[simp] theorem State.setGuard_mirrorSeen (i : Nat) (g : GuardSt) : (s.setGuard i g).mirrorSeen = s.mirrorSeen := rfl
@[simp] theorem State.setGuard_mirrorSeq (i : Nat) (g : GuardSt) : (s.setGuard i g).mirrorSeq = s.mirrorSeq := rfl
@[simp] theorem State.setGuard_mirrorQueue (i : Nat) (g : GuardSt) : (s.setGuard i g).mirrorQueue = s.mirrorQueue := rfl
@[simp] theorem State.setGuard_mirrorHeld (i : Nat) (g : GuardSt) : (s.setGuard i g).mirrorHeld = s.mirrorHeld := rfl
@[simp] theorem State.setGuard_rings (i : Nat) (g : GuardSt) : (s.setGuard i g).rings = s.rings := rfl
@[simp] theorem State.setGuard_credits (i : Nat) (g : GuardSt) : (s.setGuard i g).credits = s.credits := rfl
@[simp] theorem State.setGuard_buckets (i : Nat) (g : GuardSt) : (s.setGuard i g).buckets = s.buckets := rfl
@[simp] theorem State.setGuard_moves (i : Nat) (g : GuardSt) : (s.setGuard i g).moves = s.moves := rfl
@[simp] theorem State.setGuard_linkLocals (i : Nat) (g : GuardSt) : (s.setGuard i g).linkLocals = s.linkLocals := rfl
@[simp] theorem State.setGuard_ports (i : Nat) (g : GuardSt) : (s.setGuard i g).ports = s.ports := rfl
@[simp] theorem State.setGuard_elsLost (i : Nat) (g : GuardSt) : (s.setGuard i g).elsLost = s.elsLost := rfl
@[simp] theorem State.setGuard_elsSince (i : Nat) (g : GuardSt) : (s.setGuard i g).elsSince = s.elsSince := rfl
@[simp] theorem State.setGuard_elsOn (i : Nat) (g : GuardSt) : (s.setGuard i g).elsOn = s.elsOn := rfl
@[simp] theorem State.setGuard_reports (i : Nat) (g : GuardSt) : (s.setGuard i g).reports = s.reports := rfl
@[simp] theorem State.setGuard_ownerKey (i : Nat) (g : GuardSt) : (s.setGuard i g).ownerKey = s.ownerKey := rfl
@[simp] theorem State.setGuard_pools (i : Nat) (g : GuardSt) : (s.setGuard i g).pools = s.pools := rfl
@[simp] theorem State.setGuard_owners (i : Nat) (g : GuardSt) : (s.setGuard i g).owners = s.owners := rfl
@[simp] theorem State.setGuard_cvus (i : Nat) (g : GuardSt) : (s.setGuard i g).cvus = s.cvus := rfl
@[simp] theorem State.setGuard_scanJobs (i : Nat) (g : GuardSt) : (s.setGuard i g).scanJobs = s.scanJobs := rfl
@[simp] theorem State.setGuard_sus (i : Nat) (g : GuardSt) : (s.setGuard i g).sus = s.sus := rfl
@[simp] theorem State.setGuard_suBufs (i : Nat) (g : GuardSt) : (s.setGuard i g).suBufs = s.suBufs := rfl
@[simp] theorem State.setGuard_ctxs (i : Nat) (g : GuardSt) : (s.setGuard i g).ctxs = s.ctxs := rfl
@[simp] theorem State.setGuard_ringDone (i : Nat) (g : GuardSt) : (s.setGuard i g).ringDone = s.ringDone := rfl
@[simp] theorem State.setGuard_boot (i : Nat) (g : GuardSt) : (s.setGuard i g).boot = s.boot := rfl
@[simp] theorem State.setGuard_qps (i : Nat) (g : GuardSt) : (s.setGuard i g).qps = s.qps := rfl
@[simp] theorem State.setGuard_hostRings (i : Nat) (g : GuardSt) : (s.setGuard i g).hostRings = s.hostRings := rfl
@[simp] theorem State.setGuard_powerEntry (i : Nat) (g : GuardSt) : (s.setGuard i g).powerEntry = s.powerEntry := rfl
@[simp] theorem State.setGuard_powerWake (i : Nat) (g : GuardSt) : (s.setGuard i g).powerWake = s.powerWake := rfl
@[simp] theorem State.setGuard_saved (i : Nat) (g : GuardSt) : (s.setGuard i g).saved = s.saved := rfl
@[simp] theorem State.setGuard_govPower (i : Nat) (g : GuardSt) : (s.setGuard i g).govPower = s.govPower := rfl
@[simp] theorem State.setGuard_thermHold (i : Nat) (g : GuardSt) : (s.setGuard i g).thermHold = s.thermHold := rfl
@[simp] theorem State.setGuard_operatorKeys (i : Nat) (g : GuardSt) : (s.setGuard i g).operatorKeys = s.operatorKeys := rfl
@[simp] theorem State.setGuard_nvKey (i : Nat) (g : GuardSt) : (s.setGuard i g).nvKey = s.nvKey := rfl
@[simp] theorem State.setGuard_svnFuses (i : Nat) (g : GuardSt) : (s.setGuard i g).svnFuses = s.svnFuses := rfl
@[simp] theorem State.setGuard_rollback (i : Nat) (g : GuardSt) : (s.setGuard i g).rollback = s.rollback := rfl
@[simp] theorem State.setGuard_bootCount (i : Nat) (g : GuardSt) : (s.setGuard i g).bootCount = s.bootCount := rfl
@[simp] theorem State.setGuard_fwRunning (i : Nat) (g : GuardSt) : (s.setGuard i g).fwRunning = s.fwRunning := rfl
@[simp] theorem State.setGuard_fwStandby (i : Nat) (g : GuardSt) : (s.setGuard i g).fwStandby = s.fwStandby := rfl
@[simp] theorem State.setGuard_fwMark (i : Nat) (g : GuardSt) : (s.setGuard i g).fwMark = s.fwMark := rfl
@[simp] theorem State.setGuard_fwOwn (i : Nat) (g : GuardSt) : (s.setGuard i g).fwOwn = s.fwOwn := rfl
@[simp] theorem State.setGuard_fwErasing (i : Nat) (g : GuardSt) : (s.setGuard i g).fwErasing = s.fwErasing := rfl
@[simp] theorem State.setGuard_nvErasing (i : Nat) (g : GuardSt) : (s.setGuard i g).nvErasing = s.nvErasing := rfl
@[simp] theorem State.setGuard_nvMark (i : Nat) (g : GuardSt) : (s.setGuard i g).nvMark = s.nvMark := rfl
@[simp] theorem State.setGuard_imageWritten (i : Nat) (g : GuardSt) : (s.setGuard i g).imageWritten = s.imageWritten := rfl
@[simp] theorem State.setGuard_flash (i : Nat) (g : GuardSt) : (s.setGuard i g).flash = s.flash := rfl
@[simp] theorem State.setGuard_journalSeq (i : Nat) (g : GuardSt) : (s.setGuard i g).journalSeq = s.journalSeq := rfl
@[simp] theorem State.setGuard_sessions (i : Nat) (g : GuardSt) : (s.setGuard i g).sessions = s.sessions := rfl
@[simp] theorem State.setGuard_sources (i : Nat) (g : GuardSt) : (s.setGuard i g).sources = s.sources := rfl
@[simp] theorem State.setGuard_watches (i : Nat) (g : GuardSt) : (s.setGuard i g).watches = s.watches := rfl
@[simp] theorem State.setGuard_marshal (i : Nat) (g : GuardSt) : (s.setGuard i g).marshal = s.marshal := rfl
@[simp] theorem State.setGuard_guardStore (i : Nat) (g : GuardSt) : (s.setGuard i g).guardStore = s.guardStore := rfl
@[simp] theorem State.setGuard_scratchSeen (i : Nat) (g : GuardSt) : (s.setGuard i g).scratchSeen = s.scratchSeen := rfl
@[simp] theorem State.setGuard_resetLow (i : Nat) (g : GuardSt) : (s.setGuard i g).resetLow = s.resetLow := rfl
@[simp] theorem State.setGuard_aopDead (i : Nat) (g : GuardSt) : (s.setGuard i g).aopDead = s.aopDead := rfl
@[simp] theorem State.setGuard_tripped (i : Nat) (g : GuardSt) : (s.setGuard i g).tripped = s.tripped := rfl
@[simp] theorem State.setGuard_inputBlocked (i : Nat) (g : GuardSt) : (s.setGuard i g).inputBlocked = s.inputBlocked := rfl
@[simp] theorem State.setGuard_sideband (i : Nat) (g : GuardSt) : (s.setGuard i g).sideband = s.sideband := rfl
@[simp] theorem State.setGuard_dimmKeep (i : Nat) (g : GuardSt) : (s.setGuard i g).dimmKeep = s.dimmKeep := rfl
@[simp] theorem State.setGuard_hbmHold (i : Nat) (g : GuardSt) : (s.setGuard i g).hbmHold = s.hbmHold := rfl
@[simp] theorem State.setGuard_govAt (i : Nat) (g : GuardSt) : (s.setGuard i g).govAt = s.govAt := rfl
@[simp] theorem State.setGuard_sidebandAt (i : Nat) (g : GuardSt) : (s.setGuard i g).sidebandAt = s.sidebandAt := rfl
@[simp] theorem State.setGuard_rd (i : Nat) (g : GuardSt) (ob : ObjCode) (jj : Nat) : (s.setGuard i g).rd ob jj = s.rd ob jj := rfl
@[simp] theorem State.setGuard_fld (i : Nat) (g : GuardSt) (ob : ObjCode) (jj ll ww : Nat) : (s.setGuard i g).fld ob jj ll ww = s.fld ob jj ll ww := rfl
@[simp] theorem State.setGuard_mem8 (i : Nat) (g : GuardSt) (sp of : Nat) : (s.setGuard i g).mem8 sp of = s.mem8 sp of := rfl

/-! `State.setPort` -/

@[simp] theorem State.setPort_pending (p : Nat) (x : PortSt) : (s.setPort p x).pending = s.pending := rfl
@[simp] theorem State.setPort_ident (p : Nat) (x : PortSt) : (s.setPort p x).ident = s.ident := rfl
@[simp] theorem State.setPort_now (p : Nat) (x : PortSt) : (s.setPort p x).now = s.now := rfl
@[simp] theorem State.setPort_free (p : Nat) (x : PortSt) : (s.setPort p x).free = s.free := rfl
@[simp] theorem State.setPort_objs (p : Nat) (x : PortSt) : (s.setPort p x).objs = s.objs := rfl
@[simp] theorem State.setPort_mem (p : Nat) (x : PortSt) : (s.setPort p x).mem = s.mem := rfl
@[simp] theorem State.setPort_out (p : Nat) (x : PortSt) : (s.setPort p x).out = s.out := rfl
@[simp] theorem State.setPort_cores (p : Nat) (x : PortSt) : (s.setPort p x).cores = s.cores := rfl
@[simp] theorem State.setPort_rkes (p : Nat) (x : PortSt) : (s.setPort p x).rkes = s.rkes := rfl
@[simp] theorem State.setPort_rateWindow (p : Nat) (x : PortSt) : (s.setPort p x).rateWindow = s.rateWindow := rfl
@[simp] theorem State.setPort_guardRanges (p : Nat) (x : PortSt) : (s.setPort p x).guardRanges = s.guardRanges := rfl
@[simp] theorem State.setPort_dimmCopy (p : Nat) (x : PortSt) : (s.setPort p x).dimmCopy = s.dimmCopy := rfl
@[simp] theorem State.setPort_recals (p : Nat) (x : PortSt) : (s.setPort p x).recals = s.recals := rfl
@[simp] theorem State.setPort_patrols (p : Nat) (x : PortSt) : (s.setPort p x).patrols = s.patrols := rfl
@[simp] theorem State.setPort_ramps (p : Nat) (x : PortSt) : (s.setPort p x).ramps = s.ramps := rfl
@[simp] theorem State.setPort_waiting (p : Nat) (x : PortSt) : (s.setPort p x).waiting = s.waiting := rfl
@[simp] theorem State.setPort_sent (p : Nat) (x : PortSt) : (s.setPort p x).sent = s.sent := rfl
@[simp] theorem State.setPort_quarantine (p : Nat) (x : PortSt) : (s.setPort p x).quarantine = s.quarantine := rfl
@[simp] theorem State.setPort_srcSts (p : Nat) (x : PortSt) : (s.setPort p x).srcSts = s.srcSts := rfl
@[simp] theorem State.setPort_dstSts (p : Nat) (x : PortSt) : (s.setPort p x).dstSts = s.dstSts := rfl
@[simp] theorem State.setPort_guards (p : Nat) (x : PortSt) : (s.setPort p x).guards = s.guards := rfl
@[simp] theorem State.setPort_heldReqs (p : Nat) (x : PortSt) : (s.setPort p x).heldReqs = s.heldReqs := rfl
@[simp] theorem State.setPort_frames (p : Nat) (x : PortSt) : (s.setPort p x).frames = s.frames := rfl
@[simp] theorem State.setPort_copies (p : Nat) (x : PortSt) : (s.setPort p x).copies = s.copies := rfl
@[simp] theorem State.setPort_nextFrame (p : Nat) (x : PortSt) : (s.setPort p x).nextFrame = s.nextFrame := rfl
@[simp] theorem State.setPort_nextPick (p : Nat) (x : PortSt) : (s.setPort p x).nextPick = s.nextPick := rfl
@[simp] theorem State.setPort_cellTime (p : Nat) (x : PortSt) : (s.setPort p x).cellTime = s.cellTime := rfl
@[simp] theorem State.setPort_charges (p : Nat) (x : PortSt) : (s.setPort p x).charges = s.charges := rfl
@[simp] theorem State.setPort_offAt (p : Nat) (x : PortSt) : (s.setPort p x).offAt = s.offAt := rfl
@[simp] theorem State.setPort_grantPtr (p : Nat) (x : PortSt) : (s.setPort p x).grantPtr = s.grantPtr := rfl
@[simp] theorem State.setPort_acceptPtr (p : Nat) (x : PortSt) : (s.setPort p x).acceptPtr = s.acceptPtr := rfl
@[simp] theorem State.setPort_mirrorSeen (p : Nat) (x : PortSt) : (s.setPort p x).mirrorSeen = s.mirrorSeen := rfl
@[simp] theorem State.setPort_mirrorSeq (p : Nat) (x : PortSt) : (s.setPort p x).mirrorSeq = s.mirrorSeq := rfl
@[simp] theorem State.setPort_mirrorQueue (p : Nat) (x : PortSt) : (s.setPort p x).mirrorQueue = s.mirrorQueue := rfl
@[simp] theorem State.setPort_mirrorHeld (p : Nat) (x : PortSt) : (s.setPort p x).mirrorHeld = s.mirrorHeld := rfl
@[simp] theorem State.setPort_rings (p : Nat) (x : PortSt) : (s.setPort p x).rings = s.rings := rfl
@[simp] theorem State.setPort_credits (p : Nat) (x : PortSt) : (s.setPort p x).credits = s.credits := rfl
@[simp] theorem State.setPort_buckets (p : Nat) (x : PortSt) : (s.setPort p x).buckets = s.buckets := rfl
@[simp] theorem State.setPort_moves (p : Nat) (x : PortSt) : (s.setPort p x).moves = s.moves := rfl
@[simp] theorem State.setPort_linkLocals (p : Nat) (x : PortSt) : (s.setPort p x).linkLocals = s.linkLocals := rfl
@[simp] theorem State.setPort_elsLost (p : Nat) (x : PortSt) : (s.setPort p x).elsLost = s.elsLost := rfl
@[simp] theorem State.setPort_elsSince (p : Nat) (x : PortSt) : (s.setPort p x).elsSince = s.elsSince := rfl
@[simp] theorem State.setPort_elsOn (p : Nat) (x : PortSt) : (s.setPort p x).elsOn = s.elsOn := rfl
@[simp] theorem State.setPort_reports (p : Nat) (x : PortSt) : (s.setPort p x).reports = s.reports := rfl
@[simp] theorem State.setPort_ownerKey (p : Nat) (x : PortSt) : (s.setPort p x).ownerKey = s.ownerKey := rfl
@[simp] theorem State.setPort_pools (p : Nat) (x : PortSt) : (s.setPort p x).pools = s.pools := rfl
@[simp] theorem State.setPort_owners (p : Nat) (x : PortSt) : (s.setPort p x).owners = s.owners := rfl
@[simp] theorem State.setPort_cvus (p : Nat) (x : PortSt) : (s.setPort p x).cvus = s.cvus := rfl
@[simp] theorem State.setPort_scanJobs (p : Nat) (x : PortSt) : (s.setPort p x).scanJobs = s.scanJobs := rfl
@[simp] theorem State.setPort_sus (p : Nat) (x : PortSt) : (s.setPort p x).sus = s.sus := rfl
@[simp] theorem State.setPort_suBufs (p : Nat) (x : PortSt) : (s.setPort p x).suBufs = s.suBufs := rfl
@[simp] theorem State.setPort_ctxs (p : Nat) (x : PortSt) : (s.setPort p x).ctxs = s.ctxs := rfl
@[simp] theorem State.setPort_ringDone (p : Nat) (x : PortSt) : (s.setPort p x).ringDone = s.ringDone := rfl
@[simp] theorem State.setPort_boot (p : Nat) (x : PortSt) : (s.setPort p x).boot = s.boot := rfl
@[simp] theorem State.setPort_qps (p : Nat) (x : PortSt) : (s.setPort p x).qps = s.qps := rfl
@[simp] theorem State.setPort_hostRings (p : Nat) (x : PortSt) : (s.setPort p x).hostRings = s.hostRings := rfl
@[simp] theorem State.setPort_powerEntry (p : Nat) (x : PortSt) : (s.setPort p x).powerEntry = s.powerEntry := rfl
@[simp] theorem State.setPort_powerWake (p : Nat) (x : PortSt) : (s.setPort p x).powerWake = s.powerWake := rfl
@[simp] theorem State.setPort_saved (p : Nat) (x : PortSt) : (s.setPort p x).saved = s.saved := rfl
@[simp] theorem State.setPort_govPower (p : Nat) (x : PortSt) : (s.setPort p x).govPower = s.govPower := rfl
@[simp] theorem State.setPort_thermHold (p : Nat) (x : PortSt) : (s.setPort p x).thermHold = s.thermHold := rfl
@[simp] theorem State.setPort_operatorKeys (p : Nat) (x : PortSt) : (s.setPort p x).operatorKeys = s.operatorKeys := rfl
@[simp] theorem State.setPort_nvKey (p : Nat) (x : PortSt) : (s.setPort p x).nvKey = s.nvKey := rfl
@[simp] theorem State.setPort_svnFuses (p : Nat) (x : PortSt) : (s.setPort p x).svnFuses = s.svnFuses := rfl
@[simp] theorem State.setPort_rollback (p : Nat) (x : PortSt) : (s.setPort p x).rollback = s.rollback := rfl
@[simp] theorem State.setPort_bootCount (p : Nat) (x : PortSt) : (s.setPort p x).bootCount = s.bootCount := rfl
@[simp] theorem State.setPort_fwRunning (p : Nat) (x : PortSt) : (s.setPort p x).fwRunning = s.fwRunning := rfl
@[simp] theorem State.setPort_fwStandby (p : Nat) (x : PortSt) : (s.setPort p x).fwStandby = s.fwStandby := rfl
@[simp] theorem State.setPort_fwMark (p : Nat) (x : PortSt) : (s.setPort p x).fwMark = s.fwMark := rfl
@[simp] theorem State.setPort_fwOwn (p : Nat) (x : PortSt) : (s.setPort p x).fwOwn = s.fwOwn := rfl
@[simp] theorem State.setPort_fwErasing (p : Nat) (x : PortSt) : (s.setPort p x).fwErasing = s.fwErasing := rfl
@[simp] theorem State.setPort_nvErasing (p : Nat) (x : PortSt) : (s.setPort p x).nvErasing = s.nvErasing := rfl
@[simp] theorem State.setPort_nvMark (p : Nat) (x : PortSt) : (s.setPort p x).nvMark = s.nvMark := rfl
@[simp] theorem State.setPort_imageWritten (p : Nat) (x : PortSt) : (s.setPort p x).imageWritten = s.imageWritten := rfl
@[simp] theorem State.setPort_flash (p : Nat) (x : PortSt) : (s.setPort p x).flash = s.flash := rfl
@[simp] theorem State.setPort_journalSeq (p : Nat) (x : PortSt) : (s.setPort p x).journalSeq = s.journalSeq := rfl
@[simp] theorem State.setPort_sessions (p : Nat) (x : PortSt) : (s.setPort p x).sessions = s.sessions := rfl
@[simp] theorem State.setPort_sources (p : Nat) (x : PortSt) : (s.setPort p x).sources = s.sources := rfl
@[simp] theorem State.setPort_watches (p : Nat) (x : PortSt) : (s.setPort p x).watches = s.watches := rfl
@[simp] theorem State.setPort_marshal (p : Nat) (x : PortSt) : (s.setPort p x).marshal = s.marshal := rfl
@[simp] theorem State.setPort_guardStore (p : Nat) (x : PortSt) : (s.setPort p x).guardStore = s.guardStore := rfl
@[simp] theorem State.setPort_scratchSeen (p : Nat) (x : PortSt) : (s.setPort p x).scratchSeen = s.scratchSeen := rfl
@[simp] theorem State.setPort_resetLow (p : Nat) (x : PortSt) : (s.setPort p x).resetLow = s.resetLow := rfl
@[simp] theorem State.setPort_aopDead (p : Nat) (x : PortSt) : (s.setPort p x).aopDead = s.aopDead := rfl
@[simp] theorem State.setPort_tripped (p : Nat) (x : PortSt) : (s.setPort p x).tripped = s.tripped := rfl
@[simp] theorem State.setPort_inputBlocked (p : Nat) (x : PortSt) : (s.setPort p x).inputBlocked = s.inputBlocked := rfl
@[simp] theorem State.setPort_sideband (p : Nat) (x : PortSt) : (s.setPort p x).sideband = s.sideband := rfl
@[simp] theorem State.setPort_dimmKeep (p : Nat) (x : PortSt) : (s.setPort p x).dimmKeep = s.dimmKeep := rfl
@[simp] theorem State.setPort_hbmHold (p : Nat) (x : PortSt) : (s.setPort p x).hbmHold = s.hbmHold := rfl
@[simp] theorem State.setPort_govAt (p : Nat) (x : PortSt) : (s.setPort p x).govAt = s.govAt := rfl
@[simp] theorem State.setPort_sidebandAt (p : Nat) (x : PortSt) : (s.setPort p x).sidebandAt = s.sidebandAt := rfl
@[simp] theorem State.setPort_rd (p : Nat) (x : PortSt) (ob : ObjCode) (jj : Nat) : (s.setPort p x).rd ob jj = s.rd ob jj := rfl
@[simp] theorem State.setPort_fld (p : Nat) (x : PortSt) (ob : ObjCode) (jj ll ww : Nat) : (s.setPort p x).fld ob jj ll ww = s.fld ob jj ll ww := rfl
@[simp] theorem State.setPort_mem8 (p : Nat) (x : PortSt) (sp of : Nat) : (s.setPort p x).mem8 sp of = s.mem8 sp of := rfl

/-! `State.setPool` -/

@[simp] theorem State.setPool_pending (p : Nat) (x : PoolSt) : (s.setPool p x).pending = s.pending := rfl
@[simp] theorem State.setPool_ident (p : Nat) (x : PoolSt) : (s.setPool p x).ident = s.ident := rfl
@[simp] theorem State.setPool_now (p : Nat) (x : PoolSt) : (s.setPool p x).now = s.now := rfl
@[simp] theorem State.setPool_free (p : Nat) (x : PoolSt) : (s.setPool p x).free = s.free := rfl
@[simp] theorem State.setPool_objs (p : Nat) (x : PoolSt) : (s.setPool p x).objs = s.objs := rfl
@[simp] theorem State.setPool_mem (p : Nat) (x : PoolSt) : (s.setPool p x).mem = s.mem := rfl
@[simp] theorem State.setPool_out (p : Nat) (x : PoolSt) : (s.setPool p x).out = s.out := rfl
@[simp] theorem State.setPool_cores (p : Nat) (x : PoolSt) : (s.setPool p x).cores = s.cores := rfl
@[simp] theorem State.setPool_rkes (p : Nat) (x : PoolSt) : (s.setPool p x).rkes = s.rkes := rfl
@[simp] theorem State.setPool_rateWindow (p : Nat) (x : PoolSt) : (s.setPool p x).rateWindow = s.rateWindow := rfl
@[simp] theorem State.setPool_guardRanges (p : Nat) (x : PoolSt) : (s.setPool p x).guardRanges = s.guardRanges := rfl
@[simp] theorem State.setPool_dimmCopy (p : Nat) (x : PoolSt) : (s.setPool p x).dimmCopy = s.dimmCopy := rfl
@[simp] theorem State.setPool_recals (p : Nat) (x : PoolSt) : (s.setPool p x).recals = s.recals := rfl
@[simp] theorem State.setPool_patrols (p : Nat) (x : PoolSt) : (s.setPool p x).patrols = s.patrols := rfl
@[simp] theorem State.setPool_ramps (p : Nat) (x : PoolSt) : (s.setPool p x).ramps = s.ramps := rfl
@[simp] theorem State.setPool_waiting (p : Nat) (x : PoolSt) : (s.setPool p x).waiting = s.waiting := rfl
@[simp] theorem State.setPool_sent (p : Nat) (x : PoolSt) : (s.setPool p x).sent = s.sent := rfl
@[simp] theorem State.setPool_quarantine (p : Nat) (x : PoolSt) : (s.setPool p x).quarantine = s.quarantine := rfl
@[simp] theorem State.setPool_srcSts (p : Nat) (x : PoolSt) : (s.setPool p x).srcSts = s.srcSts := rfl
@[simp] theorem State.setPool_dstSts (p : Nat) (x : PoolSt) : (s.setPool p x).dstSts = s.dstSts := rfl
@[simp] theorem State.setPool_guards (p : Nat) (x : PoolSt) : (s.setPool p x).guards = s.guards := rfl
@[simp] theorem State.setPool_heldReqs (p : Nat) (x : PoolSt) : (s.setPool p x).heldReqs = s.heldReqs := rfl
@[simp] theorem State.setPool_frames (p : Nat) (x : PoolSt) : (s.setPool p x).frames = s.frames := rfl
@[simp] theorem State.setPool_copies (p : Nat) (x : PoolSt) : (s.setPool p x).copies = s.copies := rfl
@[simp] theorem State.setPool_nextFrame (p : Nat) (x : PoolSt) : (s.setPool p x).nextFrame = s.nextFrame := rfl
@[simp] theorem State.setPool_nextPick (p : Nat) (x : PoolSt) : (s.setPool p x).nextPick = s.nextPick := rfl
@[simp] theorem State.setPool_cellTime (p : Nat) (x : PoolSt) : (s.setPool p x).cellTime = s.cellTime := rfl
@[simp] theorem State.setPool_charges (p : Nat) (x : PoolSt) : (s.setPool p x).charges = s.charges := rfl
@[simp] theorem State.setPool_offAt (p : Nat) (x : PoolSt) : (s.setPool p x).offAt = s.offAt := rfl
@[simp] theorem State.setPool_grantPtr (p : Nat) (x : PoolSt) : (s.setPool p x).grantPtr = s.grantPtr := rfl
@[simp] theorem State.setPool_acceptPtr (p : Nat) (x : PoolSt) : (s.setPool p x).acceptPtr = s.acceptPtr := rfl
@[simp] theorem State.setPool_mirrorSeen (p : Nat) (x : PoolSt) : (s.setPool p x).mirrorSeen = s.mirrorSeen := rfl
@[simp] theorem State.setPool_mirrorSeq (p : Nat) (x : PoolSt) : (s.setPool p x).mirrorSeq = s.mirrorSeq := rfl
@[simp] theorem State.setPool_mirrorQueue (p : Nat) (x : PoolSt) : (s.setPool p x).mirrorQueue = s.mirrorQueue := rfl
@[simp] theorem State.setPool_mirrorHeld (p : Nat) (x : PoolSt) : (s.setPool p x).mirrorHeld = s.mirrorHeld := rfl
@[simp] theorem State.setPool_rings (p : Nat) (x : PoolSt) : (s.setPool p x).rings = s.rings := rfl
@[simp] theorem State.setPool_credits (p : Nat) (x : PoolSt) : (s.setPool p x).credits = s.credits := rfl
@[simp] theorem State.setPool_buckets (p : Nat) (x : PoolSt) : (s.setPool p x).buckets = s.buckets := rfl
@[simp] theorem State.setPool_moves (p : Nat) (x : PoolSt) : (s.setPool p x).moves = s.moves := rfl
@[simp] theorem State.setPool_linkLocals (p : Nat) (x : PoolSt) : (s.setPool p x).linkLocals = s.linkLocals := rfl
@[simp] theorem State.setPool_ports (p : Nat) (x : PoolSt) : (s.setPool p x).ports = s.ports := rfl
@[simp] theorem State.setPool_elsLost (p : Nat) (x : PoolSt) : (s.setPool p x).elsLost = s.elsLost := rfl
@[simp] theorem State.setPool_elsSince (p : Nat) (x : PoolSt) : (s.setPool p x).elsSince = s.elsSince := rfl
@[simp] theorem State.setPool_elsOn (p : Nat) (x : PoolSt) : (s.setPool p x).elsOn = s.elsOn := rfl
@[simp] theorem State.setPool_reports (p : Nat) (x : PoolSt) : (s.setPool p x).reports = s.reports := rfl
@[simp] theorem State.setPool_ownerKey (p : Nat) (x : PoolSt) : (s.setPool p x).ownerKey = s.ownerKey := rfl
@[simp] theorem State.setPool_owners (p : Nat) (x : PoolSt) : (s.setPool p x).owners = s.owners := rfl
@[simp] theorem State.setPool_cvus (p : Nat) (x : PoolSt) : (s.setPool p x).cvus = s.cvus := rfl
@[simp] theorem State.setPool_scanJobs (p : Nat) (x : PoolSt) : (s.setPool p x).scanJobs = s.scanJobs := rfl
@[simp] theorem State.setPool_sus (p : Nat) (x : PoolSt) : (s.setPool p x).sus = s.sus := rfl
@[simp] theorem State.setPool_suBufs (p : Nat) (x : PoolSt) : (s.setPool p x).suBufs = s.suBufs := rfl
@[simp] theorem State.setPool_ctxs (p : Nat) (x : PoolSt) : (s.setPool p x).ctxs = s.ctxs := rfl
@[simp] theorem State.setPool_ringDone (p : Nat) (x : PoolSt) : (s.setPool p x).ringDone = s.ringDone := rfl
@[simp] theorem State.setPool_boot (p : Nat) (x : PoolSt) : (s.setPool p x).boot = s.boot := rfl
@[simp] theorem State.setPool_qps (p : Nat) (x : PoolSt) : (s.setPool p x).qps = s.qps := rfl
@[simp] theorem State.setPool_hostRings (p : Nat) (x : PoolSt) : (s.setPool p x).hostRings = s.hostRings := rfl
@[simp] theorem State.setPool_powerEntry (p : Nat) (x : PoolSt) : (s.setPool p x).powerEntry = s.powerEntry := rfl
@[simp] theorem State.setPool_powerWake (p : Nat) (x : PoolSt) : (s.setPool p x).powerWake = s.powerWake := rfl
@[simp] theorem State.setPool_saved (p : Nat) (x : PoolSt) : (s.setPool p x).saved = s.saved := rfl
@[simp] theorem State.setPool_govPower (p : Nat) (x : PoolSt) : (s.setPool p x).govPower = s.govPower := rfl
@[simp] theorem State.setPool_thermHold (p : Nat) (x : PoolSt) : (s.setPool p x).thermHold = s.thermHold := rfl
@[simp] theorem State.setPool_operatorKeys (p : Nat) (x : PoolSt) : (s.setPool p x).operatorKeys = s.operatorKeys := rfl
@[simp] theorem State.setPool_nvKey (p : Nat) (x : PoolSt) : (s.setPool p x).nvKey = s.nvKey := rfl
@[simp] theorem State.setPool_svnFuses (p : Nat) (x : PoolSt) : (s.setPool p x).svnFuses = s.svnFuses := rfl
@[simp] theorem State.setPool_rollback (p : Nat) (x : PoolSt) : (s.setPool p x).rollback = s.rollback := rfl
@[simp] theorem State.setPool_bootCount (p : Nat) (x : PoolSt) : (s.setPool p x).bootCount = s.bootCount := rfl
@[simp] theorem State.setPool_fwRunning (p : Nat) (x : PoolSt) : (s.setPool p x).fwRunning = s.fwRunning := rfl
@[simp] theorem State.setPool_fwStandby (p : Nat) (x : PoolSt) : (s.setPool p x).fwStandby = s.fwStandby := rfl
@[simp] theorem State.setPool_fwMark (p : Nat) (x : PoolSt) : (s.setPool p x).fwMark = s.fwMark := rfl
@[simp] theorem State.setPool_fwOwn (p : Nat) (x : PoolSt) : (s.setPool p x).fwOwn = s.fwOwn := rfl
@[simp] theorem State.setPool_fwErasing (p : Nat) (x : PoolSt) : (s.setPool p x).fwErasing = s.fwErasing := rfl
@[simp] theorem State.setPool_nvErasing (p : Nat) (x : PoolSt) : (s.setPool p x).nvErasing = s.nvErasing := rfl
@[simp] theorem State.setPool_nvMark (p : Nat) (x : PoolSt) : (s.setPool p x).nvMark = s.nvMark := rfl
@[simp] theorem State.setPool_imageWritten (p : Nat) (x : PoolSt) : (s.setPool p x).imageWritten = s.imageWritten := rfl
@[simp] theorem State.setPool_flash (p : Nat) (x : PoolSt) : (s.setPool p x).flash = s.flash := rfl
@[simp] theorem State.setPool_journalSeq (p : Nat) (x : PoolSt) : (s.setPool p x).journalSeq = s.journalSeq := rfl
@[simp] theorem State.setPool_sessions (p : Nat) (x : PoolSt) : (s.setPool p x).sessions = s.sessions := rfl
@[simp] theorem State.setPool_sources (p : Nat) (x : PoolSt) : (s.setPool p x).sources = s.sources := rfl
@[simp] theorem State.setPool_watches (p : Nat) (x : PoolSt) : (s.setPool p x).watches = s.watches := rfl
@[simp] theorem State.setPool_marshal (p : Nat) (x : PoolSt) : (s.setPool p x).marshal = s.marshal := rfl
@[simp] theorem State.setPool_guardStore (p : Nat) (x : PoolSt) : (s.setPool p x).guardStore = s.guardStore := rfl
@[simp] theorem State.setPool_scratchSeen (p : Nat) (x : PoolSt) : (s.setPool p x).scratchSeen = s.scratchSeen := rfl
@[simp] theorem State.setPool_resetLow (p : Nat) (x : PoolSt) : (s.setPool p x).resetLow = s.resetLow := rfl
@[simp] theorem State.setPool_aopDead (p : Nat) (x : PoolSt) : (s.setPool p x).aopDead = s.aopDead := rfl
@[simp] theorem State.setPool_tripped (p : Nat) (x : PoolSt) : (s.setPool p x).tripped = s.tripped := rfl
@[simp] theorem State.setPool_inputBlocked (p : Nat) (x : PoolSt) : (s.setPool p x).inputBlocked = s.inputBlocked := rfl
@[simp] theorem State.setPool_sideband (p : Nat) (x : PoolSt) : (s.setPool p x).sideband = s.sideband := rfl
@[simp] theorem State.setPool_dimmKeep (p : Nat) (x : PoolSt) : (s.setPool p x).dimmKeep = s.dimmKeep := rfl
@[simp] theorem State.setPool_hbmHold (p : Nat) (x : PoolSt) : (s.setPool p x).hbmHold = s.hbmHold := rfl
@[simp] theorem State.setPool_govAt (p : Nat) (x : PoolSt) : (s.setPool p x).govAt = s.govAt := rfl
@[simp] theorem State.setPool_sidebandAt (p : Nat) (x : PoolSt) : (s.setPool p x).sidebandAt = s.sidebandAt := rfl
@[simp] theorem State.setPool_rd (p : Nat) (x : PoolSt) (ob : ObjCode) (jj : Nat) : (s.setPool p x).rd ob jj = s.rd ob jj := rfl
@[simp] theorem State.setPool_fld (p : Nat) (x : PoolSt) (ob : ObjCode) (jj ll ww : Nat) : (s.setPool p x).fld ob jj ll ww = s.fld ob jj ll ww := rfl
@[simp] theorem State.setPool_mem8 (p : Nat) (x : PoolSt) (sp of : Nat) : (s.setPool p x).mem8 sp of = s.mem8 sp of := rfl

/-! `State.setSu` -/

@[simp] theorem State.setSu_pending (u : Nat) (x : SuSt) : (s.setSu u x).pending = s.pending := rfl
@[simp] theorem State.setSu_ident (u : Nat) (x : SuSt) : (s.setSu u x).ident = s.ident := rfl
@[simp] theorem State.setSu_now (u : Nat) (x : SuSt) : (s.setSu u x).now = s.now := rfl
@[simp] theorem State.setSu_free (u : Nat) (x : SuSt) : (s.setSu u x).free = s.free := rfl
@[simp] theorem State.setSu_objs (u : Nat) (x : SuSt) : (s.setSu u x).objs = s.objs := rfl
@[simp] theorem State.setSu_mem (u : Nat) (x : SuSt) : (s.setSu u x).mem = s.mem := rfl
@[simp] theorem State.setSu_out (u : Nat) (x : SuSt) : (s.setSu u x).out = s.out := rfl
@[simp] theorem State.setSu_cores (u : Nat) (x : SuSt) : (s.setSu u x).cores = s.cores := rfl
@[simp] theorem State.setSu_rkes (u : Nat) (x : SuSt) : (s.setSu u x).rkes = s.rkes := rfl
@[simp] theorem State.setSu_rateWindow (u : Nat) (x : SuSt) : (s.setSu u x).rateWindow = s.rateWindow := rfl
@[simp] theorem State.setSu_guardRanges (u : Nat) (x : SuSt) : (s.setSu u x).guardRanges = s.guardRanges := rfl
@[simp] theorem State.setSu_dimmCopy (u : Nat) (x : SuSt) : (s.setSu u x).dimmCopy = s.dimmCopy := rfl
@[simp] theorem State.setSu_recals (u : Nat) (x : SuSt) : (s.setSu u x).recals = s.recals := rfl
@[simp] theorem State.setSu_patrols (u : Nat) (x : SuSt) : (s.setSu u x).patrols = s.patrols := rfl
@[simp] theorem State.setSu_ramps (u : Nat) (x : SuSt) : (s.setSu u x).ramps = s.ramps := rfl
@[simp] theorem State.setSu_waiting (u : Nat) (x : SuSt) : (s.setSu u x).waiting = s.waiting := rfl
@[simp] theorem State.setSu_sent (u : Nat) (x : SuSt) : (s.setSu u x).sent = s.sent := rfl
@[simp] theorem State.setSu_quarantine (u : Nat) (x : SuSt) : (s.setSu u x).quarantine = s.quarantine := rfl
@[simp] theorem State.setSu_srcSts (u : Nat) (x : SuSt) : (s.setSu u x).srcSts = s.srcSts := rfl
@[simp] theorem State.setSu_dstSts (u : Nat) (x : SuSt) : (s.setSu u x).dstSts = s.dstSts := rfl
@[simp] theorem State.setSu_guards (u : Nat) (x : SuSt) : (s.setSu u x).guards = s.guards := rfl
@[simp] theorem State.setSu_heldReqs (u : Nat) (x : SuSt) : (s.setSu u x).heldReqs = s.heldReqs := rfl
@[simp] theorem State.setSu_frames (u : Nat) (x : SuSt) : (s.setSu u x).frames = s.frames := rfl
@[simp] theorem State.setSu_copies (u : Nat) (x : SuSt) : (s.setSu u x).copies = s.copies := rfl
@[simp] theorem State.setSu_nextFrame (u : Nat) (x : SuSt) : (s.setSu u x).nextFrame = s.nextFrame := rfl
@[simp] theorem State.setSu_nextPick (u : Nat) (x : SuSt) : (s.setSu u x).nextPick = s.nextPick := rfl
@[simp] theorem State.setSu_cellTime (u : Nat) (x : SuSt) : (s.setSu u x).cellTime = s.cellTime := rfl
@[simp] theorem State.setSu_charges (u : Nat) (x : SuSt) : (s.setSu u x).charges = s.charges := rfl
@[simp] theorem State.setSu_offAt (u : Nat) (x : SuSt) : (s.setSu u x).offAt = s.offAt := rfl
@[simp] theorem State.setSu_grantPtr (u : Nat) (x : SuSt) : (s.setSu u x).grantPtr = s.grantPtr := rfl
@[simp] theorem State.setSu_acceptPtr (u : Nat) (x : SuSt) : (s.setSu u x).acceptPtr = s.acceptPtr := rfl
@[simp] theorem State.setSu_mirrorSeen (u : Nat) (x : SuSt) : (s.setSu u x).mirrorSeen = s.mirrorSeen := rfl
@[simp] theorem State.setSu_mirrorSeq (u : Nat) (x : SuSt) : (s.setSu u x).mirrorSeq = s.mirrorSeq := rfl
@[simp] theorem State.setSu_mirrorQueue (u : Nat) (x : SuSt) : (s.setSu u x).mirrorQueue = s.mirrorQueue := rfl
@[simp] theorem State.setSu_mirrorHeld (u : Nat) (x : SuSt) : (s.setSu u x).mirrorHeld = s.mirrorHeld := rfl
@[simp] theorem State.setSu_rings (u : Nat) (x : SuSt) : (s.setSu u x).rings = s.rings := rfl
@[simp] theorem State.setSu_credits (u : Nat) (x : SuSt) : (s.setSu u x).credits = s.credits := rfl
@[simp] theorem State.setSu_buckets (u : Nat) (x : SuSt) : (s.setSu u x).buckets = s.buckets := rfl
@[simp] theorem State.setSu_moves (u : Nat) (x : SuSt) : (s.setSu u x).moves = s.moves := rfl
@[simp] theorem State.setSu_linkLocals (u : Nat) (x : SuSt) : (s.setSu u x).linkLocals = s.linkLocals := rfl
@[simp] theorem State.setSu_ports (u : Nat) (x : SuSt) : (s.setSu u x).ports = s.ports := rfl
@[simp] theorem State.setSu_elsLost (u : Nat) (x : SuSt) : (s.setSu u x).elsLost = s.elsLost := rfl
@[simp] theorem State.setSu_elsSince (u : Nat) (x : SuSt) : (s.setSu u x).elsSince = s.elsSince := rfl
@[simp] theorem State.setSu_elsOn (u : Nat) (x : SuSt) : (s.setSu u x).elsOn = s.elsOn := rfl
@[simp] theorem State.setSu_reports (u : Nat) (x : SuSt) : (s.setSu u x).reports = s.reports := rfl
@[simp] theorem State.setSu_ownerKey (u : Nat) (x : SuSt) : (s.setSu u x).ownerKey = s.ownerKey := rfl
@[simp] theorem State.setSu_pools (u : Nat) (x : SuSt) : (s.setSu u x).pools = s.pools := rfl
@[simp] theorem State.setSu_owners (u : Nat) (x : SuSt) : (s.setSu u x).owners = s.owners := rfl
@[simp] theorem State.setSu_cvus (u : Nat) (x : SuSt) : (s.setSu u x).cvus = s.cvus := rfl
@[simp] theorem State.setSu_scanJobs (u : Nat) (x : SuSt) : (s.setSu u x).scanJobs = s.scanJobs := rfl
@[simp] theorem State.setSu_suBufs (u : Nat) (x : SuSt) : (s.setSu u x).suBufs = s.suBufs := rfl
@[simp] theorem State.setSu_ctxs (u : Nat) (x : SuSt) : (s.setSu u x).ctxs = s.ctxs := rfl
@[simp] theorem State.setSu_ringDone (u : Nat) (x : SuSt) : (s.setSu u x).ringDone = s.ringDone := rfl
@[simp] theorem State.setSu_boot (u : Nat) (x : SuSt) : (s.setSu u x).boot = s.boot := rfl
@[simp] theorem State.setSu_qps (u : Nat) (x : SuSt) : (s.setSu u x).qps = s.qps := rfl
@[simp] theorem State.setSu_hostRings (u : Nat) (x : SuSt) : (s.setSu u x).hostRings = s.hostRings := rfl
@[simp] theorem State.setSu_powerEntry (u : Nat) (x : SuSt) : (s.setSu u x).powerEntry = s.powerEntry := rfl
@[simp] theorem State.setSu_powerWake (u : Nat) (x : SuSt) : (s.setSu u x).powerWake = s.powerWake := rfl
@[simp] theorem State.setSu_saved (u : Nat) (x : SuSt) : (s.setSu u x).saved = s.saved := rfl
@[simp] theorem State.setSu_govPower (u : Nat) (x : SuSt) : (s.setSu u x).govPower = s.govPower := rfl
@[simp] theorem State.setSu_thermHold (u : Nat) (x : SuSt) : (s.setSu u x).thermHold = s.thermHold := rfl
@[simp] theorem State.setSu_operatorKeys (u : Nat) (x : SuSt) : (s.setSu u x).operatorKeys = s.operatorKeys := rfl
@[simp] theorem State.setSu_nvKey (u : Nat) (x : SuSt) : (s.setSu u x).nvKey = s.nvKey := rfl
@[simp] theorem State.setSu_svnFuses (u : Nat) (x : SuSt) : (s.setSu u x).svnFuses = s.svnFuses := rfl
@[simp] theorem State.setSu_rollback (u : Nat) (x : SuSt) : (s.setSu u x).rollback = s.rollback := rfl
@[simp] theorem State.setSu_bootCount (u : Nat) (x : SuSt) : (s.setSu u x).bootCount = s.bootCount := rfl
@[simp] theorem State.setSu_fwRunning (u : Nat) (x : SuSt) : (s.setSu u x).fwRunning = s.fwRunning := rfl
@[simp] theorem State.setSu_fwStandby (u : Nat) (x : SuSt) : (s.setSu u x).fwStandby = s.fwStandby := rfl
@[simp] theorem State.setSu_fwMark (u : Nat) (x : SuSt) : (s.setSu u x).fwMark = s.fwMark := rfl
@[simp] theorem State.setSu_fwOwn (u : Nat) (x : SuSt) : (s.setSu u x).fwOwn = s.fwOwn := rfl
@[simp] theorem State.setSu_fwErasing (u : Nat) (x : SuSt) : (s.setSu u x).fwErasing = s.fwErasing := rfl
@[simp] theorem State.setSu_nvErasing (u : Nat) (x : SuSt) : (s.setSu u x).nvErasing = s.nvErasing := rfl
@[simp] theorem State.setSu_nvMark (u : Nat) (x : SuSt) : (s.setSu u x).nvMark = s.nvMark := rfl
@[simp] theorem State.setSu_imageWritten (u : Nat) (x : SuSt) : (s.setSu u x).imageWritten = s.imageWritten := rfl
@[simp] theorem State.setSu_flash (u : Nat) (x : SuSt) : (s.setSu u x).flash = s.flash := rfl
@[simp] theorem State.setSu_journalSeq (u : Nat) (x : SuSt) : (s.setSu u x).journalSeq = s.journalSeq := rfl
@[simp] theorem State.setSu_sessions (u : Nat) (x : SuSt) : (s.setSu u x).sessions = s.sessions := rfl
@[simp] theorem State.setSu_sources (u : Nat) (x : SuSt) : (s.setSu u x).sources = s.sources := rfl
@[simp] theorem State.setSu_watches (u : Nat) (x : SuSt) : (s.setSu u x).watches = s.watches := rfl
@[simp] theorem State.setSu_marshal (u : Nat) (x : SuSt) : (s.setSu u x).marshal = s.marshal := rfl
@[simp] theorem State.setSu_guardStore (u : Nat) (x : SuSt) : (s.setSu u x).guardStore = s.guardStore := rfl
@[simp] theorem State.setSu_scratchSeen (u : Nat) (x : SuSt) : (s.setSu u x).scratchSeen = s.scratchSeen := rfl
@[simp] theorem State.setSu_resetLow (u : Nat) (x : SuSt) : (s.setSu u x).resetLow = s.resetLow := rfl
@[simp] theorem State.setSu_aopDead (u : Nat) (x : SuSt) : (s.setSu u x).aopDead = s.aopDead := rfl
@[simp] theorem State.setSu_tripped (u : Nat) (x : SuSt) : (s.setSu u x).tripped = s.tripped := rfl
@[simp] theorem State.setSu_inputBlocked (u : Nat) (x : SuSt) : (s.setSu u x).inputBlocked = s.inputBlocked := rfl
@[simp] theorem State.setSu_sideband (u : Nat) (x : SuSt) : (s.setSu u x).sideband = s.sideband := rfl
@[simp] theorem State.setSu_dimmKeep (u : Nat) (x : SuSt) : (s.setSu u x).dimmKeep = s.dimmKeep := rfl
@[simp] theorem State.setSu_hbmHold (u : Nat) (x : SuSt) : (s.setSu u x).hbmHold = s.hbmHold := rfl
@[simp] theorem State.setSu_govAt (u : Nat) (x : SuSt) : (s.setSu u x).govAt = s.govAt := rfl
@[simp] theorem State.setSu_sidebandAt (u : Nat) (x : SuSt) : (s.setSu u x).sidebandAt = s.sidebandAt := rfl
@[simp] theorem State.setSu_rd (u : Nat) (x : SuSt) (ob : ObjCode) (jj : Nat) : (s.setSu u x).rd ob jj = s.rd ob jj := rfl
@[simp] theorem State.setSu_fld (u : Nat) (x : SuSt) (ob : ObjCode) (jj ll ww : Nat) : (s.setSu u x).fld ob jj ll ww = s.fld ob jj ll ww := rfl
@[simp] theorem State.setSu_mem8 (u : Nat) (x : SuSt) (sp of : Nat) : (s.setSu u x).mem8 sp of = s.mem8 sp of := rfl

/-! `State.setCtx` -/

@[simp] theorem State.setCtx_pending (c : Nat) (x : CtxSt) : (s.setCtx c x).pending = s.pending := rfl
@[simp] theorem State.setCtx_ident (c : Nat) (x : CtxSt) : (s.setCtx c x).ident = s.ident := rfl
@[simp] theorem State.setCtx_now (c : Nat) (x : CtxSt) : (s.setCtx c x).now = s.now := rfl
@[simp] theorem State.setCtx_free (c : Nat) (x : CtxSt) : (s.setCtx c x).free = s.free := rfl
@[simp] theorem State.setCtx_objs (c : Nat) (x : CtxSt) : (s.setCtx c x).objs = s.objs := rfl
@[simp] theorem State.setCtx_mem (c : Nat) (x : CtxSt) : (s.setCtx c x).mem = s.mem := rfl
@[simp] theorem State.setCtx_out (c : Nat) (x : CtxSt) : (s.setCtx c x).out = s.out := rfl
@[simp] theorem State.setCtx_cores (c : Nat) (x : CtxSt) : (s.setCtx c x).cores = s.cores := rfl
@[simp] theorem State.setCtx_rkes (c : Nat) (x : CtxSt) : (s.setCtx c x).rkes = s.rkes := rfl
@[simp] theorem State.setCtx_rateWindow (c : Nat) (x : CtxSt) : (s.setCtx c x).rateWindow = s.rateWindow := rfl
@[simp] theorem State.setCtx_guardRanges (c : Nat) (x : CtxSt) : (s.setCtx c x).guardRanges = s.guardRanges := rfl
@[simp] theorem State.setCtx_dimmCopy (c : Nat) (x : CtxSt) : (s.setCtx c x).dimmCopy = s.dimmCopy := rfl
@[simp] theorem State.setCtx_recals (c : Nat) (x : CtxSt) : (s.setCtx c x).recals = s.recals := rfl
@[simp] theorem State.setCtx_patrols (c : Nat) (x : CtxSt) : (s.setCtx c x).patrols = s.patrols := rfl
@[simp] theorem State.setCtx_ramps (c : Nat) (x : CtxSt) : (s.setCtx c x).ramps = s.ramps := rfl
@[simp] theorem State.setCtx_waiting (c : Nat) (x : CtxSt) : (s.setCtx c x).waiting = s.waiting := rfl
@[simp] theorem State.setCtx_sent (c : Nat) (x : CtxSt) : (s.setCtx c x).sent = s.sent := rfl
@[simp] theorem State.setCtx_quarantine (c : Nat) (x : CtxSt) : (s.setCtx c x).quarantine = s.quarantine := rfl
@[simp] theorem State.setCtx_srcSts (c : Nat) (x : CtxSt) : (s.setCtx c x).srcSts = s.srcSts := rfl
@[simp] theorem State.setCtx_dstSts (c : Nat) (x : CtxSt) : (s.setCtx c x).dstSts = s.dstSts := rfl
@[simp] theorem State.setCtx_guards (c : Nat) (x : CtxSt) : (s.setCtx c x).guards = s.guards := rfl
@[simp] theorem State.setCtx_heldReqs (c : Nat) (x : CtxSt) : (s.setCtx c x).heldReqs = s.heldReqs := rfl
@[simp] theorem State.setCtx_frames (c : Nat) (x : CtxSt) : (s.setCtx c x).frames = s.frames := rfl
@[simp] theorem State.setCtx_copies (c : Nat) (x : CtxSt) : (s.setCtx c x).copies = s.copies := rfl
@[simp] theorem State.setCtx_nextFrame (c : Nat) (x : CtxSt) : (s.setCtx c x).nextFrame = s.nextFrame := rfl
@[simp] theorem State.setCtx_nextPick (c : Nat) (x : CtxSt) : (s.setCtx c x).nextPick = s.nextPick := rfl
@[simp] theorem State.setCtx_cellTime (c : Nat) (x : CtxSt) : (s.setCtx c x).cellTime = s.cellTime := rfl
@[simp] theorem State.setCtx_charges (c : Nat) (x : CtxSt) : (s.setCtx c x).charges = s.charges := rfl
@[simp] theorem State.setCtx_offAt (c : Nat) (x : CtxSt) : (s.setCtx c x).offAt = s.offAt := rfl
@[simp] theorem State.setCtx_grantPtr (c : Nat) (x : CtxSt) : (s.setCtx c x).grantPtr = s.grantPtr := rfl
@[simp] theorem State.setCtx_acceptPtr (c : Nat) (x : CtxSt) : (s.setCtx c x).acceptPtr = s.acceptPtr := rfl
@[simp] theorem State.setCtx_mirrorSeen (c : Nat) (x : CtxSt) : (s.setCtx c x).mirrorSeen = s.mirrorSeen := rfl
@[simp] theorem State.setCtx_mirrorSeq (c : Nat) (x : CtxSt) : (s.setCtx c x).mirrorSeq = s.mirrorSeq := rfl
@[simp] theorem State.setCtx_mirrorQueue (c : Nat) (x : CtxSt) : (s.setCtx c x).mirrorQueue = s.mirrorQueue := rfl
@[simp] theorem State.setCtx_mirrorHeld (c : Nat) (x : CtxSt) : (s.setCtx c x).mirrorHeld = s.mirrorHeld := rfl
@[simp] theorem State.setCtx_rings (c : Nat) (x : CtxSt) : (s.setCtx c x).rings = s.rings := rfl
@[simp] theorem State.setCtx_credits (c : Nat) (x : CtxSt) : (s.setCtx c x).credits = s.credits := rfl
@[simp] theorem State.setCtx_buckets (c : Nat) (x : CtxSt) : (s.setCtx c x).buckets = s.buckets := rfl
@[simp] theorem State.setCtx_moves (c : Nat) (x : CtxSt) : (s.setCtx c x).moves = s.moves := rfl
@[simp] theorem State.setCtx_linkLocals (c : Nat) (x : CtxSt) : (s.setCtx c x).linkLocals = s.linkLocals := rfl
@[simp] theorem State.setCtx_ports (c : Nat) (x : CtxSt) : (s.setCtx c x).ports = s.ports := rfl
@[simp] theorem State.setCtx_elsLost (c : Nat) (x : CtxSt) : (s.setCtx c x).elsLost = s.elsLost := rfl
@[simp] theorem State.setCtx_elsSince (c : Nat) (x : CtxSt) : (s.setCtx c x).elsSince = s.elsSince := rfl
@[simp] theorem State.setCtx_elsOn (c : Nat) (x : CtxSt) : (s.setCtx c x).elsOn = s.elsOn := rfl
@[simp] theorem State.setCtx_reports (c : Nat) (x : CtxSt) : (s.setCtx c x).reports = s.reports := rfl
@[simp] theorem State.setCtx_ownerKey (c : Nat) (x : CtxSt) : (s.setCtx c x).ownerKey = s.ownerKey := rfl
@[simp] theorem State.setCtx_pools (c : Nat) (x : CtxSt) : (s.setCtx c x).pools = s.pools := rfl
@[simp] theorem State.setCtx_owners (c : Nat) (x : CtxSt) : (s.setCtx c x).owners = s.owners := rfl
@[simp] theorem State.setCtx_cvus (c : Nat) (x : CtxSt) : (s.setCtx c x).cvus = s.cvus := rfl
@[simp] theorem State.setCtx_scanJobs (c : Nat) (x : CtxSt) : (s.setCtx c x).scanJobs = s.scanJobs := rfl
@[simp] theorem State.setCtx_sus (c : Nat) (x : CtxSt) : (s.setCtx c x).sus = s.sus := rfl
@[simp] theorem State.setCtx_suBufs (c : Nat) (x : CtxSt) : (s.setCtx c x).suBufs = s.suBufs := rfl
@[simp] theorem State.setCtx_ringDone (c : Nat) (x : CtxSt) : (s.setCtx c x).ringDone = s.ringDone := rfl
@[simp] theorem State.setCtx_boot (c : Nat) (x : CtxSt) : (s.setCtx c x).boot = s.boot := rfl
@[simp] theorem State.setCtx_qps (c : Nat) (x : CtxSt) : (s.setCtx c x).qps = s.qps := rfl
@[simp] theorem State.setCtx_hostRings (c : Nat) (x : CtxSt) : (s.setCtx c x).hostRings = s.hostRings := rfl
@[simp] theorem State.setCtx_powerEntry (c : Nat) (x : CtxSt) : (s.setCtx c x).powerEntry = s.powerEntry := rfl
@[simp] theorem State.setCtx_powerWake (c : Nat) (x : CtxSt) : (s.setCtx c x).powerWake = s.powerWake := rfl
@[simp] theorem State.setCtx_saved (c : Nat) (x : CtxSt) : (s.setCtx c x).saved = s.saved := rfl
@[simp] theorem State.setCtx_govPower (c : Nat) (x : CtxSt) : (s.setCtx c x).govPower = s.govPower := rfl
@[simp] theorem State.setCtx_thermHold (c : Nat) (x : CtxSt) : (s.setCtx c x).thermHold = s.thermHold := rfl
@[simp] theorem State.setCtx_operatorKeys (c : Nat) (x : CtxSt) : (s.setCtx c x).operatorKeys = s.operatorKeys := rfl
@[simp] theorem State.setCtx_nvKey (c : Nat) (x : CtxSt) : (s.setCtx c x).nvKey = s.nvKey := rfl
@[simp] theorem State.setCtx_svnFuses (c : Nat) (x : CtxSt) : (s.setCtx c x).svnFuses = s.svnFuses := rfl
@[simp] theorem State.setCtx_rollback (c : Nat) (x : CtxSt) : (s.setCtx c x).rollback = s.rollback := rfl
@[simp] theorem State.setCtx_bootCount (c : Nat) (x : CtxSt) : (s.setCtx c x).bootCount = s.bootCount := rfl
@[simp] theorem State.setCtx_fwRunning (c : Nat) (x : CtxSt) : (s.setCtx c x).fwRunning = s.fwRunning := rfl
@[simp] theorem State.setCtx_fwStandby (c : Nat) (x : CtxSt) : (s.setCtx c x).fwStandby = s.fwStandby := rfl
@[simp] theorem State.setCtx_fwMark (c : Nat) (x : CtxSt) : (s.setCtx c x).fwMark = s.fwMark := rfl
@[simp] theorem State.setCtx_fwOwn (c : Nat) (x : CtxSt) : (s.setCtx c x).fwOwn = s.fwOwn := rfl
@[simp] theorem State.setCtx_fwErasing (c : Nat) (x : CtxSt) : (s.setCtx c x).fwErasing = s.fwErasing := rfl
@[simp] theorem State.setCtx_nvErasing (c : Nat) (x : CtxSt) : (s.setCtx c x).nvErasing = s.nvErasing := rfl
@[simp] theorem State.setCtx_nvMark (c : Nat) (x : CtxSt) : (s.setCtx c x).nvMark = s.nvMark := rfl
@[simp] theorem State.setCtx_imageWritten (c : Nat) (x : CtxSt) : (s.setCtx c x).imageWritten = s.imageWritten := rfl
@[simp] theorem State.setCtx_flash (c : Nat) (x : CtxSt) : (s.setCtx c x).flash = s.flash := rfl
@[simp] theorem State.setCtx_journalSeq (c : Nat) (x : CtxSt) : (s.setCtx c x).journalSeq = s.journalSeq := rfl
@[simp] theorem State.setCtx_sessions (c : Nat) (x : CtxSt) : (s.setCtx c x).sessions = s.sessions := rfl
@[simp] theorem State.setCtx_sources (c : Nat) (x : CtxSt) : (s.setCtx c x).sources = s.sources := rfl
@[simp] theorem State.setCtx_watches (c : Nat) (x : CtxSt) : (s.setCtx c x).watches = s.watches := rfl
@[simp] theorem State.setCtx_marshal (c : Nat) (x : CtxSt) : (s.setCtx c x).marshal = s.marshal := rfl
@[simp] theorem State.setCtx_guardStore (c : Nat) (x : CtxSt) : (s.setCtx c x).guardStore = s.guardStore := rfl
@[simp] theorem State.setCtx_scratchSeen (c : Nat) (x : CtxSt) : (s.setCtx c x).scratchSeen = s.scratchSeen := rfl
@[simp] theorem State.setCtx_resetLow (c : Nat) (x : CtxSt) : (s.setCtx c x).resetLow = s.resetLow := rfl
@[simp] theorem State.setCtx_aopDead (c : Nat) (x : CtxSt) : (s.setCtx c x).aopDead = s.aopDead := rfl
@[simp] theorem State.setCtx_tripped (c : Nat) (x : CtxSt) : (s.setCtx c x).tripped = s.tripped := rfl
@[simp] theorem State.setCtx_inputBlocked (c : Nat) (x : CtxSt) : (s.setCtx c x).inputBlocked = s.inputBlocked := rfl
@[simp] theorem State.setCtx_sideband (c : Nat) (x : CtxSt) : (s.setCtx c x).sideband = s.sideband := rfl
@[simp] theorem State.setCtx_dimmKeep (c : Nat) (x : CtxSt) : (s.setCtx c x).dimmKeep = s.dimmKeep := rfl
@[simp] theorem State.setCtx_hbmHold (c : Nat) (x : CtxSt) : (s.setCtx c x).hbmHold = s.hbmHold := rfl
@[simp] theorem State.setCtx_govAt (c : Nat) (x : CtxSt) : (s.setCtx c x).govAt = s.govAt := rfl
@[simp] theorem State.setCtx_sidebandAt (c : Nat) (x : CtxSt) : (s.setCtx c x).sidebandAt = s.sidebandAt := rfl
@[simp] theorem State.setCtx_rd (c : Nat) (x : CtxSt) (ob : ObjCode) (jj : Nat) : (s.setCtx c x).rd ob jj = s.rd ob jj := rfl
@[simp] theorem State.setCtx_fld (c : Nat) (x : CtxSt) (ob : ObjCode) (jj ll ww : Nat) : (s.setCtx c x).fld ob jj ll ww = s.fld ob jj ll ww := rfl
@[simp] theorem State.setCtx_mem8 (c : Nat) (x : CtxSt) (sp of : Nat) : (s.setCtx c x).mem8 sp of = s.mem8 sp of := rfl

/-! `State.setQp` -/

@[simp] theorem State.setQp_pending (q : Nat) (x : QpSt) : (s.setQp q x).pending = s.pending := rfl
@[simp] theorem State.setQp_ident (q : Nat) (x : QpSt) : (s.setQp q x).ident = s.ident := rfl
@[simp] theorem State.setQp_now (q : Nat) (x : QpSt) : (s.setQp q x).now = s.now := rfl
@[simp] theorem State.setQp_free (q : Nat) (x : QpSt) : (s.setQp q x).free = s.free := rfl
@[simp] theorem State.setQp_objs (q : Nat) (x : QpSt) : (s.setQp q x).objs = s.objs := rfl
@[simp] theorem State.setQp_mem (q : Nat) (x : QpSt) : (s.setQp q x).mem = s.mem := rfl
@[simp] theorem State.setQp_out (q : Nat) (x : QpSt) : (s.setQp q x).out = s.out := rfl
@[simp] theorem State.setQp_cores (q : Nat) (x : QpSt) : (s.setQp q x).cores = s.cores := rfl
@[simp] theorem State.setQp_rkes (q : Nat) (x : QpSt) : (s.setQp q x).rkes = s.rkes := rfl
@[simp] theorem State.setQp_rateWindow (q : Nat) (x : QpSt) : (s.setQp q x).rateWindow = s.rateWindow := rfl
@[simp] theorem State.setQp_guardRanges (q : Nat) (x : QpSt) : (s.setQp q x).guardRanges = s.guardRanges := rfl
@[simp] theorem State.setQp_dimmCopy (q : Nat) (x : QpSt) : (s.setQp q x).dimmCopy = s.dimmCopy := rfl
@[simp] theorem State.setQp_recals (q : Nat) (x : QpSt) : (s.setQp q x).recals = s.recals := rfl
@[simp] theorem State.setQp_patrols (q : Nat) (x : QpSt) : (s.setQp q x).patrols = s.patrols := rfl
@[simp] theorem State.setQp_ramps (q : Nat) (x : QpSt) : (s.setQp q x).ramps = s.ramps := rfl
@[simp] theorem State.setQp_waiting (q : Nat) (x : QpSt) : (s.setQp q x).waiting = s.waiting := rfl
@[simp] theorem State.setQp_sent (q : Nat) (x : QpSt) : (s.setQp q x).sent = s.sent := rfl
@[simp] theorem State.setQp_quarantine (q : Nat) (x : QpSt) : (s.setQp q x).quarantine = s.quarantine := rfl
@[simp] theorem State.setQp_srcSts (q : Nat) (x : QpSt) : (s.setQp q x).srcSts = s.srcSts := rfl
@[simp] theorem State.setQp_dstSts (q : Nat) (x : QpSt) : (s.setQp q x).dstSts = s.dstSts := rfl
@[simp] theorem State.setQp_guards (q : Nat) (x : QpSt) : (s.setQp q x).guards = s.guards := rfl
@[simp] theorem State.setQp_heldReqs (q : Nat) (x : QpSt) : (s.setQp q x).heldReqs = s.heldReqs := rfl
@[simp] theorem State.setQp_frames (q : Nat) (x : QpSt) : (s.setQp q x).frames = s.frames := rfl
@[simp] theorem State.setQp_copies (q : Nat) (x : QpSt) : (s.setQp q x).copies = s.copies := rfl
@[simp] theorem State.setQp_nextFrame (q : Nat) (x : QpSt) : (s.setQp q x).nextFrame = s.nextFrame := rfl
@[simp] theorem State.setQp_nextPick (q : Nat) (x : QpSt) : (s.setQp q x).nextPick = s.nextPick := rfl
@[simp] theorem State.setQp_cellTime (q : Nat) (x : QpSt) : (s.setQp q x).cellTime = s.cellTime := rfl
@[simp] theorem State.setQp_charges (q : Nat) (x : QpSt) : (s.setQp q x).charges = s.charges := rfl
@[simp] theorem State.setQp_offAt (q : Nat) (x : QpSt) : (s.setQp q x).offAt = s.offAt := rfl
@[simp] theorem State.setQp_grantPtr (q : Nat) (x : QpSt) : (s.setQp q x).grantPtr = s.grantPtr := rfl
@[simp] theorem State.setQp_acceptPtr (q : Nat) (x : QpSt) : (s.setQp q x).acceptPtr = s.acceptPtr := rfl
@[simp] theorem State.setQp_mirrorSeen (q : Nat) (x : QpSt) : (s.setQp q x).mirrorSeen = s.mirrorSeen := rfl
@[simp] theorem State.setQp_mirrorSeq (q : Nat) (x : QpSt) : (s.setQp q x).mirrorSeq = s.mirrorSeq := rfl
@[simp] theorem State.setQp_mirrorQueue (q : Nat) (x : QpSt) : (s.setQp q x).mirrorQueue = s.mirrorQueue := rfl
@[simp] theorem State.setQp_mirrorHeld (q : Nat) (x : QpSt) : (s.setQp q x).mirrorHeld = s.mirrorHeld := rfl
@[simp] theorem State.setQp_rings (q : Nat) (x : QpSt) : (s.setQp q x).rings = s.rings := rfl
@[simp] theorem State.setQp_credits (q : Nat) (x : QpSt) : (s.setQp q x).credits = s.credits := rfl
@[simp] theorem State.setQp_buckets (q : Nat) (x : QpSt) : (s.setQp q x).buckets = s.buckets := rfl
@[simp] theorem State.setQp_moves (q : Nat) (x : QpSt) : (s.setQp q x).moves = s.moves := rfl
@[simp] theorem State.setQp_linkLocals (q : Nat) (x : QpSt) : (s.setQp q x).linkLocals = s.linkLocals := rfl
@[simp] theorem State.setQp_ports (q : Nat) (x : QpSt) : (s.setQp q x).ports = s.ports := rfl
@[simp] theorem State.setQp_elsLost (q : Nat) (x : QpSt) : (s.setQp q x).elsLost = s.elsLost := rfl
@[simp] theorem State.setQp_elsSince (q : Nat) (x : QpSt) : (s.setQp q x).elsSince = s.elsSince := rfl
@[simp] theorem State.setQp_elsOn (q : Nat) (x : QpSt) : (s.setQp q x).elsOn = s.elsOn := rfl
@[simp] theorem State.setQp_reports (q : Nat) (x : QpSt) : (s.setQp q x).reports = s.reports := rfl
@[simp] theorem State.setQp_ownerKey (q : Nat) (x : QpSt) : (s.setQp q x).ownerKey = s.ownerKey := rfl
@[simp] theorem State.setQp_pools (q : Nat) (x : QpSt) : (s.setQp q x).pools = s.pools := rfl
@[simp] theorem State.setQp_owners (q : Nat) (x : QpSt) : (s.setQp q x).owners = s.owners := rfl
@[simp] theorem State.setQp_cvus (q : Nat) (x : QpSt) : (s.setQp q x).cvus = s.cvus := rfl
@[simp] theorem State.setQp_scanJobs (q : Nat) (x : QpSt) : (s.setQp q x).scanJobs = s.scanJobs := rfl
@[simp] theorem State.setQp_sus (q : Nat) (x : QpSt) : (s.setQp q x).sus = s.sus := rfl
@[simp] theorem State.setQp_suBufs (q : Nat) (x : QpSt) : (s.setQp q x).suBufs = s.suBufs := rfl
@[simp] theorem State.setQp_ctxs (q : Nat) (x : QpSt) : (s.setQp q x).ctxs = s.ctxs := rfl
@[simp] theorem State.setQp_ringDone (q : Nat) (x : QpSt) : (s.setQp q x).ringDone = s.ringDone := rfl
@[simp] theorem State.setQp_boot (q : Nat) (x : QpSt) : (s.setQp q x).boot = s.boot := rfl
@[simp] theorem State.setQp_hostRings (q : Nat) (x : QpSt) : (s.setQp q x).hostRings = s.hostRings := rfl
@[simp] theorem State.setQp_powerEntry (q : Nat) (x : QpSt) : (s.setQp q x).powerEntry = s.powerEntry := rfl
@[simp] theorem State.setQp_powerWake (q : Nat) (x : QpSt) : (s.setQp q x).powerWake = s.powerWake := rfl
@[simp] theorem State.setQp_saved (q : Nat) (x : QpSt) : (s.setQp q x).saved = s.saved := rfl
@[simp] theorem State.setQp_govPower (q : Nat) (x : QpSt) : (s.setQp q x).govPower = s.govPower := rfl
@[simp] theorem State.setQp_thermHold (q : Nat) (x : QpSt) : (s.setQp q x).thermHold = s.thermHold := rfl
@[simp] theorem State.setQp_operatorKeys (q : Nat) (x : QpSt) : (s.setQp q x).operatorKeys = s.operatorKeys := rfl
@[simp] theorem State.setQp_nvKey (q : Nat) (x : QpSt) : (s.setQp q x).nvKey = s.nvKey := rfl
@[simp] theorem State.setQp_svnFuses (q : Nat) (x : QpSt) : (s.setQp q x).svnFuses = s.svnFuses := rfl
@[simp] theorem State.setQp_rollback (q : Nat) (x : QpSt) : (s.setQp q x).rollback = s.rollback := rfl
@[simp] theorem State.setQp_bootCount (q : Nat) (x : QpSt) : (s.setQp q x).bootCount = s.bootCount := rfl
@[simp] theorem State.setQp_fwRunning (q : Nat) (x : QpSt) : (s.setQp q x).fwRunning = s.fwRunning := rfl
@[simp] theorem State.setQp_fwStandby (q : Nat) (x : QpSt) : (s.setQp q x).fwStandby = s.fwStandby := rfl
@[simp] theorem State.setQp_fwMark (q : Nat) (x : QpSt) : (s.setQp q x).fwMark = s.fwMark := rfl
@[simp] theorem State.setQp_fwOwn (q : Nat) (x : QpSt) : (s.setQp q x).fwOwn = s.fwOwn := rfl
@[simp] theorem State.setQp_fwErasing (q : Nat) (x : QpSt) : (s.setQp q x).fwErasing = s.fwErasing := rfl
@[simp] theorem State.setQp_nvErasing (q : Nat) (x : QpSt) : (s.setQp q x).nvErasing = s.nvErasing := rfl
@[simp] theorem State.setQp_nvMark (q : Nat) (x : QpSt) : (s.setQp q x).nvMark = s.nvMark := rfl
@[simp] theorem State.setQp_imageWritten (q : Nat) (x : QpSt) : (s.setQp q x).imageWritten = s.imageWritten := rfl
@[simp] theorem State.setQp_flash (q : Nat) (x : QpSt) : (s.setQp q x).flash = s.flash := rfl
@[simp] theorem State.setQp_journalSeq (q : Nat) (x : QpSt) : (s.setQp q x).journalSeq = s.journalSeq := rfl
@[simp] theorem State.setQp_sessions (q : Nat) (x : QpSt) : (s.setQp q x).sessions = s.sessions := rfl
@[simp] theorem State.setQp_sources (q : Nat) (x : QpSt) : (s.setQp q x).sources = s.sources := rfl
@[simp] theorem State.setQp_watches (q : Nat) (x : QpSt) : (s.setQp q x).watches = s.watches := rfl
@[simp] theorem State.setQp_marshal (q : Nat) (x : QpSt) : (s.setQp q x).marshal = s.marshal := rfl
@[simp] theorem State.setQp_guardStore (q : Nat) (x : QpSt) : (s.setQp q x).guardStore = s.guardStore := rfl
@[simp] theorem State.setQp_scratchSeen (q : Nat) (x : QpSt) : (s.setQp q x).scratchSeen = s.scratchSeen := rfl
@[simp] theorem State.setQp_resetLow (q : Nat) (x : QpSt) : (s.setQp q x).resetLow = s.resetLow := rfl
@[simp] theorem State.setQp_aopDead (q : Nat) (x : QpSt) : (s.setQp q x).aopDead = s.aopDead := rfl
@[simp] theorem State.setQp_tripped (q : Nat) (x : QpSt) : (s.setQp q x).tripped = s.tripped := rfl
@[simp] theorem State.setQp_inputBlocked (q : Nat) (x : QpSt) : (s.setQp q x).inputBlocked = s.inputBlocked := rfl
@[simp] theorem State.setQp_sideband (q : Nat) (x : QpSt) : (s.setQp q x).sideband = s.sideband := rfl
@[simp] theorem State.setQp_dimmKeep (q : Nat) (x : QpSt) : (s.setQp q x).dimmKeep = s.dimmKeep := rfl
@[simp] theorem State.setQp_hbmHold (q : Nat) (x : QpSt) : (s.setQp q x).hbmHold = s.hbmHold := rfl
@[simp] theorem State.setQp_govAt (q : Nat) (x : QpSt) : (s.setQp q x).govAt = s.govAt := rfl
@[simp] theorem State.setQp_sidebandAt (q : Nat) (x : QpSt) : (s.setQp q x).sidebandAt = s.sidebandAt := rfl
@[simp] theorem State.setQp_rd (q : Nat) (x : QpSt) (ob : ObjCode) (jj : Nat) : (s.setQp q x).rd ob jj = s.rd ob jj := rfl
@[simp] theorem State.setQp_fld (q : Nat) (x : QpSt) (ob : ObjCode) (jj ll ww : Nat) : (s.setQp q x).fld ob jj ll ww = s.fld ob jj ll ww := rfl
@[simp] theorem State.setQp_mem8 (q : Nat) (x : QpSt) (sp of : Nat) : (s.setQp q x).mem8 sp of = s.mem8 sp of := rfl

/-! `State.setWatch` -/

@[simp] theorem State.setWatch_pending (d : Nat) (w : Watch) : (s.setWatch d w).pending = s.pending := rfl
@[simp] theorem State.setWatch_ident (d : Nat) (w : Watch) : (s.setWatch d w).ident = s.ident := rfl
@[simp] theorem State.setWatch_now (d : Nat) (w : Watch) : (s.setWatch d w).now = s.now := rfl
@[simp] theorem State.setWatch_free (d : Nat) (w : Watch) : (s.setWatch d w).free = s.free := rfl
@[simp] theorem State.setWatch_objs (d : Nat) (w : Watch) : (s.setWatch d w).objs = s.objs := rfl
@[simp] theorem State.setWatch_mem (d : Nat) (w : Watch) : (s.setWatch d w).mem = s.mem := rfl
@[simp] theorem State.setWatch_out (d : Nat) (w : Watch) : (s.setWatch d w).out = s.out := rfl
@[simp] theorem State.setWatch_cores (d : Nat) (w : Watch) : (s.setWatch d w).cores = s.cores := rfl
@[simp] theorem State.setWatch_rkes (d : Nat) (w : Watch) : (s.setWatch d w).rkes = s.rkes := rfl
@[simp] theorem State.setWatch_rateWindow (d : Nat) (w : Watch) : (s.setWatch d w).rateWindow = s.rateWindow := rfl
@[simp] theorem State.setWatch_guardRanges (d : Nat) (w : Watch) : (s.setWatch d w).guardRanges = s.guardRanges := rfl
@[simp] theorem State.setWatch_dimmCopy (d : Nat) (w : Watch) : (s.setWatch d w).dimmCopy = s.dimmCopy := rfl
@[simp] theorem State.setWatch_recals (d : Nat) (w : Watch) : (s.setWatch d w).recals = s.recals := rfl
@[simp] theorem State.setWatch_patrols (d : Nat) (w : Watch) : (s.setWatch d w).patrols = s.patrols := rfl
@[simp] theorem State.setWatch_ramps (d : Nat) (w : Watch) : (s.setWatch d w).ramps = s.ramps := rfl
@[simp] theorem State.setWatch_waiting (d : Nat) (w : Watch) : (s.setWatch d w).waiting = s.waiting := rfl
@[simp] theorem State.setWatch_sent (d : Nat) (w : Watch) : (s.setWatch d w).sent = s.sent := rfl
@[simp] theorem State.setWatch_quarantine (d : Nat) (w : Watch) : (s.setWatch d w).quarantine = s.quarantine := rfl
@[simp] theorem State.setWatch_srcSts (d : Nat) (w : Watch) : (s.setWatch d w).srcSts = s.srcSts := rfl
@[simp] theorem State.setWatch_dstSts (d : Nat) (w : Watch) : (s.setWatch d w).dstSts = s.dstSts := rfl
@[simp] theorem State.setWatch_guards (d : Nat) (w : Watch) : (s.setWatch d w).guards = s.guards := rfl
@[simp] theorem State.setWatch_heldReqs (d : Nat) (w : Watch) : (s.setWatch d w).heldReqs = s.heldReqs := rfl
@[simp] theorem State.setWatch_frames (d : Nat) (w : Watch) : (s.setWatch d w).frames = s.frames := rfl
@[simp] theorem State.setWatch_copies (d : Nat) (w : Watch) : (s.setWatch d w).copies = s.copies := rfl
@[simp] theorem State.setWatch_nextFrame (d : Nat) (w : Watch) : (s.setWatch d w).nextFrame = s.nextFrame := rfl
@[simp] theorem State.setWatch_nextPick (d : Nat) (w : Watch) : (s.setWatch d w).nextPick = s.nextPick := rfl
@[simp] theorem State.setWatch_cellTime (d : Nat) (w : Watch) : (s.setWatch d w).cellTime = s.cellTime := rfl
@[simp] theorem State.setWatch_charges (d : Nat) (w : Watch) : (s.setWatch d w).charges = s.charges := rfl
@[simp] theorem State.setWatch_offAt (d : Nat) (w : Watch) : (s.setWatch d w).offAt = s.offAt := rfl
@[simp] theorem State.setWatch_grantPtr (d : Nat) (w : Watch) : (s.setWatch d w).grantPtr = s.grantPtr := rfl
@[simp] theorem State.setWatch_acceptPtr (d : Nat) (w : Watch) : (s.setWatch d w).acceptPtr = s.acceptPtr := rfl
@[simp] theorem State.setWatch_mirrorSeen (d : Nat) (w : Watch) : (s.setWatch d w).mirrorSeen = s.mirrorSeen := rfl
@[simp] theorem State.setWatch_mirrorSeq (d : Nat) (w : Watch) : (s.setWatch d w).mirrorSeq = s.mirrorSeq := rfl
@[simp] theorem State.setWatch_mirrorQueue (d : Nat) (w : Watch) : (s.setWatch d w).mirrorQueue = s.mirrorQueue := rfl
@[simp] theorem State.setWatch_mirrorHeld (d : Nat) (w : Watch) : (s.setWatch d w).mirrorHeld = s.mirrorHeld := rfl
@[simp] theorem State.setWatch_rings (d : Nat) (w : Watch) : (s.setWatch d w).rings = s.rings := rfl
@[simp] theorem State.setWatch_credits (d : Nat) (w : Watch) : (s.setWatch d w).credits = s.credits := rfl
@[simp] theorem State.setWatch_buckets (d : Nat) (w : Watch) : (s.setWatch d w).buckets = s.buckets := rfl
@[simp] theorem State.setWatch_moves (d : Nat) (w : Watch) : (s.setWatch d w).moves = s.moves := rfl
@[simp] theorem State.setWatch_linkLocals (d : Nat) (w : Watch) : (s.setWatch d w).linkLocals = s.linkLocals := rfl
@[simp] theorem State.setWatch_ports (d : Nat) (w : Watch) : (s.setWatch d w).ports = s.ports := rfl
@[simp] theorem State.setWatch_elsLost (d : Nat) (w : Watch) : (s.setWatch d w).elsLost = s.elsLost := rfl
@[simp] theorem State.setWatch_elsSince (d : Nat) (w : Watch) : (s.setWatch d w).elsSince = s.elsSince := rfl
@[simp] theorem State.setWatch_elsOn (d : Nat) (w : Watch) : (s.setWatch d w).elsOn = s.elsOn := rfl
@[simp] theorem State.setWatch_reports (d : Nat) (w : Watch) : (s.setWatch d w).reports = s.reports := rfl
@[simp] theorem State.setWatch_ownerKey (d : Nat) (w : Watch) : (s.setWatch d w).ownerKey = s.ownerKey := rfl
@[simp] theorem State.setWatch_pools (d : Nat) (w : Watch) : (s.setWatch d w).pools = s.pools := rfl
@[simp] theorem State.setWatch_owners (d : Nat) (w : Watch) : (s.setWatch d w).owners = s.owners := rfl
@[simp] theorem State.setWatch_cvus (d : Nat) (w : Watch) : (s.setWatch d w).cvus = s.cvus := rfl
@[simp] theorem State.setWatch_scanJobs (d : Nat) (w : Watch) : (s.setWatch d w).scanJobs = s.scanJobs := rfl
@[simp] theorem State.setWatch_sus (d : Nat) (w : Watch) : (s.setWatch d w).sus = s.sus := rfl
@[simp] theorem State.setWatch_suBufs (d : Nat) (w : Watch) : (s.setWatch d w).suBufs = s.suBufs := rfl
@[simp] theorem State.setWatch_ctxs (d : Nat) (w : Watch) : (s.setWatch d w).ctxs = s.ctxs := rfl
@[simp] theorem State.setWatch_ringDone (d : Nat) (w : Watch) : (s.setWatch d w).ringDone = s.ringDone := rfl
@[simp] theorem State.setWatch_boot (d : Nat) (w : Watch) : (s.setWatch d w).boot = s.boot := rfl
@[simp] theorem State.setWatch_qps (d : Nat) (w : Watch) : (s.setWatch d w).qps = s.qps := rfl
@[simp] theorem State.setWatch_hostRings (d : Nat) (w : Watch) : (s.setWatch d w).hostRings = s.hostRings := rfl
@[simp] theorem State.setWatch_powerEntry (d : Nat) (w : Watch) : (s.setWatch d w).powerEntry = s.powerEntry := rfl
@[simp] theorem State.setWatch_powerWake (d : Nat) (w : Watch) : (s.setWatch d w).powerWake = s.powerWake := rfl
@[simp] theorem State.setWatch_saved (d : Nat) (w : Watch) : (s.setWatch d w).saved = s.saved := rfl
@[simp] theorem State.setWatch_govPower (d : Nat) (w : Watch) : (s.setWatch d w).govPower = s.govPower := rfl
@[simp] theorem State.setWatch_thermHold (d : Nat) (w : Watch) : (s.setWatch d w).thermHold = s.thermHold := rfl
@[simp] theorem State.setWatch_operatorKeys (d : Nat) (w : Watch) : (s.setWatch d w).operatorKeys = s.operatorKeys := rfl
@[simp] theorem State.setWatch_nvKey (d : Nat) (w : Watch) : (s.setWatch d w).nvKey = s.nvKey := rfl
@[simp] theorem State.setWatch_svnFuses (d : Nat) (w : Watch) : (s.setWatch d w).svnFuses = s.svnFuses := rfl
@[simp] theorem State.setWatch_rollback (d : Nat) (w : Watch) : (s.setWatch d w).rollback = s.rollback := rfl
@[simp] theorem State.setWatch_bootCount (d : Nat) (w : Watch) : (s.setWatch d w).bootCount = s.bootCount := rfl
@[simp] theorem State.setWatch_fwRunning (d : Nat) (w : Watch) : (s.setWatch d w).fwRunning = s.fwRunning := rfl
@[simp] theorem State.setWatch_fwStandby (d : Nat) (w : Watch) : (s.setWatch d w).fwStandby = s.fwStandby := rfl
@[simp] theorem State.setWatch_fwMark (d : Nat) (w : Watch) : (s.setWatch d w).fwMark = s.fwMark := rfl
@[simp] theorem State.setWatch_fwOwn (d : Nat) (w : Watch) : (s.setWatch d w).fwOwn = s.fwOwn := rfl
@[simp] theorem State.setWatch_fwErasing (d : Nat) (w : Watch) : (s.setWatch d w).fwErasing = s.fwErasing := rfl
@[simp] theorem State.setWatch_nvErasing (d : Nat) (w : Watch) : (s.setWatch d w).nvErasing = s.nvErasing := rfl
@[simp] theorem State.setWatch_nvMark (d : Nat) (w : Watch) : (s.setWatch d w).nvMark = s.nvMark := rfl
@[simp] theorem State.setWatch_imageWritten (d : Nat) (w : Watch) : (s.setWatch d w).imageWritten = s.imageWritten := rfl
@[simp] theorem State.setWatch_flash (d : Nat) (w : Watch) : (s.setWatch d w).flash = s.flash := rfl
@[simp] theorem State.setWatch_journalSeq (d : Nat) (w : Watch) : (s.setWatch d w).journalSeq = s.journalSeq := rfl
@[simp] theorem State.setWatch_sessions (d : Nat) (w : Watch) : (s.setWatch d w).sessions = s.sessions := rfl
@[simp] theorem State.setWatch_sources (d : Nat) (w : Watch) : (s.setWatch d w).sources = s.sources := rfl
@[simp] theorem State.setWatch_marshal (d : Nat) (w : Watch) : (s.setWatch d w).marshal = s.marshal := rfl
@[simp] theorem State.setWatch_guardStore (d : Nat) (w : Watch) : (s.setWatch d w).guardStore = s.guardStore := rfl
@[simp] theorem State.setWatch_scratchSeen (d : Nat) (w : Watch) : (s.setWatch d w).scratchSeen = s.scratchSeen := rfl
@[simp] theorem State.setWatch_resetLow (d : Nat) (w : Watch) : (s.setWatch d w).resetLow = s.resetLow := rfl
@[simp] theorem State.setWatch_aopDead (d : Nat) (w : Watch) : (s.setWatch d w).aopDead = s.aopDead := rfl
@[simp] theorem State.setWatch_tripped (d : Nat) (w : Watch) : (s.setWatch d w).tripped = s.tripped := rfl
@[simp] theorem State.setWatch_inputBlocked (d : Nat) (w : Watch) : (s.setWatch d w).inputBlocked = s.inputBlocked := rfl
@[simp] theorem State.setWatch_sideband (d : Nat) (w : Watch) : (s.setWatch d w).sideband = s.sideband := rfl
@[simp] theorem State.setWatch_dimmKeep (d : Nat) (w : Watch) : (s.setWatch d w).dimmKeep = s.dimmKeep := rfl
@[simp] theorem State.setWatch_hbmHold (d : Nat) (w : Watch) : (s.setWatch d w).hbmHold = s.hbmHold := rfl
@[simp] theorem State.setWatch_govAt (d : Nat) (w : Watch) : (s.setWatch d w).govAt = s.govAt := rfl
@[simp] theorem State.setWatch_sidebandAt (d : Nat) (w : Watch) : (s.setWatch d w).sidebandAt = s.sidebandAt := rfl
@[simp] theorem State.setWatch_rd (d : Nat) (w : Watch) (ob : ObjCode) (jj : Nat) : (s.setWatch d w).rd ob jj = s.rd ob jj := rfl
@[simp] theorem State.setWatch_fld (d : Nat) (w : Watch) (ob : ObjCode) (jj ll ww : Nat) : (s.setWatch d w).fld ob jj ll ww = s.fld ob jj ll ww := rfl
@[simp] theorem State.setWatch_mem8 (d : Nat) (w : Watch) (sp of : Nat) : (s.setWatch d w).mem8 sp of = s.mem8 sp of := rfl

/-! `State.setMarshal` -/

@[simp] theorem State.setMarshal_pending (m : MarshalSt) : (s.setMarshal m).pending = s.pending := rfl
@[simp] theorem State.setMarshal_ident (m : MarshalSt) : (s.setMarshal m).ident = s.ident := rfl
@[simp] theorem State.setMarshal_now (m : MarshalSt) : (s.setMarshal m).now = s.now := rfl
@[simp] theorem State.setMarshal_free (m : MarshalSt) : (s.setMarshal m).free = s.free := rfl
@[simp] theorem State.setMarshal_objs (m : MarshalSt) : (s.setMarshal m).objs = s.objs := rfl
@[simp] theorem State.setMarshal_mem (m : MarshalSt) : (s.setMarshal m).mem = s.mem := rfl
@[simp] theorem State.setMarshal_out (m : MarshalSt) : (s.setMarshal m).out = s.out := rfl
@[simp] theorem State.setMarshal_cores (m : MarshalSt) : (s.setMarshal m).cores = s.cores := rfl
@[simp] theorem State.setMarshal_rkes (m : MarshalSt) : (s.setMarshal m).rkes = s.rkes := rfl
@[simp] theorem State.setMarshal_rateWindow (m : MarshalSt) : (s.setMarshal m).rateWindow = s.rateWindow := rfl
@[simp] theorem State.setMarshal_guardRanges (m : MarshalSt) : (s.setMarshal m).guardRanges = s.guardRanges := rfl
@[simp] theorem State.setMarshal_dimmCopy (m : MarshalSt) : (s.setMarshal m).dimmCopy = s.dimmCopy := rfl
@[simp] theorem State.setMarshal_recals (m : MarshalSt) : (s.setMarshal m).recals = s.recals := rfl
@[simp] theorem State.setMarshal_patrols (m : MarshalSt) : (s.setMarshal m).patrols = s.patrols := rfl
@[simp] theorem State.setMarshal_ramps (m : MarshalSt) : (s.setMarshal m).ramps = s.ramps := rfl
@[simp] theorem State.setMarshal_waiting (m : MarshalSt) : (s.setMarshal m).waiting = s.waiting := rfl
@[simp] theorem State.setMarshal_sent (m : MarshalSt) : (s.setMarshal m).sent = s.sent := rfl
@[simp] theorem State.setMarshal_quarantine (m : MarshalSt) : (s.setMarshal m).quarantine = s.quarantine := rfl
@[simp] theorem State.setMarshal_srcSts (m : MarshalSt) : (s.setMarshal m).srcSts = s.srcSts := rfl
@[simp] theorem State.setMarshal_dstSts (m : MarshalSt) : (s.setMarshal m).dstSts = s.dstSts := rfl
@[simp] theorem State.setMarshal_guards (m : MarshalSt) : (s.setMarshal m).guards = s.guards := rfl
@[simp] theorem State.setMarshal_heldReqs (m : MarshalSt) : (s.setMarshal m).heldReqs = s.heldReqs := rfl
@[simp] theorem State.setMarshal_frames (m : MarshalSt) : (s.setMarshal m).frames = s.frames := rfl
@[simp] theorem State.setMarshal_copies (m : MarshalSt) : (s.setMarshal m).copies = s.copies := rfl
@[simp] theorem State.setMarshal_nextFrame (m : MarshalSt) : (s.setMarshal m).nextFrame = s.nextFrame := rfl
@[simp] theorem State.setMarshal_nextPick (m : MarshalSt) : (s.setMarshal m).nextPick = s.nextPick := rfl
@[simp] theorem State.setMarshal_cellTime (m : MarshalSt) : (s.setMarshal m).cellTime = s.cellTime := rfl
@[simp] theorem State.setMarshal_charges (m : MarshalSt) : (s.setMarshal m).charges = s.charges := rfl
@[simp] theorem State.setMarshal_offAt (m : MarshalSt) : (s.setMarshal m).offAt = s.offAt := rfl
@[simp] theorem State.setMarshal_grantPtr (m : MarshalSt) : (s.setMarshal m).grantPtr = s.grantPtr := rfl
@[simp] theorem State.setMarshal_acceptPtr (m : MarshalSt) : (s.setMarshal m).acceptPtr = s.acceptPtr := rfl
@[simp] theorem State.setMarshal_mirrorSeen (m : MarshalSt) : (s.setMarshal m).mirrorSeen = s.mirrorSeen := rfl
@[simp] theorem State.setMarshal_mirrorSeq (m : MarshalSt) : (s.setMarshal m).mirrorSeq = s.mirrorSeq := rfl
@[simp] theorem State.setMarshal_mirrorQueue (m : MarshalSt) : (s.setMarshal m).mirrorQueue = s.mirrorQueue := rfl
@[simp] theorem State.setMarshal_mirrorHeld (m : MarshalSt) : (s.setMarshal m).mirrorHeld = s.mirrorHeld := rfl
@[simp] theorem State.setMarshal_rings (m : MarshalSt) : (s.setMarshal m).rings = s.rings := rfl
@[simp] theorem State.setMarshal_credits (m : MarshalSt) : (s.setMarshal m).credits = s.credits := rfl
@[simp] theorem State.setMarshal_buckets (m : MarshalSt) : (s.setMarshal m).buckets = s.buckets := rfl
@[simp] theorem State.setMarshal_moves (m : MarshalSt) : (s.setMarshal m).moves = s.moves := rfl
@[simp] theorem State.setMarshal_linkLocals (m : MarshalSt) : (s.setMarshal m).linkLocals = s.linkLocals := rfl
@[simp] theorem State.setMarshal_ports (m : MarshalSt) : (s.setMarshal m).ports = s.ports := rfl
@[simp] theorem State.setMarshal_elsLost (m : MarshalSt) : (s.setMarshal m).elsLost = s.elsLost := rfl
@[simp] theorem State.setMarshal_elsSince (m : MarshalSt) : (s.setMarshal m).elsSince = s.elsSince := rfl
@[simp] theorem State.setMarshal_elsOn (m : MarshalSt) : (s.setMarshal m).elsOn = s.elsOn := rfl
@[simp] theorem State.setMarshal_reports (m : MarshalSt) : (s.setMarshal m).reports = s.reports := rfl
@[simp] theorem State.setMarshal_ownerKey (m : MarshalSt) : (s.setMarshal m).ownerKey = s.ownerKey := rfl
@[simp] theorem State.setMarshal_pools (m : MarshalSt) : (s.setMarshal m).pools = s.pools := rfl
@[simp] theorem State.setMarshal_owners (m : MarshalSt) : (s.setMarshal m).owners = s.owners := rfl
@[simp] theorem State.setMarshal_cvus (m : MarshalSt) : (s.setMarshal m).cvus = s.cvus := rfl
@[simp] theorem State.setMarshal_scanJobs (m : MarshalSt) : (s.setMarshal m).scanJobs = s.scanJobs := rfl
@[simp] theorem State.setMarshal_sus (m : MarshalSt) : (s.setMarshal m).sus = s.sus := rfl
@[simp] theorem State.setMarshal_suBufs (m : MarshalSt) : (s.setMarshal m).suBufs = s.suBufs := rfl
@[simp] theorem State.setMarshal_ctxs (m : MarshalSt) : (s.setMarshal m).ctxs = s.ctxs := rfl
@[simp] theorem State.setMarshal_ringDone (m : MarshalSt) : (s.setMarshal m).ringDone = s.ringDone := rfl
@[simp] theorem State.setMarshal_boot (m : MarshalSt) : (s.setMarshal m).boot = s.boot := rfl
@[simp] theorem State.setMarshal_qps (m : MarshalSt) : (s.setMarshal m).qps = s.qps := rfl
@[simp] theorem State.setMarshal_hostRings (m : MarshalSt) : (s.setMarshal m).hostRings = s.hostRings := rfl
@[simp] theorem State.setMarshal_powerEntry (m : MarshalSt) : (s.setMarshal m).powerEntry = s.powerEntry := rfl
@[simp] theorem State.setMarshal_powerWake (m : MarshalSt) : (s.setMarshal m).powerWake = s.powerWake := rfl
@[simp] theorem State.setMarshal_saved (m : MarshalSt) : (s.setMarshal m).saved = s.saved := rfl
@[simp] theorem State.setMarshal_govPower (m : MarshalSt) : (s.setMarshal m).govPower = s.govPower := rfl
@[simp] theorem State.setMarshal_thermHold (m : MarshalSt) : (s.setMarshal m).thermHold = s.thermHold := rfl
@[simp] theorem State.setMarshal_operatorKeys (m : MarshalSt) : (s.setMarshal m).operatorKeys = s.operatorKeys := rfl
@[simp] theorem State.setMarshal_nvKey (m : MarshalSt) : (s.setMarshal m).nvKey = s.nvKey := rfl
@[simp] theorem State.setMarshal_svnFuses (m : MarshalSt) : (s.setMarshal m).svnFuses = s.svnFuses := rfl
@[simp] theorem State.setMarshal_rollback (m : MarshalSt) : (s.setMarshal m).rollback = s.rollback := rfl
@[simp] theorem State.setMarshal_bootCount (m : MarshalSt) : (s.setMarshal m).bootCount = s.bootCount := rfl
@[simp] theorem State.setMarshal_fwRunning (m : MarshalSt) : (s.setMarshal m).fwRunning = s.fwRunning := rfl
@[simp] theorem State.setMarshal_fwStandby (m : MarshalSt) : (s.setMarshal m).fwStandby = s.fwStandby := rfl
@[simp] theorem State.setMarshal_fwMark (m : MarshalSt) : (s.setMarshal m).fwMark = s.fwMark := rfl
@[simp] theorem State.setMarshal_fwOwn (m : MarshalSt) : (s.setMarshal m).fwOwn = s.fwOwn := rfl
@[simp] theorem State.setMarshal_fwErasing (m : MarshalSt) : (s.setMarshal m).fwErasing = s.fwErasing := rfl
@[simp] theorem State.setMarshal_nvErasing (m : MarshalSt) : (s.setMarshal m).nvErasing = s.nvErasing := rfl
@[simp] theorem State.setMarshal_nvMark (m : MarshalSt) : (s.setMarshal m).nvMark = s.nvMark := rfl
@[simp] theorem State.setMarshal_imageWritten (m : MarshalSt) : (s.setMarshal m).imageWritten = s.imageWritten := rfl
@[simp] theorem State.setMarshal_flash (m : MarshalSt) : (s.setMarshal m).flash = s.flash := rfl
@[simp] theorem State.setMarshal_journalSeq (m : MarshalSt) : (s.setMarshal m).journalSeq = s.journalSeq := rfl
@[simp] theorem State.setMarshal_sessions (m : MarshalSt) : (s.setMarshal m).sessions = s.sessions := rfl
@[simp] theorem State.setMarshal_sources (m : MarshalSt) : (s.setMarshal m).sources = s.sources := rfl
@[simp] theorem State.setMarshal_watches (m : MarshalSt) : (s.setMarshal m).watches = s.watches := rfl
@[simp] theorem State.setMarshal_marshal (m : MarshalSt) : (s.setMarshal m).marshal = m := rfl
@[simp] theorem State.setMarshal_guardStore (m : MarshalSt) : (s.setMarshal m).guardStore = s.guardStore := rfl
@[simp] theorem State.setMarshal_scratchSeen (m : MarshalSt) : (s.setMarshal m).scratchSeen = s.scratchSeen := rfl
@[simp] theorem State.setMarshal_resetLow (m : MarshalSt) : (s.setMarshal m).resetLow = s.resetLow := rfl
@[simp] theorem State.setMarshal_aopDead (m : MarshalSt) : (s.setMarshal m).aopDead = s.aopDead := rfl
@[simp] theorem State.setMarshal_tripped (m : MarshalSt) : (s.setMarshal m).tripped = s.tripped := rfl
@[simp] theorem State.setMarshal_inputBlocked (m : MarshalSt) : (s.setMarshal m).inputBlocked = s.inputBlocked := rfl
@[simp] theorem State.setMarshal_sideband (m : MarshalSt) : (s.setMarshal m).sideband = s.sideband := rfl
@[simp] theorem State.setMarshal_dimmKeep (m : MarshalSt) : (s.setMarshal m).dimmKeep = s.dimmKeep := rfl
@[simp] theorem State.setMarshal_hbmHold (m : MarshalSt) : (s.setMarshal m).hbmHold = s.hbmHold := rfl
@[simp] theorem State.setMarshal_govAt (m : MarshalSt) : (s.setMarshal m).govAt = s.govAt := rfl
@[simp] theorem State.setMarshal_sidebandAt (m : MarshalSt) : (s.setMarshal m).sidebandAt = s.sidebandAt := rfl
@[simp] theorem State.setMarshal_rd (m : MarshalSt) (ob : ObjCode) (jj : Nat) : (s.setMarshal m).rd ob jj = s.rd ob jj := rfl
@[simp] theorem State.setMarshal_fld (m : MarshalSt) (ob : ObjCode) (jj ll ww : Nat) : (s.setMarshal m).fld ob jj ll ww = s.fld ob jj ll ww := rfl
@[simp] theorem State.setMarshal_mem8 (m : MarshalSt) (sp of : Nat) : (s.setMarshal m).mem8 sp of = s.mem8 sp of := rfl

end

/-! ### Reads of objects -/

theorem objKey_div (c : ObjCode) (i : Nat) : objKey c i / 2 ^ 32 = c := by
  unfold objKey; simp only [ObjCode] at *; omega

theorem objKey_mod (c : ObjCode) (i : Nat) : objKey c i % 2 ^ 32 = i % 2 ^ 32 := by
  unfold objKey; omega

theorem objKey_ne_code {c c' : ObjCode} (i i' : Nat) (h : c' ≠ c) : objKey c' i' ≠ objKey c i := by
  intro e; exact h (by rw [← objKey_div c' i', e, objKey_div])

theorem objKey_ne_idx {c c' : ObjCode} {i i' : Nat} (h : i' % 2 ^ 32 ≠ i % 2 ^ 32) : objKey c' i' ≠ objKey c i := by
  intro e; exact h (by rw [← objKey_mod c' i', e, objKey_mod])

/-- An object that is not fixed at manufacture reads what was written last. -/
theorem State.rd_wr_same (s : State) (c : ObjCode) (i v : Nat) (h : identRead s.ident c = none) :
    (s.wr c i v).rd c i = v := by
  unfold State.rd
  simp [h, State.wr, get_set_same]

/-- Writing one object leaves every other as it was. -/
theorem State.rd_wr_obj (s : State) {c c' : ObjCode} (i i' v : Nat) (h : c' ≠ c) :
    (s.wr c i v).rd c' i' = s.rd c' i' := by
  unfold State.rd
  simp [State.wr, get_set_other _ _ _ _ (objKey_ne_code i i' h)]

/-- Writing one entry of an object leaves every other as it was. -/
theorem State.rd_wr_idx (s : State) (c c' : ObjCode) {i i' : Nat} (v : Nat) (h : i' % 2 ^ 32 ≠ i % 2 ^ 32) :
    (s.wr c i v).rd c' i' = s.rd c' i' := by
  unfold State.rd
  simp [State.wr, get_set_other _ _ _ _ (objKey_ne_idx h)]

theorem State.wrFld_eq (s : State) (c : ObjCode) (i lo w v : Nat) :
    s.wrFld c i lo w v = s.wr c i (setBits (s.rd c i) lo w v) := rfl

theorem State.rd_wrFld_obj (s : State) {c c' : ObjCode} (i i' lo w v : Nat) (h : c' ≠ c) :
    (s.wrFld c i lo w v).rd c' i' = s.rd c' i' := s.rd_wr_obj i i' _ h

theorem State.fld_wrFld_obj (s : State) {c c' : ObjCode} (i i' lo w v lo' w' : Nat) (h : c' ≠ c) :
    (s.wrFld c i lo w v).fld c' i' lo' w' = s.fld c' i' lo' w' := by
  unfold State.fld; rw [s.rd_wrFld_obj i i' lo w v h]

theorem State.fld_wr_obj (s : State) {c c' : ObjCode} (i i' v lo' w' : Nat) (h : c' ≠ c) :
    (s.wr c i v).fld c' i' lo' w' = s.fld c' i' lo' w' := by
  unfold State.fld; rw [s.rd_wr_obj i i' v h]

/-! ### Bit fields -/

theorem bits_lt (x lo w : Nat) : bits x lo w < 2 ^ w := by
  unfold bits; exact Nat.mod_lt _ (Nat.two_pow_pos w)

theorem bits_eq (v lo w : Nat) : bits v lo w = v / 2 ^ lo % 2 ^ w := by
  unfold bits; rw [Nat.shiftRight_eq_div_pow]

theorem bits_eq_mod (v lo w : Nat) : bits v lo w = v % 2 ^ (lo + w) / 2 ^ lo := by
  rw [bits_eq, Nat.pow_add, Nat.mod_mul_right_div_self]

theorem setBits_eq (v lo w x : Nat) :
    setBits v lo w x = v % 2 ^ lo + x % 2 ^ w * 2 ^ lo + v / 2 ^ (lo + w) * 2 ^ (lo + w) := by
  unfold setBits
  rw [Nat.shiftRight_eq_div_pow, Nat.shiftLeft_eq, Nat.shiftLeft_eq]
  have h1 : v / 2 ^ (lo + w) = v / 2 ^ lo / 2 ^ w := by rw [Nat.pow_add, Nat.div_div_eq_div_mul]
  have h2 := Nat.div_add_mod v (2 ^ lo)
  have h3 := Nat.div_add_mod (v / 2 ^ lo) (2 ^ w)
  have h4 : v = v % 2 ^ lo + v / 2 ^ lo % 2 ^ w * 2 ^ lo + v / 2 ^ lo / 2 ^ w * (2 ^ lo * 2 ^ w) := by
    calc v = 2 ^ lo * (v / 2 ^ lo) + v % 2 ^ lo := h2.symm
      _ = 2 ^ lo * (2 ^ w * (v / 2 ^ lo / 2 ^ w) + v / 2 ^ lo % 2 ^ w) + v % 2 ^ lo := by rw [h3]
      _ = _ := by ring
  rw [h1, Nat.pow_add]
  omega

/-- A field reads what was written to it, to its width. -/
@[simp] theorem bits_setBits_same (v lo w x : Nat) : bits (setBits v lo w x) lo w = x % 2 ^ w := by
  rw [bits_eq, setBits_eq]
  have h : v % 2 ^ lo + x % 2 ^ w * 2 ^ lo + v / 2 ^ (lo + w) * 2 ^ (lo + w)
      = v % 2 ^ lo + 2 ^ lo * (x % 2 ^ w + 2 ^ w * (v / 2 ^ (lo + w))) := by rw [Nat.pow_add]; ring
  rw [h, Nat.add_mul_div_left _ _ (Nat.two_pow_pos lo), Nat.div_eq_of_lt (Nat.mod_lt _ (Nat.two_pow_pos lo)), zero_add,
    Nat.add_mul_mod_self_left, Nat.mod_mod]

theorem setBits_mod (v lo w x : Nat) : setBits v lo w x % 2 ^ lo = v % 2 ^ lo := by
  rw [setBits_eq]
  have h : v % 2 ^ lo + x % 2 ^ w * 2 ^ lo + v / 2 ^ (lo + w) * 2 ^ (lo + w)
      = v % 2 ^ lo + 2 ^ lo * (x % 2 ^ w + 2 ^ w * (v / 2 ^ (lo + w))) := by rw [Nat.pow_add]; ring
  rw [h, Nat.add_mul_mod_self_left, Nat.mod_mod]

theorem setBits_div (v lo w x : Nat) : setBits v lo w x / 2 ^ (lo + w) = v / 2 ^ (lo + w) := by
  rw [setBits_eq, Nat.add_mul_div_right _ _ (Nat.two_pow_pos _), Nat.div_eq_of_lt, zero_add]
  have h1 := Nat.mod_lt v (Nat.two_pow_pos lo)
  have h2 := Nat.mod_lt x (Nat.two_pow_pos w)
  calc v % 2 ^ lo + x % 2 ^ w * 2 ^ lo < 2 ^ lo + x % 2 ^ w * 2 ^ lo := by omega
    _ = (x % 2 ^ w + 1) * 2 ^ lo := by ring
    _ ≤ 2 ^ w * 2 ^ lo := Nat.mul_le_mul_right _ h2
    _ = 2 ^ (lo + w) := by rw [Nat.pow_add, Nat.mul_comm]

/-- A field is as it was after a write of another. -/
theorem bits_setBits_other (v lo w x lo' w' : Nat) (h : lo' + w' ≤ lo ∨ lo + w ≤ lo') :
    bits (setBits v lo w x) lo' w' = bits v lo' w' := by
  rcases h with h | h
  · have e : ∀ y, y % 2 ^ (lo' + w') = y % 2 ^ lo % 2 ^ (lo' + w') := fun y =>
      (Nat.mod_mod_of_dvd y (Nat.pow_dvd_pow 2 h)).symm
    rw [bits_eq_mod, bits_eq_mod, e, setBits_mod, ← e]
  · have e : ∀ y, y / 2 ^ lo' = y / 2 ^ (lo + w) / 2 ^ (lo' - (lo + w)) := fun y => by
      rw [Nat.div_div_eq_div_mul, ← Nat.pow_add]; congr 2; omega
    rw [bits_eq, bits_eq, e, setBits_div, ← e]

theorem State.fld_wrFld_same (s : State) (c : ObjCode) (i lo w v : Nat) (h : identRead s.ident c = none) :
    (s.wrFld c i lo w v).fld c i lo w = v % 2 ^ w := by
  unfold State.fld
  rw [State.wrFld_eq, s.rd_wr_same c i _ h, bits_setBits_same]

theorem State.fld_wrFld_other (s : State) (c : ObjCode) (i lo w v lo' w' : Nat) (h : identRead s.ident c = none)
    (hd : lo' + w' ≤ lo ∨ lo + w ≤ lo') : (s.wrFld c i lo w v).fld c i lo' w' = s.fld c i lo' w' := by
  unfold State.fld
  rw [State.wrFld_eq, s.rd_wr_same c i _ h, bits_setBits_other _ _ _ _ _ _ hd]

/-! ### Reads of the units' own states -/

theorem State.core_setCore_same (s : State) (n : Nat) (c : CoreSt) : (s.setCore n c).core n = c := by
  simp [State.core, State.setCore, get_set_same]

theorem State.core_setCore_other (s : State) {n m : Nat} (c : CoreSt) (h : m ≠ n) : (s.setCore n c).core m = s.core m := by
  simp [State.core, State.setCore, get_set_other _ _ _ _ h]

@[simp] theorem State.wr_core (s : State) (c : ObjCode) (i v n : Nat) : (s.wr c i v).core n = s.core n := rfl

@[simp] theorem State.wrFld_core (s : State) (c : ObjCode) (i lo w v n : Nat) : (s.wrFld c i lo w v).core n = s.core n := rfl

@[simp] theorem State.drawn_core (s : State) (n : Nat) : s.drawn.core n = s.core n := rfl

/-! Reads that meet no error (R165): they are delivered, and change nothing. -/

@[simp] theorem State.eccRead_clean (s : State) (region off n : Nat) : s.eccRead .clean region off n = (true, s) := rfl

@[simp] theorem eccAfter_clean (k : Nat) : eccAfter .clean k = .clean := rfl

@[simp] theorem eccRanges_clean (s : State) (l : List (Nat × Nat × Nat)) : eccRanges l .clean s = (true, s) := by
  induction l with
  | nil => rfl
  | cons x l ih => simp [eccRanges, ih]

@[simp] theorem State.mergeRead_clean (s : State) (region off len : Nat) : s.mergeRead .clean region off len = (true, s) := rfl

@[simp] theorem State.effectRead_clean (s : State) (n : Nat) (e : Effect) : s.effectRead n e .clean = (true, s) := by
  unfold State.effectRead
  split <;> rfl

@[simp] theorem State.applyEffects_clean (s : State) (n ord : Nat) (l : List Effect) :
    s.applyEffects n ord l .clean = (true, l.foldl (fun s e => s.applyEffect n ord e) s) := by
  induction l generalizing s with
  | nil => rfl
  | cons e l ih => simp [State.applyEffects, ih]

/-- The stride of a core that has come as far already does not move. -/
@[simp] theorem State.advance_self (s : State) (n t : Nat) (h : t ≤ s.stride n) : s.advance n t = s := by
  simp [State.advance, h]


end Sys2Proof.Machine
end

