-- ==== Sys2Proof/Laws/Footprint.lean ====
section
/-! SUPPORT. What a footprint leaves unchanged: a state agrees with another outside a footprint, every primitive write of the
footprint keeps that, and so every operation with the footprint leaves all else as it was. -/

namespace Sys2Proof.Laws

open Sys2Proof.Machine

/-- The state `t` agrees with `s` on everything outside a footprint. -/
structure Agree (m : Nat) (s t : State) : Prop where
  pending : t.pending = s.pending
  ident : t.ident = s.ident
  rd : ∀ c i, Foot.obj m c = false → t.rd c i = s.rd c i
  objs : (∀ c, Foot.obj m c = false) → t.objs = s.objs
  free : m.testBit 257 = false → t.free = s.free
  mem : m.testBit 256 = false → t.mem = s.mem
  out : m.testBit 258 = false → t.out = s.out
  now : m.testBit 259 = false → t.now = s.now
  cores : m.testBit 264 = false → t.cores = s.cores
  rkes : m.testBit 265 = false → t.rkes = s.rkes
  guardRanges : m.testBit 266 = false → t.guardRanges = s.guardRanges
  dimmCopy : m.testBit 267 = false → t.dimmCopy = s.dimmCopy
  recals : m.testBit 268 = false → t.recals = s.recals
  waiting : m.testBit 269 = false → t.waiting = s.waiting
  sent : m.testBit 270 = false → t.sent = s.sent
  quarantine : m.testBit 271 = false → t.quarantine = s.quarantine
  srcSts : m.testBit 272 = false → t.srcSts = s.srcSts
  dstSts : m.testBit 273 = false → t.dstSts = s.dstSts
  guards : m.testBit 274 = false → t.guards = s.guards
  heldReqs : m.testBit 275 = false → t.heldReqs = s.heldReqs
  frames : m.testBit 276 = false → t.frames = s.frames
  copies : m.testBit 277 = false → t.copies = s.copies
  nextFrame : m.testBit 278 = false → t.nextFrame = s.nextFrame
  nextPick : m.testBit 279 = false → t.nextPick = s.nextPick
  cellTime : m.testBit 280 = false → t.cellTime = s.cellTime
  charges : m.testBit 281 = false → t.charges = s.charges
  offAt : m.testBit 282 = false → t.offAt = s.offAt
  grantPtr : m.testBit 283 = false → t.grantPtr = s.grantPtr
  acceptPtr : m.testBit 284 = false → t.acceptPtr = s.acceptPtr
  mirrorSeen : m.testBit 285 = false → t.mirrorSeen = s.mirrorSeen
  mirrorSeq : m.testBit 286 = false → t.mirrorSeq = s.mirrorSeq
  mirrorQueue : m.testBit 287 = false → t.mirrorQueue = s.mirrorQueue
  rings : m.testBit 288 = false → t.rings = s.rings
  credits : m.testBit 289 = false → t.credits = s.credits
  buckets : m.testBit 290 = false → t.buckets = s.buckets
  ports : m.testBit 291 = false → t.ports = s.ports
  elsLost : m.testBit 292 = false → t.elsLost = s.elsLost
  elsSince : m.testBit 293 = false → t.elsSince = s.elsSince
  reports : m.testBit 294 = false → t.reports = s.reports
  ownerKey : m.testBit 295 = false → t.ownerKey = s.ownerKey
  pools : m.testBit 296 = false → t.pools = s.pools
  owners : m.testBit 297 = false → t.owners = s.owners
  cvus : m.testBit 298 = false → t.cvus = s.cvus
  scanJobs : m.testBit 299 = false → t.scanJobs = s.scanJobs
  sus : m.testBit 300 = false → t.sus = s.sus
  suBufs : m.testBit 301 = false → t.suBufs = s.suBufs
  ctxs : m.testBit 302 = false → t.ctxs = s.ctxs
  ringDone : m.testBit 303 = false → t.ringDone = s.ringDone
  boot : m.testBit 304 = false → t.boot = s.boot
  qps : m.testBit 305 = false → t.qps = s.qps
  hostRings : m.testBit 306 = false → t.hostRings = s.hostRings
  powerEntry : m.testBit 307 = false → t.powerEntry = s.powerEntry
  powerWake : m.testBit 308 = false → t.powerWake = s.powerWake
  saved : m.testBit 309 = false → t.saved = s.saved
  govPower : m.testBit 310 = false → t.govPower = s.govPower
  thermHold : m.testBit 311 = false → t.thermHold = s.thermHold
  operatorKeys : m.testBit 312 = false → t.operatorKeys = s.operatorKeys
  nvKey : m.testBit 313 = false → t.nvKey = s.nvKey
  svnFuses : m.testBit 314 = false → t.svnFuses = s.svnFuses
  rollback : m.testBit 315 = false → t.rollback = s.rollback
  bootCount : m.testBit 316 = false → t.bootCount = s.bootCount
  fwRunning : m.testBit 317 = false → t.fwRunning = s.fwRunning
  fwStandby : m.testBit 318 = false → t.fwStandby = s.fwStandby
  fwMark : m.testBit 319 = false → t.fwMark = s.fwMark
  fwOwn : m.testBit 320 = false → t.fwOwn = s.fwOwn
  fwErasing : m.testBit 321 = false → t.fwErasing = s.fwErasing
  nvErasing : m.testBit 322 = false → t.nvErasing = s.nvErasing
  nvMark : m.testBit 323 = false → t.nvMark = s.nvMark
  imageWritten : m.testBit 324 = false → t.imageWritten = s.imageWritten
  flash : m.testBit 325 = false → t.flash = s.flash
  journalSeq : m.testBit 326 = false → t.journalSeq = s.journalSeq
  sessions : m.testBit 327 = false → t.sessions = s.sessions
  sources : m.testBit 328 = false → t.sources = s.sources
  watches : m.testBit 329 = false → t.watches = s.watches
  marshal : m.testBit 330 = false → t.marshal = s.marshal
  guardStore : m.testBit 331 = false → t.guardStore = s.guardStore
  scratchSeen : m.testBit 332 = false → t.scratchSeen = s.scratchSeen
  resetLow : m.testBit 333 = false → t.resetLow = s.resetLow
  aopDead : m.testBit 334 = false → t.aopDead = s.aopDead
  tripped : m.testBit 335 = false → t.tripped = s.tripped
  inputBlocked : m.testBit 336 = false → t.inputBlocked = s.inputBlocked
  sideband : m.testBit 337 = false → t.sideband = s.sideband
  dimmKeep : m.testBit 338 = false → t.dimmKeep = s.dimmKeep
  rateWindow : m.testBit 339 = false → t.rateWindow = s.rateWindow
  patrols : m.testBit 340 = false → t.patrols = s.patrols
  ramps : m.testBit 341 = false → t.ramps = s.ramps
  mirrorHeld : m.testBit 342 = false → t.mirrorHeld = s.mirrorHeld
  moves : m.testBit 343 = false → t.moves = s.moves
  linkLocals : m.testBit 344 = false → t.linkLocals = s.linkLocals
  elsOn : m.testBit 345 = false → t.elsOn = s.elsOn
  hbmHold : m.testBit 346 = false → t.hbmHold = s.hbmHold
  govAt : m.testBit 347 = false → t.govAt = s.govAt
  sidebandAt : m.testBit 348 = false → t.sidebandAt = s.sidebandAt

/-- A state agrees with itself. -/
theorem Agree.refl (m : Nat) (s : State) : Agree m s s := by
  constructor <;> intros <;> rfl

/-- Of a filter that keeps the keys of an object, the object reads the same. -/
theorem rd_filter (s : State) (g : Nat × Nat → Bool) (c : ObjCode) (i : Nat) (h : ∀ p : Nat × Nat, p.1 / 2 ^ 32 = c → g p = true) :
    State.rd { s with objs := s.objs.filter g } c i = s.rd c i := by
  have hk : objKey c i / 2 ^ 32 = c := by
    have := Nat.mod_lt i (show 0 < 2 ^ 32 by decide)
    exact Nat.div_eq_of_lt_le (by unfold objKey; omega) (by unfold objKey; rw [Nat.succ_mul]; omega)
  have hf (l : KMap Nat) : KMap.find (l.filter g) (objKey c i) = l.find (objKey c i) := by
    induction l with
    | nil => rfl
    | cons p l ih =>
      obtain ⟨a, b⟩ := p
      by_cases ha : a = objKey c i
      · subst ha
        rw [List.filter_cons_of_pos (h _ hk)]
        simp only [KMap.find, if_true]
      · by_cases hg : g (a, b) = true
        · rw [List.filter_cons_of_pos hg]; simp only [KMap.find, if_neg ha, ih]
        · rw [List.filter_cons_of_neg hg, ih]; simp only [KMap.find, if_neg ha]
  simp only [State.rd, KMap.get, hf]

/-- Agreement outside a footprint without a restart is closed under the footprint. -/
theorem Agree.closed {m : Nat} (s : State) (hr : m.testBit 260 = false) : Closed m (Agree m s) where
  wr t c i v hc h := { h with
    rd := fun c' i' hf => (t.rd_wr_obj i i' v (by rintro rfl; rw [hf] at hc; cases hc)).trans (h.rd c' i' hf),
    objs := fun hf => by rw [hf c] at hc; cases hc }
  drop t g hg h := { h with
    rd := fun c i hf => (rd_filter t g c i fun p hp => hg p (by rw [hp]; exact hf)).trans (h.rd c i hf),
    objs := fun hf => (List.filter_eq_self.mpr fun p _ => hg p (hf _)).trans (h.objs hf) }
  mem hm t space off bs h := { h with mem := fun hf => by rw [hf] at hm; cases hm }
  memDrop hm t g h := { h with mem := fun hf => by rw [hf] at hm; cases hm }
  free hm t h := { h with free := fun hf => by rw [hf] at hm; cases hm }
  out hm t o h := { h with out := fun hf => by rw [hf] at hm; cases hm }
  now hm t h := { h with now := fun hf => by rw [hf] at hm; cases hm }
  restart hm := by rw [hr] at hm; cases hm
  cores hm t v h := { h with cores := fun hf => by rw [hf] at hm; cases hm }
  rkes hm t v h := { h with rkes := fun hf => by rw [hf] at hm; cases hm }
  guardRanges hm t v h := { h with guardRanges := fun hf => by rw [hf] at hm; cases hm }
  dimmCopy hm t v h := { h with dimmCopy := fun hf => by rw [hf] at hm; cases hm }
  recals hm t v h := { h with recals := fun hf => by rw [hf] at hm; cases hm }
  waiting hm t v h := { h with waiting := fun hf => by rw [hf] at hm; cases hm }
  sent hm t v h := { h with sent := fun hf => by rw [hf] at hm; cases hm }
  quarantine hm t v h := { h with quarantine := fun hf => by rw [hf] at hm; cases hm }
  srcSts hm t v h := { h with srcSts := fun hf => by rw [hf] at hm; cases hm }
  dstSts hm t v h := { h with dstSts := fun hf => by rw [hf] at hm; cases hm }
  guards hm t v h := { h with guards := fun hf => by rw [hf] at hm; cases hm }
  heldReqs hm t v h := { h with heldReqs := fun hf => by rw [hf] at hm; cases hm }
  frames hm t v h := { h with frames := fun hf => by rw [hf] at hm; cases hm }
  copies hm t v h := { h with copies := fun hf => by rw [hf] at hm; cases hm }
  nextFrame hm t v h := { h with nextFrame := fun hf => by rw [hf] at hm; cases hm }
  nextPick hm t v h := { h with nextPick := fun hf => by rw [hf] at hm; cases hm }
  cellTime hm t v h := { h with cellTime := fun hf => by rw [hf] at hm; cases hm }
  charges hm t v h := { h with charges := fun hf => by rw [hf] at hm; cases hm }
  offAt hm t v h := { h with offAt := fun hf => by rw [hf] at hm; cases hm }
  grantPtr hm t v h := { h with grantPtr := fun hf => by rw [hf] at hm; cases hm }
  acceptPtr hm t v h := { h with acceptPtr := fun hf => by rw [hf] at hm; cases hm }
  mirrorSeen hm t v h := { h with mirrorSeen := fun hf => by rw [hf] at hm; cases hm }
  mirrorSeq hm t v h := { h with mirrorSeq := fun hf => by rw [hf] at hm; cases hm }
  mirrorQueue hm t v h := { h with mirrorQueue := fun hf => by rw [hf] at hm; cases hm }
  rings hm t v h := { h with rings := fun hf => by rw [hf] at hm; cases hm }
  credits hm t v h := { h with credits := fun hf => by rw [hf] at hm; cases hm }
  buckets hm t v h := { h with buckets := fun hf => by rw [hf] at hm; cases hm }
  ports hm t v h := { h with ports := fun hf => by rw [hf] at hm; cases hm }
  elsLost hm t v h := { h with elsLost := fun hf => by rw [hf] at hm; cases hm }
  elsSince hm t v h := { h with elsSince := fun hf => by rw [hf] at hm; cases hm }
  reports hm t v h := { h with reports := fun hf => by rw [hf] at hm; cases hm }
  ownerKey hm t v h := { h with ownerKey := fun hf => by rw [hf] at hm; cases hm }
  pools hm t v h := { h with pools := fun hf => by rw [hf] at hm; cases hm }
  owners hm t v h := { h with owners := fun hf => by rw [hf] at hm; cases hm }
  cvus hm t v h := { h with cvus := fun hf => by rw [hf] at hm; cases hm }
  scanJobs hm t v h := { h with scanJobs := fun hf => by rw [hf] at hm; cases hm }
  sus hm t v h := { h with sus := fun hf => by rw [hf] at hm; cases hm }
  suBufs hm t v h := { h with suBufs := fun hf => by rw [hf] at hm; cases hm }
  ctxs hm t v h := { h with ctxs := fun hf => by rw [hf] at hm; cases hm }
  ringDone hm t v h := { h with ringDone := fun hf => by rw [hf] at hm; cases hm }
  boot hm t v h := { h with boot := fun hf => by rw [hf] at hm; cases hm }
  qps hm t v h := { h with qps := fun hf => by rw [hf] at hm; cases hm }
  hostRings hm t v h := { h with hostRings := fun hf => by rw [hf] at hm; cases hm }
  powerEntry hm t v h := { h with powerEntry := fun hf => by rw [hf] at hm; cases hm }
  powerWake hm t v h := { h with powerWake := fun hf => by rw [hf] at hm; cases hm }
  saved hm t v h := { h with saved := fun hf => by rw [hf] at hm; cases hm }
  govPower hm t v h := { h with govPower := fun hf => by rw [hf] at hm; cases hm }
  thermHold hm t v h := { h with thermHold := fun hf => by rw [hf] at hm; cases hm }
  operatorKeys hm t v h := { h with operatorKeys := fun hf => by rw [hf] at hm; cases hm }
  nvKey hm t v h := { h with nvKey := fun hf => by rw [hf] at hm; cases hm }
  svnFuses hm t v h := { h with svnFuses := fun hf => by rw [hf] at hm; cases hm }
  rollback hm t v h := { h with rollback := fun hf => by rw [hf] at hm; cases hm }
  bootCount hm t v h := { h with bootCount := fun hf => by rw [hf] at hm; cases hm }
  fwRunning hm t v h := { h with fwRunning := fun hf => by rw [hf] at hm; cases hm }
  fwStandby hm t v h := { h with fwStandby := fun hf => by rw [hf] at hm; cases hm }
  fwMark hm t v h := { h with fwMark := fun hf => by rw [hf] at hm; cases hm }
  fwOwn hm t v h := { h with fwOwn := fun hf => by rw [hf] at hm; cases hm }
  fwErasing hm t v h := { h with fwErasing := fun hf => by rw [hf] at hm; cases hm }
  nvErasing hm t v h := { h with nvErasing := fun hf => by rw [hf] at hm; cases hm }
  nvMark hm t v h := { h with nvMark := fun hf => by rw [hf] at hm; cases hm }
  imageWritten hm t v h := { h with imageWritten := fun hf => by rw [hf] at hm; cases hm }
  flash hm t v h := { h with flash := fun hf => by rw [hf] at hm; cases hm }
  journalSeq hm t v h := { h with journalSeq := fun hf => by rw [hf] at hm; cases hm }
  sessions hm t v h := { h with sessions := fun hf => by rw [hf] at hm; cases hm }
  sources hm t v h := { h with sources := fun hf => by rw [hf] at hm; cases hm }
  watches hm t v h := { h with watches := fun hf => by rw [hf] at hm; cases hm }
  marshal hm t v h := { h with marshal := fun hf => by rw [hf] at hm; cases hm }
  guardStore hm t v h := { h with guardStore := fun hf => by rw [hf] at hm; cases hm }
  scratchSeen hm t v h := { h with scratchSeen := fun hf => by rw [hf] at hm; cases hm }
  resetLow hm t v h := { h with resetLow := fun hf => by rw [hf] at hm; cases hm }
  aopDead hm t v h := { h with aopDead := fun hf => by rw [hf] at hm; cases hm }
  tripped hm t v h := { h with tripped := fun hf => by rw [hf] at hm; cases hm }
  inputBlocked hm t v h := { h with inputBlocked := fun hf => by rw [hf] at hm; cases hm }
  sideband hm t v h := { h with sideband := fun hf => by rw [hf] at hm; cases hm }
  dimmKeep hm t v h := { h with dimmKeep := fun hf => by rw [hf] at hm; cases hm }
  rateWindow hm t v h := { h with rateWindow := fun hf => by rw [hf] at hm; cases hm }
  patrols hm t v h := { h with patrols := fun hf => by rw [hf] at hm; cases hm }
  ramps hm t v h := { h with ramps := fun hf => by rw [hf] at hm; cases hm }
  mirrorHeld hm t v h := { h with mirrorHeld := fun hf => by rw [hf] at hm; cases hm }
  moves hm t v h := { h with moves := fun hf => by rw [hf] at hm; cases hm }
  linkLocals hm t v h := { h with linkLocals := fun hf => by rw [hf] at hm; cases hm }
  elsOn hm t v h := { h with elsOn := fun hf => by rw [hf] at hm; cases hm }
  hbmHold hm t v h := { h with hbmHold := fun hf => by rw [hf] at hm; cases hm }
  govAt hm t v h := { h with govAt := fun hf => by rw [hf] at hm; cases hm }
  sidebandAt hm t v h := { h with sidebandAt := fun hf => by rw [hf] at hm; cases hm }

/-- A footprint without object bits holds no object. -/
theorem Foot.none_of_no_objects {m : Nat} (h : m &&& (2 ^ 256 - 1) = 0) (c : ObjCode) : Foot.obj m c = false := by
  have ht : Foot.tag c ≤ 255 := Nat.min_le_left _ _
  have hb : (m &&& (2 ^ 256 - 1)).testBit (Foot.tag c) = m.testBit (Foot.tag c) := by
    rw [Nat.testBit_and, Nat.testBit_two_pow_sub_one, decide_eq_true (by omega), Bool.and_true]
  unfold Foot.obj
  rw [← hb, h, Nat.zero_testBit]

/-- What a command with a footprint leaves unchanged, from its closure lemma: `(execMma_closed · h n)` and the like. -/
theorem Agree.of_closed {m : Nat} {s t : State} {r : Res} (h : ∀ P : State → Prop, Closed m P → P s → SatR P r)
    (hr : m.testBit 260 = false) (e : r = .next t) : Agree m s t :=
  (h _ (Agree.closed s hr) (Agree.refl m s)).out t e

/-- Every field outside a footprint is that of the earlier state. -/
theorem Agree.eq {m : Nat} {s t : State} (h : Agree m s t) : t = { s with
    objs := bif m &&& (2 ^ 256 - 1) == 0 then s.objs else t.objs
    free := bif m.testBit 257 then t.free else s.free
    mem := bif m.testBit 256 then t.mem else s.mem
    out := bif m.testBit 258 then t.out else s.out
    now := bif m.testBit 259 then t.now else s.now
    cores := bif m.testBit 264 then t.cores else s.cores
    rkes := bif m.testBit 265 then t.rkes else s.rkes
    guardRanges := bif m.testBit 266 then t.guardRanges else s.guardRanges
    dimmCopy := bif m.testBit 267 then t.dimmCopy else s.dimmCopy
    recals := bif m.testBit 268 then t.recals else s.recals
    waiting := bif m.testBit 269 then t.waiting else s.waiting
    sent := bif m.testBit 270 then t.sent else s.sent
    quarantine := bif m.testBit 271 then t.quarantine else s.quarantine
    srcSts := bif m.testBit 272 then t.srcSts else s.srcSts
    dstSts := bif m.testBit 273 then t.dstSts else s.dstSts
    guards := bif m.testBit 274 then t.guards else s.guards
    heldReqs := bif m.testBit 275 then t.heldReqs else s.heldReqs
    frames := bif m.testBit 276 then t.frames else s.frames
    copies := bif m.testBit 277 then t.copies else s.copies
    nextFrame := bif m.testBit 278 then t.nextFrame else s.nextFrame
    nextPick := bif m.testBit 279 then t.nextPick else s.nextPick
    cellTime := bif m.testBit 280 then t.cellTime else s.cellTime
    charges := bif m.testBit 281 then t.charges else s.charges
    offAt := bif m.testBit 282 then t.offAt else s.offAt
    grantPtr := bif m.testBit 283 then t.grantPtr else s.grantPtr
    acceptPtr := bif m.testBit 284 then t.acceptPtr else s.acceptPtr
    mirrorSeen := bif m.testBit 285 then t.mirrorSeen else s.mirrorSeen
    mirrorSeq := bif m.testBit 286 then t.mirrorSeq else s.mirrorSeq
    mirrorQueue := bif m.testBit 287 then t.mirrorQueue else s.mirrorQueue
    rings := bif m.testBit 288 then t.rings else s.rings
    credits := bif m.testBit 289 then t.credits else s.credits
    buckets := bif m.testBit 290 then t.buckets else s.buckets
    ports := bif m.testBit 291 then t.ports else s.ports
    elsLost := bif m.testBit 292 then t.elsLost else s.elsLost
    elsSince := bif m.testBit 293 then t.elsSince else s.elsSince
    reports := bif m.testBit 294 then t.reports else s.reports
    ownerKey := bif m.testBit 295 then t.ownerKey else s.ownerKey
    pools := bif m.testBit 296 then t.pools else s.pools
    owners := bif m.testBit 297 then t.owners else s.owners
    cvus := bif m.testBit 298 then t.cvus else s.cvus
    scanJobs := bif m.testBit 299 then t.scanJobs else s.scanJobs
    sus := bif m.testBit 300 then t.sus else s.sus
    suBufs := bif m.testBit 301 then t.suBufs else s.suBufs
    ctxs := bif m.testBit 302 then t.ctxs else s.ctxs
    ringDone := bif m.testBit 303 then t.ringDone else s.ringDone
    boot := bif m.testBit 304 then t.boot else s.boot
    qps := bif m.testBit 305 then t.qps else s.qps
    hostRings := bif m.testBit 306 then t.hostRings else s.hostRings
    powerEntry := bif m.testBit 307 then t.powerEntry else s.powerEntry
    powerWake := bif m.testBit 308 then t.powerWake else s.powerWake
    saved := bif m.testBit 309 then t.saved else s.saved
    govPower := bif m.testBit 310 then t.govPower else s.govPower
    thermHold := bif m.testBit 311 then t.thermHold else s.thermHold
    operatorKeys := bif m.testBit 312 then t.operatorKeys else s.operatorKeys
    nvKey := bif m.testBit 313 then t.nvKey else s.nvKey
    svnFuses := bif m.testBit 314 then t.svnFuses else s.svnFuses
    rollback := bif m.testBit 315 then t.rollback else s.rollback
    bootCount := bif m.testBit 316 then t.bootCount else s.bootCount
    fwRunning := bif m.testBit 317 then t.fwRunning else s.fwRunning
    fwStandby := bif m.testBit 318 then t.fwStandby else s.fwStandby
    fwMark := bif m.testBit 319 then t.fwMark else s.fwMark
    fwOwn := bif m.testBit 320 then t.fwOwn else s.fwOwn
    fwErasing := bif m.testBit 321 then t.fwErasing else s.fwErasing
    nvErasing := bif m.testBit 322 then t.nvErasing else s.nvErasing
    nvMark := bif m.testBit 323 then t.nvMark else s.nvMark
    imageWritten := bif m.testBit 324 then t.imageWritten else s.imageWritten
    flash := bif m.testBit 325 then t.flash else s.flash
    journalSeq := bif m.testBit 326 then t.journalSeq else s.journalSeq
    sessions := bif m.testBit 327 then t.sessions else s.sessions
    sources := bif m.testBit 328 then t.sources else s.sources
    watches := bif m.testBit 329 then t.watches else s.watches
    marshal := bif m.testBit 330 then t.marshal else s.marshal
    guardStore := bif m.testBit 331 then t.guardStore else s.guardStore
    scratchSeen := bif m.testBit 332 then t.scratchSeen else s.scratchSeen
    resetLow := bif m.testBit 333 then t.resetLow else s.resetLow
    aopDead := bif m.testBit 334 then t.aopDead else s.aopDead
    tripped := bif m.testBit 335 then t.tripped else s.tripped
    inputBlocked := bif m.testBit 336 then t.inputBlocked else s.inputBlocked
    sideband := bif m.testBit 337 then t.sideband else s.sideband
    dimmKeep := bif m.testBit 338 then t.dimmKeep else s.dimmKeep
    rateWindow := bif m.testBit 339 then t.rateWindow else s.rateWindow
    patrols := bif m.testBit 340 then t.patrols else s.patrols
    ramps := bif m.testBit 341 then t.ramps else s.ramps
    mirrorHeld := bif m.testBit 342 then t.mirrorHeld else s.mirrorHeld
    moves := bif m.testBit 343 then t.moves else s.moves
    linkLocals := bif m.testBit 344 then t.linkLocals else s.linkLocals
    elsOn := bif m.testBit 345 then t.elsOn else s.elsOn
    hbmHold := bif m.testBit 346 then t.hbmHold else s.hbmHold
    govAt := bif m.testBit 347 then t.govAt else s.govAt
    sidebandAt := bif m.testBit 348 then t.sidebandAt else s.sidebandAt } := by
  have pick {α : Type} (b : Bool) (x y : α) (hb : b = false → x = y) : x = bif b then x else y := by
    cases b with
    | false => exact hb rfl
    | true => rfl
  have ho : t.objs = bif m &&& (2 ^ 256 - 1) == 0 then s.objs else t.objs := by
    cases hm : m &&& (2 ^ 256 - 1) == 0 with
    | false => rfl
    | true => exact h.objs fun c => Foot.none_of_no_objects (eq_of_beq hm) c
  cases t
  cases s
  have h0 := h.pending
  have h1 := h.ident
  have hfree := pick _ _ _ h.free
  have hmem := pick _ _ _ h.mem
  have hout := pick _ _ _ h.out
  have hnow := pick _ _ _ h.now
  have hcores := pick _ _ _ h.cores
  have hrkes := pick _ _ _ h.rkes
  have hguardRanges := pick _ _ _ h.guardRanges
  have hdimmCopy := pick _ _ _ h.dimmCopy
  have hrecals := pick _ _ _ h.recals
  have hwaiting := pick _ _ _ h.waiting
  have hsent := pick _ _ _ h.sent
  have hquarantine := pick _ _ _ h.quarantine
  have hsrcSts := pick _ _ _ h.srcSts
  have hdstSts := pick _ _ _ h.dstSts
  have hguards := pick _ _ _ h.guards
  have hheldReqs := pick _ _ _ h.heldReqs
  have hframes := pick _ _ _ h.frames
  have hcopies := pick _ _ _ h.copies
  have hnextFrame := pick _ _ _ h.nextFrame
  have hnextPick := pick _ _ _ h.nextPick
  have hcellTime := pick _ _ _ h.cellTime
  have hcharges := pick _ _ _ h.charges
  have hoffAt := pick _ _ _ h.offAt
  have hgrantPtr := pick _ _ _ h.grantPtr
  have hacceptPtr := pick _ _ _ h.acceptPtr
  have hmirrorSeen := pick _ _ _ h.mirrorSeen
  have hmirrorSeq := pick _ _ _ h.mirrorSeq
  have hmirrorQueue := pick _ _ _ h.mirrorQueue
  have hrings := pick _ _ _ h.rings
  have hcredits := pick _ _ _ h.credits
  have hbuckets := pick _ _ _ h.buckets
  have hports := pick _ _ _ h.ports
  have helsLost := pick _ _ _ h.elsLost
  have helsSince := pick _ _ _ h.elsSince
  have hreports := pick _ _ _ h.reports
  have hownerKey := pick _ _ _ h.ownerKey
  have hpools := pick _ _ _ h.pools
  have howners := pick _ _ _ h.owners
  have hcvus := pick _ _ _ h.cvus
  have hscanJobs := pick _ _ _ h.scanJobs
  have hsus := pick _ _ _ h.sus
  have hsuBufs := pick _ _ _ h.suBufs
  have hctxs := pick _ _ _ h.ctxs
  have hringDone := pick _ _ _ h.ringDone
  have hboot := pick _ _ _ h.boot
  have hqps := pick _ _ _ h.qps
  have hhostRings := pick _ _ _ h.hostRings
  have hpowerEntry := pick _ _ _ h.powerEntry
  have hpowerWake := pick _ _ _ h.powerWake
  have hsaved := pick _ _ _ h.saved
  have hgovPower := pick _ _ _ h.govPower
  have hthermHold := pick _ _ _ h.thermHold
  have hoperatorKeys := pick _ _ _ h.operatorKeys
  have hnvKey := pick _ _ _ h.nvKey
  have hsvnFuses := pick _ _ _ h.svnFuses
  have hrollback := pick _ _ _ h.rollback
  have hbootCount := pick _ _ _ h.bootCount
  have hfwRunning := pick _ _ _ h.fwRunning
  have hfwStandby := pick _ _ _ h.fwStandby
  have hfwMark := pick _ _ _ h.fwMark
  have hfwOwn := pick _ _ _ h.fwOwn
  have hfwErasing := pick _ _ _ h.fwErasing
  have hnvErasing := pick _ _ _ h.nvErasing
  have hnvMark := pick _ _ _ h.nvMark
  have himageWritten := pick _ _ _ h.imageWritten
  have hflash := pick _ _ _ h.flash
  have hjournalSeq := pick _ _ _ h.journalSeq
  have hsessions := pick _ _ _ h.sessions
  have hsources := pick _ _ _ h.sources
  have hwatches := pick _ _ _ h.watches
  have hmarshal := pick _ _ _ h.marshal
  have hguardStore := pick _ _ _ h.guardStore
  have hscratchSeen := pick _ _ _ h.scratchSeen
  have hresetLow := pick _ _ _ h.resetLow
  have haopDead := pick _ _ _ h.aopDead
  have htripped := pick _ _ _ h.tripped
  have hinputBlocked := pick _ _ _ h.inputBlocked
  have hsideband := pick _ _ _ h.sideband
  have hdimmKeep := pick _ _ _ h.dimmKeep
  have hrateWindow := pick _ _ _ h.rateWindow
  have hpatrols := pick _ _ _ h.patrols
  have hramps := pick _ _ _ h.ramps
  have hmirrorHeld := pick _ _ _ h.mirrorHeld
  have hmoves := pick _ _ _ h.moves
  have hlinkLocals := pick _ _ _ h.linkLocals
  have helsOn := pick _ _ _ h.elsOn
  have hhbmHold := pick _ _ _ h.hbmHold
  have hgovAt := pick _ _ _ h.govAt
  have hsidebandAt := pick _ _ _ h.sidebandAt
  simp only at h0 h1 ho hfree hmem hout hnow hcores hrkes hguardRanges hdimmCopy hrecals hwaiting hsent hquarantine hsrcSts hdstSts hguards hheldReqs hframes hcopies hnextFrame hnextPick hcellTime hcharges hoffAt hgrantPtr hacceptPtr hmirrorSeen hmirrorSeq hmirrorQueue hrings hcredits hbuckets hports helsLost helsSince hreports hownerKey hpools howners hcvus hscanJobs hsus hsuBufs hctxs hringDone hboot hqps hhostRings hpowerEntry hpowerWake hsaved hgovPower hthermHold hoperatorKeys hnvKey hsvnFuses hrollback hbootCount hfwRunning hfwStandby hfwMark hfwOwn hfwErasing hnvErasing hnvMark himageWritten hflash hjournalSeq hsessions hsources hwatches hmarshal hguardStore hscratchSeen hresetLow haopDead htripped hinputBlocked hsideband hdimmKeep hrateWindow hpatrols hramps hmirrorHeld hmoves hlinkLocals helsOn hhbmHold hgovAt hsidebandAt
  rw [State.mk.injEq]
  exact ⟨h0, h1, hnow, hfree, ho, hmem, hout, hcores, hrkes, hrateWindow, hguardRanges, hdimmCopy, hrecals, hpatrols, hramps, hwaiting, hsent, hquarantine, hsrcSts, hdstSts, hguards, hheldReqs, hframes, hcopies, hnextFrame, hnextPick, hcellTime, hcharges, hoffAt, hgrantPtr, hacceptPtr, hmirrorSeen, hmirrorSeq, hmirrorQueue, hmirrorHeld, hrings, hcredits, hbuckets, hmoves, hlinkLocals, hports, helsLost, helsSince, helsOn, hreports, hownerKey, hpools, howners, hcvus, hscanJobs, hsus, hsuBufs, hctxs, hringDone, hboot, hqps, hhostRings, hpowerEntry, hpowerWake, hsaved, hgovPower, hthermHold, hoperatorKeys, hnvKey, hsvnFuses, hrollback, hbootCount, hfwRunning, hfwStandby, hfwMark, hfwOwn, hfwErasing, hnvErasing, hnvMark, himageWritten, hflash, hjournalSeq, hsessions, hsources, hwatches, hmarshal, hguardStore, hscratchSeen, hresetLow, haopDead, htripped, hinputBlocked, hsideband, hdimmKeep, hhbmHold, hgovAt, hsidebandAt⟩

/-- An object that is not in the list of a footprint's objects is outside the footprint. -/
theorem Foot.not_obj {m : Nat} {l : List ObjCode} (hl : (objTable.zipIdx.all fun p => !m.testBit p.2 || l.contains p.1.code) = true)
    (hn : m.testBit objTable.length = false) {o : ObjCode} (ho : o ∉ l) : Foot.obj m o = false := by
  have ht : objTable.length ≤ 255 := by decide +kernel
  unfold Foot.obj Foot.tag
  have hle : objTable.findIdx (fun x : ObjInfo => x.code == o) ≤ objTable.length := List.findIdx_le_length
  rw [Nat.min_eq_right (hle.trans ht)]
  rcases Nat.lt_or_eq_of_le hle with h | h
  · have hc := List.findIdx_getElem (p := fun x : ObjInfo => x.code == o) (w := h)
    have hm := List.all_eq_true.mp hl (objTable[objTable.findIdx fun x : ObjInfo => x.code == o], objTable.findIdx fun x : ObjInfo => x.code == o)
      (List.mem_zipIdx_iff_getElem?.mpr (List.getElem?_eq_getElem h))
    rw [eq_of_beq hc] at hm
    cases hb : m.testBit (objTable.findIdx fun x : ObjInfo => x.code == o) with
    | false => rfl
    | true =>
      rw [hb] at hm
      exact absurd (List.contains_iff_mem.mp (by simpa using hm)) ho
  · rw [h]; exact hn

end Sys2Proof.Laws
end

