-- ==== Sys2Proof/Tests/Slice0.lean ====
section
/-! SUPPORT. Small tests: ill-formed commands are refused, and for every statement a state and operands that meet its
hypotheses. -/

namespace Sys2Proof.Tests

open Sys2Proof Sys2Proof.Machine Sys2Proof.Laws

set_option Elab.async false

/-! ### Ill-formed commands are refused: one for each check of WellFormed -/

/-- A frame and a message that are well formed. -/
def okFrame : Frame := ⟨0, []⟩
/-- The message. -/
def okMsg : CdpMsg := ⟨0, 0, 0, 0, 0, 0, [], none, true⟩

theorem test_well_formed_terms_pass : ([.nop 95, .fwdOutbound okFrame, .cdpRead okMsg, .coreLaunch (2 ^ 64 - 1) .clean, .groupSetup .clean] : List Instr).all
    Instr.wf = true := by decide +kernel

theorem test_ill_formed_is_refused_1 : ([.nop 96, .queueDispatch 0 6 .clean, .queueDispatch 0 4 .clean, .icacheFill 0 (2 ^ 26) false .clean,
    .coreLaunch (2 ^ 64) .clean, .coreStop (2 ^ 8), .rkeServiceStart 48 .clean, .patrolRead 16 0 .clean,
    .patrolRead 0 (2 ^ 44) .clean, .ondieCePoll 24 0, .ondieCePoll 0 (2 ^ 64), .recalStart 44 0,
    .recalStart 0 (2 ^ 32), .recalNow (2 ^ 16), .dimmDrain 12, .dimmTrained 0 (2 ^ 8) 0 false false false false,
    .dimmTrained 0 0 (2 ^ 176) false false false false, .replayAfterExpiry 4096, .abandonAfterExpiry (2 ^ 16),
    .guardParityReplied 4096, .guardActivate 64, .linkBlockReceive 64 [] [] none, .fecRate 0 [] (2 ^ 64),
    .cipherKeyAgreed 0 (2 ^ 8192) 0 0 0, .cipherKeyAgreed 0 0 (2 ^ 256) 0 0] : List Instr).any
    Instr.wf = false := by decide +kernel

theorem test_ill_formed_is_refused_2 : ([.cipherKeyAgreed 0 0 0 (2 ^ 520) 0, .cipherKeyAgreed 0 0 0 0 (2 ^ 256), .oeSelftest 8 0, .oeSelftest 0 8,
    .elsOutputLoss 16, .elsInsert 0 (2 ^ 256) false, .frameLookup 80 okFrame, .frameDeparture 80,
    .flowDelete (2 ^ 17), .suFrameDeliver 80 okFrame, .suRunStart 32, .programLoad 256, .groupDestroy 64,
    .contribFrame okFrame 16, .resultAssemble 0 4096, .bpmReserve (2 ^ 16) 0 0 .clean, .bpmReserve 0 64 0 .clean,
    .bpmReserve 0 0 (2 ^ 32) .clean, .bpmHandover 0 0 (2 ^ 32) 0, .bpmHandover 0 0 0 (2 ^ 16), .cvuStart 16,
    .cvuSuspend 0 (2 ^ 32), .feedDone 16 .clean, .scanCancel 16 0, .scanCancel 0 (2 ^ 44)] : List Instr).any
    Instr.wf = false := by decide +kernel

theorem test_ill_formed_is_refused_3 : ([.hostFrameReceive 2 0 0 0 false false false false none none,
    .hostFrameReceive 0 (2 ^ 14) 0 0 false false false false none none,
    .hostFrameReceive 0 0 (2 ^ 16) 0 false false false false none none,
    .hostFrameReceive 0 0 0 (2 ^ 16) false false false false none none, .rdmaWrite 512 0 0 0 [] false,
    .rdmaWrite 0 (2 ^ 24) 0 0 [] false, .rdmaWrite 0 0 (2 ^ 32) 0 [] false, .rdmaWrite 0 0 0 (2 ^ 64) [] false,
    .rdmaRead 0 0 0 0 (2 ^ 32) false, .rdmaAtomic 0 0 0 0 false (2 ^ 64) 0 false,
    .rdmaAtomic 0 0 0 0 false 0 (2 ^ 64) false, .ringPoll 64, .cdpWrite okMsg (2 ^ 44) false .clean,
    .cdpIdleExpiry 17, .heartbeatMiss 4096, .governorUpdate (2 ^ 16) 0 0 0, .governorUpdate 0 (2 ^ 16) 0 0,
    .governorUpdate 0 0 (2 ^ 16) 0, .governorUpdate 0 0 0 (2 ^ 16), .thermalLimit 5 0 0, .thermalLimit 0 (2 ^ 8) 0,
    .loopLost 2 0, .stageRemove 16, .stageSafe 13 0, .unitResetCore (2 ^ 8)] : List Instr).any
    Instr.wf = false := by decide +kernel

theorem test_ill_formed_is_refused_4 : ([.unitResetSu (2 ^ 8), .unitResetCvu (2 ^ 8), .unitResetHostPort (2 ^ 8), .extendMr 2 0, .extendMr 0 (2 ^ 256),
    .smbusBlockRead 128 0 0 false false, .smbusBlockRead 0 8 0 false false, .smbusBlockRead 0 0 256 false false,
    .sidebandUpdate (2 ^ 384) [], .registerWrite (2 ^ 24) 0 0 [], .registerWrite 0 (2 ^ 32) 0 [],
    .registerWrite 0 0 (2 ^ 32) [], .trainingCheckExpiry 0 (2 ^ 8) 0 false 0,
    .trainingCheckExpiry 0 0 (2 ^ 8) false 0, .trainingCheckExpiry 0 0 0 false (2 ^ 64), .acknowledgement 0 0 16 [],
    .inputDip (2 ^ 16) 0 0, .inputDip 0 0 (2 ^ 16), .ovWarn (2 ^ 16) 0, .tripUv (2 ^ 16) 0, .tripOv (2 ^ 16) 0,
    .tripRestart (2 ^ 16) 0, .aopFloor (2 ^ 16), .thermalLimit 0 0 (2 ^ 16), .loopLost 0 (2 ^ 16)] : List Instr).any
    Instr.wf = false := by decide +kernel

theorem test_ill_formed_is_refused_5 : ([.inletHigh (2 ^ 16) 0, .stageSafe 0 (2 ^ 16), .osfpInsert 0 (2 ^ 8) 0, .osfpInsert 0 0 (2 ^ 8),
    .fwdOutbound ⟨2 ^ 256, []⟩, .cdpRead { okMsg with via := 3 }, .cdpRead { okMsg with hp := 2 },
    .cdpRead { okMsg with addr := 2 ^ 128 }, .cdpRead { okMsg with udpPort := 2 ^ 16 },
    .cdpRead { okMsg with mgt := 2 ^ 192 }, .cdpRead { okMsg with hdr := 2 ^ 256 },
    .cdpRead { okMsg with tag := some (2 ^ 256) }, .thermalLimit 3 8 0] : List Instr).any
    Instr.wf = false := by decide +kernel

/-! ### Hypotheses that can be met -/

/-- The state after reset with some object entries written. -/
def withObjs (l : List (ObjCode × Nat × Nat)) (s : State) : State := l.foldl (fun s p => s.wr p.1 p.2.1 p.2.2) s

/-- A J96 module in service that has come up from reset, its governor at full duty. -/
def upState : State := { withObjs [(Obj.serviceState, 0, 1), (Obj.deviceId, 0, 5), (Obj.governorState, 0, 256)] State.reset with boot := .up }

/-- Core 0 running a stream of eight commands, the word `w` at position 2. -/
def runningState (w : Nat) : State :=
  (withObjs [(Obj.coreState, 0, 1), (Obj.seqState, 0, 2 * 2 ^ 16 + 1 + 4 * 2 ^ 160), (Obj.flags, 1, 1)] upState).setCore 0
    { CoreSt.init with streamLen := 8, stop := .running, waitLimit := 100, icache := [(0, w * 2 ^ 256)] }

/-- A command word: opcode, engine, and operand bits. -/
def cmdWord (opcode engine operands : Nat) : Nat := opcode * 2 ^ 120 + engine * 2 ^ 116 + operands

/-- Words of every sequencer command, with operands the checks of R82 pass. -/
def sqWords : List (CoreOp × Nat) :=
  [(.nop, cmdWord 0 0 0), (.end_, cmdWord 1 0 0), (.pace, cmdWord 2 0 7), (.wait, cmdWord 3 0 (1 + 2 ^ 12 + 2 ^ 16)),
    (.post, cmdWord 4 0 (1 + 2 ^ 16)), (.flagset, cmdWord 5 0 (1 + 2 ^ 16)), (.pset, cmdWord 6 0 3), (.plogic, cmdWord 7 0 3),
    (.skip, cmdWord 8 0 1), (.lapset, cmdWord 9 0 1), (.lap, cmdWord 10 0 (1 + 2 ^ 12)), (.lap, cmdWord 10 0 (2 + 2 ^ 12)),
    (.drain, cmdWord 11 0 0), (.mark, cmdWord 12 0 5)]

theorem test_sq_commands_can_issue : ∀ p ∈ sqWords, CanIssue (runningState p.2) p.1 0 p.2 ∧
    WaitOver (runningState p.2) 0 p.2 ∧ (runningState p.2).enabled 0 p.2 = true := by decide +kernel

theorem test_sq_wait_skip_lap_drain_conditions : (runningState 0).flag 0 1 = 1 ∧ 2 + 1 + 1 < ((runningState 0).core 0).streamLen
    ∧ (runningState 0).lap 0 1 = 0 ∧ (runningState 0).lap 0 2 ≠ 0 ∧ 1 ≤ (runningState 0).position 0
    ∧ ((runningState 0).core 0).drained = true := by decide +kernel

theorem test_sq_voids_can_issue : ∀ p ∈ sqWords, let w := p.2 + 2 ^ 111
    CanIssue (runningState w) p.1 0 w ∧ WaitOver (runningState w) 0 w ∧ (runningState w).enabled 0 w = false := by
  decide +kernel

/-- Words of the commands that halt or wait: SKIP past the end, LAP before the start, WAIT on a count of 2. -/
def haltWords : List (CoreOp × Nat) :=
  [(.skip, cmdWord 8 0 5), (.lap, cmdWord 10 0 (2 + 3 * 2 ^ 12)), (.wait, cmdWord 3 0 (1 + 2 * 2 ^ 16)), (.drain, cmdWord 11 0 0)]

/-- Core 0 running with a command in a queue, so that a DRAIN waits. -/
def busyState (w : Nat) : State :=
  (runningState w).setCore 0 { (runningState w).core 0 with fxe := [⟨5, cmdWord 0x20 5 0, 1, 0, false, 1, 0⟩] }

theorem test_sq_halts_and_waits_can_issue : (∀ p ∈ haltWords, CanIssue (busyState p.2) p.1 0 p.2 ∧
    WaitOver (busyState p.2) 0 p.2 ∧ (busyState p.2).enabled 0 p.2 = true) ∧
    ((busyState 0).core 0).streamLen ≤ 2 + 1 + 5 ∧ (busyState 0).lap 0 2 ≠ 0 ∧ (busyState 0).position 0 < 3 ∧
    (busyState 0).flag 0 1 < 2 ∧ ((busyState 0).core 0).drained = false := by decide +kernel

/-- Words of every command of an engine, with operands the checks of R82 pass. -/
def engineWords : List (CoreOp × Nat) :=
  [(.mma, cmdWord 0x40 1 (2 ^ 90 + 2 ^ 86 + 4 * 2 ^ 36 + 4 * 2 ^ 3)), (.mout, cmdWord 0x41 1 (16 * 2 ^ 56)), (.mpart, cmdWord 0x42 1 0),
    (.mclr, cmdWord 0x43 1 0), (.vop, cmdWord 0x50 2 0), (.vcmp, cmdWord 0x51 2 (2 ^ 85)), (.vfunc, cmdWord 0x52 2 0),
    (.vred, cmdWord 0x53 2 0), (.vcvt, cmdWord 0x54 2 (16 * 2 ^ 52)), (.vwiden, cmdWord 0x55 2 (16 * 2 ^ 52)),
    (.vld, cmdWord 0x56 2 (16 * 2 ^ 52)), (.vst, cmdWord 0x57 2 (16 * 2 ^ 52)), (.vbmp, cmdWord 0x58 2 0),
    (.rake, cmdWord 0x60 4 (3 * 2 ^ 90 + 3 * 2 ^ 86)), (.rmask, cmdWord 0x61 4 0), (.seta, cmdWord 0x10 3 0),
    (.load, cmdWord 0x11 3 0), (.store, cmdWord 0x12 3 0), (.copy, cmdWord 0x13 3 0), (.atom, cmdWord 0x14 3 0),
    (.fence, cmdWord 0x15 3 128), (.signal, cmdWord 0x20 5 0), (.coll, cmdWord 0x21 5 0)]

theorem test_engine_commands_can_issue : ∀ p ∈ engineWords, CanIssue (runningState p.2) p.1 0 p.2 ∧
    ((runningState p.2).core 0).room (engineOf p.2) = true := by decide +kernel

/-- A command in a queue. -/
def queued (engine w : Nat) (void : Bool) : QCmd :=
  { engine := engine, word := w, ord := 1, pos := 0, void := void, gap := 1, waited := 0 }

/-- Core 0 running with SETA at the head of its LDE queue, a void SIGNAL at the head of its FXE queue and a VOP at the
head of its paced queue. -/
def queuesState : State :=
  (runningState 0).setCore 0 { (runningState 0).core 0 with
    lde := [queued 3 (cmdWord 0x10 3 (2 ^ 92 + 9 * 2 ^ 28)) false], fxe := [queued 5 (cmdWord 0x20 5 0) true],
    paced := [queued 2 (cmdWord 0x50 2 (2 ^ 97)) false] }

theorem test_heads_can_dispatch : queuesState.coreCanRun 0 = true ∧ queuesState.coreLive 0 = true ∧
    (queuesState.core 0).engineQueue 3 = [queued 3 (cmdWord 0x10 3 (2 ^ 92 + 9 * 2 ^ 28)) false] ∧
    (queuesState.core 0).engineQueue 5 = [queued 5 (cmdWord 0x20 5 0) true] ∧ queuesState.headReady 0 3 = true ∧
    queuesState.headReady 0 5 = true ∧ queuesState.waiting.any (fun r => r.lane == 0) = false ∧
    CoreOp.of (cmdWord 0x10 3 (2 ^ 92 + 9 * 2 ^ 28)) = some .seta ∧ 1 < (queuesState.core 0).areg.length := by
  decide +kernel

theorem test_paced_head_can_dispatch : (queuesState.dispatchStride 0 (queued 2 (cmdWord 0x50 2 (2 ^ 97)) false)) = (0, some 0) ∧
    queuesState.headReady 0 2 = true ∧ 0 ≤ queuesState.stride 0 ∧ above? (queuesState.core 0).nextDue 0 = true := by decide +kernel

/-- A VOP in flight with a post to flag 3. -/
def flight : Flight :=
  { cmd := queued 2 (cmdWord 0x50 2 (3 * 2 ^ 97)) false, dispatch := 0, due := 4, inputs := [], clash := false, seed := 0,
    rank := none }

/-- Core 0 running with the VOP in flight. -/
def flightState : State := (runningState 0).setCore 0 { (runningState 0).core 0 with flights := [flight] }

theorem test_result_is_earliest : flightState.coreCanRun 0 = true ∧ flightState.coreLive 0 = true ∧
    earliest (flightState.core 0).flights = some flight ∧ above? (flightState.nextExpiry 0) 4 = true ∧
    flightState.dispatchesBefore 0 4 = false ∧ CoreOp.of flight.cmd.word = some .vop ∧ postSel flight.cmd.word ≠ 0 := by
  decide +kernel

/-- A VCVT of one element to FP32 in flight, whose result TM merges into a word. -/
def vcvtFlight : Flight :=
  { flight with cmd := queued 2 (cmdWord 0x54 2 (16 * 2 ^ 52 + 3 * 2 ^ 97)) false,
                inputs := [⟨.tile 0, 15, 0, []⟩, ⟨.mask 1, 15, 1, []⟩, ⟨.tm 0 32, 0, 0, []⟩] }

/-- What the codes find in the merge read decides whether the result is written (R160, R168). -/
theorem test_merge_read_ends_or_lets_a_result_go_on : CoreOp.of vcvtFlight.cmd.word = some .vcvt ∧
    let es := (computeResult .vcvt vcvtFlight.cmd.word vcvtFlight.inputs ⟨0, none, 0⟩).effects
    (flightState.applyEffects 0 1 es .uncorrectable).1 = false ∧ (flightState.applyEffects 0 1 es .corrected).1 = true := by
  decide +kernel

/-- The paced head of core 0 two strides ahead of the core's count. -/
def aheadState : State := queuesState.setCore 0 { queuesState.core 0 with lastDispatch := some 1 }

theorem test_paced_head_ahead_of_the_count_can_dispatch :
    (aheadState.dispatchStride 0 (queued 2 (cmdWord 0x50 2 (2 ^ 97)) false)) = (2, some 2) ∧ aheadState.stride 0 < 2 ∧
    aheadState.headReady 0 2 = true ∧ aheadState.clearTo 0 2 = true ∧ above? (aheadState.core 0).nextDue 2 = true := by
  decide +kernel

/-- A launch descriptor at offset 0 of region 0 that names a stream of two commands at offset 4096. -/
def launchState : State :=
  upState.memWrite 0 0 (leBytes 64 (4096 + 0xFFFF * 2 ^ 48 + 2 * 2 ^ 64))

theorem test_launch_is_accepted : launchState.launchCode 0 0 = 1 ∧ launchState.hasCompute = true ∧
    upState.launchCode 0 0 ≠ 1 := by decide +kernel

theorem test_stop_and_completion_conditions : (runningState 0).coreCanRun 0 = true ∧ (runningState 0).coreState 0 = 1 ∧
    (runningState 0).hasCompute = true ∧ ∀ why ∈ [IssueStop.ended, .truncated 1, .halted],
      let s := ((runningState 0).setCore 0 { (runningState 0).core 0 with stop := why }).wr Obj.coreState 0 2
      s.coreCanRun 0 = true ∧ s.coreState 0 = 2 ∧ (s.core 0).drained = true ∧ (s.core 0).stop = why := by decide +kernel

/-- Core 0 running with a SIGNAL that has waited 99 of 100 strides on flag 7. -/
def waitingState : State :=
  (runningState 0).setCore 0 { (runningState 0).core 0 with
    fxe := [{ queued 5 (cmdWord 0x20 5 (7 * 2 ^ 104)) false with waited := 99 }] }

theorem test_wait_limit_expires : waitingState.coreLive 0 = true ∧
    waitingState.firstExpiry 0 = some (⟨5, 7, 1, 1, 99, 100, 1, 0⟩, 1) ∧ (waitingState.core 0).nextDue = none ∧
    waitingState.dispatchesBefore 0 1 = false := by decide +kernel

theorem test_cache_line_can_arrive : 64 * 0 < ((runningState 0).core 0).streamLen ∧
    (((runningState 0).core 0).icache.find 0).isSome = true ∧ (runningState 0).held 0 0 = false ∧
    (runningState 0).held 0 127 = false ∧ ∀ x ∈ Ecc.corrected.flaws, x.2 ≤ 1 := by decide +kernel

theorem test_totals_of_core_95 : upState.hasCompute = true ∧ upState.hasCore 95 = true ∧ upState.hasRake 47 = true ∧
    upState.hasCore 96 = false ∧ upState.scratched = false ∧ upState.now < upState.rateWindow + 2 ^ 20 ∧
    ({ upState with now := 2 ^ 20 } : State).rateWindow + 2 ^ 20 ≤ ({ upState with now := 2 ^ 20 } : State).now := by
  decide +kernel

/-- A Rake engine with one command waiting and one in service. -/
def rakeState : State :=
  upState.setRke 0 { RkeSt.init with
    queue := [⟨0, queued 4 (cmdWord 0x61 4 0) false, 0⟩],
    runs := [⟨⟨1, queued 4 (cmdWord 0x61 4 (5 * 2 ^ 97)) false, 0⟩, 24, [], [], ⟨[], 0, 1, 2, 3, 4⟩⟩] }

theorem test_rake_engine_can_serve : (rakeState.rke 0).queue = [⟨0, queued 4 (cmdWord 0x61 4 0) false, 0⟩] ∧
    above? (rakeState.rke 0).nextDue ((rakeState.rke 0).startStride ⟨0, queued 4 (cmdWord 0x61 4 0) false, 0⟩) = true ∧
    (rakeState.rke 0).runs.length = 1 ∧ rakeState.hasRake 0 = true ∧ rakeState.scratched = false := by
  decide +kernel

/-- A module whose sockets 0 to 4 hold 64 GiB DIMMs: in service, ready, draining, returning, powered off; socket 5 is in
training, and DRAIN_DESC names 16 blocks at the start of region 0. -/
def dimmState : State :=
  withObjs [(Obj.dimmState, 0, 3), (Obj.dimmState, 1, 4), (Obj.dimmState, 2, 5), (Obj.dimmState, 3, 6), (Obj.dimmState, 4, 1),
    (Obj.dimmState, 5, 2), (Obj.dimmInfo, 0, 1), (Obj.dimmInfo, 1, 1), (Obj.dimmInfo, 2, 1), (Obj.dimmInfo, 3, 1),
    (Obj.drainDesc, 0, 50 + 16 * 2 ^ 32 + 5 * 2 ^ 112)] upState

theorem test_dimm_commands_are_possible : dimmState.hasCompute = true ∧ dimmState.dimmPowerOk = true ∧
    dimmState.dimmCopy = none ∧ dimmState.dimm 0 = 3 ∧ dimmState.drainDescOk 0 = true ∧ dimmState.dimm 1 = 4 ∧
    dimmState.fld Obj.drainDesc 0 0 8 = 50 ∧ dimmState.dimm 2 = 5 ∧ dimmState.dimm 3 = 6 ∧ dimmState.dimm 4 = 1 ∧
    dimmState.dimm 11 = 0 ∧ dimmState.dimm 5 = 2 ∧ (withObjs [(Obj.serviceState, 0, 2)] dimmState).dimmPowerOk = false := by
  decide +kernel

/-- A copy of channel 0 in a direction, with 15 of 16 blocks copied. -/
def copyState (mode : Nat) : State :=
  { withObjs [(Obj.drainProgress, 0, mode * 16 + 15 * 2 ^ 32)] dimmState with dimmCopy := some ⟨16, 5 * 2 ^ 44, 50⟩ }

theorem test_block_can_be_copied : ∀ mode ∈ [1, 2], (copyState mode).scratched = false ∧ (copyState mode).scanFree = true ∧
    (copyState mode).fld Obj.drainProgress 0 4 4 = mode ∧ (copyState mode).fld Obj.drainProgress 0 32 32 = 15 ∧
    (copyState mode).heldAt (1, 15 * 4096) = false ∧ (copyState mode).heldAt ((copyState mode).place 5 (15 * 4096)) = false ∧
    (copyState mode).dimmCopy = some ⟨16, 5 * 2 ^ 44, 50⟩ ∧ (copyState mode).now < copyTime 50 16 ∧
    copyTime 50 16 ≤ ({ copyState mode with now := 2000 }).now := by decide +kernel

/-- The same module with a limit in force of 10 W, so that no ramp of a bay fits. -/
def tightState : State := dimmState.wrFld Obj.governorState 0 32 16 10

theorem test_dimm_ramps_fit_or_wait : (dimmState.wrFld Obj.governorState 0 32 16 4000).rampFits 50 = true ∧
    tightState.rampFits 50 = false ∧ (dimmState.wr Obj.dimmState 5 2).rampOver 5 = true ∧
    (dimmState.setRamp 5 (some ⟨50, some 0⟩)).rampOver 5 = false ∧ dimmState.dimm 5 = 2 ∧ dimmState.dimm 0 ≠ 1 := by
  decide +kernel

theorem test_dimm_training_outcomes : dimmState.dimmReason 5 2 true true true true = 0 ∧
    dimmState.dimmReason 5 2 false true true true = 1 ∧ dimmState.rampOver 5 = true := by decide +kernel

/-- A codeword of each memory, its kind and instance, its number and the number of codewords. -/
def patrolled : List ((Nat × Nat) × (Nat × Nat × Nat × Nat)) :=
  [((0, 0), (3, 0, 0, 2 ^ 30)), ((1, 64), (4, 0, 1, 2 ^ 30)), ((2, 0), (1, 0, 0, 2 ^ 21)),
    ((2, 12 * 2 ^ 26 + 8), (2, 0, 1, 2 ^ 23)), ((15, 0), (5, 0, 0, 2 ^ 25))]

theorem test_patrol_of_each_memory : (∀ p ∈ patrolled, dimmState.patrolWord p.1.1 p.1.2 = some p.2 ∧
    dimmState.patrolRuns p.1.1 p.1.2 = true) ∧ (KMap.get dimmState.patrols Patrol.init 768).next = 0 ∧
    (KMap.get dimmState.patrols Patrol.init 768).since ≤ dimmState.now := by decide +kernel

theorem test_ondie_counter_can_be_polled : upState.hasCompute = true ∧ upState.hasHbm 23 = true ∧ upState.power < 2 ∧
    (upState.recal 23).polled + 10 ^ 9 ≤ ({ upState with now := 10 ^ 9 }).now ∧
    upState.fld Obj.hbmOndieCeCount 23 0 64 + 5 < 2 ^ 64 := by decide +kernel

theorem test_recalibration_conditions : upState.hasController 0 = true ∧ upState.holdFree 0 = true ∧
    (upState.recal 0).holding = false ∧ upState.power < 2 ∧ upState.pending = [] ∧
    upState.rd Obj.recalMode 0 = 0 ∧ 800 ≤ tempChange 900 (upState.recal 0).temp ∧
    (withObjs [(Obj.recalMode, 0, 1)] upState).rd Obj.recalMode 0 = 1 ∧ 1600 ≤ tempChange 1700 (upState.recal 0).temp ∧
    ((upState.startHold 0 900).recal 0).holding = true ∧ dimmState.hasController 32 = true := by decide +kernel

/-- A request frame from device 6 to device 5 on stream 3: operation, flags ORD and RELEASE, sequence number, and the
lower header bits. -/
def request (op : Nat) (ord release : Bool) (seq low : Nat) : Frame :=
  { hdr := 5 * 2 ^ 240 + 6 * 2 ^ 224 + op * 2 ^ 184 + 7 * 2 ^ 168 + b2n ord * 2 ^ 167 + b2n release * 2 ^ 165 + 3 * 2 ^ 152
      + seq * 2 ^ 120 + low,
    payload := [1, 2, 3, 4, 5, 6, 7, 8, 0, 0, 0, 0, 0, 0, 0, 0] }

theorem test_unordered_requests_are_taken : (∀ op ∈ [1, 2, 3, 4, 5, 6, 7], TakesRequest upState op (request op false false 0 0)) ∧
    (∀ op ∈ [1, 2, 3, 5], upState.mustWait (request op false false 0 0) = false) ∧ upState.mapped 0 0 1 = true ∧
    upState.mapped 0 0 4 = true ∧ crosses 0 1 = false ∧ upState.guardAt 0 0 = none ∧ atomicOk 0 0 = true ∧
    upState.hasCore 0 = true := by decide +kernel

/-- Context 3 bound to device 6, sequence number 9 expected. -/
def boundState : State := withObjs [(Obj.dstStreams, 3, 1 + 6 * 2 ^ 16 + 9 * 2 ^ 32)] upState

theorem test_ordered_requests_are_in_turn : ∀ op ∈ [2, 3, 4, 5, 6, 7], InTurn boundState (request op true false 9 0) ∧
    TakesRequest boundState op (request op true false 9 0) := by decide +kernel

theorem test_ordered_release_is_in_turn : InTurn boundState (request 4 true true 9 0) := by decide +kernel

/-- An outstanding request. -/
def outstanding (op : Nat) (ord : Bool) (owner : ReqOwner) : GReq :=
  { owner := owner, op := op, addr := 6 * 2 ^ 48, len := 16, aop := 0, atype := 0, opnd := 0, ord := ord, stream := 3,
    release := false, tc := 0, tm := 0, payload := [], slice := 0, tag := 7, entry := 0, seq := 9, gen := 0, first := 0,
    last := 0, cut := false }

/-- A request outstanding on stream 3 to device 6, whose entry is open. -/
def sentState (ord : Bool) : State :=
  { withObjs [(Obj.srcStreams, 0, 1 + 3 * 4 + 6 * 2 ^ 14 + 10 * 2 ^ 32 + 9 * 2 ^ 64)] upState with
    sent := [outstanding 1 ord (.core 0 1)], now := 1000 }

/-- Its reply, with a status. -/
def replyTo (ord : Bool) (status : Nat) : Frame :=
  { hdr := 5 * 2 ^ 240 + 6 * 2 ^ 224 + 0x81 * 2 ^ 184 + 7 * 2 ^ 168 + b2n ord * 2 ^ 167 + 3 * 2 ^ 152 + 9 * 2 ^ 120
      + status * 2 ^ 104, payload := [1] }

theorem test_replies_find_their_request : ∀ ord ∈ [true, false], ∀ st ∈ [0, 4],
    (sentState ord).gmuOn = true ∧ (replyTo ord st).op = 0x81 ∧ ((sentState ord).sent.find? (fun r => r.tag == (replyTo ord st).tag
      && r.op + 0x80 == (replyTo ord st).op && r.ord == (replyTo ord st).ordered && r.dest == (replyTo ord st).src
      && (!r.ord || (r.stream == (replyTo ord st).stream && r.seq == (replyTo ord st).seq)))).isSome = true ∧
    (replyTo ord st).gen = (sentState ord).srcGen 0 ∧ (sentState ord).srcState 0 = 1 := by decide +kernel

theorem test_request_timers : (sentState true).unacked 0 = [outstanding 1 true (.core 0 1)] ∧
    0 + ({ sentState true with now := 10 ^ 9 }).rd Obj.replayAfterNs 0 ≤ 10 ^ 9 ∧
    ((sentState false).sent.find? (fun r => !r.ord && r.tag == 7)).isSome = true ∧
    0 + 1000 * (sentState false).rd Obj.abandonAfterUs 0 ≤ 10 ^ 9 ∧
    ([(7, 5)] : List (Nat × Nat)).find? (fun q => q.1 == 7) = some (7, 5) := by decide +kernel

/-- A reset's FENCE outstanding, whose reply may carry any status. -/
def resetState : State := { sentState true with sent := [outstanding 1 true (.reset 0)] }

theorem test_reply_of_a_reset_finds_it : (resetState.sent.find? (fun r => r.tag == (replyTo true 4).tag
    && r.op + 0x80 == (replyTo true 4).op && r.ord == (replyTo true 4).ordered && r.dest == (replyTo true 4).src
    && (!r.ord || (r.stream == (replyTo true 4).stream && r.seq == (replyTo true 4).seq))))
      = some (outstanding 1 true (.reset 0)) := by decide +kernel

/-- Source entry 2 BROKEN on stream 3. -/
def brokenState : State := withObjs [(Obj.srcStreams, 2, 3 + 3 * 4)] upState

/-- Every tag of slice 3, in quarantine. -/
def slice3Tags (n : Nat) : List (Nat × Nat) := (List.range n).map fun k => (3 * 8192 + k, 1)

/-- The same module with every tag of the stream's slice in quarantine. -/
def taglessState (n : Nat) : State := { brokenState with quarantine := slice3Tags n }

theorem mem_slice3Tags {n k : Nat} (h : k < n) : (3 * 8192 + k, 1) ∈ slice3Tags n :=
  List.mem_map.2 ⟨k, List.mem_range.2 h, rfl⟩

theorem firstFrom_eq_none (p : Nat → Bool) (n i : Nat) (h : ∀ k, i ≤ k → k < i + n → p k = false) : firstFrom p n i = none := by
  induction n generalizing i with
  | zero => rfl
  | succ n ih =>
    rw [firstFrom, h i (le_refl i) (by omega)]
    exact ih (i + 1) fun k hk hn => h k (by omega) (by omega)

theorem freeTag_taglessState (n : Nat) (hn : 4096 ≤ n) : (taglessState n).freeTag 3 = none := by
  unfold State.freeTag firstBelow
  refine firstFrom_eq_none _ 4096 0 fun k _ hk => ?_
  have h : ((taglessState n).quarantine.any fun q => q.1 == 3 * 8192 + k) = true :=
    List.any_eq_true.2 ⟨_, mem_slice3Tags (by omega), beq_self_eq_true _⟩
  simp only [h, Bool.not_true, Bool.and_false]

theorem taglessState_rest (n : Nat) : (taglessState n).srcStream 2 % 8 = 3 ∧ (taglessState n).srcState 2 = 3 ∧
    ((taglessState n).src 2).resetSends = 0 ∧ (taglessState n).waiting = [] := by
  change brokenState.srcStream 2 % 8 = 3 ∧ brokenState.srcState 2 = 3 ∧ (brokenState.src 2).resetSends = 0 ∧
    brokenState.waiting = []
  decide +kernel

theorem test_broken_stream_without_a_tag : (taglessState 4096).freeTag 3 = none ∧ (taglessState 4096).srcStream 2 % 8 = 3 ∧
    (taglessState 4096).srcState 2 = 3 ∧ ((taglessState 4096).src 2).resetSends = 0 ∧ (taglessState 4096).waiting = [] :=
  ⟨freeTag_taglessState 4096 (le_refl _), taglessState_rest 4096⟩

/-- A Guard descriptor of one data member, this module, in entry 0, in a state. -/
def guardState (st : Nat) : State :=
  withObjs [(Obj.guardDesc, 0, 1 + 2 ^ 8 + 2 ^ 128 + 5 * 2 ^ 192 + 6 * 2 ^ 208 + 7 * 2 ^ 224), (Obj.guardState, 0, st)] upState

theorem test_guard_commands_are_possible : (guardState 0).guardDescOk 0 = true ∧ (guardState 1).openDelta 0 = false ∧
    (guardState 1).rd Obj.guardState 0 = 1 ∧ ((guardState 2).guard 0).vacant = false ∧
    (guardState 2).memberQuiet 0 = true := by decide +kernel

/-- The same group rebuilding the member's own symbol. -/
def rebuildState : State := (guardState 3).setGuard 0 { GuardSt.init with lost := [0], missing := true }

theorem test_stripe_can_be_rebuilt : (rebuildState.guard 0).done.contains 0 = false ∧
    0 < rebuildState.fld Obj.guardDesc 0 128 32 ∧ rebuildState.survivorsOk 0 [(1, [])] = true ∧
    (decodeStripe (rebuildState.guardK 0) [(1, [])]).isSome = true := by decide +kernel

theorem test_guard_store_is_replied : ∀ failed ∈ [none, some 9],
    let s := boundState.setDst 3 { DstSt.init with
      store := some ⟨request 2 true false 9 0, 0, 0, 0, [], 3, [], failed, .clean⟩ }
    (s.dst 3).store = some ⟨request 2 true false 9 0, 0, 0, 0, [], 3, [], failed, .clean⟩ ∧ s.scratched = false := by
  decide +kernel

/-- Port 0 in a state and a training step, its MODE FABRIC unless said otherwise, one second after reset. -/
def portAt (st step mode : Nat) : State :=
  { (withObjs [(Obj.portState, 0, st), (Obj.portConfig, 0, mode), (Obj.headroomLimit, 0, 10000)] upState).setPort 0
      { PortSt.init with step := step, loops := [100], checking := decide (step = 9),
                         stored := [⟨0, 0, 0, []⟩] } with now := 2000000000 }

theorem test_port_training_steps : (portAt 3 0 1).mayTrain 0 = true ∧ (portAt 3 1 1).portMode 0 = 1 ∧
    ((portAt 3 1 1).port 0).attempt + 100000000 ≤ 2000000000 ∧ (portAt 8 0 1).portState 0 = 8 ∧
    ((portAt 1 2 1).port 0).stepAt + 5000000 ≤ 2000000000 ∧ (portAt 1 7 1).portState 0 = 1 ∧ (portAt 1 7 1).scratched = false ∧
    (portAt 1 6 1).rd Obj.headroomUsed 0 + 5 * headroom (((portAt 1 6 1).port 0).loops.foldl max 0)
      ≤ (portAt 1 6 1).rd Obj.headroomLimit 0 ∧
    (withObjs [(Obj.headroomLimit, 0, 5)] (portAt 1 6 1)).rd Obj.headroomLimit 0 < 5 * headroom 100 := by decide +kernel

theorem test_fec_thresholds : (portAt 1 3 1).fecAbove 0 10000 (5 * symbolsPerMs) = true ∧
    (portAt 1 3 1).fecAbove 0 9000 (5 * symbolsPerMs) = false ∧
    (withObjs [(Obj.portConfig, 0, 5)] (portAt 1 3 1)).fecAbove 0 10000 (5 * symbolsPerMs) = false ∧
    ((portAt 1 3 1).port 0).stepAt + 5000000 ≤ (portAt 1 3 1).now ∧ ((portAt 2 0 1).port 0).second + 1000000000 ≤ (portAt 2 0 1).now ∧
    ([(9, 7)] : List (Nat × Nat))[0]? = some (9, 7) := by decide +kernel

theorem test_port_command_states : (portAt 0 0 1).portMode 0 ≠ 0 ∧ (portAt 4 0 2).portState 0 = 4 ∧
    (withObjs [(Obj.serviceState, 0, 2)] upState).scratched = true ∧ (portAt 2 0 1).portState 0 ∈ [1, 2, 3, 4, 8] ∧
    ((portAt 3 0 1).port 0).checking = false := by decide +kernel

theorem test_port_event_states : (portAt 2 0 1).portState 0 = 2 ∧ ((portAt 2 0 1).port 0).probe + 1000000000 ≤ (portAt 2 0 1).now ∧
    ((portAt 2 0 1).port 0).stored.length = 1 ∧ 0 + (portAt 2 0 1).loopBasis 0 + 200 ≤ (portAt 2 0 1).now ∧
    ((portAt 3 9 1).port 0).checking = true ∧ (portAt 3 0 1).portState 0 ∉ [0, 4, 6, 7] := by decide +kernel

theorem crcR_append (poly r : Nat) (a b : List Byte) : crcR poly r (a ++ b) = crcR poly (crcR poly r a) b :=
  List.foldl_append ..

/-- The link CRC register after a body of 256 zero bytes, in parts. -/
theorem crc_zeroBody : crcR 0xEDB88320 0xFFFFFFFF zeroBody = 4066998951 := by
  have e : zeroBody = (((List.replicate 64 0 ++ List.replicate 64 0) ++ List.replicate 64 0) ++ List.replicate 64 0) := by decide +kernel
  have h1 : crcR 0xEDB88320 0xFFFFFFFF (List.replicate 64 0) = 2322767049 := by decide +kernel
  have h2 : crcR 0xEDB88320 2322767049 (List.replicate 64 0) = 1029113186 := by decide +kernel
  have h3 : crcR 0xEDB88320 1029113186 (List.replicate 64 0) = 1946220301 := by decide +kernel
  have h4 : crcR 0xEDB88320 1946220301 (List.replicate 64 0) = 4066998951 := by decide +kernel
  rw [e, crcR_append, crcR_append, crcR_append, h1, h2, h3, h4]

/-- The LCRC of a block of zeros (R228). -/
theorem lcrc_zeroBody : ∀ t, t / 2 ^ 32 = 0 → lcrc zeroBody t = 2062445753 := by
  intro t h
  unfold lcrc
  rw [crcR_append, crc_zeroBody, h]
  decide +kernel

theorem test_bad_block : bits (beCode (sliceBytes [] 256 16)) 0 32
    ≠ lcrc (sliceBytes [] 0 256) (beCode (sliceBytes [] 256 16)) := by
  have a : sliceBytes [] 0 256 = zeroBody := by decide +kernel
  have b : beCode (sliceBytes [] 256 16) = 0 := by decide +kernel
  rw [a, b, lcrc_zeroBody 0 (by decide)]
  decide

/-- A valid IDLE block with a body of zeros. -/
def goodBlock : List Byte := zeroBody ++ beBytes 16 2062445753

theorem test_good_block : bits (beCode (sliceBytes goodBlock 256 16)) 0 32
    = lcrc (sliceBytes goodBlock 0 256) (beCode (sliceBytes goodBlock 256 16)) := by
  have a : sliceBytes goodBlock 0 256 = zeroBody := by decide +kernel
  have b : beCode (sliceBytes goodBlock 256 16) = 2062445753 := by decide +kernel
  rw [a, b, lcrc_zeroBody _ (by decide)]
  decide

/-- Laser sources 14 and 15 in given states. -/
def lasers (a b : Nat) (lost : List Nat) : State := { withObjs [(Obj.elsState, 14, a), (Obj.elsState, 15, b)] upState with elsLost := lost }

theorem test_laser_states : (lasers 1 0 []).els 14 = 1 ∧ elsPartner 15 = 14 ∧ (lasers 2 2 []).els 15 = 2 ∧
    (lasers 4 2 []).els (elsPartner 15) = 4 ∧ (lasers 2 2 [15]).elsLost.contains 15 = true ∧
    KMap.get (lasers 2 4 []).elsSince 0 15 + 10000000 ≤ 10000000 ∧ (lasers 3 1 []).els (elsPartner 15) = 3 ∧
    (lasers 0 5 []).els 15 = 5 ∧ (lasers 0 1 []).els (elsPartner 15) ≠ 3 := by decide +kernel

theorem test_laser_ramps : (lasers 0 1 []).rampOver 31 = true ∧ ((lasers 0 1 []).setRamp 31 (some ⟨36, none⟩)).rampOver 31 = false ∧
    (lasers 3 1 []).els (elsPartner 15) = 3 ∧ (lasers 2 1 []).els (elsPartner 15) = 2 ∧ (lasers 4 3 []).els 15 = 3 := by decide +kernel

/-- A frame of class REQ from device 6 to device `dest` in the Track at fabric port 0. -/
def trackFrame (dest : Nat) (mc : Bool) : TrackFrame :=
  { id := 0, ingress := 0, hdr := dest * 2 ^ 240 + 6 * 2 ^ 224 + (if mc then 3 else 2) * 2 ^ 218 + b2n mc * 2 ^ 217 + 5 * 2 ^ 210,
    payload := [], cls := 2, banks := [0], complete := true, looked := false, dropped := false, aborted := false, freed := 0 }

/-- Its copy at port 1. -/
def trackCopy (queued : Bool) (pick : Option Nat) : TrackCopy :=
  { frame := 0, egress := 1, hdr := (trackFrame 7 false).hdr, mcast := false, queued := queued, flow := 8, pick := pick,
    staged := [], sent := 0, began := false, time := 0 }

/-- A Track with routes: device 7 by port 1, group 9 to ports 1 and 2, both ports UP. -/
def trackState (dest : Nat) (mc : Bool) (copies : List TrackCopy) : State :=
  { withObjs [(Obj.routeActive, 65536 * 2 + 7, 1 + 1 * 2 ^ 4), (Obj.mcActive, 9, 6 + 2 ^ 64 + 3 * 2 ^ 72),
      (Obj.portUsable, 0, 6), (Obj.portState, 1, 2), (Obj.portState, 2, 2), (Obj.classChecked, 0, 0)] upState with
    frames := [trackFrame dest mc], copies := copies }

theorem test_frame_is_routed : (trackState 7 false []).routeUnicast (trackFrame 7 false).frame 0 = .egress 1 ∧
    (trackState 8 false []).routeUnicast (trackFrame 8 false).frame 0 = .drop 4 ∧
    ((trackState 7 false []).arriving 0 ⟨0, []⟩ false).1 = some (trackFrame 7 false) ∧
    ((trackState 9 true []).arriving 0 ⟨0, []⟩ true).1 = some (trackFrame 9 true) ∧
    ((trackState 9 true []).routeMulticast (trackFrame 9 true).frame 0) = some ([1, 2], 0) ∧
    (trackState 7 false []).scratched = false := by decide +kernel

/-- A picked copy whose one cell is staged. -/
def stagedCopy : TrackCopy := { trackCopy true (some 0) with staged := [0] }

theorem test_frame_can_depart : ((trackState 7 false [stagedCopy]).nextDeparture []
    ((trackState 7 false [stagedCopy]).releaseOrder 1)) = some stagedCopy ∧
    (trackState 7 false []).frameOf 0 = some (trackFrame 7 false) ∧ (trackState 7 false []).classChecked 4 = false := by
  decide +kernel

/-- A frame of class FWD that has waited since reset. -/
def oldForward : State :=
  { trackState 7 false [trackCopy false none] with frames := [{ trackFrame 7 false with cls := 4 }], now := 10 ^ 10 }

theorem test_forward_frame_is_old : (oldForward.copies.find? (fun k => k.egress == 1 && !k.began &&
    decide (oldForward.rd Obj.fwdAgeNs 0 < oldForward.now - k.time) &&
    (match oldForward.frameOf k.frame with | some x => x.cls == 4 | none => false))).isSome = true := by decide +kernel

theorem test_commit_passes_and_fails : upState.commitCheck = some ⟨5, 0, 5, 0⟩ ∧
    (withObjs ((List.range 5).map fun c => (Obj.routeShadow, 65536 * c + 5, 3)) upState).commitCheck = none := by
  decide +kernel

theorem test_copy_waits_for_its_flow : ((trackState 7 false [trackCopy false none]).copies.find?
    (fun k => k.egress == 1 && !k.queued)) = some (trackCopy false none) ∧
    ((trackState 7 false []).rd Obj.flowTable ((trackState 7 false []).flowFor 1 (trackCopy false none).hdr)).testBit 31 = false := by
  decide +kernel

/-- The same copy in its flow. -/
def flowState : State := (trackState 7 false [trackCopy true none]).flowFills 8

theorem test_copy_can_be_picked : ((flowState.portCandidate 1).1.map (·.colour)) = some .green := by decide +kernel

theorem test_flow_commands : bits (600 + 2 ^ 48) 48 8 = 1 ∧ upState.findFlow 24 1 1 1 2 = none ∧
    (firstBelow 130560 (fun k => upState.flowFld (512 + k) 0 2 == 0)) = some 0 ∧
    (withObjs [(Obj.flowTable, 512, 1)] upState).flowFld 512 0 2 = 1 ∧
    (withObjs [(Obj.flowTable, 512, 1 + 24 * 8 + 512 + 4096)] upState).findFlow 24 1 1 1 2 = some 512 := by decide +kernel

/-- A link-local frame that Marshal sends at port 1. -/
def linkFrame : Frame := upState.msgFrame 0xFFFF false 1 0 0 0 []

/-- The module with the frame waiting at channel 79. -/
def linkState : State := { trackState 7 false [] with frames := [], linkLocals := [(1, linkFrame)] }

theorem test_link_local_frame_is_looked_up : ((linkState.arriving 79 linkFrame false).1.map fun x =>
    (x.ingress, linkState.linkLocalPort x.frame)) = some (79, some 1) ∧ linkState.portState 1 = 2 ∧
    (trackState 7 false []).portState 0 ≠ 2 := by decide +kernel

/-- The same copy at a port whose node gives red: its bucket holds nothing. -/
def redState : State := withObjs [(Obj.portNode, 1, 2 * 2 ^ 4)] flowState

theorem test_candidate_can_be_red : (((redState.settleMoves 1).portCandidate 1).1.map (·.colour)) = some .red ∧
    redState.portState 1 = 2 ∧ (((flowState.settleMoves 1).portCandidate 1).1.map (·.colour)) = some .green := by decide +kernel

/-- The copy's flow with a policer that lets nothing pass. -/
def policedState : State :=
  withObjs [(Obj.flowTable, 8, flowState.rd Obj.flowTable 8 + 2 ^ 31 + 4 * 2 ^ 32), (Obj.policer, 4, 2)]
    (trackState 7 false [trackCopy false none])

theorem test_copy_can_be_policed : (policedState.rd Obj.flowTable (policedState.flowFor 1 (trackCopy false none).hdr)).testBit 31 = true ∧
    (policedState.police (policedState.flowFld 8 32 16) 16).1 = .red := by decide +kernel

/-- A frame of class COL from device 6 to device `dest` with `n` payload bytes. -/
def colFrame (dest n : Nat) : Frame :=
  { hdr := dest * 2 ^ 240 + 6 * 2 ^ 224 + 3 * 2 ^ 218 + 5 * 2 ^ 210 + n * 2 ^ 196, payload := List.replicate n 1 }

/-- An instruction: opcode, registers 1, 2 and 3 as RD, RA and RB, the bits below RB. -/
def ecWord (op low : Nat) : Nat := op * 2 ^ 56 + 2 ^ 50 + 2 * 2 ^ 44 + 3 * 2 ^ 38 + low

/-- The run of a frame of 64 bytes on unit 0, its register RA at 8 and RB at 1. -/
def ecRun : SuRun :=
  { slot := 0, ingress := 2, frame := colFrame 7 64, payload := List.replicate 64 1, ohdr := 7 * 2 ^ 240 + 2 * 2 ^ 221 + 3 * 2 ^ 218,
    out := [], regs := [(2, 8), (3, 1)], pc := 0, executed := 0, cycles := 4, id := 0, seed := 0, rank := some 0, free := 0 }

/-- Unit 0 with that run before the instruction `w` of slot 0, a binding of kind DIVERT with 4 baton slots and 64 bitmap bits. -/
def ecState (w : Nat) : State :=
  { withObjs [(Obj.programText, 0, 1 + w * 2 ^ 64), (Obj.bindState, 0, 5 + (4 * 2 ^ 16 + 64 * 2 ^ 96) * 2 ^ 64),
      (Obj.tcKind, 2, 2)] upState with sus := [(0, { SuSt.init with run := some ecRun })] }

theorem test_instructions_can_run : ∀ op ∈ [0x00, 0x01, 0x02, 0x03, 0x04, 0x05, 0x06, 0x07, 0x08, 0x09, 0x0A, 0x10, 0x11, 0x12, 0x13, 0x20,
    0x21, 0x28, 0x29, 0x2A, 0x2B, 0x30, 0x31], NextEcmel (ecState (ecWord op 0)) 0 op ecRun (ecWord op 0) := by decide +kernel

theorem test_instruction_operands_in_range : let g := ecRun.reg ((ecState 0).su 0).kept
    g 2 = 8 ∧ g 3 = 1 ∧ g 2 + 0 + 8 ≤ ecRun.payload.length ∧ g 2 < (ecState 0).slotBmLen 0 ∧ g 2 + 65528 - 8 + 8 ≤ suOutSize ∧
    g 2 + g 3 ≤ ecRun.payload.length ∧ 65535 + g 3 ≤ suOutSize ∧ (ecState 0).sendable ⟨ecRun.ohdr, []⟩ (g 3) = true ∧
    (ecState 0).posCount 72 3 < (ecState 0).allowance 3 ∧ ecFormat 0 = some .fp32 ∧ ecRun.payload.length % 8 = 0 := by decide +kernel

theorem test_operands_out_of_range : ecRun.payload.length < ecRun.reg [] 2 + 57 + 8 ∧
    (withObjs [(Obj.bindState, 0, 5 + 4 * 2 ^ 16 * 2 ^ 64)] (ecState 0)).slotBmLen 0 ≤ 8 := by decide +kernel

/-- GATH of two payloads of 64 bytes under the key in RA. -/
def gathWord : Nat := ecWord 0x21 1

theorem test_records_can_be_opened :
    (match (ecState gathWord).openRec 0 0 8 [1, 2, 64] 128 with
      | .ok (x, _) => x.params == [1, 2, 64] && !x.seen.contains 1 | .error _ => false) = true ∧
    (match (ecState 0).rsum 0 ecRun (ecWord 0x20 (2 ^ 14)) (ecRun.reg []) with | .go _ _ _ => true | _ => false) = true ∧
    (match (ecState 0).mergeRun 0 ecRun (ecWord 0x29 (2 ^ 18)) (ecRun.reg []) with | .go _ _ _ => true | _ => false) = true := by
  decide +kernel

/-- Slot 9 bound for frames to device 7 that are diverted, with a frame waiting. -/
def divertState : State :=
  { withObjs [(Obj.divertMap, 7, 2 ^ 15 + 9), (Obj.bindState, 9, 5 + (3 + 4 * 2 ^ 16) * 2 ^ 64)] upState with
    sus := [(1, { SuSt.init with waiting := [⟨9, 2, colFrame 7 64⟩] })] }

theorem test_stream_units_can_take_and_run : divertState.slotBound 9 = true ∧ divertState.slotKind 9 = 1 ∧ (colFrame 7 64).bclass = 3 ∧
    (colFrame 7 64).mc = false ∧ (divertState.rd Obj.divertMap 7).testBit 15 = true ∧ divertState.slotFree 9 ≠ 0 ∧
    (divertState.su 1).run = none ∧ (divertState.su 1).waiting = [⟨9, 2, colFrame 7 64⟩] ∧ divertState.guardWaits 1 = false ∧
    divertState.scratched = false := by decide +kernel

/-- Context 4095 with a Guard store whose old symbol has been read. -/
def guardRunState : State :=
  upState.setDst 4095 { DstSt.init with store := some ⟨colFrame 7 64, 0, 0, 1, [], 1, [], none, .clean⟩ }

theorem test_guard_program_can_run : ((guardRunState.dst 4095).store.map (·.phase)) = some 1 ∧
    (guardRunState.su (guardSu 4095 1)).run = none ∧ guardRunState.deltaRoom 0 = true := by decide +kernel

/-- A program of one END staged, and one that ends with NOP. -/
def stagedState (op : Nat) : State := withObjs [(Obj.programStage, 0, 1 + op * 2 ^ 56 * 2 ^ 64)] upState

theorem test_programs_can_be_loaded : (stagedState 1).slotBound 255 = false ∧ (stagedState 1).slotReserved 255 = false ∧
    loaderCheck ((stagedState 1).rd Obj.programStage 0) = none ∧ loaderCheck ((stagedState 0).rd Obj.programStage 0) = some (5, 0) ∧
    divertState.slotBound 9 = true ∧ divertState.slotKind 9 < 3 ∧ divertState.slotActive 9 = true ∧
    ({ divertState with sus := [] }).slotActive 9 = false ∧ (upState.su 31).run = none ∧ (upState.su 31).later = [] := by
  decide +kernel

/-- What a command leaves. -/
def after (c : Instr) (s : State) : State := match exec c s with | .next t => t | _ => s

/-- A group of devices 5 and 6, this module its member of rank 0 and its reduction point 0. -/
def groupDesc : Nat := 9 + 2 ^ 16 + 2 ^ 40 + 2 ^ 41 + 20 * 2 ^ 80 + 3 * 2 ^ 160

/-- A module that may set that group up: its tables, tree and a pool. -/
def groupState : State := withObjs [(Obj.groupDesc, 0, groupDesc), (Obj.memberTable, 0, 5), (Obj.memberTable, 1, 6),
  (Obj.rpTable, 0, 5), (Obj.mcActive, 20, 2 ^ 64 + 2 ^ 65 + 3 * 2 ^ 72 + 2 ^ 75), (Obj.poolConfig, 0, 129 * 2 ^ 8)] upState

/-- The context that SETUP makes of it. -/
def groupCtx : CtxSt := { CtxSt.init with desc := groupDesc, members := [5, 6], rps := [5] }

theorem test_group_can_be_set_up : groupState.inRun = true ∧ (List.range 64).find? (fun c => groupState.ctxState c == 0) = some 0 ∧
    groupState.groupDescOk groupCtx = true ∧ groupCtx.mode = 0 ∧ groupState.groupTreeOk groupCtx = true ∧
    1 ≤ groupState.freeSlots.length ∧ 4128 ≤ groupState.poolSize 0 ∧
    (List.range 64).any (fun k => groupState.ctxState k != 0 && (groupState.ctx k).group == groupCtx.group) = false := by
  decide +kernel

/-- A collective of 4 BF16 values: BARRIER is 8, ALL_REDUCE 1. -/
def aColl (op : Nat) : CollSt where
  seq := 0
  epoch := 0
  desc := op
  first := 0
  count := 1
  table := []
  handed := 1
  sent := 0
  got := []
  failed := []
  times := []
  retries := 0
  written := 0
  ring := none
  start := 0
  granted := []
  ended := []
  recv := 0
  recvGranted := 0
  recvGot := []

/-- Context 0 in state `st`, changed by `g`. -/
def ctxState (st : Nat) (g : CtxSt → CtxSt) : State :=
  (withObjs [(Obj.ctxState, 0, st)] upState).setCtx 0 (g groupCtx)

theorem test_group_states : (ctxState 1 id).ctxState 0 = 1 ∧ (ctxState 3 id).ctxState 0 = 3 ∧ upState.ctxState 63 = 0 := by
  decide +kernel

theorem test_chunk_may_go : (ctxState 2 fun x => { x with colls := [aColl 1] }).nextSend 0 = some (aColl 1, 0) ∧
    isExchange (aColl 1).op = false ∧ upState.scratched = false := by decide +kernel

/-- An exchange whose other member has granted one chunk, and one that has only its own pair left. -/
def exchangeColl (own : Bool) : CollSt :=
  { aColl 6 with granted := [(1, 1)], handed := 2, sent := b2n own, recv := b2n own, ended := if own then [1] else [] }

theorem test_exchange_chunk_may_go :
    (ctxState 2 fun x => { x with colls := [exchangeColl false] }).nextSend 0 = some (exchangeColl false, 0) ∧
    (ctxState 2 fun x => { x with colls := [exchangeColl true] }).nextSend 0 = some (exchangeColl true, 1) ∧
    (exchangeAt (exchangeColl false) groupCtx 2 0 0).1 = 0 ∧ (exchangeAt (exchangeColl true) groupCtx 2 0 1).1 = 1 ∧
    (exchangeColl true).contribs groupCtx ≤ 2 := by decide +kernel

/-- The low header of a CLE frame of group 9. -/
def cleHdr (ftype sub rank chunk digest ccrc : Nat) : Nat := (CleHead.mk ftype sub rank 0 0 chunk digest).bits 9 0 0 ccrc

/-- A CLE frame whose one part verifies. -/
def cleFrame (ftype rank chunk digest : Nat) (payload : List Byte) : Frame :=
  ⟨5 * 2 ^ 240 + 6 * 2 ^ 224 + cleHdr ftype 0 rank chunk digest (chunkCrc [payload] (cleHdr ftype 0 rank chunk digest 0)), payload⟩

/-- A CONTROL frame. -/
def controlFrame (sub arg0 arg1 digest : Nat) : Frame :=
  ⟨5 * 2 ^ 240 + 6 * 2 ^ 224 + cleHdr 3 sub 0 0 digest 0, leBytes 16 (arg0 + arg1 * 2 ^ 32)⟩

/-- A context of a member that is no reduction point; device 6 is. -/
def memberCtx (colls : List CollSt) (x : CtxSt) : CtxSt := { x with desc := groupDesc - 2 ^ 41, rps := [6], colls := colls }

/-- A member that has sent the chunk of an ALL_REDUCE. -/
def sentCtx : State := ctxState 2 (memberCtx [{ aColl 1 with desc := 1 + 2 ^ 32, sent := 1 }])

theorem test_retries_are_answered : cleType (controlFrame 2 0 0 0) = 3 ∧ cleSub (controlFrame 2 0 0 0) = 2 ∧
    (ctxState 2 fun x => { x with retained := [(0, 0, [[]])] }).findCtx 9 true = some 0 ∧ (ctxState 2 id).ctxTakes 0 0 0 = true ∧
    sentCtx.findCtx 9 true = none ∧ sentCtx.findCtx 9 false = some 0 ∧ sentCtx.ctxTakes 0 0 0 = true ∧
    (sentCtx.collOf 0 0).isSome = true ∧ sentCtx.resultAsked 0 0 0 6 = false ∧
    CollSt.retryIndex { aColl 1 with desc := 1 + 2 ^ 32, sent := 1 } (sentCtx.ctx 0) 0 6 = some 0 := by decide +kernel

/-- The contribution of rank 1: one FP32 value. -/
def aContrib : Frame := cleFrame 0 1 0 7 (leBytes 4 0x3F800000)

theorem test_contribution_verifies : ((ctxState 2 id).partIn 0 0 1 6 aContrib).1.map (·.2) = some [leBytes 4 0x3F800000] ∧
    ((ctxState 2 id).partIn 0 0 1 6 aContrib).2.rpChunk 0 0 0 = none ∧ cleType aContrib = 0 ∧ cleGroup aContrib = 9 ∧
    (KMap.get (((ctxState 2 id).partIn 0 0 1 6 aContrib).2.ctx 0).digests none 0).getD 7 = 7 := by decide +kernel

/-- A part of a chunk came at time 0, and the clock stands at `t`. -/
def lateState (t : Nat) : State := { ctxState 2 (fun x => { x with parts := [⟨0, 0, 1, 0, [(0, aContrib.hdr, [])], 0⟩], colls := [] }) with now := t }

theorem test_chunk_and_result_times_pass : ((lateState (2 ^ 32)).ctx 0).parts.find? (fun a => !a.parts.isEmpty
      && decide (a.since + (lateState (2 ^ 32)).fld Obj.collTimeout 0 0 32 ≤ (lateState (2 ^ 32)).now)) =
      some ⟨0, 0, 1, 0, [(0, aContrib.hdr, [])], 0⟩ := by
  decide +kernel

/-- A member whose chunk has had no result in time; the first time it asks its reduction point, the second it aborts. -/
def slowCtx (failed : List Nat) : State :=
  { ctxState 2 (memberCtx [{ aColl 1 with desc := 1 + 2 ^ 32, sent := 1, failed := failed }]) with now := 2 ^ 43 }

/-- An exchange whose granted chunk has not come, and one whose sent chunk has had no further grant. -/
def slowExchange (k : CollSt) : State :=
  { ctxState 2 (fun x => { x with colls := [{ k with desc := 6 + 2 ^ 32 }] }) with now := 2 ^ 43 }

theorem test_late_results_and_exchanges :
    ((slowCtx []).lateResult 0 ((slowCtx []).ctx 0) { aColl 1 with desc := 1 + 2 ^ 32, sent := 1 }).map (·.again) = some none ∧
    ((slowExchange { aColl 6 with recvGranted := 1 }).lateExchange groupCtx
      { aColl 6 with desc := 6 + 2 ^ 32, recvGranted := 1 }).map (·.again) = some none ∧
    ((slowExchange { aColl 6 with sent := 1, granted := [(1, 1)] }).lateExchange groupCtx
      { aColl 6 with desc := 6 + 2 ^ 32, sent := 1, granted := [(1, 1)] }).map (·.again) = some (some 0) := by decide +kernel

/-- An ALL_REDUCE of one FP32 value running at this member. -/
def reduceState : State := ctxState 2 fun x => { x with colls := [{ aColl 1 with desc := 1 + 2 ^ 32 }] }

/-- Its result. -/
def aResult : Frame := cleFrame 1 0 0 (CollSt.digest { aColl 1 with desc := 1 + 2 ^ 32 } groupCtx) (leBytes 4 0x3F800000)

theorem test_result_verifies : (reduceState.partIn 0 0 0 5 aResult).1.map (·.2) = some [leBytes 4 0x3F800000] ∧
    cleType aResult = 1 ∧ cleDigest aResult = CollSt.digest { aColl 1 with desc := 1 + 2 ^ 32 } groupCtx ∧
    CollSt.mine { aColl 1 with desc := 1 + 2 ^ 32 } groupCtx 0 = true ∧
    (resultParts (List.replicate (CollSt.resultLen { aColl 1 with desc := 1 + 2 ^ 32 } groupCtx 0) 0)).map (·.length) = [4] := by
  decide +kernel

theorem test_done_and_grant_arrive : cleType (controlFrame 3 0 0 0) = 3 ∧ cleSub (controlFrame 3 0 0 0) = 3 ∧
    cleDigest (controlFrame 3 0 0 (CollSt.digest (aColl 2) groupCtx)) = CollSt.digest (aColl 2) groupCtx ∧
    CollSt.mine { aColl 2 with desc := 2 + 2 ^ 8 } groupCtx 0 = false ∧ cleSub (controlFrame 1 1 0 0) = 1 ∧
    groupCtx.members.findIdx? (fun d => d == (controlFrame 1 1 0 0).src) = some 1 := by decide +kernel

/-- An exchange of one FP32 value, and its chunk from rank 1. -/
def fromOther : CollSt := { aColl 6 with desc := 6 + 2 ^ 32, recvGranted := 1 }
/-- The DIRECT frame. -/
def aDirect : Frame := cleFrame 2 1 0 (fromOther.digest groupCtx) (leBytes 4 1)

theorem test_direct_chunk_verifies :
    ((ctxState 2 fun x => { x with colls := [fromOther] }).partIn 0 0 2 6 aDirect).1.map (·.2) = some [leBytes 4 1] ∧
    recvFrom groupCtx 0 = 1 ∧ bits aDirect.hdr 68 16 + 1 = chunksOf (fromOther.pair groupCtx 1).2 ∧
    chunkLen (fromOther.pair groupCtx 1).2 0 = 4 := by decide +kernel

theorem test_result_is_whole : ((ctxState 2 fun x => { x with chunks := [⟨0, 0, 1, [4], [0, 1], [(0, leBytes 4 1)]⟩] }).ctx 0).chunks.find?
      (fun r => r.results.length == r.lens.length) = some ⟨0, 0, 1, [4], [0, 1], [(0, leBytes 4 1)]⟩ ∧
    cleSub (controlFrame 4 0 0 0) = 4 ∧ (ctxState 1 id).ctxState 0 ≠ 3 ∧ ((ctxState 1 id).ctx 0).colls = [] := by decide +kernel

/-- Pool 3 with two buffers of 256 bytes in the arena, initialised. -/
def poolState2 : State := after (.poolInitDone 3) (after (.poolInit 3)
  (withObjs [(Obj.poolConfig, 3, 8 * 2 ^ 8 + 2 * 2 ^ 32 + 2 ^ 128 + 2 ^ 192)] upState))

/-- The same with buffer 1 held by queue pair 0, and in state `st`. -/
def heldPool (st : Nat) : State := ((poolState2.setOwner 3 1 0x3000).poolSet 3 1 1).wrFld Obj.poolState 3 0 3 st

theorem test_pool_serves : poolState2.poolState 3 = 1 ∧ (poolState2.pool 3).head = some 0 ∧ poolState2.poolFree 3 = 2 ∧
    poolState2.linkGood 3 0 = true ∧ (popMany 3 0x3000 1 [] poolState2).isSome = true ∧ (heldPool 4).poolState 3 = 4 ∧
    1 < (heldPool 3).poolCount 3 ∧ (heldPool 3).ownerOf 3 1 = 0x3000 ∧ (heldPool 3).poolFree 3 = 1 ∧ ownerOk 0x4000 = true ∧
    ((poolState2.poolSet 3 0 2).wrFld Obj.poolState 3 0 3 4).poolFree 3 = 0 := by decide +kernel

theorem test_pool_can_be_made : (withObjs [(Obj.poolConfig, 63, 8 * 2 ^ 8 + 2 * 2 ^ 32 + 2 ^ 128 + 2 ^ 192)] upState).poolValid 63 = true ∧
    upState.poolState 63 = 0 ∧ upState.poolValid 63 = false ∧ (after (.poolInit 3)
      (withObjs [(Obj.poolConfig, 3, 8 * 2 ^ 8 + 2 * 2 ^ 32 + 2 ^ 128 + 2 ^ 192)] upState)).poolState 3 = 6 ∧
    poolState2.poolHeld 3 = 0 ∧ (heldPool 1).poolHeld 3 = 1 := by decide +kernel

/-- A feed of 128 bytes at the start of HBM. -/
def aFeed : Nat := 5 * 2 ^ 48 + 128 * 2 ^ 64 + 2 ^ 96 + 2 ^ 97

/-- The feed set down, and CVU 15 feeding. -/
def feedState : State := after (.feed 15) (withObjs [(Obj.feedDesc, 0, aFeed)] upState)

theorem test_check_value_units : upState.cvuClosed 15 = false ∧ upState.cvuState 15 = 0 ∧ feedState.cvuClosed 15 = false ∧
    feedState.cvuState 15 = 1 ∧ (feedState.cvu 15).feeds = [⟨5 * 2 ^ 48, 128, true, true⟩] ∧
    upState.rangeOk (5 * 2 ^ 48) 128 = true ∧ (upState.cvu 15).feeds = [] ∧ (upState.setCvuState 15 2).cvuState 15 = 2 := by
  decide +kernel

/-- A FILL of 64 bytes at the start of HBM, and a COMPUTE of one value over them. -/
def scanDesc (job : Nat) : Nat := job + 15 * 2 ^ 8 + 100 * 2 ^ 16 + 5 * 2 ^ 112 + 64 * 2 ^ 128 + (if job = 1 then 0 else (5 * 2 ^ 48 + 64) * 2 ^ 192)

/-- A submitted job. -/
def scanState (job : Nat) : State := after .scanSubmit (withObjs [(Obj.scanDesc, 0, scanDesc job)] upState)

theorem test_scan_jobs : upState.inRun = true ∧ (withObjs [(Obj.scanDesc, 0, scanDesc 1)] upState).scanDescOk (scanDesc 1) = true ∧
    (withObjs [(Obj.scanDesc, 0, scanDesc 3)] upState).scanDescOk (scanDesc 3) = true ∧
    (List.range 16).find? (fun e => !upState.scanEntryUsed e) = some 0 ∧
    (scanState 3).scanJobs = [⟨.queue 0, scanDesc 3, false, some 15⟩] ∧ (scanState 3).guardRanges ≠ .releasing ∧
    (scanState 3).dimmCopy = none ∧ ((scanState 3).cvu 15).feeds = [] ∧ (scanState 3).cvuState 15 = 0 ∧
    (scanState 3).cvuClaimed 15 = false ∧ (scanState 3).power < 2 ∧ (scanState 3).boot = .up ∧ (scanState 3).scratched = false ∧
    (scanState 3).scanJobs.find? (fun j => j.owner == .queue 0) = some ⟨.queue 0, scanDesc 3, false, some 15⟩ ∧
    (scanState 3).scanJobs.find? (fun j => j.owner == .queue 1) = none ∧
    (after .scanJobStart (scanState 1)).scanJobs.find? (·.running) = some ⟨.queue 0, scanDesc 1, true, none⟩ ∧
    (after .scanJobStart (scanState 3)).scanJobs.find? (·.running) = some ⟨.queue 0, scanDesc 3, true, some 15⟩ := by decide +kernel

/-- Pool 3 with two buffers of 8192 bytes, a program of one END in slot 255, and a descriptor that takes one of them. -/
def bindState : State := after (.poolInitDone 3) (after (.poolInit 3)
  (withObjs [(Obj.poolConfig, 3, 256 * 2 ^ 8 + 2 * 2 ^ 32 + 2 ^ 128 + 2 ^ 192), (Obj.bindDesc, 0, 1 + 3 * 2 ^ 8 + 2 ^ 16),
    (Obj.programText, 255, 1 + 2 ^ 56 * 2 ^ 64), (Obj.programInfo, 255, 1 + 2 ^ 8)] upState))

theorem test_programs_can_be_bound : (bindState.bindSlot 255 (bindState.rd Obj.bindDesc 0) [1, 2] .clean).1 = 1 ∧
    (upState.bindSlot 255 (upState.rd Obj.bindDesc 0) [1, 2] .clean).1 ≠ 1 ∧ (after (.bind 255 .clean) bindState).slotBound 255 = true ∧
    (after (.bind 255 .clean) bindState).slotKind 255 < 3 ∧ (after (.bind 255 .clean) bindState).slotActive 255 = false := by decide +kernel

/-- The state of `groupState` with its pool of 64 buffers of 8192 bytes initialised. -/
def pooledGroup (n : Nat) : State := after (.poolInitDone 0) (after (.poolInit 0)
  (withObjs [(Obj.poolConfig, 0, 256 * 2 ^ 8 + n * 2 ^ 32 + 2 ^ 128 + 2 ^ 192)] groupState))

theorem test_group_pool_lacks_buffers : ((pooledGroup 64).poolReserve 0 (ownerCtx 0) 80 .clean).code ≠ 1 ∧
    (pooledGroup 64).groupDescOk groupCtx = true ∧ (pooledGroup 64).groupTreeOk groupCtx = true ∧
    4128 ≤ (pooledGroup 64).poolSize 0 ∧ (pooledGroup 128).poolState 0 = 1 ∧ 80 ≤ (pooledGroup 128).poolFree 0 ∧
    (pooledGroup 128).linkGood 0 0 = true := by decide +kernel
/-- A run of free buffers of a pool in the arena: `n` of them from `b` on, each linked to the next. -/
structure FreeRun (s : State) (p n b : Nat) : Prop where
  loc : s.poolLoc p = 0
  size : 8 ≤ s.poolSize p
  head : (s.pool p).head = some b
  free : s.poolFree p = n
  count : b + n ≤ s.poolCount p
  link : ∀ j, b ≤ j → j + 1 < b + n → leCode (s.memRead spaceArena (s.bufAt p j) 8) = s.linkWord p (some (j + 1))
  owner : ∀ j, b ≤ j → j < b + n → s.ownerOf p j = 0

theorem memRead_memWrite_apart (s : State) (space off n off' : Nat) (bs : List Byte) (h : off + n ≤ off' ∨ off' + bs.length ≤ off) :
    (s.memWrite space off' bs).memRead space off n = s.memRead space off n := by
  unfold State.memRead
  refine List.map_congr_left fun k hk => ?_
  have hk := List.mem_range.1 hk
  rw [mem8_memWrite, if_neg (by simp only [memKey]; omega)]

/-- A word of eight bytes reads back whole. -/
theorem bits_linkWord (s : State) (p b : Nat) (hp : p < 64) (hb : b < 2 ^ 32) :
    bits (s.linkWord p (some b)) 0 32 = b ∧ bits (s.linkWord p (some b)) 32 6 = bits (s.linkWord p none) 32 6 ∧
      bits (s.linkWord p (some b)) 40 24 = bits (s.linkWord p none) 40 24 := by
  simp only [State.linkWord, Option.getD_some, Option.getD_none, endOfList, bits_eq]
  refine ⟨?_, ?_, ?_⟩ <;> omega

theorem memRead_congr {s t : State} (h : t.mem = s.mem) (a b c : Nat) : t.memRead a b c = s.memRead a b c := by
  simp only [State.memRead, State.mem8, h]

theorem bufAt_congr {s t : State} (h : t.objs = s.objs) (g : t.ident = s.ident) (p b : Nat) : t.bufAt p b = s.bufAt p b := by
  simp only [State.bufAt, State.poolBase, State.poolSize, State.fld, State.rd, h, g]

section

variable (u : State) (p q : Nat)

theorem memRead_poolSet (f x a b c : Nat) : (u.poolSet p f x).memRead a b c = u.memRead a b c :=
  memRead_congr (by simp only [State.poolSet, State.wrFld_mem]) a b c
theorem memRead_setOwner (o x a b c : Nat) : (u.setOwner p o x).memRead a b c = u.memRead a b c := memRead_congr rfl a b c
theorem memRead_setPool (x : PoolSt) (a b c : Nat) : (u.setPool p x).memRead a b c = u.memRead a b c := memRead_congr rfl a b c
theorem memRead_drawn (a b c : Nat) : u.drawn.memRead a b c = u.memRead a b c := memRead_congr rfl a b c
theorem bufAt_setOwner (o x b : Nat) : (u.setOwner p o x).bufAt q b = u.bufAt q b := bufAt_congr rfl rfl q b
theorem bufAt_setPool (x : PoolSt) (b : Nat) : (u.setPool p x).bufAt q b = u.bufAt q b := bufAt_congr rfl rfl q b
theorem bufAt_drawn (b : Nat) : u.drawn.bufAt q b = u.bufAt q b := bufAt_congr rfl rfl q b
theorem bufAt_memWrite (a c b : Nat) (bs : List Byte) : (u.memWrite a c bs).bufAt q b = u.bufAt q b := bufAt_congr rfl rfl q b

end

theorem pool_poolSet (u : State) (p f x q : Nat) : (u.poolSet p f x).pool q = u.pool q := by
  simp only [State.pool, State.poolSet, State.wrFld_pools]

theorem pool_setOwner (u : State) (p o x q : Nat) : (u.setOwner p o x).pool q = u.pool q := by
  have h : (u.setOwner p o x).pools = u.pools := rfl
  simp only [State.pool, h]

theorem pool_setPool_same (u : State) (p : Nat) (x : PoolSt) : (u.setPool p x).pool p = x := get_set_same _ _ _ _

theorem linkWord_eq {s t : State} {p : Nat} {b : Option Nat} (h : (t.pool p).inits = (s.pool p).inits) :
    s.linkWord p b = t.linkWord p b := by simp only [State.linkWord, h]

theorem popBuf_freeRun {s : State} {p n b owner : Nat} (hp : p < 64) (h : FreeRun s p (n + 1) b) (hn : 1 ≤ n) :
    ∃ t, s.popBuf p owner = some (b, t) ∧ FreeRun t p n (b + 1) := by
  have hc : s.poolCount p < 2 ^ 32 := bits_lt _ _ _
  have hcount := h.count
  have hl := h.link b (le_refl b) (by omega)
  obtain ⟨w1, w2, w3⟩ := bits_linkWord s p (b + 1) hp (by omega)
  have hw : leCode (s.poolRead p (s.bufAt p b) 8) = s.linkWord p (some (b + 1)) := by rw [State.poolRead, if_pos h.loc, hl]
  have hgood : s.linkGood p b = true := by
    simp only [State.linkGood, hw, w1, w2, w3, h.free, if_neg (show ¬ n + 1 = 1 by omega), h.owner (b + 1) (by omega) (by omega)]
    simp; omega
  refine ⟨_, by
    simp only [State.popBuf, h.head, hgood, Bool.not_true, Bool.false_eq_true, if_false, hw, w1]
    rfl, ?_⟩
  have hw0 : ∀ bs, s.poolWrite p (s.bufAt p b + 8) bs = s.memWrite spaceArena (s.bufAt p b + 8) bs := fun bs => by
    rw [State.poolWrite, if_pos h.loc]
  have hne : b + 1 ≠ endOfList := by simp only [endOfList]; omega
  simp only [hw0, if_neg hne]
  generalize hg : (List.map (fun k => BitVec.ofNat 8 (s.draw k)) (List.range (s.poolSize p - 8))) = rest
  have hr : rest.length = s.poolSize p - 8 := by rw [← hg]; simp
  have hcfg : ∀ (u : State) (f x lo w : Nat), (u.poolSet p f x).fld Obj.poolConfig p lo w = u.fld Obj.poolConfig p lo w :=
    fun u f x lo w => by
      simp only [State.poolSet]
      rw [State.fld_wrFld_obj _ _ _ _ _ _ _ _ (by decide), State.fld_wrFld_obj _ _ _ _ _ _ _ _ (by decide)]
  have hfree : ∀ (u : State) (f x : Nat), (u.poolSet p f x).poolFree p = f % 2 ^ 32 := fun u f x => by
    simp only [State.poolSet, State.poolFree]
    rw [State.fld_wrFld_other _ _ _ _ _ _ _ _ rfl (by decide), State.fld_wrFld_same _ _ _ _ _ _ rfl]
  have hsz := h.size
  refine ⟨?_, ?_, ?_, ?_, ?_, ?_, ?_⟩
  · simp only [State.poolLoc, hcfg]; exact h.loc
  · simp only [State.poolSize, hcfg]; exact h.size
  · rw [pool_poolSet, pool_setOwner, pool_setPool_same]
  · rw [hfree]
    have : s.poolFree p = n + 1 := h.free
    show (s.poolFree p - 1) % 2 ^ 32 = n
    omega
  · simp only [State.poolCount, hcfg]; show b + 1 + n ≤ s.poolCount p; omega
  · intro j hj hj'
    have e1 : ∀ (u : State) (f x : Nat), (u.poolSet p f x).bufAt p j = u.bufAt p j := fun u f x => by
      simp only [State.bufAt, State.poolBase, State.poolSize, hcfg]
    rw [e1]
    have e2 : s.bufAt p b + 8 + rest.length ≤ s.bufAt p j := by
      have := Nat.mul_le_mul_right (s.poolSize p) (show b + 1 ≤ j by omega)
      rw [hr]; simp only [State.bufAt]; rw [Nat.add_mul] at this; omega
    rw [memRead_poolSet, memRead_setOwner, memRead_setPool, memRead_drawn, bufAt_setOwner, bufAt_setPool, bufAt_drawn, bufAt_memWrite,
      memRead_memWrite_apart _ _ _ _ _ _ (Or.inr e2), h.link j (by omega) (by omega)]
    refine linkWord_eq ?_
    rw [pool_poolSet, pool_setOwner, pool_setPool_same]
    rfl
  · intro j hj hj'
    show KMap.get (KMap.set s.owners 0 (2 ^ 23 * p + b) owner) 0 (2 ^ 23 * p + j) = 0
    rw [get_set_other _ _ _ _ (by omega)]
    exact h.owner j (by omega) (by omega)

theorem popMany_freeRun {p owner : Nat} (hp : p < 64) : ∀ (k n b : Nat) (got : List Nat) (s : State), k < n → FreeRun s p n b →
    (popMany p owner k got s).isSome = true := by
  intro k
  induction k with
  | zero => intros; rfl
  | succ k ih =>
    intro n b got s hk h
    obtain ⟨m, rfl⟩ : ∃ m, n = m + 1 := ⟨n - 1, by omega⟩
    obtain ⟨t, e, ht⟩ := popBuf_freeRun (owner := owner) hp h (by omega)
    rw [popMany, e]
    exact ih m (b + 1) _ t (by omega) ht

theorem eccRanges_clean : ∀ (l : List (Nat × Nat × Nat)) (s : State), (eccRanges l .clean s) = (true, s) := by
  intro l
  induction l with
  | nil => intros; rfl
  | cons x l ih => intro s; simp only [eccRanges, State.eccRead, eccWords, eccAfter, List.filterMap_nil, ih, Bool.true_and]

theorem poolReserve_freeRun {s : State} {p n b k owner : Nat} (hp : p < 64) (h : FreeRun s p n b) (hk : k < n)
    (hs : s.poolState p = 1) : (s.poolReserve p owner k .clean).code = 1 := by
  have hm := popMany_freeRun (owner := owner) hp k n b [] s hk h
  have hf := h.free
  simp only [State.poolReserve, State.poolClosed, if_neg (show ¬ 64 ≤ p by omega), hs, if_neg (show ¬ s.poolFree p < k by omega),
    State.poolTake, eccRanges_clean]
  cases e : popMany p owner k [] s with
  | none => simp [e] at hm
  | some x => rfl

/-- A member that is no reduction point: it needs 16 buffers. -/
def memberDesc : CtxSt := { groupCtx with desc := groupDesc - 2 ^ 41 }

/-- The module that may set its group up, with a pool of 17 buffers. -/
def memberGroup : State := withObjs [(Obj.groupDesc, 0, groupDesc - 2 ^ 41)] (pooledGroup 17)

theorem test_group_pool_has_buffers : (memberGroup.poolReserve 0 (ownerCtx 0) 16 .clean).code = 1 := by
  refine poolReserve_freeRun (n := 17) (b := 0) (by decide) ⟨?_, ?_, ?_, ?_, ?_, ?_, ?_⟩ (by decide) (by decide +kernel)
  iterate 5 decide +kernel
  · have : ∀ j, j < 16 → leCode (memberGroup.memRead spaceArena (memberGroup.bufAt 0 j) 8)
        = memberGroup.linkWord 0 (some (j + 1)) := by decide +kernel
    exact fun j _ h => this j (by omega)
  · have : ∀ j, j < 17 → memberGroup.ownerOf 0 j = 0 := by decide +kernel
    exact fun j _ h => this j (by omega)

theorem test_group_with_buffers_meets_the_rest : memberGroup.inRun = true ∧ memberGroup.groupDescOk memberDesc = true ∧
    (List.range 64).find? (fun c => memberGroup.ctxState c == 0) = some 0 ∧ memberGroup.groupTreeOk memberDesc = true ∧
    memberDesc.mode = 0 ∧ memberDesc.rp = false ∧ 16 * memberDesc.w = 16 ∧ 4128 ≤ memberGroup.poolSize 0 := by decide +kernel

/-- Host port 0 UP, queue pair 511 READY, and window 0 over the first 4 KiB of HBM with every permission. -/
def hostState : State := (withObjs [(Obj.hostPortState, 0, 1), (Obj.hostPortState, 1, 1), (Obj.qpTable, 511, 1),
  (Obj.accessWindow, 0, 1 + 2 + 4 + 8 + 5 * 2 ^ 112 + 4096 * 2 ^ 128)] upState).setQp 511
    { QpSt.init with entry := 3 * 2 ^ 320 + 2 ^ 326, rate := 2000000000 }

theorem test_host_frames : hostState.hostPort 0 = 1 ∧ hostState.hostVlan 0 = none ∧
    ((hostState.wrFld Obj.hostPortConfig 0 222 1 1).wrFld Obj.hostPortConfig 0 224 12 7).hostVlan 0 = some 7 ∧
    FreshPacket (hostState.inc Obj.hostPortCounts 0 0 64 1) 511 0 := by decide +kernel

theorem test_host_packet_is_fresh : FreshPacket hostState 511 0 ∧ hostState.memClosed = false ∧
    hostState.windowAddr 0 4088 8 2 = some (5 * 2 ^ 48 + 4088) ∧ hostState.windowAddr 0 4088 8 1 = some (5 * 2 ^ 48 + 4088) ∧
    hostState.windowAddr 0 4088 8 3 = some (5 * 2 ^ 48 + 4088) ∧ hostState.windowAddr 0 4089 8 2 = none ∧
    (hostState.qp 511).entry.testBit 326 = true ∧ (hostState.qp 511).rateAt + 55000 ≤ ({ hostState with now := 55000 } : State).now ∧
    hostState.hostPort 1 = 1 := by decide +kernel

/-- The same with a pool of two buffers for its SENDs, and with that pool empty. -/
def sendState (free : Nat) : State :=
  ({ poolState2 with qps := hostState.qps }.poolSet 3 free 0).wr Obj.qpTable 511 1

theorem test_send_has_a_buffer : ((sendState 2).poolAlloc 3 (ownerQp 511) false .clean).bufs = [0] ∧ 8 ≤ (sendState 2).poolSize 3 ∧
    ((sendState 2).poolAlloc 3 (ownerQp 511) false .clean).state.scratched = false ∧ (sendState 2).memClosed = false ∧
    FreshPacket (sendState 2) 511 0 ∧ (sendState 0).poolFree 3 = 0 ∧ (sendState 0).poolState 3 = 1 ∧ FreshPacket (sendState 0) 511 0 ∧ (sendState 0).memClosed = false ∧
    bits ((sendState 0).qp 511).entry 320 6 = 3 := by decide +kernel

/-- An outstanding request of the module: 0 a read of PI, 2 a write. -/
def aHostReq (what : Nat) : HostReq := ⟨7, what, 0, 0, 4, [], 0, 0, 0⟩

/-- A queue pair with one, at time `t`. -/
def reqState (what t : Nat) : State := { hostState.setQp 511 { QpSt.init with reqs := [aHostReq what] } with now := t }

theorem test_queue_pairs : (reqState 2 4096).qpState 511 = 1 ∧ ((reqState 2 4096).qp 511).reqs = [aHostReq 2] ∧
    (aHostReq 2).sent + 4096 * 2 ^ bits ((reqState 2 4096).qp 511).entry 312 5 ≤ (reqState 2 4096).now ∧
    ((reqState 0 0).qp 511).reqs.find? (fun r => r.what != 2 && r.psn == 7) = some (aHostReq 0) ∧ upState.scratched = false ∧
    (withObjs [(Obj.qpTable, 0, 0)] upState).qpState 0 = 0 ∧ (withObjs [(Obj.qpTable, 0, 0)] upState).qpEntryOk 0 = false ∧
    (withObjs [(Obj.qpTable, 0, 8 * 2 ^ 312 + 12 * 2 ^ 416)] upState).qpEntryOk 0 = true ∧
    (withObjs [(Obj.qpTable, 0, 8 * 2 ^ 312 + 12 * 2 ^ 416)] upState).qpState 0 = 0 := by decide +kernel

/-- Ring 63 of queue pair 511 running, with command 0 read. -/
def ringState (w : Nat) : State := (hostState.wr Obj.ringState 63 1).setHostRing 63
  { RingSt.init with desc := 511 + 4 * 2 ^ 12, queue := [(0, w)] }

theorem test_ring_commands_may_start : RingHead (ringState 0) 63 0 0 [] ∧ RingHead (ringState 1) 63 0 1 [] ∧
    RingHead (ringState 258) 63 0 258 [] ∧ RingHead (ringState 3) 63 0 3 [] ∧
    RingHead (ringState (4 + 3 * 2 ^ 64 + 2 ^ 72)) 63 0 (4 + 3 * 2 ^ 64 + 2 ^ 72) [] ∧ (ringState 2).ctxState 0 = 0 ∧
    bits (4 + 3 * 2 ^ 64 + 2 ^ 72) 72 4 = 1 := by decide +kernel

/-- A member of a group whose COLL the CLE takes: a BARRIER with its descriptor at the start of HBM. -/
def collRing : State := { (ctxState 1 fun x => { x with desc := groupDesc + 9 * 2 ^ 64 * 0 }).store 0 0
  (leBytes 64 (8 + 5 * 2 ^ 144 + 5 * 2 ^ 208 + 5 * 2 ^ 272)) with hostRings := [(63, { RingSt.init with queue := [(0, 2)] })] }

theorem test_ring_collective_is_taken_and_refused :
    (match collRing.collAccept 0 0 (5 * 2 ^ 48) 0 0 true (some (ringId 63 0)) with | .ok _ => true | .error _ => false) = true ∧
    (match (ringState 2).collAccept 0 0 0 0 0 true (some (ringId 63 0)) with | .ok _ => 0 | .error k => k) = 1 ∧
    collRing.coreLive 0 = false := by decide +kernel

/-- A ring whose command 5 is done. -/
def doneRing : State := hostState.setHostRing 63 { RingSt.init with desc := 511, runs := [⟨5, 0, 9, .done 0 0, false⟩] }

theorem test_ring_completes_starts_and_polls : (doneRing.hostRing 63).runs.find? (fun k => k.n == 5) = some ⟨5, 0, 9, .done 0 0, false⟩ ∧
    doneRing.ringOutcome 63 ⟨5, 0, 9, .done 0 0, false⟩ = some (0, 0) ∧
    ringDescOk ((hostState.wr Obj.ringDesc 0 (511 + 4 * 2 ^ 12)).rd Obj.ringDesc 0) = true ∧
    (hostState.wr Obj.ringDesc 0 (511 + 4 * 2 ^ 12)).qpState 511 = 1 ∧ hostState.ringMode 0 = 0 ∧ (ringState 0).ringMode 63 = 1 ∧
    (hostState.hostRing 0).runs = [] ∧ (hostState.hostRing 0).queue = [] ∧
    ((ringState 0).hostRing 63).reading = false ∧ ((ringState 0).hostRing 63).polled = none ∧
    (((ringState 0).wrFld Obj.ringState 63 32 32 1).fld Obj.ringState 63 32 32 + 2 ^ 32 - 0) % 2 ^ 32 ≠ 0 := by decide +kernel

theorem test_ethernet_passes : (⟨4 * 2 ^ 218, []⟩ : Frame).bclass = 4 ∧ hostState.scratched = false ∧ hostState.hostPort 0 = 1 ∧
    ([] : List Byte).length ≤ hostState.fld Obj.hostPortConfig 0 208 14 ∧ upState.hostPort 1 ≠ 1 ∧
    ({ hostState with mirrorQueue := [⟨0, []⟩] } : State).mirrorQueue = [⟨0, []⟩] := by decide +kernel

/-- A CDP header of an operation in session `k` with SEQ 9. -/
def cdpHdr (op k code len : Nat) : Nat := 0xCD50 * 2 ^ 240 + 2 ^ 232 + op * 2 ^ 224 + (if k = 0 then 0 else 2 ^ 222) + k * 2 ^ 192
  + 9 * 2 ^ 160 + code * 2 ^ 136 + len * 2 ^ 48

/-- A message over UDP at host port 1, with the tag of key 77 in a session. -/
def cdpMsg (op k code len : Nat) (payload : List Byte) : CdpMsg := ⟨0, 1, 3, 4000, 0, cdpHdr op k code len, payload,
  if k = 0 then none else some (cdpTag 77 (beBytes 32 (cdpHdr op k code len) ++ payload)), true⟩

/-- An open session. -/
def aSession (finished : Bool) : Session := ⟨77, finished, true, false, 5, 0, 0, 0, 262184000, 8, []⟩

/-- A module with session 16. -/
def sessionState (finished : Bool) : State := hostState.setSession 16 (some (aSession finished))

theorem test_request_is_open (op code len : Nat) (payload : List Byte) (h : msgFormed (cdpMsg op 16 code len payload) = true)
    (g : bits (cdpMsg op 16 code len payload).hdr 240 16 = 0xCD50) (i : (cdpMsg op 16 code len payload).session = 16)
    (j : (cdpMsg op 16 code len payload).seq = 9) (a : (sessionState true).cdpArrives (cdpMsg op 16 code len payload) = true) :
    OpenRequest (sessionState true) (cdpMsg op 16 code len payload) (aSession true) := by
  refine ⟨a, rfl, g, ?_, rfl, ?_, h, ?_,
    fun e => nomatch e⟩
  · rw [i]; decide +kernel
  · simp [tagRight, cdpMsg, aSession]
  · rw [j]; decide

theorem test_read_write_describe_are_open : OpenRequest (sessionState true) (cdpMsg 1 16 0x100001 4 []) (aSession true) ∧
    OpenRequest (sessionState true) (cdpMsg 2 16 Obj.hopInit 1 [3#8]) (aSession true) ∧
    OpenRequest (sessionState true) (cdpMsg 2 16 Obj.scratchNow 1 [0x5C#8]) (aSession true) ∧
    OpenRequest (sessionState true) (cdpMsg 3 16 Obj.hopInit 0 []) (aSession true) ∧
    OpenRequest (sessionState true) (cdpMsg 4 16 0 0 []) (aSession true) ∧
    OpenRequest (sessionState true) (cdpMsg 16 16 Obj.hopInit 1 [3#8]) (aSession true) ∧
    OpenRequest (sessionState true) (cdpMsg 17 16 Obj.hopInit 0 []) (aSession true) ∧
    OpenRequest (sessionState true) (cdpMsg 48 16 0 1 [3#8]) (aSession true) ∧
    OpenRequest (sessionState true) (cdpMsg 34 16 0 0 []) (aSession true) := by
  refine ⟨?_, ?_, ?_, ?_, ?_, ?_, ?_, ?_, ?_⟩ <;> apply test_request_is_open <;> decide +kernel

/-- The state in which a message is performed. -/
def takenState (m : CdpMsg) : State := requestTaken (sessionState true) m (aSession true)

theorem test_dictionary_objects : (objInfo Obj.hopInit).map (·.access) = some .rw ∧ (objInfo Obj.scratchNow).map (·.access) = some .cmd ∧
    (takenState (cdpMsg 2 16 Obj.hopInit 1 [3#8])).objHere Obj.hopInit = true ∧
    (takenState (cdpMsg 2 16 Obj.scratchNow 1 [0x5C#8])).objHere Obj.scratchNow = true ∧
    ((takenState (cdpMsg 4 16 0 0 [])).nextObject 0).isSome = true ∧
    ((takenState (cdpMsg 2 16 Obj.scratchNow 1 [0#8])).writeCmd ((objInfo Obj.scratchNow).getD ⟨0, .cmd, 1, 0, .cmd, .v, 1, 0⟩) 0 0 [0#8] true
      true 0 .clean).2.isNone = true ∧
    ((takenState (cdpMsg 2 16 Obj.scratchNow 1 [0x5C#8])).writeCmd ((objInfo Obj.scratchNow).getD ⟨0, .cmd, 1, 0, .cmd, .v, 1, 0⟩) 0 0
      [0x5C#8] true true 0 .clean).1 = 0 := by decide +kernel

theorem test_scratch_command_completes (s : State) : ∃ t, execScratchNow s = .next t := ⟨_, rfl⟩

theorem test_sessions : hostState.cdpArrives (cdpMsg 32 0 0 0 []) = true ∧
    msgFormed (cdpMsg 32 0 0 130 (4#8 :: (List.replicate 64 0#8 ++ 4#8 :: List.replicate 64 0#8))) = true ∧
    hostState.session 0 = none ∧ (hostState.source (cdpMsg 32 0 0 0 [])).high = none ∧
    (List.range 16).find? (fun k => (hostState.session (k + 1)).isNone) = some 0 ∧ hostState.ownerKey = 0 ∧
    (sessionState false).session 16 = some (aSession false) ∧ (sessionState true).session 16 = some (aSession true) ∧
    msgFormed ⟨0, 1, 3, 4000, 0, cdpHdr 0x21 16 0 32 - 2 ^ 222, leBytes 32 5, none, true⟩ = true ∧
    hostState.hostAlive = true ∧ hostState.objHere Obj.hopInit = true ∧ hostState.nvErasing = false ∧
    ((hostState.wrFld Obj.nvState 0 2 2 3).nvStandby = 3) := by decide +kernel

/-- A Marshal message of a type from device 7, the manager, to device 5, its subject and step as given. -/
def aMsg (mtype subject step role : Nat) (payload : List Byte) : Frame :=
  ⟨5 * 2 ^ 240 + 7 * 2 ^ 224 + 0xA0 * 2 ^ 184 + mtype * 2 ^ 176 + subject * 2 ^ 160 + step * 2 ^ 120 + role * 2 ^ 112, payload⟩

/-- What is kept of device 7: suspect, probed at time 0, waiting for DEEP REST. -/
def aWatch : Watch := { Watch.init with known := true, rank := true, suspect := true, misses := 3, probe := some 0, restAt := some 0,
                                        restWait := [7] }

/-- A module whose manager is device 7, and one that is the manager of a domain with device 7, at time `t`. -/
def memberState (role t : Nat) : State :=
  { withObjs [(Obj.membership, 7, 1)] upState with
    now := t, watches := [(7, aWatch)],
    marshal := { MarshalSt.init with role := role, manager := if role = 1 then 5 else 7, standby := 8 } }

theorem test_marshal_periods_end : (memberState 0 50000).marshalOn = true ∧ (memberState 0 50000).devId ≠ 0xFFFF ∧
    (memberState 0 50000).marshal.beatSent + 50000 ≤ (memberState 0 50000).now ∧ (memberState 1 100000).isManager = true ∧
    (memberState 1 100000).tracks 7 = true ∧ ((memberState 1 100000).watch 7).probe = some 0 ∧
    ((memberState 1 100000).watch 7).relayed = false ∧ ((memberState 1 10000000).watch 7).restAt = some 0 ∧
    memLive ((memberState 1 10000000).memState 7) = true ∧ (withObjs [(Obj.deviceId, 0, 0xFFFF)] upState).marshalOn = true ∧
    ((memberState 1 210000).watch 7).beat + 60000 + 50000 * 3 ≤ 210000 := by decide +kernel

theorem test_marshal_messages_arrive : (memberState 1 0).message (aMsg 1 7 0 0 []) 1 = true ∧ (aMsg 1 7 0 0 []).src = 7 ∧
    (memberState 1 0).senderOf 7 = 7 ∧ (memberState 1 0).unrelayed 7 = false ∧ (leCode (sliceBytes (aMsg 1 7 0 0 []).payload 0 8)).testBit 16 = false ∧
    (((memberState 1 0).noteBeat 7 0).clearSuspect 7).isManager = true ∧ (memberState 0 0).message (aMsg 2 5 0 1 []) 2 = true ∧
    msgSubject (aMsg 2 5 0 1 []) = 5 ∧ (memberState 0 0).message (aMsg 2 6 0 1 []) 2 = true ∧
    (memberState 1 0).message (aMsg 3 7 0 0 []) 3 = true ∧ (memberState 2 0).message (aMsg 4 7 0 0 []) 4 = true ∧
    (memberState 2 10000000).marshalOn = true := by decide +kernel

theorem test_manager_messages_arrive : FromManager (memberState 0 0) (aMsg 5 6 0 1 []) 5 ∧ FromManager (memberState 0 0) (aMsg 6 6 0 1 []) 6 ∧
    StepFrom (memberState 0 0) (aMsg 7 0xFFFF 1 1 (u16Bytes [6])) 7 1 0 ∧ StepFrom (memberState 0 0) (aMsg 8 6 2 1 []) 8 2 6 ∧
    StepFrom (memberState 0 0) (aMsg 8 5 2 1 []) 8 2 5 ∧ StepFrom (memberState 0 0) (aMsg 0x0B 0xFFFF 6 1 (u16Bytes [9, 6])) 0x0B 6 0 ∧
    StepFrom (memberState 0 0) (aMsg 0x0C 0xFFFF 7 1 (u16Bytes [6])) 0x0C 7 0 ∧ FromManager (memberState 0 0) (aMsg 0x0F 0 0 1 []) 0x0F ∧
    FromManager (memberState 0 0) (aMsg 0x11 6 0 1 []) 0x11 ∧ (inStep (memberState 0 0) 2).devId = 5 := by decide +kernel

/-- A spare that takes rank 6, which has no Guard groups. -/
def spareState : State := (memberState 0 0).wr Obj.serviceState 0 3

theorem test_spare_takes_a_rank : StepFrom spareState (aMsg 0x0A 6 5 1 (leBytes 2 6 ++ List.replicate 4094 0)) 0x0A 5 0 ∧
    (inStep spareState 5).service = 3 ∧
    (let s := (memberState 0 0).wr Obj.serviceState 0 1; let f := aMsg 0x0A 5 5 1 (leBytes 2 5)
     StepFrom s f 0x0A 5 0 ∧ (inStep s 5).service = 1 ∧ (inStep s 5).devId = leCode ((f.payload ++ []).take 2)) ∧
    (let f : Frame := ⟨(aMsg 5 7 0 1 []).hdr + 3 * 2 ^ 128, []⟩; (memberState 0 0).message f 5 = true ∧ msgRole f = 1 ∧
      (memberState 0 0).epoch < msgEpoch f) ∧
    (let s := (memberState 0 0).wr Obj.recoveryState 0 4; s.message (aMsg 5 7 0 1 []) 5 = true ∧
      msgEpoch (aMsg 5 7 0 1 []) < s.epoch ∧ msgSpoilt (aMsg 5 7 0 1 []) = false) ∧
    (memberState 0 0).message (aMsg 5 7 0 2 []) 5 = true ∧ msgRole (aMsg 5 7 0 2 []) = 2 ∧ msgEpoch (aMsg 5 7 0 2 []) = (memberState 0 0).epoch ∧
    (List.replicate 64 0).all (inStep spareState 5).relayDescOk = true := by decide +kernel

theorem test_manager_hears : (memberState 1 0).message (aMsg 9 0 1 0 []) 9 = true ∧ msgEpoch (aMsg 9 0 1 0 []) = (memberState 1 0).epoch ∧
    (memberState 1 0).message (aMsg 0x13 0 1 0 []) 0x13 = true ∧ (memberState 1 0).message (aMsg 0x10 0 1 0 []) 0x10 = true ∧
    (memberState 1 0).message (aMsg 0x12 7 1 0 []) 0x12 = true ∧ ((memberState 1 0).watch 7).restWait.contains 7 = true ∧
    (memberState 1 0).message (aMsg 0x0D 0 1 0 []) 0x0D = true ∧ (aMsg 0x0D 0 1 0 []).dest ≠ 0xFFFF ∧
    ((memberState 1 (10 ^ 10)).wrFld Obj.recoveryState 0 32 8 3).epochStep = 3 ∧
    1000 * (memberState 1 (10 ^ 10)).rd Obj.stepTimeoutUs 0 ≤ 10 ^ 10 ∧ (memberState 1 0).memState 0 = memFree ∧
    bits ((withObjs [(Obj.admitDesc, 0, 77 + 4095 * 2 ^ 128)] (memberState 1 0)).rd Obj.admitDesc 0) 128 16 = 4095 ∧
    ((memberState 1 0).wr Obj.membership 9 4).memState 9 = memSpare ∧ memLive ((memberState 1 0).memState 7) = true := by decide +kernel

/-- A new module. -/
def newState : State := withObjs [(Obj.deviceId, 0, 0xFFFF), (Obj.serviceState, 0, 0)] upState

theorem test_module_is_assigned : newState.message ⟨0xFFFF * 2 ^ 240 + 0xA0 * 2 ^ 184 + 0x0E * 2 ^ 176, []⟩ 0x0E = true ∧
    newState.devId = 0xFFFF ∧ newState.service = 0 ∧ (memberState 0 0).message (aMsg 0x0E 0 0 0 []) 0x0E = true ∧
    leCode (sliceBytes (leBytes 8 9 ++ leBytes 16 newState.ident.serial) 8 16) = newState.ident.serial ∧
    (memberState 0 0).isManager = false := by decide +kernel

/-- A spare with Guard group 63 of one data symbol REBUILDING: its own symbol is 0, the surviving parities hold zeros. -/
def stripesState (stripes : Nat) : State := (withObjs [(Obj.guardState, 63, 3), (Obj.guardDesc, 63, 1 + 2 ^ 8 + stripes * 2 ^ 128)]
  upState).setGuard 63 { GuardSt.init with missing := true }

/-- The surviving symbol of its stripe 0. -/
def aTrial (second : Bool) : Trial := ⟨0, [(1, [0#8]), (2, [0#8])], [], second⟩

theorem test_last_stripe_can_be_rebuilt : (stripesState 1).rd Obj.guardState 63 = 3 ∧ ((stripesState 1).guard 63).trial = none ∧
    ((stripesState 1).guard 63).missing = true ∧ (stripesState 0).nextStripe 63 = none ∧ (stripesState 1).nextStripe 63 = some 0 ∧
    (stripesState 1).survivorsOk 63 [(1, [0#8])] = true ∧ (stripesState 1).scratched = false ∧
    ∀ second ∈ [false, true], ((trialSet ((stripesState 1).guardK 63) (aTrial second).symbols second).bind
      (decodeStripe ((stripesState 1).guardK 63))).isSome = true := by decide +kernel

/-- The check of the stripe running on CVU 15. -/
def verifyState : State :=
  { (stripesState 1).setGuard 63 { GuardSt.init with missing := true, trial := some (aTrial false) } with
    scanJobs := [⟨.verify 63, 0, true, some 15⟩] }

theorem test_rebuilt_stripe_is_checked : verifyState.scanJobs.find? (·.running) = some ⟨.verify 63, 0, true, some 15⟩ ∧
    verifyState.scratched = false := by decide +kernel

/-- A frame of KIND 0xA0 with a reserved MTYPE, and a REPORT whose entry has a reserved byte that is not zero. -/
def spoiltReport : Frame := aMsg 4 7 0 0 (leBytes 4 1 ++ leBytes 8 (2 ^ 24))

theorem test_malformed_messages : (∀ f ∈ [aMsg 0x14 7 0 0 [], spoiltReport], (memberState 0 0).forMe f = true ∧ f.bclass = 0 ∧
    msgKind f = 0xA0 ∧ msgSpoilt f = true) ∧ (memberState 0 0).marshalOn = true ∧
    reportSpoilt (aMsg 4 7 0 0 (leBytes 4 1 ++ leBytes 8 (2 ^ 32))) = false := by decide +kernel

theorem test_marshal_windows_and_answers : (memberState 1 10000000).marshal.windowAt + 10000000 ≤ (memberState 1 10000000).now ∧
    (memberState 1 10000000).marshal.reportSent + 10000000 ≤ (memberState 1 10000000).now ∧
    (memberState 1 200000).watches.map (·.1) = [7] ∧ 0 + 200000 ≤ (memberState 1 200000).now ∧
    msgStep (aMsg 9 0 1 0 []) ≠ 5 ∧ (memberState 1 0).marshal.awaiting = [] ∧ (memberState 1 0).marshal.vacant = [] ∧
    (memberState 1 0).devId ≠ 7 ∧ bits (leCode (sliceBytes (leBytes 8 9) 0 8)) 0 16 < 0x1000 := by decide +kernel

/-- A module at time `t` with `f` applied. -/
def atTime (t : Nat) (s : State) : State := { s with now := t }

theorem test_power_states : upState.aopDead = false ∧ upState.boot ≠ .off ∧ upState.inputBlocked = false ∧
    ({ upState with tripped := some true } : State).tripped = some true ∧ ({ upState with aopDead := true } : State).aopDead = true ∧
    upState.boot ≠ .rom ∧ upState.boot ≠ .held ∧ upState.resetLow = false ∧ upState.duty = 256 ∧ upState.thermHolds = false ∧
    upState.scratched = false ∧ ({ upState with boot := .held } : State).boot = .held ∧
    (objInfo Obj.coreState).map (·.persist) = some .v ∧ (objInfo Obj.inputEvents).map (·.persist) = some .s ∧
    (objInfo Obj.guardDesc).map (·.persist) = some .k ∧ identRead upState.ident Obj.coreState = none := by decide +kernel

/-- Every power stage ON but stage 12 in state `st`. -/
def stageState' (st : Nat) : State := withObjs (((List.range 12).map fun k => (Obj.stageState, k, 2)) ++ [(Obj.stageState, 12, st)]) upState

theorem test_power_stages : (stageState' 2).othersOn 12 = true ∧ (stageState' 2).powerStage 12 = 2 ∧ (stageState' 3).powerStage 12 = 3 ∧
    (stageState' 4).powerStage 12 = 4 ∧ (stageState' 0).powerStage 12 = 0 ∧ (stageState' 0).othersOn 0 = false ∧
    (stageState' 5).othersOn 12 = true ∧ (stageState' 6).powerStage 12 = 6 := by decide +kernel

theorem test_power_requests : upState.powerEntry = none ∧ upState.powerWake = [] ∧ upState.inService = true ∧ upState.power = 0 ∧
    (List.range 96).any upState.coreLive = false ∧ upState.restRefusal 2 = 0 ∧ upState.restRefusal 3 = 0 ∧
    (upState.setPower 1).power = 1 ∧ (List.range 96).any (runningState 0).coreLive = true ∧ (runningState 0).power = 0 := by decide +kernel

/-- An entry into DEEP REST past abort point `p`. -/
def entryState (p : Nat) (waiting : Bool) : State := { upState with powerEntry := some ⟨3, none, waiting, p, []⟩ }

theorem test_power_entries : (entryState 3 false).powerEntry = some ⟨3, none, false, 3, []⟩ ∧
    (entryState 4 false).powerEntry = some ⟨3, none, false, 4, []⟩ ∧ (entryState 0 true).powerEntry = some ⟨3, none, true, 0, []⟩ ∧
    ({ upState.setPower 2 with powerWake := [(1, none)] } : State).power = 2 ∧
    ({ upState.setPower 2 with powerWake := [(1, none)] } : State).powerWake = [(1, none)] := by decide +kernel

theorem test_unit_resets : upState.hasCore 95 = true ∧ upState.coreLive 95 = false ∧ (runningState 0).coreLive 0 = true ∧
    (List.range 8).any (fun k => upState.slotBound (8 * 31 + k)) = false ∧ upState.slotReserved (8 * 31 + 7) = false ∧
    upState.cvuState 15 = 0 ∧ upState.cvuClaimed 15 = false ∧ upState.cvuTaken 15 = false ∧
    (List.range 512).any (fun q => upState.qpState q != 0 && upState.fld Obj.qpTable q 2 1 == 1) = false ∧
    (List.range 64).any (fun r => upState.ringMode r == 1 && upState.fld Obj.qpTable (upState.ringQp r) 2 1 == 1) = false := by
  decide +kernel

/-- A module with one ramp. -/
def rampState (bay : Nat) (r : Ramp) (t : Nat) : State :=
  { (upState.wrFld Obj.governorState 0 32 16 4000).setRamp bay (some r) with now := t }

theorem test_governor_ramps : (rampState 3 ⟨50, none⟩ 1000).ramps = [(3, some ⟨50, none⟩)] ∧ (rampState 3 ⟨50, none⟩ 1000).rampFits 50 = true ∧
    (rampState 3 ⟨50, none⟩ 1000).govAt + 1000 ≤ 1000 ∧ (rampState 3 ⟨50, none⟩ 1000).duty = 256 ∧
    (rampState 3 ⟨50, some 0⟩ 2000000).ramps = [(3, some ⟨50, some 0⟩)] ∧ (rampState 3 ⟨50, some 0⟩ 2000000).rampOver 3 = true ∧
    (rampState 44 ⟨0, some 0⟩ 1000000).rampOver 44 = true ∧ (rampState 44 ⟨0, some 0⟩ 0).rampOver 44 = false ∧
    (rampState 44 ⟨0, some 0⟩ 1000000).sidebandAt + 1000000 ≤ 1000000 ∧ (stageState' 1).powerStage 12 = 1 := by decide +kernel

/-- R532: a hold ends 2 degrees below its own level, and the one sensor's does not keep the other's. -/
theorem test_thermal_holds : tempHolds true 9801 10000 = true ∧ tempHolds true 9800 10000 = false ∧ tempHolds false 8900 9000 = false ∧
    tempHolds false 9000 9000 = true := by decide +kernel

theorem test_power_entry_is_woken : ({ upState with powerEntry := some ⟨2, none, false, 1, [(0, none)]⟩ } : State).powerEntry
    = some ⟨2, none, false, 1, [(0, none)]⟩ := by decide +kernel

/-- R477: with DIP_FILTER 5 a fall of 4,999 ns is not counted; R523: the PEC of a block of zeros. -/
theorem test_short_dip_is_not_counted : (after (.inputDip 3000 4999 3120) upState).rd Obj.inputEvents 0 = 0 ∧
    (after (.inputDip 3000 5000 3120) upState).rd Obj.inputEvents 0 = 1 ∧ upState.rd Obj.dipFilterUs 0 = 5 ∧
    [0x31#8].foldl crc8Byte 0 = 0x97 := by decide +kernel

theorem test_start_up : (State.reset.boot = .rom) ∧ State.reset.chooseSlot = some 0 ∧ (State.reset.slotValid 0).isSome = true ∧
    ({ State.reset with fwOwn := [] } : State).chooseSlot = none ∧ (upState.slotValid upState.fwRunning).isSome = true ∧
    ({ State.reset with boot := .aop } : State).boot = .aop ∧ ({ upState with boot := .fill } : State).marshal.role = 0 ∧
    (memberState 1 0).marshal.role = 1 := by decide +kernel

theorem test_ownership : upState.fwErasing = false ∧ upState.nvErasing = false ∧ upState.commState = 0 ∧
    (withObjs [(Obj.commissionDesc, 0, 5)] upState).fld Obj.commissionDesc 0 0 512 = 5 ∧
    (withObjs [(Obj.commissionDesc, 0, 5)] upState).fld Obj.commissionDesc 0 4608 512 = 0 ∧
    ({ upState with ownerKey := 5 } : State).commState ≠ 0 ∧ ({ upState with ownerKey := 5 } : State).ownerKey ≠ 0 ∧
    (upState.wr Obj.nvState 0 1).activeBank = some 0 ∧ upState.boot ≠ .recovery ∧
    (upState.slotInfo upState.fwRunning).isSome = true := by decide +kernel

theorem test_firmware : ({ upState with fwErasing := true } : State).fwErasing = true ∧ upState.fwStandby ≠ .verified ∧
    ({ upState with fwStandby := .verified } : State).fwStandby = .verified := by decide +kernel

theorem test_cages : upState.aopDead = false ∧ upState.hostAlive = true ∧ (upState.wr Obj.hostPortState 1 2).hostPort 1 = 2 ∧
    (upState.wr Obj.hostPortState 1 2).hostAlive = true ∧ upState.hostPort 0 = 0 ∧ (upState.wr Obj.hostPortState 1 1).hostPort 1 = 1 := by
  decide +kernel

theorem test_firmware_slots : (upState.slotValid upState.standbySlot).isSome = true ∧
    (({ upState with fwOwn := [0] } : State).slotValid 1).isSome = false ∧ ({ upState with fwOwn := [0] } : State).standbySlot = 1 ∧
    ({ upState with fwOwn := [0], fwStandby := .verified } : State).fwStandby = .verified := by decide +kernel

theorem test_step_takes_the_front_command :
    step { upState with pending := [.pace 3, .nop 4] } = exec (.pace 3) { upState with pending := [.nop 4] } := rfl

theorem test_step_idles_on_an_empty_queue : step { upState with pending := [] } = .next ({ upState with pending := [] }.tick) := rfl

theorem test_reset_and_up_states_are_sound : Memory.wf State.reset.mem = true ∧ KMap.wf factoryKey State.reset.objs = true ∧
    Memory.wf launchState.mem = true ∧ KMap.wf factoryKey launchState.objs = true := by decide +kernel

theorem test_flag_can_reach_its_top : (withObjs [(Obj.flags, 1, 2 ^ 32 - 1)] (runningState 0)).flag 0 1 = 2 ^ 32 - 1 ∧
    (withObjs [(Obj.flags, 1, 2 ^ 32 - 1)] (runningState 0)).coreLive 0 = true ∧ ((runningState 0).core 0).stop = .running ∧
    ((withObjs [(Obj.flags, 1, 2 ^ 32 - 1)] (runningState 0)).addFlag 0 1 1 none).fld Obj.haltRecord 0 8 8 = 3 := by decide +kernel

/-- Core 0 with flag 1 at its top and a FLAGSET of it next. -/
def flagsetState : State := withObjs [(Obj.flags, 1, 2 ^ 32 - 1)] (runningState (cmdWord 5 0 (1 + 2 ^ 16)))

theorem test_flagset_may_come_first : (flagsetState.setFlag 0 1 (2 ^ 32 - 1)).flagsetComes 0 1 = true ∧
    ((withObjs [(Obj.flags, 1, 2 ^ 32 - 1)] (runningState 0)).setFlag 0 1 (2 ^ 32 - 1)).flagsetComes 0 1 = false ∧
    (6 : Nat) ≠ upState.devId ∧ (request 5 false false 0 0).src = 6 := by decide +kernel

/-- Core 0 running a stream that has been read to its end. -/
def endState : State := (runningState 0).setCore 0 { (runningState 0).core 0 with streamLen := 2 }

theorem test_stream_can_run_off_its_end : endState.coreCanRun 0 = true ∧ endState.coreState 0 = 1 ∧ (endState.core 0).stop = .running ∧
    (endState.core 0).streamLen ≤ endState.position 0 := by decide +kernel

theorem test_nan_infinity_and_zero_codes : (decode .fp32 0x7F800001).isNan = true ∧ (decode .fp32 0x7F800000).isNan = false ∧
    max32 0x80000000 0 = 0 ∧ max32 0x7F800001 0 = 0x7FC00000 := by decide +kernel

/-- A scratched module: the state alone says so. -/
def scratchedState : State := withObjs [(Obj.serviceState, 0, 2)] upState

theorem test_scratched_module_can_restart : scratchedState.scratched = true ∧ scratchedState.aopDead = false ∧
    scratchedState.resetLow = false ∧ scratchedState.boot = .up ∧ scratchedState.powerEntry = none ∧ scratchedState.powerWake = [] ∧
    (after .warmReset scratchedState).scratched = false ∧ (after (.nop 0) scratchedState).scratched = true ∧
    (after (.tripUv 2799 2000) scratchedState).tripped = some true := by decide +kernel

/-- A program that waits on nothing but marks itself ARRIVAL: BSET, then END. -/
def arrivalState : State := withObjs [(Obj.programStage, 0, 2 + 0x2B * 2 ^ 56 * 2 ^ 64 + 2 ^ 56 * 2 ^ 128)] upState

theorem test_arrival_program_can_be_loaded : loaderCheck (arrivalState.rd Obj.programStage 0) = none ∧
    arrivalState.slotBound 0 = false ∧ arrivalState.slotReserved 0 = false := by decide +kernel

end Sys2Proof.Tests
end

section
/-! PROOFS. What every step keeps whatever the command (O4): the identity of the module, the record of what it has sent, the
rest of the queue and, but for the tick, the time. -/

namespace Sys2Proof.Laws

open Sys2Proof.Machine

/-! ### The invariant of a command -/

/-- The state `t` has the identity, the queue and the time of `s`, and its record begins with that of `s`. -/
def KeepsRecord (s t : State) : Prop :=
  t.ident = s.ident ∧ s.out <+: t.out ∧ t.pending = s.pending ∧ t.now = s.now

theorem KeepsRecord.refl (s : State) : KeepsRecord s s := ⟨rfl, List.prefix_rfl, rfl, rfl⟩

/-- No write but that of the time breaks it: a send adds at the end of the record, and a restart leaves all four. -/
theorem KeepsRecord.closed {m : Nat} (s : State) (hnow : m.testBit 259 = false) : Closed m (KeepsRecord s) := by
  constructor
  case out =>
    rintro - t o ⟨hident, hout, hrest⟩
    exact ⟨hident, hout.trans (List.prefix_append _ _), hrest⟩
  case now => intro h; rw [hnow] at h; cases h
  case wr => exact fun _ _ _ _ _ h => h
  case drop => exact fun _ _ _ h => h
  case mem => exact fun _ _ _ _ _ h => h
  case free => exact fun _ _ h => h
  case restart => exact fun _ _ _ _ h => h
  all_goals exact fun _ _ _ h => h

/-- Every command keeps them, those that restart the module included. -/
theorem exec_keepsRecord {c : Instr} {s t : State} (h : exec c s = .next t) : KeepsRecord s t :=
  (exec_closed (KeepsRecord.closed s (by decide +kernel)) (KeepsRecord.refl s) c).of_eq h

/-! ### The tick -/

/-- The state in which a tick leaves the module, but for the time itself. -/
def tickWork (s : State) : State :=
  (foldUp State.tickRake 0 48 (foldUp State.tickCore 0 96 s.holdsEnd.rateWindowEnd.fillStep.cleInject)).drawn

theorem tick_eq (s : State) : s.tick = { tickWork s with now := (tickWork s).now + 1 } := rfl

/-- The footprint of a tick that lets no request go on: strides and rates, the ends of holds, the start-up fill, the frames
of the CLE, and the free values. It holds neither memory nor SERVICE_STATE. -/
def tickFoot : Nat := 0x80000000040000000130600000000000000000000004000000000000000000000000000a0800402180000

/-- After the ends of the holds, a tick writes in this footprint alone. -/
theorem tickWork_closed {P : State → Prop} {s : State} (hP : Closed tickFoot P) (h : P s.holdsEnd) : P (tickWork s) := by
  have hcle : P s.holdsEnd.rateWindowEnd.fillStep.cleInject :=
    State.cleInject_closed (hP.mono (by decide +kernel)) <| State.fillStep_closed (hP.mono (by decide +kernel)) <|
      State.rateWindowEnd_closed (hP.mono (by decide +kernel)) h
  have hcores := foldUp_sat (lo := 0) (n := 96) hcle fun n u hu =>
    State.tickCore_closed (s := u) (hP.mono (by decide +kernel)) hu n
  have hrakes := foldUp_sat (lo := 0) (n := 48) hcores fun n u hu =>
    State.tickRake_closed (s := u) (hP.mono (by decide +kernel)) hu n
  exact State.drawn_closed (hP.mono (by decide +kernel)) hrakes

theorem tickWork_keepsRecord (s : State) : KeepsRecord s (tickWork s) :=
  tickWork_closed (KeepsRecord.closed s (by decide +kernel))
    (State.holdsEnd_closed (KeepsRecord.closed s (by decide +kernel)) (KeepsRecord.refl s))

/-- Where no request waits, there is none to perform. -/
theorem releaseWaiting_of_none {s : State} (h : s.heldReqs = []) : s.releaseWaiting = s := by
  cases s; cases h; rfl

/-- The ends of holds touch only the footprint of a tick where no request waits for them. -/
theorem holdsEnd_agree {s : State} (h : s.heldReqs = []) : Agree tickFoot s s.holdsEnd := by
  have hclosed : Closed tickFoot (Agree tickFoot s) := Agree.closed s (by decide +kernel)
  unfold State.holdsEnd
  extract_lets ended
  split
  · exact Agree.refl _ s
  · have hends : Agree tickFoot s (ended.foldl (fun u c => u.endHold c) s) :=
      foldl_sat (Agree.refl _ s) fun u c hu => State.endHold_closed (hclosed.mono (by decide +kernel)) hu c
    rwa [releaseWaiting_of_none ((hends.heldReqs (by decide +kernel)).trans h)]

/-- A tick with no request waiting leaves all that is outside its footprint. -/
theorem tickWork_agree {s : State} (h : s.heldReqs = []) : Agree tickFoot s (tickWork s) :=
  tickWork_closed (Agree.closed s (by decide +kernel)) (holdsEnd_agree h)

/-- Whether a module is scratched is what SERVICE_STATE says. -/
theorem Agree.scratched {m : Nat} {s t : State} (h : Agree m s t) (hm : Foot.obj m Obj.serviceState = false) :
    t.scratched = s.scratched := by
  unfold State.scratched State.service
  rw [h.rd _ _ hm]

/-! ### The step -/

/-- Settles O4: a command is run on the queue without it and keeps the rest (`exec_keepsRecord`), and a tick keeps all but
the time, which it moves on by one. -/
theorem everyStepKeepsQueueIdentityAndRecord : Obligations.EveryStepKeepsQueueIdentityAndRecord := by
  unfold Obligations.EveryStepKeepsQueueIdentityAndRecord
  intro s t hstep
  unfold step at hstep
  split at hstep
  case h_1 c rest hq =>
    obtain ⟨hident, hout, hpending, hnow⟩ := exec_keepsRecord hstep
    refine ⟨hident, hout, ?_, fun hnil => by simp [hq] at hnil⟩
    rintro c' rest' hq'
    obtain ⟨rfl, rfl⟩ := List.cons.inj (hq.symm.trans hq')
    exact ⟨hpending, hnow⟩
  case h_2 hq =>
    obtain rfl : s.tick = t := Host.Outcome.next.inj hstep
    have hagree : s.heldReqs = [] → Agree tickFoot s (tickWork s) := tickWork_agree
    have hkeeps := tickWork_keepsRecord s
    rw [tick_eq]
    generalize tickWork s = u at hkeeps hagree
    obtain ⟨hident, hout, hpending, hnow⟩ := hkeeps
    refine ⟨hident, hout, fun c rest hcons => by simp [hq] at hcons, fun _ => ⟨hpending.trans hq, by simp [hnow], fun hheld => ?_⟩⟩
    exact ⟨(hagree hheld).mem (by decide +kernel), (hagree hheld).scratched (by decide +kernel)⟩

end Sys2Proof.Laws
end

section
/-! PROOFS. Every well-formed command answers a next state (O5). No meaning refuses a command, and the one fault stands at the
head of a meaning, for a unit number out of range: behind it every branch answers a next state.

Where many meanings are gone through at once, the walk is the same for each: `Completes.ite` and `split` open a branch, the
values it names on its way are forgotten, since no outcome depends on them, and `Completes.next` closes its end. -/

namespace Sys2Proof.Laws

open Sys2Proof.Machine

/-- The outcome is a next state. -/
def Completes (r : Res) : Prop := ∃ t, r = .next t

theorem Completes.next (t : State) : Completes (.next t) := ⟨t, rfl⟩

theorem Completes.ite {c : Prop} [Decidable c] {a b : Res} (ha : Completes a) (hb : Completes b) :
    Completes (if c then a else b) := ite_sat ha hb

/-- The fault of a meaning that looks at its unit number first does not arise for a unit of the module. -/
theorem Completes.inRange {n k : Nat} {f : Fault} {r : Res} (h : n < k) (hr : Completes r) :
    Completes (if k ≤ n then .fault f else r) := by
  rwa [if_neg (Nat.not_le.mpr h)]

/-! ### The shared operations that answer for a command -/

theorem issueRow_completes {op : CoreOp} {n : Nat} (h : n < 96) (s : State) : Completes (issueRow op n s) := by
  unfold issueRow
  refine .inRange h (.ite (.next _) ?_)
  extract_lets pos ord
  refine .ite (.next _) ?_
  split
  · exact .next _
  · extract_lets t named en u
    refine .ite (.next _) (.ite (.ite (.next _) (.next _)) (.ite (.next _) ?_))
    split <;> exact .next _

/-- Whatever an SU instruction comes to, a fault of the run included, its step answers a next state. -/
theorem ecmel_completes {u op : Nat} {f : SuRun → Nat → (Nat → Nat) → State → EcOut} (h : u < 32) (s : State) :
    Completes (s.ecmel u op f) := by
  unfold State.ecmel
  refine .inRange h ?_
  split
  · exact .next _
  · extract_lets w run keep
    refine .ite (.next _) (.ite (.next _) ?_)
    split <;> exact .next _

theorem onManager_completes (s : State) (f : Frame) (mtype : Nat) (act : State → State) : Completes (s.onManager f mtype act) :=
  .ite (.next _) (.ite (.next _) (.next _))

theorem onStep_completes (s : State) (f : Frame) (mtype step subject : Nat) (act : State → Bool × State) :
    Completes (s.onStep f mtype step subject act) := onManager_completes ..

theorem hostRequest_completes {q psn : Nat} {ce : Bool} {fresh again : State → State} (h : q < 512) (s : State) :
    Completes (s.hostRequest q psn ce fresh again) := by
  unfold State.hostRequest
  refine .inRange h (.ite (.next _) ?_)
  extract_lets u
  split <;> exact .next _

theorem ringGo_completes {r : Nat} {mine : Nat → Bool} {f : State → Nat → Nat → RingWait × State} (h : r < 64) (s : State) :
    Completes (s.ringGo r mine f) := by
  unfold State.ringGo
  refine .inRange h ?_
  extract_lets x
  split
  · exact .next _
  · exact .ite (.next _) (.next _)

/-! ### Commands of a shape of their own -/

theorem execQueueDispatch_completes {core engine : Nat} (hcore : core < 96) (hengine : engine = 3 ∨ engine = 5) (ecc : Ecc)
    (s : State) : Completes (execQueueDispatch core engine ecc s) := by
  unfold execQueueDispatch
  rw [if_neg (by omega)]
  refine .ite (.next _) ?_
  split
  · exact .next _
  · exact .ite (.next _) (.next _)

theorem execThermalLimit_completes {sensor unit : Nat} (hsensor : sensor < 5) (hunit : sensor = 3 → unit < 8) (reading : Nat)
    (s : State) : Completes (execThermalLimit sensor unit reading s) := by
  unfold execThermalLimit
  rw [if_neg (by omega)]
  exact .ite (.next _) (.ite (.next _) (.next _))

theorem execGmuReply_completes (f : Frame) (ecc : Ecc) (s : State) : Completes (execGmuReply f ecc s) := by
  unfold execGmuReply
  extract_lets found
  refine .ite (.next _) ?_
  cases found with
  | none => exact .next _
  | some r => exact .ite (.ite (.next _) (.next _)) (.next _)

theorem execGroupSetup_completes (ecc : Ecc) (s : State) : Completes (execGroupSetup ecc s) := by
  unfold execGroupSetup
  extract_lets
  refine .ite (.next _) ?_
  split
  · exact .next _
  · exact .ite (.next _) <| .ite (.next _) <| .ite (.next _) <| .ite (.next _) <| .ite (.next _) <| .ite (.next _) <|
      .ite (.next _) (.next _)

theorem execLostMsg_completes (f : Frame) (s : State) : Completes (execLostMsg f s) := by
  unfold execLostMsg
  split
  · exact .next _
  · exact onStep_completes ..

/-- A frame of an unsupported RoCEv2 operation is one of a queue pair only where there is such a queue pair. -/
theorem execHostFrameReceive_completes {hp : Nat} (h : hp < 2) (len udp etype : Nat) (fcsOk toIp toMac neighbour : Bool)
    (vlan : Option Nat) (bad : Option (Nat × Nat)) (s : State) :
    Completes (execHostFrameReceive hp len udp etype fcsOk toIp toMac neighbour vlan bad s) := by
  unfold execHostFrameReceive
  refine .inRange h (.ite (.next _) (.ite (.next _) (.ite (.next _) (.ite ?_ (.ite (.next _) (.ite (.next _) (.next _)))))))
  split
  · split
    · exact hostRequest_completes ‹_› _
    · exact .next _
  · exact .next _

/-! ### Commands that a write of a CMD object asks for -/

/-- The commands that a write of a CMD object asks for (R419), but for GROUP_SETUP. -/
def startedByWrite : Instr → Bool
  | .coreLaunch .. | .coreStop .. | .totalClear .. | .rakeTotalClear .. | .recalNow .. | .dimmDrain .. | .dimmPowerOff ..
    | .dimmPowerOn .. | .dimmReturn .. | .drainCancel .. | .streamReset .. | .guardActivate .. | .guardDeactivate ..
    | .portEnable .. | .portDisable .. | .retrain .. | .portSelftest .. | .elsRemove .. | .elsCancel .. | .routeCommit ..
    | .flowCreate .. | .flowDelete .. | .programLoad .. | .programClear .. | .bind .. | .unbind .. | .forceUnbind ..
    | .bitmapClear .. | .groupDestroy .. | .groupResume .. | .bpmAllocHigh .. | .bpmAllocLow .. | .bpmHandover ..
    | .bpmFree .. | .poolInit .. | .poolDisable .. | .ownerQuery .. | .cvuStart .. | .cvuFinish .. | .cvuSuspend ..
    | .cvuResume .. | .feed .. | .cvuCancel .. | .scanSubmit .. | .scanCancel .. | .qpConnect .. | .qpReset .. | .ringStart ..
    | .ringStop .. | .nvBankErase .. | .nvVerify .. | .nvActivate .. | .marshalAdmit .. | .spareReady .. | .marshalScratch ..
    | .takeManager .. | .scratchNow .. | .stageRemove .. | .stageCancel .. | .powerRun .. | .powerHold .. | .powerRest ..
    | .powerDeepRest .. | .warmReset .. | .unitResetCore .. | .unitResetSu .. | .unitResetCvu .. | .unitResetHostPort ..
    | .commission .. | .decommission .. | .keysCmd .. | .rollbackCommit .. | .svnCommit .. | .fwErase .. | .fwVerify ..
    | .fwActivate .. | .attest .. => true
  | _ => false

/-- None of them faults, whatever its operands: a number out of range changes nothing or is answered with a code. -/
theorem exec_completes_of_startedByWrite {i : Instr} (h : startedByWrite i = true) (s : State) : Completes (exec i s) := by
  unfold startedByWrite at h
  split at h
  case h_78 => cases h
  all_goals simp -zeta only [exec, execCoreLaunch, execCoreStop, execTotalClear, execRakeTotalClear, execRecalNow,
    execDimmDrain, execDimmPowerOff, execDimmPowerOn, execDimmReturn, execDrainCancel, execStreamReset, execGuardActivate,
    execGuardDeactivate, execPortEnable, execPortDisable, execRetrain, execPortSelftest, execElsRemove, execElsCancel,
    execRouteCommit, execFlowCreate, execFlowDelete, execProgramLoad, execProgramClear, execBind, execUnbind, execForceUnbind,
    execBitmapClear, execGroupDestroy, execGroupResume, execBpmAllocHigh, execBpmAllocLow, execBpmHandover, execBpmFree,
    execPoolInit, execPoolDisable, execOwnerQuery, execCvuStart, execCvuFinish, execCvuSuspend, execCvuResume, execFeed,
    execCvuCancel, execScanSubmit, execScanCancel, execQpConnect, execQpReset, execRingStart, execRingStop, execNvBankErase,
    execNvVerify, execNvActivate, execMarshalAdmit, execSpareReady, execMarshalScratch, execTakeManager, execScratchNow,
    execStageRemove, execStageCancel, execPowerRun, execPowerHold, execPowerRest, execPowerDeepRest, execWarmReset,
    execUnitResetCore, execUnitResetSu, execUnitResetCvu, execUnitResetHostPort, execCommission, execDecommission, execKeysCmd,
    execRollbackCommit, execSvnCommit, execFwErase, execFwVerify, execFwActivate, execAttest]
  all_goals repeat' with_reducible first | exact Completes.next _ | apply Completes.ite | (extract_lets; clear_value *) | split

/-- What a write of a CMD object starts, if it starts anything, completes in every state. -/
def Starts (o : Option (State → Res)) : Prop := ∀ f, o = some f → ∀ t, Completes (f t)

theorem Starts.none : Starts none := nofun

theorem Starts.ite {c : Prop} [Decidable c] {a b : Option (State → Res)} (ha : Starts a) (hb : Starts b) :
    Starts (if c then a else b) := ite_sat ha hb

theorem Starts.command (i : Instr) (h : startedByWrite i = true) : Starts (some (exec i)) := by
  rintro _ ⟨⟩ t
  exact exec_completes_of_startedByWrite h t

theorem Starts.groupSetup (e : Ecc) : Starts (some (execGroupSetup e)) := by
  rintro _ ⟨⟩ t
  exact execGroupSetup_completes e t

theorem cmdAction_starts (s : State) (c : ObjCode) (v : Nat) (e : Ecc) : Starts (s.cmdAction c v e) := by
  unfold State.cmdAction
  extract_lets lo act
  refine .ite (.ite (.command .scratchNow rfl) .none) ?_
  refine .ite (.ite (.command (.coreLaunch ..) rfl) .none) ?_
  refine .ite (.ite (.command (.coreStop ..) rfl) .none) ?_
  refine .ite (.ite (.command (.rakeTotalClear ..) rfl) .none) ?_
  refine .ite (.ite (.command (.totalClear ..) rfl) .none) ?_
  refine .ite (.ite (.command (.recalNow ..) rfl) .none) ?_
  refine .ite (.ite .none <| .ite (.command (.dimmDrain ..) rfl) <| .ite (.command (.dimmPowerOff ..) rfl) <|
    .ite (.command (.dimmPowerOn ..) rfl) <| .ite (.command (.dimmReturn ..) rfl) <|
    .ite (.command (.drainCancel ..) rfl) .none) ?_
  refine .ite (.ite (.command (.streamReset ..) rfl) .none) ?_
  refine .ite (.ite .none <| .ite (.command (.guardActivate ..) rfl) <| .ite (.command (.guardDeactivate ..) rfl) .none) ?_
  refine .ite (.ite .none <| .ite (.command (.portEnable ..) rfl) <| .ite (.command (.portDisable ..) rfl) <|
    .ite (.command (.retrain ..) rfl) <| .ite (.command (.portSelftest ..) rfl) .none) ?_
  refine .ite (.ite .none <| .ite (.command (.elsRemove ..) rfl) <| .ite (.command (.elsCancel ..) rfl) .none) ?_
  refine .ite (.ite (.command (.routeCommit ..) rfl) .none) ?_
  refine .ite (.ite (.ite (.command (.flowCreate ..) rfl) .none) <| .ite (.command (.flowDelete ..) rfl) .none) ?_
  refine .ite (.ite (.command (.programLoad ..) rfl) <| .ite (.command (.programClear ..) rfl) .none) ?_
  refine .ite (.ite (.command (.bind ..) rfl) <| .ite (.command (.unbind ..) rfl) <|
    .ite (.command (.forceUnbind ..) rfl) .none) ?_
  refine .ite (.ite (.command (.bitmapClear ..) rfl) .none) ?_
  exact .ite (.ite .none <| .ite (.ite (.groupSetup e) .none) <| .ite (.command (.groupDestroy ..) rfl) <|
    .ite (.command (.groupResume ..) rfl) .none) .none

theorem cmdActionTwo_starts (c : ObjCode) (v : Nat) (owner reachable : Bool) (fed : Nat) (e : Ecc) :
    Starts (cmdActionTwo c v owner reachable fed e) := by
  unfold cmdActionTwo
  extract_lets lo act taker buf
  refine .ite (.ite .none <| .ite (.command (.bpmAllocLow ..) rfl) <| .ite (.command (.bpmAllocHigh ..) rfl) <|
    .ite (.command (.bpmFree ..) rfl) <| .ite (.command (.bpmHandover ..) rfl) <| .ite (.command (.poolInit ..) rfl) <|
    .ite (.command (.poolDisable ..) rfl) .none) ?_
  refine .ite (.ite (.command (.ownerQuery ..) rfl) .none) ?_
  refine .ite (.ite .none <| .ite (.command (.cvuStart ..) rfl) <| .ite (.command (.cvuFinish ..) rfl) <|
    .ite (.command (.cvuSuspend ..) rfl) <| .ite (.command (.cvuResume ..) rfl) <| .ite (.command (.feed ..) rfl) <|
    .ite (.command (.cvuCancel ..) rfl) .none) ?_
  refine .ite (.ite (.command .scanSubmit rfl) <| .ite (.command (.scanCancel ..) rfl) .none) ?_
  refine .ite (.ite .none <| .ite (.command (.qpConnect ..) rfl) <| .ite (.command (.qpReset ..) rfl) .none) ?_
  refine .ite (.ite .none <| .ite (.command (.ringStart ..) rfl) <| .ite (.command (.ringStop ..) rfl) .none) ?_
  refine .ite (.ite (.command .nvBankErase rfl) <| .ite (.command .nvVerify rfl) <|
    .ite (.command .nvActivate rfl) .none) ?_
  refine .ite (.ite .none <| .ite (.command .marshalAdmit rfl) <| .ite (.command (.spareReady ..) rfl) <|
    .ite (.command (.marshalScratch ..) rfl) <| .ite (.command (.takeManager ..) rfl) .none) ?_
  refine .ite (.ite (.command .powerRun rfl) <| .ite (.command .powerHold rfl) <| .ite (.command .powerRest rfl) <|
    .ite (.command .powerDeepRest rfl) .none) ?_
  refine .ite (.ite (.command .warmReset rfl) .none) ?_
  refine .ite (.ite (.command (.unitResetCore ..) rfl) <| .ite (.command (.unitResetSu ..) rfl) <|
    .ite (.command (.unitResetCvu ..) rfl) <| .ite (.command (.unitResetHostPort ..) rfl) .none) ?_
  refine .ite (.ite .none <| .ite (.command (.stageRemove ..) rfl) <| .ite (.command (.stageCancel ..) rfl) .none) ?_
  refine .ite (.ite (.command .commission rfl) <| .ite (.command (.decommission ..) rfl) <|
    .ite (.command (.keysCmd ..) rfl) <| .ite (.command (.rollbackCommit ..) rfl) <| .ite (.command (.svnCommit ..) rfl) <|
    .ite (.command .fwErase rfl) <| .ite (.command .fwVerify rfl) <| .ite (.command .fwActivate rfl) .none) ?_
  exact .ite (.ite (.command .attest rfl) .none) .none

theorem writeCmd_starts (s : State) (o : ObjInfo) (idx off : Nat) (bs : List Byte) (owner reachable : Bool) (fed : Nat)
    (e : Ecc) : Starts (s.writeCmd o idx off bs owner reachable fed e).2 := by
  unfold State.writeCmd
  extract_lets v
  split_ifs
  · exact .none
  · exact .none
  · exact .none
  · exact .none
  · split
    next g hg =>
      rintro _ ⟨⟩
      rcases Option.or_eq_some_iff.mp hg with h | ⟨-, h⟩
      · exact cmdAction_starts _ _ _ _ g h
      · exact cmdActionTwo_starts _ _ _ _ _ _ g h
    · exact .none

/-! ### CDP messages -/

theorem cdpPerformWrite_completes (s : State) (m : CdpMsg) (key : Option Nat) (owner reachable : Bool) (fed : Nat) (e : Ecc) :
    Completes (s.cdpPerformWrite m key owner reachable fed e) := by
  unfold State.cdpPerformWrite
  extract_lets answer
  split
  · exact .next _
  · next o ho =>
    refine .ite (.next _) (.ite ?_ (.next _))
    have hstarts := writeCmd_starts s o m.index m.offset m.payload owner reachable fed e
    extract_lets r
    split
    · exact .next _
    · next f hf =>
      obtain ⟨t, ht⟩ := hstarts f hf s
      rw [ht]
      exact .next _

section

variable {perform : State → Res} (hperform : ∀ t, Completes (perform t))
include hperform

theorem cdpBySeq_completes (s : State) (m : CdpMsg) (key high : Option Nat) (cache : List (Nat × List Byte)) :
    Completes (s.cdpBySeq m key high cache perform) := by
  unfold State.cdpBySeq
  extract_lets later
  refine .ite (hperform s) ?_
  split <;> exact .next _

theorem cdpSessionless_completes (s : State) (m : CdpMsg) : Completes (s.cdpSessionless m perform) :=
  .ite (.next _) (cdpBySeq_completes (fun _ => .ite (hperform _) (.next _)) ..)

theorem cdpInSession_completes (s : State) (m : CdpMsg) (x : Session) : Completes (s.cdpInSession m x perform) := by
  unfold State.cdpInSession
  extract_lets u
  exact cdpBySeq_completes (fun _ => .ite (.next _) (hperform _)) ..

/-- A CDP message is answered by what its operation does, or without it. -/
theorem cdpRequest_completes (s : State) (m : CdpMsg) : Completes (s.cdpRequest m perform) := by
  unfold State.cdpRequest
  refine .ite (.next _) (.ite (.next _) (.ite (.next _) ?_))
  split
  · exact .ite (.next _) (.ite (.next _) (.ite (.next _) (cdpInSession_completes hperform ..)))
  · exact .ite (.next _) (.ite (hperform s) (.ite (.next _) (cdpSessionless_completes hperform ..)))

end

theorem cdpOther_completes (s : State) (op : Nat) (m : CdpMsg) : Completes (s.cdpOther op m) :=
  .ite (.next _) (cdpRequest_completes (fun _ => .next _) s m)

theorem execCdpRead_completes (m : CdpMsg) (s : State) : Completes (execCdpRead m s) :=
  .ite (cdpOther_completes ..) (cdpRequest_completes .next s m)

theorem execCdpWrite_completes (m : CdpMsg) (fed : Nat) (reachable : Bool) (e : Ecc) (s : State) :
    Completes (execCdpWrite m fed reachable e s) :=
  .ite (.next _) (cdpRequest_completes (fun _ => cdpPerformWrite_completes ..) s m)

theorem execSessionFinish_completes (m : CdpMsg) (s : State) : Completes (execSessionFinish m s) := by
  refine .ite (.next _) (cdpRequest_completes (fun t => ?_) s m)
  split
  · exact .next _
  · exact .ite (.next _) (.ite (.next _) (.next _))

/-! ### Every command -/

/-- A well-formed command answers a next state. The commands of a unit look at its number first, and the number is in range;
those of the module as a whole have no unit to look at. -/
theorem exec_completes {i : Instr} (hwf : i.wf = true) (s : State) : Completes (exec i s) := by
  cases i
  case nop | sqEnd | pace | wait | post | flagset | pset | plogic | skip | lapset | lap | drain | mark | mma | mout
      | mpart | mclr | vop | vcmp | vfunc | vred | vcvt | vwiden | vld | vst | vbmp | rake | rmask | seta | load | store
      | copy | atom | fence | signal | coll =>
    exact issueRow_completes (of_decide_eq_true hwf) s
  case ecmelNop | ecmelEnd | ecmelDrop | brz | brnz | movi | ecmelAlu | ecmelGet | ecmelHdr | ldp | padd | ohdr | oput
      | ocopy | ecmelSend | ecmelRsum | ecmelGath | ecmelFilt | ecmelMerge | btest | bset | gfmac | ozero =>
    simp -zeta only [exec, execEcmelNop, execEcmelEnd, execEcmelDrop, execBrz, execBrnz, execMovi, execEcmelAlu,
      execEcmelGet, execEcmelHdr, execLdp, execPadd, execOhdr, execOput, execOcopy, execEcmelSend, execEcmelRsum,
      execEcmelGath, execEcmelFilt, execEcmelMerge, execBtest, execBset, execGfmac, execOzero]
    exact ecmel_completes (of_decide_eq_true hwf) s
  case coreLaunch | coreStop | totalClear | rakeTotalClear | recalNow | dimmDrain | dimmPowerOff | dimmPowerOn
      | dimmReturn | drainCancel | streamReset | guardActivate | guardDeactivate | portEnable | portDisable | retrain
      | portSelftest | elsRemove | elsCancel | routeCommit | flowCreate | flowDelete | programLoad | programClear | bind
      | unbind | forceUnbind | bitmapClear | groupDestroy | groupResume | bpmAllocHigh | bpmAllocLow | bpmHandover | bpmFree
      | poolInit | poolDisable | ownerQuery | cvuStart | cvuFinish | cvuSuspend | cvuResume | feed | cvuCancel | scanSubmit
      | scanCancel | qpConnect | qpReset | ringStart | ringStop | nvBankErase | nvVerify | nvActivate | marshalAdmit
      | spareReady | marshalScratch | takeManager | scratchNow | stageRemove | stageCancel | powerRun | powerHold | powerRest
      | powerDeepRest | warmReset | unitResetCore | unitResetSu | unitResetCvu | unitResetHostPort | commission | decommission
      | keysCmd | rollbackCommit | svnCommit | fwErase | fwVerify | fwActivate | attest =>
    exact exec_completes_of_startedByWrite rfl s
  case pacedDispatch | pacedResult | waitLimit | coreComplete | icacheFill | rkeServiceStart | rkeResult | ondieCePoll
      | dimmLatchClose | dimmTrained | dimmLatchOpen | linkBlockReceive | linkReplayTimeout | portLos | fecRate | loopMeasure
      | trainingStart | trainingRetry | portUp | cipherKeyAgreed | selftestLoopbackDone | oeSelftest | elsOutputLoss
      | elsPartnerFull | elsRampDone | elsInsert | elsStartDone | elsLatchOpen | frameLookup | mcLookup | frameDeparture
      | fwdAgeExpiry | flowEnqueue | tmgPick | suRunStart | guardRun | chunkSend | resultAssemble | chunkTimeout
      | resultTimeout | poolInitDone | feedDone | cnp | rateRaise | ackTimeout | ringPoll | ringCompletion | fwdInbound
      | helloMsg | loopLost | stageSafe | stageInsert | stageFail | lightReturns | trainingCheckExpiry | stageLatchOpen
      | osfpInsert | osfpRemove | hostPortUp | hostPortDown | acknowledgement =>
    simp only [Instr.wf, Bool.and_eq_true, decide_eq_true_eq] at hwf
    simp -zeta only [exec, execPacedDispatch, execPacedResult, execWaitLimit, execCoreComplete, execIcacheFill,
      execRkeServiceStart, execRkeResult, execOndieCePoll, execDimmLatchClose, execDimmTrained, execDimmLatchOpen,
      execLinkBlockReceive, execLinkReplayTimeout, execPortLos, execFecRate, execLoopMeasure, execTrainingStart,
      execTrainingRetry, execPortUp, execCipherKeyAgreed, execSelftestLoopbackDone, execOeSelftest, execElsOutputLoss,
      execElsPartnerFull, execElsRampDone, execElsInsert, execElsStartDone, execElsLatchOpen, execFrameLookup, execMcLookup,
      execFrameDeparture, execFwdAgeExpiry, execFlowEnqueue, execTmgPick, execSuRunStart, execGuardRun, execChunkSend,
      execResultAssemble, execChunkTimeout, execResultTimeout, execPoolInitDone, execFeedDone, execCnp, execRateRaise,
      execAckTimeout, execRingPoll, execRingCompletion, execFwdInbound, execHelloMsg, execLoopLost, execStageSafe,
      execStageInsert, execStageFail, execLightReturns, execTrainingCheckExpiry, execStageLatchOpen, execOsfpInsert,
      execOsfpRemove, execHostPortUp, execHostPortDown, execAcknowledgement]
    refine .inRange (by omega) ?_
    repeat' with_reducible first | exact Completes.next _ | apply Completes.ite | (extract_lets; clear_value *) | split
  case strideWindowEnd | patrolRead | recalStart | recalEnd | recalForced | drainBlockCopied | replayAfterExpiry
      | abandonAfterExpiry | tagQuarantineEnd | reqRead | reqWrite | reqAtomic | reqFence | reqSignal | reqPdelta | reqPclose
      | guardParityReplied | guardQuiet | stripeDemandRebuild | cellMatch | suFrameDeliver | contribFrame | resultFrame
      | directFrame | grantFrame | retryFrame | doneFrame | abortFrame | bpmReserve | scanJobStart | scanJobEnd | startupFill
      | fwdOutbound | mirrorOut | cdpIdleExpiry | sessionFinishTimeout | nvBankEraseDone | heartbeatSend | heartbeatMsg
      | heartbeatMiss | probeRelayTimeout | probeFailTimeout | probeMsg | probeAckMsg | reportSend | reportMsg
      | scoreWindowEnd | stepAckMsg | stepTimeout | rebuiltMsg | helloSend | assignMsg | guardSyncMsg | restAnswerMsg
      | restQueryRetry | guardStripeRebuild | inputDip | ovWarn | tripUv | tripOv | tripRestart | powerOn | aopFloor
      | reverseBlock | reverseConduct | governorUpdate | restAbortPoint | restEntered | deepRestPermit | wakeDone
      | resetNAssert | resetNRelease | boot | extendMr | smbusBlockRead | sidebandUpdate | registerWrite | fwEraseDone
      | internalFault | inletHigh =>
    simp -zeta only [exec, execStrideWindowEnd, execPatrolRead, execRecalStart, execRecalEnd, execRecalForced,
      execDrainBlockCopied, execReplayAfterExpiry, execAbandonAfterExpiry, execTagQuarantineEnd, execReqRead, execReqWrite,
      execReqAtomic, execReqFence, execReqSignal, execReqPdelta, execReqPclose, execGuardParityReplied, execGuardQuiet,
      execStripeDemandRebuild, execCellMatch, execSuFrameDeliver, execContribFrame, execResultFrame, execDirectFrame,
      execGrantFrame, execRetryFrame, execDoneFrame, execAbortFrame, execBpmReserve, execScanJobStart, execScanJobEnd,
      execStartupFill, execFwdOutbound, execMirrorOut, execCdpIdleExpiry, execSessionFinishTimeout, execNvBankEraseDone,
      execHeartbeatSend, execHeartbeatMsg, execHeartbeatMiss, execProbeRelayTimeout, execProbeFailTimeout, execProbeMsg,
      execProbeAckMsg, execReportSend, execReportMsg, execScoreWindowEnd, execStepAckMsg, execStepTimeout, execRebuiltMsg,
      execHelloSend, execAssignMsg, execGuardSyncMsg, execRestAnswerMsg, execRestQueryRetry, execGuardStripeRebuild,
      execInputDip, execOvWarn, execTripUv, execTripOv, execTripRestart, execPowerOn, execAopFloor, execReverseBlock,
      execReverseConduct, execGovernorUpdate, execRestAbortPoint, execRestEntered, execDeepRestPermit, execWakeDone,
      execResetNAssert, execResetNRelease, execBoot, execExtendMr, execSmbusBlockRead, execSidebandUpdate, execRegisterWrite,
      execFwEraseDone, execInternalFault, execInletHigh]
    repeat' with_reducible first | exact Completes.next _ | apply Completes.ite | (extract_lets; clear_value *) | split
  case suspectMsg | clearedMsg | managerChangeMsg | restQueryMsg =>
    simp -zeta only [exec, execSuspectMsg, execClearedMsg, execManagerChangeMsg, execRestQueryMsg]
    exact onManager_completes ..
  case marshalFenceMsg | relayMsg | rerouteMsg | relayedMsg =>
    simp -zeta only [exec, execMarshalFenceMsg, execRelayMsg, execRerouteMsg, execRelayedMsg]
    exact onStep_completes ..
  case ringNop | ringLaunch | ringColl | ringPower | ringPoolFree =>
    simp -zeta only [exec, execRingNop, execRingLaunch, execRingColl, execRingPower, execRingPoolFree]
    exact ringGo_completes (of_decide_eq_true hwf) s
  case rdmaWrite | rdmaRead | rdmaSend | rdmaAtomic =>
    simp only [Instr.wf, Bool.and_eq_true, decide_eq_true_eq] at hwf
    simp -zeta only [exec, execRdmaWrite, execRdmaRead, execRdmaSend, execRdmaAtomic]
    extract_lets
    exact hostRequest_completes (by omega) s
  case describe | cdpNext | nvWrite | nvErase | sessionOpen | sessionClose | imageWrite => exact cdpOther_completes ..
  case cdpRead => exact execCdpRead_completes ..
  case cdpWrite => exact execCdpWrite_completes ..
  case sessionFinish => exact execSessionFinish_completes ..
  case gmuReply => exact execGmuReply_completes ..
  case groupSetup => exact execGroupSetup_completes ..
  case lostMsg => exact execLostMsg_completes ..
  case queueDispatch =>
    simp only [Instr.wf, Bool.and_eq_true, Bool.or_eq_true, decide_eq_true_eq, beq_iff_eq] at hwf
    obtain ⟨hcore, hengine⟩ := hwf
    exact execQueueDispatch_completes hcore hengine ..
  case thermalLimit =>
    simp only [Instr.wf, Bool.and_eq_true, Bool.or_eq_true, decide_eq_true_eq, bne_iff_ne] at hwf
    exact execThermalLimit_completes (by omega) (by omega) ..
  case hostFrameReceive =>
    simp only [Instr.wf, Bool.and_eq_true, decide_eq_true_eq] at hwf
    exact execHostFrameReceive_completes (by omega) ..

/-- Settles O5: `exec_completes`. -/
theorem everyWellFormedCommandCompletes : Obligations.EveryWellFormedCommandCompletes :=
  fun _ s hwf => exec_completes hwf s

end Sys2Proof.Laws
end

section
/-! PROOFS. What a scratched module does not do: the tests that stand at the head of its units' operations (R38, R40). -/

namespace Sys2Proof.Laws

set_option Elab.async false

open Sys2Proof.Machine

section

variable {s : State} (hs : s.scratched = true)
include hs

theorem coreCanRun_of_scratched (n : Nat) : s.coreCanRun n = false := by simp [State.coreCanRun, hs]

theorem gmuOn_of_scratched : s.gmuOn = false := by simp [State.gmuOn, hs]

theorem inRun_of_scratched : s.inRun = false := by simp [State.inRun, hs]

theorem patrolRuns_of_scratched (region off : Nat) : s.patrolRuns region off = false := by simp [State.patrolRuns, hs]

theorem marshalOn_of_scratched : s.marshalOn = false := by simp [State.marshalOn, hs]

theorem message_of_scratched (f : Frame) (mtype : Nat) : s.message f mtype = false := by
  simp [State.message, marshalOn_of_scratched hs]

theorem passMessage_of_scratched (f : Frame) : s.passMessage f = s := by
  simp [State.passMessage, marshalOn_of_scratched hs]

theorem tracks_of_scratched (d : Nat) : s.tracks d = false := by simp [State.tracks, marshalOn_of_scratched hs]

theorem launchCode_of_scratched (core off : Nat) : s.launchCode core off = 4 := by
  simp [State.launchCode, inRun_of_scratched hs]

/-- No request is performed that waited (R38): those that did are gone. -/
theorem releaseWaiting_of_scratched : s.releaseWaiting = { s with heldReqs := [] } := by
  unfold State.releaseWaiting
  cases s.heldReqs with
  | nil => rfl
  | cons p rest => exact if_pos hs

/-- A request for a power state is answered, and nothing else changes (R492). -/
theorem powerRequest_of_scratched (he : s.powerEntry = none) (hw : s.powerWake = []) (target : Nat) (ring : Option Nat) :
    ∃ code, s.powerRequest target ring = s.powerEnd ring code 0 := by
  unfold State.powerRequest
  simp only [he, hw, hs, true_or, if_true]
  split
  · exact ⟨0, rfl⟩
  · exact ⟨1, rfl⟩

/-! Commands that begin with such a test change nothing. -/

theorem issueRow_of_scratched {n : Nat} (hn : n < 96) (op : CoreOp) : issueRow op n s = .next s := by
  unfold issueRow
  rw [if_neg (by omega), coreCanRun_of_scratched hs]
  rfl

theorem onManager_of_scratched (f : Frame) (mtype : Nat) (act : State → State) : s.onManager f mtype act = .next s := by
  simp [State.onManager, message_of_scratched hs, passMessage_of_scratched hs]

theorem onStep_of_scratched (f : Frame) (mtype step subject : Nat) (act : State → Bool × State) :
    s.onStep f mtype step subject act = .next s := onManager_of_scratched hs ..

end

end Sys2Proof.Laws
end

section
/-! PROOFS. Whatever its units do, a scratched module stays scratched: the operations that scratch a module leave SERVICE_STATE
at 2 where it stood at 2, those that write an object of a number they are given never write SERVICE_STATE, which is read-only and
volatile, and all others are outside its footprint. -/

namespace Sys2Proof.Laws

set_option Elab.async false

open Sys2Proof.Machine

/-- Scratched, with no entry or wake of a power state in progress. -/
def StillScratched (t : State) : Prop := t.scratched = true ∧ t.powerEntry = none ∧ t.powerWake = []

/-- All that a command can write, but for SERVICE_STATE (object 10), a restart, and the entries and wakes of power states. -/
def outsideScratch : Nat := (2 ^ 349 - 1) ^^^ (2 ^ 10 + 2 ^ 260 + 2 ^ 307 + 2 ^ 308)

theorem Foot.tag_eq_serviceState {c : ObjCode} (h : Foot.tag c = 10) : c = Obj.serviceState := by
  have hi : objTable.findIdx (fun o => o.code == c) = 10 := by
    unfold Foot.tag at h
    omega
  have hlt : objTable.findIdx (fun o => o.code == c) < objTable.length := by
    rw [hi]
    decide +kernel
  have hc := List.findIdx_getElem (w := hlt)
  simp only [hi, beq_iff_eq] at hc
  exact hc.symm

theorem Foot.tag_lt (c : ObjCode) : Foot.tag c < 256 := by
  unfold Foot.tag
  omega

theorem Foot.obj_outsideScratch {c : ObjCode} (h : c ≠ Obj.serviceState) : Foot.obj outsideScratch c = true := by
  have hall : ∀ n < 256, n ≠ 10 → outsideScratch.testBit n = true := by decide +kernel
  exact hall _ (Foot.tag_lt c) fun h10 => h (Foot.tag_eq_serviceState h10)

theorem Foot.obj_outsideScratch_iff {c : ObjCode} : Foot.obj outsideScratch c = true ↔ c ≠ Obj.serviceState := by
  refine ⟨?_, Foot.obj_outsideScratch⟩
  rintro h rfl
  revert h
  decide +kernel

theorem StillScratched.of_rd {s t : State} (h : StillScratched s) (hr : t.rd Obj.serviceState 0 = s.rd Obj.serviceState 0)
    (he : t.powerEntry = s.powerEntry) (hw : t.powerWake = s.powerWake) : StillScratched t := by
  unfold StillScratched State.scratched State.service
  rw [hr, he, hw]
  exact h

theorem StillScratched.closed : Closed outsideScratch StillScratched := by
  constructor
  case wr => exact fun s c i v hc h => h.of_rd (State.rd_wr_obj s _ _ _ (Foot.obj_outsideScratch_iff.mp hc).symm) rfl rfl
  case drop =>
    intro s g hg h
    refine h.of_rd (rd_filter _ _ _ _ fun p hp => hg p ?_) rfl rfl
    rw [hp]
    decide +kernel
  case mem => exact fun _ _ _ _ _ h => h
  case free | now => exact fun _ _ h => h
  case restart => exact fun hm => absurd hm (by decide +kernel)
  case powerEntry => exact fun hm => absurd hm (by decide +kernel)
  case powerWake => exact fun hm => absurd hm (by decide +kernel)
  all_goals exact fun _ _ _ h => h

/-- A footprint that leaves out SERVICE_STATE, restarts, entries and wakes keeps a scratched module scratched. -/
theorem stays {m : Nat} (h : m &&& outsideScratch = m) : Closed m StillScratched := StillScratched.closed.mono h

end Sys2Proof.Laws
end

section
/-! PROOFS. Scratched modules stay scratched: the operations of the memory, of outstanding requests and of the link. -/

namespace Sys2Proof.Laws

set_option Elab.async false

open Sys2Proof.Machine

namespace StillScratched

variable {s : State} (h : StillScratched s)
include h

/-! ### Scratches, and the uncorrectable errors that cause them -/

/-- A further scratch only records its cause (R38). -/
theorem scratch_eq (cause : Nat) : s.scratch cause = s.scratchRecord cause := if_pos h.1

theorem scratch (cause : Nat) : StillScratched (s.scratch cause) := by
  rw [h.scratch_eq]
  obtain ⟨hs, he, hw⟩ := h
  unfold State.scratchRecord
  extract_lets first t u
  have hu : u.powerEntry = none ∧ u.powerWake = [] := by
    unfold u
    split <;> exact ⟨he, hw⟩
  exact ⟨by simp [State.scratched, State.service, State.rd_wr_same u Obj.serviceState 0 2 rfl], hu⟩

theorem wr {c : ObjCode} (hc : c ≠ Obj.serviceState) (i v : Nat) : StillScratched (s.wr c i v) :=
  closed.wr _ _ _ _ (Foot.obj_outsideScratch hc) h

theorem wrFld {c : ObjCode} (hc : c ≠ Obj.serviceState) (i lo w v : Nat) : StillScratched (s.wrFld c i lo w v) := h.wr hc ..

theorem inc {c : ObjCode} (hc : c ≠ Obj.serviceState) (i lo w n : Nat) : StillScratched (s.inc c i lo w n) :=
  State.inc_closed closed (by decide +kernel) (Foot.obj_outsideScratch hc) h ..

theorem memUe (kind inst : Nat) (patrol : Bool) (off : Nat) : StillScratched (s.memUe kind inst patrol off) := by
  have hrecord {t : State} (ht : StillScratched t) (v : Nat) : StillScratched (t.wr Obj.memUeRecord 0 v) := ht.wr (by decide) ..
  have hextra : StillScratched (s.inc Obj.memUeExtra 0 0 32 1) := h.inc (by decide) ..
  unfold State.memUe
  extract_lets
  exact scratch (ite_sat (hrecord h _) (ite_sat (hrecord hextra _) hextra)) _

theorem uncorrectable (patrol : Bool) (q : Nat × Nat) : StillScratched (s.uncorrectable patrol q) :=
  ite_sat (h.scratch _) (h.memUe ..)

theorem eccWord (patrol : Bool) (q : Nat × Nat) (extent : Nat) : Sat2 StillScratched (s.eccWord patrol q extent) := by
  have hdrawn : StillScratched s.drawn := h
  have hcounted {t : State} (ht : StillScratched t) (a b : Nat) : StillScratched (t.countCorrected a b) :=
    State.countCorrected_closed (stays (by decide +kernel)) ht a b
  unfold State.eccWord
  extract_lets m other
  have hother : StillScratched (other s) := h
  exact ite_sat (.pair h) <| ite_sat (.pair (hcounted h _ _)) <| ite_sat (.pair (h.uncorrectable ..)) <|
    ite_sat (.pair (hdrawn.uncorrectable ..)) <| ite_sat (.pair (hcounted hother _ _)) (.pair hother)

omit h in
theorem eccWords (patrol : Bool) (ws : List ((Nat × Nat) × Nat)) :
    ∀ {s : State}, StillScratched s → Sat2 StillScratched (Machine.eccWords patrol ws s) := by
  induction ws with
  | nil => exact fun h => .pair h
  | cons w ws ih => exact fun h => .pair (ih (h.eccWord ..).snd).snd

theorem eccRead (e : Ecc) (region off n : Nat) : Sat2 StillScratched (s.eccRead e region off n) := eccWords _ _ h

omit h in
theorem eccRanges (rs : List (Nat × Nat × Nat)) :
    ∀ {s : State} (e : Ecc), StillScratched s → Sat2 StillScratched (Machine.eccRanges rs e s) := by
  induction rs with
  | nil => exact fun _ h => .pair h
  | cons r rs ih => exact fun _ h => .pair (ih _ (h.eccRead ..).snd).snd

theorem mergeRead (e : Ecc) (region off len : Nat) : Sat2 StillScratched (s.mergeRead e region off len) := h.eccRead ..

theorem tmStore (n off : Nat) (bs : List Byte) (e : Ecc) : StillScratched (s.tmStore n off bs e) := by
  have hread := h.mergeRead e 2 (tmOff n off) bs.length
  unfold State.tmStore
  split
  next hq => exact hread.of_eq hq
  next t hq =>
    have htouched := State.touch_closed (stays (by decide +kernel)) (hread.of_eq hq) n (.tm off bs.length)
      (ones (8 * bs.length)) none
    exact htouched

/-! ### Outstanding requests -/

theorem endCmd (n ord : Nat) (ok : Bool) : StillScratched (s.endCmd n ord ok) :=
  State.endCmd_closed (stays (by decide +kernel)) h ..

theorem gmuError (n ord : Nat) (r : GReq) (status : Nat) : StillScratched (s.gmuError n ord r status) :=
  State.gmuError_closed (stays (by decide +kernel)) h ..

theorem endReq (r : GReq) (status : Nat) (data : List Byte) (e : Ecc) : StillScratched (s.endReq r status data e) := by
  unfold State.endReq
  split
  case h_1 n ord =>
    refine ite_sat ?_ ((h.gmuError ..).endCmd ..)
    extract_lets t
    have ht : StillScratched t := ite_sat (h.tmStore ..) (ite_sat (h.tmStore ..) h)
    exact ite_sat ht (ht.endCmd ..)
  case h_2 n ord target =>
    have hwaits (rs : List GReq) : StillScratched { s with waiting := rs } := h
    exact ite_sat ((hwaits _).endCmd ..) (((h.gmuError ..).endCmd ..).endCmd ..)
  case h_4 => exact State.freeSrc_closed (stays (by decide +kernel)) h _
  case h_5 => exact State.quietTold_closed (stays (by decide +kernel)) h
  case h_8 => exact State.hostReqEnd_closed (stays (by decide +kernel)) h ..
  all_goals exact h

theorem endLost (r : GReq) : StillScratched (s.endLost r) :=
  (h.inc (by decide) ..).endReq ..

theorem launchReq (r : GReq) (sync : Bool) : StillScratched (s.launchReq r sync) :=
  State.launchReq_closed (stays (by decide +kernel)) h ..

theorem trySend (r : GReq) : SatTry StillScratched (s.trySend r) := by
  unfold State.trySend
  split
  · exact .stays
  refine ite_sat .stays ?_
  extract_lets r opened
  split
  · exact .sent (State.sendReset_closed (stays (by decide +kernel)) h ..)
  refine ite_sat (.sent (h.launchReq ..)) ?_
  have hopened : ∀ x, opened = some x → StillScratched x.2.2 := by
    intro x hx
    unfold opened at hx
    split at hx
    · cases hx
      exact h
    · obtain ⟨p, hp, rfl⟩ := Option.map_eq_some_iff.mp hx
      exact (State.openSrc_closed (stays (by decide +kernel)) h r.dest r.stream).of_eq hp
  clear_value opened
  obtain _ | ⟨e, fresh, t⟩ := opened
  · exact .ended (h.endReq ..)
  · have ht := hopened _ rfl
    refine ite_sat (.ended (ht.endLost _)) ?_
    extract_lets src u seq r' v
    have hu : StillScratched u := by
      unfold u
      split <;> exact ht
    have hv : StillScratched v := hu.wrFld (by decide) ..
    exact ite_sat .stays (.sent (hv.launchReq ..))

omit h in
theorem pumpGo (rs : List GReq) : ∀ {s : State} (stuck : List Nat) (kept : List GReq), StillScratched s →
    StillScratched (Machine.pumpGo rs stuck kept s) := by
  induction rs with
  | nil => exact fun _ _ h => h
  | cons r rs ih =>
    intro s stuck kept h
    have ht := h.trySend r
    rw [Machine.pumpGo]
    refine ite_sat (ih _ _ h) (ite_sat (ih _ _ h) (ih _ _ ?_))
    unfold SendTry.state
    split
    next hq => exact ht.eq_sent hq
    next hq => exact ht.eq_ended hq
    next => exact h

theorem pump : StillScratched s.pump := pumpGo _ _ _ (pumpGo _ _ _ h)

end StillScratched

end Sys2Proof.Laws
end

section
/-! PROOFS. Scratched modules stay scratched: streams, links, lasers, Guard groups, and what a manager and a member do for the
ranks that an epoch finds lost. -/

namespace Sys2Proof.Laws

set_option Elab.async false

open Sys2Proof.Machine

namespace StillScratched

variable {s : State} (h : StillScratched s)
include h

/-! ### Streams and links -/

theorem breakStream (e : Nat) : StillScratched (s.breakStream e) := by
  unfold State.breakStream
  extract_lets rs t
  have ht : StillScratched t := h.wrFld (c := Obj.srcStreams) (by decide) e 0 2 3
  exact foldl_sat ht fun _ r hu => hu.endLost r

theorem cutStream (e : Nat) (wasHeld : Bool) : StillScratched (s.cutStream e wasHeld) := by
  unfold State.cutStream
  extract_lets cuts t u
  have ht : StillScratched t := wrFld (h.wrFld (by decide) ..) (by decide) ..
  have hu : StillScratched u := State.streamEvent_closed (stays (by decide +kernel)) ht 0
  exact ite_sat (hu.breakStream e) (State.replayStream_closed (stays (by decide +kernel)) hu e)

theorem cutVia (p : Nat) : StillScratched (s.cutVia p) := pump (foldl_sat h fun _ e hu => hu.cutStream e false)

theorem report (kind peer n : Nat) : StillScratched (s.report kind peer n) :=
  State.report_closed (stays (by decide +kernel)) h ..

theorem setPortState (p st : Nat) : StillScratched (s.setPortState p st) :=
  State.setPortState_closed (stays (by decide +kernel)) h ..

theorem setPort (p : Nat) (x : PortSt) : StillScratched (s.setPort p x) := h

theorem leaveUp (p cause next : Nat) : StillScratched (s.leaveUp p cause next) := by
  unfold State.leaveUp
  refine ite_sat h ?_
  extract_lets peer t u downs damped x v w z
  have ht : StillScratched t := State.portEnds_closed (stays (by decide +kernel)) h ..
  have hu : StillScratched u := ite_sat (ht.report ..) ht
  have hv : StillScratched v := ht.setPort ..
  have hw : StillScratched w := ite_sat (report (hv.report ..) ..) hv
  have hz : StillScratched z := ite_sat (hw.wrFld (by decide) ..) hw
  exact ite_sat ((hu.setPortState ..).cutVia p) ((hz.setPortState ..).cutVia p)

theorem startReplay (p first : Nat) : StillScratched (s.startReplay p first) := by
  unfold State.startReplay
  extract_lets x row t again u v
  have ht : StillScratched t := State.portError_closed (stays (by decide +kernel)) h ..
  refine ite_sat (ht.leaveUp ..) ?_
  have hgroup {w : State} (hw : StillScratched w) : StillScratched (w.closeGroup p) :=
    State.closeGroup_closed (stays (by decide +kernel)) hw p
  exact hgroup (foldl_sat (hgroup ht) fun _ b hw => State.sendCell_closed (stays (by decide +kernel)) hw ..)

theorem oeFails (oe check port : Nat) : StillScratched (s.oeFails oe check port) := scratch (h.wr (by decide) ..) _

theorem oeChecked (oe check : Nat) : StillScratched (s.oeChecked oe check) :=
  oeFails (foldUp_sat h fun _ _ hu => hu.leaveUp ..) ..

theorem setEls (e st : Nat) : StillScratched (s.setEls e st) := State.setEls_closed (stays (by decide +kernel)) h ..

theorem elsLoses (e : Nat) : StillScratched (s.elsLoses e) := by
  unfold State.elsLoses
  extract_lets q t u
  have ht : StillScratched t := h.setEls ..
  have hlost {v : State} (hv : StillScratched v) (es : List Nat) : StillScratched { v with elsLost := es } := hv
  have hu : StillScratched u := ite_sat ((hlost ht (t.elsLost.erase q)).setEls ..) ht
  exact ite_sat (State.rampEnds_closed (stays (by decide +kernel)) (h.setEls ..) _) <| ite_sat h <|
    ite_sat (ite_sat (setEls (h.setEls ..) ..) (hlost h _)) (hu.oeChecked ..)

/-! ### Guard groups -/

theorem releaseWaiting : StillScratched s.releaseWaiting := by
  rw [releaseWaiting_of_scratched h.1]
  exact h

theorem setGuard (i : Nat) (g : GuardSt) : StillScratched (s.setGuard i g) := h

theorem guardVoid (i : Nat) : StillScratched (s.guardVoid i) := by
  unfold State.guardVoid
  extract_lets t u
  have ht : StillScratched t := h.wr (by decide) ..
  have hu : StillScratched u := foldl_sat ht fun v p hv => by
    split
    · exact ite_sat (State.finishOrdered_closed (stays (by decide +kernel)) hv ..) hv
    · exact hv
  exact releaseWaiting (State.guardRelease_closed (stays (by decide +kernel)) hu)

theorem enqueue (rs : List GReq) : StillScratched (s.enqueue rs) := h

theorem guardLose (i j : Nat) : StillScratched (s.guardLose i j) := by
  unfold State.guardLose
  extract_lets g st k lost t fences
  have ht : StillScratched t := wr (h.setGuard ..) (by decide) ..
  exact ite_sat h (ite_sat (h.guardVoid i) (ite_sat ht (ht.enqueue _).pump))

theorem rollForward (i : Nat) : StillScratched (s.rollForward i) := by
  unfold State.rollForward
  extract_lets k self t lost other entries c req fence
  have ht : StillScratched t := State.takeOpen_closed (stays (by decide +kernel)) h i
  exact ite_sat h (ite_sat ht (ite_sat ht (ht.enqueue _).pump))

/-! ### The epochs of the Marshal -/

theorem setMarshal (m : MarshalSt) : StillScratched (s.setMarshal m) := State.setMarshal_closed (stays (by decide +kernel)) h m

theorem setMem (d st : Nat) : StillScratched (s.setMem d st) := State.setMem_closed (stays (by decide +kernel)) h ..

theorem freeDev (d : Nat) : StillScratched (s.freeDev d) :=
  pump (foldl_sat (h.setMarshal _) fun _ _ hu => ite_sat (cutStream (hu.wrFld (by decide) ..) ..) hu)

theorem fencePort (d p : Nat) : StillScratched (s.fencePort d p) := by
  unfold State.fencePort
  extract_lets st t
  have ht : StillScratched t := h.leaveUp ..
  exact ite_sat h (ite_sat (ht.setPort ..) (ite_sat (setPortState (h.setPort ..) ..) h))

theorem fenceDev (d : Nat) : StillScratched (s.fenceDev d) := foldUp_sat h fun p _ hu => hu.fencePort d p

theorem groupLoses (ids : List Nat) (ended : Bool) (i : Nat) : StillScratched (s.groupLoses ids ended i) := by
  unfold State.groupLoses
  extract_lets js rebuilt src t
  have ht : StillScratched t := ite_sat (setGuard (h.wr (by decide) ..) ..) h
  exact foldl_sat ht fun _ j hu => hu.guardLose i j

theorem doLost (ids : List Nat) : StillScratched (s.doLost ids) := by
  unfold State.doLost
  refine ite_sat (h.scratch _) ?_
  extract_lets ended src t u v
  have ht : StillScratched t := h.setMarshal _
  have hu : StillScratched u := foldl_sat ht fun w d hw =>
    State.collLost_closed (stays (by decide +kernel)) (State.holdDev_closed (stays (by decide +kernel)) hw d) d
  have hv : StillScratched v := ite_sat (foldl_sat hu fun _ d hw => hw.setMem d _) hu
  exact foldUp_sat hv fun i _ hw => hw.groupLoses ids ended i

theorem doRelayed (ids : List Nat) : StillScratched (s.doRelayed ids) := by
  unfold State.doRelayed
  extract_lets t group u
  have ht : StillScratched t := foldl_sat h fun _ d hw => hw.freeDev d
  have hu : StillScratched u := foldUp_sat ht fun i w hw =>
    ite_sat hw (ite_sat (releaseWaiting (rollForward (setGuard (hw.wr (by decide) ..) ..) i)) (hw.setGuard ..))
  exact ite_sat hu (wrFld (hu.setMarshal _) (by decide) ..)

theorem tell (d mtype subject step : Nat) (bs : List Byte) : StillScratched (s.tell d mtype subject step bs) :=
  State.tell_closed (stays (by decide +kernel)) h ..

theorem tellAll (mtype subject step : Nat) (bs : List Byte) : StillScratched (s.tellAll mtype subject step bs) :=
  State.tellAll_closed (stays (by decide +kernel)) h ..

theorem marshalLog (kind a b : Nat) : StillScratched (s.marshalLog kind a b) :=
  State.marshalLog_closed (stays (by decide +kernel)) h ..

theorem spareNote : StillScratched s.spareNote := State.spareNote_closed (stays (by decide +kernel)) h

theorem stepBegin (k : Nat) : StillScratched (s.stepBegin k) := by
  unfold State.stepBegin
  extract_lets t src u lost all ds asked v w src₂ src₄ ps x src₅ y ids z new
  have ht : StillScratched t := h.wrFld (by decide) ..
  have hu : StillScratched u := ht.setMarshal _
  have hall {x : State} (hx : StillScratched x) : StillScratched (all x) := hx.setMarshal _
  split
  · exact hall (doLost (hu.tellAll ..) _)
  · have hv : StillScratched v := foldl_sat hu fun _ d hx => hx.fenceDev d
    have hw : StillScratched w := foldl_sat hv fun _ d hx => hx.tell ..
    exact hw.setMarshal _
  · exact foldl_sat hu fun _ d hx => State.selectRank_closed (stays (by decide +kernel)) hx d
  · exact hu.setMarshal _
  · have hx : StillScratched x := foldl_sat hu fun _ p hx => State.sendRelay_closed (stays (by decide +kernel)) hx ..
    exact hx.setMarshal _
  · have hy : StillScratched y := State.doReroute_closed (stays (by decide +kernel))
      (foldl_sat hu fun _ p hx => State.relayEntry_closed (stays (by decide +kernel)) hx ..) _
    exact ite_sat hy (hall (spareNote (hy.tellAll ..)))
  · have hz : StillScratched z := foldl_sat hu fun _ d hx => hx.marshalLog ..
    exact hall (doRelayed (hz.tellAll ..) _)
  · exact hu.setMarshal _

omit h in
theorem advanceGo (n : Nat) : ∀ {s : State}, StillScratched s → StillScratched (Machine.advanceGo n s) := by
  induction n with
  | zero => exact fun h => h
  | succ n ih =>
    intro s h
    rw [Machine.advanceGo]
    extract_lets k
    exact ite_sat h (ite_sat (ih (h.stepBegin _)) (ite_sat (setMarshal (h.wrFld (by decide) ..) _) h))

theorem advanceEpoch : StillScratched s.advanceEpoch := spareNote (h.advanceGo 9)

theorem startEpoch (new : List Nat) (change : Bool) : StillScratched (s.startEpoch new change) := by
  unfold State.startEpoch
  extract_lets again m lost t u v w
  have hu : StillScratched u := setMarshal (h.wr (by decide) ..) _
  have hv : StillScratched v := ite_sat (hu.marshalLog ..) hu
  have hw : StillScratched w := ite_sat (State.tellChange_closed (stays (by decide +kernel)) hv) hv
  exact (hw.stepBegin 1).advanceEpoch

theorem appointStandby : StillScratched s.appointStandby := State.appointStandby_closed (stays (by decide +kernel)) h

theorem decideScratch (ds : List Nat) (reason : Nat) : StillScratched (s.decideScratch ds reason) := by
  unfold State.decideScratch
  extract_lets m t src u
  have ht : StillScratched t := foldl_sat h fun _ d hx => State.markScratched_closed (stays (by decide +kernel)) hx ..
  have hu : StillScratched u := ht.setMarshal _
  exact ite_sat (ite_sat (startEpoch (appointStandby (hu.setMem ..)) ..) ht)
    (ite_sat (ht.appointStandby.startEpoch ..) (ht.startEpoch ..))

/-! ### Power stages -/

theorem stageLost (p : Nat) : StillScratched (s.stageLost p) := by
  unfold State.stageLost
  extract_lets st t
  have ht (v : Nat) : StillScratched (s.wr Obj.stageState p v) := h.wr (by decide) ..
  exact ite_sat (ite_sat (ht _) ((ht _).scratch _))
    (ite_sat (State.rampEnds_closed (stays (by decide +kernel)) (ht _) _) h)

end StillScratched

end Sys2Proof.Laws
end

section
/-! PROOFS. Scratched modules stay scratched: pools, host accesses, and the objects that a host, a peer or the settings of the
flash write. -/

namespace Sys2Proof.Laws

set_option Elab.async false

open Sys2Proof.Machine

/-! ### SERVICE_STATE is written by none of them -/

theorem objInfo_code {c : ObjCode} {o : ObjInfo} (h : objInfo c = some o) : o.code = c := by
  simpa using List.find?_some h

theorem objInfo_serviceState : objInfo Obj.serviceState = some ⟨Obj.serviceState, .u8, 1, 0, .ro, .v, 0, 0⟩ := by
  decide +kernel

theorem ne_serviceState_of_access {c : ObjCode} {o : ObjInfo} (h : objInfo c = some o) (ha : o.access ≠ .ro) :
    o.code ≠ Obj.serviceState := by
  rintro hc
  obtain rfl : c = Obj.serviceState := (objInfo_code h).symm.trans hc
  rw [objInfo_serviceState] at h
  cases h
  exact ha rfl

theorem ne_serviceState_of_persist {c : ObjCode} {o : ObjInfo} (h : objInfo c = some o) (hn : o.persist = .n) :
    o.code ≠ Obj.serviceState := by
  rintro hc
  obtain rfl : c = Obj.serviceState := (objInfo_code h).symm.trans hc
  rw [objInfo_serviceState] at h
  cases h
  cases hn

/-- A record is applied only to an object that the settings hold (R434). -/
theorem recordOk_persist {s : State} {r : NvRec} {o : ObjInfo} (h : s.recordOk r = some o) :
    objInfo r.code = some o ∧ o.persist = .n := by
  unfold State.recordOk at h
  split at h
  next o' ho =>
    split_ifs at h with hn
    all_goals
      cases h
      exact ⟨ho, not_not.mp fun hp => hn (.inr hp)⟩
  next => cases h

namespace StillScratched

variable {s : State} (h : StillScratched s)
include h

/-! ### Pools and host accesses -/

theorem poolTake (p owner n field : Nat) (ecc : Ecc) : SatPool StillScratched (s.poolTake p owner n field ecc) := by
  have hread := eccRanges (s.linkRanges p n (s.pool p).head) ecc h
  unfold State.poolTake
  split
  next hq => exact .pair (hread.of_eq hq)
  next t hq =>
    have ht := hread.of_eq hq
    split
    · exact .pair (State.poolBreaks_closed (stays (by decide +kernel)) ht p)
    next u hu =>
      have hu := (popMany_closed (stays (by decide +kernel)) ht p owner n []).of_eq hu
      exact .pair (State.poolNote_closed (stays (by decide +kernel))
        (State.poolCountUp_closed (stays (by decide +kernel)) hu p field n) p)

theorem poolCountUp (p field n : Nat) : StillScratched (s.poolCountUp p field n) :=
  State.poolCountUp_closed (stays (by decide +kernel)) h ..

theorem poolReserve (p owner n : Nat) (ecc : Ecc) : SatPool StillScratched (s.poolReserve p owner n ecc) := by
  unfold State.poolReserve
  split
  · exact .pair h
  · exact ite_sat (.pair (h.poolCountUp ..)) (h.poolTake ..)

theorem poolAlloc (p owner : Nat) (high : Bool) (ecc : Ecc) : SatPool StillScratched (s.poolAlloc p owner high ecc) := by
  unfold State.poolAlloc
  split
  · exact .pair h
  · exact ite_sat (.pair (h.poolCountUp ..)) (ite_sat (.pair (h.poolCountUp ..)) (h.poolTake ..))

theorem bindSlot (slot d : Nat) (kinds : List Nat) (ecc : Ecc) : Sat2 StillScratched (s.bindSlot slot d kinds ecc) := by
  unfold State.bindSlot
  extract_lets prog a t u v su src w
  have ha : StillScratched a.state := (h.poolReserve ..).state
  have hu : StillScratched u := ha
  have hw : StillScratched w := State.setSu_closed (stays (by decide +kernel)) (hu.wr (by decide) ..) ..
  exact ite_sat (.pair h) <| ite_sat (.pair h) <| ite_sat (.pair h) <| ite_sat (.pair h) <| ite_sat (.pair h) <|
    ite_sat (.pair ha) (.pair (hw.wr (by decide) ..))

theorem pushOp (q : Nat) (o : HostOp) : StillScratched (s.pushOp q o) := State.pushOp_closed (stays (by decide +kernel)) h ..

theorem psnOn (q n : Nat) : StillScratched (s.psnOn q n) := State.psnOn_closed (stays (by decide +kernel)) h ..

theorem hostAccess (q psn rkey va len kind bit packets : Nat) (make : State → Nat → Nat → List GReq) :
    StillScratched (s.hostAccess q psn rkey va len kind bit packets make) := by
  unfold State.hostAccess
  refine ite_sat (h.pushOp ..) ?_
  split
  · exact (h.psnOn ..).pushOp ..
  · exact pump ((h.psnOn ..).pushOp ..)

theorem sendSteps (q psn b : Nat) (data : List Byte) (ecc : Ecc) : StillScratched (s.sendSteps q psn b data ecc) := by
  unfold State.sendSteps
  extract_lets x pool m log at_ t entry flag
  have ht : StillScratched t := State.poolWrite_closed (stays (by decide +kernel)) h ..
  have hread := ht.mergeRead ecc (bits log 44 4) at_ 16
  split
  next hq => exact hread.of_eq hq
  next u hq =>
    extract_lets v w y src z
    have hv : StillScratched v := State.memStore_closed (stays (by decide +kernel)) (hread.of_eq hq) ..
    have hw : StillScratched w := (State.poolHandover_closed (stays (by decide +kernel)) hv ..).state
    have hy : StillScratched y := ite_sat hw (State.addFlag_closed (stays (by decide +kernel)) hw ..)
    have hz : StillScratched z := State.setQp_closed (stays (by decide +kernel)) hy ..
    exact (hz.psnOn ..).pushOp ..

/-! ### Objects -/

theorem placeValue {c : ObjCode} (hc : c ≠ Obj.serviceState) (i v : Nat) : StillScratched (s.placeValue c i v) :=
  ite_sat (h.wr (by decide) ..) (ite_sat (h.wr (by decide) ..) (h.wr hc ..))

theorem applyRecord (base : State) (r : NvRec) : SatO StillScratched (State.applyRecord base s r) := by
  unfold State.applyRecord
  split
  · exact .none
  next o ho =>
    obtain ⟨hi, hn⟩ := recordOk_persist ho
    have hplace {t : State} (ht : StillScratched t) (i v : Nat) : StillScratched (t.placeValue o.code i v) :=
      ht.placeValue (ne_serviceState_of_persist hi hn) i v
    refine ite_sat (.some (foldl_sat h fun _ i ht => hplace ht ..)) (foldl_sat (.some h) fun a p ha => ?_)
    cases a with
    | none => exact .none
    | some t => exact ite_sat (.some (hplace (ha.of_eq rfl) ..)) .none

theorem applyRecords (base : State) (rs : List NvRec) : Sat1 StillScratched (State.applyRecords base s rs) :=
  foldl_sat (.pair h) fun a r ha => by
    have hr := ha.fst.applyRecord base r
    split
    next hq => exact .pair (hr.of_eq hq)
    next => exact .pair ha.fst

theorem applyBank (b : Nat) : Sat1 StillScratched (s.applyBank b) := by
  unfold State.applyBank
  extract_lets base j good all
  exact .pair (applyRecords (h.applyRecords ..).fst ..).fst

theorem factoryN : StillScratched s.factoryN := by
  unfold State.factoryN
  extract_lets keep t
  have ht : StillScratched t := by
    refine h.of_rd (rd_filter _ _ _ _ fun p hp => ?_) rfl rfl
    unfold keep
    rw [hp, objInfo_serviceState]
    rfl
  exact ht.wr (by decide) ..

theorem memClasses : StillScratched s.memClasses := State.memClasses_closed (stays (by decide +kernel)) h

theorem extend (r v : Nat) : StillScratched (s.extend r v) := State.extend_closed (stays (by decide +kernel)) h ..

theorem nvRestore : StillScratched s.nvRestore := by
  unfold State.nvRestore
  extract_lets t
  have ht : StillScratched t := h.factoryN
  split
  · exact closed.nvMark (by decide +kernel) _ none ht.memClasses
  · extract_lets kinds start r seq log u v w
    have hstart : StillScratched start := State.formClassNodes_closed (stays (by decide +kernel)) ht kinds
    have hu : StillScratched u := (hstart.applyBank _).fst.memClasses
    have hv : StillScratched v := hu.wr (by decide) ..
    have hw : StillScratched w := (hv.extend ..).extend ..
    exact closed.journalSeq_nvMark (by decide +kernel) (by decide +kernel) hw

theorem wrPairs {c : ObjCode} (hc : c ≠ Obj.serviceState) (ps : List (Nat × Nat)) : StillScratched (s.wrPairs c ps) :=
  foldl_sat h fun _ _ ht => ht.wr hc ..

theorem release (digest : Nat) (b : Bays) : StillScratched (s.release digest b) := by
  have hramp {t : State} (ht : StillScratched t) (bay watts : Nat) : StillScratched (t.rampBay bay watts) :=
    State.rampBay_closed (stays (by decide +kernel)) ht ..
  unfold State.release
  extract_lets t u v w x k y
  have ht : StillScratched t := State.claimCvus_closed (stays (by decide +kernel)) (h.extend ..).nvRestore
  have hu : StillScratched u := ite_sat (State.startSockets_closed (stays (by decide +kernel)) ht _) ht
  have hv : StillScratched v := (hu.wrPairs (by decide) _).wrPairs (by decide) _
  have hw : StillScratched w := foldl_sat (hv.wrPairs (by decide) _) fun _ _ hz => hramp (hz.setEls ..) ..
  have hx : StillScratched x := foldUp_sat hw fun _ _ hz => ite_sat hz (State.portRelease_closed (stays (by decide +kernel)) hz _)
  have hy : StillScratched y := wr (State.startCages_closed (stays (by decide +kernel)) hx _) (by decide) ..
  have hm : StillScratched y.startMarshal.trackNote := State.trackNote_closed (stays (by decide +kernel))
    (State.startMarshal_closed (stays (by decide +kernel)) hy)
  exact closed.boot (by decide +kernel) _ .fill hm

theorem applyWrite {c : ObjCode} (hc : c ≠ Obj.serviceState) (i v : Nat) : StillScratched (s.applyWrite c i v) := by
  have hnode {d : ObjCode} (hd : d ≠ Obj.serviceState) (v : Nat) : StillScratched (s.writeNode d i v) :=
    State.writeNode_closed closed (by decide +kernel) (Foot.obj_outsideScratch hd) h i v
  have hwr (v : Nat) : StillScratched (s.wr c i v) := h.wr hc i v
  unfold State.applyWrite
  exact ite_sat (hnode hc v) <| ite_sat (hnode (by decide) _) <| ite_sat (hnode (by decide) _) <|
    ite_sat (State.writeFlow_closed (stays (by decide +kernel)) h ..) <|
    ite_sat (State.writePolicer_closed (stays (by decide +kernel)) h ..) <|
    ite_sat (State.trackNote_closed (stays (by decide +kernel)) (hwr v)) <|
    ite_sat (State.writePortConfig_closed (stays (by decide +kernel)) h ..) <|
    ite_sat (hwr v) <|
    ite_sat (State.bitmapStore_closed (stays (by decide +kernel)) h ..) <|
    ite_sat (State.clearCause_closed (stays (by decide +kernel)) h v) <|
    ite_sat (State.clearInput_closed (stays (by decide +kernel)) h v) <|
    ite_sat (hwr _) <|
    ite_sat (h.extend ..) <|
    ite_sat (State.guardSync_closed (stays (by decide +kernel)) (hwr v) i) <|
    ite_sat (State.claimCvus_closed (stays (by decide +kernel)) (hwr v)) <|
    ite_sat (State.writeExpelGroup_closed (stays (by decide +kernel)) h ..) (hwr v)

theorem writePiece {o : ObjInfo} (ho : o.code ≠ Obj.serviceState) (p : Nat × Nat × List Byte) :
    Sat2 StillScratched (s.writePiece o p) := by
  unfold State.writePiece
  exact ite_sat (ite_sat (.pair h) (.pair (State.bitmapStore_closed (stays (by decide +kernel)) h ..)))
    (ite_sat (.pair (h.applyWrite ho ..)) (.pair h))

theorem writePieces {o : ObjInfo} (ho : o.code ≠ Obj.serviceState) (ps : List (Nat × Nat × List Byte)) :
    Sat2 StillScratched (s.writePieces o ps) := by
  unfold State.writePieces
  extract_lets r
  have hr : Sat2 StillScratched r := foldl_sat (.pair h) fun b p hb => ite_sat (hb.snd.writePiece ho p) hb
  exact ite_sat hr (.pair h)

theorem writeObject {c : ObjCode} {o : ObjInfo} (ho : objInfo c = some o) (idx off : Nat) (bs : List Byte) :
    Sat2 StillScratched (s.writeObject o idx off bs) := by
  unfold State.writeObject
  by_cases hro : o.access = .ro
  · rw [if_pos hro]
    exact .pair h
  · rw [if_neg hro]
    exact ite_sat (.pair h) (ite_sat (.pair h) (h.writePieces (ne_serviceState_of_access ho hro) _))

end StillScratched

end Sys2Proof.Laws
end

section
/-! PROOFS. What each command does in a scratched module (R38): some do nothing, some only answer, some may find a further
cause of the scratch, and some restart the module. -/

namespace Sys2Proof.Laws

set_option Elab.async false

open Sys2Proof.Machine

/-- The commands of units that a scratch stops. -/
def stopsWhenScratched : Instr → Bool
  | .pacedDispatch .. | .queueDispatch .. | .pacedResult .. | .icacheFill .. | .rkeServiceStart .. | .rkeResult ..
  | .patrolRead .. | .drainBlockCopied .. | .gmuReply .. | .replayAfterExpiry .. | .abandonAfterExpiry .. | .reqRead ..
  | .reqWrite .. | .reqAtomic .. | .reqFence .. | .reqSignal .. | .reqPdelta .. | .reqPclose .. | .guardParityReplied ..
  | .guardQuiet .. | .stripeDemandRebuild .. | .guardRun .. | .chunkSend .. | .retryFrame .. | .feedDone .. | .scanJobEnd ..
  | .guardStripeRebuild .. | .portLos .. | .fecRate .. | .thermalLimit .. | .heartbeatMsg .. | .heartbeatMiss ..
  | .probeFailTimeout .. | .probeAckMsg .. | .reportSend | .reportMsg .. | .scoreWindowEnd | .suspectMsg .. | .clearedMsg ..
  | .lostMsg .. | .marshalFenceMsg .. | .stepAckMsg .. | .stepTimeout | .relayMsg .. | .rerouteMsg .. | .relayedMsg ..
  | .rebuiltMsg .. | .assignMsg .. | .managerChangeMsg .. | .restQueryMsg .. | .ringLaunch .. | .ringColl .. | .ringPower .. => true
  | _ => false

/-- The outcome of a command that leaves everything as it is. -/
def Idle (s : State) (r : Res) : Prop := r = .next s ∨ ∃ f, r = .fault f

theorem Idle.next (s : State) : Idle s (.next s) := .inl rfl

theorem Idle.fault {s : State} {f : Fault} : Idle s (.fault f) := .inr ⟨f, rfl⟩

theorem requestIn_of_scratched {s : State} (hs : s.scratched = true) (op : Nat) (f : Frame) (e : Ecc) :
    s.requestIn op f e = s := by
  unfold State.requestIn
  exact if_pos (.inr (.inl hs))

theorem ringGo_of_scratched {s : State} (hs : s.scratched = true) (r : Nat) (mine : Nat → Bool)
    (f : State → Nat → Nat → RingWait × State) : Idle s (s.ringGo r mine f) := by
  unfold State.ringGo
  refine ite_sat .fault ?_
  extract_lets x
  split
  · exact .next s
  · rw [if_pos (by simp [hs])]
    exact .next s

/-- They do nothing in a scratched module. -/
theorem exec_idle_of_scratched {i : Instr} {s : State} (hi : stopsWhenScratched i = true) (hs : s.scratched = true) :
    Idle s (exec i s) := by
  cases i
  case ringLaunch | ringColl | ringPower =>
    simp -zeta only [exec, execRingLaunch, execRingColl, execRingPower]
    exact ringGo_of_scratched hs ..
  case pacedDispatch | queueDispatch | pacedResult | icacheFill | rkeServiceStart | rkeResult | patrolRead | drainBlockCopied
      | gmuReply | replayAfterExpiry | abandonAfterExpiry | reqRead | reqWrite | reqAtomic | reqFence | reqSignal | reqPdelta
      | reqPclose | guardParityReplied | guardQuiet | stripeDemandRebuild | guardRun | chunkSend | retryFrame | feedDone
      | scanJobEnd | guardStripeRebuild | portLos | fecRate | thermalLimit | heartbeatMsg | heartbeatMiss | probeFailTimeout
      | probeAckMsg | reportSend | reportMsg | scoreWindowEnd | suspectMsg | clearedMsg | lostMsg | marshalFenceMsg
      | stepAckMsg | stepTimeout | relayMsg | rerouteMsg | relayedMsg | rebuiltMsg | assignMsg | managerChangeMsg
      | restQueryMsg =>
    simp -zeta only [exec, execPacedDispatch, execQueueDispatch, execPacedResult, execIcacheFill, execRkeServiceStart,
      execRkeResult,
      execPatrolRead, execDrainBlockCopied, execGmuReply, execReplayAfterExpiry, execAbandonAfterExpiry, execReqRead,
      execReqWrite, execReqAtomic, execReqFence, execReqSignal, execReqPdelta, execReqPclose, execGuardParityReplied,
      execGuardQuiet, execStripeDemandRebuild, execGuardRun, execChunkSend, execRetryFrame, execFeedDone, execScanJobEnd,
      execGuardStripeRebuild, execPortLos, execFecRate, execThermalLimit, execHeartbeatMsg, execHeartbeatMiss,
      execProbeFailTimeout, execProbeAckMsg, execReportSend, execReportMsg, execScoreWindowEnd, execSuspectMsg,
      execClearedMsg, execLostMsg, execMarshalFenceMsg, execStepAckMsg, execStepTimeout, execRelayMsg, execRerouteMsg,
      execRelayedMsg, execRebuiltMsg, execAssignMsg, execManagerChangeMsg, execRestQueryMsg,
      hs, coreCanRun_of_scratched hs, gmuOn_of_scratched hs, patrolRuns_of_scratched hs,
      marshalOn_of_scratched hs, message_of_scratched hs, passMessage_of_scratched hs, tracks_of_scratched hs,
      onManager_of_scratched hs, onStep_of_scratched hs, requestIn_of_scratched hs, Bool.not_false,
      Bool.true_or, Bool.or_true, Bool.false_and, if_true, true_or, or_true]
    repeat' with_reducible first | exact Idle.next _ | exact Idle.fault | apply ite_sat | (extract_lets; clear_value *) | split
  all_goals cases hi

end Sys2Proof.Laws
end

section
/-! PROOFS. A scratch is left only by a restart (O6). -/

namespace Sys2Proof.Laws

set_option Elab.async false

open Sys2Proof.Machine

/-! ### Commands that keep a scratched module scratched -/

/-- The commands that a scratched module only answers, or that only take it further in its start-up. -/
def answeredWhenScratched : Instr → Bool
  | .coreLaunch .. | .linkBlockReceive .. | .portDisable .. | .retrain .. | .groupSetup .. | .takeManager .. | .startupFill
  | .powerRun | .powerHold | .powerRest | .powerDeepRest | .restAbortPoint | .restEntered | .deepRestPermit | .wakeDone => true
  | _ => false

/-- The commands that may find a further cause of the scratch, or write objects whose numbers they are given. -/
def mayScratch : Instr → Bool
  | .recalEnd .. | .dimmLatchOpen .. | .tagQuarantineEnd .. | .streamReset .. | .linkReplayTimeout ..
  | .selftestLoopbackDone .. | .oeSelftest .. | .elsOutputLoss .. | .elsLatchOpen .. | .bind .. | .bpmReserve ..
  | .bpmAllocHigh .. | .bpmAllocLow .. | .rdmaWrite .. | .rdmaRead .. | .rdmaSend .. | .rdmaAtomic .. | .spareReady ..
  | .marshalScratch .. | .scratchNow | .stageFail .. | .boot .. | .registerWrite .. | .stageLatchOpen .. | .internalFault .. => true
  | _ => false

/-- The commands that may restart the module. -/
def mayRestart : Instr → Bool
  | .tripUv .. | .tripOv .. | .tripRestart .. | .powerOn | .aopFloor .. | .warmReset | .resetNAssert .. | .commission
  | .decommission .. => true
  | _ => false

theorem Idle.stays {s : State} {r : Res} (h : StillScratched s) (hr : Idle s r) : SatR StillScratched r := by
  obtain rfl | ⟨f, rfl⟩ := hr
  · exact .next h
  · exact .fault

section

variable {s : State} (h : StillScratched s)
include h

theorem powerEnd_stays (ring : Option Nat) (code point : Nat) : StillScratched (s.powerEnd ring code point) :=
  State.powerEnd_closed (stays (by decide +kernel)) h ..

theorem powerNote_stays : StillScratched s.powerNote := State.powerNote_closed (stays (by decide +kernel)) h

theorem powerRequest_stays (target : Nat) (ring : Option Nat) : StillScratched (s.powerRequest target ring) := by
  obtain ⟨hs, he, hw⟩ := h
  obtain ⟨code, hcode⟩ := powerRequest_of_scratched hs he hw target ring
  rw [hcode]
  exact powerEnd_stays ⟨hs, he, hw⟩ ..

theorem powerCommand_stays (target : Nat) : StillScratched (s.powerCommand target) :=
  powerNote_stays (powerRequest_stays h target none)

theorem exec_stays_of_answered {i : Instr} (hi : answeredWhenScratched i = true) : SatR StillScratched (exec i s) := by
  have hs : s.scratched = true := h.1
  cases i
  case coreLaunch value e =>
    simp -zeta only [exec, execCoreLaunch, State.tryLaunch, launchCode_of_scratched hs]
    exact ite_sat (.next h) (.next (h.wr (by decide) ..))
  case linkBlockReceive =>
    simp -zeta only [exec, execLinkBlockReceive]
    refine ite_sat .fault (ite_sat (.next h) ?_)
    rw [if_pos (.inl hs)]
    exact .next h
  case portDisable | retrain =>
    simp -zeta only [exec, execPortDisable, execRetrain, if_pos hs]
    exact ite_sat (.next h) (.next (h.wr (by decide) ..))
  case groupSetup =>
    simp -zeta only [exec, execGroupSetup, inRun_of_scratched hs]
    exact .next (h.wrFld (by decide) ..)
  case takeManager =>
    simp -zeta only [exec, execTakeManager, hs, or_true, if_true]
    exact .next (h.wr (by decide) ..)
  case startupFill =>
    simp -zeta only [exec, execStartupFill]
    refine ite_sat (.next h) ?_
    extract_lets kept mem t
    have ht : StillScratched t := h.wr (c := Obj.scanInternal) (by decide) 0 0
    rw [if_pos (.inr ht.1)]
    exact .next ht
  case powerRun | powerHold | powerRest | powerDeepRest => exact .next (powerCommand_stays h _)
  case restAbortPoint | restEntered | deepRestPermit =>
    simp -zeta only [exec, execRestAbortPoint, execRestEntered, execDeepRestPermit, h.2.1]
    exact .next h
  case wakeDone =>
    simp -zeta only [exec, execWakeDone, h.2.2]
    exact .next h
  all_goals cases hi

theorem hostRequest_stays {q psn : Nat} {ce : Bool} {fresh again : State → State}
    (hfresh : ∀ t, StillScratched t → StillScratched (fresh t)) (hagain : ∀ t, StillScratched t → StillScratched (again t)) :
    SatR StillScratched (s.hostRequest q psn ce fresh again) := by
  unfold State.hostRequest
  refine ite_sat .fault (ite_sat (.next h) ?_)
  extract_lets t
  have ht : StillScratched t := State.ecnSeen_closed (stays (by decide +kernel)) h ..
  split
  · exact .next (hfresh t ht)
  · exact .next (ht.pushOp ..)
  · exact .next (hagain t ht)

omit h in
theorem poolFinish_stays {a : PoolAns} (ha : SatPool StillScratched a) (caller : Nat) : StillScratched (a.finish caller) := by
  unfold PoolAns.finish
  refine ite_sat ha.state ?_
  split
  · exact ha.state.wr (by decide) ..
  · exact ha.state.wrFld (by decide) ..

theorem boot_stays (b : Bays) : SatR StillScratched (execBoot b s) := by
  have hrecover : StillScratched (s.recover b) := State.recover_closed (stays (by decide +kernel)) h b
  unfold execBoot
  refine ite_sat ?_ (ite_sat ?_ (.next h))
  · split
    · exact .next hrecover
    split
    · exact .next hrecover
    next v hv =>
    extract_lets src t
    have ht : StillScratched t := StillScratched.closed.fwRunning (by decide +kernel) _ _ (h.extend 0 v.2.1)
    have hheld : StillScratched { t with boot := .held } := StillScratched.closed.boot (by decide +kernel) t .held ht
    exact .next (ite_sat hheld (ht.release ..))
  · split
    · exact .next hrecover
    · exact .next (h.release ..)

theorem exec_stays_of_mayScratch {i : Instr} (hi : mayScratch i = true) : SatR StillScratched (exec i s) := by
  cases i
  case recalEnd =>
    exact ite_sat (.next (StillScratched.releaseWaiting (State.endHold_closed (stays (by decide +kernel)) h _))) (.next h)
  case dimmLatchOpen => exact ite_sat .fault (.next (ite_sat (h.memUe ..) h))
  case tagQuarantineEnd tag =>
    simp -zeta only [exec, execTagQuarantineEnd]
    split
    · exact .next h
    next q hq =>
      have hended : StillScratched { s with quarantine := s.quarantine.erase q } := h
      exact .next (ite_sat hended.pump h)
  case streamReset value =>
    have hcode (code : Nat) : StillScratched (s.wr Obj.streamReset 0 code) := h.wr (by decide) ..
    simp -zeta only [exec, execStreamReset]
    extract_lets t stream r
    have ht : StillScratched { t with waiting := t.waiting ++ [r] } := hcode 1
    exact ite_sat (.next h) (ite_sat (.next (hcode 2)) (ite_sat (.next (hcode 1)) (.next (ite_sat (hcode 1) ht.pump))))
  case linkReplayTimeout =>
    simp -zeta only [exec, execLinkReplayTimeout]
    refine ite_sat .fault (ite_sat (.next h) ?_)
    split
    · exact .next h
    · exact .next (ite_sat (h.startReplay ..) h)
  case selftestLoopbackDone =>
    simp -zeta only [exec, execSelftestLoopbackDone]
    extract_lets x t
    have ht : StillScratched t := h.setPort ..
    exact ite_sat .fault (ite_sat (.next h) (ite_sat (.next (ht.oeFails ..)) (.next (ite_sat (ht.report ..) ht))))
  case oeSelftest => exact ite_sat .fault (ite_sat (.next h) (.next (h.oeChecked ..)))
  case elsOutputLoss => exact ite_sat .fault (.next (h.elsLoses _))
  case elsLatchOpen => exact ite_sat .fault (ite_sat (.next ((h.setEls ..).wr (by decide) ..)) (.next (h.elsLoses _)))
  case bind => exact ite_sat (.next h) (.next ((h.bindSlot ..).snd.wr (by decide) ..))
  case bpmReserve => exact .next (poolFinish_stays (h.poolReserve ..) _)
  case bpmAllocHigh | bpmAllocLow => exact .next (poolFinish_stays (h.poolAlloc ..) _)
  case rdmaWrite =>
    simp -zeta only [exec, execRdmaWrite]
    extract_lets
    exact hostRequest_stays h (fun t ht => ht.hostAccess ..) fun t ht => ht.pushOp ..
  case rdmaRead =>
    simp -zeta only [exec, execRdmaRead]
    extract_lets
    exact hostRequest_stays h (fun t ht => ht.hostAccess ..) fun t ht => ht.hostAccess ..
  case rdmaAtomic =>
    simp -zeta only [exec, execRdmaAtomic]
    extract_lets
    refine hostRequest_stays h (fun t ht => ht.hostAccess ..) fun t ht => ?_
    split
    · exact State.qpSend_closed (stays (by decide +kernel)) ht ..
    · exact ht
  case rdmaSend =>
    simp -zeta only [exec, execRdmaSend]
    extract_lets nak
    have hnak {u : State} (hu : StillScratched u) (k n : Nat) : StillScratched (nak u k n) := (hu.psnOn ..).pushOp ..
    refine hostRequest_stays h (fun t ht => ?_) fun t ht => ht.pushOp ..
    extract_lets x pool r
    have hr : StillScratched r.state := (ht.poolAlloc ..).state
    refine ite_sat (hnak ht ..) (ite_sat (hnak ht ..) (ite_sat hr ?_))
    split
    · exact ite_sat (hnak (State.poolFreeBuf_closed (stays (by decide +kernel)) hr ..).state ..) (hr.sendSteps ..)
    · exact ite_sat (hnak hr ..) (hnak hr ..)
  case spareReady =>
    have hanswer (code : Nat) : StillScratched (s.marshalAnswer code) := h.wr (by decide) ..
    simp -zeta only [exec, execSpareReady]
    extract_lets t now
    have ht : StillScratched t := (h.setMem ..).spareNote.wr (by decide) ..
    exact ite_sat (.next (hanswer 2)) (ite_sat (.next (hanswer 3)) (.next (ite_sat ht (ht.startEpoch ..))))
  case marshalScratch =>
    have hanswer {t : State} (ht : StillScratched t) (code : Nat) : StillScratched (t.marshalAnswer code) := ht.wr (by decide) ..
    exact ite_sat (.next (hanswer h 2)) (ite_sat (.next (hanswer h 3)) (.next (hanswer (h.decideScratch ..) 1)))
  case scratchNow => exact .next (ite_sat h ((h.scratch _).wr (by decide) ..))
  case internalFault => exact .next (ite_sat h (h.scratch _))
  case stageFail => exact ite_sat .fault (.next (h.stageLost _))
  case stageLatchOpen =>
    exact ite_sat .fault (ite_sat (.next ((h.wr (by decide) ..).wr (by decide) ..)) (.next (h.stageLost _)))
  case boot => exact boot_stays h _
  case registerWrite obj index offset data =>
    have hsend {t : State} (ht : StillScratched t) (o : Out) : StillScratched (t.send o) := ht
    simp -zeta only [exec, execRegisterWrite]
    split
    next o ho => exact ite_sat (.next h) (ite_sat (.next (hsend h _)) (.next (hsend (h.writeObject ho ..).snd _)))
    next => exact .next (ite_sat (hsend h _) h)
  all_goals cases hi

/-- No other command writes SERVICE_STATE, restarts the module, or begins an entry or a wake. -/
theorem exec_stays_of_outside {i : Instr} (hstops : stopsWhenScratched i = false) (hanswered : answeredWhenScratched i = false)
    (hscratch : mayScratch i = false) (hrestart : mayRestart i = false)
    (hwrite : ∀ m fed reachable e, i ≠ .cdpWrite m fed reachable e) :
    SatR StillScratched (exec i s) := by
  cases i
  case cdpWrite m fed reachable e => exact absurd rfl (hwrite m fed reachable e)
  case pacedDispatch | queueDispatch | pacedResult | icacheFill | rkeServiceStart | rkeResult | patrolRead | drainBlockCopied
      | gmuReply | replayAfterExpiry | abandonAfterExpiry | reqRead | reqWrite | reqAtomic | reqFence | reqSignal | reqPdelta
      | reqPclose | guardParityReplied | guardQuiet | stripeDemandRebuild | guardRun | chunkSend | retryFrame | feedDone
      | scanJobEnd | guardStripeRebuild | portLos | fecRate | thermalLimit | heartbeatMsg | heartbeatMiss | probeFailTimeout
      | probeAckMsg | reportSend | reportMsg | scoreWindowEnd | suspectMsg | clearedMsg | lostMsg | marshalFenceMsg
      | stepAckMsg | stepTimeout | relayMsg | rerouteMsg | relayedMsg | rebuiltMsg | assignMsg | managerChangeMsg
      | restQueryMsg | ringLaunch | ringColl | ringPower => cases hstops
  case coreLaunch | linkBlockReceive | portDisable | retrain | groupSetup | takeManager | startupFill | powerRun | powerHold
      | powerRest | powerDeepRest | restAbortPoint | restEntered | deepRestPermit | wakeDone => cases hanswered
  case recalEnd | dimmLatchOpen | tagQuarantineEnd | streamReset | linkReplayTimeout | selftestLoopbackDone | oeSelftest
      | elsOutputLoss | elsLatchOpen | bind | bpmReserve | bpmAllocHigh | bpmAllocLow | rdmaWrite | rdmaRead | rdmaSend
      | rdmaAtomic | spareReady | marshalScratch | scratchNow | stageFail | boot | registerWrite | stageLatchOpen
      | internalFault => cases hscratch
  case tripUv | tripOv | tripRestart | powerOn | aopFloor | warmReset | resetNAssert | commission | decommission => cases hrestart
  all_goals
    simp -zeta only [exec]
    repeat' with_reducible first
      | exact h | exact stays (by decide +kernel)
      | apply execNop_closed | apply execSqEnd_closed | apply execPace_closed | apply execWait_closed | apply execPost_closed
      | apply execFlagset_closed | apply execPset_closed | apply execPlogic_closed | apply execSkip_closed
      | apply execLapset_closed | apply execLap_closed | apply execDrain_closed | apply execMark_closed | apply execMma_closed
      | apply execMout_closed | apply execMpart_closed | apply execMclr_closed | apply execVop_closed | apply execVcmp_closed
      | apply execVfunc_closed | apply execVred_closed | apply execVcvt_closed | apply execVwiden_closed | apply execVld_closed
      | apply execVst_closed | apply execVbmp_closed | apply execRake_closed | apply execRmask_closed | apply execSeta_closed
      | apply execLoad_closed | apply execStore_closed | apply execCopy_closed | apply execAtom_closed | apply execFence_closed
      | apply execSignal_closed | apply execColl_closed | apply execWaitLimit_closed | apply execCoreComplete_closed
      | apply execCoreStop_closed | apply execTotalClear_closed | apply execStrideWindowEnd_closed
      | apply execRakeTotalClear_closed | apply execOndieCePoll_closed | apply execRecalStart_closed
      | apply execRecalForced_closed | apply execRecalNow_closed | apply execDimmDrain_closed | apply execDimmPowerOff_closed
      | apply execDimmPowerOn_closed | apply execDimmReturn_closed | apply execDrainCancel_closed
      | apply execDimmLatchClose_closed | apply execDimmTrained_closed | apply execGuardActivate_closed
      | apply execGuardDeactivate_closed | apply execLoopMeasure_closed | apply execTrainingStart_closed
      | apply execTrainingRetry_closed | apply execPortUp_closed | apply execCipherKeyAgreed_closed
      | apply execPortEnable_closed | apply execPortSelftest_closed | apply execElsPartnerFull_closed
      | apply execElsRemove_closed | apply execElsCancel_closed | apply execElsRampDone_closed | apply execElsInsert_closed
      | apply execElsStartDone_closed | apply execFrameLookup_closed | apply execMcLookup_closed | apply execCellMatch_closed
      | apply execFrameDeparture_closed | apply execFwdAgeExpiry_closed | apply execRouteCommit_closed
      | apply execFlowEnqueue_closed | apply execTmgPick_closed | apply execFlowCreate_closed | apply execFlowDelete_closed
      | apply execSuFrameDeliver_closed | apply execSuRunStart_closed | apply execEcmelNop_closed | apply execEcmelEnd_closed
      | apply execEcmelDrop_closed | apply execBrz_closed | apply execBrnz_closed | apply execMovi_closed
      | apply execEcmelAlu_closed | apply execEcmelGet_closed | apply execEcmelHdr_closed | apply execLdp_closed
      | apply execPadd_closed | apply execOhdr_closed | apply execOput_closed | apply execOcopy_closed
      | apply execEcmelSend_closed | apply execEcmelRsum_closed | apply execEcmelGath_closed | apply execEcmelFilt_closed
      | apply execEcmelMerge_closed | apply execBtest_closed | apply execBset_closed | apply execGfmac_closed
      | apply execOzero_closed | apply execProgramLoad_closed | apply execProgramClear_closed | apply execUnbind_closed
      | apply execForceUnbind_closed | apply execBitmapClear_closed | apply execGroupDestroy_closed
      | apply execGroupResume_closed | apply execContribFrame_closed | apply execResultAssemble_closed
      | apply execResultFrame_closed | apply execDirectFrame_closed | apply execGrantFrame_closed | apply execDoneFrame_closed
      | apply execAbortFrame_closed | apply execChunkTimeout_closed | apply execResultTimeout_closed
      | apply execBpmHandover_closed | apply execBpmFree_closed | apply execPoolInit_closed | apply execPoolInitDone_closed
      | apply execPoolDisable_closed | apply execOwnerQuery_closed | apply execCvuStart_closed | apply execCvuFinish_closed
      | apply execCvuSuspend_closed | apply execCvuResume_closed | apply execFeed_closed | apply execCvuCancel_closed
      | apply execScanSubmit_closed | apply execScanCancel_closed | apply execScanJobStart_closed
      | apply execHostFrameReceive_closed | apply execCnp_closed | apply execRateRaise_closed | apply execAckTimeout_closed
      | apply execQpConnect_closed | apply execQpReset_closed | apply execRingPoll_closed | apply execRingNop_closed
      | apply execRingPoolFree_closed | apply execRingCompletion_closed | apply execRingStart_closed
      | apply execRingStop_closed | apply execFwdOutbound_closed | apply execFwdInbound_closed | apply execMirrorOut_closed
      | apply execCdpRead_closed | apply execDescribe_closed | apply execCdpNext_closed | apply execNvWrite_closed
      | apply execNvErase_closed | apply execSessionOpen_closed | apply execSessionFinish_closed
      | apply execSessionClose_closed | apply execImageWrite_closed | apply execCdpIdleExpiry_closed
      | apply execSessionFinishTimeout_closed | apply execNvBankErase_closed | apply execNvBankEraseDone_closed
      | apply execNvVerify_closed | apply execNvActivate_closed | apply execHeartbeatSend_closed
      | apply execProbeRelayTimeout_closed | apply execProbeMsg_closed | apply execHelloSend_closed | apply execHelloMsg_closed
      | apply execGuardSyncMsg_closed | apply execRestAnswerMsg_closed | apply execRestQueryRetry_closed
      | apply execMarshalAdmit_closed | apply execInputDip_closed | apply execOvWarn_closed | apply execReverseBlock_closed
      | apply execReverseConduct_closed | apply execGovernorUpdate_closed | apply execLoopLost_closed
      | apply execStageRemove_closed | apply execStageCancel_closed | apply execStageSafe_closed | apply execStageInsert_closed
      | apply execUnitResetCore_closed | apply execUnitResetSu_closed | apply execUnitResetCvu_closed
      | apply execUnitResetHostPort_closed | apply execResetNRelease_closed | apply execKeysCmd_closed
      | apply execRollbackCommit_closed | apply execSvnCommit_closed | apply execFwErase_closed | apply execFwVerify_closed
      | apply execFwActivate_closed | apply execAttest_closed | apply execExtendMr_closed | apply execSmbusBlockRead_closed
      | apply execSidebandUpdate_closed | apply execLightReturns_closed | apply execTrainingCheckExpiry_closed
      | apply execOsfpInsert_closed | apply execOsfpRemove_closed | apply execHostPortUp_closed | apply execHostPortDown_closed
      | apply execAcknowledgement_closed | apply execFwEraseDone_closed | apply execInletHigh_closed

end

end Sys2Proof.Laws
end

section
/-! PROOFS. A scratch is left only by a restart (O6): the restarts, and the commands that a CDP write asks for. -/

namespace Sys2Proof.Laws

set_option Elab.async false

open Sys2Proof.Machine

/-! ### Restarts -/

/-- The module has restarted: it stands in a start-up phase without an ID, and nothing of what its units held is left. -/
def Restarted (t : State) : Prop :=
  t.boot ∈ [Boot.off, .held, .rom, .aop] ∧ t.service = 0 ∧ t.devId = 0xFFFF ∧ t.cores = [] ∧ t.frames = [] ∧ t.sent = [] ∧
    t.powerEntry = none ∧ t.powerWake = []

theorem objKey_div (c : ObjCode) (i : Nat) : objKey c i / 2 ^ 32 = c := by
  have hlt : i % 2 ^ 32 < 2 ^ 32 := Nat.mod_lt i (by decide)
  unfold objKey
  rw [Nat.add_comm, Nat.add_mul_div_right _ _ (by decide), Nat.div_eq_of_lt hlt, Nat.zero_add]

/-- Of a filter that drops a key, the default is left under it. -/
theorem get_filter_dropped {α : Type} {l : KMap α} {g : Nat × α → Bool} {k : Nat} (hg : ∀ v, g (k, v) = false) (d : α) :
    KMap.get (l.filter g) d k = d := by
  cases hf : KMap.find (l.filter g) k with
  | none => rw [KMap.get, hf, Option.getD_none]
  | some v =>
    have hkept := (List.mem_filter.mp (find_mem hf)).2
    rw [hg v] at hkept
    cases hkept

theorem rd_of_stored {s : State} {c : ObjCode} (hid : identRead s.ident c = none) (i : Nat) :
    s.rd c i = KMap.get s.objs (factoryKey (objKey c i)) (objKey c i) := by
  unfold State.rd
  rw [hid]

/-- Volatile objects, but for MEASUREMENT, are not kept (R499). -/
theorem keptEntry_of_volatile {key : Nat} {o : ObjInfo} (ho : objInfo (key / 2 ^ 32) = some o) (hv : o.persist = .v)
    (hkey : key ≠ objKey Obj.measurement 0) (kind : Nat) (keep : Bool) : keptEntry kind keep key = false := by
  unfold keptEntry
  rw [ho]
  simp [hv, beq_eq_false_iff_ne.mpr hkey]

theorem restart_rd {s : State} {kind : Nat} {ended : Bool} {c : ObjCode} {o : ObjInfo} (ho : objInfo c = some o)
    (hv : o.persist = .v) (hid : identRead s.ident c = none) (hc : c ≠ Obj.measurement) (hlast : c ≠ Obj.lastReset) (i : Nat) :
    (s.restart kind ended).rd c i = factoryKey (objKey c i) := by
  have hkey : objKey c i ≠ objKey Obj.measurement 0 := fun h => hc (by rw [← objKey_div c i, h, objKey_div])
  have hinfo : objInfo (objKey c i / 2 ^ 32) = some o := by rw [objKey_div, ho]
  unfold State.restart
  extract_lets keep src t
  rw [State.rd_wr_obj t 0 i _ hlast, rd_of_stored (s := t) hid]
  exact get_filter_dropped (fun _ => keptEntry_of_volatile hinfo hv hkey kind keep) _

theorem restart_boot {s : State} {kind : Nat} {ended : Bool} {b : Boot} (hb : b ∈ [Boot.off, .held, .rom, .aop]) :
    Restarted { s.restart kind ended with boot := b } := by
  have hdev : objInfo Obj.deviceId = some ⟨Obj.deviceId, .u16, 2, 0, .ro, .v, 0, 65535⟩ := by decide +kernel
  refine ⟨hb, ?_, ?_, rfl, rfl, rfl, rfl, rfl⟩
  · exact (restart_rd (s := s) objInfo_serviceState rfl rfl (by decide) (by decide) 0).trans (by decide +kernel)
  · exact (restart_rd (s := s) hdev rfl rfl (by decide) (by decide) 0).trans (by decide +kernel)

/-- An answer to a CDP message touches none of it. -/
theorem Restarted.closed : Closed (1 <<< 258 ||| 1 <<< 327 ||| 1 <<< 328) Restarted := by
  have hobj (c : ObjCode) : Foot.obj (1 <<< 258 ||| 1 <<< 327 ||| 1 <<< 328) c = false := by
    have hall : ∀ n < 256, (1 <<< 258 ||| 1 <<< 327 ||| 1 <<< 328).testBit n = false := by decide +kernel
    exact hall _ (Foot.tag_lt c)
  constructor
  case wr => exact fun s c i v hc => absurd hc (by rw [hobj c]; exact Bool.false_ne_true)
  case drop =>
    intro s g hg h
    have hsame : s.objs.filter g = s.objs := List.filter_eq_self.mpr fun p _ => hg p (hobj _)
    rwa [hsame]
  case out | sessions | sources => exact fun _ _ _ h => h
  all_goals exact fun hm => absurd hm (by decide +kernel)

/-- A scratched module that a command leaves scratched or restarts. -/
def ScratchedOrRestarted (t : State) : Prop := StillScratched t ∨ Restarted t

theorem SatR.mono {P Q : State → Prop} {r : Res} (h : SatR P r) (hPQ : ∀ t, P t → Q t) : SatR Q r :=
  ⟨fun t e => hPQ t (h.of_eq e)⟩

theorem warmStart_restarted (s : State) : Restarted s.warmStart := by
  have hphase : (if s.resetLow then Boot.held else .aop) ∈ [Boot.off, .held, .rom, .aop] := ite_sat (by decide) (by decide)
  unfold State.warmStart
  extract_lets t u
  have hu : Restarted { u with boot := if s.resetLow then Boot.held else .aop } := by
    unfold u
    split
    · exact restart_boot hphase
    · exact restart_boot hphase
  exact hu

section

variable {s : State} (h : StillScratched s)
include h

theorem trip_leaves (bit count : Nat) : ScratchedOrRestarted (s.trip bit count) :=
  ite_sat (.inl h) (.inr (restart_boot (by decide)))

theorem exec_leaves_of_mayRestart {i : Instr} (hi : mayRestart i = true) : SatR ScratchedOrRestarted (exec i s) := by
  have hcold (kind : Nat) (ended : Bool) : Restarted (s.coldStart kind ended) := restart_boot (b := .rom) (by decide)
  have hanswer (code : Nat) : SatR ScratchedOrRestarted (.next (s.securityAnswer code)) := .next (.inl (h.wr (by decide) ..))
  cases i
  case tripUv | tripOv => exact .next (ite_sat (trip_leaves h ..) (.inl h))
  case tripRestart =>
    simp -zeta only [exec, execTripRestart]
    split
    · exact .next (ite_sat (.inl h) (.inr (hcold ..)))
    · exact .next (.inl h)
  case powerOn => exact .next (ite_sat (.inr (hcold ..)) (.inl h))
  case aopFloor => exact .next (ite_sat (.inl h) (.inr (restart_boot (by decide))))
  case warmReset => exact ite_sat (.next (.inl h)) (.next (.inr (warmStart_restarted s)))
  case resetNAssert =>
    exact ite_sat (.next (.inl h)) (ite_sat (.next (.inl h)) (.next (.inr (restart_boot (by decide)))))
  case commission =>
    exact ite_sat (hanswer 2) (ite_sat (hanswer 3) (ite_sat (hanswer 5) (.next (.inr (warmStart_restarted _)))))
  case decommission =>
    exact ite_sat (hanswer 2) (ite_sat (hanswer 3) (ite_sat (hanswer 4) (.next (.inr (warmStart_restarted _)))))
  all_goals cases hi

/-- Every command but a CDP write, which may ask for another. -/
theorem exec_leaves {i : Instr} (hi : ∀ m fed reachable e, i ≠ .cdpWrite m fed reachable e) :
    SatR ScratchedOrRestarted (exec i s) := by
  cases hstops : stopsWhenScratched i with
  | true => exact ((exec_idle_of_scratched hstops h.1).stays h).mono fun _ => .inl
  | false =>
    cases hanswered : answeredWhenScratched i with
    | true => exact (exec_stays_of_answered h hanswered).mono fun _ => .inl
    | false =>
      cases hscratch : mayScratch i with
      | true => exact (exec_stays_of_mayScratch h hscratch).mono fun _ => .inl
      | false =>
        cases hrestart : mayRestart i with
        | true => exact exec_leaves_of_mayRestart h hrestart
        | false => exact (exec_stays_of_outside h hstops hanswered hscratch hrestart hi).mono fun _ => .inl

end

/-! ### Commands asked for by a write of a CMD object -/

section

variable {Q : Option (State → Res) → Prop} (hnone : Q none) (hcommand : ∀ i, startedByWrite i = true → Q (some (exec i)))

include hnone hcommand

/-- What holds of every command that such a write can ask for, and of none, holds of what it asks for. -/
theorem cmdAction_sat (hgroup : ∀ e, Q (some (execGroupSetup e))) (s : State) (c : ObjCode) (v : Nat) (e : Ecc) :
    Q (s.cmdAction c v e) := by
  unfold State.cmdAction
  extract_lets lo act
  refine ite_sat (ite_sat (hcommand .scratchNow rfl) hnone) ?_
  refine ite_sat (ite_sat (hcommand (.coreLaunch ..) rfl) hnone) ?_
  refine ite_sat (ite_sat (hcommand (.coreStop ..) rfl) hnone) ?_
  refine ite_sat (ite_sat (hcommand (.rakeTotalClear ..) rfl) hnone) ?_
  refine ite_sat (ite_sat (hcommand (.totalClear ..) rfl) hnone) ?_
  refine ite_sat (ite_sat (hcommand (.recalNow ..) rfl) hnone) ?_
  refine ite_sat (ite_sat hnone <| ite_sat (hcommand (.dimmDrain ..) rfl) <| ite_sat (hcommand (.dimmPowerOff ..) rfl) <|
    ite_sat (hcommand (.dimmPowerOn ..) rfl) <| ite_sat (hcommand (.dimmReturn ..) rfl) <|
    ite_sat (hcommand (.drainCancel ..) rfl) hnone) ?_
  refine ite_sat (ite_sat (hcommand (.streamReset ..) rfl) hnone) ?_
  refine ite_sat (ite_sat hnone <| ite_sat (hcommand (.guardActivate ..) rfl) <|
    ite_sat (hcommand (.guardDeactivate ..) rfl) hnone) ?_
  refine ite_sat (ite_sat hnone <| ite_sat (hcommand (.portEnable ..) rfl) <| ite_sat (hcommand (.portDisable ..) rfl) <|
    ite_sat (hcommand (.retrain ..) rfl) <| ite_sat (hcommand (.portSelftest ..) rfl) hnone) ?_
  refine ite_sat (ite_sat hnone <| ite_sat (hcommand (.elsRemove ..) rfl) <| ite_sat (hcommand (.elsCancel ..) rfl) hnone) ?_
  refine ite_sat (ite_sat (hcommand (.routeCommit ..) rfl) hnone) ?_
  refine ite_sat (ite_sat (ite_sat (hcommand (.flowCreate ..) rfl) hnone) <| ite_sat (hcommand (.flowDelete ..) rfl) hnone) ?_
  refine ite_sat (ite_sat (hcommand (.programLoad ..) rfl) <| ite_sat (hcommand (.programClear ..) rfl) hnone) ?_
  refine ite_sat (ite_sat (hcommand (.bind ..) rfl) <| ite_sat (hcommand (.unbind ..) rfl) <|
    ite_sat (hcommand (.forceUnbind ..) rfl) hnone) ?_
  refine ite_sat (ite_sat (hcommand (.bitmapClear ..) rfl) hnone) ?_
  exact ite_sat (ite_sat hnone <| ite_sat (ite_sat (hgroup e) hnone) <| ite_sat (hcommand (.groupDestroy ..) rfl) <|
    ite_sat (hcommand (.groupResume ..) rfl) hnone) hnone

theorem cmdActionTwo_sat (c : ObjCode) (v : Nat) (owner reachable : Bool) (fed : Nat) (e : Ecc) :
    Q (cmdActionTwo c v owner reachable fed e) := by
  unfold cmdActionTwo
  extract_lets lo act taker buf
  refine ite_sat (ite_sat hnone <| ite_sat (hcommand (.bpmAllocLow ..) rfl) <| ite_sat (hcommand (.bpmAllocHigh ..) rfl) <|
    ite_sat (hcommand (.bpmFree ..) rfl) <| ite_sat (hcommand (.bpmHandover ..) rfl) <| ite_sat (hcommand (.poolInit ..) rfl) <|
    ite_sat (hcommand (.poolDisable ..) rfl) hnone) ?_
  refine ite_sat (ite_sat (hcommand (.ownerQuery ..) rfl) hnone) ?_
  refine ite_sat (ite_sat hnone <| ite_sat (hcommand (.cvuStart ..) rfl) <| ite_sat (hcommand (.cvuFinish ..) rfl) <|
    ite_sat (hcommand (.cvuSuspend ..) rfl) <| ite_sat (hcommand (.cvuResume ..) rfl) <| ite_sat (hcommand (.feed ..) rfl) <|
    ite_sat (hcommand (.cvuCancel ..) rfl) hnone) ?_
  refine ite_sat (ite_sat (hcommand .scanSubmit rfl) <| ite_sat (hcommand (.scanCancel ..) rfl) hnone) ?_
  refine ite_sat (ite_sat hnone <| ite_sat (hcommand (.qpConnect ..) rfl) <| ite_sat (hcommand (.qpReset ..) rfl) hnone) ?_
  refine ite_sat (ite_sat hnone <| ite_sat (hcommand (.ringStart ..) rfl) <| ite_sat (hcommand (.ringStop ..) rfl) hnone) ?_
  refine ite_sat (ite_sat (hcommand .nvBankErase rfl) <| ite_sat (hcommand .nvVerify rfl) <|
    ite_sat (hcommand .nvActivate rfl) hnone) ?_
  refine ite_sat (ite_sat hnone <| ite_sat (hcommand .marshalAdmit rfl) <| ite_sat (hcommand (.spareReady ..) rfl) <|
    ite_sat (hcommand (.marshalScratch ..) rfl) <| ite_sat (hcommand (.takeManager ..) rfl) hnone) ?_
  refine ite_sat (ite_sat (hcommand .powerRun rfl) <| ite_sat (hcommand .powerHold rfl) <| ite_sat (hcommand .powerRest rfl) <|
    ite_sat (hcommand .powerDeepRest rfl) hnone) ?_
  refine ite_sat (ite_sat (hcommand .warmReset rfl) hnone) ?_
  refine ite_sat (ite_sat (hcommand (.unitResetCore ..) rfl) <| ite_sat (hcommand (.unitResetSu ..) rfl) <|
    ite_sat (hcommand (.unitResetCvu ..) rfl) <| ite_sat (hcommand (.unitResetHostPort ..) rfl) hnone) ?_
  refine ite_sat (ite_sat hnone <| ite_sat (hcommand (.stageRemove ..) rfl) <|
    ite_sat (hcommand (.stageCancel ..) rfl) hnone) ?_
  refine ite_sat (ite_sat (hcommand .commission rfl) <| ite_sat (hcommand (.decommission ..) rfl) <|
    ite_sat (hcommand (.keysCmd ..) rfl) <| ite_sat (hcommand (.rollbackCommit ..) rfl) <|
    ite_sat (hcommand (.svnCommit ..) rfl) <|
    ite_sat (hcommand .fwErase rfl) <| ite_sat (hcommand .fwVerify rfl) <| ite_sat (hcommand .fwActivate rfl) hnone) ?_
  exact ite_sat (ite_sat (hcommand .attest rfl) hnone) hnone

end

/-- What is asked for keeps a scratched module scratched or restarts it. -/
def AskedLeaves (o : Option (State → Res)) : Prop :=
  ∀ f, o = some f → ∀ t, StillScratched t → SatR ScratchedOrRestarted (f t)

theorem AskedLeaves.none : AskedLeaves none := nofun

theorem AskedLeaves.command (i : Instr) (hi : startedByWrite i = true) : AskedLeaves (some (exec i)) := by
  rintro _ ⟨⟩ t ht
  refine exec_leaves ht ?_
  rintro m fed reachable e rfl
  cases hi

theorem AskedLeaves.groupSetup (e : Ecc) : AskedLeaves (some (execGroupSetup e)) := by
  rintro _ ⟨⟩ t ht
  exact exec_leaves (i := .groupSetup e) ht nofun

theorem writeCmd_leaves (s : State) (o : ObjInfo) (idx off : Nat) (bs : List Byte) (owner reachable : Bool) (fed : Nat)
    (e : Ecc) : AskedLeaves (s.writeCmd o idx off bs owner reachable fed e).2 := by
  unfold State.writeCmd
  extract_lets v
  split_ifs
  · exact .none
  · exact .none
  · exact .none
  · exact .none
  split
  next f hf =>
    rintro _ ⟨⟩
    rcases Option.or_eq_some_iff.mp hf with hone | ⟨-, htwo⟩
    · exact cmdAction_sat (Q := AskedLeaves) .none .command .groupSetup s o.code v e f hone
    · exact cmdActionTwo_sat (Q := AskedLeaves) .none .command o.code v owner reachable fed e f htwo
  next => exact .none

/-! ### CDP writes -/

section

variable {s : State} (h : StillScratched s)

theorem ScratchedOrRestarted.cdpAnswer (s : State) (m : CdpMsg) (key : Option Nat) {a : CdpAnswer}
    (ha : ScratchedOrRestarted a.state) : ScratchedOrRestarted (s.cdpAnswer m key a) := by
  rcases ha with ha | ha
  · exact .inl (State.cdpAnswer_closed (stays (by decide +kernel)) m key a ha)
  · exact .inr (State.cdpAnswer_closed (Restarted.closed.mono (by decide +kernel)) m key a ha)

include h

theorem cdpPerformWrite_leaves (m : CdpMsg) (key : Option Nat) (owner reachable : Bool) (fed : Nat) (e : Ecc) :
    SatR ScratchedOrRestarted (s.cdpPerformWrite m key owner reachable fed e) := by
  unfold State.cdpPerformWrite
  extract_lets answer
  have hanswer (st : Nat) {t : State} (ht : ScratchedOrRestarted t) : SatR ScratchedOrRestarted (.next (answer st t)) :=
    .next (.cdpAnswer s m key ht)
  split
  · exact hanswer _ (.inl h)
  next o ho =>
    refine ite_sat (hanswer _ (.inl h)) (ite_sat ?_ (hanswer _ (.inl (h.writeObject ho ..).snd)))
    have hasked := writeCmd_leaves s o m.index m.offset m.payload owner reachable fed e
    extract_lets r
    split
    · exact hanswer _ (.inl h)
    next f hf =>
      have hf := hasked f hf s h
      split
      next t ht => exact hanswer _ (hf.of_eq ht)
      · exact .fault
      · exact .refused

theorem cdpCount_stays (k : Nat) : StillScratched (s.cdpCount k) := State.cdpCount_closed (stays (by decide +kernel)) h k

theorem cdpSend_stays (t : State) (m : CdpMsg) (key : Option Nat) (bs : List Byte) : StillScratched (s.cdpSend t m key bs) :=
  State.cdpSend_closed (stays (by decide +kernel)) h ..

theorem cdpRefuse_stays (m : CdpMsg) (key : Option Nat) (status : Nat) : StillScratched (s.cdpRefuse m key status) :=
  cdpSend_stays h ..

variable {perform : State → Res} (hperform : ∀ t, StillScratched t → SatR ScratchedOrRestarted (perform t))
include hperform

theorem cdpBySeq_leaves (m : CdpMsg) (key high : Option Nat) (cache : List (Nat × List Byte)) :
    SatR ScratchedOrRestarted (s.cdpBySeq m key high cache perform) := by
  unfold State.cdpBySeq
  extract_lets later
  refine ite_sat (hperform s h) ?_
  split
  · exact .next (.inl (cdpSend_stays (cdpCount_stays h 1) ..))
  · exact .next (.inl (cdpRefuse_stays (cdpCount_stays h 5) ..))

theorem cdpSessionless_leaves (m : CdpMsg) : SatR ScratchedOrRestarted (s.cdpSessionless m perform) := by
  refine ite_sat (.next (.inl (cdpCount_stays h 3))) (cdpBySeq_leaves h (fun t ht => ?_) ..)
  have hsource : StillScratched (t.setSource { s.source m with high := some m.seq }) :=
    State.setSource_closed (stays (by decide +kernel)) ht _
  exact ite_sat (hperform _ (cdpCount_stays hsource 0))
    (.next (.cdpAnswer _ m none (a := ⟨_, _, _, _⟩) (.inl (cdpCount_stays hsource 2))))

theorem cdpInSession_leaves (m : CdpMsg) (x : Session) : SatR ScratchedOrRestarted (s.cdpInSession m x perform) := by
  have hsession {t : State} (ht : StillScratched t) (x : Option Session) : StillScratched (t.setSession m.session x) :=
    State.setSession_closed (stays (by decide +kernel)) ht ..
  unfold State.cdpInSession
  extract_lets u
  refine cdpBySeq_leaves (hsession h _) (fun t ht => ?_) ..
  have hlast := hsession ht (some { x with last := t.now, high := m.seq })
  exact ite_sat (.next (.cdpAnswer _ m _ (a := ⟨_, _, _, _⟩) (.inl (cdpCount_stays hlast 2))))
    (hperform _ (cdpCount_stays hlast 0))

theorem cdpRequest_leaves (m : CdpMsg) : SatR ScratchedOrRestarted (s.cdpRequest m perform) := by
  have hstays : SatR ScratchedOrRestarted (.next s) := .next (.inl h)
  have hrefuse (key : Option Nat) (status : Nat) : SatR ScratchedOrRestarted (.next (s.cdpRefuse m key status)) :=
    .next (.inl (cdpRefuse_stays h ..))
  unfold State.cdpRequest
  refine ite_sat hstays (ite_sat (.next (.inl (cdpCount_stays h 4))) (ite_sat hstays ?_))
  split
  · exact ite_sat (.next (.inl (ite_sat (cdpSend_stays h ..) h))) <| ite_sat (.next (.inl (cdpCount_stays h 3))) <|
      ite_sat (hrefuse ..) (cdpInSession_leaves h hperform ..)
  · exact ite_sat (hrefuse ..) <| ite_sat (hperform s h) <| ite_sat (hrefuse ..) (cdpSessionless_leaves h hperform m)

omit hperform in
theorem cdpWrite_leaves (m : CdpMsg) (fed : Nat) (reachable : Bool) (e : Ecc) :
    SatR ScratchedOrRestarted (execCdpWrite m fed reachable e s) :=
  ite_sat (.next (.inl h)) (cdpRequest_leaves h (fun _ ht => cdpPerformWrite_leaves ht ..) m)

end

/-! ### Every command -/

theorem exec_leaves_scratched_or_restarted {s : State} (h : StillScratched s) (i : Instr) :
    SatR ScratchedOrRestarted (exec i s) := by
  by_cases hi : ∃ m fed reachable e, i = .cdpWrite m fed reachable e
  · obtain ⟨m, fed, reachable, e, rfl⟩ := hi
    exact cdpWrite_leaves h m fed reachable e
  · exact exec_leaves h fun m fed reachable e heq => hi ⟨m, fed, reachable, e, heq⟩

/-- Settles O6: no command but a restart writes another SERVICE_STATE into a scratched module
(`exec_leaves_scratched_or_restarted`). -/
theorem scratchIsLeftOnlyByAReset : Obligations.ScratchIsLeftOnlyByAReset := by
  unfold Obligations.ScratchIsLeftOnlyByAReset
  intro c s t hs he hw hstep
  rcases (exec_leaves_scratched_or_restarted ⟨hs, he, hw⟩ c).of_eq hstep with ⟨hs', he', hw'⟩ | hrestarted
  · exact ⟨he', hw', .inl hs'⟩
  · obtain ⟨hboot, hservice, hdev, hcores, hframes, hsent, he', hw'⟩ := hrestarted
    exact ⟨he', hw', .inr ⟨hboot, hservice, hdev, hcores, hframes, hsent⟩⟩

end Sys2Proof.Laws
end

section
/-! PROOFS. A scratch stops the module (O7). -/

namespace Sys2Proof.Laws

set_option Elab.async false

open Sys2Proof.Machine

/-! ### The record of a scratch -/

theorem scratchRecord_service (s : State) (cause : Nat) : (s.scratchRecord cause).service = 2 :=
  State.rd_wr_same _ Obj.serviceState 0 2 rfl

theorem scratchRecord_scratchCause (s : State) {cause k : Nat} :
    (s.scratchRecord cause).fld Obj.scratchCause 0 k 1 = if k = cause then 1 else s.fld Obj.scratchCause 0 k 1 := by
  unfold State.scratchRecord
  extract_lets first t u
  have hcause : u.fld Obj.scratchCause 0 k 1 = t.fld Obj.scratchCause 0 k 1 := by
    unfold u
    split
    · exact State.fld_wr_obj _ _ _ _ _ _ (by decide)
    · rfl
  rw [State.fld_wr_obj u 0 0 2 k 1 (by decide), hcause]
  split
  next hk => rw [hk]; exact State.fld_wrFld_same s Obj.scratchCause 0 cause 1 1 rfl
  next hk => exact State.fld_wrFld_other s Obj.scratchCause 0 cause 1 1 k 1 rfl (by omega)

/-- SCRATCH_TIME is the time of the first scratch (R38). -/
theorem scratchRecord_scratchTime (s : State) (cause : Nat) :
    (s.scratchRecord cause).rd Obj.scratchTime 0 = if s.scratched then s.rd Obj.scratchTime 0 else s.now % 2 ^ 64 := by
  unfold State.scratchRecord
  extract_lets first t u
  have ht : t.rd Obj.scratchTime 0 = s.rd Obj.scratchTime 0 := State.rd_wrFld_obj s _ _ _ _ _ (by decide)
  rw [State.rd_wr_obj u 0 0 2 (by decide)]
  unfold u first
  cases hs : s.scratched with
  | true => simpa using ht
  | false =>
    simp only [Bool.not_false, if_true]
    exact State.rd_wr_same t Obj.scratchTime 0 _ rfl

/-! ### The units in flight -/

theorem ringsDie_qpState (s : State) (q p : Nat) : (s.ringsDie q).qpState p = s.qpState p := by
  have hagree := State.ringsDie_closed (Agree.closed s (by decide +kernel)) (Agree.refl _ s) q
  unfold State.qpState State.fld
  rw [hagree.rd _ _ (by decide +kernel)]

theorem qpError_qpState (s : State) {p q : Nat} (hp : p < 512) (hq : q < 512) :
    (s.qpError q).qpState p = if p = q ∧ s.qpState q = 1 then 2 else s.qpState p := by
  unfold State.qpError
  by_cases hready : s.qpState q = 1
  · rw [if_neg (not_not.mpr hready), ringsDie_qpState]
    show (s.wrFld Obj.qpTable q 0 2 2).fld Obj.qpTable p 0 2 = _
    by_cases hpq : p = q
    · rw [if_pos ⟨hpq, hready⟩, hpq]
      exact State.fld_wrFld_same s Obj.qpTable q 0 2 2 rfl
    · rw [if_neg fun h => hpq h.1]
      unfold State.fld State.wrFld
      rw [State.rd_wr_idx _ _ _ _ (by omega)]
      rfl
  · rw [if_pos hready, if_neg fun h => hready h.2]

theorem qpError_qpState_ne (s : State) {p q : Nat} (hp : p < 512) (hq : q < 512) (h : p = q ∨ s.qpState p ≠ 1) :
    (s.qpError q).qpState p ≠ 1 := by
  rw [qpError_qpState s hp hq]
  split_ifs with hboth
  · decide
  · rintro h1
    rcases h with rfl | h
    · exact hboth ⟨rfl, h1⟩
    · exact h h1

/-- No queue pair stays READY (R404). -/
theorem qpsError_qpState_ne (s : State) {p : Nat} (hp : p < 512) : s.qpsError.qpState p ≠ 1 := by
  have hfold : ∀ (l : List Nat), (∀ q ∈ l, q < 512) → ∀ t : State, p ∈ l ∨ t.qpState p ≠ 1 →
      (l.foldl (fun u q => u.qpError q) t).qpState p ≠ 1 := by
    intro l
    induction l with
    | nil => exact fun _ t h => h.resolve_left (List.not_mem_nil)
    | cons q l ih =>
      intro hl t h
      refine ih (fun r hr => hl r (.tail _ hr)) _ ?_
      by_cases hmem : p ∈ l
      · exact .inl hmem
      · refine .inr (qpError_qpState_ne t hp (hl q (.head _)) ?_)
        rcases h with h | h
        · exact .inl ((List.mem_cons.mp h).resolve_right hmem)
        · exact .inr h
  exact hfold _ (fun q => List.mem_range.mp) s (.inl (List.mem_range.mpr hp))

/-! ### The scratch -/

/-- What a first scratch writes beside its record: ports and units. -/
def stopFoot : Nat := 0x1c00000001e1c19863868060000001000000800000104000000000000221c81800a90000000000000000000

/-- What the first scratch does to ports and units leaves its record as it is. -/
theorem scratchStops_agree (s : State) :
    Agree stopFoot s s.scratchPorts.scratchUnits :=
  have hclosed := Agree.closed s (by decide +kernel)
  State.scratchUnits_closed (hclosed.mono (by decide +kernel))
    (State.scratchPorts_closed (hclosed.mono (by decide +kernel)) (Agree.refl _ s))

/-- A first scratch and a later one record alike. -/
theorem scratch_rd (s : State) (cause : Nat) {c : ObjCode}
    (hc : Foot.obj stopFoot c = false) (i : Nat) :
    (s.scratch cause).rd c i = (s.scratchRecord cause).rd c i := by
  unfold State.scratch
  split
  · rfl
  · exact (scratchStops_agree _).rd c i hc

theorem scratch_agree (s : State) (cause : Nat) :
    Agree 0x1c00000001e1c19863868060000001000000800000104000000000000221c81800a90000000000000001c00 s (s.scratch cause) :=
  State.scratch_closed (Agree.closed s (by decide +kernel)) (Agree.refl _ s) cause

theorem scratch_service (s : State) (cause : Nat) : (s.scratch cause).service = 2 :=
  (scratch_rd s cause (by decide +kernel) 0).trans (scratchRecord_service s cause)

theorem scratch_scratched (s : State) (cause : Nat) : (s.scratch cause).scratched = true := by
  simp [State.scratched, scratch_service]

theorem scratch_scratchCause (s : State) (cause k : Nat) :
    (s.scratch cause).fld Obj.scratchCause 0 k 1 = if k = cause then 1 else s.fld Obj.scratchCause 0 k 1 := by
  rw [← scratchRecord_scratchCause s]
  unfold State.fld
  rw [scratch_rd s cause (by decide +kernel)]

theorem scratch_scratchTime (s : State) (cause : Nat) :
    (s.scratch cause).rd Obj.scratchTime 0 = if s.scratched then s.rd Obj.scratchTime 0 else s.now % 2 ^ 64 :=
  (scratch_rd s cause (by decide +kernel) 0).trans (scratchRecord_scratchTime s cause)

theorem rd_of_objs {s t : State} (ho : t.objs = s.objs) (hi : t.ident = s.ident) (c : ObjCode) (i : Nat) :
    t.rd c i = s.rd c i := by
  unfold State.rd
  rw [ho, hi]

theorem scratchUnits_qpState_ne (s : State) {q : Nat} (hq : q < 512) : s.scratchUnits.qpState q ≠ 1 := by
  have hobjs : s.scratchUnits.objs = (s.qpsError.wrFld Obj.powerState 0 2 2 0).objs := by simp only [State.scratchUnits]
  have hident : s.scratchUnits.ident = (s.qpsError.wrFld Obj.powerState 0 2 2 0).ident := by simp only [State.scratchUnits]
  have hunits : s.scratchUnits.qpState q = (s.qpsError.wrFld Obj.powerState 0 2 2 0).qpState q :=
    congrArg (bits · 0 2) (rd_of_objs hobjs hident Obj.qpTable q)
  have hpower : (s.qpsError.wrFld Obj.powerState 0 2 2 0).qpState q = s.qpsError.qpState q :=
    State.fld_wrFld_obj s.qpsError 0 q 2 2 0 0 2 (by decide)
  rw [hunits, hpower]
  exact qpsError_qpState_ne s hq

theorem scratch_of_first {s : State} (h : s.scratched = false) (cause : Nat) :
    s.scratch cause = (s.scratchRecord cause).scratchPorts.scratchUnits := if_neg (by simp [h])

/-- A later scratch only records its cause. -/
theorem scratch_of_later {s : State} (h : s.scratched = true) (cause : Nat) : s.scratch cause = s.scratchRecord cause := if_pos h

/-! ### The commands of a core and departures -/

section

variable {s : State} (hs : s.scratched = true)
include hs

theorem core_commands_of_scratched {n : Nat} (hn : n < 96) :
    exec (.nop n) s = .next s ∧ exec (.mma n) s = .next s ∧ (∀ e, exec (.pacedDispatch n e) s = .next s) ∧
      (∀ e, exec (.pacedResult n e) s = .next s) ∧ exec (.waitLimit n) s = .next s := by
  have hrange : ¬ 96 ≤ n := Nat.not_le.mpr hn
  refine ⟨issueRow_of_scratched hs hn _, issueRow_of_scratched hs hn _, fun e => ?_, fun e => ?_, ?_⟩
  · simp [exec, execPacedDispatch, hrange, coreCanRun_of_scratched hs]
  · simp [exec, execPacedResult, hrange, coreCanRun_of_scratched hs]
  · simp [exec, execWaitLimit, hrange, coreCanRun_of_scratched hs]

theorem frameDeparture_of_scratched {egress : Nat} (he : egress < 80) : exec (.frameDeparture egress) s = .next s := by
  simp [exec, execFrameDeparture, Nat.not_le.mpr he, hs]

end

/-- Settles O7: the record (`scratch_service`, `scratch_scratchCause`, `scratch_scratchTime`), what a first scratch ends
(`scratch_of_first`), and what the scratched module does no longer. -/
theorem scratchStopsTheModule : Obligations.ScratchStopsTheModule := by
  unfold Obligations.ScratchStopsTheModule
  intro s cause _ t
  have hagree : Agree _ s t := scratch_agree s cause
  have htime : t.rd Obj.scratchTime 0 = _ := scratch_scratchTime s cause
  refine ⟨scratch_service s cause, hagree.mem (by decide +kernel), hagree.cores (by decide +kernel),
    hagree.now (by decide +kernel), fun k _ => scratch_scratchCause s cause k, fun hfirst => ?_, fun hlater => ?_,
    fun n hn => core_commands_of_scratched (scratch_scratched s cause) hn,
    fun egress he => frameDeparture_of_scratched (scratch_scratched s cause) he⟩
  · rw [hfirst] at htime
    have ht : t = (s.scratchRecord cause).scratchPorts.scratchUnits := scratch_of_first hfirst cause
    refine ⟨htime, ?_⟩
    rw [ht]
    exact ⟨rfl, rfl, rfl, rfl, rfl, rfl, rfl, rfl, rfl, rfl, rfl, fun q hq => scratchUnits_qpState_ne _ hq⟩
  · rw [hlater] at htime
    have hrecord : Agree 0x1c00 s t := by
      unfold t
      rw [scratch_of_later hlater]
      exact State.scratchRecord_closed (Agree.closed s (by decide +kernel)) (Agree.refl _ s) cause
    exact ⟨htime, hrecord.frames (by decide +kernel), hrecord.copies (by decide +kernel), hrecord.sus (by decide +kernel),
      hrecord.out (by decide +kernel)⟩

end Sys2Proof.Laws
end

section
/-! PROOFS. The energy governor, and the faults that scratch the module (O46). -/

namespace Sys2Proof.Laws

set_option Elab.async false

open Sys2Proof.Machine

/-! ### The next power -/

theorem nextPower_le_limit (p load limit charge : Nat) : nextPower p load limit charge ≤ limit := Nat.min_le_left ..

theorem nextPower_le_add (p load limit charge : Nat) : nextPower p load limit charge ≤ p + 21 := by
  unfold nextPower
  split <;> omega

theorem le_nextPower_add {p limit : Nat} (h : p ≤ limit) (load charge : Nat) : p ≤ nextPower p load limit charge + 21 := by
  unfold nextPower
  split <;> omega

/-! ### The ramps of the bays -/

/-- The state once every bay has taken its step of an update (R486). -/
def rampsStepped (s : State) : State := (s.ramps.map (·.1)).foldl (fun s bay => s.rampStep bay) s

/-- The steps touch the ramps, and the states of power stages. -/
theorem rampsStepped_agree (s : State) :
    Agree 0x20000000000000000000000000000000010000000000000000000000000000000000000000000000000000 s (rampsStepped s) :=
  foldl_sat (Agree.refl _ s) fun _ bay hu => State.rampStep_closed (Agree.closed s (by decide +kernel)) hu bay

/-- A ramp that waits and fits begins, and its power is reserved. -/
theorem rampsStepped_begins {s : State} {bay w : Nat} (hs : s.ramps = [(bay, some ⟨w, none⟩)]) (hfits : s.rampFits w = true) :
    (rampsStepped s).ramps = [(bay, some ⟨w, some s.now⟩)] ∧ (rampsStepped s).reserved = w := by
  have hramp : s.ramp bay = some ⟨w, none⟩ := by simp [State.ramp, hs, KMap.get, KMap.find]
  have hstep : rampsStepped s = s.setRamp bay (some ⟨w, some s.now⟩) := by
    simp [rampsStepped, hs, State.rampStep, hramp, hfits]
  have hset : (s.setRamp bay (some ⟨w, some s.now⟩)).ramps = [(bay, some ⟨w, some s.now⟩)] := by
    simp [State.setRamp, hs, KMap.set, KMap.put]
  rw [hstep]
  exact ⟨hset, by simp [State.reserved, hset]⟩

/-- A ramp whose time is over ends its reservation. -/
theorem rampsStepped_ends {s : State} {bay : Nat} {r : Ramp} (hs : s.ramps = [(bay, some r)]) (hover : s.rampOver bay = true) :
    (rampsStepped s).ramps = [] := by
  have hramp : s.ramp bay = some r := by simp [State.ramp, hs, KMap.get, KMap.find]
  obtain ⟨t, ht⟩ : ∃ t, r.began = some t := by
    unfold State.rampOver at hover
    rw [hramp] at hover
    cases hb : r.began with
    | some t => exact ⟨t, rfl⟩
    | none => simp [hb] at hover
  have hends : (s.rampEnds bay).ramps = [] := by simp [State.rampEnds, State.setRamp, hs, KMap.set, KMap.del]
  have hstep : rampsStepped s = s.rampStep bay := by simp [rampsStepped, hs]
  rw [hstep]
  unfold State.rampStep
  simp only [hramp, ht, hover, Option.isNone_some, Bool.false_eq_true, if_false, Bool.not_true]
  split
  · exact hends
  · exact hends

/-! ### The update -/

theorem fld_inc_other (s : State) {c : ObjCode} {i lo w lo' w' : Nat} (n : Nat) (h : identRead s.ident c = none)
    (hd : lo' + w' ≤ lo ∨ lo + w ≤ lo') : (s.inc c i lo w n).fld c i lo' w' = s.fld c i lo' w' := by
  unfold State.inc
  extract_lets v
  split
  · exact State.fld_wrFld_other s c i lo w _ lo' w' h hd
  · exact State.fld_wrFld_other s c i lo w _ lo' w' h hd

/-- Whether the governor lowers D (R483). -/
def dutyFalls (u : State) (p demand : Nat) : Bool :=
  u.junctionHolds || u.hbmHolds || u.inputBlocked || u.rampWaits || decide (p < 2 * demand)

/-- The D that an update chooses (R483). -/
def nextDuty (u : State) (p demand : Nat) : Nat :=
  if dutyFalls u p demand then u.draw 0 % max 1 u.duty else u.duty + u.draw 0 % (257 - u.duty)

/-- What an update leaves, where it comes a microsecond after the last. -/
theorem governorUpdate_next {s : State} (hdead : s.aopDead = false) (hboot : s.boot ≠ .off) (htime : s.govAt + 1000 ≤ s.now)
    (volts amps power demand : Nat) :
    let u := rampsStepped s
    let p := nextPower u.govPower (2 * demand) (2 * s.powerLimit volts - u.reserved) (u.risenBy u.now - u.risenBy (u.now - 1000))
    ∃ t, execGovernorUpdate volts amps power demand s = .next t ∧ t.govPower = p ∧ t.thermHold = u.junctionHolds ∧
      t.hbmHold = u.hbmHolds ∧ t.govAt = u.now ∧ t.ramps = u.ramps ∧ t.duty = nextDuty u p demand % 2 ^ 9 ∧
      t.fld Obj.governorState 0 32 16 = s.powerLimit volts % 2 ^ 16 := by
  intro u p
  unfold execGovernorUpdate
  rw [if_neg (by simp [hdead, hboot, htime])]
  extract_lets limit _ charge _ junction hbm hold d falls d' ballast at130 a b c e f g
  have hc {lo w : Nat} (h : lo + w ≤ 128) : c.fld Obj.governorState 0 lo w = b.fld Obj.governorState 0 lo w := by
    unfold c
    split
    · exact State.fld_wrFld_other b _ _ _ _ _ _ _ rfl (.inl h)
    · rfl
  have he {lo w : Nat} (h : lo + w ≤ 192) : e.fld Obj.governorState 0 lo w = c.fld Obj.governorState 0 lo w := by
    unfold e
    split
    · exact fld_inc_other c 1 rfl (.inl h)
    · rfl
  have hf (lo w : Nat) : f.fld Obj.governorState 0 lo w = e.fld Obj.governorState 0 lo w := by
    unfold f
    split
    · exact State.fld_wrFld_obj e _ _ _ _ _ _ _ (by decide)
    · rfl
  have hfld {lo w : Nat} (h : lo + w ≤ 128) : f.fld Obj.governorState 0 lo w = b.fld Obj.governorState 0 lo w := by
    rw [hf, he (by omega), hc h]
  have hagree : Agree (2 ^ 256 - 1 + 2 ^ 257) u f := by
    have hclosed := Agree.closed (m := 2 ^ 256 - 1 + 2 ^ 257) u (by decide +kernel)
    have hall (c : ObjCode) : Foot.obj (2 ^ 256 - 1 + 2 ^ 257) c = true := Foot.obj_of_all (by decide +kernel) c
    have ha : Agree _ u a := ite_sat (State.wr_closed hclosed (hall _) (Agree.refl _ u) ..) (Agree.refl _ u)
    have hb : Agree _ u b := State.wrFld_closed hclosed (hall _)
      (State.wrFld_closed hclosed (hall _) (State.wrFld_closed hclosed (hall _) ha ..) ..) ..
    have hc : Agree _ u c := ite_sat (State.wrFld_closed hclosed (hall _) hb ..) hb
    have he : Agree _ u e := ite_sat (State.inc_closed hclosed (by decide +kernel) (hall _) hc ..) hc
    exact ite_sat (State.wrFld_closed hclosed (hall _) he ..) he
  refine ⟨_, rfl, rfl, rfl, rfl, hagree.now (by decide +kernel), hagree.ramps (by decide +kernel), ?_, ?_⟩
  · refine (hfld (by decide)).trans ?_
    unfold b
    rw [State.fld_wrFld_other _ _ _ _ _ _ _ _ rfl (.inl (by decide)),
      State.fld_wrFld_other _ _ _ _ _ _ _ _ rfl (.inl (by decide)),
      State.fld_wrFld_same _ _ _ _ _ _ rfl]
    rfl
  · refine (hfld (by decide)).trans ?_
    exact State.fld_wrFld_same _ _ _ _ _ _ rfl

/-- D stays at or below 256, falls where it must, and rises otherwise (R483). -/
theorem nextDuty_le {u : State} (h : u.duty ≤ 256) (p demand : Nat) : nextDuty u p demand ≤ 256 := by
  unfold nextDuty
  have hfall : u.draw 0 % max 1 u.duty < max 1 u.duty := Nat.mod_lt _ (by omega)
  have hrise : u.draw 0 % (257 - u.duty) < 257 - u.duty := Nat.mod_lt _ (by omega)
  split <;> omega

theorem nextDuty_falls {u : State} {p demand : Nat} (h : dutyFalls u p demand = true) :
    nextDuty u p demand = 0 ∨ nextDuty u p demand < u.duty := by
  unfold nextDuty
  rw [if_pos h]
  have hfall : u.draw 0 % max 1 u.duty < max 1 u.duty := Nat.mod_lt _ (by omega)
  omega

theorem nextDuty_rises {u : State} {p demand : Nat} (h : dutyFalls u p demand = false) : u.duty ≤ nextDuty u p demand := by
  unfold nextDuty
  rw [if_neg (by simp [h])]
  exact Nat.le_add_right ..

/-- What the governor reads beside the ramps is left by their steps. -/
theorem rampsStepped_reads (s : State) :
    (rampsStepped s).govPower = s.govPower ∧ (rampsStepped s).now = s.now ∧ (rampsStepped s).inputBlocked = s.inputBlocked ∧
      (rampsStepped s).duty = s.duty ∧ (rampsStepped s).junctionHolds = s.junctionHolds ∧
      (rampsStepped s).hbmHolds = s.hbmHolds := by
  have h := rampsStepped_agree s
  refine ⟨h.govPower (by decide +kernel), h.now (by decide +kernel), h.inputBlocked (by decide +kernel), ?_, ?_, ?_⟩
  · unfold State.duty State.fld
    rw [h.rd _ _ (by decide +kernel)]
  · unfold State.junctionHolds State.thermal State.fld
    rw [h.rd _ _ (by decide +kernel), h.rd _ _ (by decide +kernel), h.thermHold (by decide +kernel)]
  · unfold State.hbmHolds State.thermal State.fld
    rw [h.rd _ _ (by decide +kernel), h.hbmHold (by decide +kernel)]

theorem governorUpdate_agree {s t : State} {volts amps power demand : Nat}
    (h : execGovernorUpdate volts amps power demand s = .next t) :
    Agree 0xc20000000c00000000000020000000000210220000000000000000000000000000000000000000000000000 s t :=
  Agree.of_closed (fun _ hP hs => execGovernorUpdate_closed hP hs ..) (by decide +kernel) h

/-! ### Temperatures and faults -/

theorem thermalLimit_eq {s : State} {sensor : Nat} (hsensor : sensor < 5) (hoe : sensor ≠ 3) (hs : s.scratched = false)
    (hboot : s.boot ≠ .off) (unit reading : Nat) : exec (.thermalLimit sensor unit reading) s =
      .next (if thermalBound sensor ≤ signed reading 16 then s.scratch (thermalCause sensor) else s) := by
  have hoff : (s.scratched || s.boot == .off) = false := by simp [hs, hboot]
  simp only [exec, execThermalLimit, hoff, hoe, Nat.not_le.mpr hsensor, false_and, or_false, if_false, Bool.false_eq_true]
  simp only [← not_le, ite_not]

theorem thermalLimit_oe_eq {s : State} {unit : Nat} (hunit : unit < 8) (hs : s.scratched = false) (hboot : s.boot ≠ .off)
    (reading : Nat) : exec (.thermalLimit 3 unit reading) s = .next (s.oeChecked unit 5) := by
  have hoff : (s.scratched || s.boot == .off) = false := by simp [hs, hboot]
  simp [exec, execThermalLimit, hoff, Nat.not_le.mpr hunit]

theorem loopLost_eq {s : State} {loop : Nat} (hloop : loop < 2) (hdead : s.aopDead = false) (flow : Nat) :
    exec (.loopLost loop flow) s = .next (if flow < 100 then s.wrFld Obj.thermalEvents 0 (1 + loop) 1 1 else s) := by
  simp only [exec, execLoopLost, Nat.not_le.mpr hloop, if_false, hdead, Bool.false_or, decide_eq_true_eq]
  simp only [← not_lt, ite_not]

theorem inletHigh_eq {s : State} (hdead : s.aopDead = false) (temp ns : Nat) : exec (.inletHigh temp ns) s =
    .next (if 4000 < signed temp 16 ∧ 1000000000 ≤ ns then s.wrFld Obj.thermalEvents 0 3 1 1 else s) := by
  have hbelow : (s.aopDead || decide (signed temp 16 ≤ 4000) || decide (ns < 1000000000)) = true ↔
      ¬ (4000 < signed temp 16 ∧ 1000000000 ≤ ns) := by
    simp only [hdead, Bool.false_or, Bool.or_eq_true, decide_eq_true_eq]
    omega
  simp only [exec, execInletHigh, hbelow, ite_not]

theorem internalFault_eq {s : State} (hboot : s.boot ≠ .off) (fabric : Bool) :
    exec (.internalFault fabric) s = .next (s.scratch (if fabric then causeFabric else causeCore)) := by
  simp only [exec, execInternalFault, if_neg hboot]

theorem scratchNow_eq {s : State} (hboot : s.boot ≠ .off) :
    exec .scratchNow s = .next ((s.scratch causeHost).wr Obj.scratchNow 0 1) := by
  simp only [exec, execScratchNow, if_neg hboot]

/-- Settles O46: an update leaves the next power and the next D (`governorUpdate_next`), which keep their bounds, and each fault
answers as its equation says. -/
theorem governorStaysInItsBoundsAndFaultsScratch : Obligations.GovernorStaysInItsBoundsAndFaultsScratch := by
  unfold Obligations.GovernorStaysInItsBoundsAndFaultsScratch
  refine ⟨?_, fun s => ⟨fun sensor unit hsensor hoe hs hboot => thermalLimit_eq hsensor hoe hs hboot unit,
    fun unit hunit hs hboot => thermalLimit_oe_eq hunit hs hboot, fun loop flow hloop hdead => loopLost_eq hloop hdead flow,
    fun temp ns hdead => inletHigh_eq hdead temp ns, fun fabric hboot => internalFault_eq hboot fabric, scratchNow_eq⟩⟩
  intro s volts amps power demand hdead hboot hduty htime limit u
  have hu : u = rampsStepped s := rfl
  clear_value u
  subst hu
  obtain ⟨hgov, hnow, hblocked, hd, hjunction, hhbm⟩ := rampsStepped_reads s
  obtain ⟨t, ht, hp, htherm, hhbm', hat, hramps, hd', hlimit⟩ := governorUpdate_next hdead hboot htime volts amps power demand
  rw [hgov, hnow] at hp
  have hagree := governorUpdate_agree ht
  have hle : t.govPower ≤ 2 * limit - (rampsStepped s).reserved := hp ▸ nextPower_le_limit ..
  have hdle : nextDuty (rampsStepped s) t.govPower demand ≤ 256 := nextDuty_le (hd ▸ hduty) ..
  have hdt : t.duty = nextDuty (rampsStepped s) t.govPower demand := by
    rw [hd', hgov, hnow, ← hp]
    exact Nat.mod_eq_of_lt (by omega)
  have hfalls : dutyFalls (rampsStepped s) t.govPower demand =
      (s.thermHolds || s.inputBlocked || (rampsStepped s).rampWaits || decide (t.govPower < 2 * demand)) := by
    unfold dutyFalls State.thermHolds
    rw [hjunction, hhbm, hblocked]
  refine ⟨t, ht, hdt ▸ hdle, hp, by omega, hp ▸ nextPower_le_add .., fun h => hp ▸ le_nextPower_add h .., hlimit,
    htherm.trans hjunction, hhbm'.trans hhbm, hat.trans hnow, hramps, fun h => ?_, fun h1 h2 h3 h4 => ?_,
    fun bay w hone hfits => ?_, fun bay r hone hover => ?_, hagree.mem (by decide +kernel), hagree.scratched (by decide +kernel)⟩
  · rw [hdt, ← hd]
    refine nextDuty_falls (hfalls.trans ?_)
    simpa [or_assoc] using h
  · rw [hdt, ← hd]
    refine nextDuty_rises (hfalls.trans ?_)
    simp [h1, h2, h3, h4]
  · obtain ⟨hbegins, hreserved⟩ := rampsStepped_begins hone hfits
    refine ⟨hramps.trans hbegins, ?_⟩
    rw [← hreserved]
    unfold State.reserved
    rw [hramps]
  · exact hramps.trans (rampsStepped_ends hone hover)

end Sys2Proof.Laws
end

section
/-! PROOFS. Replies and timers end requests (O19). -/

namespace Sys2Proof.Laws

set_option Elab.async false

open Sys2Proof.Machine

/-! ### Sending a single waiting request -/

/-- A request that alone waits, and is sent, waits no longer. -/
theorem pump_of_sent {s t : State} {r : GReq} (hw : s.waiting = [r]) (ht : ({ s with waiting := [] }).trySend r = .sent t)
    (hnone : t.waiting = []) : s.pump = t := by
  have hfirst : pumpGo [r] [] [] { s with waiting := [] } = t := by
    rw [pumpGo, ht]
    cases t
    simp [pumpGo, SendTry.waits, SendTry.state]
  have hsecond : pumpGo [] [] [] { t with waiting := [] } = t := by
    cases t
    simp only at hnone
    simp [pumpGo, hnone]
  unfold State.pump
  simp only [hw, hfirst, hnone, hsecond]

/-- A request that alone waits, and cannot be sent, still waits. -/
theorem pump_of_stays {s : State} {r : GReq} (hw : s.waiting = [r]) (ht : ({ s with waiting := [] }).trySend r = .stays) :
    s.pump = s := by
  have hgo : pumpGo [r] [] [] { s with waiting := [] } = s := by
    rw [pumpGo, ht]
    cases s
    simp only at hw
    simp [pumpGo, SendTry.waits, hw]
  unfold State.pump
  simp only [hw, hgo]

/-- The FENCE of a STREAM_RESET needs a tag and space, and nothing else (R197). -/
theorem trySend_reset {s : State} {r : GReq} {e k : Nat} (htag : s.freeTag r.slice = some k) (hspace : s.spaceOk r = true)
    (howner : r.owner = .reset e) :
    s.trySend r = .sent (s.sendReset { r with tag := r.slice * 8192 + k, tc := s.sendTc r } e) := by
  unfold State.trySend
  simp [htag, hspace, howner]

theorem trySend_of_noTag {s : State} {r : GReq} (htag : s.freeTag r.slice = none) : s.trySend r = .stays := by
  unfold State.trySend
  simp [htag]

/-- The FENCE with RELEASE that resets the stream of entry `e` (R197). -/
def resetFence (s : State) (e : Nat) : GReq :=
  { owner := .reset e, op := 4, addr := s.srcDest e * 2 ^ 48, len := 1, aop := 0, atype := 0, opnd := 0,
    ord := true, stream := s.srcStream e, release := true, tc := 0, tm := 0, payload := [], slice := s.srcStream e % 8, tag := 0,
    entry := e, seq := 0, gen := 0, first := 0, last := 0, cut := false }

theorem resetFence_dest (s : State) (e : Nat) : (resetFence s e).dest = s.srcDest e := by
  have hlt : s.srcDest e < 2 ^ 16 := bits_lt ..
  simp only [GReq.dest, resetFence, bits_eq]
  omega

/-- The answer and the one waiting request of a STREAM_RESET of a cut stream that has none on its way. -/
def resetAsked (s : State) (e : Nat) : State := { s.wr Obj.streamReset 0 1 with waiting := [resetFence s e] }

theorem streamReset_next {s : State} {e : Nat} (hcompute : s.hasCompute = true) (he : e < 4096) (hstate : s.srcState e = 3)
    (hsends : (s.src e).resetSends = 0) (hwaiting : s.waiting = []) :
    exec (.streamReset e) s = .next (resetAsked s e).pump := by
  have hdest : (s.wr Obj.streamReset 0 1).srcDest e = s.srcDest e := State.fld_wr_obj s _ _ _ _ _ (by decide)
  have hstream : (s.wr Obj.streamReset 0 1).srcStream e = s.srcStream e := State.fld_wr_obj s _ _ _ _ _ (by decide)
  have hnone : (s.wr Obj.streamReset 0 1).waiting = [] := hwaiting
  simp only [exec, execStreamReset, hcompute, hstate, hsends, hdest, hstream, hnone]
  simp [Nat.not_le.mpr he, resetAsked, resetFence]

theorem sendFrame_agree (s : State) (slice : Nat) (f : Frame) : Agree (1 <<< 258) s (s.sendFrame slice f) :=
  State.sendFrame_closed (Agree.closed s (by decide +kernel)) (Agree.refl _ s) slice f

/-- A request that is not a core's is outstanding as it stands, with its times. -/
theorem launchReq_sent (s : State) {r : GReq} {e : Nat} (howner : r.owner = .reset e) (sync : Bool) :
    (s.launchReq r sync).sent = s.sent ++ [{ r with first := s.now, last := s.now }] := by
  unfold State.launchReq
  extract_lets payload r'
  have hr : r' = { r with first := s.now, last := s.now } := by
    unfold r' payload
    rw [howner]
  rw [(sendFrame_agree _ _ _).sent (by decide +kernel), hr]

/-- Sending writes the outstanding requests and the record of what is sent. -/
theorem launchReq_agree (s : State) (r : GReq) (sync : Bool) : Agree (1 <<< 258 ||| 1 <<< 270) s (s.launchReq r sync) :=
  State.launchReq_closed (Agree.closed s (by decide +kernel)) (Agree.refl _ s) r sync

theorem rd_setSrc (s : State) (e : Nat) (x : SrcSt) (c : ObjCode) (i : Nat) : (s.setSrc e x).rd c i = s.rd c i := rfl

theorem fld_setSrc (s : State) (e : Nat) (x : SrcSt) (c : ObjCode) (i lo w : Nat) :
    (s.setSrc e x).fld c i lo w = s.fld c i lo w := rfl

theorem src_setSrc_same (s : State) (e : Nat) (x : SrcSt) : (s.setSrc e x).src e = x := get_set_same ..

/-- The request as it is sent, and what its sending leaves (R197). -/
theorem sendReset_spec (s : State) {r : GReq} {e : Nat} (howner : r.owner = .reset e) :
    let t := s.sendReset r e
    t.waiting = s.waiting ∧ t.rd Obj.streamReset 0 = s.rd Obj.streamReset 0 ∧ (t.src e).resetSends = 1 ∧
      t.sent = s.sent ++
        [{ r with entry := e, seq := s.srcNext e, gen := (s.srcGen e + 1) % 256, first := s.now, last := s.now }] := by
  unfold State.sendReset
  extract_lets a src b t
  have hgen : b.srcGen e = (s.srcGen e + 1) % 256 :=
    (fld_setSrc ..).trans (State.fld_wrFld_same s Obj.srcStreams e 96 8 _ rfl)
  have hnext : b.srcNext e = s.srcNext e :=
    (fld_setSrc ..).trans (State.fld_wrFld_other s Obj.srcStreams e 96 8 _ 32 32 rfl (by decide))
  have hagree : Agree _ b t := launchReq_agree b _ true
  refine ⟨?_, ?_, ?_, ?_⟩
  · rw [hagree.waiting (by decide +kernel), State.setSrc_waiting, State.wrFld_waiting]
  · have hb : b.rd Obj.streamReset 0 = a.rd Obj.streamReset 0 := rd_setSrc ..
    have ha : a.rd Obj.streamReset 0 = s.rd Obj.streamReset 0 := State.rd_wrFld_obj s e 0 96 8 _ (by decide)
    rw [hagree.rd Obj.streamReset 0 (by decide +kernel), hb, ha]
  · have hsrc : t.src e = b.src e := congrArg (KMap.get · SrcSt.init e) (hagree.srcSts (by decide +kernel))
    have hb : b.src e = { src with resetSends := 1, resetLast := a.now } := src_setSrc_same a e _
    rw [hsrc, hb]
  · unfold t
    rw [hgen, hnext, launchReq_sent b (e := e) (by exact howner), State.setSrc_sent, State.setSrc_now, State.wrFld_sent,
      State.wrFld_now]

/-! ### STREAM_RESET -/

section

variable {s : State} {e : Nat}

theorem resetAsked_fld (lo w : Nat) : (resetAsked s e).fld Obj.srcStreams e lo w = s.fld Obj.srcStreams e lo w :=
  State.fld_wr_obj s (c := Obj.streamReset) (c' := Obj.srcStreams) 0 e 1 lo w (by decide)

/-- The state from which the FENCE is tried: it alone waited. -/
def resetTried (s : State) (e : Nat) : State := { resetAsked s e with waiting := [] }

/-- The FENCE as it is tried with a tag. -/
def taggedFence (s : State) (e k : Nat) : GReq :=
  { resetFence s e with tag := (resetFence s e).slice * 8192 + k, tc := (resetTried s e).sendTc (resetFence s e) }

/-- With a tag and space for it, it is sent at once. -/
theorem resetAsked_pump {k : Nat} (htag : s.freeTag (s.srcStream e % 8) = some k)
    (hspace : ((s.sent.filter fun x => x.slice == s.srcStream e % 8).map GReq.space).sum + 16 ≤ 8 * 2 ^ 20) :
    (resetAsked s e).pump = (resetTried s e).sendReset (taggedFence s e k) e :=
  pump_of_sent rfl (trySend_reset htag (decide_eq_true hspace) rfl) (sendReset_spec (resetTried s e) rfl).1

theorem resetAsked_sends {k : Nat} (htag : s.freeTag (s.srcStream e % 8) = some k)
    (hspace : ((s.sent.filter fun x => x.slice == s.srcStream e % 8).map GReq.space).sum + 16 ≤ 8 * 2 ^ 20) :
    ∃ t r, (resetAsked s e).pump = t ∧ t.waiting = [] ∧
      t.rd Obj.streamReset 0 = 1 ∧ t.sent = s.sent ++ [r] ∧ r.op = 4 ∧ r.ord = true ∧ r.release = true ∧
      r.owner = .reset e ∧ r.dest = s.srcDest e ∧ r.stream = s.srcStream e ∧ r.seq = s.srcNext e ∧
      r.gen = (s.srcGen e + 1) % 256 ∧ (t.src e).resetSends = 1 := by
  obtain ⟨hwaiting, hanswer, hsends, hsent⟩ := sendReset_spec (resetTried s e) (r := taggedFence s e k) rfl
  have hnext : (resetTried s e).srcNext e = s.srcNext e := resetAsked_fld 32 32
  have hgen : (resetTried s e).srcGen e = s.srcGen e := resetAsked_fld 96 8
  rw [hnext, hgen] at hsent
  exact ⟨_, _, resetAsked_pump htag hspace, hwaiting, hanswer.trans (State.rd_wr_same s Obj.streamReset 0 1 rfl), hsent, rfl, rfl,
    rfl, rfl, resetFence_dest s e, rfl, rfl, rfl, hsends⟩

theorem resetAsked_waits (htag : s.freeTag (s.srcStream e % 8) = none) : (resetAsked s e).pump = resetAsked s e :=
  pump_of_stays rfl (trySend_of_noTag htag)

end

/-! ### Replies -/

/-- The request that a reply matches (R192). -/
def repliedTo (s : State) (f : Frame) : Option GReq :=
  s.sent.find? (fun r => r.tag == f.tag && r.op + 0x80 == f.op && r.ord == f.ordered && r.dest == f.src
    && (!r.ord || (r.stream == f.stream && r.seq == f.seq)))

section

variable {s : State} {f : Frame} {r : GReq} {ecc : Ecc} (hon : s.gmuOn = true) (hlow : 0x81 ≤ f.op) (hhigh : f.op ≤ 0x87)
  (hfound : repliedTo s f = some r)
include hon hlow hhigh hfound

/-- A reply with a status of the sequence or of the generation, to another request than a reset, cuts the stream (R196). -/
theorem gmuReply_cuts (hord : r.ord = true) (hstatus : f.status = 0x04 ∨ f.status = 0x05) (howner : ∀ e, r.owner ≠ .reset e)
    (hgen : f.gen = s.srcGen r.entry) (hstate : s.srcState r.entry = 1) :
    exec (.gmuReply f ecc) s = .next (s.cutStream r.entry false).pump := by
  have hhead : ¬ (!s.gmuOn || decide (f.op < 0x81) || decide (0x87 < f.op)) = true := by simp [hon, hlow, hhigh]
  unfold repliedTo at hfound
  simp only [exec, execGmuReply, if_neg hhead, hfound]
  refine (if_pos ?_).trans (if_pos ⟨hgen, hstate⟩)
  cases ho : r.owner
  case reset e => exact absurd ho (howner e)
  all_goals simpa [hord] using hstatus

theorem gmuReply_ends (hends : r.ord = false ∨ (f.status ≠ 0x04 ∧ f.status ≠ 0x05) ∨ ∃ e, r.owner = .reset e) :
    let late := s.inc Obj.lateByDest (f.src % 4096) 0 64 1
    exec (.gmuReply f ecc) s = .next (afterReply
      (if s.now - r.first ≤ s.rd Obj.deadlineNs r.tc then s
        else if r.cut then late.inc Obj.lateByDest (f.src % 4096) 64 64 1 else late) r f ecc) := by
  have hhead : ¬ (!s.gmuOn || decide (f.op < 0x81) || decide (0x87 < f.op)) = true := by simp [hon, hlow, hhigh]
  intro late
  unfold repliedTo at hfound
  simp only [exec, execGmuReply, if_neg hhead, hfound]
  refine (if_neg ?_).trans ?_
  · rcases hends with hord | ⟨h4, h5⟩ | ⟨e, howner⟩
    · simp [hord]
    · simp [h4, h5]
    · simp [howner]
  · by_cases hlate : s.now - r.first ≤ s.rd Obj.deadlineNs r.tc
    · simp only [hlate, Nat.not_lt.mpr hlate, decide_false, Bool.false_eq_true, if_false, if_true]
      rfl
    · simp only [hlate, Nat.lt_of_not_le hlate, decide_true, if_false, if_true]
      rfl

end

/-- Settles O19: the meanings of the commands, by the branch that each hypothesis picks; a STREAM_RESET comes down to one waiting
FENCE (`streamReset_next`), which is sent (`resetAsked_sends`) or stays (`resetAsked_waits`). -/
theorem repliesAndTimersEndRequests : Obligations.RepliesAndTimersEndRequests := by
  unfold Obligations.RepliesAndTimersEndRequests
  refine ⟨fun s f r ecc hon hlow hhigh hfound => ⟨fun hends => ?_, fun hord hstatus howner hgen hstate => ?_⟩, fun s =>
    ⟨fun e r rest hon he hstate hunacked hdue => ?_, fun tag r hfound hs hdue => ?_, fun tag q hfound hdue => ?_,
      fun e k hcompute he hstate hsends hwaiting htag hspace => ?_, fun e hcompute he hstate hsends hwaiting htag => ?_⟩⟩
  · exact gmuReply_ends hon hlow hhigh hfound hends
  · exact gmuReply_cuts hon hlow hhigh hfound hord hstatus howner hgen hstate
  · simp [exec, execReplayAfterExpiry, hon, Nat.not_le.mpr he, hstate, hunacked, hdue]
  · simp [exec, execAbandonAfterExpiry, hfound, hs, Nat.not_lt.mpr hdue]
  · simp [exec, execTagQuarantineEnd, hfound, hdue]
  · rw [streamReset_next hcompute he hstate hsends hwaiting]
    obtain ⟨t, r, ht, hrest⟩ := resetAsked_sends htag hspace
    exact ⟨t, r, by rw [ht], hrest⟩
  · rw [streamReset_next hcompute he hstate hsends hwaiting, resetAsked_waits htag]
    exact ⟨_, resetFence s e, rfl, rfl, rfl, rfl, State.rd_wr_same s Obj.streamReset 0 1 rfl,
      (resetAsked_fld 0 2).trans hstate⟩

end Sys2Proof.Laws
end

section
/-! PROOFS. Maximum and minimum of two FP32 values (O53). -/

namespace Sys2Proof.Laws

open Sys2Proof.Machine

/-! ### The infinities in the order of R69 -/

theorem XVal.posInf_below (v : XVal) : (XVal.inf false).below v = false := by
  cases v with
  | nan => rfl
  | inf s => cases s <;> rfl
  | fin s m e => rfl

theorem XVal.below_negInf (v : XVal) : v.below (.inf true) = false := by
  cases v with
  | nan => rfl
  | inf s => cases s <;> rfl
  | fin s m e => rfl

theorem XVal.negInf_below {v : XVal} (h : v ≠ .inf true) : (XVal.inf true).below v = true := by
  cases v with
  | nan => rfl
  | inf s =>
    cases s with
    | false => rfl
    | true => exact absurd rfl h
  | fin s m e => rfl

theorem XVal.below_posInf {v : XVal} (hnan : v.isNan = false) (h : v ≠ .inf false) : v.below (.inf false) = true := by
  cases v with
  | nan => cases hnan
  | inf s =>
    cases s with
    | false => exact absurd rfl h
    | true => rfl
  | fin s m e => rfl

/-! ### The codes of the infinities (R44) -/

theorem decode_fp32_negInf : decode .fp32 0xFF800000 = .inf true := by decide

theorem decode_fp32_posInf : decode .fp32 0x7F800000 = .inf false := by decide

/-- An FP32 code by its sign, exponent and mantissa fields. -/
theorem decode_fp32 {c : Nat} (hc : c < 2 ^ 32) :
    decode .fp32 c =
      if c % 2 ^ 31 / 2 ^ 23 = 255 then (if c % 2 ^ 23 = 0 then .inf (c.testBit 31) else .nan)
      else if c % 2 ^ 31 / 2 ^ 23 = 0 then .fin (c.testBit 31) (c % 2 ^ 23) (-149)
      else .fin (c.testBit 31) (2 ^ 23 + c % 2 ^ 23) (c % 2 ^ 31 / 2 ^ 23 - 127 - 23) := by
  have hcut : c % 4294967296 = c := Nat.mod_eq_of_lt hc
  simp [decode, Fmt.width, Fmt.isInt, Fmt.man, Fmt.bias, Fmt.infCode, Nat.shiftRight_eq_div_pow, hcut]

/-- Each infinity has one code: its exponent bits are all 1 and its mantissa is 0. -/
theorem eq_infCode_of_decode_fp32 {c : Nat} {neg : Bool} (hc : c < 2 ^ 32) (h : decode .fp32 c = .inf neg) :
    c = Fmt.fp32.withSign neg 0x7F800000 := by
  rw [decode_fp32 hc] at h
  split_ifs at h with hexp hman
  obtain rfl := XVal.inf.inj h
  rw [Fmt.withSign, Nat.testBit_eq_decide_div_mod_eq]
  simp only [Fmt.width, decide_eq_true_eq]
  split_ifs <;> omega

/-! ### What the two operations choose -/

theorem max32_min32_of_nan {a b : Code} (h : (decode .fp32 a).isNan = true ∨ (decode .fp32 b).isNan = true) :
    max32 a b = 0x7FC00000 ∧ min32 a b = 0x7FC00000 :=
  have h' : ((decode .fp32 a).isNan || (decode .fp32 b).isNan) = true := Bool.or_eq_true_iff.mpr h
  ⟨if_pos h', if_pos h'⟩

section
variable {a b : Code} (ha : a < 2 ^ 32) (hb : b < 2 ^ 32) (hna : (decode .fp32 a).isNan = false)
  (hnb : (decode .fp32 b).isNan = false)
include ha hb hna hnb

theorem max32_min32_of_below (h : (decode .fp32 a).below (decode .fp32 b) = true) : max32 a b = b ∧ min32 a b = a := by
  simp only [max32, min32, hna, hnb, h, Bool.or_self, Bool.false_eq_true, if_false, if_true, Nat.mod_eq_of_lt ha,
    Nat.mod_eq_of_lt hb, and_self]

theorem max32_min32_of_not_below (h : (decode .fp32 a).below (decode .fp32 b) = false) :
    max32 a b = a ∧ min32 a b = b := by
  simp only [max32, min32, hna, hnb, h, Bool.or_self, Bool.false_eq_true, if_false, Nat.mod_eq_of_lt ha,
    Nat.mod_eq_of_lt hb, and_self]

/-- The two operations split the operands between them, one to each. -/
theorem max32_min32_cases : max32 a b = b ∧ min32 a b = a ∨ max32 a b = a ∧ min32 a b = b := by
  cases h : (decode .fp32 a).below (decode .fp32 b) with
  | true => exact .inl (max32_min32_of_below ha hb hna hnb h)
  | false => exact .inr (max32_min32_of_not_below ha hb hna hnb h)

end

section
variable {a : Code} (ha : a < 2 ^ 32) (hnan : (decode .fp32 a).isNan = false)
include ha hnan

theorem max32_min32_self : max32 a a = a ∧ min32 a a = a := by
  obtain h | h := max32_min32_cases ha ha hnan hnan <;> exact h

theorem max32_min32_negInf_left : max32 0xFF800000 a = a ∧ min32 0xFF800000 a = 0xFF800000 := by
  by_cases h : decode .fp32 a = .inf true
  · obtain rfl : a = 0xFF800000 := eq_infCode_of_decode_fp32 ha h
    exact max32_min32_self ha hnan
  · refine max32_min32_of_below (by decide) ha (by decide) hnan ?_
    rw [decode_fp32_negInf]
    exact XVal.negInf_below h

theorem max32_min32_negInf_right : max32 a 0xFF800000 = a ∧ min32 a 0xFF800000 = 0xFF800000 := by
  refine max32_min32_of_not_below ha (by decide) hnan (by decide) ?_
  rw [decode_fp32_negInf]
  exact XVal.below_negInf _

theorem max32_min32_posInf_left : max32 0x7F800000 a = 0x7F800000 ∧ min32 0x7F800000 a = a := by
  refine max32_min32_of_not_below (by decide) ha (by decide) hnan ?_
  rw [decode_fp32_posInf]
  exact XVal.posInf_below _

theorem max32_min32_posInf_right : max32 a 0x7F800000 = 0x7F800000 ∧ min32 a 0x7F800000 = a := by
  by_cases h : decode .fp32 a = .inf false
  · obtain rfl : a = 0x7F800000 := eq_infCode_of_decode_fp32 ha h
    exact max32_min32_self ha hnan
  · refine max32_min32_of_below ha (by decide) hnan (by decide) ?_
    rw [decode_fp32_posInf]
    exact XVal.below_posInf hnan h

end

theorem max32_min32_zeros : max32 0x80000000 0 = 0 ∧ min32 0x80000000 0 = 0x80000000 ∧ max32 0 0x80000000 = 0 ∧
    min32 0 0x80000000 = 0x80000000 := by decide

/-- With a NaN the result is the canonical NaN, otherwise an operand. -/
theorem max32_min32_mem {a b : Code} (ha : a < 2 ^ 32) (hb : b < 2 ^ 32) :
    (max32 a b = a ∨ max32 a b = b ∨ max32 a b = 0x7FC00000) ∧ (min32 a b = a ∨ min32 a b = b ∨ min32 a b = 0x7FC00000) := by
  by_cases hnan : (decode .fp32 a).isNan = true ∨ (decode .fp32 b).isNan = true
  · obtain ⟨hmax, hmin⟩ := max32_min32_of_nan hnan
    exact ⟨.inr (.inr hmax), .inr (.inr hmin)⟩
  · obtain ⟨hna, hnb⟩ : (decode .fp32 a).isNan = false ∧ (decode .fp32 b).isNan = false := by simpa using hnan
    obtain ⟨hmax, hmin⟩ | ⟨hmax, hmin⟩ := max32_min32_cases ha hb hna hnb
    · exact ⟨.inr (.inl hmax), .inl hmin⟩
    · exact ⟨.inl hmax, .inr (.inl hmin)⟩

/-- Settles O53: the rows of R69, one lemma each. -/
theorem maximumAndMinimumOfTwoValues : Obligations.MaximumAndMinimumOfTwoValues := by
  unfold Obligations.MaximumAndMinimumOfTwoValues
  intro a b ha hb
  obtain ⟨hmaxNP, hminNP, hmaxPN, hminPN⟩ := max32_min32_zeros
  refine ⟨max32_min32_of_nan, hmaxNP, hminNP, hmaxPN, hminPN, fun hnan => ?_, max32_min32_mem ha hb⟩
  obtain ⟨hmaxNegL, hminNegL⟩ := max32_min32_negInf_left hb hnan
  obtain ⟨hmaxPosL, hminPosL⟩ := max32_min32_posInf_left hb hnan
  obtain ⟨hmaxNegR, hminNegR⟩ := max32_min32_negInf_right hb hnan
  obtain ⟨hmaxPosR, hminPosR⟩ := max32_min32_posInf_right hb hnan
  exact ⟨hmaxNegL, hminNegL, hmaxPosL, hminPosL, hmaxNegR, hminNegR, hmaxPosR, hminPosR, max32_min32_self hb hnan⟩

end Sys2Proof.Laws
end

section
/-! PROOFS. The rules of a core's operations: what flags, stops and halts write, and what they leave as it was (R92 to R97,
R105). -/

namespace Sys2Proof.Laws

set_option Elab.async false

open Sys2Proof.Machine

/-! ### Reads outside a footprint -/

section

variable {m : Nat} {s t : State} (h : Agree m s t)
include h

theorem Agree.fld {c : ObjCode} (hc : Foot.obj m c = false) (i lo w : Nat) : t.fld c i lo w = s.fld c i lo w := by
  unfold State.fld
  rw [h.rd c i hc]

theorem Agree.flag (hc : Foot.obj m Obj.flags = false) (n f : Nat) : t.flag n f = s.flag n f := h.rd _ _ hc

theorem Agree.coreState (hc : Foot.obj m Obj.coreState = false) (n : Nat) : t.coreState n = s.coreState n := h.rd _ _ hc

theorem Agree.position (hc : Foot.obj m Obj.seqState = false) (n : Nat) : t.position n = s.position n := h.fld hc ..

theorem Agree.ordinal (hc : Foot.obj m Obj.seqState = false) (n : Nat) : t.ordinal n = s.ordinal n := h.fld hc ..

theorem Agree.core (hm : m.testBit 264 = false) (n : Nat) : t.core n = s.core n := by
  unfold State.core
  rw [h.cores hm]

end

/-! ### Halts and stops -/

/-- What a halt or a stop of issue writes: the core's own state, CORE_STATE and HALT_RECORD. -/
def haltFoot : Nat := 1 <<< 264 ||| 1 <<< 21 ||| 1 <<< 14

theorem haltCore_agree (s : State) (n status detail pos ord : Nat) : Agree haltFoot s (s.haltCore n status detail pos ord) :=
  State.haltCore_closed ((Agree.closed s (by decide +kernel)).mono (by decide +kernel)) (Agree.refl _ s) ..

theorem stopIssue_agree (s : State) (n : Nat) (why : IssueStop) (pos ord : Nat) : Agree haltFoot s (s.stopIssue n why pos ord) :=
  State.stopIssue_closed ((Agree.closed s (by decide +kernel)).mono (by decide +kernel)) (Agree.refl _ s) ..

/-- The halt record's fields of a stop, as the record reads them. -/
theorem haltFields_fld (s : State) (n status detail pos ord : Nat) :
    let t := s.haltFields n status detail pos ord
    t.fld Obj.haltRecord n 0 8 = status % 2 ^ 8 ∧ t.fld Obj.haltRecord n 8 8 = detail % 2 ^ 8 ∧
      t.fld Obj.haltRecord n 32 32 = pos % 2 ^ 32 ∧ t.fld Obj.haltRecord n 64 64 = ord % 2 ^ 64 := by
  intro t
  have hrecord : t.rd Obj.haltRecord n = _ := s.rd_wr_same Obj.haltRecord n _ rfl
  unfold State.fld
  rw [hrecord]
  refine ⟨?_, ?_, ?_, ?_⟩ <;> simp [bits_setBits_other]

theorem haltFields_core (s : State) (n status detail pos ord m : Nat) :
    (s.haltFields n status detail pos ord).core m = s.core m := State.wr_core ..

/-- The entries of the waiters begin above the fields of the stop. -/
theorem bits_waiterEntries (ws : List Waiter) (r lo w : Nat) (h : lo + w ≤ 256) :
    bits (ws.foldl (fun r x => setBits r (256 + 128 * waiterSlot x.engine) 128 (waiterEntry x)) r) lo w = bits r lo w := by
  induction ws generalizing r with
  | nil => rfl
  | cons x ws ih => rw [List.foldl_cons, ih, bits_setBits_other _ _ _ _ _ _ (.inl (by omega))]

/-- A core after a halt that takes effect (R97, R105). -/
def haltedCore (c : CoreSt) : CoreSt := { c with stop := .halted, sq := none, paced := [], lde := [], fxe := [] }

section

variable {s : State} {n : Nat} (hlive : s.coreLive n = true) (hstop : (s.core n).stop ≠ .halted)
  (status detail pos ord : Nat)
include hlive hstop

/-- A halt takes effect on a live core that has not halted yet. -/
theorem core_haltCore_of_live : (s.haltCore n status detail pos ord).core n = haltedCore (s.core n) := by
  unfold State.haltCore
  rw [if_neg (by simp [hstop, hlive]), State.wr_core, State.core_setCore_same]
  rfl

/-- A live core that has not halted yet drains after a halt, and its record names the halt (R97, R105, R107). -/
theorem haltCore_of_live :
    let t := s.haltCore n status detail pos ord
    t.coreState n = 2 ∧ (t.core n).stop = .halted ∧ t.fld Obj.haltRecord n 0 8 = status % 2 ^ 8 ∧
      t.fld Obj.haltRecord n 8 8 = detail % 2 ^ 8 ∧ t.fld Obj.haltRecord n 32 32 = pos % 2 ^ 32 ∧
      t.fld Obj.haltRecord n 64 64 = ord % 2 ^ 64 := by
  intro t
  have hhalts : ¬ ((s.core n).stop = .halted ∨ ¬ s.coreLive n) := by simp [hstop, hlive]
  have hrecord : ∀ lo w, lo + w ≤ 256 →
      t.fld Obj.haltRecord n lo w = (s.haltFields n status detail pos ord).fld Obj.haltRecord n lo w := by
    intro lo w hw
    unfold t State.haltCore
    rw [if_neg hhalts]
    extract_lets ws u r v
    unfold State.fld
    rw [State.rd_wr_obj _ _ _ _ (by decide), State.setCore_rd, State.rd_wr_same _ _ _ _ rfl]
    exact bits_waiterEntries ws _ lo w hw
  have hstate : t.coreState n = 2 := by
    unfold t State.haltCore
    rw [if_neg hhalts]
    extract_lets ws u r v
    exact State.rd_wr_same (v.setCore n _) Obj.coreState n 2 rfl
  have hhalted : (t.core n).stop = .halted := by
    unfold t
    rw [core_haltCore_of_live hlive hstop]
    rfl
  obtain ⟨hstatus, hdetail, hpos, hord⟩ := haltFields_fld s n status detail pos ord
  exact ⟨hstate, hhalted, (hrecord _ _ (by decide)).trans hstatus, (hrecord _ _ (by decide)).trans hdetail,
    (hrecord _ _ (by decide)).trans hpos, (hrecord _ _ (by decide)).trans hord⟩

end

/-- A halt leaves the core as it is, or halted. -/
theorem haltCore_core (s : State) (n status detail pos ord : Nat) :
    (s.haltCore n status detail pos ord).core n = s.core n ∨
      (s.haltCore n status detail pos ord).core n = haltedCore (s.core n) := by
  by_cases hhalts : (s.core n).stop = .halted ∨ ¬ s.coreLive n
  · left
    unfold State.haltCore
    rw [if_pos hhalts]
  · right
    simp only [not_or, not_not] at hhalts
    exact core_haltCore_of_live hhalts.2 hhalts.1 ..

theorem coreState_stopIssue (s : State) (n : Nat) (why : IssueStop) (pos ord : Nat) :
    (s.stopIssue n why pos ord).coreState n = 2 := by
  unfold State.coreState State.stopIssue
  rw [State.rd_wr_same _ Obj.coreState n 2 rfl]

theorem core_stopIssue (s : State) (n : Nat) (why : IssueStop) (pos ord : Nat) :
    (s.stopIssue n why pos ord).core n = { s.core n with stop := why, sq := none } := by
  unfold State.stopIssue
  rw [State.wr_core, State.core_setCore_same, haltFields_core]

/-! ### Flags -/

theorem flag_setFlag_same (s : State) (n f v : Nat) : (s.setFlag n f v).flag n f = v := 
  s.rd_wr_same Obj.flags (256 * n + f) v rfl

theorem flag_setFlag_other (s : State) {n f g : Nat} (v : Nat) (hf : f < 256) (hg : g < 256) (h : g ≠ f) :
    (s.setFlag n f v).flag n g = s.flag n g := s.rd_wr_idx _ _ v (by omega)

theorem coreState_setFlag (s : State) (n f v m : Nat) : (s.setFlag n f v).coreState m = s.coreState m :=
  s.rd_wr_obj _ _ v (by decide)

theorem coreLive_of_coreState {s t : State} {n : Nat} (h : t.coreState n = s.coreState n) : t.coreLive n = s.coreLive n := by
  unfold State.coreLive
  rw [h]

/-- The increments of a stride, with one more counted (R93). -/
def countInc (s : State) (n f amount : Nat) : State :=
  s.setCore n { s.core n with incNow := KMap.set (s.core n).incNow 0 f (KMap.get (s.core n).incNow 0 f + amount) }

/-- The flag at its top, the increment counted. -/
def flagAtTop (s : State) (n f amount : Nat) : State := (countInc s n f amount).setFlag n f (2 ^ 32 - 1)

theorem addFlag_of_fits {s : State} {n f amount : Nat} (h : s.flag n f + amount < 2 ^ 32) (src : Option (Nat × Nat)) :
    s.addFlag n f amount src = (countInc s n f amount).setFlag n f (s.flag n f + amount) := if_pos h

/-- Whether a FLAGSET comes does not depend on the increments counted. -/
theorem flagsetComes_flagAtTop (s : State) (n f amount : Nat) :
    (flagAtTop s n f amount).flagsetComes n f = (s.setFlag n f (2 ^ 32 - 1)).flagsetComes n f := by
  have hcore : (flagAtTop s n f amount).core n = (countInc s n f amount).core n := rfl
  unfold State.flagsetComes State.fetch
  rw [hcore, countInc, State.core_setCore_same]
  rfl

theorem addFlag_of_over_flagset {s : State} {n f amount : Nat} (h : 2 ^ 32 ≤ s.flag n f + amount)
    (hcomes : (s.setFlag n f (2 ^ 32 - 1)).flagsetComes n f = true) (src : Option (Nat × Nat)) :
    s.addFlag n f amount src = flagAtTop s n f amount := by
  rw [← flagsetComes_flagAtTop s n f amount] at hcomes
  exact (if_neg (not_lt.mpr h)).trans (if_pos hcomes)

theorem addFlag_of_over {s : State} {n f amount : Nat} (h : 2 ^ 32 ≤ s.flag n f + amount)
    (hcomes : (s.setFlag n f (2 ^ 32 - 1)).flagsetComes n f = false) (src : Option (Nat × Nat)) :
    s.addFlag n f amount src =
      (flagAtTop s n f amount).haltCore n 0x14 (if src.isSome then 2 else 3) (src.getD (0, 0)).1 (src.getD (0, 0)).2 := by
  rw [← flagsetComes_flagAtTop s n f amount] at hcomes
  exact (if_neg (not_lt.mpr h)).trans (if_neg (Bool.eq_false_iff.mp hcomes))

theorem flagAtTop_coreState (s : State) (n f amount m : Nat) : (flagAtTop s n f amount).coreState m = s.coreState m :=
  coreState_setFlag ..

theorem flagAtTop_core (s : State) (n f amount : Nat) : (flagAtTop s n f amount).core n =
    { s.core n with incNow := KMap.set (s.core n).incNow 0 f (KMap.get (s.core n).incNow 0 f + amount) } :=
  State.core_setCore_same ..

/-- An increment goes into the flag, up to its top (R92, R95). -/
theorem flag_addFlag_same (s : State) (n f amount : Nat) (src : Option (Nat × Nat)) :
    (s.addFlag n f amount src).flag n f = min (s.flag n f + amount) (2 ^ 32 - 1) := by
  rcases Nat.lt_or_ge (s.flag n f + amount) (2 ^ 32) with hfits | hover
  · rw [addFlag_of_fits hfits, flag_setFlag_same]
    omega
  · have htop : (flagAtTop s n f amount).flag n f = min (s.flag n f + amount) (2 ^ 32 - 1) :=
      (flag_setFlag_same ..).trans (by omega)
    cases hcomes : (s.setFlag n f (2 ^ 32 - 1)).flagsetComes n f with
    | true => rw [addFlag_of_over_flagset hover hcomes, htop]
    | false => rw [addFlag_of_over hover hcomes, (haltCore_agree ..).flag (by decide +kernel), htop]

/-- An increment leaves the other flags of the core. -/
theorem flag_addFlag_other (s : State) {n f g : Nat} (amount : Nat) (src : Option (Nat × Nat)) (hf : f < 256)
    (hg : g < 256) (h : g ≠ f) : (s.addFlag n f amount src).flag n g = s.flag n g := by
  have htop : (flagAtTop s n f amount).flag n g = s.flag n g := flag_setFlag_other _ _ hf hg h
  rcases Nat.lt_or_ge (s.flag n f + amount) (2 ^ 32) with hfits | hover
  · rw [addFlag_of_fits hfits]
    exact flag_setFlag_other _ _ hf hg h
  · cases hcomes : (s.setFlag n f (2 ^ 32 - 1)).flagsetComes n f with
    | true => rw [addFlag_of_over_flagset hover hcomes, htop]
    | false => rw [addFlag_of_over hover hcomes, (haltCore_agree ..).flag (by decide +kernel), htop]

/-- What an increment writes: flags beside what a halt writes. -/
def addFlagFoot : Nat := haltFoot ||| 1 <<< 22

theorem post_agree (s : State) (n word pos ord : Nat) : Agree addFlagFoot s (s.post n word pos ord) :=
  State.post_closed ((Agree.closed s (by decide +kernel)).mono (by decide +kernel)) (Agree.refl _ s) ..

theorem postSel_lt (w : Nat) : postSel w < 128 := bits_lt w 97 7

theorem waitSel_lt (w : Nat) : waitSel w < 128 := bits_lt w 104 7

/-- The post of a command raises the flag of its POST_SEL by one (R94). -/
theorem flag_post_same (s : State) {n word : Nat} (h : postSel word ≠ 0) (pos ord : Nat) :
    (s.post n word pos ord).flag n (postSel word) = min (s.flag n (postSel word) + 1) (2 ^ 32 - 1) := by
  unfold State.post
  rw [if_neg h, flag_addFlag_same]

theorem flag_post_other (s : State) {n word g : Nat} (pos ord : Nat) (hg : g < 256) (h : g ≠ postSel word) :
    (s.post n word pos ord).flag n g = s.flag n g := by
  unfold State.post
  split
  · rfl
  · exact flag_addFlag_other s 1 _ (by have := postSel_lt word; omega) hg h

/-! ### What an increment leaves of a core -/

theorem addFlag_core (s : State) (n f amount : Nat) (src : Option (Nat × Nat)) :
    (s.addFlag n f amount src).core n = (countInc s n f amount).core n ∨
      (s.addFlag n f amount src).core n = haltedCore ((countInc s n f amount).core n) := by
  rcases Nat.lt_or_ge (s.flag n f + amount) (2 ^ 32) with hfits | hover
  · exact .inl (by rw [addFlag_of_fits hfits]; rfl)
  · cases hcomes : (s.setFlag n f (2 ^ 32 - 1)).flagsetComes n f with
    | true => exact .inl (by rw [addFlag_of_over_flagset hover hcomes]; rfl)
    | false =>
      rw [addFlag_of_over hover hcomes]
      exact haltCore_core ..

/-- A post leaves the instruction cache and the address registers of its core. -/
theorem post_icache_areg (s : State) (n word pos ord : Nat) :
    ((s.post n word pos ord).core n).icache = (s.core n).icache ∧ ((s.post n word pos ord).core n).areg = (s.core n).areg := by
  unfold State.post
  split
  · exact ⟨rfl, rfl⟩
  · rcases addFlag_core s n (postSel word) 1 (some (pos, ord)) with h | h <;>
      · rw [h, countInc, State.core_setCore_same]
        exact ⟨rfl, rfl⟩

end Sys2Proof.Laws
end

section
/-! PROOFS. What a command that can issue does: sequencer commands take effect (O8), halt, wait or stay void (O9), engine
commands enter their queue (O10), and SKIP jumps or halts (O52). -/

namespace Sys2Proof.Laws

set_option Elab.async false

open Sys2Proof.Machine

/-! ### Sequencer commands and engine commands -/

/-- Whether a command is the sequencer's own (R89). -/
def CoreOp.isSq : CoreOp → Bool
  | .nop | .end_ | .pace | .wait | .post | .flagset | .pset | .plogic | .skip | .lapset | .lap | .drain | .mark => true
  | _ => false

/-- The ENGINE field of a word names the sequencer exactly where the word spells a sequencer command (R81). -/
theorem engineOf_eq_zero_iff {w : Nat} {op : CoreOp} (h : CoreOp.of w = some op) : engineOf w = 0 ↔ CoreOp.isSq op = true := by
  unfold CoreOp.of CoreOp.find at h
  split at h
  case h_1 he =>
    have hmem := List.mem_of_getElem? h
    exact iff_of_true he (by revert hmem; cases op <;> decide)
  case h_7 => cases h
  all_goals
    rename_i he
    refine iff_of_false (by simp [he]) ?_
    split at h
    · have hmem := List.mem_of_getElem? h
      revert hmem
      cases op <;> decide
    · cases h

/-! ### The row of a command that can issue -/

theorem canIssue_op {s : State} {op : CoreOp} {n w : Nat} (h : CanIssue s op n w) : CoreOp.of w = some op := by
  obtain ⟨-, -, -, -, -, -, -, hop, -⟩ := h
  exact hop

theorem canIssue_sq {s : State} {op : CoreOp} {n w : Nat} (h : CanIssue s op n w) : (s.core n).sq = none := by
  obtain ⟨-, -, -, -, hsq, -⟩ := h
  exact hsq

/-- Where a command can issue, its row issues it in the present stride (R82, R84). -/
theorem issueRow_of_canIssue {s : State} {op : CoreOp} {n w : Nat} (h : CanIssue s op n w) :
    issueRow op n s = .next (if engineOf w = 0 then issueSq op s n w (s.position n) (s.ordinal n + 1) (s.enabled n w)
      else issueQueued op s n w (s.position n) (s.ordinal n + 1) (s.enabled n w)) := by
  obtain ⟨hn, hrun, hstate, hstop, hsq, hpos, hfetch, hop, hcheck, hstride⟩ := h
  unfold issueRow
  rw [if_neg (by omega), if_neg (by simp [hrun, hstate, hstop])]
  extract_lets pos ord
  rw [if_neg (by omega)]
  simp only [hfetch, pos]
  rw [if_neg (by simp [hstride]), if_neg (by simp [hsq]), if_neg (by simp [hop])]
  simp only [hcheck, State.advance_self s n _ hstride, ord]

theorem issueRow_sq {s : State} {op : CoreOp} {n w : Nat} (h : CanIssue s op n w) (hop : CoreOp.isSq op = true) :
    issueRow op n s = .next (issueSq op s n w (s.position n) (s.ordinal n + 1) (s.enabled n w)) := by
  rw [issueRow_of_canIssue h, if_pos ((engineOf_eq_zero_iff (canIssue_op h)).mpr hop)]

theorem issueRow_queued {s : State} {op : CoreOp} {n w : Nat} (h : CanIssue s op n w) (hop : CoreOp.isSq op = false) :
    issueRow op n s = .next (issueQueued op s n w (s.position n) (s.ordinal n + 1) (s.enabled n w)) := by
  rw [issueRow_of_canIssue h, if_neg fun he => by simp [(engineOf_eq_zero_iff (canIssue_op h)).mp he] at hop]

/-! ### Sequencer commands -/

/-- With its wait over a sequencer command takes its effect, or as a void only moves on (R84, R85). -/
theorem issueSq_of_waitOver {s : State} {n w : Nat} (hsq : (s.core n).sq = none) (hwait : WaitOver s n w) (op : CoreOp)
    (pos ord : Nat) (en : Bool) :
    issueSq op s n w pos ord en =
      if !en then ((afterWait s n w).issued n pos (pos + 1) ord).post n w pos ord
      else match sqEffect op (afterWait s n w) n w pos ord with
        | .go u next => (u.issued n pos next ord).post n w pos ord
        | .hold h => (afterWait s n w).sqHold n { h with taken := waitSel w }
        | .bad u reason => u.haltCore n 0x12 reason pos ord
        | .stop u => ((u.stopIssue n .ended pos ord).issued n pos (pos + 1) ord).post n w pos ord := by
  have hover : ¬ (waitSel w ≠ 0 ∧ s.flag n (waitSel w) = 0) := fun ⟨hsel, hflag⟩ => hwait.elim hsel fun h => h hflag
  unfold issueSq
  simp only [hsq, Option.map_none, Option.isNone_none, Bool.true_or, true_and, if_neg hover]
  have hafter : (if waitSel w ≠ 0 then s.waitSelOver n (waitSel w) else s) = afterWait s n w := ite_not ..
  exact hafter ▸ rfl

section

variable {s : State} {op : CoreOp} {n w : Nat} (hissue : CanIssue s op n w) (hop : CoreOp.isSq op = true)
  (hwait : WaitOver s n w)
include hissue hop hwait

theorem issueRow_void (hen : s.enabled n w = false) :
    issueRow op n s = .next (finishSq (afterWait s n w) s n w (s.position n + 1)) := by
  rw [issueRow_sq hissue hop, issueSq_of_waitOver (canIssue_sq hissue) hwait, hen]
  rfl

variable (hen : s.enabled n w = true)
include hen

theorem issueRow_go {u : State} {next : Nat}
    (heffect : sqEffect op (afterWait s n w) n w (s.position n) (s.ordinal n + 1) = .go u next) :
    issueRow op n s = .next (finishSq u s n w next) := by
  rw [issueRow_sq hissue hop, issueSq_of_waitOver (canIssue_sq hissue) hwait, hen, heffect]
  rfl

theorem issueRow_hold {h : SqWait}
    (heffect : sqEffect op (afterWait s n w) n w (s.position n) (s.ordinal n + 1) = .hold h) :
    issueRow op n s = .next ((afterWait s n w).sqHold n { h with taken := waitSel w }) := by
  rw [issueRow_sq hissue hop, issueSq_of_waitOver (canIssue_sq hissue) hwait, hen, heffect]
  rfl

theorem issueRow_bad {u : State} {reason : Nat}
    (heffect : sqEffect op (afterWait s n w) n w (s.position n) (s.ordinal n + 1) = .bad u reason) :
    issueRow op n s = .next (u.haltCore n 0x12 reason (s.position n) (s.ordinal n + 1)) := by
  rw [issueRow_sq hissue hop, issueSq_of_waitOver (canIssue_sq hissue) hwait, hen, heffect]
  rfl

theorem issueRow_stop {u : State}
    (heffect : sqEffect op (afterWait s n w) n w (s.position n) (s.ordinal n + 1) = .stop u) :
    issueRow op n s = .next (finishSq (u.stopIssue n .ended (s.position n) (s.ordinal n + 1)) s n w (s.position n + 1)) := by
  rw [issueRow_sq hissue hop, issueSq_of_waitOver (canIssue_sq hissue) hwait, hen, heffect]
  rfl

end

/-! ### The wait before the effect -/

/-- The end of a wait writes flags and the core's own state. -/
theorem afterWait_agree (s : State) (n w : Nat) : Agree (1 <<< 264 ||| 1 <<< 22) s (afterWait s n w) := by
  unfold afterWait
  split
  · exact Agree.refl _ s
  · exact State.waitSelOver_closed ((Agree.closed s (by decide +kernel)).mono (by decide +kernel)) (Agree.refl _ s) ..

/-- The end of a wait counts a decrement in the stride and leaves the sequencer waiting for nothing. -/
theorem afterWait_core {s : State} {n : Nat} (hsq : (s.core n).sq = none) (w : Nat) :
    ∃ dec, (afterWait s n w).core n = { s.core n with decNow := dec } := by
  unfold afterWait
  split
  · exact ⟨_, rfl⟩
  · have htake : (s.takeFlag n (waitSel w) 1).core n = { s.core n with decNow := waitSel w :: (s.core n).decNow } :=
      State.core_setCore_same ..
    refine ⟨waitSel w :: (s.core n).decNow, ?_⟩
    unfold State.waitSelOver
    rw [State.core_setCore_same, htake, ← hsq]

/-- A sequencer that comes to wait changes only the core's own state. -/
theorem sqHold_agree (s : State) (n : Nat) (h : SqWait) : Agree (1 <<< 264) s (s.sqHold n h) :=
  State.sqHold_closed ((Agree.closed s (by decide +kernel)).mono (by decide +kernel)) (Agree.refl _ s) ..

/-! ### The four outcomes of an effect -/

theorem sqWait_of_le {s : State} {n w : Nat} (h : bits w 16 32 ≤ s.flag n (bits w 0 12)) (pos : Nat) : sqWait s n w pos =
    .go (if w.testBit 12 then s else s.takeFlag n (bits w 0 12) (bits w 16 32)) (pos + 1) := if_pos h

theorem sqWait_of_lt {s : State} {n w : Nat} (h : s.flag n (bits w 0 12) < bits w 16 32) (pos : Nat) :
    ∃ x, sqWait s n w pos = .hold x := ⟨_, if_neg (not_le.mpr h)⟩

theorem sqSkip_of_lt {s : State} {n w pos : Nat} (h : pos + 1 + bits w 0 12 < (s.core n).streamLen) :
    sqSkip s n w pos = .go s (pos + 1 + bits w 0 12) := if_neg (not_le.mpr h)

theorem sqSkip_of_le {s : State} {n w pos : Nat} (h : (s.core n).streamLen ≤ pos + 1 + bits w 0 12) :
    sqSkip s n w pos = .bad s 4 := if_pos h

theorem sqLap_of_zero {s : State} {n w : Nat} (h : s.lap n (bits w 0 2) = 0) (pos : Nat) : sqLap s n w pos = .go s (pos + 1) :=
  if_pos h

theorem sqLap_of_le {s : State} {n w pos : Nat} (h : s.lap n (bits w 0 2) ≠ 0) (hpos : bits w 12 12 ≤ pos) :
    sqLap s n w pos = .go (s.setLap n (bits w 0 2) (s.lap n (bits w 0 2) - 1)) (pos - bits w 12 12) :=
  (if_neg h).trans (if_neg (not_lt.mpr hpos))

theorem sqLap_of_lt {s : State} {n w pos : Nat} (h : s.lap n (bits w 0 2) ≠ 0) (hpos : pos < bits w 12 12) :
    sqLap s n w pos = .bad (s.setLap n (bits w 0 2) (s.lap n (bits w 0 2) - 1)) 4 :=
  (if_neg h).trans (if_pos hpos)

theorem sqDrain_of_drained {s : State} {n : Nat} (h : (s.core n).drained = true) (pos : Nat) :
    sqDrain s n pos = .go s (pos + 1) := if_pos h

theorem sqDrain_of_busy {s : State} {n : Nat} (h : (s.core n).drained = false) (pos : Nat) :
    ∃ x, sqDrain s n pos = .hold x := ⟨_, if_neg (Bool.eq_false_iff.mp h)⟩

theorem streamLen_afterWait {s : State} {op : CoreOp} {n w : Nat} (h : CanIssue s op n w) :
    ((afterWait s n w).core n).streamLen = (s.core n).streamLen := by
  obtain ⟨dec, hcore⟩ := afterWait_core (canIssue_sq h) w
  rw [hcore]

/-- Settles O8: each row answers the state in which the effect of its command goes on. -/
theorem sequencerCommandsTakeEffect : Obligations.SequencerCommandsTakeEffect := by
  unfold Obligations.SequencerCommandsTakeEffect
  intro s n w hwait hen u pos ord
  refine ⟨fun h => issueRow_go h rfl hwait hen rfl, fun h => issueRow_stop h rfl hwait hen rfl,
    fun h => issueRow_go h rfl hwait hen rfl, fun h hcount => issueRow_go h rfl hwait hen (sqWait_of_le hcount _),
    fun h => issueRow_go h rfl hwait hen rfl, fun h => issueRow_go h rfl hwait hen rfl,
    fun h => issueRow_go h rfl hwait hen rfl, fun h => issueRow_go h rfl hwait hen rfl, fun h hlen => ?_,
    fun h => issueRow_go h rfl hwait hen rfl, fun h hlap => issueRow_go h rfl hwait hen (sqLap_of_zero hlap _),
    fun h hlap hback => issueRow_go h rfl hwait hen (sqLap_of_le hlap hback),
    fun h hdrained => issueRow_go h rfl hwait hen (sqDrain_of_drained hdrained _), fun h => issueRow_go h rfl hwait hen rfl⟩
  rw [← streamLen_afterWait h] at hlen
  exact issueRow_go h rfl hwait hen (sqSkip_of_lt hlen)

/-- Settles O9: a SKIP or LAP out of the stream is bad (`issueRow_bad`), a WAIT or DRAIN is held (`issueRow_hold`), and a void
only waits and posts (`issueRow_void`). -/
theorem sequencerCommandsHaltWaitOrStayVoid : Obligations.SequencerCommandsHaltWaitOrStayVoid := by
  unfold Obligations.SequencerCommandsHaltWaitOrStayVoid
  constructor
  · intro s n w hwait hen u pos ord
    have hafter : Agree _ s u := afterWait_agree s n w
    have hposition (x : SqWait) : (u.sqHold n x).position n = pos :=
      ((sqHold_agree u n x).position (by decide +kernel) n).trans (hafter.position (by decide +kernel) n)
    have hordinal (x : SqWait) : (u.sqHold n x).ordinal n = s.ordinal n :=
      ((sqHold_agree u n x).ordinal (by decide +kernel) n).trans (hafter.ordinal (by decide +kernel) n)
    refine ⟨fun h hlen => ?_, fun h hlap hback => issueRow_bad h rfl hwait hen (sqLap_of_lt hlap hback),
      fun h hcount => ?_, fun h hbusy => ?_⟩
    · rw [← streamLen_afterWait h] at hlen
      exact issueRow_bad h rfl hwait hen (sqSkip_of_le hlen)
    · obtain ⟨x, hx⟩ := sqWait_of_lt hcount pos
      exact ⟨_, issueRow_hold h rfl hwait hen hx, hposition _, hordinal _, (sqHold_agree u n _).flag (by decide +kernel) ..⟩
    · obtain ⟨x, hx⟩ := sqDrain_of_busy hbusy pos
      exact ⟨_, issueRow_hold h rfl hwait hen hx, hposition _, hordinal _⟩
  · intro p hp s n w hissue hwait hen
    have hrow : exec (p.1 n) s = issueRow p.2 n s ∧ CoreOp.isSq p.2 = true := by
      fin_cases hp <;> exact ⟨rfl, rfl⟩
    rw [hrow.1]
    exact issueRow_void hissue hrow.2 hwait hen

/-! ### Engine commands -/

/-- With room an engine command enters its queue, and the chain state of its accumulator set moves on (R83, R113). -/
theorem issueQueued_of_room {s : State} {op : CoreOp} {n w pos ord : Nat} {en : Bool}
    (hroom : (s.core n).room (engineOf w) = true) :
    issueQueued op s n w pos ord en =
      let q : QCmd := { engine := engineOf w, word := w, ord := ord, pos := pos, void := !en,
                        gap := (s.core n).paceGap, waited := 0 }
      let d := if en then chainIssue op w (s.core n) else s.core n
      (s.setCore n (if engineOf w = 3 then { d with lde := d.lde ++ [q] } else if engineOf w = 5 then { d with fxe := d.fxe ++ [q] }
        else { d with paced := d.paced ++ [q], paceGap := 1 })).issued n pos (pos + 1) ord := if_pos hroom

/-- Settles O10: with room in the queue an engine's command enters it (`issueQueued_of_room`). -/
theorem engineCommandsEnterTheirQueue : Obligations.EngineCommandsEnterTheirQueue := by
  unfold Obligations.EngineCommandsEnterTheirQueue
  intro p hp s n w hissue hroom c e q d
  have hrow : exec (p.1 n) s = issueRow p.2 n s ∧ CoreOp.isSq p.2 = false := by
    fin_cases hp <;> exact ⟨rfl, rfl⟩
  rw [hrow.1, issueRow_queued hissue hrow.2, issueQueued_of_room hroom]

/-! ### SKIP -/

/-- A command that has issued shows its ordinal and the next position. -/
theorem issued_position_ordinal (s : State) (n pos next ord : Nat) :
    (s.issued n pos next ord).position n = next % 2 ^ 32 ∧ (s.issued n pos next ord).ordinal n = ord % 2 ^ 64 := by
  unfold State.issued
  extract_lets u c v
  have hposition : v.position n = next % 2 ^ 32 :=
    (State.setCore_fld ..).trans (State.fld_wrFld_same _ Obj.seqState n 16 32 next rfl)
  have hordinal : v.ordinal n = ord % 2 ^ 64 :=
    (State.setCore_fld ..).trans <| (State.fld_wrFld_other _ Obj.seqState n 16 32 next 48 64 rfl (.inr (by decide))).trans
      (State.fld_wrFld_same s Obj.seqState n 48 64 ord rfl)
  split
  · exact ⟨((stopIssue_agree ..).position (by decide +kernel) n).trans hposition,
      ((stopIssue_agree ..).ordinal (by decide +kernel) n).trans hordinal⟩
  · exact ⟨hposition, hordinal⟩

theorem issued_icache (s : State) (n pos next ord : Nat) :
    ((s.issued n pos next ord).core n).icache = (s.core n).icache := by
  unfold State.issued
  extract_lets u c v
  have hu : c = s.core n := (State.wrFld_core ..).trans (State.wrFld_core ..)
  have hcore : (v.core n).icache = (s.core n).icache := by
    unfold v
    rw [State.core_setCore_same, hu]
  split
  · rw [core_stopIssue]
    exact hcore
  · exact hcore

/-- Off the end of the stream every row halts its core with reason 5 (R84). -/
theorem issueRow_of_end {s : State} {n : Nat} (hn : n < 96) (hrun : s.coreCanRun n = true) (hstate : s.coreState n = 1)
    (hstop : (s.core n).stop = .running) (hend : (s.core n).streamLen ≤ s.position n) (op : CoreOp) :
    issueRow op n s = .next (s.haltCore n 0x12 5 (s.core n).lastPos (s.ordinal n)) := by
  unfold issueRow
  rw [if_neg (by omega), if_neg (by simp [hrun, hstate, hstop])]
  exact if_pos hend

/-- Settles O52: SKIP goes on where its target lies in the stream (`issueRow_go`) and halts elsewhere (`issueRow_bad`). -/
theorem skipJumpsOrHalts : Obligations.SkipJumpsOrHalts := by
  unfold Obligations.SkipJumpsOrHalts
  intro s n
  refine ⟨fun w hissue hwait hen => ?_, fun c hc hn hrun hstate hstop hend => ?_⟩
  · intro target
    have ⟨_, _, hstate, hstop, hsq, _⟩ := hissue
    have hafter := afterWait_agree s n w
    obtain ⟨dec, hcore⟩ := afterWait_core hsq w
    have hlen := streamLen_afterWait hissue
    rcases Nat.lt_or_ge target (s.core n).streamLen with hlt | hge
    · refine ⟨_, issueRow_go hissue rfl hwait hen (sqSkip_of_lt (hlen ▸ hlt)), fun _ => ?_, fun h => absurd h (by omega)⟩
      obtain ⟨hposition, hordinal⟩ := issued_position_ordinal (afterWait s n w) n (s.position n) target (s.ordinal n + 1)
      refine ⟨((post_agree ..).position (by decide +kernel) n).trans hposition,
        ((post_agree ..).ordinal (by decide +kernel) n).trans hordinal, ?_⟩
      refine (post_icache_areg ..).1.trans ((issued_icache ..).trans ?_)
      rw [hcore]
    · refine ⟨_, issueRow_bad hissue rfl hwait hen (sqSkip_of_le (hlen ▸ hge)), fun h => absurd h (by omega), fun _ => ?_⟩
      have hlive : (afterWait s n w).coreLive n = true := by
        rw [coreLive_of_coreState (hafter.coreState (by decide +kernel) n)]
        simp [State.coreLive, hstate]
      obtain ⟨hstate', hhalted, hstatus, hdetail, -⟩ :=
        haltCore_of_live hlive (by simp [hcore, hstop]) 0x12 4 (s.position n) (s.ordinal n + 1)
      exact ⟨hstate', hhalted, hstatus, hdetail,
        ((haltCore_agree ..).position (by decide +kernel) n).trans (hafter.position (by decide +kernel) n)⟩
  · obtain ⟨op, hop⟩ : ∃ op, exec c s = issueRow op n s := by
      fin_cases hc <;> exact ⟨_, rfl⟩
    have hlive : s.coreLive n = true := by simp [State.coreLive, hstate]
    obtain ⟨hstate', hhalted, hstatus, hdetail, -⟩ :=
      haltCore_of_live hlive (by simp [hstop]) 0x12 5 (s.core n).lastPos (s.ordinal n)
    exact ⟨_, hop.trans (issueRow_of_end hn hrun hstate hstop hend op), hstate', hhalted, hstatus, hdetail⟩

end Sys2Proof.Laws
end

section
/-! PROOFS. A flag at its top stays there and halts its core (O51), and the heads of the queues dispatch (O11). -/

namespace Sys2Proof.Laws

set_option Elab.async false

open Sys2Proof.Machine

/-! ### A flag at its top -/

/-- A FLAGSET beyond the top, with the increments of its stride, leaves the flag there and halts a live core (R93, R95). -/
theorem flagSet_of_over {s : State} {n f v : Nat} (hover : 2 ^ 32 ≤ v + KMap.get (s.core n).incNow 0 f)
    (hlive : s.coreLive n = true) (hstop : (s.core n).stop ≠ .halted) (pos ord : Nat) :
    let t := s.flagSet n f v pos ord
    t.flag n f = 2 ^ 32 - 1 ∧ t.coreState n = 2 ∧ (t.core n).stop = .halted ∧ t.fld Obj.haltRecord n 0 8 = 0x14 := by
  intro t
  have ht : t = (s.setFlag n f (2 ^ 32 - 1)).haltCore n 0x14 2 pos ord := if_neg (not_lt.mpr hover)
  have hlive' : (s.setFlag n f (2 ^ 32 - 1)).coreLive n = true :=
    (coreLive_of_coreState (coreState_setFlag s n f (2 ^ 32 - 1) n)).trans hlive
  obtain ⟨hstate, hhalted, hstatus, -⟩ := haltCore_of_live hlive' hstop 0x14 2 pos ord
  rw [ht]
  exact ⟨((haltCore_agree ..).flag (by decide +kernel) n f).trans (flag_setFlag_same s n f (2 ^ 32 - 1)), hstate,
    hhalted, hstatus⟩

/-- A SIGNAL that meets no ordered stream and no hold is performed, and answered (R185, R191). -/
theorem reqSignal_next {s : State} {f : Frame} (hord : f.ordered = false) (hwait : s.mustWait f = false)
    (htakes : TakesRequest s 5 f) (hcore : s.hasCore (bits f.hdr 32 8) = true) :
    exec (.reqSignal f) s =
      .next ((s.addFlag (bits f.hdr 32 8) (bits f.hdr 24 8) 1 (s.ownSignal f (bits f.hdr 32 8))).reply f 0 []) := by
  obtain ⟨hdev, hscratched, hop, hdest, hpower, hcompute, hclosed⟩ := htakes
  have hserve : s.serve f .clean =
      ⟨some 0, [], s.addFlag (bits f.hdr 32 8) (bits f.hdr 24 8) 1 (s.ownSignal f (bits f.hdr 32 8))⟩ := by
    simp only [State.serve, hop]
    exact if_pos hcore
  simp only [exec, execReqSignal, State.requestIn, hdev, hscratched, hop, hdest, hcompute, hclosed, hord, hwait]
  simp [State.answer, hserve]

/-- Settles O51: an increment that does not fit leaves the flag at its top (`flag_addFlag_same`), and what follows depends on
whether a FLAGSET of the stride comes first (`addFlag_of_over_flagset`, `addFlag_of_over`). -/
theorem flagAtItsTopStaysAndHalts : Obligations.FlagAtItsTopStaysAndHalts := by
  unfold Obligations.FlagAtItsTopStaysAndHalts
  refine ⟨fun s n f amount src hn hf hflag => ?_, fun s n w hwait hen h => issueRow_go h rfl hwait hen rfl,
    fun s f hord hwait htakes hcore => ⟨reqSignal_next hord hwait htakes hcore, fun hsrc => if_pos hsrc⟩⟩
  intro t
  have htop : t.flag n f = min (s.flag n f + amount) (2 ^ 32 - 1) := flag_addFlag_same s n f amount src
  refine ⟨fun hfits => ⟨by omega, ?_⟩, fun hover => ⟨by omega, fun hcomes => ?_, fun hcomes hlive hstop => ?_⟩⟩
  · unfold t
    rw [addFlag_of_fits hfits]
    exact coreState_setFlag ..
  · have ht : t = flagAtTop s n f amount := addFlag_of_over_flagset hover hcomes src
    have hstate : t.coreState n = s.coreState n := ht ▸ flagAtTop_coreState s n f amount n
    have hstop' : (t.core n).stop = (s.core n).stop := by rw [ht, flagAtTop_core]
    refine ⟨hstate, fun v pos ord _ hsum hlive hstop => flagSet_of_over hsum ?_ (hstop' ▸ hstop) pos ord⟩
    rw [coreLive_of_coreState hstate, hlive]
  · have hlive' : (flagAtTop s n f amount).coreLive n = true :=
      (coreLive_of_coreState (flagAtTop_coreState s n f amount n)).trans hlive
    have hstop' : ((flagAtTop s n f amount).core n).stop ≠ .halted := by rwa [flagAtTop_core]
    obtain ⟨hstate, hhalted, hstatus, hdetail, hpos, hord⟩ := haltCore_of_live hlive' hstop' 0x14
      (if src.isSome then 2 else 3) (src.getD (0, 0)).1 (src.getD (0, 0)).2
    rw [← addFlag_of_over hover hcomes src] at hstate hhalted hstatus hdetail hpos hord
    refine ⟨hstate, hhalted, hstatus, ?_, ?_⟩
    · rintro pos ord rfl
      exact ⟨hdetail, hpos, hord⟩
    · rintro rfl
      exact hdetail

/-! ### The LDE and FXE queues -/

/-- The head of the LDE or FXE queue that is ready leaves it and runs (R88, R99). -/
theorem queueDispatch_next {s : State} {core engine : Nat} {q : QCmd} {rest : List QCmd} (hcore : core < 96)
    (hengine : engine = 3 ∨ engine = 5) (hrun : s.coreCanRun core = true) (hlive : s.coreLive core = true)
    (hqueue : (s.core core).engineQueue engine = q :: rest) (hready : s.headReady core engine = true)
    (hlane : s.waiting.any (fun r => r.lane == 2 * core + b2n (engine == 5)) = false) (ecc : Ecc) :
    exec (.queueDispatch core engine ecc) s = .next (State.queueRun ((afterHeadWait s core q.word).setCore core
      (if engine = 3 then { (afterHeadWait s core q.word).core core with lde := rest }
        else { (afterHeadWait s core q.word).core core with fxe := rest })) core q ecc) := by
  simp only [exec, execQueueDispatch]
  rw [if_neg (by omega), if_neg (by simp [hrun, hlive])]
  simp only [hqueue]
  rw [if_neg (by simp [hready, hlane])]
  rfl

theorem modifyNth_getD {α : Type} (a d : α) {l : List α} {k : Nat} (h : k < l.length) :
    (modifyNth (fun _ => a) k l).getD k d = a := by
  induction l generalizing k with
  | nil => simp at h
  | cons b l ih =>
    cases k with
    | zero => rfl
    | succ k => simpa [modifyNth] using ih (by simpa using h)

/-- SETA leaves its value in the address register (R191). -/
theorem areg_seta (s : State) {n : Nat} {q : QCmd} (h : bits q.word 92 4 < (s.core n).areg.length) :
    (s.seta n q).areg n (bits q.word 92 4) = bits q.word 28 64 := by
  unfold State.areg State.seta
  rw [(post_icache_areg ..).2, State.core_setCore_same]
  exact modifyNth_getD _ _ h

/-- What the wait of a queue's head takes leaves the address registers. -/
theorem afterHeadWait_areg (s : State) (n w : Nat) : ((afterHeadWait s n w).core n).areg = (s.core n).areg := by
  unfold afterHeadWait
  split
  · rfl
  · have htake : (s.takeFlag n (waitSel w) 1).core n = { s.core n with decNow := waitSel w :: (s.core n).decNow } :=
      State.core_setCore_same ..
    rw [htake]

/-! ### The paced queue -/

/-- The head of the paced queue that is ready at its dispatch stride leaves the queue there and runs (R86). -/
theorem pacedDispatch_next {s : State} {core free d : Nat} {q : QCmd} {rest : List QCmd} (hcore : core < 96)
    (hrun : s.coreCanRun core = true) (hlive : s.coreLive core = true) (hqueue : (s.core core).paced = q :: rest)
    (hstride : s.dispatchStride core q = (free, some d)) (hready : s.headReady core q.engine = true)
    (hclear : d ≤ s.stride core ∨ s.clearTo core d = true) (hdue : above? (s.core core).nextDue d = true) (ecc : Ecc) :
    let u := (s.advance core d).inc Obj.governorState 0 64 64 (d - free)
    let v := if waitSel q.word = 0 then u else u.takeFlag core (waitSel q.word) 1
    exec (.pacedDispatch core ecc) s =
      .next ((v.setCore core { v.core core with paced := rest, lastDispatch := some d }).pacedRun core q ecc) := by
  have hnow : (!s.clearTo core d && decide (s.stride core < d)) = false := by
    rcases hclear with h | h
    · simp [h]
    · simp [h]
  simp only [exec, execPacedDispatch]
  rw [if_neg (by omega), if_neg (by simp [hrun, hlive])]
  simp only [hqueue, hstride]
  rw [if_neg (by simp [hready, hnow, hdue])]

theorem pacedRun_clean (s : State) (n : Nat) (q : QCmd) :
    s.pacedRun n q .clean = if q.void then s.post n q.word q.pos q.ord else s.startPaced n q := by
  unfold State.pacedRun
  extract_lets reads
  rw [eccRanges_clean]

/-- Settles O11: both dispatches are as their equations say (`queueDispatch_next`, `pacedDispatch_next`); a void posts, and SETA
writes its register (`areg_seta`). -/
theorem queueHeadsDispatch : Obligations.QueueHeadsDispatch := by
  unfold Obligations.QueueHeadsDispatch
  constructor
  · intro s core engine ecc q rest hcore hengine hrun hlive hqueue hready hlane u v
    have hnext := queueDispatch_next hcore hengine hrun hlive hqueue hready hlane ecc
    refine ⟨hnext, fun hvoid => hnext.trans ?_, fun hvoid hop hreg => ⟨_, hnext, ?_⟩⟩
    · exact congrArg Host.Outcome.next (if_pos hvoid)
    · have hlen : bits q.word 92 4 < (v.core core).areg.length := by
        have hareg : (v.core core).areg = (u.core core).areg := by
          unfold v
          rw [State.core_setCore_same]
          split <;> rfl
        rwa [hareg, afterHeadWait_areg]
      have hseta : v.queueRun core q ecc = v.seta core q := by
        unfold State.queueRun
        rw [if_neg (by simp [hvoid])]
        simp only [hop]
      exact hseta ▸ areg_seta v hlen
  · intro s core free d ecc q rest hcore hrun hlive hqueue hstride hready hclear hdue u v x
    have hnext := pacedDispatch_next hcore hrun hlive hqueue hstride hready hclear hdue
    exact ⟨hnext ecc, (hnext .clean).trans (congrArg Host.Outcome.next (pacedRun_clean x core q))⟩

end Sys2Proof.Laws
end

section
/-! PROOFS. The earliest paced result is written, counted and posted once (O12). -/

namespace Sys2Proof.Laws

set_option Elab.async false

open Sys2Proof.Machine

/-- The core once its earliest result has left those in flight, at the stride of that result (R94). -/
def resultTaken (s : State) (core : Nat) (f : Flight) : State :=
  (s.advance core f.due).setCore core { (s.advance core f.due).core core with
    flights := ((s.advance core f.due).core core).flights.erase f }

/-- What the command of a flight computes (R98). -/
def resultOf (s : State) (core : Nat) (f : Flight) (op : CoreOp) : Outcome4 :=
  computeResult op f.cmd.word f.inputs ⟨f.seed, f.rank, (resultTaken s core f).free⟩

/-- The state in which the writes of a result begin (R115, R131). -/
def resultBegun (s : State) (core : Nat) (f : Flight) (op : CoreOp) : State := ((resultTaken s core f).setResult core f op).drawn

/-- The summary slot and the totals of a result (R75, R132). -/
def resultCounted (y : State) (core : Nat) (op : CoreOp) (w : Nat) (r : Outcome4) : State :=
  (match slotOf op w with
    | some k => y.writeSlot core k (summaryCode r.status r.value r.sat r.flush)
    | none => y).addTotals core r.sat r.flush

/-- A result that is written is counted and posted. -/
def resultPosted (y : State) (core : Nat) (f : Flight) (op : CoreOp) (r : Outcome4) : State :=
  (resultCounted y core op f.cmd.word r).post core f.cmd.word f.cmd.pos f.cmd.ord

/-- The earliest result is written whole, counted and posted, unless an uncorrectable read ends its writes (R94, R168). -/
theorem pacedResult_next {s : State} {core : Nat} {f : Flight} {op : CoreOp} (hcore : core < 96)
    (hrun : s.coreCanRun core = true) (hlive : s.coreLive core = true) (hfirst : earliest (s.core core).flights = some f)
    (hexpiry : above? (s.nextExpiry core) f.due = true) (hbefore : s.dispatchesBefore core f.due = false)
    (hop : CoreOp.of f.cmd.word = some op) {ecc : Ecc} {whole : Bool} {y : State}
    (hwrites : (resultBegun s core f op).applyEffects core f.cmd.ord (resultOf s core f op).effects ecc = (whole, y)) :
    exec (.pacedResult core ecc) s = .next (if whole then resultPosted y core f op (resultOf s core f op) else y) := by
  unfold resultBegun resultOf resultTaken at hwrites
  simp only [exec, execPacedResult]
  rw [if_neg (by omega), if_neg (by simp [hrun, hlive])]
  simp only [hfirst]
  rw [if_neg (by simp [hexpiry, hbefore])]
  simp only [hop, hwrites]
  cases whole <;> exact congrArg Host.Outcome.next rfl

/-- What a result writes before its post: no flag is among it. -/
def resultFoot : Nat := 1 <<< 264 ||| 1 <<< 265 ||| 1 <<< 256 ||| 1 <<< 257 ||| 0x181b100000 ||| 1 <<< 25

theorem resultCounted_agree {s : State} {core : Nat} {f : Flight} {op : CoreOp} (r : Outcome4) (es : List Effect) :
    Agree resultFoot s (resultCounted (es.foldl (fun s e => s.applyEffect core f.cmd.ord e) (resultBegun s core f op)) core op
      f.cmd.word r) := by
  have hclosed {m : Nat} (h : m &&& resultFoot = m) : Closed m (Agree resultFoot s) :=
    (Agree.closed s (by decide +kernel)).mono h
  have htaken : Agree resultFoot s (resultTaken s core f) :=
    State.setCore_closed (hclosed (by decide +kernel)) (State.advance_closed (hclosed (by decide +kernel)) (Agree.refl _ s) ..) ..
  have hbegun : Agree resultFoot s (resultBegun s core f op) :=
    State.drawn_closed (hclosed (by decide +kernel)) (State.setResult_closed (hclosed (by decide +kernel)) htaken ..)
  have hwritten := foldl_sat (l := es) (f := fun s e => s.applyEffect core f.cmd.ord e) hbegun
    fun _ e hu => State.applyEffect_closed (hclosed (by decide +kernel)) hu core f.cmd.ord e
  unfold resultCounted
  refine State.addTotals_closed (hclosed (by decide +kernel)) ?_ ..
  split
  · exact State.writeSlot_closed (hclosed (by decide +kernel)) hwritten ..
  · exact hwritten

/-- Settles O12: the result is as its equation says (`pacedResult_next`), and the flags are touched by
its post alone (`resultCounted_agree`). -/
theorem pacedResultsAreWrittenAndPostOnce : Obligations.PacedResultsAreWrittenAndPostOnce := by
  unfold Obligations.PacedResultsAreWrittenAndPostOnce
  constructor
  · intro s core f op ecc hcore hrun hlive hfirst hexpiry hbefore hop u v r written x
    refine ⟨fun y hy => (pacedResult_next hcore hrun hlive hfirst hexpiry hbefore hop hy).trans rfl,
      fun y hy => pacedResult_next hcore hrun hlive hfirst hexpiry hbefore hop hy,
      (pacedResult_next hcore hrun hlive hfirst hexpiry hbefore hop (State.applyEffects_clean ..)).trans rfl⟩
  · intro s core f op hcore hrun hlive hfirst hexpiry hbefore hop
    have hflag (g : Nat) := (resultCounted_agree (s := s) (core := core) (f := f) (op := op) (resultOf s core f op)
      (resultOf s core f op).effects).flag (by decide +kernel) core g
    refine ⟨_, pacedResult_next hcore hrun hlive hfirst hexpiry hbefore hop (State.applyEffects_clean ..), fun hsel => ?_,
      fun g hg hne => ?_⟩
    · exact (flag_post_same _ hsel ..).trans (by rw [hflag])
    · exact (flag_post_other _ _ _ hg hne).trans (hflag g)

end Sys2Proof.Laws
end

section
/-! PROOFS. Cores are launched, stopped and completed (O13). -/

namespace Sys2Proof.Laws

set_option Elab.async false

open Sys2Proof.Machine

/-! ### The launch in parts -/

/-- The state of a core that has just been launched (R100, R103, R113). -/
def launchedCore (s : State) (core off : Nat) : CoreSt :=
  { CoreSt.init with
    descAddr := off, streamAddr := bits (s.memCode 0 off 64) 0 44, streamLen := bits (s.memCode 0 off 64) 64 32,
    truncAt := bits (s.memCode 0 off 64) 96 64,
    waitLimit := if bits (s.memCode 0 off 64) 160 32 = 0 then s.rd Obj.waitLimitDefault 0 else bits (s.memCode 0 off 64) 160 32,
    launchStride := s.stride core, stop := .running, areg := (s.core core).areg, windowStart := (s.core core).windowStart,
    ahead := (s.core core).ahead, incNow := [], decNow := [] }

/-- The launched core with its halt record and its sequencer state (R106, R108). -/
def launchRecords (s : State) (core off : Nat) : State :=
  (((s.ringCoreEnds core).setCore core (launchedCore s core off)).wr Obj.haltRecord core 0).wr Obj.seqState core
    (bits (s.memCode 0 off 64) 192 16 ||| 1)

/-- Slots, busy counts and errors of a core cleared (R103, R135). -/
def launchCleared (u : State) (core : Nat) : State :=
  ((foldUp (fun k s => s.wr Obj.pacedBusy (3 * core + k) 0) 0 3
    (foldUp (fun k s => s.wr Obj.summarySlots (8 * core + k) 0) 0 8 u)).wr Obj.gmuError core 0).wr Obj.collError core 0

/-- The flags of a core cleared (R103). -/
def flagsCleared (u : State) (core : Nat) : State :=
  { u with objs := u.objs.filter fun p => !(p.1 / 2 ^ 32 == Obj.flags && p.1 % 2 ^ 32 / 256 == core) }

theorem launch_eq (s : State) (core off : Nat) :
    s.launch core off = (if (s.memCode 0 off 64).testBit 208 then launchCleared (launchRecords s core off) core
      else flagsCleared (launchCleared (launchRecords s core off) core) core).wr Obj.coreState core 1 := rfl

/-! ### What the parts leave -/

/-- What the clearing writes. -/
def launchClearFoot : Nat := 1 <<< 24 ||| 1 <<< 25 ||| 1 <<< 72 ||| 1 <<< 147

theorem launchCleared_closed {P : State → Prop} {u : State} (hP : Closed launchClearFoot P) (h : P u) (core : Nat) :
    P (launchCleared u core) := by
  have hslots := foldUp_sat (f := fun k s => s.wr Obj.summarySlots (8 * core + k) 0) (lo := 0) (n := 8) h
    fun k _ h => State.wr_closed hP (by decide +kernel) h ..
  have hbusy := foldUp_sat (f := fun k s => s.wr Obj.pacedBusy (3 * core + k) 0) (lo := 0) (n := 3) hslots
    fun k _ h => State.wr_closed hP (by decide +kernel) h ..
  exact State.wr_closed hP (by decide +kernel) (State.wr_closed hP (by decide +kernel) hbusy ..) ..

theorem flagsCleared_closed {P : State → Prop} {u : State} (hP : Closed (1 <<< 22) P) (h : P u) (core : Nat) :
    P (flagsCleared u core) := by
  refine hP.drop u _ (fun p hp => ?_) h
  cases hflags : p.1 / 2 ^ 32 == Obj.flags with
  | false => simp only [Bool.false_and, Bool.not_false]
  | true =>
    rw [eq_of_beq hflags] at hp
    exact absurd hp (by decide +kernel)

/-- A flag that is cleared reads 0. -/
theorem flag_flagsCleared (u : State) {core f : Nat} (hcore : core < 96) (hf : f < 256) :
    (flagsCleared u core).flag core f = 0 := by
  have hkey : objKey Obj.flags (256 * core + f) % 2 ^ 32 / 256 = core := by
    rw [objKey_mod]
    omega
  have hdropped (v : Nat) :
      (!((objKey Obj.flags (256 * core + f), v).1 / 2 ^ 32 == Obj.flags &&
        (objKey Obj.flags (256 * core + f), v).1 % 2 ^ 32 / 256 == core)) = false := by
    simp only [objKey_div, hkey, beq_self_eq_true, Bool.and_self, Bool.not_true]
  have hfactory : factoryKey (objKey Obj.flags (256 * core + f)) = 0 := by
    unfold factoryKey
    rw [objKey_div]
    rfl
  exact (get_filter_dropped hdropped _).trans hfactory

/-- A launch writes what it clears, flags and CORE_STATE after its records. -/
def launchFoot : Nat := launchClearFoot ||| 1 <<< 22 ||| 1 <<< 14

theorem launch_agree (s : State) (core off : Nat) : Agree launchFoot (launchRecords s core off) (s.launch core off) := by
  have hclosed {m : Nat} (h : m &&& launchFoot = m) : Closed m (Agree launchFoot (launchRecords s core off)) :=
    (Agree.closed _ (by decide +kernel)).mono h
  have hcleared := launchCleared_closed (hclosed (by decide +kernel)) (Agree.refl _ (launchRecords s core off)) core
  rw [launch_eq]
  exact State.wr_closed (hclosed (Nat.and_self _)) (by decide +kernel)
    (ite_sat hcleared (flagsCleared_closed (hclosed (by decide +kernel)) hcleared core)) ..

/-- The records of a launch write no flag. -/
theorem launchRecords_flag (s : State) (core off n f : Nat) : (launchRecords s core off).flag n f = s.flag n f :=
  (State.rd_wr_obj _ _ _ _ (by decide)).trans (State.rd_wr_obj _ _ _ _ (by decide))

/-- A launched core's flags are kept where its descriptor says so, and 0 otherwise (R103). -/
theorem launch_flag (s : State) {core f : Nat} (off : Nat) (hcore : core < 96) (hf : f < 256) :
    (s.launch core off).flag core f = if (s.memCode 0 off 64).testBit 208 then s.flag core f else 0 := by
  have hstate (u : State) : (u.wr Obj.coreState core 1).flag core f = u.flag core f := State.rd_wr_obj _ _ _ _ (by decide)
  have hkept : (launchCleared (launchRecords s core off) core).flag core f = s.flag core f :=
    ((launchCleared_closed (Agree.closed _ (by decide +kernel)) (Agree.refl _ (launchRecords s core off)) core).flag
      (by decide +kernel) core f).trans (launchRecords_flag ..)
  rw [launch_eq, hstate]
  split
  · exact hkept
  · exact flag_flagsCleared _ hcore hf

/-- A launched core runs from the start of its stream, its record clear (R104, R106, R107). -/
theorem launch_starts (s : State) (core off : Nat) :
    let t := s.launch core off
    t.coreState core = 1 ∧ t.position core = 0 ∧ t.ordinal core = 0 ∧ t.rd Obj.haltRecord core = 0 ∧
      t.core core = launchedCore s core off := by
  intro t
  have hagree : Agree launchFoot (launchRecords s core off) t := launch_agree s core off
  have hseq : t.rd Obj.seqState core = (bits (s.memCode 0 off 64) 192 16 ||| 1) :=
    (hagree.rd _ _ (by decide +kernel)).trans (State.rd_wr_same _ Obj.seqState core _ rfl)
  have hhalt : t.rd Obj.haltRecord core = 0 :=
    (hagree.rd _ _ (by decide +kernel)).trans
      ((State.rd_wr_obj _ _ _ _ (by decide)).trans (State.rd_wr_same _ Obj.haltRecord core 0 rfl))
  have hlow : (bits (s.memCode 0 off 64) 192 16 ||| 1) < 2 ^ 16 := Nat.or_lt_two_pow (bits_lt ..) (by decide)
  have hcore : t.core core = launchedCore s core off :=
    (hagree.core (by decide +kernel) core).trans (State.core_setCore_same (s.ringCoreEnds core) core _)
  refine ⟨?_, ?_, ?_, hhalt, hcore⟩
  · show (s.launch core off).rd Obj.coreState core = 1
    rw [launch_eq]
    exact State.rd_wr_same _ Obj.coreState core 1 rfl
  · unfold State.position State.fld
    rw [hseq, bits_eq, Nat.div_eq_of_lt hlow]
    rfl
  · unfold State.ordinal State.fld
    rw [hseq, bits_eq, Nat.div_eq_of_lt (by omega)]
    rfl

/-! ### The answer to a launch -/

theorem launchCode_eq_one {s : State} {core off : Nat} (h : s.launchCode core off = 1) :
    core < 96 ∧ s.mapped 0 off 64 = true := by
  unfold State.launchCode at h
  split at h
  · cases h
  split at h
  · cases h
  next hcore =>
  split at h
  · cases h
  next hdesc =>
  simp only [Bool.or_eq_true, Bool.not_eq_true', not_or, Bool.not_eq_false] at hcore hdesc
  have hpresent : s.hasCore core = true := hcore.1
  simp only [State.hasCore, Bool.and_eq_true, decide_eq_true_eq] at hpresent
  simp only [State.launchDescOk, Bool.and_eq_true] at hdesc
  exact ⟨hpresent.1, by simp only [hdesc]⟩

/-- With its descriptor read a launch answers its code, and takes place where that is 1 (R104). -/
theorem tryLaunch_clean (s : State) (core off : Nat) :
    s.tryLaunch core off .clean = (s.launchCode core off, if s.launchCode core off = 1 then s.launch core off else s) := by
  unfold State.tryLaunch
  extract_lets k
  split
  next hrefused =>
    have hne : k ≠ 1 := by
      intro hone
      have hmapped := (launchCode_eq_one hone).2
      simp [hone, hmapped] at hrefused
    rw [if_neg hne]
  next => rw [State.eccRead_clean]

theorem coreLaunch_next {s : State} {value : Nat} (hcompute : s.hasCompute = true) (hvalue : value < 2 ^ 52) :
    exec (.coreLaunch value .clean) s = .next
      ((if s.launchCode (bits value 44 8) (bits value 0 44) = 1 then s.launch (bits value 44 8) (bits value 0 44) else s).wr
        Obj.coreLaunch 0 (s.launchCode (bits value 44 8) (bits value 0 44))) := by
  simp only [exec, execCoreLaunch]
  rw [if_neg (by simp [hcompute]; omega), tryLaunch_clean]

/-! ### Stops and ends -/

section

variable {s : State} {n : Nat} (hn : n < 96) (hrun : s.coreCanRun n = true)
include hn hrun

/-- A stop of a running core ends its issue with TRUNCATED, detail 1 (R536). -/
theorem coreStop_next (hcompute : s.hasCompute = true) (hstate : s.coreState n = 1) :
    ∃ (u : State) (pos ord : Nat),
      exec (.coreStop n) s = .next ((u.stopIssue n (.truncated 1) pos ord).wr Obj.coreStop 0 1) := by
  simp only [State.coreCanRun, Bool.and_eq_true, Bool.not_eq_true'] at hrun
  simp only [exec, execCoreStop]
  rw [if_neg (by simp [hcompute]; omega), if_neg (by simp [hrun, hstate])]
  exact ⟨_, _, _, rfl⟩

/-- The first wait limit to expire halts the core with WAIT_LIMIT (R96). -/
theorem waitLimit_next {w : Waiter} {x : Nat} (hlive : s.coreLive n = true) (hfirst : s.firstExpiry n = some (w, x))
    (hdue : ∀ d, (s.core n).nextDue = some d → x ≤ d) (hbefore : s.dispatchesBefore n x = false) :
    exec (.waitLimit n) s = .next ((s.advance n x).haltCore n 0x10 w.engine w.pos w.ord) := by
  simp only [exec, execWaitLimit]
  rw [if_neg (by omega), if_neg (by simp [hrun, hlive])]
  simp only [hfirst]
  cases hnext : (s.core n).nextDue with
  | none => simp [hbefore]
  | some d => simp [hbefore, hdue d hnext]

/-- A core whose last command has completed ends as its stop says (R105). -/
theorem coreComplete_next (hstate : s.coreState n = 2) (hdrained : (s.core n).drained = true) :
    ((s.core n).stop = .ended →
      exec (.coreComplete n) s = .next ((s.wrFld Obj.haltRecord n 0 8 0x01).wr Obj.coreState n 3)) ∧
    (∀ d, (s.core n).stop = .truncated d → exec (.coreComplete n) s =
      .next (((s.wrFld Obj.haltRecord n 0 8 0x15).wrFld Obj.haltRecord n 8 8 d).wr Obj.coreState n 4)) ∧
    ((s.core n).stop = .halted → exec (.coreComplete n) s = .next (s.wr Obj.coreState n 4)) := by
  simp only [exec, execCoreComplete]
  rw [if_neg (by omega), if_neg (by simp [hrun, hstate, hdrained])]
  refine ⟨fun hstop => ?_, fun d hstop => ?_, fun hstop => ?_⟩ <;> simp only [hstop]

end

/-- Settles O13: a launch answers its code (`coreLaunch_next`) and starts the core (`launch_starts`, `launch_flag`); stops and
ends are as their equations say. -/
theorem coresLaunchStopAndComplete : Obligations.CoresLaunchStopAndComplete := by
  unfold Obligations.CoresLaunchStopAndComplete
  constructor
  · intro s value hcompute hvalue n off
    have hnext := coreLaunch_next hcompute hvalue
    refine ⟨fun hcode => ?_, fun hcode => ⟨_, hnext, ?_⟩⟩
    · rw [hnext, if_neg hcode]
    · have hcore : n < 96 := (launchCode_eq_one hcode).1
      rw [if_pos hcode, hcode]
      obtain ⟨hstate, hposition, hordinal, hhalt, hlaunched⟩ := launch_starts s n off
      have hread {c : ObjCode} (hc : c ≠ Obj.coreLaunch) (i : Nat) :
          ((s.launch n off).wr Obj.coreLaunch 0 1).rd c i = (s.launch n off).rd c i := State.rd_wr_obj _ _ _ _ hc
      refine ⟨State.rd_wr_same _ Obj.coreLaunch 0 1 rfl, (hread (by decide) n).trans hstate,
        (congrArg (bits · 16 32) (hread (by decide) n)).trans hposition,
        (congrArg (bits · 48 64) (hread (by decide) n)).trans hordinal, (hread (by decide) n).trans hhalt, ?_, ?_, ?_, ?_,
        fun f hf => (hread (by decide) _).trans (launch_flag s off hcore hf)⟩ <;>
        · rw [State.wr_core, hlaunched]
          rfl
  · intro s n hn hrun
    have hread {u : State} {v : Nat} {c : ObjCode} (hc : c ≠ Obj.coreState) (i lo w : Nat) :
        (u.wr Obj.coreState n v).fld c i lo w = u.fld c i lo w := State.fld_wr_obj _ _ _ _ _ _ hc
    refine ⟨fun hstate hcompute => ?_, fun hstate hdrained hstop => ?_, fun d hstate hdrained hstop => ?_,
      fun hstate hdrained hstop => ?_, fun w x hlive hfirst hdue hbefore => ?_⟩
    · obtain ⟨u, pos, ord, hnext⟩ := coreStop_next hn hrun hcompute hstate
      refine ⟨_, hnext, (State.rd_wr_obj _ _ _ _ (by decide)).trans (coreState_stopIssue ..), ?_,
        State.rd_wr_same _ Obj.coreStop 0 1 rfl⟩
      rw [State.wr_core, core_stopIssue]
    · obtain ⟨hended, -, -⟩ := coreComplete_next hn hrun hstate hdrained
      exact ⟨_, hended hstop, State.rd_wr_same _ Obj.coreState n 3 rfl,
        (hread (by decide) ..).trans (State.fld_wrFld_same s Obj.haltRecord n 0 8 1 rfl)⟩
    · obtain ⟨-, htruncated, -⟩ := coreComplete_next hn hrun hstate hdrained
      exact ⟨_, htruncated d hstop, State.rd_wr_same _ Obj.coreState n 4 rfl,
        (hread (by decide) ..).trans ((State.fld_wrFld_other _ Obj.haltRecord n 8 8 d 0 8 rfl (.inl (by decide))).trans
          (State.fld_wrFld_same s Obj.haltRecord n 0 8 0x15 rfl)),
        (hread (by decide) ..).trans (State.fld_wrFld_same _ Obj.haltRecord n 8 8 d rfl)⟩
    · obtain ⟨-, -, hhalted⟩ := coreComplete_next hn hrun hstate hdrained
      exact hhalted hstop
    · refine waitLimit_next hn hrun hlive hfirst (fun d hd => ?_) hbefore
      rw [hd] at hdue
      simpa using hdue

end Sys2Proof.Laws
end

section
/-! PROOFS. The books of the cores and of the Rake engines: instruction cache lines, totals, stride rates, and the service of the
shared engines (O14). -/

namespace Sys2Proof.Laws

set_option Elab.async false

open Sys2Proof.Machine

/-! ### Reads that the code corrects -/

/-- The counts of corrected reads (R166). -/
def correctedFoot : Nat := 1 <<< 38 ||| 1 <<< 39 ||| 1 <<< 43 ||| 1 <<< 50 ||| 1 <<< 156 ||| 1 <<< 257

/-- Codewords with at most one wrong unit are delivered, and only counted (R165, R166). -/
theorem eccWords_of_correctable {P : State → Prop} (hP : Closed correctedFoot P) (patrol : Bool) {l : List ((Nat × Nat) × Nat)}
    (hl : ∀ x ∈ l, x.2 ≤ 1) {s : State} (hs : P s) : ∃ u, eccWords patrol l s = (true, u) ∧ P u := by
  induction l generalizing s with
  | nil => exact ⟨s, rfl, hs⟩
  | cons x l ih =>
    obtain ⟨v, hword, hv⟩ : ∃ v, s.eccWord patrol x.1 x.2 = (true, v) ∧ P v := by
      unfold State.eccWord
      extract_lets at_ other
      rcases Nat.le_one_iff_eq_zero_or_eq_one.mp (hl x (.head _)) with hzero | hone
      · exact ⟨s, if_pos hzero, hs⟩
      · rw [if_neg (by omega), if_pos hone]
        exact ⟨_, rfl, State.countCorrected_closed (hP.mono (by decide +kernel)) hs ..⟩
    obtain ⟨u, hwords, hu⟩ := ih (fun y hy => hl y (.tail _ hy)) hv
    refine ⟨u, ?_, hu⟩
    unfold eccWords
    simp only [hword, hwords, Bool.and_self]

theorem eccRead_of_correctable {P : State → Prop} (hP : Closed correctedFoot P) {s : State} (hs : P s) {e : Ecc}
    (he : ∀ x ∈ e.flaws, x.2 ≤ 1) (region off n : Nat) : ∃ u, s.eccRead e region off n = (true, u) ∧ P u := by
  refine eccWords_of_correctable hP false (fun y hy => ?_) hs
  obtain ⟨x, hx, hplace⟩ := List.mem_filterMap.mp hy
  obtain ⟨q, -, rfl⟩ := Option.map_eq_some_iff.mp hplace
  exact he x hx

/-- Region 0 has no redirects (R161, R173). -/
theorem load_hbm (s : State) (off n : Nat) : s.load 0 off n = s.memRead 0 off n := by
  have hplace : s.place 0 off = (0, off) := by simp [State.place, State.placeGo]
  unfold State.load
  rw [hplace]

theorem Agree.load_hbm {m : Nat} {s t : State} (h : Agree m s t) (hm : m.testBit 256 = false) (off n : Nat) :
    t.load 0 off n = s.load 0 off n := by
  rw [Laws.load_hbm, Laws.load_hbm]
  unfold State.memRead State.mem8
  rw [h.mem hm]

/-! ### The instruction cache -/

/-- What a line that arrives counts: corrected reads, and refetches (R102). -/
def icacheFoot : Nat := correctedFoot ||| 1 <<< 18

/-- Where a line of the stream of a core stands in region 0, and its length there (R100). -/
abbrev lineOff (s : State) (n line : Nat) : Nat := (s.core n).streamAddr + 1024 * line

/-- The bytes of a line of the stream of a core. -/
abbrev lineLen (s : State) (n line : Nat) : Nat := min 1024 (16 * ((s.core n).streamLen - 64 * line))

/-- A line of the stream that arrives with no uncorrectable error is put into the cache (R100, R102). -/
theorem icacheFill_next {s : State} {n line : Nat} {parity : Bool} {ecc : Ecc} (hn : n < 96) (hrun : s.coreCanRun n = true)
    (hstate : s.coreState n = 1) (hline : 64 * line < (s.core n).streamLen)
    (hparity : parity = true → ((s.core n).icache.find line).isSome = true) (hecc : ∀ x ∈ ecc.flaws, x.2 ≤ 1)
    (hheld : s.held 0 (lineOff s n line) = false) (hheld' : s.held 0 (lineOff s n line + lineLen s n line - 1) = false) :
    ∃ (u : State) (kept : KMap Nat), Agree icacheFoot s u ∧ exec (.icacheFill n line parity ecc) s =
      .next (u.setCore n { u.core n with
        icache := kept.put line (leCode (u.load 0 (lineOff s n line) (lineLen s n line))) }) := by
  have hclosed : Closed icacheFoot (Agree icacheFoot s) := Agree.closed s (by decide +kernel)
  have hmissing : (parity && !((s.core n).icache.find line).isSome) = false := by
    cases hp : parity with
    | false => rfl
    | true => rw [hparity hp]; rfl
  simp only [exec, execIcacheFill]
  rw [if_neg (by omega), if_neg (by rw [hmissing]; simp [hrun, hstate, hline, hheld, hheld'])]
  have hcounted : Agree icacheFoot s (if parity = true then s.inc Obj.icacheRefetch n 0 64 1 else s) :=
    ite_sat (State.inc_closed hclosed (by decide +kernel) (by decide +kernel) (Agree.refl _ s) ..) (Agree.refl _ s)
  obtain ⟨u, hread, hu⟩ := eccRead_of_correctable (hclosed.mono (by decide +kernel)) hcounted hecc 0 (lineOff s n line)
    (lineLen s n line)
  rw [hread]
  exact ⟨u, _, hu, rfl⟩

/-! ### Totals -/

/-- An object that is cleared reads its factory value. -/
theorem rd_clearObj_same (s : State) {c : ObjCode} (h : identRead s.ident c = none) (i : Nat) :
    (s.clearObj c).rd c i = factory c (i % 2 ^ 32) := by
  have hdropped (v : Nat) : ((objKey c i, v).1 / 2 ^ 32 != c) = false := by simp only [objKey_div, bne_self_eq_false]
  have hread : (s.clearObj c).rd c i = factoryKey (objKey c i) :=
    (rd_of_stored (s := s.clearObj c) h i).trans (get_filter_dropped (g := fun p => p.1 / 2 ^ 32 != c) hdropped _)
  rw [hread]
  unfold factoryKey
  rw [objKey_div, objKey_mod]

theorem rd_clearObj_other (s : State) {c c' : ObjCode} (h : c' ≠ c) (i : Nat) : (s.clearObj c).rd c' i = s.rd c' i :=
  rd_filter s _ c' i fun p hp => by simp only [hp, bne_iff_ne, ne_eq, h, not_false_eq_true]

theorem hasCore_lt {s : State} {n : Nat} (h : s.hasCore n = true) : n < 96 := by
  simp only [State.hasCore, Bool.and_eq_true, decide_eq_true_eq] at h
  exact h.1

/-- TOTAL_CLEAR of one core (R75). -/
theorem totalClear_core {s : State} {n : Nat} (hcompute : s.hasCompute = true) (hn : s.hasCore n = true) :
    exec (.totalClear n) s = .next (((s.wr Obj.satTotal n 0).wr Obj.flushTotal n 0).wr Obj.totalClear 0 1) := by
  have hlt := hasCore_lt hn
  simp only [exec, execTotalClear]
  rw [if_neg (by simp [hcompute]), if_neg (by omega), if_pos hn]

theorem totalClear_all {s : State} (hcompute : s.hasCompute = true) :
    exec (.totalClear 0xFF) s = .next (((s.clearObj Obj.satTotal).clearObj Obj.flushTotal).wr Obj.totalClear 0 1) := by
  simp only [exec, execTotalClear]
  rw [if_neg (by simp [hcompute]), if_pos trivial]

theorem totalClear_refused {s : State} {n : Nat} (hcompute : s.hasCompute = true) (hall : n ≠ 0xFF) (hn : s.hasCore n = false) :
    exec (.totalClear n) s = .next s := by
  simp only [exec, execTotalClear]
  rw [if_neg (by simp [hcompute]), if_neg hall, if_neg (by simp [hn])]

/-- RAKE_TOTAL_CLEAR of one core (R155). -/
theorem rakeTotalClear_core {s : State} {n : Nat} (hcompute : s.hasCompute = true) (hn : s.hasCore n = true)
    (hrake : s.hasRake (n / 2) = true) :
    exec (.rakeTotalClear n) s = .next (((((s.wr Obj.rakeOverTotal n 0).wr Obj.rakeOorTotal n 0).wr Obj.rakeMalformedTotal n 0).wr
      Obj.rmaskOutsideTotal n 0).wr Obj.rakeTotalClear 0 1) := by
  have hlt := hasCore_lt hn
  simp only [exec, execRakeTotalClear]
  rw [if_neg (by simp [hcompute]), if_neg (by omega), if_pos (by simp [hn, hrake])]

/-! ### Stride rates -/

/-- Counting up, a step brings about what the later ones keep, from what the earlier ones kept. -/
theorem foldUp_at {α : Type} {Q R : α → Prop} {f : Nat → α → α} {k hi : Nat} (hstep : ∀ u, Q u → R (f k u))
    (hbefore : ∀ j u, j < k → Q u → Q (f j u)) (hafter : ∀ j u, k < j → j < hi → R u → R (f j u)) {lo n : Nat}
    (hlo : lo ≤ k) (hk : k < hi) (hhi : lo + n = hi) {a : α} (h : Q a) : R (foldUp f lo n a) := by
  have hkeeps : ∀ (n lo : Nat) (b : α), k < lo → lo + n = hi → R b → R (foldUp f lo n b) := by
    intro n
    induction n with
    | zero => exact fun _ _ _ _ hb => hb
    | succ n ih => exact fun lo b hlt heq hb => ih (lo + 1) _ (by omega) (by omega) (hafter lo b hlt (by omega) hb)
  induction n generalizing lo a with
  | zero => omega
  | succ n ih =>
    rcases Nat.lt_or_eq_of_le hlo with hlt | rfl
    · exact ih hlt (by omega) (hbefore lo a hlt h)
    · exact hkeeps n (lo + 1) _ (by omega) (by omega) (hstep a h)

/-- The end of a rate window for one core (R80). -/
def coreRateEnds (n : Nat) (s : State) : State :=
  if s.hasCore n then
    (s.setCore n { s.core n with windowStart := s.stride n }).wr Obj.strideRate n
      (if 2 ≤ s.power then 0 else strideRate (s.stride n - (s.core n).windowStart))
  else s

/-- The end of a rate window for one Rake engine (R155). -/
def rakeRateEnds (m : Nat) (s : State) : State :=
  if s.hasRake m then
    (s.setRke m { s.rke m with windowStart := (s.rke m).stride }).wr Obj.rkeStrideRate m
      (if 2 ≤ s.power then 0 else strideRate ((s.rke m).stride - (s.rke m).windowStart))
  else s

theorem rateWindowEnd_of_due {s : State} (h : s.rateDue = true) :
    s.rateWindowEnd = foldUp rakeRateEnds 0 48 (foldUp coreRateEnds 0 96 { s with rateWindow := s.now }) :=
  if_neg (by simp [h])

theorem rateWindowEnd_of_not_due {s : State} (h : s.rateDue = false) : s.rateWindowEnd = s := if_pos (by simp [h])

/-- The rates of the cores and the starts of their windows. -/
def coreRateFoot : Nat := 1 <<< 19 ||| 1 <<< 264

/-- The rates of the Rake engines and the starts of their windows. -/
def rakeRateFoot : Nat := 1 <<< 34 ||| 1 <<< 265

theorem coreRateEnds_closed {P : State → Prop} {s : State} (hP : Closed coreRateFoot P) (h : P s) (n : Nat) :
    P (coreRateEnds n s) :=
  ite_sat (State.wr_closed hP (by decide +kernel) (State.setCore_closed (hP.mono (by decide +kernel)) h ..) ..) h

theorem rakeRateEnds_closed {P : State → Prop} {s : State} (hP : Closed rakeRateFoot P) (h : P s) (m : Nat) :
    P (rakeRateEnds m s) :=
  ite_sat (State.wr_closed hP (by decide +kernel) (State.setRke_closed (hP.mono (by decide +kernel)) h ..) ..) h

/-- The end of one core's window leaves the state and the rate of another. -/
theorem coreRateEnds_other (s : State) {j k : Nat} (hj : j < 96) (hk : k < 96) (h : k ≠ j) :
    (coreRateEnds j s).core k = s.core k ∧ (coreRateEnds j s).rd Obj.strideRate k = s.rd Obj.strideRate k := by
  unfold coreRateEnds
  split
  · exact ⟨State.core_setCore_other s _ h, State.rd_wr_idx (s.setCore j _) _ _ _ (by omega)⟩
  · exact ⟨rfl, rfl⟩

theorem rke_setRke_same (s : State) (m : Nat) (r : RkeSt) : (s.setRke m r).rke m = r := get_set_same ..

theorem rke_setRke_other (s : State) {m k : Nat} (r : RkeSt) (h : k ≠ m) : (s.setRke m r).rke k = s.rke k :=
  get_set_other _ _ _ _ h

theorem rakeRateEnds_other (s : State) {j k : Nat} (hj : j < 48) (hk : k < 48) (h : k ≠ j) :
    (rakeRateEnds j s).rke k = s.rke k ∧ (rakeRateEnds j s).rd Obj.rkeStrideRate k = s.rd Obj.rkeStrideRate k := by
  unfold rakeRateEnds
  split
  · exact ⟨rke_setRke_other s _ h, State.rd_wr_idx (s.setRke j _) _ _ _ (by omega)⟩
  · exact ⟨rfl, rfl⟩

/-- The ends of the cores' windows: each core's rate, from its state before them all. -/
theorem coreRates_rd (s : State) {n : Nat} (hn : s.hasCore n = true) : (foldUp coreRateEnds 0 96 s).rd Obj.strideRate n =
    if 2 ≤ s.power then 0 else strideRate (s.stride n - (s.core n).windowStart) := by
  have hlt := hasCore_lt hn
  have hclosed : Closed coreRateFoot (Agree coreRateFoot s) := Agree.closed s (by decide +kernel)
  refine foldUp_at (Q := fun u => Agree coreRateFoot s u ∧ u.core n = s.core n)
    (R := fun u => u.rd Obj.strideRate n = if 2 ≤ s.power then 0 else strideRate (s.stride n - (s.core n).windowStart))
    ?_ ?_ ?_ (Nat.zero_le n) hlt rfl ⟨Agree.refl _ s, rfl⟩
  · rintro u ⟨hu, hcore⟩
    have hhas : u.hasCore n = true := by
      unfold State.hasCore
      rw [hu.ident]
      exact hn
    have hpower : u.power = s.power := hu.fld (by decide +kernel) ..
    have hstride : u.stride n = s.stride n := hu.rd _ _ (by decide +kernel)
    unfold coreRateEnds
    rw [if_pos hhas, hpower, hstride, hcore]
    exact State.rd_wr_same (u.setCore n _) Obj.strideRate n _ rfl
  · rintro j u hj ⟨hu, hcore⟩
    exact ⟨coreRateEnds_closed hclosed hu j, ((coreRateEnds_other u (by omega) hlt (by omega)).1).trans hcore⟩
  · intro j u hj hj' hu
    exact ((coreRateEnds_other u hj' hlt (by omega)).2).trans hu

/-- The ends of the Rake engines' windows. -/
theorem rakeRates_rd (s : State) {m : Nat} (hm : s.hasRake m = true) : (foldUp rakeRateEnds 0 48 s).rd Obj.rkeStrideRate m =
    if 2 ≤ s.power then 0 else strideRate ((s.rke m).stride - (s.rke m).windowStart) := by
  have hlt : m < 48 := by
    simp only [State.hasRake, Bool.and_eq_true, decide_eq_true_eq] at hm
    exact hm.1
  have hclosed : Closed rakeRateFoot (Agree rakeRateFoot s) := Agree.closed s (by decide +kernel)
  refine foldUp_at (Q := fun u => Agree rakeRateFoot s u ∧ u.rke m = s.rke m)
    (R := fun u => u.rd Obj.rkeStrideRate m = if 2 ≤ s.power then 0 else strideRate ((s.rke m).stride - (s.rke m).windowStart))
    ?_ ?_ ?_ (Nat.zero_le m) hlt rfl ⟨Agree.refl _ s, rfl⟩
  · rintro u ⟨hu, hrke⟩
    have hhas : u.hasRake m = true := by
      unfold State.hasRake
      rw [hu.ident]
      exact hm
    have hpower : u.power = s.power := hu.fld (by decide +kernel) ..
    unfold rakeRateEnds
    rw [if_pos hhas, hpower, hrke]
    exact State.rd_wr_same (u.setRke m _) Obj.rkeStrideRate m _ rfl
  · rintro j u hj ⟨hu, hrke⟩
    exact ⟨rakeRateEnds_closed hclosed hu j, ((rakeRateEnds_other u (by omega) hlt (by omega)).1).trans hrke⟩
  · intro j u hj hj' hu
    exact ((rakeRateEnds_other u hj' hlt (by omega)).2).trans hu

/-- A rate window that is over ends for every core and every Rake engine (R80, R155). -/
theorem rateWindowEnd_reads {s : State} (h : s.rateDue = true) :
    s.rateWindowEnd.rateWindow = s.now ∧
      (∀ n, s.hasCore n = true → s.rateWindowEnd.rd Obj.strideRate n =
        if 2 ≤ s.power then 0 else strideRate (s.stride n - (s.core n).windowStart)) ∧
      ∀ m, s.hasRake m = true → s.rateWindowEnd.rd Obj.rkeStrideRate m =
        if 2 ≤ s.power then 0 else strideRate ((s.rke m).stride - (s.rke m).windowStart) := by
  rw [rateWindowEnd_of_due h]
  generalize hbegin : ({ s with rateWindow := s.now } : State) = b
  have hcores : Agree coreRateFoot b (foldUp coreRateEnds 0 96 b) :=
    foldUp_sat (Agree.refl _ b) fun n _ hu => coreRateEnds_closed (Agree.closed b (by decide +kernel)) hu n
  have hrakes : Agree rakeRateFoot (foldUp coreRateEnds 0 96 b) (foldUp rakeRateEnds 0 48 (foldUp coreRateEnds 0 96 b)) :=
    foldUp_sat (Agree.refl _ _) fun m _ hu => rakeRateEnds_closed (Agree.closed _ (by decide +kernel)) hu m
  have hpower : (foldUp coreRateEnds 0 96 b).power = s.power := by
    subst hbegin
    exact hcores.fld (by decide +kernel) ..
  refine ⟨?_, fun n hn => ?_, fun m hm => ?_⟩
  · rw [hrakes.rateWindow (by decide +kernel), hcores.rateWindow (by decide +kernel)]
    subst hbegin
    rfl
  · rw [hrakes.rd _ _ (by decide +kernel)]
    subst hbegin
    exact coreRates_rd { s with rateWindow := s.now } hn
  · have hrke : (foldUp coreRateEnds 0 96 b).rke m = s.rke m := by
      unfold State.rke
      rw [hcores.rkes (by decide +kernel)]
      subst hbegin
      rfl
    have hhas : (foldUp coreRateEnds 0 96 b).hasRake m = true := by
      unfold State.hasRake
      rw [hcores.ident]
      subst hbegin
      exact hm
    rw [rakeRates_rd _ hhas, hpower, hrke]

end Sys2Proof.Laws
end

section
/-! PROOFS. A Rake engine serves its two cores in order, and the books of the cores are kept (O14). -/

namespace Sys2Proof.Laws

set_option Elab.async false

open Sys2Proof.Machine

/-! ### The jobs in service -/

/-- The commands in service in a Rake engine, in order (R150). -/
def jobsIn (s : State) (m : Nat) : List RkeJob := (s.rke m).runs.map (·.job)

theorem jobsIn_of_rkes {s t : State} (h : t.rkes = s.rkes) (m : Nat) : jobsIn t m = jobsIn s m := by
  unfold jobsIn State.rke
  rw [h]

/-- A write beside a service may change its result, not its command (R151). -/
theorem race_job (s : State) (n : Nat) (p : Place) (wmask : Nat) (x : RkeRun) : (x.race s n p wmask).job = x.job := by
  unfold RkeRun.race
  split
  · split <;> rfl
  · rfl

theorem touch_jobsIn (s : State) (n : Nat) (p : Place) (wmask : Nat) (ord : Option Nat) (m : Nat) :
    jobsIn (s.touch n p wmask ord) m = jobsIn s m := by
  unfold State.touch
  extract_lets c t late fs r runs u
  have hu : u.rkes = s.rkes := by
    unfold u
    split <;> rfl
  have hjobs : runs.map (·.job) = r.runs.map (·.job) := by
    simp only [runs, List.map_map, Function.comp_def, race_job]
  unfold jobsIn
  by_cases hm : m = n / 2
  · rw [hm, rke_setRke_same, hjobs]
  · rw [rke_setRke_other u _ hm]
    exact jobsIn_of_rkes hu m

theorem applyEffect_jobsIn (s : State) (n ord : Nat) (e : Effect) (m : Nat) : jobsIn (s.applyEffect n ord e) m = jobsIn s m := by
  have htouch := touch_jobsIn s n e.place e.wmask (some ord) m
  unfold State.applyEffect
  extract_lets u merge
  split
  · exact htouch
  · exact htouch
  · split <;> exact htouch
  · exact htouch

theorem applyEffects_jobsIn (s : State) (n ord : Nat) (es : List Effect) (m : Nat) :
    jobsIn (es.foldl (fun s e => s.applyEffect n ord e) s) m = jobsIn s m :=
  foldl_sat (Q := fun u => jobsIn u m = jobsIn s m) rfl fun u e hu => (applyEffect_jobsIn u n ord e m).trans hu

/-! ### Totals that stay at their top -/

theorem fld_incSat_same (s : State) {c : ObjCode} (h : identRead s.ident c = none) (i k : Nat) :
    (s.incSat c i 0 64 k).fld c i 0 64 = min (s.fld c i 0 64 + k) (2 ^ 64 - 1) := by
  unfold State.incSat
  rw [State.fld_wrFld_same s c i 0 64 _ h]
  exact Nat.mod_eq_of_lt (by unfold satAdd; omega)

theorem fld_incSat_other (s : State) {c c' : ObjCode} (h : c' ≠ c) (i i' k lo w : Nat) :
    (s.incSat c i 0 64 k).fld c' i' lo w = s.fld c' i' lo w := State.fld_wrFld_obj s i i' 0 64 _ lo w h

/-- The counts of a Rake result enter the totals of its core (R155). -/
def rakeCounted (s : State) (n : Nat) (o : RakeOut) : State :=
  (((s.incSat Obj.rakeOverTotal n 0 64 o.overs).incSat Obj.rakeOorTotal n 0 64 o.oor).incSat Obj.rakeMalformedTotal n 0 64
    o.malformed).incSat Obj.rmaskOutsideTotal n 0 64 o.outside

theorem rakeCounted_totals (s : State) (n : Nat) (o : RakeOut) :
    let t := rakeCounted s n o
    t.fld Obj.rakeOverTotal n 0 64 = min (s.fld Obj.rakeOverTotal n 0 64 + o.overs) (2 ^ 64 - 1) ∧
      t.fld Obj.rakeOorTotal n 0 64 = min (s.fld Obj.rakeOorTotal n 0 64 + o.oor) (2 ^ 64 - 1) ∧
      t.fld Obj.rakeMalformedTotal n 0 64 = min (s.fld Obj.rakeMalformedTotal n 0 64 + o.malformed) (2 ^ 64 - 1) ∧
      t.fld Obj.rmaskOutsideTotal n 0 64 = min (s.fld Obj.rmaskOutsideTotal n 0 64 + o.outside) (2 ^ 64 - 1) := by
  intro t
  unfold t rakeCounted
  refine ⟨?_, ?_, ?_, ?_⟩
  · rw [fld_incSat_other _ (by decide), fld_incSat_other _ (by decide), fld_incSat_other _ (by decide), fld_incSat_same _ rfl]
  · rw [fld_incSat_other _ (by decide), fld_incSat_other _ (by decide), fld_incSat_same _ rfl, fld_incSat_other _ (by decide)]
  · rw [fld_incSat_other _ (by decide), fld_incSat_same _ rfl, fld_incSat_other _ (by decide), fld_incSat_other _ (by decide)]
  · rw [fld_incSat_same _ rfl, fld_incSat_other _ (by decide), fld_incSat_other _ (by decide), fld_incSat_other _ (by decide)]

/-- The totals that a Rake result enters, and no more. -/
theorem rakeCounted_agree (s : State) (n : Nat) (o : RakeOut) : Agree (0xf <<< 29) s (rakeCounted s n o) := by
  have hclosed : Closed (0xf <<< 29) (Agree (0xf <<< 29) s) := Agree.closed s (by decide +kernel)
  exact State.incSat_closed hclosed (by decide +kernel) (State.incSat_closed hclosed (by decide +kernel)
    (State.incSat_closed hclosed (by decide +kernel) (State.incSat_closed hclosed (by decide +kernel) (Agree.refl _ s) ..) ..) ..) ..

/-! ### The parts of a result -/

/-- The engine once its earliest command has left it (R153). -/
def rakeTaken (s : State) (m : Nat) (x : RkeRun) (rest : List RkeRun) : State :=
  s.setRke m { s.rke m with
    runs := rest, stride := max (s.rke m).stride x.due, ahead := (s.rke m).ahead + (x.due - (s.rke m).stride) }

/-- The writes of a Rake result: its area and its record (R149, R153). -/
def rakeEffects (x : RkeRun) : List Effect := x.result.writes.map fun p => ⟨.tm p.1 p.2.1, p.2.2, ones (8 * p.2.1)⟩

/-- The summary slot of an RMASK (R152). -/
def rakeSlotted (s : State) (x : RkeRun) : State :=
  if CoreOp.of x.job.cmd.word = some .rmask ∧ x.job.cmd.word.testBit 18 then
    s.writeSlot x.job.core (bits x.job.cmd.word 19 3) (summaryCode x.result.status 0 0 0)
  else s

/-- A result with its writes made and its slot written. -/
def rakeWritten (s : State) (m : Nat) (x : RkeRun) (rest : List RkeRun) : State :=
  rakeSlotted ((rakeEffects x).foldl (fun s e => s.applyEffect x.job.core x.job.cmd.ord e) (rakeTaken s m x rest)) x

/-- The core has one Rake command fewer outstanding. -/
def rakeReturned (s : State) (n : Nat) : State := s.setCore n { s.core n with rkeOut := (s.core n).rkeOut - 1 }

/-- What a Rake result writes before its counts: neither totals nor flags. -/
def rakeWriteFoot : Nat := 1 <<< 264 ||| 1 <<< 265 ||| 1 <<< 256 ||| 1 <<< 257 ||| 1 <<< 27 ||| 1 <<< 28 ||| 1 <<< 24

theorem rakeWritten_agree (s : State) (m : Nat) (x : RkeRun) (rest : List RkeRun) :
    Agree rakeWriteFoot s (rakeWritten s m x rest) := by
  have hclosed {k : Nat} (h : k &&& rakeWriteFoot = k) : Closed k (Agree rakeWriteFoot s) :=
    (Agree.closed s (by decide +kernel)).mono h
  have htaken : Agree rakeWriteFoot s (rakeTaken s m x rest) :=
    State.setRke_closed (hclosed (by decide +kernel)) (Agree.refl _ s) ..
  have hwrites := foldl_sat (l := rakeEffects x) (f := fun s e => s.applyEffect x.job.core x.job.cmd.ord e) htaken
    fun _ e hu => State.applyEffect_closed (hclosed (by decide +kernel)) hu x.job.core x.job.cmd.ord e
  exact ite_sat (State.writeSlot_closed (hclosed (by decide +kernel)) hwrites ..) hwrites

theorem rakeWritten_jobsIn (s : State) (m : Nat) (x : RkeRun) (rest : List RkeRun) :
    jobsIn (rakeWritten s m x rest) m = rest.map (·.job) := by
  have htaken : jobsIn (rakeTaken s m x rest) m = rest.map (·.job) := congrArg (·.runs.map (·.job)) (rke_setRke_same s m _)
  have hslotted (u : State) : jobsIn (rakeSlotted u x) m = jobsIn u m := by
    unfold rakeSlotted
    split <;> rfl
  exact (hslotted _).trans ((applyEffects_jobsIn _ _ _ _ m).trans htaken)

/-! ### The service -/

section

variable {s : State} {m : Nat} (hm : m < 48) (hrake : s.hasRake m = true) (hscratched : s.scratched = false)
include hm hrake hscratched

/-- An engine starts the first command in its queue when its occupancy is over (R150). -/
theorem rkeServiceStart_next {j : RkeJob} {rest : List RkeJob} (hqueue : (s.rke m).queue = j :: rest)
    (hdue : above? (s.rke m).nextDue ((s.rke m).startStride j) = true) :
    let r := s.rke m
    let t := r.startStride j
    let o := s.rkeCompute j.core j.cmd.word
    exec (.rkeServiceStart m .clean) s = .next (s.setRke m
      { r with queue := rest, stride := t, busyUntil := t + 16, ahead := r.ahead + (t - r.stride),
               runs := r.runs ++ [⟨j, t + 24, o.1.map fun q => .tm q.1 q.2, [], o.2⟩] }) := by
  simp only [exec, execRkeServiceStart]
  rw [if_neg (by omega)]
  simp only [hqueue]
  rw [if_neg (by simp [hrake, hscratched, hdue]), eccRanges_clean]

/-- The earliest result is written, counted and posted (R149, R153). -/
theorem rkeResult_next {x : RkeRun} {rest : List RkeRun} (hruns : (s.rke m).runs = x :: rest) :
    exec (.rkeResult m .clean) s = .next ((rakeReturned (rakeCounted (rakeWritten s m x rest) x.job.core x.result) x.job.core).post
      x.job.core x.job.cmd.word x.job.cmd.pos x.job.cmd.ord) := by
  simp only [exec, execRkeResult]
  rw [if_neg (by omega)]
  simp only [hruns]
  rw [if_neg (by simp [hrake, hscratched]), State.applyEffects_clean]
  exact congrArg Host.Outcome.next rfl

end

/-- Settles O14: a line fills the cache (`icacheFill_next`), totals are cleared, a window ends (`rateWindowEnd_reads`), and a Rake
engine starts and delivers its commands in order (`rkeServiceStart_next`, `rkeResult_next`). -/
theorem coreUnitsKeepTheirBooks : Obligations.CoreUnitsKeepTheirBooks := by
  unfold Obligations.CoreUnitsKeepTheirBooks
  refine ⟨?_, fun s hcompute => ⟨?_, ?_, ?_, ?_, ?_, ?_⟩, fun s m hm hrake hscratched => ⟨?_, ?_⟩⟩
  · intro s n line parity ecc hn hrun hstate hline hparity hecc hheld hheld'
    obtain ⟨u, kept, hu, hnext⟩ := icacheFill_next hn hrun hstate hline hparity hecc hheld hheld'
    refine ⟨_, hnext, ?_, hu.position (by decide +kernel) n, hu.ordinal (by decide +kernel) n⟩
    rw [State.core_setCore_same, hu.load_hbm (by decide +kernel)]
    exact find_put_same ..
  · intro n hn
    exact ⟨_, totalClear_core hcompute hn,
      (State.rd_wr_obj _ _ _ _ (by decide)).trans ((State.rd_wr_obj _ _ _ _ (by decide)).trans
        (State.rd_wr_same s Obj.satTotal n 0 rfl)),
      (State.rd_wr_obj _ _ _ _ (by decide)).trans (State.rd_wr_same _ Obj.flushTotal n 0 rfl),
      State.rd_wr_same _ Obj.totalClear 0 1 rfl⟩
  · exact ⟨_, totalClear_all hcompute, fun n =>
      ⟨(State.rd_wr_obj _ _ _ _ (by decide)).trans ((rd_clearObj_other _ (by decide) n).trans
          ((rd_clearObj_same s (c := Obj.satTotal) rfl n).trans rfl)),
        (State.rd_wr_obj _ _ _ _ (by decide)).trans ((rd_clearObj_same _ (c := Obj.flushTotal) rfl n).trans rfl)⟩,
      State.rd_wr_same _ Obj.totalClear 0 1 rfl⟩
  · exact fun n hall hn => totalClear_refused hcompute hall hn
  · intro n hn hrake
    refine ⟨_, rakeTotalClear_core hcompute hn hrake, ?_, ?_, ?_, ?_, State.rd_wr_same _ Obj.rakeTotalClear 0 1 rfl⟩
    · rw [State.rd_wr_obj _ _ _ _ (by decide), State.rd_wr_obj _ _ _ _ (by decide), State.rd_wr_obj _ _ _ _ (by decide),
        State.rd_wr_obj _ _ _ _ (by decide), State.rd_wr_same s Obj.rakeOverTotal n 0 rfl]
    · rw [State.rd_wr_obj _ _ _ _ (by decide), State.rd_wr_obj _ _ _ _ (by decide), State.rd_wr_obj _ _ _ _ (by decide),
        State.rd_wr_same _ Obj.rakeOorTotal n 0 rfl]
    · rw [State.rd_wr_obj _ _ _ _ (by decide), State.rd_wr_obj _ _ _ _ (by decide),
        State.rd_wr_same _ Obj.rakeMalformedTotal n 0 rfl]
    · rw [State.rd_wr_obj _ _ _ _ (by decide), State.rd_wr_same _ Obj.rmaskOutsideTotal n 0 rfl]
  · intro hscratched hnow
    have hdue : s.rateDue = false := by
      rw [State.rateDue, rateTicks, decide_eq_false (by omega), Bool.and_false]
    exact congrArg Host.Outcome.next (rateWindowEnd_of_not_due hdue)
  · intro hscratched hnow
    have hdue : s.rateDue = true := by
      rw [State.rateDue, rateTicks, hcompute, hscratched, decide_eq_true hnow]
      rfl
    exact ⟨_, rfl, rateWindowEnd_reads hdue⟩
  · exact fun j rest hqueue hdue => rkeServiceStart_next hm hrake hscratched hqueue hdue
  · intro x rest hruns
    refine ⟨_, rkeResult_next hm hrake hscratched hruns, ?_⟩
    have hwritten := rakeWritten_agree s m x rest
    have hcounted := rakeCounted_agree (rakeWritten s m x rest) x.job.core x.result
    obtain ⟨hover, hoor, hmalformed, houtside⟩ := rakeCounted_totals (rakeWritten s m x rest) x.job.core x.result
    rw [hwritten.fld (by decide +kernel)] at hover hoor hmalformed houtside
    have hpost := post_agree (rakeReturned (rakeCounted (rakeWritten s m x rest) x.job.core x.result) x.job.core) x.job.core
      x.job.cmd.word x.job.cmd.pos x.job.cmd.ord
    have htotal {c : ObjCode} (hc : Foot.obj addFlagFoot c = false) :
        ((rakeReturned (rakeCounted (rakeWritten s m x rest) x.job.core x.result) x.job.core).post x.job.core x.job.cmd.word
          x.job.cmd.pos x.job.cmd.ord).fld c x.job.core 0 64 =
        (rakeCounted (rakeWritten s m x rest) x.job.core x.result).fld c x.job.core 0 64 :=
      (hpost.fld hc ..).trans (State.setCore_fld ..)
    refine ⟨(htotal (by decide +kernel)).trans hover, (htotal (by decide +kernel)).trans hoor,
      (htotal (by decide +kernel)).trans hmalformed, (htotal (by decide +kernel)).trans houtside, ?_, fun hsel => ?_⟩
    · refine (jobsIn_of_rkes (hpost.rkes (by decide +kernel)) m).trans ?_
      exact (jobsIn_of_rkes (hcounted.rkes (by decide +kernel)) m).trans (rakeWritten_jobsIn s m x rest)
    · have hflag : (rakeReturned (rakeCounted (rakeWritten s m x rest) x.job.core x.result) x.job.core).flag x.job.core
          (postSel x.job.cmd.word) = s.flag x.job.core (postSel x.job.cmd.word) :=
        (hcounted.flag (by decide +kernel) ..).trans (hwritten.flag (by decide +kernel) ..)
      rw [flag_post_same _ hsel, hflag]

end Sys2Proof.Laws
end

section
/-! PROOFS. A command of a stream that issues changes its own core, its flags of the word, and nothing else (O56). -/

namespace Sys2Proof.Laws

set_option Elab.async false

open Sys2Proof.Machine

/-- The objects with one entry for each core that an issue writes. -/
def issueEntries : List ObjCode := [Obj.coreState, Obj.strideCount, Obj.haltRecord, Obj.seqState]

/-- From `s` to `t`, of the cores and of what the objects of the cores hold, only core `n` has changed, and of the flags only
those that `named` has (R80, R92). -/
structure OnlyCore (n : Nat) (named : Nat → Prop) (s t : State) : Prop where
  core : ∀ m, m ≠ n → t.core m = s.core m
  entry : ∀ o ∈ issueEntries, ∀ i, i < 96 → i ≠ n → t.rd o i = s.rd o i
  busy : ∀ i, i < 288 → i / 3 ≠ n → t.rd Obj.pacedBusy i = s.rd Obj.pacedBusy i
  flags : ∀ i, i < 2 ^ 32 → t.rd Obj.flags i = s.rd Obj.flags i ∨ named i

namespace OnlyCore

theorem refl (n : Nat) (named : Nat → Prop) (s : State) : OnlyCore n named s s :=
  ⟨fun _ _ => rfl, fun _ _ _ _ _ => rfl, fun _ _ _ => rfl, fun _ _ => .inl rfl⟩

section

variable {n : Nat} {named : Nat → Prop} {s t : State} (h : OnlyCore n named s t) (hn : n < 96)
include h

/-! ### The writes of an issue -/

theorem setCore (c : CoreSt) : OnlyCore n named s (t.setCore n c) :=
  { h with core := fun m hm => (State.core_setCore_other t c hm).trans (h.core m hm) }

theorem drawn : OnlyCore n named s t.drawn := { h with }

include hn

/-- A write of the core's own entry. -/
theorem wr {o : ObjCode} (ho : o ∈ issueEntries) (v : Nat) : OnlyCore n named s (t.wr o n v) where
  core := h.core
  entry o' ho' i hi hne := (State.rd_wr_idx t o o' v (by omega)).trans (h.entry o' ho' i hi hne)
  busy i hi hne := (State.rd_wr_obj t n i v (ne_of_mem_of_not_mem ho (by decide)).symm).trans (h.busy i hi hne)
  flags i hi := by
    rw [State.rd_wr_obj t n i v (ne_of_mem_of_not_mem ho (by decide)).symm]
    exact h.flags i hi

theorem wrFld {o : ObjCode} (ho : o ∈ issueEntries) (lo w v : Nat) : OnlyCore n named s (t.wrFld o n lo w v) := h.wr hn ho _

/-- A write of a busy count of the core. -/
theorem wrBusy {j : Nat} (hj : j / 3 = n) (v : Nat) : OnlyCore n named s (t.wr Obj.pacedBusy j v) where
  core := h.core
  entry o ho i hi hne := (State.rd_wr_obj t j i v (ne_of_mem_of_not_mem ho (by decide))).trans (h.entry o ho i hi hne)
  busy i hi hne := by
    have hidx : i % 2 ^ 32 ≠ j % 2 ^ 32 := by
      rw [Nat.mod_eq_of_lt (by omega), Nat.mod_eq_of_lt (by omega)]
      omega
    exact (State.rd_wr_idx t _ _ v hidx).trans (h.busy i hi hne)
  flags i hi := by
    rw [State.rd_wr_obj t j i v (by decide)]
    exact h.flags i hi

theorem incBusy {j : Nat} (hj : j / 3 = n) (d : Nat) : OnlyCore n named s (t.inc Obj.pacedBusy j 0 64 d) := by
  unfold State.inc
  extract_lets v
  exact ite_sat (h.wrBusy hn hj _) (h.wrBusy hn hj _).drawn

/-- A write of a named flag. -/
theorem setFlag {f : Nat} (hf : f < 2 ^ 12 ∧ named (256 * n + f)) (v : Nat) : OnlyCore n named s (t.setFlag n f v) where
  core := h.core
  entry o ho i hi hne := (State.rd_wr_obj t _ i v (ne_of_mem_of_not_mem ho (by decide))).trans (h.entry o ho i hi hne)
  busy i hi hne := (State.rd_wr_obj t _ i v (by decide)).trans (h.busy i hi hne)
  flags i hi := by
    by_cases hi' : i = 256 * n + f
    · exact .inr (hi' ▸ hf.2)
    · rw [State.setFlag, State.rd_wr_idx t _ _ v (by omega)]
      exact h.flags i hi

/-! ### Strides, halts and stops -/

theorem runTo (x : Nat) : OnlyCore n named s (t.runTo n x) := by
  unfold State.runTo
  extract_lets now c d busy waits c' u
  have hu : OnlyCore n named s u := (h.setCore c').wr hn (by decide) _
  exact ite_sat h (((hu.incBusy hn (by omega) _).incBusy hn (by omega) _).incBusy hn (by omega) _)

theorem advance (x : Nat) : OnlyCore n named s (t.advance n x) := by
  unfold State.advance
  exact ite_sat h ((h.runTo hn x).setCore _)

theorem haltFields (status detail pos ord : Nat) : OnlyCore n named s (t.haltFields n status detail pos ord) :=
  h.wr hn (by decide) _

theorem haltCore (status detail pos ord : Nat) : OnlyCore n named s (t.haltCore n status detail pos ord) := by
  unfold State.haltCore
  exact ite_sat h ((((h.haltFields hn ..).wr hn (by decide) _).setCore _).wr hn (by decide) _)

theorem stopIssue (why : IssueStop) (pos ord : Nat) : OnlyCore n named s (t.stopIssue n why pos ord) :=
  ((h.haltFields hn ..).setCore _).wr hn (by decide) _

/-! ### Flags -/

theorem takeFlag {f : Nat} (hf : f < 2 ^ 12 ∧ named (256 * n + f)) (amount : Nat) : OnlyCore n named s (t.takeFlag n f amount) :=
  (h.setCore _).setFlag hn hf _

theorem addFlag {f : Nat} (hf : f < 2 ^ 12 ∧ named (256 * n + f)) (amount : Nat) (src : Option (Nat × Nat)) :
    OnlyCore n named s (t.addFlag n f amount src) := by
  unfold State.addFlag
  extract_lets v c u top at_
  have htop : OnlyCore n named s top := (h.setCore _).setFlag hn hf _
  exact ite_sat ((h.setCore _).setFlag hn hf _) (ite_sat htop (htop.haltCore hn ..))

theorem flagSet {f : Nat} (hf : f < 2 ^ 12 ∧ named (256 * n + f)) (v pos ord : Nat) :
    OnlyCore n named s (t.flagSet n f v pos ord) := by
  unfold State.flagSet
  extract_lets x
  exact ite_sat (h.setFlag hn hf _) ((h.setFlag hn hf _).haltCore hn ..)

theorem post {w : Nat} (hw : postSel w ≠ 0 → named (256 * n + postSel w)) (pos ord : Nat) :
    OnlyCore n named s (t.post n w pos ord) := by
  unfold State.post
  split
  · exact h
  · exact h.addFlag hn ⟨(postSel_lt w).trans (by decide), hw ‹_›⟩ ..

/-! ### Issue -/

theorem waitSelOver {f : Nat} (hf : f < 2 ^ 12 ∧ named (256 * n + f)) : OnlyCore n named s (t.waitSelOver n f) :=
  (h.takeFlag hn hf 1).setCore _

theorem issued (pos next ord : Nat) : OnlyCore n named s (t.issued n pos next ord) := by
  unfold State.issued
  extract_lets u c v
  have hissued : OnlyCore n named s v := ((h.wrFld hn (by decide) 48 64 ord).wrFld hn (by decide) 16 32 next).setCore _
  exact ite_sat (hissued.stopIssue hn ..) hissued

omit hn in
theorem sqHold (x : SqWait) : OnlyCore n named s (t.sqHold n x) := by
  unfold State.sqHold
  extract_lets c
  split
  · exact ite_sat h (h.setCore _)
  · exact h.setCore _

end

/-- The flags that a command word names on core `n`: its WAIT_SEL, its POST_SEL, and the flag of its operand (R81, R89). -/
def NamedFlag (n w i : Nat) : Prop :=
  waitSel w ≠ 0 ∧ i = 256 * n + waitSel w ∨ postSel w ≠ 0 ∧ i = 256 * n + postSel w ∨ i = 256 * n + bits w 0 12

section

variable {n w : Nat} {named : Nat → Prop} {s t : State} (h : OnlyCore n named s t) (hn : n < 96)
  (hnamed : ∀ i, NamedFlag n w i → named i)
include h hn hnamed

/-- The effect of a sequencer command (R89). -/
theorem sqEffect (op : CoreOp) (pos ord : Nat) : SatSq (OnlyCore n named s) (sqEffect op t n w pos ord) := by
  have hoperand : bits w 0 12 < 2 ^ 12 ∧ named (256 * n + bits w 0 12) := ⟨bits_lt .., hnamed _ (.inr (.inr rfl))⟩
  cases op
  case end_ => exact .stop h
  case pace => exact .go (h.setCore _)
  case wait => exact ite_sat (.go (ite_sat h (h.takeFlag hn hoperand _))) .hold
  case post => exact .go (h.addFlag hn hoperand ..)
  case flagset => exact .go (h.flagSet hn hoperand ..)
  case pset => exact .go (h.wrFld hn (by decide) ..)
  case plogic => exact .go (h.wrFld hn (by decide) ..)
  case skip => exact ite_sat (.bad h) (.go h)
  case lapset => exact .go (h.wrFld hn (by decide) ..)
  case lap =>
    exact ite_sat (.go h) (ite_sat (.bad (h.wrFld hn (by decide) ..)) (.go (h.wrFld hn (by decide) ..)))
  case drain => exact ite_sat (.go h) .hold
  case mark => exact .go (h.wrFld hn (by decide) ..)
  all_goals exact .go h

theorem issueSq (op : CoreOp) (pos ord : Nat) (en : Bool) : OnlyCore n named s (issueSq op t n w pos ord en) := by
  have hpost : postSel w ≠ 0 → named (256 * n + postSel w) := fun hsel => hnamed _ (.inr (.inl ⟨hsel, rfl⟩))
  unfold Machine.issueSq
  extract_lets phase f inWaitSel u
  have hu : OnlyCore n named s u := by
    unfold u
    split
    next hwait => exact h.waitSelOver hn ⟨(waitSel_lt w).trans (by decide), hnamed _ (.inl ⟨hwait.2, rfl⟩)⟩
    next => exact h
  refine ite_sat (h.sqHold _) (ite_sat ((hu.issued hn ..).post hn hpost ..) ?_)
  have heffect := hu.sqEffect hn hnamed op pos ord
  split
  case h_1 heq => exact ((heffect.eq_go heq).issued hn ..).post hn hpost ..
  case h_2 => exact hu.sqHold _
  case h_3 heq => exact (heffect.eq_bad heq).haltCore hn ..
  case h_4 heq => exact (((heffect.eq_stop heq).stopIssue hn ..).issued hn ..).post hn hpost ..

omit hnamed in
theorem issueQueued (op : CoreOp) (pos ord : Nat) (en : Bool) : OnlyCore n named s (issueQueued op t n w pos ord en) := by
  unfold Machine.issueQueued
  exact ite_sat ((h.setCore _).issued hn ..) (h.sqHold _)

end

/-- Every row of the stream, whether its command issues, waits, halts its core or does nothing (R84). -/
theorem issueRow (op : CoreOp) (n : Nat) (s : State) :
    SatR (OnlyCore n (fun i => ∃ w, s.fetch n (s.position n) = some w ∧ NamedFlag n w i) s) (issueRow op n s) := by
  unfold Machine.issueRow
  rcases Nat.lt_or_ge n 96 with hn | hn
  · rw [if_neg (by omega)]
    have hrefl := refl n (fun i => ∃ w, s.fetch n (s.position n) = some w ∧ NamedFlag n w i) s
    refine ite_sat (.next hrefl) ?_
    extract_lets pos ord
    refine ite_sat (.next (hrefl.haltCore hn ..)) ?_
    split
    · exact .next hrefl
    next w hfetch =>
      extract_lets t named u en
      have hnamed : ∀ i, NamedFlag n w i → ∃ w, s.fetch n (s.position n) = some w ∧ NamedFlag n w i :=
        fun i hi => ⟨w, hfetch, hi⟩
      have hu : OnlyCore n _ s u := hrefl.advance hn t
      refine ite_sat (.next hrefl) (ite_sat (ite_sat (.next hrefl) (.next ?_)) (ite_sat (.next hrefl) ?_))
      · exact ite_sat (hu.issueSq hn hnamed ..) (hu.issueQueued hn ..)
      · split
        · exact .next (hu.haltCore hn ..)
        · exact .next (ite_sat (hu.issueSq hn hnamed ..) (hu.issueQueued hn ..))
  · rw [if_pos hn]
    exact .fault

end OnlyCore

/-- What the commands of a stream write: the objects of the cores, the cores, and the free values. -/
theorem issueRow_agree {op : CoreOp} {n : Nat} {s t : State} (h : issueRow op n s = .next t) :
    Agree 0x1020000000000000000000000000000000000000000000000000000000002f04000 s t :=
  Agree.of_closed (fun _ hP hs => issueRow_closed hP hs op n) (by decide +kernel) h

/-- Settles O56: the footprint of an issue (`issueRow_agree`), and within it only the core that issues (`OnlyCore.issueRow`). -/
theorem coreCommandsChangeNothingElse : Obligations.CoreCommandsChangeNothingElse := by
  unfold Obligations.CoreCommandsChangeNothingElse
  intro p hp s t n hnext
  obtain ⟨op, hrow⟩ : ∃ op, exec (p n) s = issueRow op n s := by
    fin_cases hp <;> exact ⟨_, rfl⟩
  rw [hrow] at hnext
  have hagree := issueRow_agree hnext
  have honly := (OnlyCore.issueRow op n s).of_eq hnext
  refine ⟨hagree.eq, honly.core, fun o i ho => hagree.rd o i (Foot.not_obj (by decide +kernel) (by decide +kernel) ho),
    honly.entry, honly.busy, honly.flags⟩

end Sys2Proof.Laws
end

section
/-! PROOFS. DIMMs are drained, returned and replaced, and their copies go block by block (O15). -/

namespace Sys2Proof.Laws

set_option Elab.async false

open Sys2Proof.Machine

/-! ### What the operations on a socket leave to read -/

theorem dimm_setDimm (s : State) (c st : Nat) : (s.setDimm c st).dimm c = st := State.rd_wr_same s Obj.dimmState c st rfl

theorem dimm_drainAnswer (s : State) (code c : Nat) : (s.drainAnswer code).dimm c = s.dimm c :=
  State.rd_wr_obj _ _ _ _ (by decide)

theorem drainCmd_drainAnswer (s : State) (code : Nat) : (s.drainAnswer code).rd Obj.drainCmd 0 = code :=
  State.rd_wr_same s Obj.drainCmd 0 code rfl

theorem fld_setDimm_drainAnswer (s : State) (c st code : Nat) {o : ObjCode} (hstate : o ≠ Obj.dimmState) (hcmd : o ≠ Obj.drainCmd)
    (i lo w : Nat) : ((s.setDimm c st).drainAnswer code).fld o i lo w = s.fld o i lo w :=
  (State.fld_wr_obj _ _ _ _ _ _ hcmd).trans (State.fld_wr_obj _ _ _ _ _ _ hstate)

theorem rd_withDimmCopy (s : State) (x : Option DimmCopy) (c : ObjCode) (i : Nat) :
    ({ s with dimmCopy := x } : State).rd c i = s.rd c i := rfl

theorem rd_endCopy (s : State) {c : ObjCode} (h : c ≠ Obj.drainProgress) (i : Nat) : s.endCopy.rd c i = s.rd c i :=
  (rd_withDimmCopy ..).trans (State.rd_wrFld_obj s 0 i 4 4 0 h)

/-- The end of a copy leaves the number of blocks done (R178). -/
theorem blocksDone_endCopy (s : State) : s.endCopy.fld Obj.drainProgress 0 32 32 = s.fld Obj.drainProgress 0 32 32 :=
  (congrArg (bits · 32 32) (rd_withDimmCopy ..)).trans
    (State.fld_wrFld_other s Obj.drainProgress 0 4 4 0 32 32 rfl (.inr (by decide)))

/-- DRAIN_PROGRESS at the start of a copy (R181): its channel and mode, and no block done. -/
theorem drainProgress_startCopy (s : State) {chan mode : Nat} (hchan : chan < 12) (hmode : mode < 16) (len target share : Nat) :
    (s.startCopy chan mode len target share).fld Obj.drainProgress 0 0 4 = chan ∧
      (s.startCopy chan mode len target share).fld Obj.drainProgress 0 4 4 = mode ∧
      (s.startCopy chan mode len target share).fld Obj.drainProgress 0 32 32 = 0 := by
  have hrd : (s.startCopy chan mode len target share).rd Obj.drainProgress 0 =
      chan + mode * 16 + (s.now % 2 ^ 64) * 2 ^ 64 := by
    unfold State.startCopy
    rw [rd_withDimmCopy, State.rd_wr_same _ _ _ _ rfl]
  simp only [State.fld, hrd, bits_eq]
  omega

/-- The state once a copy is set up and its command answered. -/
def copyStarted (s : State) (chan mode st len target share : Nat) : State :=
  ((s.startCopy chan mode len target share).setDimm chan st).drainAnswer 1

theorem copyStarted_reads (s : State) {chan mode : Nat} (hchan : chan < 12) (hmode : mode < 16) (st len target share : Nat) :
    (copyStarted s chan mode st len target share).dimm chan = st ∧
      (copyStarted s chan mode st len target share).rd Obj.drainCmd 0 = 1 ∧
      (copyStarted s chan mode st len target share).fld Obj.drainProgress 0 0 4 = chan ∧
      (copyStarted s chan mode st len target share).fld Obj.drainProgress 0 4 4 = mode ∧
      (copyStarted s chan mode st len target share).fld Obj.drainProgress 0 32 32 = 0 := by
  obtain ⟨hc, hm, hdone⟩ := drainProgress_startCopy s hchan hmode len target share
  have hfld (lo w : Nat) := fld_setDimm_drainAnswer (s.startCopy chan mode len target share) chan st 1
    (o := Obj.drainProgress) (by decide) (by decide) 0 lo w
  exact ⟨(dimm_drainAnswer ..).trans (dimm_setDimm ..), drainCmd_drainAnswer .., (hfld 0 4).trans hc, (hfld 4 4).trans hm,
    (hfld 32 32).trans hdone⟩

/-- The state once a copy is given up and CANCEL answered (R178). -/
def copyCancelled (s : State) (chan st : Nat) : State := (s.endCopy.setDimm chan st).drainAnswer 1

theorem copyCancelled_reads (s : State) (chan st : Nat) : (copyCancelled s chan st).dimm chan = st ∧
    (copyCancelled s chan st).rd Obj.drainCmd 0 = 1 ∧ (copyCancelled s chan st).dimmCopy = none ∧
    (copyCancelled s chan st).rd Obj.redirect chan = s.rd Obj.redirect chan := by
  refine ⟨(dimm_drainAnswer ..).trans (dimm_setDimm ..), drainCmd_drainAnswer .., rfl, ?_⟩
  calc (copyCancelled s chan st).rd Obj.redirect chan
      = (s.endCopy.setDimm chan st).rd Obj.redirect chan := State.rd_wr_obj _ _ _ _ (by decide)
    _ = s.endCopy.rd Obj.redirect chan := State.rd_wr_obj _ _ _ _ (by decide)
    _ = s.rd Obj.redirect chan := rd_endCopy s (by decide) chan

/-! ### The DIMM commands -/

section

variable {s : State} {chan : Nat} (hcompute : s.hasCompute = true) (hchan : chan < 12)
include hcompute hchan

theorem dimmCommands_of_powerless (hpower : s.dimmPowerOk = false) {c : Instr} (hc : c ∈ [Instr.dimmDrain chan,
    .dimmPowerOff chan, .dimmPowerOn chan, .dimmReturn chan, .drainCancel chan]) : exec c s = .next (s.drainAnswer 4) := by
  fin_cases hc <;> simp [exec, execDimmDrain, execDimmPowerOff, execDimmPowerOn, execDimmReturn, execDrainCancel, hcompute,
    hchan, hpower]

theorem dimmLatchClose_of_off (hstate : s.dimm chan = 1) : exec (.dimmLatchClose chan) s = .next (s.dimmPowers chan) := by
  simp [exec, execDimmLatchClose, State.latchLocked, hcompute, hchan, hstate, dimmOff]

theorem dimmLatchOpen_of_on (hstate : s.dimm chan ≠ 1) :
    exec (.dimmLatchOpen chan) s = .next (s.memUe 4 chan false (chan * 2 ^ 38)) := by
  simp [exec, execDimmLatchOpen, State.latchLocked, hcompute, hchan, hstate, dimmOff]

variable (hpower : s.dimmPowerOk = true)
include hpower

theorem dimmCopies_of_busy (hbusy : s.dimmCopy.isSome = true) :
    exec (.dimmDrain chan) s = .next (s.drainAnswer 5) ∧ exec (.dimmReturn chan) s = .next (s.drainAnswer 5) := by
  constructor <;> simp [exec, execDimmDrain, execDimmReturn, hcompute, hchan, hpower, hbusy]

theorem dimmDrain_next (hfree : s.dimmCopy = none) (hstate : s.dimm chan = 3) (hdesc : s.drainDescOk chan = true) :
    exec (.dimmDrain chan) s = .next (copyStarted s chan 1 5 (s.fld Obj.drainDesc 0 32 32) (s.fld Obj.drainDesc 0 64 64)
      (s.fld Obj.drainDesc 0 0 8)) := by
  simp [exec, execDimmDrain, hcompute, hchan, hpower, hfree, hstate, hdesc, dimmInService, dimmDraining, copyStarted, State.fld]

theorem dimmReturn_next (hfree : s.dimmCopy = none) (hstate : s.dimm chan = 4) (hshare : s.fld Obj.drainDesc 0 0 8 ≠ 0)
    (hle : s.fld Obj.drainDesc 0 0 8 ≤ 100) : exec (.dimmReturn chan) s = .next (copyStarted s chan 2 6
      (bits (s.rd Obj.redirect chan) 32 32) (bits (s.rd Obj.redirect chan) 64 64) (s.fld Obj.drainDesc 0 0 8)) := by
  simp [exec, execDimmReturn, hcompute, Nat.not_le.mpr hchan, hpower, hfree, hstate, hshare, Nat.not_lt.mpr hle, dimmReady,
    dimmReturning, copyStarted]

theorem dimmPowerOff_next (hstate : s.dimm chan = 4 ∨ s.dimm chan = 7 ∨ s.dimm chan = 0) :
    exec (.dimmPowerOff chan) s = .next ((s.setDimm chan 1).drainAnswer 1) := by
  simp [exec, execDimmPowerOff, hcompute, hchan, hpower, hstate, dimmReady, dimmRefused, dimmEmpty, dimmOff]

theorem dimmPowerOn_next (hstate : s.dimm chan = 1) :
    exec (.dimmPowerOn chan) s = .next ((s.dimmPowers chan).drainAnswer 1) := by
  simp [exec, execDimmPowerOn, hcompute, hchan, hpower, hstate, dimmOff]

theorem drainCancel_of_draining (hstate : s.dimm chan = 5) : exec (.drainCancel chan) s = .next (copyCancelled s chan 3) := by
  simp [exec, execDrainCancel, hcompute, hchan, hpower, hstate, dimmDraining, dimmInService, copyCancelled]

theorem drainCancel_of_returning (hstate : s.dimm chan = 6) : exec (.drainCancel chan) s = .next (copyCancelled s chan 4) := by
  simp [exec, execDrainCancel, hcompute, hchan, hpower, hstate, dimmDraining, dimmReturning, dimmReady, copyCancelled]

end

/-! ### The ramp of a socket -/

theorem rampBay_of_fits {s : State} {power : Nat} (h : s.rampFits power = true) (bay : Nat) :
    s.rampBay bay power = s.setRamp bay (some ⟨power, some s.now⟩) := if_pos h

/-- A ramp that does not fit waits, and D falls (R486; log entry 10). -/
theorem rampBay_of_waits {s : State} {power : Nat} (h : s.rampFits power = false) (bay : Nat) :
    ∃ d, d < max 1 (s.fld Obj.governorState 0 0 9) ∧
      s.rampBay bay power = ((s.setRamp bay (some ⟨power, none⟩)).wrFld Obj.governorState 0 0 9 d).drawn :=
  ⟨_, Nat.mod_lt _ (by omega), if_neg (by simp [h])⟩

theorem ramp_of_ramps {s t : State} (h : t.ramps = s.ramps) (bay : Nat) : t.ramp bay = s.ramp bay := by
  unfold State.ramp
  rw [h]

theorem ramp_setRamp_same (s : State) (bay : Nat) (r : Option Ramp) : (s.setRamp bay r).ramp bay = r := get_set_same ..

/-! ### The training of a DIMM -/

/-- The capacity that DIMM_INFO shows (R180). -/
def shownCapacity (capacity : Nat) : Nat := if dimmBytes capacity = 0 then 0 else capacity

theorem dimmBytes_ne_zero {capacity : Nat} (h : dimmBytes capacity ≠ 0) : 1 ≤ capacity ∧ capacity ≤ 3 := by
  unfold dimmBytes at h
  split_ifs at h <;> omega

theorem shownCapacity_lt (capacity : Nat) : shownCapacity capacity < 4 := by
  unfold shownCapacity
  split
  · decide
  · next h => exact Nat.lt_succ_of_le (dimmBytes_ne_zero h).2

theorem dimmReason_lt (s : State) (chan capacity : Nat) (mrdimm eccX4 checksum trained : Bool) :
    s.dimmReason chan capacity mrdimm eccX4 checksum trained < 7 := by
  unfold State.dimmReason
  split_ifs <;> decide

theorem dimmReason_rampEnds (s : State) (bay chan capacity : Nat) (mrdimm eccX4 checksum trained : Bool) :
    (s.rampEnds bay).dimmReason chan capacity mrdimm eccX4 checksum trained =
      s.dimmReason chan capacity mrdimm eccX4 checksum trained := rfl

/-- A DIMM that is not refused passes every check (R164, R177). -/
theorem dimmReason_eq_zero {s : State} {chan capacity : Nat} {mrdimm eccX4 checksum trained : Bool}
    (h : s.dimmReason chan capacity mrdimm eccX4 checksum trained = 0) :
    mrdimm = true ∧ eccX4 = true ∧ dimmBytes capacity ≠ 0 ∧ checksum = true ∧ trained = true := by
  unfold State.dimmReason at h
  split_ifs at h
  simp_all

/-- DIMM_INFO and the ramp of a socket whose training has ended. -/
def dimmShown (s : State) (chan capacity ident why : Nat) : State :=
  (s.rampEnds chan).wr Obj.dimmInfo chan (shownCapacity capacity + why * 2 ^ 8 + (ident % 2 ^ 176) * 2 ^ 16)

theorem dimmShown_reads (s : State) (chan capacity ident : Nat) {why : Nat} (hwhy : why < 7) :
    (dimmShown s chan capacity ident why).ramp chan = none ∧
      (dimmShown s chan capacity ident why).fld Obj.dimmInfo chan 8 8 = why ∧
      (dimmShown s chan capacity ident why).fld Obj.dimmInfo chan 0 8 = shownCapacity capacity := by
  have hrd : (dimmShown s chan capacity ident why).rd Obj.dimmInfo chan = _ :=
    State.rd_wr_same (s.rampEnds chan) Obj.dimmInfo chan _ rfl
  have hcap := shownCapacity_lt capacity
  refine ⟨(ramp_of_ramps (State.wr_ramps ..) chan).trans (ramp_setRamp_same s chan none), ?_⟩
  simp only [State.fld, hrd, bits_eq]
  omega

/-- The window of a DIMM that is trained, its bytes 0 unless a reset keeps them (R387, R502). -/
def windowReady (s : State) (chan : Nat) : State :=
  if s.dimmKeep.testBit chan then { s with dimmKeep := setBits s.dimmKeep chan 1 0 } else s.clearWindow chan

theorem windowReady_agree (s : State) (chan : Nat) : Agree (1 <<< 256 ||| 1 <<< 338) s (windowReady s chan) :=
  have hclosed := Agree.closed s (by decide +kernel)
  ite_sat (hclosed.dimmKeep (by decide +kernel) s _ (Agree.refl _ s))
    (State.clearWindow_closed (hclosed.mono (by decide +kernel)) (Agree.refl _ s) chan)

section

variable {s : State} {chan : Nat} (hcompute : s.hasCompute = true) (hchan : chan < 12) (hstate : s.dimm chan = 2)
  (hover : s.rampOver chan = true)
include hcompute hchan hstate hover

/-- Training ends with its DIMM shown, and refused or taken into service. -/
theorem dimmTrained_next (capacity ident : Nat) (mrdimm eccX4 checksum trained : Bool) :
    let why := s.dimmReason chan capacity mrdimm eccX4 checksum trained
    let u := dimmShown s chan capacity ident why
    exec (.dimmTrained chan capacity ident mrdimm eccX4 checksum trained) s = .next (if why ≠ 0 then u.setDimm chan 7
      else (windowReady u chan).setDimm chan (if (windowReady u chan).redirected chan then 4 else 3)) := by
  intro why u
  have hguard : (!s.hasCompute || s.dimm chan != dimmTraining || !s.rampOver chan) = false := by
    simp [hcompute, hstate, hover, dimmTraining]
  show execDimmTrained chan capacity ident mrdimm eccX4 checksum trained s = _
  unfold execDimmTrained
  rw [if_neg (Nat.not_le.mpr hchan), hguard, if_neg Bool.false_ne_true]
  extract_lets s' why' cap u' v
  have hwhy : why' = why := dimmReason_rampEnds ..
  have hu : u' = dimmShown s chan capacity ident why' := rfl
  have hv : v = windowReady u' chan := rfl
  rw [hv, hu, hwhy]
  split <;> rfl

/-- What the end of training leaves to read (R164, R177, R180). -/
theorem dimmTrained_reads (capacity ident : Nat) (mrdimm eccX4 checksum trained : Bool) :
    let why := s.dimmReason chan capacity mrdimm eccX4 checksum trained
    ∃ t, exec (.dimmTrained chan capacity ident mrdimm eccX4 checksum trained) s = .next t ∧ t.ramp chan = none ∧
      (why ≠ 0 → t.dimm chan = 7 ∧ t.fld Obj.dimmInfo chan 8 8 = why) ∧
      (why = 0 → t.dimm chan = (if s.redirected chan then 4 else 3) ∧ t.fld Obj.dimmInfo chan 0 8 = capacity ∧
        mrdimm = true ∧ eccX4 = true ∧ checksum = true ∧ trained = true ∧ 1 ≤ capacity ∧ capacity ≤ 3) := by
  intro why
  obtain ⟨hramp, hreason, hcapacity⟩ := dimmShown_reads s chan capacity ident
    (dimmReason_lt s chan capacity mrdimm eccX4 checksum trained)
  have hinfo (u : State) (st lo w : Nat) : (u.setDimm chan st).fld Obj.dimmInfo chan lo w = u.fld Obj.dimmInfo chan lo w :=
    State.fld_wr_obj _ _ _ _ _ _ (by decide)
  have hkeep (u : State) (st : Nat) : (u.setDimm chan st).ramp chan = u.ramp chan := ramp_of_ramps (State.wr_ramps ..) chan
  refine ⟨_, dimmTrained_next hcompute hchan hstate hover capacity ident mrdimm eccX4 checksum trained, ?_⟩
  by_cases hwhy : why = 0
  · have hready := windowReady_agree (dimmShown s chan capacity ident why) chan
    have hredirected : (windowReady (dimmShown s chan capacity ident why) chan).redirected chan = s.redirected chan := by
      unfold State.redirected State.fld
      rw [hready.rd _ _ (by decide +kernel)]
      exact congrArg (bits · 0 1 == 1) (State.rd_wr_obj (s.rampEnds chan) chan chan _ (by decide))
    obtain ⟨hm, he, hbytes, hc, ht⟩ := dimmReason_eq_zero hwhy
    rw [if_neg (not_not.mpr hwhy), hkeep, hinfo, hinfo, dimm_setDimm, hredirected,
      ramp_of_ramps (hready.ramps (by decide +kernel))]
    refine ⟨hramp, fun hne => absurd hwhy hne, fun _ => ⟨rfl, ?_, hm, he, hc, ht, dimmBytes_ne_zero hbytes⟩⟩
    unfold State.fld
    rw [hready.rd _ _ (by decide +kernel)]
    exact hcapacity.trans (if_neg hbytes)
  · rw [if_pos hwhy, hkeep, hinfo, hinfo, dimm_setDimm]
    exact ⟨hramp, fun _ => ⟨rfl, hreason⟩, fun h0 => absurd h0 hwhy⟩

end

/-! ### The blocks of a copy -/

/-- Bytes that are read at one place and written at another read there as they did. -/
theorem mem8_memWrite_memRead (s : State) (src dst : Nat × Nat) {n j : Nat} (h : j < n) :
    (s.memWrite dst.1 dst.2 (s.memRead src.1 src.2 n)).mem8 dst.1 (dst.2 + j) = s.mem8 src.1 (src.2 + j) := by
  have hlen : (s.memRead src.1 src.2 n).length = n := by simp [State.memRead]
  have hkey : memKey dst.1 (dst.2 + j) = memKey dst.1 dst.2 + j := (Nat.add_assoc ..).symm
  rw [mem8_memWrite, hlen, hkey, if_pos (by omega), Nat.add_sub_cancel_left]
  simp [State.memRead, h]

/-- The state once the block `n` is copied. -/
def blockCopied (s : State) (src dst : Nat × Nat) (n : Nat) : State :=
  (s.memWrite dst.1 dst.2 (s.memRead src.1 src.2 4096)).wrFld Obj.drainProgress 0 32 32 (n + 1)

/-- The state once the last block is copied: the copy ends, and the window switches (R173, R174). -/
def windowSwitched (s : State) (chan redirect st : Nat) : State :=
  (s.endCopy.wr Obj.redirect chan redirect).setDimm chan st

theorem mem8_windowSwitched (s : State) (chan redirect st space off : Nat) :
    (windowSwitched s chan redirect st).mem8 space off = s.mem8 space off := by
  unfold State.mem8
  simp only [windowSwitched, State.setDimm, State.wr_mem, State.endCopy, State.wrFld_mem]

theorem windowSwitched_reads (s : State) (chan redirect st : Nat) :
    (windowSwitched s chan redirect st).dimm chan = st ∧ (windowSwitched s chan redirect st).dimmCopy = none ∧
      (windowSwitched s chan redirect st).redirected chan = (redirect % 2 == 1) ∧
      (windowSwitched s chan redirect st).fld Obj.drainProgress 0 32 32 = s.fld Obj.drainProgress 0 32 32 := by
  have hrd : (windowSwitched s chan redirect st).rd Obj.redirect chan = redirect :=
    (State.rd_wr_obj _ _ _ _ (by decide)).trans (State.rd_wr_same s.endCopy Obj.redirect chan redirect rfl)
  refine ⟨dimm_setDimm .., rfl, ?_, ?_⟩
  · simp [State.redirected, State.fld, hrd, bits_eq]
  · calc (windowSwitched s chan redirect st).fld Obj.drainProgress 0 32 32
        = (s.endCopy.wr Obj.redirect chan redirect).fld Obj.drainProgress 0 32 32 := State.fld_wr_obj _ _ _ _ _ _ (by decide)
      _ = s.endCopy.fld Obj.drainProgress 0 32 32 := State.fld_wr_obj _ _ _ _ _ _ (by decide)
      _ = s.fld Obj.drainProgress 0 32 32 := blocksDone_endCopy s

/-- The state once block `n` of a copy is done: after the last one the window is switched. -/
def blockDone (s : State) (src dst : Nat × Nat) (n len chan redirect st : Nat) : State :=
  if n + 1 < len then blockCopied s src dst n else windowSwitched (blockCopied s src dst n) chan redirect st

theorem blockDone_reads (s : State) (src dst : Nat × Nat) (n len chan redirect st : Nat) :
    (∀ j, j < 4096 → (blockDone s src dst n len chan redirect st).mem8 dst.1 (dst.2 + j) = s.mem8 src.1 (src.2 + j)) ∧
      (blockDone s src dst n len chan redirect st).fld Obj.drainProgress 0 32 32 = (n + 1) % 2 ^ 32 ∧
      (len ≤ n + 1 → (blockDone s src dst n len chan redirect st).dimm chan = st ∧
        (blockDone s src dst n len chan redirect st).dimmCopy = none ∧
        (blockDone s src dst n len chan redirect st).redirected chan = (redirect % 2 == 1)) := by
  have hcopied (j : Nat) (hj : j < 4096) : (blockCopied s src dst n).mem8 dst.1 (dst.2 + j) = s.mem8 src.1 (src.2 + j) :=
    (State.wrFld_mem8 ..).trans (mem8_memWrite_memRead s src dst hj)
  have hdone : (blockCopied s src dst n).fld Obj.drainProgress 0 32 32 = (n + 1) % 2 ^ 32 :=
    State.fld_wrFld_same (s.memWrite ..) Obj.drainProgress 0 32 32 _ rfl
  unfold blockDone
  split
  next hmore => exact ⟨hcopied, hdone, fun hlast => absurd hmore (Nat.not_lt.mpr hlast)⟩
  next =>
    obtain ⟨hstate, hcopy, hredirected, hfld⟩ := windowSwitched_reads (blockCopied s src dst n) chan redirect st
    exact ⟨fun j hj => (mem8_windowSwitched ..).trans (hcopied j hj), hfld.trans hdone, fun _ => ⟨hstate, hcopy, hredirected⟩⟩

/-- The place of the current block in its window. -/
def copyWindow (s : State) : Nat × Nat :=
  (1, s.fld Obj.drainProgress 0 0 4 * 2 ^ 38 + s.fld Obj.drainProgress 0 32 32 * 4096)

/-- The place of the current block at the copy's target. -/
def copyTarget (s : State) (k : DimmCopy) : Nat × Nat :=
  s.place (bits k.target 44 4) (bits k.target 0 44 + s.fld Obj.drainProgress 0 32 32 * 4096)

/-- When the share of the channel allows the current block (R176). -/
def copyDue (s : State) (k : DimmCopy) : Nat :=
  s.fld Obj.drainProgress 0 64 64 + copyTime k.share (s.fld Obj.drainProgress 0 32 32 + 1)

section

variable {s : State} {k : DimmCopy} (hcopy : s.dimmCopy = some k)
include hcopy

theorem drainBlockCopied_of_early (hearly : s.now < copyDue s k) (ecc : Ecc) :
    exec (.drainBlockCopied ecc) s = .next s := by
  simp only [exec, execDrainBlockCopied, hcopy]
  refine if_pos ?_
  rw [Bool.or_eq_true]
  exact .inr (decide_eq_true hearly)

variable {ecc : Ecc} (hscratched : s.scratched = false) (hscan : s.scanFree = true) (hecc : ∀ x ∈ ecc.flaws, x.2 ≤ 1)
  (hdue : copyDue s k ≤ s.now) (hwindow : s.heldAt (copyWindow s) = false) (htarget : s.heldAt (copyTarget s k) = false)
include hscratched hscan hecc hdue hwindow htarget

/-- A block whose read is delivered is copied: the window to the target in a drain, the target to the window in a return. -/
theorem drainBlockCopied_next : ∃ u, Agree correctedFoot s u ∧ exec (.drainBlockCopied ecc) s = .next
    (if s.fld Obj.drainProgress 0 4 4 = 1 then
      blockDone u (copyWindow s) (copyTarget s k) (s.fld Obj.drainProgress 0 32 32) k.len (s.fld Obj.drainProgress 0 0 4)
        (1 + k.len * 2 ^ 32 + k.target * 2 ^ 64) 4
    else
      blockDone u (copyTarget s k) (copyWindow s) (s.fld Obj.drainProgress 0 32 32) k.len (s.fld Obj.drainProgress 0 0 4)
        0 3) := by
  show ∃ u, _ ∧ execDrainBlockCopied ecc s = _
  unfold execDrainBlockCopied
  simp -zeta only [hcopy]
  extract_lets chan mode n window target src dst flaws
  have hsrc : s.heldAt src = false := ite_sat (Q := fun q => s.heldAt q = false) hwindow htarget
  have hdst : s.heldAt dst = false := ite_sat (Q := fun q => s.heldAt q = false) htarget hwindow
  have hnow : ¬ s.now < s.fld Obj.drainProgress 0 64 64 + copyTime k.share (n + 1) := Nat.not_lt.mpr hdue
  have hflaws : ∀ x ∈ flaws, x.2 ≤ 1 := by
    intro y hy
    obtain ⟨x, hx, hplace⟩ := List.mem_filterMap.mp hy
    split at hplace
    · cases hplace
      exact hecc x hx
    · cases hplace
  obtain ⟨u, hwords, hu⟩ := eccWords_of_correctable (Agree.closed s (by decide +kernel)) false hflaws (Agree.refl _ s)
  refine ⟨u, hu, ?_⟩
  rw [if_neg (by simp [hscratched, hscan, hsrc, hdst, hnow]), hwords]
  have hblock (a b : Nat × Nat) (redirect st : Nat) : (if n + 1 < k.len then .next (blockCopied u a b n)
      else .next (windowSwitched (blockCopied u a b n) chan redirect st) : Res) =
        .next (blockDone u a b n k.len chan redirect st) := by
    unfold blockDone
    split <;> rfl
  by_cases hmode : mode = 1
  · have hs : src = copyWindow s := if_pos hmode
    have hd : dst = copyTarget s k := if_pos hmode
    rw [if_pos (show s.fld Obj.drainProgress 0 4 4 = 1 from hmode), ← hblock, ← hs, ← hd]
    simp only [if_pos hmode]
    rfl
  · have hs : src = copyTarget s k := if_neg hmode
    have hd : dst = copyWindow s := if_neg hmode
    rw [if_neg (show s.fld Obj.drainProgress 0 4 4 ≠ 1 from hmode), ← hblock, ← hs, ← hd]
    simp only [if_neg hmode]
    rfl

end

/-! ### The obligation -/

/-- Settles O15: the DIMM commands answer as their equations say, and a block that is copied reads at its place as it did where it
came from (`blockDone_reads`). -/
theorem dimmsAreDrainedReturnedAndReplaced : Obligations.DimmsAreDrainedReturnedAndReplaced := by
  unfold Obligations.DimmsAreDrainedReturnedAndReplaced
  refine ⟨fun s chan hcompute hchan => ⟨?_, ?_, ?_, ?_, ?_, ?_, ?_, ?_⟩,
    fun s chan hcompute hchan => ⟨dimmLatchClose_of_off hcompute hchan, fun _ h => rampBay_of_fits h chan,
      fun _ h => rampBay_of_waits h chan, dimmLatchOpen_of_on hcompute hchan, ?_⟩,
    fun s k ecc hcopy => ⟨fun hearly => drainBlockCopied_of_early hcopy hearly ecc, ?_⟩⟩
  · exact fun hpower c hc => dimmCommands_of_powerless hcompute hchan hpower hc
  · exact dimmCopies_of_busy hcompute hchan
  · intro hpower hfree hstate hdesc
    obtain ⟨hdimm, hcmd, hc, hm, hdone⟩ := copyStarted_reads s hchan (mode := 1) (by decide) 5 (s.fld Obj.drainDesc 0 32 32)
      (s.fld Obj.drainDesc 0 64 64) (s.fld Obj.drainDesc 0 0 8)
    exact ⟨_, dimmDrain_next hcompute hchan hpower hfree hstate hdesc, hdimm, hcmd, hc, hm, hdone, rfl⟩
  · intro hpower hfree hstate hshare hle
    exact ⟨_, dimmReturn_next hcompute hchan hpower hfree hstate hshare hle, copyStarted_reads s hchan (by decide) ..⟩
  · exact dimmPowerOff_next hcompute hchan
  · exact dimmPowerOn_next hcompute hchan
  · exact fun hpower hstate => ⟨_, drainCancel_of_draining hcompute hchan hpower hstate, copyCancelled_reads s chan 3⟩
  · exact fun hpower hstate => ⟨_, drainCancel_of_returning hcompute hchan hpower hstate, copyCancelled_reads s chan 4⟩
  · intro hstate hover capacity ident mrdimm eccX4 checksum trained why
    exact dimmTrained_reads hcompute hchan hstate hover capacity ident mrdimm eccX4 checksum trained
  · intro hscratched hscan hecc hdue hwindow htarget
    obtain ⟨u, hu, hnext⟩ := drainBlockCopied_next hcopy hscratched hscan hecc hdue hwindow htarget
    have hmem (a b : Nat) : u.mem8 a b = s.mem8 a b := by
      unfold State.mem8
      rw [hu.mem (by decide +kernel)]
    refine ⟨fun hmode => ?_, fun hmode => ?_⟩
    · rw [if_pos hmode] at hnext
      obtain ⟨hcopied, hdone, hlast⟩ := blockDone_reads u (copyWindow s) (copyTarget s k) (s.fld Obj.drainProgress 0 32 32)
        k.len (s.fld Obj.drainProgress 0 0 4) (1 + k.len * 2 ^ 32 + k.target * 2 ^ 64) 4
      refine ⟨_, hnext, fun j hj => (hcopied j hj).trans (hmem ..), hdone, fun hlen => ?_⟩
      obtain ⟨hstate, hcopy', hredirected⟩ := hlast hlen
      exact ⟨hstate, hcopy', hredirected.trans (beq_iff_eq.mpr (by omega))⟩
    · rw [if_neg (by omega)] at hnext
      obtain ⟨hcopied, hdone, hlast⟩ := blockDone_reads u (copyTarget s k) (copyWindow s) (s.fld Obj.drainProgress 0 32 32)
        k.len (s.fld Obj.drainProgress 0 0 4) 0 3
      exact ⟨_, hnext, fun j hj => (hcopied j hj).trans (hmem ..), hdone, hlast⟩

end Sys2Proof.Laws
end

section
/-! PROOFS. Patrol reads, and the holds of recalibrating controllers (O16). -/

namespace Sys2Proof.Laws

set_option Elab.async false

open Sys2Proof.Machine

/-! ### Patrol reads and on-die counts -/

/-- The codeword that a patrol reads next, of `n` (R167). -/
def patrolTurn (w : Patrol) (n : Nat) : Nat := if n ≤ w.next then 0 else w.next

/-- The patrol of a memory once it has read codeword `k` of `n`: it moves on, and its first codeword begins a round (R167). -/
def patrolMoved (s : State) (kind inst k n : Nat) : State :=
  let since := (KMap.get s.patrols Patrol.init (256 * kind + inst)).since
  let w : Patrol := ⟨(k + 1) % n, if k = 0 then s.now + s.patrolPeriod kind else since⟩
  { s with patrols := KMap.set s.patrols Patrol.init (256 * kind + inst) w }

section

variable {s : State} {region off kind inst k n : Nat} (hword : s.patrolWord region off = some (kind, inst, k, n))
include hword

/-- A codeword out of its turn, or the first one before the period of the last round is over, is not read. -/
theorem patrolRead_of_early
    (hearly : k ≠ patrolTurn (KMap.get s.patrols Patrol.init (256 * kind + inst)) n ∨
      (k = 0 ∧ s.now < (KMap.get s.patrols Patrol.init (256 * kind + inst)).since)) (e : Ecc) :
    exec (.patrolRead region off e) s = .next s := by
  simp only [exec, execPatrolRead, hword]
  refine if_pos ?_
  rcases hearly with hturn | ⟨hfirst, hsince⟩
  · have hturn' := bne_iff_ne.mpr hturn
    unfold patrolTurn at hturn'
    rw [hturn', Bool.or_true, Bool.true_or]
  · simp [hfirst, hsince]

/-- In its turn the codeword is read, and what its code finds is what the read comes to. -/
theorem patrolRead_of_turn (hruns : s.patrolRuns region off = true)
    (hturn : k = patrolTurn (KMap.get s.patrols Patrol.init (256 * kind + inst)) n)
    (hsince : k = 0 → (KMap.get s.patrols Patrol.init (256 * kind + inst)).since ≤ s.now) (e : Ecc) :
    exec (.patrolRead region off e) s = .next (eccWords true (e.flaws.filterMap fun x =>
      if x.1 = 0 then some ((region, off / codewordBytes region * codewordBytes region), x.2) else none)
      (patrolMoved s kind inst k n)).2 := by
  simp only [exec, execPatrolRead, hword]
  refine if_neg ?_
  have hdue : (k != patrolTurn (KMap.get s.patrols Patrol.init (256 * kind + inst)) n) = false := by simp [← hturn]
  have hlate : (k == 0 && decide (s.now < (KMap.get s.patrols Patrol.init (256 * kind + inst)).since)) = false := by
    simpa using hsince
  unfold patrolTurn at hdue
  rw [hruns, hdue, hlate]
  decide

end

theorem recal_setRecal_same (s : State) (c : Nat) (r : RecalSt) : (s.setRecal c r).recal c = r := get_set_same ..

theorem recal_setRecal_other (s : State) {c k : Nat} (r : RecalSt) (h : k ≠ c) : (s.setRecal c r).recal k = s.recal k :=
  get_set_other _ _ _ _ h

theorem recal_of_recals {s t : State} (h : t.recals = s.recals) (c : Nat) : t.recal c = s.recal c := by
  unfold State.recal
  rw [h]

theorem inc_recals (s : State) (c : ObjCode) (i lo w n : Nat) : (s.inc c i lo w n).recals = s.recals := by
  unfold State.inc
  extract_lets
  exact ite_sat (Q := fun u : State => u.recals = s.recals) rfl rfl

/-- A count that stays within its field is the sum (log entry 3). -/
theorem fld_inc_of_fits {s : State} {c : ObjCode} {i lo w n : Nat} (h : identRead s.ident c = none)
    (hfits : s.fld c i lo w + n < 2 ^ w) : (s.inc c i lo w n).fld c i lo w = s.fld c i lo w + n := by
  simp only [State.inc, hfits, if_true, State.fld_wrFld_same _ _ _ _ _ _ h, Nat.mod_eq_of_lt]

theorem ondieCePoll_next {s : State} {ctrl : Nat} (hctrl : ctrl < 24) (hcompute : s.hasCompute = true)
    (hhbm : s.hasHbm ctrl = true) (hpower : s.power < 2) (hpolled : (s.recal ctrl).polled + 10 ^ 9 ≤ s.now) (count : Nat) :
    exec (.ondieCePoll ctrl count) s =
      .next ((s.setRecal ctrl { s.recal ctrl with polled := s.now }).inc Obj.hbmOndieCeCount ctrl 0 64 count) := by
  simp only [exec, execOndieCePoll]
  rw [if_neg (by omega), if_pos (by simp [hcompute, hhbm, hpower]; omega)]

/-! ### The start of a hold -/

theorem hasController_of_rd {s t : State} (hident : t.ident = s.ident)
    (hdimm : ∀ i, t.rd Obj.dimmState i = s.rd Obj.dimmState i) (c : Nat) : t.hasController c = s.hasController c := by
  have hd : t.dimm = s.dimm := funext hdimm
  unfold State.hasController State.hasCompute State.hasHbm State.dimmTrained
  rw [hident, hd]

theorem holdFree_of_recals {s t : State} (h : t.recals = s.recals) (c : Nat) : t.holdFree c = s.holdFree c := by
  unfold State.holdFree
  rw [h]

/-- A temperature is entered in the objects of the controllers' temperatures, and nowhere else. -/
theorem setTemp_agree (s : State) (c temp : Nat) : Agree 0x10400000000000 s (s.setTemp c temp) :=
  State.setTemp_closed (Agree.closed s (by decide +kernel)) (Agree.refl _ s) c temp

theorem recal_setTemp (s : State) (c temp k : Nat) : (s.setTemp c temp).recal k = s.recal k :=
  recal_of_recals ((setTemp_agree s c temp).recals (by decide +kernel)) k

theorem now_setTemp (s : State) (c temp : Nat) : (s.setTemp c temp).now = s.now :=
  (setTemp_agree s c temp).now (by decide +kernel)

theorem recal_startHold (s : State) (c temp : Nat) :
    (s.startHold c temp).recal c = { s.recal c with holding := true, start := s.now, temp := temp } := recal_setRecal_same ..

/-- A hold that begins at a temperature (R170, R172) begins now. -/
theorem startHold_setTemp (s : State) (c temp : Nat) : (s.setTemp c temp).startHold c temp =
    (s.setTemp c temp).setRecal c { s.recal c with holding := true, start := s.now, temp := temp } := by
  unfold State.startHold
  rw [recal_setTemp, now_setTemp]

section

variable {s : State} {ctrl : Nat} (hctrl : s.hasController ctrl = true) (hpower : s.power < 2)
include hctrl hpower

theorem recalStart_next {temp : Nat} (hfree : s.holdFree ctrl = true) (hholding : (s.recal ctrl).holding = false)
    (hdue : (s.rd Obj.recalMode 0 = 0 ∧
      (800 ≤ tempChange temp (s.recal ctrl).temp ∨ 2000000000 ≤ s.now - (s.recal ctrl).last)) ∨ (s.recal ctrl).wanted = true) :
    exec (.recalStart ctrl temp) s = .next ((s.setTemp ctrl temp).startHold ctrl temp) := by
  have hagree := setTemp_agree s ctrl temp
  have hctrl' : (s.setTemp ctrl temp).hasController ctrl = true :=
    (hasController_of_rd hagree.ident (fun i => hagree.rd _ i (by decide +kernel)) ctrl).trans hctrl
  have hpower' : (s.setTemp ctrl temp).power < 2 := by
    unfold State.power State.fld
    rwa [hagree.rd _ _ (by decide +kernel)]
  have hmode : (s.setTemp ctrl temp).rd Obj.recalMode 0 = s.rd Obj.recalMode 0 := hagree.rd _ _ (by decide +kernel)
  have hfree' : (s.setTemp ctrl temp).holdFree ctrl = true :=
    (holdFree_of_recals (hagree.recals (by decide +kernel)) ctrl).trans hfree
  simp only [exec, execRecalStart, hctrl, hpower, decide_true, Bool.and_self, if_true]
  refine if_pos ?_
  simp only [hctrl', hpower', hfree', recal_setTemp, now_setTemp, hmode, hholding, decide_true, Bool.and_self, Bool.not_false,
    Bool.true_and, Bool.or_eq_true, decide_eq_true_eq]
  exact hdue

theorem recalForced_next {temp : Nat} (hholding : (s.recal ctrl).holding = false) (hmode : s.rd Obj.recalMode 0 = 1)
    (hchange : 1600 ≤ tempChange temp (s.recal ctrl).temp) :
    ∃ c i, exec (.recalForced ctrl temp) s = .next (((s.setTemp ctrl temp).startHold ctrl temp).inc c i 96 32 1) := by
  simp only [exec, execRecalForced]
  rw [if_pos (by simp [hctrl, hpower, hholding, hmode, hchange])]
  split
  · exact ⟨_, _, rfl⟩
  · exact ⟨_, _, rfl⟩

end

/-- A request leaves the limit of R170 as it is: it starts no hold by itself. -/
theorem holdFree_of_wanted {s : State} {c : Nat} (h : s.holdFree c = true) :
    (s.setRecal c { s.recal c with wanted := true }).holdFree c = true := by
  have hfree : ∀ p ∈ s.recals, (p.2.holding && recalGroup p.1 == recalGroup c) = false := by
    simpa [State.holdFree] using h
  have hown : (s.recal c).holding = false := by
    unfold State.recal KMap.get
    cases hfind : s.recals.find c with
    | none => rfl
    | some r => simpa using hfree _ (find_mem hfind)
  have hput : (s.setRecal c { s.recal c with wanted := true }).recals = s.recals.put c { s.recal c with wanted := true } :=
    if_neg fun heq => by simpa [RecalSt.init] using congrArg RecalSt.wanted heq
  unfold State.holdFree
  rw [hput, Bool.not_eq_true', List.any_eq_false]
  intro p hp
  rcases mem_put hp with rfl | hold
  · simp [hown]
  · simp [hfree p hold]

/-- The controller that a value of RECAL_NOW names (R180). -/
def recalNowCtrl (value : Nat) : Nat := if value / 256 = 0 then value else 32 + value % 256

theorem recalNowCtrl_eq {value ctrl : Nat}
    (h : value < 24 ∧ ctrl = value ∨ 256 ≤ value ∧ value < 268 ∧ ctrl = 32 + value % 256) : recalNowCtrl value = ctrl := by
  unfold recalNowCtrl
  split <;> omega

/-- The state with a request of RECAL_NOW entered. -/
def recalAsked (s : State) (c : Nat) : State := (s.setRecal c { s.recal c with wanted := true }).wr Obj.recalNow 0 0

theorem recalNow_next {s : State} {value : Nat} (hcompute : s.hasCompute = true)
    (hvalue : value < 24 ∨ 256 ≤ value ∧ value < 268) (hctrl : s.hasController (recalNowCtrl value) = true)
    (hpower : s.power < 2) : ∃ temp, exec (.recalNow value) s =
      .next (if (recalAsked s (recalNowCtrl value)).holdFree (recalNowCtrl value) then
        (recalAsked s (recalNowCtrl value)).startHold (recalNowCtrl value) temp else recalAsked s (recalNowCtrl value)) := by
  have hrange : (!s.hasCompute || !(decide (value < 24) || (decide (256 ≤ value) && decide (value < 268)))) ≠ true := by
    simp only [hcompute, Bool.not_true, Bool.false_or, ne_eq, Bool.not_eq_true', Bool.not_eq_false, Bool.or_eq_true,
      Bool.and_eq_true, decide_eq_true_eq]
    exact hvalue
  have hthere : (!s.hasController (recalNowCtrl value) || decide (2 ≤ s.power)) ≠ true := by
    simp [hctrl, hpower]
  exact ⟨_, (if_neg hrange).trans (if_neg hthere)⟩

/-! ### The end of a hold -/

theorem recal_endHold (s : State) (c k : Nat) : (s.endHold c).recal k =
    if k = c then { s.recal c with holding := false, wanted := false, last := s.now } else s.recal k := by
  unfold State.endHold
  extract_lets r ns obj i a b d
  have hd : Agree (2 ^ 256 - 1 + 2 ^ 257) s d := by
    have hclosed := Agree.closed (m := 2 ^ 256 - 1 + 2 ^ 257) s (by decide +kernel)
    have hall (c : ObjCode) : Foot.obj (2 ^ 256 - 1 + 2 ^ 257) c = true := Foot.obj_of_all (by decide +kernel) c
    have ha : Agree _ s a := State.inc_closed hclosed (by decide +kernel) (hall _) (Agree.refl _ s) ..
    have hb : Agree _ s b := State.wrFld_closed hclosed (hall _) ha ..
    exact ite_sat (State.wr_closed hclosed (hall _) hb ..) hb
  split
  next hk => rw [hk, recal_setRecal_same, hd.now (by decide +kernel)]
  next hk => rw [recal_setRecal_other _ _ hk, recal_of_recals (hd.recals (by decide +kernel))]

/-- The state in which the holds of some controllers have ended. -/
def holdsEnded (l : List Nat) (s : State) : State := l.foldl (fun u c => u.endHold c) s

/-- Whoever holds after some holds have ended is none of theirs, and holds as before. -/
theorem recal_holdsEnded_of_holding {c : Nat} (l : List Nat) {s : State}
    (h : ((holdsEnded l s).recal c).holding = true) : c ∉ l ∧ (holdsEnded l s).recal c = s.recal c := by
  induction l generalizing s with
  | nil => exact ⟨List.not_mem_nil, rfl⟩
  | cons a l ih =>
    obtain ⟨hl, hrecal⟩ := ih (s := s.endHold a) h
    have hne : c ≠ a := by
      rintro rfl
      have hended : ((holdsEnded l (s.endHold c)).recal c).holding = true := h
      rw [hrecal, recal_endHold, if_pos rfl] at hended
      cases hended
    exact ⟨by simp [hne, hl], hrecal.trans ((recal_endHold s a c).trans (if_neg hne))⟩

/-- The controllers whose holds have reached their bound (R170). -/
def holdsDue (s : State) : List Nat :=
  (s.recals.filter fun x => x.2.holding && decide (x.2.start + holdBound x.1 ≤ s.now)).map (·.1)

theorem mem_holdsDue {s : State} {c : Nat} (hholding : (s.recal c).holding = true)
    (hdue : (s.recal c).start + holdBound c ≤ s.now) : c ∈ holdsDue s := by
  unfold State.recal KMap.get at hholding hdue
  cases hfind : s.recals.find c with
  | none => simp [hfind, RecalSt.init] at hholding
  | some r =>
    rw [hfind, Option.getD_some] at hholding hdue
    exact List.mem_map.mpr ⟨(c, r), List.mem_filter.mpr ⟨find_mem hfind, by simp [hholding, hdue]⟩, rfl⟩

/-- The requests that were held do not touch the holds when they are performed. -/
theorem releaseWaiting_recals (s : State) : s.releaseWaiting.recals = s.recals :=
  (State.releaseWaiting_closed (Agree.closed s (by decide +kernel)) (Agree.refl _ s)).recals (by decide +kernel)

theorem holdsEnd_recals (s : State) : s.holdsEnd.recals = (holdsEnded (holdsDue s) s).recals := by
  have hdef : s.holdsEnd = if (holdsDue s).isEmpty then s else (holdsEnded (holdsDue s) s).releaseWaiting := rfl
  rw [hdef]
  split
  next hnil => rw [List.isEmpty_iff.mp hnil]; rfl
  next => exact releaseWaiting_recals _

/-- A hold that the ends of the holds leave has not reached its bound. -/
theorem holdsEnd_within {s : State} {c : Nat} (h : (s.holdsEnd.recal c).holding = true) :
    s.now < (s.holdsEnd.recal c).start + holdBound c := by
  rw [recal_of_recals (holdsEnd_recals s)] at h ⊢
  obtain ⟨hnot, hrecal⟩ := recal_holdsEnded_of_holding (holdsDue s) h
  rw [hrecal] at h ⊢
  exact Nat.lt_of_not_le fun hdue => hnot (mem_holdsDue h hdue)

/-! ### The bound of a hold over a tick -/

/-- After the ends of the holds, a tick leaves the holds as they stand. -/
theorem tickWork_recals (s : State) : (tickWork s).recals = s.holdsEnd.recals := by
  have hclosed : Closed (tickFoot ^^^ 1 <<< 268) (Agree (tickFoot ^^^ 1 <<< 268) s.holdsEnd) :=
    Agree.closed _ (by decide +kernel)
  have hunits := State.cleInject_closed (hclosed.mono (by decide +kernel)) <|
    State.fillStep_closed (hclosed.mono (by decide +kernel)) <|
      State.rateWindowEnd_closed (hclosed.mono (by decide +kernel)) (Agree.refl _ _)
  have hcores := foldUp_sat (lo := 0) (n := 96) hunits fun n _ hu => State.tickCore_closed (hclosed.mono (by decide +kernel)) hu n
  have hrakes := foldUp_sat (lo := 0) (n := 48) hcores fun n _ hu => State.tickRake_closed (hclosed.mono (by decide +kernel)) hu n
  have hdrawn : Agree _ s.holdsEnd (tickWork s) := State.drawn_closed (hclosed.mono (by decide +kernel)) hrakes
  exact hdrawn.recals (by decide +kernel)

/-- No hold lasts longer than its bound (R170). -/
theorem tick_holds_within {s t : State} (ht : s.tick = t) {c : Nat} (h : (t.recal c).holding = true) :
    t.now ≤ (t.recal c).start + holdBound c := by
  obtain ⟨-, -, -, hnow⟩ := tickWork_keepsRecord s
  have hrecals := tickWork_recals s
  rw [tick_eq] at ht
  generalize tickWork s = u at ht hnow hrecals
  subst ht
  have hrecal : ({ u with now := u.now + 1 } : State).recal c = s.holdsEnd.recal c := recal_of_recals hrecals c
  rw [hrecal] at h ⊢
  have hwithin := holdsEnd_within h
  rw [← hnow] at hwithin
  exact hwithin

/-! ### The obligation -/

/-- Settles O16: a patrol reads in turn (`patrolRead_of_turn`), holds begin and end as their equations say, and a tick ends those
that reach their bound (`tick_holds_within`). -/
theorem correctionsCountAndRecalibrationHolds : Obligations.CorrectionsCountAndRecalibrationHolds := by
  unfold Obligations.CorrectionsCountAndRecalibrationHolds
  refine ⟨fun s => ⟨fun region off kind inst k n hword hruns => ⟨fun hearly => patrolRead_of_early hword hearly,
    fun hturn hsince => ⟨patrolRead_of_turn hword hruns hturn hsince .clean,
      patrolRead_of_turn hword hruns hturn hsince .corrected,
      patrolRead_of_turn hword hruns hturn hsince .uncorrectable⟩⟩, ?_⟩,
    fun s ctrl temp hctrl hpower => ⟨fun hfree hholding hdue => ?_, fun hholding hmode hchange => ?_, fun hholding => ?_,
      fun t hq hstep c => ?_, fun value hcompute hvalue => ?_⟩⟩
  · intro ctrl count hctrl hcompute hhbm hpower hpolled hfits
    refine ⟨_, ondieCePoll_next hctrl hcompute hhbm hpower hpolled count, fld_inc_of_fits rfl hfits, ?_⟩
    rw [recal_of_recals (inc_recals ..), recal_setRecal_same]
  · rw [recalStart_next hctrl hpower hfree hholding hdue, startHold_setTemp]
  · obtain ⟨c, i, hnext⟩ := recalForced_next hctrl hpower hholding hmode hchange
    refine ⟨_, hnext, ?_⟩
    rw [recal_of_recals (inc_recals ..), recal_startHold, now_setTemp]
    exact ⟨rfl, rfl, rfl⟩
  · refine ⟨if_pos hholding, ?_⟩
    rw [recal_endHold, if_pos rfl]
    exact ⟨rfl, rfl⟩
  · exact tick_holds_within (by simpa [step, hq] using hstep)
  · have hnamed := recalNowCtrl_eq hvalue
    obtain ⟨temp, hnext⟩ := recalNow_next hcompute (by omega) (hnamed ▸ hctrl) hpower
    rw [hnamed] at hnext
    have hasked : (recalAsked s ctrl).recal ctrl = { s.recal ctrl with wanted := true } := recal_setRecal_same ..
    have hanswer : (recalAsked s ctrl).rd Obj.recalNow 0 = 0 := State.rd_wr_same _ Obj.recalNow 0 0 rfl
    refine ⟨_, hnext, ?_⟩
    split
    next =>
      rw [recal_startHold, hasked]
      exact ⟨rfl, hanswer, fun _ => ⟨rfl, rfl⟩⟩
    next hheld =>
      rw [hasked]
      exact ⟨rfl, hanswer, fun hfree => absurd (holdFree_of_wanted hfree) hheld⟩

end Sys2Proof.Laws
end

section
/-! PROOFS. Unordered requests of the global memory at their owner (O17). -/

namespace Sys2Proof.Laws

set_option Elab.async false

open Sys2Proof.Machine

/-! ### Requests that are taken -/

theorem op_of_takesRequest {s : State} {f : Frame} {op : Nat} (htakes : TakesRequest s op f) : f.op = op := by
  obtain ⟨-, -, hop, -⟩ := htakes
  exact hop

section

variable {s : State} {f : Frame} {op : Nat} (htakes : TakesRequest s op f)
include htakes

theorem requestIn_of_unordered (hordered : f.ordered = false) (hwait : s.mustWait f = false) (e : Ecc) :
    s.requestIn op f e = if op = 4 ∨ op = 7 then s.reply f 0 [] else if op = 6 then s.reply f 0x08 [] else s.answer f e := by
  obtain ⟨hid, hscratched, hop, hdest, hpower, hcompute, hclosed⟩ := htakes
  simp [State.requestIn, hid, hscratched, hop, hdest, hpower, hcompute, hclosed, hordered, hwait]

/-- A FENCE or PCLOSE on no ordered stream has nothing to do. -/
theorem requestIn_of_empty (hordered : f.ordered = false) (hwait : s.mustWait f = false) (hop : op = 4 ∨ op = 7) (e : Ecc) :
    s.requestIn op f e = s.reply f 0 [] := by
  rw [requestIn_of_unordered htakes hordered hwait, if_pos hop]

/-- A READ, WRITE, ATOMIC or SIGNAL on no ordered stream is answered with what serving it comes to. -/
theorem requestIn_of_served (hordered : f.ordered = false) (hwait : s.mustWait f = false) (hop : op ∉ [4, 6, 7]) {e : Ecc}
    {status : Nat} {data : List Byte} {t : State} (hserved : s.serve f e = ⟨some status, data, t⟩) :
    s.requestIn op f e = t.reply f status data := by
  simp only [List.mem_cons, List.not_mem_nil, or_false, not_or] at hop
  obtain ⟨hfence, hpdelta, hpclose⟩ := hop
  rw [requestIn_of_unordered htakes hordered hwait, if_neg (not_or.mpr ⟨hfence, hpclose⟩), if_neg hpdelta]
  simp only [State.answer, hserved]

end

/-- A PDELTA on no ordered stream is refused (R209). -/
theorem requestIn_of_pdelta {s : State} {f : Frame} (htakes : TakesRequest s 6 f) (hordered : f.ordered = false)
    (hwait : s.mustWait f = false) (e : Ecc) : s.requestIn 6 f e = s.reply f 0x08 [] := by
  rw [requestIn_of_unordered htakes hordered hwait, if_neg (by decide), if_pos rfl]

/-! ### What serving a request comes to where every read is correct -/

section

variable {s : State} {f : Frame}

theorem guardStatus_of_unguarded {region off : Nat} (hguard : s.guardAt region off = none) (refused : Bool) :
    s.guardStatus region off refused = none := by
  simp only [State.guardStatus, hguard]

theorem serve_read (hop : f.op = 1) (hregion : f.region ≠ 3) (hmapped : s.mapped f.region f.off f.len = true)
    (hcrosses : crosses f.off f.len = false) (hguard : s.guardAt f.region f.off = none) :
    s.serve f .clean = ⟨some 0, s.load f.region f.off f.len, s⟩ := by
  simp [State.serve, hop, State.serveRead, hregion, hmapped, hcrosses, guardStatus_of_unguarded hguard]

theorem serve_write (hop : f.op = 2) (hregion : f.region ≠ 3) (hmapped : s.mapped f.region f.off f.len = true)
    (hcrosses : crosses f.off f.len = false) (hguard : s.guardAt f.region f.off = none) :
    s.serve f .clean = ⟨some 0, [], s.memStore f.region f.off (fitBytes f.len f.payload)⟩ := by
  simp [State.serve, hop, State.serveWrite, hregion, hmapped, hcrosses, guardStatus_of_unguarded hguard]

/-- The code that an ATOMIC finds at its address (R201). -/
def atomicOld (s : State) (f : Frame) : Nat := leCode (s.load f.region f.off (atomicBytes f.atype))

/-- The bytes that an ATOMIC leaves there (R201). -/
def atomicLeft (s : State) (f : Frame) : List Byte :=
  let n := atomicBytes f.atype
  leBytes n (atomicNew f.aop f.atype (atomicOld s f) (leCode (sliceBytes f.payload 0 n)) (leCode (sliceBytes f.payload 8 n)))

theorem serve_atomic (hop : f.op = 3) (hregion : f.region ≠ 3) (hmapped : s.mapped f.region f.off (atomicBytes f.atype) = true)
    (hatomic : atomicOk f.aop f.atype = true) (haligned : f.off % atomicBytes f.atype = 0)
    (hguard : s.guardAt f.region f.off = none) :
    s.serve f .clean = ⟨some 0, leBytes 8 (atomicOld s f), s.memStore f.region f.off (atomicLeft s f)⟩ := by
  simp [State.serve, hop, State.serveAtomic, hregion, hmapped, hatomic, haligned, guardStatus_of_unguarded hguard, atomicLeft,
    atomicOld]

theorem serve_signal (hop : f.op = 5) (hcore : s.hasCore (bits f.hdr 32 8) = true) (e : Ecc) : s.serve f e =
    ⟨some 0, [], s.addFlag (bits f.hdr 32 8) (bits f.hdr 24 8) 1 (s.ownSignal f (bits f.hdr 32 8))⟩ := by
  simp [State.serve, hop, State.serveSignal, hcore]

end

/-! ### Bytes that a WRITE leaves -/

theorem length_fitBytes (n : Nat) (bs : List Byte) : (fitBytes n bs).length = n := by
  induction n generalizing bs with
  | zero => rfl
  | succ n ih => cases bs <;> simp [fitBytes, ih]

theorem getD_fitBytes {n j : Nat} (hj : j < n) (bs : List Byte) : (fitBytes n bs).getD j 0 = bs.getD j 0 := by
  induction n generalizing j bs with
  | zero => omega
  | succ n ih =>
    cases j with
    | zero => cases bs <;> rfl
    | succ j =>
      have hj' : j < n := by omega
      cases bs with
      | nil => exact ih hj' []
      | cons b bs => exact ih hj' bs

/-- The bytes of region 0 are at their own offsets, and no copy of a DIMM takes them (R161, R173). -/
theorem memStore_of_region_zero (s : State) (off : Nat) (bs : List Byte) : s.memStore 0 off bs = s.memWrite 0 off bs := by
  have hplace : s.place 0 off = (0, off) := rfl
  have hcopy : s.copyPlace 0 off = none := by
    unfold State.copyPlace
    cases s.dimmCopy <;> rfl
  simp [State.memStore, State.store, hplace, hcopy]

theorem reply_agree (s : State) (q : Frame) (status : Nat) (data : List Byte) : Agree (1 <<< 258) s (s.reply q status data) :=
  State.reply_closed (Agree.closed s (by decide +kernel)) (Agree.refl _ s) q status data

theorem reply_mem8 (s : State) (q : Frame) (status : Nat) (data : List Byte) (space off : Nat) :
    (s.reply q status data).mem8 space off = s.mem8 space off := by
  unfold State.mem8
  rw [(reply_agree ..).mem (by decide +kernel)]

/-- The state after an answered WRITE of region 0. -/
def writeAnswered (s : State) (f : Frame) : State := (s.memWrite 0 f.off (fitBytes f.len f.payload)).reply f 0 []

theorem writeAnswered_mem8_same (s : State) (f : Frame) {j : Nat} (hj : j < f.len) :
    (writeAnswered s f).mem8 0 (f.off + j) = f.payload.getD j 0 := by
  have hkey : memKey 0 (f.off + j) = memKey 0 f.off + j := (Nat.add_assoc ..).symm
  rw [writeAnswered, reply_mem8, mem8_memWrite, length_fitBytes, hkey, if_pos (by omega), Nat.add_sub_cancel_left,
    getD_fitBytes hj]

theorem writeAnswered_mem8_other (s : State) (f : Frame) {space off : Nat}
    (h : memKey space off < memKey 0 f.off ∨ memKey 0 f.off + f.len ≤ memKey space off) :
    (writeAnswered s f).mem8 space off = s.mem8 space off := by
  rw [writeAnswered, reply_mem8, mem8_memWrite, length_fitBytes, if_neg (by omega)]

theorem writeAnswered_objs (s : State) (f : Frame) : (writeAnswered s f).objs = s.objs :=
  (reply_agree ..).objs fun c => Foot.none_of_no_objects (by decide +kernel) c

/-! ### The obligation -/

/-- Settles O17: each request is answered with what serving it comes to (`requestIn_of_served`); a WRITE of region 0 leaves its
bytes (`writeAnswered_mem8_same`) and no others (`writeAnswered_mem8_other`). -/
theorem unorderedRequestsAreServed : Obligations.UnorderedRequestsAreServed := by
  unfold Obligations.UnorderedRequestsAreServed
  refine ⟨fun s f hordered hwait => ⟨fun htakes hmapped hregion hcrosses hguard => ?_,
    fun htakes hmapped hregion hcrosses hguard => ?_, fun htakes hmapped hregion hatomic haligned hguard => ?_,
    fun htakes hcore => ?_, fun htakes e => ?_, fun p hp htakes => ?_⟩,
    fun s f hordered hwait htakes hregion hmapped hcrosses hguard => ?_⟩
  · exact congrArg Host.Outcome.next (requestIn_of_served htakes hordered hwait (by decide)
      (serve_read (op_of_takesRequest htakes) hregion hmapped hcrosses hguard))
  · exact congrArg Host.Outcome.next (requestIn_of_served htakes hordered hwait (by decide)
      (serve_write (op_of_takesRequest htakes) hregion hmapped hcrosses hguard))
  · exact congrArg Host.Outcome.next (requestIn_of_served htakes hordered hwait (by decide)
      (serve_atomic (op_of_takesRequest htakes) hregion hmapped hatomic haligned hguard))
  · have hnext := requestIn_of_served htakes hordered hwait (by decide) (serve_signal (op_of_takesRequest htakes) hcore .clean)
    refine ⟨congrArg Host.Outcome.next hnext, _, congrArg Host.Outcome.next hnext, ?_⟩
    rw [(reply_agree ..).flag (by decide +kernel), flag_addFlag_same]
  · exact congrArg Host.Outcome.next (requestIn_of_pdelta htakes hordered hwait e)
  · rcases List.mem_pair.mp hp with rfl | rfl
    · exact congrArg Host.Outcome.next (requestIn_of_empty htakes hordered hwait (.inl rfl) .clean)
    · exact congrArg Host.Outcome.next (requestIn_of_empty htakes hordered hwait (.inr rfl) .clean)
  · have hnotWindow : f.region ≠ 3 := by omega
    have hnext := requestIn_of_served htakes hordered hwait (by decide)
      (serve_write (op_of_takesRequest htakes) hnotWindow (hregion ▸ hmapped) hcrosses (hregion ▸ hguard))
    rw [hregion, memStore_of_region_zero] at hnext
    exact ⟨writeAnswered s f, congrArg Host.Outcome.next hnext, fun j hj => writeAnswered_mem8_same s f hj,
      fun space off h => writeAnswered_mem8_other s f h, writeAnswered_objs s f⟩

end Sys2Proof.Laws
end

section
/-! PROOFS. Ordered requests of the global memory in their turn (O18). -/

namespace Sys2Proof.Laws

set_option Elab.async false

open Sys2Proof.Machine

/-! ### Requests in their turn -/

/-- What serving an ordered request comes to: it is finished with its status, or nothing more is done where it has none (R207). -/
def servedInTurn (s : State) (f : Frame) (e : Ecc) : State :=
  match (s.serve f e).status with
  | some st => (s.serve f e).state.finishOrdered f st (s.serve f e).data
  | none => (s.serve f e).state

/-- At its own context, of its own generation and with the sequence number expected, a request is served (R194). -/
theorem ordered_of_inTurn {s : State} {f : Frame} (hturn : InTurn s f) (e : Ecc) :
    s.ordered f e = (false, servedInTurn s f e) := by
  obtain ⟨hordered, hstore, hparked, hbound, hsource, hgen, hseq, hwait, hguard⟩ := hturn
  have hbit : (s.rd Obj.dstStreams f.stream).testBit 0 = true := by
    simpa [State.fld, bits_eq, Nat.testBit_zero] using hbound
  have hsource' : bits (s.rd Obj.dstStreams f.stream) 16 16 = f.src := hsource
  have hgen' : bits (s.rd Obj.dstStreams f.stream) 64 8 = f.gen := hgen
  have hahead : bits 256 0 8 = 0 := by decide
  have hexpected : signed 4294967296 32 = 0 := by decide
  unfold State.ordered servedInTurn
  cases hstatus : (s.serve f e).status <;>
    simp [hbit, hsource', hgen', hahead, hseq, hexpected, hwait, hguard, hstatus]

theorem requestIn_of_inTurn {s : State} {f : Frame} {op : Nat} (htakes : TakesRequest s op f) (hread : op ≠ 1)
    (hturn : InTurn s f) (e : Ecc) : s.requestIn op f e = servedInTurn s f e := by
  have hlooked := ordered_of_inTurn hturn e
  obtain ⟨hordered, hstore, hparked, -⟩ := hturn
  obtain ⟨hid, hscratched, hop, hdest, hpower, hcompute, hclosed⟩ := htakes
  simp [State.requestIn, hid, hscratched, hop, hdest, hpower, hcompute, hclosed, hordered, hread, hstore, hparked, hlooked]

/-! ### What the end of a request leaves -/

/-- The context has kept the reply, and expects the next sequence number. -/
def replyKept (s : State) (f : Frame) (status : Nat) (data : List Byte) : State :=
  let d := s.dst f.stream
  let ring := (d.ring ++ [(f.seq, status, leCode data)]).drop (d.ring.length + 1 - 64)
  ((s.setDst f.stream { d with ring := ring, store := none }).wrFld Obj.dstStreams f.stream 32 32 (f.seq + 1)).reply f status data

theorem finishOrdered_eq (s : State) (f : Frame) (status : Nat) (data : List Byte) : s.finishOrdered f status data =
    if f.op = 4 ∧ f.release ∧ status = 0 then (replyKept s f status data).unbind f.stream else replyKept s f status data := rfl

@[simp] theorem dst_setDst_same (s : State) (n : Nat) (d : DstSt) : (s.setDst n d).dst n = d := get_set_same ..

theorem dst_of_dstSts {s t : State} (h : t.dstSts = s.dstSts) (n : Nat) : t.dst n = s.dst n := by
  unfold State.dst
  rw [h]

@[simp] theorem wrFld_dst (s : State) (c : ObjCode) (i lo w v n : Nat) : (s.wrFld c i lo w v).dst n = s.dst n := rfl

theorem replyKept_seq (s : State) (f : Frame) (status : Nat) (data : List Byte) :
    (replyKept s f status data).fld Obj.dstStreams f.stream 32 32 = (f.seq + 1) % 2 ^ 32 := by
  unfold replyKept
  rw [(reply_agree ..).fld (by decide +kernel)]
  exact State.fld_wrFld_same _ Obj.dstStreams f.stream 32 32 (f.seq + 1) rfl

theorem replyKept_dst (s : State) (f : Frame) (status : Nat) (data : List Byte) : (replyKept s f status data).dst f.stream =
    { s.dst f.stream with
      ring := ((s.dst f.stream).ring ++ [(f.seq, status, leCode data)]).drop ((s.dst f.stream).ring.length + 1 - 64)
      store := none } := by
  unfold replyKept
  rw [dst_of_dstSts ((reply_agree ..).dstSts (by decide +kernel)), wrFld_dst, dst_setDst_same]

/-- The last entry of the ring is the reply that was sent. -/
theorem replyKept_ring (s : State) (f : Frame) (status : Nat) (data : List Byte) :
    ((replyKept s f status data).dst f.stream).ring.getLast? = some (f.seq, status, leCode data) := by
  rw [replyKept_dst, List.getLast?_drop, if_neg, List.getLast?_concat]
  simp only [List.length_append, List.length_singleton]
  omega

theorem unbind_rd (s : State) (n : Nat) : (s.unbind n).rd Obj.dstStreams n = 0 := State.rd_wr_same s Obj.dstStreams n 0 rfl

/-! ### FENCE and PCLOSE -/

theorem servedInTurn_fence {s : State} {f : Frame} (hop : f.op = 4) (e : Ecc) :
    servedInTurn s f e = s.finishOrdered f 0 [] := by
  simp [servedInTurn, State.serve, hop]

/-- The deltas of a context that a PCLOSE does not mean. -/
def otherDeltas (s : State) (f : Frame) : List DeltaEntry :=
  (s.dst f.stream).log.filter fun x =>
    !(x.wid == f.opnd && (match s.guardAt f.region f.off with | some i => x.desc == i | none => true))

theorem mem_otherDeltas {s : State} {f : Frame} {x : DeltaEntry} (hx : x ∈ otherDeltas s f) (hwid : x.wid = f.opnd) :
    ∃ i, s.guardAt f.region f.off = some i ∧ x.desc ≠ i := by
  obtain ⟨-, hother⟩ := List.mem_filter.mp hx
  cases hguard : s.guardAt f.region f.off with
  | none => simp [hguard, hwid] at hother
  | some i => exact ⟨i, rfl, by simpa [hguard, hwid] using hother⟩

theorem servedInTurn_pclose {s : State} {f : Frame} (hop : f.op = 7) (e : Ecc) : servedInTurn s f e =
    replyKept ((s.setDst f.stream { s.dst f.stream with log := otherDeltas s f }).wrFld Obj.dstStreams f.stream 72 5
      (otherDeltas s f).length) f 0 [] := by
  have hserve : s.serve f e = ⟨some 0, [], (s.setDst f.stream { s.dst f.stream with log := otherDeltas s f }).wrFld
      Obj.dstStreams f.stream 72 5 (otherDeltas s f).length⟩ := by
    simp only [State.serve, hop]
    rfl
  simp only [servedInTurn, hserve]
  rw [finishOrdered_eq, if_neg (by omega)]

/-! ### The obligation -/

/-- Settles O18: a request in its turn is served and finished (`requestIn_of_inTurn`), and what its end leaves is that of its
kept reply (`replyKept_seq`, `replyKept_ring`) or of the freed context (`unbind_rd`). -/
theorem orderedRequestsAreServedInTurn : Obligations.OrderedRequestsAreServedInTurn := by
  unfold Obligations.OrderedRequestsAreServedInTurn
  refine ⟨fun s f e hturn p hp htakes => ?_, fun s f hturn =>
    ⟨fun htakes hkept => ?_, fun htakes hrelease => ?_, fun htakes => ?_⟩⟩
  · simp only [List.mem_cons, List.not_mem_nil, or_false] at hp
    rcases hp with rfl | rfl | rfl | rfl | rfl | rfl <;>
      exact congrArg Host.Outcome.next (requestIn_of_inTurn htakes (by simp) hturn _)
  · refine ⟨_, congrArg Host.Outcome.next (requestIn_of_inTurn htakes (by decide) hturn .clean), ?_⟩
    rw [servedInTurn_fence (op_of_takesRequest htakes), finishOrdered_eq, if_neg (by simp [hkept])]
    exact ⟨replyKept_seq .., replyKept_ring ..⟩
  · refine ⟨_, congrArg Host.Outcome.next (requestIn_of_inTurn htakes (by decide) hturn .clean), ?_⟩
    rw [servedInTurn_fence (op_of_takesRequest htakes), finishOrdered_eq,
      if_pos ⟨op_of_takesRequest htakes, hrelease, rfl⟩]
    exact unbind_rd ..
  · refine ⟨_, congrArg Host.Outcome.next (requestIn_of_inTurn htakes (by decide) hturn .clean), ?_⟩
    rw [servedInTurn_pclose (op_of_takesRequest htakes)]
    refine ⟨replyKept_seq .., fun x hx hwid => ?_⟩
    rw [replyKept_dst] at hx
    exact mem_otherDeltas (by simpa using hx) hwid

end Sys2Proof.Laws
end

section
/-! PROOFS. Guard groups: activation, the end of quiescence, rebuilding, and the end of a store (O20). -/

namespace Sys2Proof.Laws

set_option Elab.async false

open Sys2Proof.Machine

/-! ### Activation and deactivation -/

section

variable {s : State} {entry : Nat} (hentry : entry < 64) (hcompute : s.hasCompute = true)
include hentry hcompute

/-- A group that is out of use, or void, becomes active where its descriptor passes the checks (R217). -/
theorem guardActivate_next (hstate : s.rd Obj.guardState entry = 0 ∨ s.rd Obj.guardState entry = 4)
    (hdesc : s.guardDescOk entry = true) : exec (.guardActivate entry) s =
      .next ((((s.wr Obj.guardState entry 1).setGuard entry GuardSt.init).guardTake.guardSync entry).wr Obj.guardCmd 0 1) := by
  have hunused : ¬ (s.rd Obj.guardState entry ≠ 0 ∧ s.rd Obj.guardState entry ≠ 4) := by omega
  simp [exec, execGuardActivate, hcompute, Nat.not_le.mpr hentry, hunused, hdesc]

theorem guardActivate_of_used (hfree : s.rd Obj.guardState entry ≠ 0) (hvoid : s.rd Obj.guardState entry ≠ 4) :
    exec (.guardActivate entry) s = .next (s.wr Obj.guardCmd 0 3) := by
  simp [exec, execGuardActivate, hcompute, Nat.not_le.mpr hentry, hfree, hvoid]

theorem guardDeactivate_next (hstate : s.rd Obj.guardState entry = 1) (hopen : s.openDelta entry = false) :
    exec (.guardDeactivate entry) s =
      .next (((s.wr Obj.guardState entry 0).setGuard entry GuardSt.init).guardRelease.wr Obj.guardCmd 0 1) := by
  simp [exec, execGuardDeactivate, hcompute, Nat.not_le.mpr hentry, hstate, hopen]

end

/-! ### Quiescence and rebuilding -/

section

variable {s : State} {entry : Nat} (hentry : entry < 64) (hscratched : s.scratched = false)
include hentry hscratched

theorem guardQuiet_next (hstate : s.rd Obj.guardState entry = 2) (hvacant : (s.guard entry).vacant = false)
    (hquiet : s.memberQuiet entry = true) : exec (.guardQuiet entry) s =
      .next ((((s.wr Obj.guardState entry 3).rollForward entry).startStores entry).releaseWaiting) := by
  simp [exec, execGuardQuiet, Nat.not_le.mpr hentry, hscratched, hstate, hvacant, hquiet]

/-- A stripe that is still to be rebuilt here is, from survivors that determine its data (R215, R332). -/
theorem stripeDemandRebuild_next {stripe : Nat} {symbols data : List (Nat × List Byte)}
    (hstate : s.rd Obj.guardState entry = 3) (hmissing : (s.guard entry).missing = true)
    (hdone : (s.guard entry).done.contains stripe = false) (hstripe : stripe < s.fld Obj.guardDesc entry 128 32)
    (hsurvivors : s.survivorsOk entry symbols = true) (hdata : decodeStripe (s.guardK entry) symbols = some data) :
    exec (.stripeDemandRebuild entry stripe symbols) s =
      .next ((((s.putSymbol entry stripe data).markStripe entry stripe).inc Obj.guardRebuild entry 0 32 1).releaseWaiting) := by
  have hwork : ¬ (64 ≤ entry || s.scratched || s.rd Obj.guardState entry != 3 || !(s.guard entry).missing
      || (s.guard entry).done.contains stripe || decide (s.fld Obj.guardDesc entry 128 32 ≤ stripe)
      || !s.survivorsOk entry symbols) = true := by
    simp only [hscratched, hstate, hmissing, hdone, hsurvivors, Nat.not_le.mpr hentry, Nat.not_le.mpr hstripe]
    decide
  simp only [exec, execStripeDemandRebuild, if_neg hwork, hdata]

end

/-! ### The end of a store -/

/-- What the end of a store sets going: the next store of its stripe, requests that waited, and what is to be sent (R211). -/
def storeEnded (g : GuardStore) (s : State) : State := (((s.nextStore g.desc g.stripe).releaseWaiting).pump).quietTold

/-- The store's data is written and its requester answered (R211 step 5). -/
def storeWritten (s : State) (g : GuardStore) : State :=
  (s.memStore g.frame.region g.frame.off (fitBytes g.frame.len g.frame.payload)).finishOrdered g.frame 0 []

/-- Two more closes of its group are on their way. -/
def storeClosing (s : State) (g : GuardStore) : State :=
  s.setGuard g.desc { s.guard g.desc with closes := (s.guard g.desc).closes + 2 }

/-- The PCLOSE of a store to both parity members (R211 step 6). -/
def storeCloses (s : State) (k : Nat) (g : GuardStore) : List GReq :=
  [s.guardReq g.desc k (.close g.desc) 7 g.wid [], s.guardReq g.desc (k + 1) (.close g.desc) 7 g.wid []]

section

variable {s : State} {ctx : Nat} {g : GuardStore} (hctx : ctx < 4096) (hscratched : s.scratched = false)
  (hstore : (s.dst ctx).store = some g) (hreplied : g.phase = 3)
include hctx hscratched hstore hreplied

theorem guardParityReplied_of_failed {st : Nat} (hfailed : g.failed = some st) :
    exec (.guardParityReplied ctx) s = .next (storeEnded g (s.finishOrdered g.frame st [])) := by
  simp [exec, execGuardParityReplied, Nat.not_le.mpr hctx, hscratched, hstore, hreplied, hfailed, storeEnded]

theorem guardParityReplied_of_ok (hfailed : g.failed = none) :
    let v := storeClosing (storeWritten s g) g
    exec (.guardParityReplied ctx) s = .next (storeEnded g (v.enqueue (storeCloses v (s.guardK g.desc) g))) := by
  simp [exec, execGuardParityReplied, Nat.not_le.mpr hctx, hscratched, hstore, hreplied, hfailed, storeEnded, storeClosing,
    storeWritten, storeCloses]

end

/-! ### The obligation -/

/-- Settles O20: each command is as its equation says. -/
theorem guardCommandsTakeEffect : Obligations.GuardCommandsTakeEffect := by
  unfold Obligations.GuardCommandsTakeEffect
  exact fun s entry hentry => ⟨guardActivate_next hentry, guardActivate_of_used hentry, guardDeactivate_next hentry,
    guardQuiet_next hentry, fun stripe symbols data hscratched => stripeDemandRebuild_next hentry hscratched,
    fun ctx g hctx hscratched hstore hreplied =>
      ⟨fun st hfailed => guardParityReplied_of_failed hctx hscratched hstore hreplied hfailed,
        guardParityReplied_of_ok hctx hscratched hstore hreplied⟩⟩

end Sys2Proof.Laws
end

section
/-! PROOFS. The rules of a fabric port: what the moves of its state and of its training leave to read, and what sending
blocks leaves of it (R227, R238, R244). -/

namespace Sys2Proof.Laws

set_option Elab.async false

open Sys2Proof.Machine

/-! ### The state of a port -/

theorem port_of_ports {s t : State} (h : t.ports = s.ports) (p : Nat) : t.port p = s.port p := by
  unfold State.port
  rw [h]

@[simp] theorem port_wr (s : State) (c : ObjCode) (i v p : Nat) : (s.wr c i v).port p = s.port p :=
  port_of_ports (State.wr_ports ..) p

@[simp] theorem port_wrFld (s : State) (c : ObjCode) (i lo w v p : Nat) : (s.wrFld c i lo w v).port p = s.port p :=
  port_of_ports (State.wrFld_ports ..) p

theorem port_setPort_same (s : State) (p : Nat) (x : PortSt) : (s.setPort p x).port p = x := get_set_same ..

@[simp] theorem portState_setPortState_same (s : State) (p st : Nat) : (s.setPortState p st).portState p = st := by
  unfold State.setPortState
  split
  · assumption
  · exact (State.rd_wrFld_obj _ _ _ _ _ _ (by decide)).trans (State.rd_wr_same s Obj.portState p st rfl)

/-- A change of PORT_STATE leaves the link layer. -/
@[simp] theorem port_setPortState (s : State) (p st q : Nat) : (s.setPortState p st).port q = s.port q := by
  unfold State.setPortState
  split
  · rfl
  · rw [port_wrFld, port_wr]

/-- A change of PORT_STATE writes PORT_STATE and PORT_INFO (R244). -/
theorem rd_setPortState (s : State) (p st : Nat) {c : ObjCode} (hstate : c ≠ Obj.portState) (hinfo : c ≠ Obj.portInfo)
    (i : Nat) : (s.setPortState p st).rd c i = s.rd c i :=
  ite_sat (Q := fun u : State => u.rd c i = s.rd c i) rfl
    ((State.rd_wrFld_obj _ _ _ _ _ _ hinfo).trans (s.rd_wr_obj _ _ _ hstate))

/-- PORT_INFO shows the time of the change, and beside it what it showed (R244). -/
theorem portInfo_setPortState (s : State) (p st : Nat) {lo w : Nat} (h : lo + w ≤ 96 ∨ 160 ≤ lo) :
    (s.setPortState p st).fld Obj.portInfo p lo w = s.fld Obj.portInfo p lo w :=
  ite_sat (Q := fun u : State => u.fld Obj.portInfo p lo w = s.fld Obj.portInfo p lo w) rfl
    ((State.fld_wrFld_other (s.wr Obj.portState p st) Obj.portInfo p 96 64 _ lo w rfl h).trans
      (s.fld_wr_obj _ _ _ _ _ (by decide)))

/-! ### Sending blocks -/

/-- What sending writes: the record of what was sent, and the link layers. -/
def blocksFoot : Nat := 1 <<< 258 ||| 1 <<< 291

theorem Agree.rd_of_blocks {s t : State} (h : Agree blocksFoot s t) (c : ObjCode) (i : Nat) : t.rd c i = s.rd c i :=
  h.rd c i (Foot.none_of_no_objects (by decide) c)

theorem blocksFoot_closed (s : State) : Closed blocksFoot (Agree blocksFoot s) := Agree.closed s (by decide)

theorem sendInfo_agree (s : State) (p : Nat) (bytes : List Byte) : Agree blocksFoot s (s.sendInfo p bytes) :=
  State.sendInfo_closed (blocksFoot_closed s) (Agree.refl _ s) p bytes

theorem idleBlock_agree (s : State) (p : Nat) : Agree blocksFoot s (s.idleBlock p) :=
  State.idleBlock_closed (blocksFoot_closed s) (Agree.refl _ s) p

/-- What a link layer holds beside what sending a block changes: its open cipher group and what its last block said. -/
def notOfSending (x : PortSt) : PortSt := { x with openOut := [], groupOut := 0, shown := 0 }

theorem notOfSending_shown (x : PortSt) (n : Nat) : notOfSending { x with shown := n } = notOfSending x := rfl

theorem notOfSending_group (x : PortSt) (cells : List (List Byte)) (n : Nat) :
    notOfSending { x with openOut := cells, groupOut := n } = notOfSending x := rfl

theorem step_notOfSending (x : PortSt) : (notOfSending x).step = x.step := rfl

theorem attempt_notOfSending (x : PortSt) : (notOfSending x).attempt = x.attempt := rfl

/-- Link layers that differ by what sending changes are at the same step. -/
theorem step_of_notOfSending {x y : PortSt} (h : notOfSending x = notOfSending y) : x.step = y.step := by
  rw [← step_notOfSending, h, step_notOfSending]

theorem attempt_of_notOfSending {x y : PortSt} (h : notOfSending x = notOfSending y) : x.attempt = y.attempt := by
  rw [← attempt_notOfSending, h, attempt_notOfSending]

theorem port_sendBlock (s : State) (p type cls seq info : Nat) (echo : Bool) (body : List Byte) :
    (s.sendBlock p type cls seq info echo body).port p = { s.port p with shown := s.linkCode p } := port_setPort_same ..

theorem notOfSending_sendBlock (s : State) (p type cls seq info : Nat) (echo : Bool) (body : List Byte) :
    notOfSending ((s.sendBlock p type cls seq info echo body).port p) = notOfSending (s.port p) := by
  rw [port_sendBlock, notOfSending_shown]

theorem notOfSending_sendInfo (s : State) (p : Nat) (bytes : List Byte) :
    notOfSending ((s.sendInfo p bytes).port p) = notOfSending (s.port p) :=
  foldUp_sat (Q := fun u : State => notOfSending (u.port p) = notOfSending (s.port p)) rfl
    fun _ u hu => (notOfSending_sendBlock u ..).trans hu

theorem notOfSending_closeGroup (s : State) (p : Nat) :
    notOfSending ((s.closeGroup p).port p) = notOfSending (s.port p) := by
  unfold State.closeGroup
  extract_lets
  split
  · rfl
  · rw [notOfSending_sendBlock, port_setPort_same, notOfSending_group]

theorem notOfSending_idleBlock (s : State) (p : Nat) :
    notOfSending ((s.idleBlock p).port p) = notOfSending (s.port p) := by
  unfold State.idleBlock
  extract_lets t
  split
  · rfl
  · split
    · exact notOfSending_closeGroup s p
    · exact (notOfSending_sendBlock t ..).trans (notOfSending_closeGroup s p)

/-! ### Moves of the training -/

/-- A port whose link layer an attempt has made anew (R230, R238). -/
def linkRenewed (s : State) (p : Nat) : State :=
  s.setPort p { (s.port p).fresh with step := 2, attempt := s.now, stepAt := s.now }

theorem trainStart_eq (s : State) (p : Nat) : s.trainStart p =
    ((linkRenewed s p).setPortState p portTraining).sendInfo p ((linkRenewed s p).trainData p) := rfl

/-- An attempt begins in TRAINING at step 2 (R238). -/
theorem trainStart_reads (s : State) (p : Nat) : (s.trainStart p).portState p = 1 ∧ ((s.trainStart p).port p).step = 2 ∧
    ((s.trainStart p).port p).attempt = s.now := by
  have hlink : notOfSending ((s.trainStart p).port p) = notOfSending ((linkRenewed s p).port p) := by
    rw [trainStart_eq, notOfSending_sendInfo, port_setPortState]
  have hbegun := port_setPort_same s p { (s.port p).fresh with step := 2, attempt := s.now, stepAt := s.now }
  refine ⟨?_, (step_of_notOfSending hlink).trans (congrArg PortSt.step hbegun),
    (attempt_of_notOfSending hlink).trans (congrArg PortSt.attempt hbegun)⟩
  rw [trainStart_eq]
  exact ((sendInfo_agree ..).rd_of_blocks ..).trans (portState_setPortState_same ..)

/-- A port whose failed attempt and its reason are recorded (R238, R245). -/
def failureRecorded (s : State) (p reason : Nat) : State :=
  (s.setPort p { s.port p with step := 1, loops := [] }).wrFld Obj.portInfo p 88 8 reason

theorem trainFail_eq (s : State) (p reason : Nat) : s.trainFail p reason =
    (failureRecorded s p reason).setPortState p (if reason = causeHeadroom then portHeld else portDown) := rfl

theorem port_failureRecorded (s : State) (p reason : Nat) :
    (failureRecorded s p reason).port p = { s.port p with step := 1, loops := [] } := by
  rw [failureRecorded, port_wrFld, port_setPort_same]

theorem reason_failureRecorded (s : State) (p reason : Nat) :
    (failureRecorded s p reason).fld Obj.portInfo p 88 8 = reason % 2 ^ 8 := State.fld_wrFld_same _ _ _ _ _ _ rfl

/-- A failed attempt ends DOWN with its reason in PORT_INFO, or DOWN_HELD after HEADROOM (R238, R245). -/
theorem trainFail_reads (s : State) (p : Nat) {reason : Nat} (h : reason < 256) :
    (s.trainFail p reason).portState p = (if reason = causeHeadroom then 4 else 3) ∧
      ((s.trainFail p reason).port p).step = 1 ∧ (s.trainFail p reason).fld Obj.portInfo p 88 8 = reason := by
  rw [trainFail_eq, portState_setPortState_same, port_setPortState, port_failureRecorded,
    portInfo_setPortState _ _ _ (.inl (by decide)), reason_failureRecorded]
  exact ⟨rfl, rfl, Nat.mod_eq_of_lt h⟩

theorem rd_trainFail (s : State) (p reason : Nat) {c : ObjCode} (hstate : c ≠ Obj.portState) (hinfo : c ≠ Obj.portInfo)
    (i : Nat) : (s.trainFail p reason).rd c i = s.rd c i := by
  rw [trainFail_eq, rd_setPortState _ _ _ hstate hinfo]
  exact State.rd_wrFld_obj _ _ _ _ _ _ hinfo

/-- Training goes on to a step, from now (R238). -/
theorem trainStep_reads (s : State) (p k : Nat) : (s.trainStep p k).portState p = s.portState p ∧
    ((s.trainStep p k).port p).step = k ∧ ((s.trainStep p k).port p).stepAt = s.now :=
  ⟨rfl, congrArg PortSt.step (port_setPort_same ..), congrArg PortSt.stepAt (port_setPort_same ..)⟩

end Sys2Proof.Laws
end

section
/-! PROOFS. Fabric ports train step by step and obey their commands (O21). -/

namespace Sys2Proof.Laws

set_option Elab.async false

open Sys2Proof.Machine

/-! ### The training -/

/-- What the key agreement derives its keys from (R514). -/
def cipherMaterial (s : State) (cert point : Nat) : List Nat := [s.ident.deviceSecret, cert, point]

/-- The owner key's digest that a peer has to show (R514). -/
def ownerDigest (s : State) : Nat := if s.ownerKey = 0 then 0 else Config.sm3 (leBytes 64 s.ownerKey)

/-- A port whose cipher is keyed (R514). -/
def cipherKeyed (s : State) (p : Nat) (material : List Nat) : State :=
  s.setPort p { s.port p with keyed := true, keyOut := Config.kdf 21 material, keyIn := Config.kdf 22 material, groupOut := 0 }

section

variable {s : State} {p : Nat} (hp : p < 64) (hscratched : s.scratched = false)
include hp

theorem trainingStart_next (hstate : s.portState p = 3) (hstep : (s.port p).step = 0) (hmay : s.mayTrain p = true) :
    exec (.trainingStart p) s = .next (s.trainStart p) := by
  simp [exec, execTrainingStart, Nat.not_le.mpr hp, hstate, hstep, hmay, portDown]

include hscratched

theorem trainingRetry_next (hstate : s.portState p = 3) (hstep : (s.port p).step = 1) (hmode : s.portMode p = 1)
    (hcheck : (s.port p).checking = false) (hdue : (s.port p).attempt + 100000000 ≤ s.now) :
    exec (.trainingRetry p) s = .next (s.trainStart p) := by
  simp [exec, execTrainingRetry, Nat.not_le.mpr hp, hscratched, hstate, hstep, hmode, hcheck, hdue, portDown]

theorem lightReturns_next (hstate : s.portState p = 8) (hmode : s.portMode p = 1) :
    exec (.lightReturns p) s = .next (s.trainStart p) := by
  simp [exec, execLightReturns, Nat.not_le.mpr hp, hscratched, hstate, hmode, portPeerRest]

section

variable (htraining : s.portState p = 1)
include htraining

/-! The lock window (R238 step 2). -/

theorem lockWindow_of_locked (hstep : (s.port p).step = 2) (other : Bool) (errors : Nat) :
    exec (.trainingCheckExpiry p 0xFF 0xFF other errors) s = .next (s.trainStep p 3) := by
  simp [exec, execTrainingCheckExpiry, Nat.not_le.mpr hp, hscratched, htraining, hstep, portTraining]

theorem lockWindow_of_over (hstep : (s.port p).step = 2) (hover : (s.port p).stepAt + 5000000 ≤ s.now) {light lock : Nat}
    (hlost : light ≠ 0xFF ∨ lock ≠ 0xFF) (other : Bool) (errors : Nat) :
    exec (.trainingCheckExpiry p light lock other errors) s =
      .next (s.trainFail p (if light = 0xFF then causeLaneLock else causeLos)) := by
  have hunlocked : ¬ (light = 0xFF ∧ lock = 0xFF) := by omega
  simp only [exec, execTrainingCheckExpiry]
  rw [if_neg (by omega), if_neg (by simp [htraining, hscratched, portTraining]), if_pos hstep, if_neg hunlocked,
    if_neg (by omega)]

/-- The measurement of the FEC ends with one of its two failures, or training goes on (R238 step 3). -/
theorem measurement_over (hstep : (s.port p).step = 3) (hover : (s.port p).stepAt + 5000000 ≤ s.now) (light lock : Nat)
    (other : Bool) (errors : Nat) : exec (.trainingCheckExpiry p light lock other errors) s =
      .next (if other then s.trainFail p causeFecMismatch
        else if s.fecAbove p errors (5 * symbolsPerMs) then s.trainFail p causeFecRate else s.trainStep p 4) := by
  simp only [exec, execTrainingCheckExpiry]
  rw [if_neg (by omega), if_neg (by simp [htraining, hscratched, portTraining]), if_neg (by omega), if_pos hstep,
    if_neg (by omega)]
  simp only [apply_ite Host.Outcome.next]

/-- The certificate, the owner and the confirmation are checked in this order, and the port is keyed (R514). -/
theorem cipherKeyAgreed_next (hstep : (s.port p).step = 7) (cert owner point confirm : Nat) :
    exec (.cipherKeyAgreed p cert owner point confirm) s = .next
      (if Config.certChain s.ident.caCert cert = false then s.cipherFail p 2
        else if owner ≠ ownerDigest s then s.cipherFail p 3
        else
          let u := s.sendInfo p (leBytes 32 (Config.kdf 23 (cipherMaterial s cert point) % 2 ^ 256))
          if confirm ≠ Config.kdf 20 (cipherMaterial s cert point) then u.cipherFail p 4
          else (cipherKeyed u p (cipherMaterial s cert point)).trainLoops p) := by
  simp only [exec, execCipherKeyAgreed]
  rw [if_neg (by omega), if_neg (by simp [htraining, hstep, hscratched, portTraining])]
  simp only [Bool.not_eq_true', apply_ite Host.Outcome.next]
  rfl

end

end

/-! ### UP -/

/-- PORT_INFO of a port that comes UP: FEC and cipher as configured, the LOOP basis and H (R238, R244). -/
def upInfo (s : State) (p basis : Nat) : Nat :=
  setBits (setBits (setBits (setBits (s.rd Obj.portInfo p) 24 1 (bits (s.rd Obj.portConfig p) 2 1)) 25 1
    (bits (s.rd Obj.portConfig p) 3 1)) 32 32 basis) 64 16 (headroom basis)

/-- The cells of headroom in use with those of a port (R235). -/
def headroomWith (s : State) (basis : Nat) : Nat := s.rd Obj.headroomUsed 0 + 5 * headroom basis

/-- The objects of a port that comes UP, before its state is UP (R238 step 6). -/
def upRecorded (s : State) (p basis : Nat) : State :=
  ((s.wr Obj.portInfo p (upInfo s p basis)).wr Obj.headroomUsed 0 (headroomWith s basis)).wrFld Obj.cipherStatus p 0 1
    (bits (s.rd Obj.portConfig p) 3 1)

/-- A port whose state is UP, and whose training is over (R238 step 6). -/
def upEntered (s : State) (p basis : Nat) : State :=
  ((upRecorded s p basis).setPort p { (upRecorded s p basis).port p with
    step := 0, probe := (upRecorded s p basis).now }).setPortState p portUp

/-- A port that has come UP, and sends its first blocks (R238 step 6). -/
def cameUp (s : State) (p basis : Nat) : State := (upEntered s p basis).idleBlock p

theorem portUp_next {s : State} {p : Nat} (hp : p < 64) (hscratched : s.scratched = false)
    (htraining : s.portState p = 1) (hstep : (s.port p).step = 6) {basis : Nat}
    (hbasis : (s.port p).loops.foldl max 0 = basis) : exec (.portUp p) s = .next
      (if s.rd Obj.headroomLimit 0 < headroomWith s basis then s.trainFail p causeHeadroom else cameUp s p basis) := by
  simp only [exec, execPortUp]
  rw [if_neg (by omega), if_neg (by simp [htraining, hstep, hscratched, portTraining]), hbasis]
  unfold headroomWith cameUp upEntered upRecorded upInfo headroomWith
  split
  · rfl
  · rfl

theorem portInfo_upRecorded (s : State) (p basis lo w : Nat) :
    (upRecorded s p basis).fld Obj.portInfo p lo w = bits (upInfo s p basis) lo w :=
  (State.fld_wrFld_obj _ _ _ _ _ _ _ _ (by decide)).trans ((State.fld_wr_obj _ _ _ _ _ _ (by decide)).trans
    (congrArg (bits · lo w) (State.rd_wr_same _ _ _ _ rfl)))

theorem headroomUsed_upRecorded (s : State) (p basis : Nat) :
    (upRecorded s p basis).rd Obj.headroomUsed 0 = headroomWith s basis :=
  (State.rd_wrFld_obj _ _ _ _ _ _ (by decide)).trans (State.rd_wr_same _ _ _ _ rfl)

theorem portInfo_upEntered (s : State) (p basis : Nat) {lo w : Nat} (h : lo + w ≤ 96 ∨ 160 ≤ lo) :
    (upEntered s p basis).fld Obj.portInfo p lo w = bits (upInfo s p basis) lo w := by
  rw [upEntered, portInfo_setPortState _ _ _ h, State.setPort_fld, portInfo_upRecorded]

theorem rd_cameUp (s : State) (p basis : Nat) (c : ObjCode) (i : Nat) :
    (cameUp s p basis).rd c i = (upEntered s p basis).rd c i := (idleBlock_agree _ p).rd_of_blocks c i

theorem fld_cameUp (s : State) (p basis : Nat) (c : ObjCode) (i lo w : Nat) :
    (cameUp s p basis).fld c i lo w = (upEntered s p basis).fld c i lo w :=
  congrArg (bits · lo w) (rd_cameUp s p basis c i)

theorem cameUp_reads (s : State) (p basis : Nat) : (cameUp s p basis).portState p = 2 ∧
    (cameUp s p basis).loopBasis p = basis % 2 ^ 32 ∧ (cameUp s p basis).portH p = headroom basis % 2 ^ 16 ∧
    (cameUp s p basis).rd Obj.headroomUsed 0 = headroomWith s basis ∧ ((cameUp s p basis).port p).step = 0 := by
  refine ⟨?_, ?_, ?_, ?_, ?_⟩
  · exact (rd_cameUp s p basis Obj.portState p).trans (portState_setPortState_same ..)
  · rw [State.loopBasis, fld_cameUp, portInfo_upEntered _ _ _ (.inl (by decide)), upInfo,
      bits_setBits_other _ _ _ _ _ _ (.inl (by decide)), bits_setBits_same]
  · rw [State.portH, fld_cameUp, portInfo_upEntered _ _ _ (.inl (by decide)), upInfo, bits_setBits_same]
  · rw [rd_cameUp, upEntered, rd_setPortState _ _ _ (by decide) (by decide), State.setPort_rd, headroomUsed_upRecorded]
  · rw [cameUp, step_of_notOfSending (notOfSending_idleBlock _ p), upEntered, port_setPortState, port_setPort_same]

/-! ### The commands -/

/-- A link layer whose training is forgotten: its next attempt is a first one (R238). -/
def attemptsForgotten (x : PortSt) : PortSt := { x with step := 0 }

theorem step_attemptsForgotten (x : PortSt) : (attemptsForgotten x).step = 0 := rfl

theorem downs_attemptsForgotten (x : PortSt) : (attemptsForgotten x).downs = x.downs := rfl

/-- A port let go to a state, its attempts forgotten, and its command accepted (R244). -/
def portLetGo (s : State) (p st : Nat) (x : PortSt) : State := ((s.setPort p x).setPortState p st).portCmd 1

theorem portLetGo_reads (s : State) (p st : Nat) (x : PortSt) : (portLetGo s p st x).portState p = st ∧
    (portLetGo s p st x).rd Obj.portCmd 0 = 1 ∧ (portLetGo s p st x).port p = x :=
  ⟨(State.rd_wr_obj _ _ _ _ (by decide)).trans (portState_setPortState_same ..), State.rd_wr_same _ _ _ _ rfl,
    (port_setPortState ..).trans (port_setPort_same ..)⟩

section

variable {s : State} {p : Nat} (hp : p < 64)
include hp

theorem portCommands_of_scratched (hscratched : s.scratched = true) {c : Instr}
    (hc : c ∈ [Instr.portEnable p, .portDisable p, .retrain p, .portSelftest p]) : exec c s = .next (s.portCmd 3) := by
  fin_cases hc <;> simp [exec, execPortEnable, execPortDisable, execRetrain, execPortSelftest, Nat.not_le.mpr hp, hscratched]

variable (hscratched : s.scratched = false)
include hscratched

theorem portEnable_next (hstate : s.portState p = 0 ∨ s.portState p = 4) (hmode : s.portMode p ≠ 0) :
    exec (.portEnable p) s = .next (portLetGo s p (if s.portMode p = 1 then 3 else 6) (attemptsForgotten (s.port p))) := by
  simp only [exec, execPortEnable]
  rw [if_neg (by omega), if_neg (by simp [hscratched]), if_pos ⟨hstate, hmode⟩]
  rfl

theorem portEnable_of_used (hdisabled : s.portState p ≠ 0) (hheld : s.portState p ≠ 4) :
    exec (.portEnable p) s = .next (s.portCmd 2) := by
  simp [exec, execPortEnable, Nat.not_le.mpr hp, hscratched, hdisabled, hheld, portDisabled, portHeld]

theorem portDisable_next (hstate : s.portState p ≠ 0) : exec (.portDisable p) s =
    .next (portLetGo (s.leaveUp p causeCommand 0) p 0
      { (s.leaveUp p causeCommand 0).port p with step := 0, fenced := false }) := by
  simp only [exec, execPortDisable]
  rw [if_neg (by omega), if_neg (by simp [hscratched]), if_neg (by simpa [portDisabled] using hstate)]
  rfl

theorem portDisable_of_disabled (hstate : s.portState p = 0) : exec (.portDisable p) s = .next (s.portCmd 2) := by
  simp [exec, execPortDisable, Nat.not_le.mpr hp, hscratched, hstate, portDisabled]

theorem retrain_next (hmode : s.portMode p = 1) (hstate : s.portState p ∈ [1, 2, 3, 4, 8]) : exec (.retrain p) s =
    .next (portLetGo (s.leaveUp p causeCommand 3) p 3 (attemptsForgotten ((s.leaveUp p causeCommand 3).port p))) := by
  have hallowed : ¬ (s.portMode p ≠ 1 ∨ s.portState p = portDisabled ∨ s.portState p = portPeerScratched
      ∨ s.portState p = portSelfScratched ∨ s.portState p = portLoopback) := by
    simp only [List.mem_cons, List.not_mem_nil, or_false] at hstate
    simp only [portDisabled, portPeerScratched, portSelfScratched, portLoopback]
    omega
  simp only [exec, execRetrain]
  rw [if_neg (by omega), if_neg (by simp [hscratched]), if_neg hallowed]
  rfl

theorem portSelftest_next (htraining : s.portState p ≠ 1) (hup : s.portState p ≠ 2) (hcheck : (s.port p).checking = false) :
    exec (.portSelftest p) s = .next ((s.setPort p { s.port p with checking := true, judge := false }).portCmd 1) := by
  simp [exec, execPortSelftest, Nat.not_le.mpr hp, hscratched, htraining, hup, hcheck, portUp, portTraining]

end

/-! ### The obligation -/

section

variable {s : State} {p : Nat} (hp : p < 64) (hscratched : s.scratched = false)
include hp hscratched

/-- The lock window ends with a failure that names what a lane lacks (R238 step 2). -/
theorem lockWindow_fails (htraining : s.portState p = 1) (hstep : (s.port p).step = 2)
    (hover : (s.port p).stepAt + 5000000 ≤ s.now) (light lock : Nat) (other : Bool) (errors : Nat)
    (hlost : light ≠ 0xFF ∨ lock ≠ 0xFF) :
    ∃ t, exec (.trainingCheckExpiry p light lock other errors) s = .next t ∧ t.portState p = 3 ∧ (t.port p).step = 1 ∧
      t.fld Obj.portInfo p 88 8 = if light = 0xFF then 2 else 1 := by
  refine ⟨_, lockWindow_of_over hp hscratched htraining hstep hover hlost other errors, ?_⟩
  split
  · exact trainFail_reads s p (reason := causeLaneLock) (by decide)
  · exact trainFail_reads s p (reason := causeLos) (by decide)

theorem measurement_reads (htraining : s.portState p = 1) (hstep : (s.port p).step = 3)
    (hover : (s.port p).stepAt + 5000000 ≤ s.now) (light lock : Nat) (other : Bool) (errors : Nat) :
    ∃ t, exec (.trainingCheckExpiry p light lock other errors) s = .next t ∧
      (other = true → t.portState p = 3 ∧ t.fld Obj.portInfo p 88 8 = 0x0C) ∧
      (other = false → s.fecAbove p errors (5 * symbolsPerMs) = true → t.portState p = 3 ∧ t.fld Obj.portInfo p 88 8 = 4) ∧
      (other = false → s.fecAbove p errors (5 * symbolsPerMs) = false → t.portState p = 1 ∧ (t.port p).step = 4) := by
  refine ⟨_, measurement_over hp hscratched htraining hstep hover light lock other errors, ?_, ?_, ?_⟩
  · intro hother
    obtain ⟨hstate, -, hreason⟩ := trainFail_reads s p (reason := causeFecMismatch) (by decide)
    rw [if_pos hother]
    exact ⟨hstate, hreason⟩
  · intro hother habove
    obtain ⟨hstate, -, hreason⟩ := trainFail_reads s p (reason := causeFecRate) (by decide)
    rw [if_neg (by simp [hother]), if_pos habove]
    exact ⟨hstate, hreason⟩
  · intro hother hbelow
    obtain ⟨hstate, hnext, -⟩ := trainStep_reads s p 4
    rw [if_neg (by simp [hother]), if_neg (by simp [hbelow])]
    exact ⟨hstate.trans htraining, hnext⟩

/-- Within HEADROOM_LIMIT the port comes UP; above it, it is held (R235, R238). -/
theorem portUp_reads (htraining : s.portState p = 1) (hstep : (s.port p).step = 6) {basis : Nat}
    (hbasis : (s.port p).loops.foldl max 0 = basis) :
    (headroomWith s basis ≤ s.rd Obj.headroomLimit 0 → ∃ t, exec (.portUp p) s = .next t ∧ t.portState p = 2 ∧
      t.loopBasis p = basis % 2 ^ 32 ∧ t.portH p = headroom basis % 2 ^ 16 ∧
      t.rd Obj.headroomUsed 0 = headroomWith s basis ∧ (t.port p).step = 0) ∧
    (s.rd Obj.headroomLimit 0 < headroomWith s basis → ∃ t, exec (.portUp p) s = .next t ∧ t.portState p = 4 ∧
      t.fld Obj.portInfo p 88 8 = 0x0E ∧ t.rd Obj.headroomUsed 0 = s.rd Obj.headroomUsed 0) := by
  have hnext := portUp_next hp hscratched htraining hstep hbasis
  constructor
  · intro hfits
    rw [if_neg (Nat.not_lt.mpr hfits)] at hnext
    exact ⟨_, hnext, cameUp_reads s p basis⟩
  · intro habove
    rw [if_pos habove] at hnext
    obtain ⟨hstate, -, hreason⟩ := trainFail_reads s p (reason := causeHeadroom) (by decide)
    exact ⟨_, hnext, hstate, hreason, rd_trainFail s p causeHeadroom (by decide) (by decide) 0⟩

end

/-- Settles O21: each event of the training and each command is as its equation says, and the state that it leaves reads so. -/
theorem fabricPortsTrainAndObeyCommands : Obligations.FabricPortsTrainAndObeyCommands := by
  unfold Obligations.FabricPortsTrainAndObeyCommands
  refine ⟨fun s p hp hscratched => ⟨?_, ?_, ?_, ?_, ?_, ?_, ?_, ?_⟩, fun s p hp => ⟨?_, ?_, ?_, ?_, ?_, ?_, ?_⟩⟩
  · exact fun hstate hstep hmay => ⟨_, trainingStart_next hp hstate hstep hmay, trainStart_reads s p⟩
  · exact fun hstate hstep hmode hcheck hdue =>
      ⟨_, trainingRetry_next hp hscratched hstate hstep hmode hcheck hdue, trainStart_reads s p⟩
  · intro hstate hmode
    obtain ⟨htraining, hstep, -⟩ := trainStart_reads s p
    exact ⟨_, lightReturns_next hp hscratched hstate hmode, htraining, hstep⟩
  · intro htraining hstep other errors
    obtain ⟨hstate, hnext, hat⟩ := trainStep_reads s p 3
    exact ⟨_, lockWindow_of_locked hp hscratched htraining hstep other errors, hstate.trans htraining, hnext, hat⟩
  · exact lockWindow_fails hp hscratched
  · exact measurement_reads hp hscratched
  · exact cipherKeyAgreed_next hp hscratched
  · exact fun htraining hstep => portUp_reads hp hscratched htraining hstep rfl
  · exact fun hscratched c hc => portCommands_of_scratched hp hscratched hc
  · intro hscratched hstate hmode
    obtain ⟨hlet, hanswer, hlink⟩ := portLetGo_reads s p (if s.portMode p = 1 then 3 else 6) (attemptsForgotten (s.port p))
    exact ⟨_, portEnable_next hp hscratched hstate hmode, hlet, hanswer,
      (congrArg PortSt.downs hlink).trans (downs_attemptsForgotten _)⟩
  · exact fun hscratched => portEnable_of_used hp hscratched
  · intro hscratched hstate
    obtain ⟨hlet, hanswer, hlink⟩ := portLetGo_reads (s.leaveUp p causeCommand 0) p 0
      { (s.leaveUp p causeCommand 0).port p with step := 0, fenced := false }
    exact ⟨_, portDisable_next hp hscratched hstate, hlet, hanswer, congrArg PortSt.step hlink⟩
  · exact fun hscratched => portDisable_of_disabled hp hscratched
  · intro hscratched hmode hstate
    obtain ⟨hlet, hanswer, hlink⟩ := portLetGo_reads (s.leaveUp p causeCommand 3) p 3
      (attemptsForgotten ((s.leaveUp p causeCommand 3).port p))
    exact ⟨_, retrain_next hp hscratched hmode hstate, hlet, hanswer,
      (congrArg PortSt.step hlink).trans (step_attemptsForgotten _)⟩
  · intro hscratched htraining hup hcheck
    refine ⟨_, portSelftest_next hp hscratched htraining hup hcheck, ?_, State.rd_wr_same _ _ _ _ rfl⟩
    rw [State.portCmd, port_wr, port_setPort_same]

end Sys2Proof.Laws
end

section
/-! PROOFS. The events of the ports, and the laser sources (O22). -/

namespace Sys2Proof.Laws

set_option Elab.async false

open Sys2Proof.Machine

/-! ### Port events -/

/-- The lanes of a port as a second of its receiver ends: their received power and corrected symbols (R244). -/
def laneShown (p : Nat) (lanes : List (Nat × Nat)) (l : Nat) (s : State) : State :=
  s.wr Obj.laneStatus (8 * p + l) ((lanes.getD l (0, 0)).1 % 2 ^ 16 + (lanes.getD l (0, 0)).2 % 2 ^ 32 * 2 ^ 32)

/-- A port whose receiver's second has ended (R241, R244). -/
def secondEnded (s : State) (p : Nat) (lanes : List (Nat × Nat)) : State :=
  foldUp (laneShown p lanes) 0 8 (s.setPort p { s.port p with second := s.now })

theorem port_secondEnded (s : State) (p : Nat) (lanes : List (Nat × Nat)) :
    (secondEnded s p lanes).port p = { s.port p with second := s.now } :=
  foldUp_sat (Q := fun u : State => u.port p = { s.port p with second := s.now }) (port_setPort_same ..)
    fun _ u hu => (port_wr u ..).trans hu

/-- The lanes' status alone is written of the objects. -/
theorem rd_secondEnded (s : State) (p : Nat) (lanes : List (Nat × Nat)) {c : ObjCode} (h : c ≠ Obj.laneStatus) (i : Nat) :
    (secondEnded s p lanes).rd c i = s.rd c i :=
  foldUp_sat (Q := fun u : State => u.rd c i = s.rd c i) (s.setPort_rd ..) fun _ u hu => (u.rd_wr_obj _ _ _ h).trans hu

theorem fecAbove_secondEnded (s : State) (p : Nat) (lanes : List (Nat × Nat)) (errors symbols : Nat) :
    (secondEnded s p lanes).fecAbove p errors symbols = s.fecAbove p errors symbols := by
  simp only [State.fecAbove, rd_secondEnded s p lanes (c := Obj.portConfig) (by decide)]

theorem laneStatus_secondEnded (s : State) (p : Nat) {l : Nat} (hl : l < 8) (lanes : List (Nat × Nat)) :
    (secondEnded s p lanes).rd Obj.laneStatus (8 * p + l)
      = (lanes.getD l (0, 0)).1 % 2 ^ 16 + (lanes.getD l (0, 0)).2 % 2 ^ 32 * 2 ^ 32 :=
  foldUp_at (Q := fun _ => True) (R := fun u : State => u.rd Obj.laneStatus (8 * p + l)
      = (lanes.getD l (0, 0)).1 % 2 ^ 16 + (lanes.getD l (0, 0)).2 % 2 ^ 32 * 2 ^ 32)
    (fun u _ => u.rd_wr_same _ _ _ rfl) (fun _ _ _ _ => trivial)
    (fun _ u _ hj hu => (u.rd_wr_idx _ _ _ (by omega)).trans hu) (Nat.zero_le l) hl rfl trivial

theorem laneStatus_of_lane (s : State) (p : Nat) {l : Nat} (hl : l < 8) {lanes : List (Nat × Nat)} {x : Nat × Nat}
    (hx : lanes[l]? = some x) (hpower : x.1 < 2 ^ 16) (hcorrected : x.2 < 2 ^ 32) :
    (secondEnded s p lanes).fld Obj.laneStatus (8 * p + l) 0 16 = x.1 ∧
      (secondEnded s p lanes).fld Obj.laneStatus (8 * p + l) 32 32 = x.2 := by
  have hlane : lanes.getD l (0, 0) = x := by rw [List.getD_eq_getElem?_getD, hx, Option.getD_some]
  simp only [State.fld, laneStatus_secondEnded s p hl lanes, hlane, bits_eq]
  omega

/-- A port that has noted the time of its LOOP probe (R236). -/
def probeNoted (s : State) (p : Nat) : State := s.setPort p { s.port p with probe := s.now }

theorem probe_sendProbe (s : State) (p : Nat) : (((probeNoted s p).sendProbe p).port p).probe = s.now := by
  rw [State.sendProbe, port_sendBlock, probeNoted, port_setPort_same]

/-- What a probe adds to the record of what was sent. -/
theorem out_sendProbe (s : State) (p : Nat) : ∃ b, (s.sendProbe p).out = s.out ++ [.block p 3 b] := ⟨_, rfl⟩

theorem oeSelftest_next (s : State) {oe check : Nat} (hoe : oe < 8) (hcheck : check ∈ [1, 2, 3, 5, 6]) :
    exec (.oeSelftest oe check) s = .next (s.oeChecked oe check) := by
  fin_cases hcheck <;> simp [exec, execOeSelftest, Nat.not_le.mpr hoe]

section

variable {s : State} {p : Nat} (hp : p < 64)
include hp

theorem loopMeasure_next (hup : s.portState p = 2) (hdue : (s.port p).probe + 1000000000 ≤ s.now) :
    exec (.loopMeasure p) s = .next ((probeNoted s p).sendProbe p) := by
  simp [exec, execLoopMeasure, Nat.not_le.mpr hp, hup, hdue, portUp, probeNoted]

theorem linkReplayTimeout_next (hup : s.portState p = 2) {c : StoredCell} {rest : List StoredCell}
    (hstored : (s.port p).stored = c :: rest) (hdue : c.time + s.loopBasis p + 200 ≤ s.now) :
    exec (.linkReplayTimeout p) s = .next (s.startReplay p c.seq) := by
  simp [exec, execLinkReplayTimeout, Nat.not_le.mpr hp, hup, hstored, hdue, portUp]

/-- Check 4 fails the OE of its port, or a passed one reports what took the port down (R240, R241). -/
theorem selftestLoopbackDone_next (passed : Bool) (hcheck : (s.port p).checking = true) :
    exec (.selftestLoopbackDone p passed) s =
      let u := s.setPort p { s.port p with checking := false, judge := false }
      .next (if passed = false then u.oeFails (p / 8) 4 p
        else if (s.port p).judge then u.report 3 (u.portPeer p) 1 else u) := by
  simp only [exec, execSelftestLoopbackDone]
  rw [if_neg (by omega), if_neg (by simp [hcheck])]
  cases passed with
  | false => simp
  | true => simp

variable (hscratched : s.scratched = false)
include hscratched

theorem portLos_of_up (light : Bool) (hup : s.portState p = 2) :
    exec (.portLos p light) s = .next (s.leaveUp p (if light then 2 else 1) 3) := by
  simp [exec, execPortLos, Nat.not_le.mpr hp, hscratched, hup, portUp, portDown, causeLaneLock, causeLos]

theorem fecRate_next (lanes : List (Nat × Nat)) (errors : Nat) (hmode : s.portMode p ≠ 0)
    (hdue : (s.port p).second + 1000000000 ≤ s.now) : exec (.fecRate p lanes errors) s =
      .next (if s.fecAbove p errors (1000 * symbolsPerMs) then (secondEnded s p lanes).leaveUp p causeFecRate portDown
        else secondEnded s p lanes) := by
  rw [← fecAbove_secondEnded s p lanes]
  simp only [exec, execFecRate]
  rw [if_neg (by omega), if_neg (by simp [hscratched, hmode]; omega)]
  rfl

end

/-! ### Blocks received -/

/-- A port that has counted the symbols which its FEC corrected in a block, and its codewords which it could not (R225, R226). -/
def symbolsCounted (s : State) (p : Nat) (errors : List Nat) : State :=
  (s.portError p 0 (errors.filter fun n => decide (n ≤ s.fecCorrects p)).sum).portError p 1
    (errors.filter fun n => decide (s.fecCorrects p < n)).length

theorem rd_portError (s : State) (p k n : Nat) {c : ObjCode} (h : c ≠ Obj.portErrors) (i : Nat) :
    (s.portError p k n).rd c i = s.rd c i := by
  unfold State.portError State.inc
  extract_lets
  exact ite_sat (Q := fun u : State => u.rd c i = s.rd c i) (s.rd_wrFld_obj _ _ _ _ _ h) (s.rd_wrFld_obj _ _ _ _ _ h)

theorem cipherOn_symbolsCounted (s : State) (p : Nat) (errors : List Nat) :
    (symbolsCounted s p errors).cipherOn p = s.cipherOn p :=
  congrArg (Nat.testBit · 3) ((rd_portError _ _ _ _ (by decide) p).trans (rd_portError _ _ _ _ (by decide) p))

/-- A block is discarded whole where its LCRC fails or it is a TAG without a cipher, else acted on (R228, R230). -/
theorem linkBlockReceive_next {s : State} {p : Nat} (hp : p < 64) (hscratched : s.scratched = false) (block : List Byte)
    (errors : List Nat) (train : Option TrainData) (hmode : s.portMode p = 1) (hstate : s.portState p ∉ [0, 4, 6, 7]) :
    exec (.linkBlockReceive p block errors train) s =
      let u := symbolsCounted s p errors
      let body := sliceBytes block 0 256
      let tr := beCode (sliceBytes block 256 16)
      let type := bits tr 124 4
      let v := if bits tr 0 32 ≠ lcrc body tr ∨ (type = 4 ∧ s.cipherOn p = false) then u.badBlock p
        else (u.trailerIn p tr).blockByType p type tr body train
      .next (if v.portState p = 2 then (v.egressPump p).trackNote else v) := by
  simp only [List.mem_cons, List.not_mem_nil, or_false, not_or] at hstate
  obtain ⟨hdisabled, hheld, hloopback, hself⟩ := hstate
  simp only [exec, execLinkBlockReceive]
  rw [if_neg (by omega), if_neg (by simp [hmode]), if_neg (by simp [hscratched, hmode, hdisabled, hheld, hself,
    portDisabled, portHeld, portSelfScratched])]
  have hcipher := cipherOn_symbolsCounted s p errors
  unfold symbolsCounted at hcipher
  simp only [hcipher, Bool.not_eq_true', symbolsCounted]
  rfl

/-! ### The states of laser sources -/

theorem rd_withElsOn (s : State) (x : KMap (Option Nat)) (c : ObjCode) (i : Nat) :
    ({ s with elsOn := x } : State).rd c i = s.rd c i := rfl

theorem rd_withElsSince (s : State) (x : KMap Nat) (c : ObjCode) (i : Nat) :
    ({ s with elsSince := x } : State).rd c i = s.rd c i := rfl

theorem els_elsPower (s : State) (e q : Nat) (on : Bool) : (s.elsPower e on).els q = s.els q := by
  unfold State.elsPower State.els
  rw [rd_withElsOn, State.rd_wrFld_obj _ _ _ _ _ _ (by decide)]

/-- ELS_INFO beside its hours powered stands still. -/
theorem elsInfo_elsPower (s : State) (e : Nat) (on : Bool) :
    (s.elsPower e on).fld Obj.elsInfo e 0 192 = s.fld Obj.elsInfo e 0 192 := by
  unfold State.elsPower State.fld
  rw [rd_withElsOn]
  exact State.fld_wrFld_other s Obj.elsInfo e 192 32 _ 0 192 rfl (.inl (by decide))

/-- A source's state as it is written with its time, before its supply follows (R224). -/
def elsMoved (s : State) (e v : Nat) : State := { s.wr Obj.elsState e v with elsSince := KMap.set s.elsSince 0 e s.now }

theorem setEls_eq (s : State) (e v : Nat) : s.setEls e v = if v = elsStarting then (elsMoved s e v).elsPower e true
    else if v = elsFailed ∨ v = elsEmpty then (elsMoved s e v).elsPower e false else elsMoved s e v := rfl

theorem els_setEls (s : State) (e v q : Nat) : (s.setEls e v).els q = (s.wr Obj.elsState e v).els q := by
  have hmoved : (elsMoved s e v).els q = (s.wr Obj.elsState e v).els q := rd_withElsSince ..
  rw [setEls_eq]
  refine ite_sat (Q := fun u : State => u.els q = _) ?_ (ite_sat (Q := fun u : State => u.els q = _) ?_ hmoved)
  · exact (els_elsPower ..).trans hmoved
  · exact (els_elsPower ..).trans hmoved

@[simp] theorem els_setEls_same (s : State) (e v : Nat) : (s.setEls e v).els e = v :=
  (els_setEls s e v e).trans (State.rd_wr_same s Obj.elsState e v rfl)

theorem els_setEls_other (s : State) {e q : Nat} (v : Nat) (h : q % 2 ^ 32 ≠ e % 2 ^ 32) : (s.setEls e v).els q = s.els q :=
  (els_setEls s e v q).trans (State.rd_wr_idx s _ _ v h)

theorem elsInfo_setEls (s : State) (e v : Nat) :
    (s.setEls e v).fld Obj.elsInfo e 0 192 = s.fld Obj.elsInfo e 0 192 := by
  have hmoved : (elsMoved s e v).fld Obj.elsInfo e 0 192 = s.fld Obj.elsInfo e 0 192 :=
    (congrArg (bits · 0 192) (rd_withElsSince ..)).trans (s.fld_wr_obj (c := Obj.elsState) e e v 0 192 (by decide))
  rw [setEls_eq]
  refine ite_sat (Q := fun u : State => u.fld Obj.elsInfo e 0 192 = _) ?_
    (ite_sat (Q := fun u : State => u.fld Obj.elsInfo e 0 192 = _) ?_ hmoved)
  · exact (elsInfo_elsPower ..).trans hmoved
  · exact (elsInfo_elsPower ..).trans hmoved

theorem els_wr (s : State) {c : ObjCode} (h : Obj.elsState ≠ c) (i v q : Nat) : (s.wr c i v).els q = s.els q :=
  s.rd_wr_obj _ _ _ h

@[simp] theorem els_rampEnds (s : State) (bay q : Nat) : (s.rampEnds bay).els q = s.els q := rfl

/-- The start of a ramp, or its wait, leaves the objects beside GOVERNOR_STATE (R486). -/
theorem rd_rampBay (s : State) (bay power : Nat) {c : ObjCode} (h : c ≠ Obj.governorState) (i : Nat) :
    (s.rampBay bay power).rd c i = s.rd c i :=
  ite_sat (Q := fun u : State => u.rd c i = s.rd c i) rfl (State.rd_wrFld_obj (s.setRamp bay _) _ _ _ _ _ h)

/-- The members of a pair are two (R221). -/
theorem elsPartner_other {e : Nat} (he : e < 16) : elsPartner e % 2 ^ 32 ≠ e % 2 ^ 32 := by
  unfold elsPartner
  split <;> omega

theorem els_pair_set {e : Nat} (he : e < 16) (s : State) (v w : Nat) :
    ((s.setEls e v).setEls (elsPartner e) w).els e = v ∧ ((s.setEls e v).setEls (elsPartner e) w).els (elsPartner e) = w :=
  ⟨(els_setEls_other _ w (elsPartner_other he).symm).trans (els_setEls_same ..), els_setEls_same ..⟩

/-! ### Events and commands of laser sources -/

section

variable {s : State} {e : Nat} (he : e < 16)
include he

theorem elsOutputLoss_next : exec (.elsOutputLoss e) s = .next (s.elsLoses e) := if_neg (Nat.not_le.mpr he)

omit he in
theorem elsLoses_of_starting (hstate : s.els e = 1) : s.elsLoses e = (s.setEls e 6).rampEnds (16 + e) := if_pos hstate

omit he in
/-- A source that lights, with none of its pair lost, lights. -/
theorem elsLights_of_state (hstate : s.els e = 2 ∨ s.els e = 3 ∨ s.els e = 4) (hlost : s.elsLost = []) :
    s.elsLights e = true := by
  unfold State.elsLights
  rw [hlost]
  rcases hstate with h | h | h <;> simp [h, elsSharing, elsAlone, elsStanding]

omit he in
/-- A partner that shares the light is driven to full output first (R221). -/
theorem elsLoses_of_sharing (hstate : s.els e = 2) (hpartner : s.els (elsPartner e) = 2) (hlost : s.elsLost = []) :
    s.elsLoses e = { s with elsLost := [e] } := by
  have hlights := elsLights_of_state (.inl hstate) hlost
  have hshares := elsLights_of_state (.inl hpartner) hlost
  simp [State.elsLoses, hstate, hpartner, hlights, hshares, hlost, elsStarting, elsStanding]

omit he in
/-- The removal of the partner is cancelled (R223). -/
theorem elsLoses_of_partner_standing (hstate : s.els e = 2 ∨ s.els e = 3) (hpartner : s.els (elsPartner e) = 4)
    (hlost : s.elsLost = []) : s.elsLoses e = (s.setEls e 6).setEls (elsPartner e) 3 := by
  have hlights := elsLights_of_state (s := s) (e := e) (by omega) hlost
  have hstands := elsLights_of_state (.inr (.inr hpartner)) hlost
  have hstarted : s.els e ≠ 1 := by omega
  simp [State.elsLoses, hstarted, hpartner, hlights, hstands, elsStarting, elsStanding, elsFailed, elsAlone]

theorem elsPartnerFull_next (hlost : s.elsLost.contains e = true) : exec (.elsPartnerFull e) s =
    .next ((({ s with elsLost := s.elsLost.erase e } : State).setEls e 6).setEls (elsPartner e) 3) := by
  simp only [exec, execElsPartnerFull]
  rw [if_neg (Nat.not_le.mpr he), if_pos hlost]
  rfl

theorem elsRemove_next (hstate : s.els e = 2) (hpartner : s.els (elsPartner e) = 2) (hlost : s.elsLost = []) :
    exec (.elsRemove e) s = .next ((s.setEls e 4).wr Obj.elsCmd 0 1) := by
  simp [exec, execElsRemove, Nat.not_le.mpr he, hstate, hpartner, hlost, elsSharing, elsStanding]

theorem elsRemove_of_partner (hpartner : s.els (elsPartner e) ≠ 2) :
    exec (.elsRemove e) s = .next (s.wr Obj.elsCmd 0 2) := by
  simp [exec, execElsRemove, Nat.not_le.mpr he, hpartner, elsSharing]

theorem elsCancel_next (hstate : s.els e = 4) : exec (.elsCancel e) s = .next ((s.setEls e 2).wr Obj.elsCmd 0 1) := by
  simp [exec, execElsCancel, Nat.not_le.mpr he, hstate, elsSharing, elsStanding]

theorem elsCancel_of_not_standing (hstate : s.els e ≠ 4) : exec (.elsCancel e) s = .next (s.wr Obj.elsCmd 0 3) := by
  simp [exec, execElsCancel, Nat.not_le.mpr he, hstate, elsStanding]

theorem elsRampDone_next (hstate : s.els e = 4) (hdue : KMap.get s.elsSince 0 e + 10000000 ≤ s.now) :
    exec (.elsRampDone e) s = .next ((s.setEls e 5).setEls (elsPartner e) 3) := by
  simp [exec, execElsRampDone, Nat.not_le.mpr he, hstate, hdue, elsStanding, elsSafe, elsAlone]

/-- A source inserted, as it is identified: powered with a ramp, or refused (R224). -/
def elsInserted (s : State) (e info : Nat) (qualified : Bool) : State :=
  if qualified then ((s.wr Obj.elsInfo e (info % 2 ^ 256)).setEls e 1).rampBay (16 + e) 36
  else (s.wr Obj.elsInfo e (info % 2 ^ 256)).setEls e 7

theorem elsInsert_next (hstate : s.els e = 0 ∨ s.els e = 6 ∨ s.els e = 7) (info : Nat) (qualified : Bool) :
    exec (.elsInsert e info qualified) s = .next (elsInserted s e info qualified) := by
  simp only [exec, execElsInsert]
  rw [if_neg (Nat.not_le.mpr he), if_pos (show s.els e = elsEmpty ∨ s.els e = elsFailed ∨ s.els e = elsRefused from hstate)]
  rfl

theorem elsStartDone_of_partner_lit (hstate : s.els e = 1) (hover : s.rampOver (16 + e) = true)
    (hpartner : s.els (elsPartner e) = 3 ∨ s.els (elsPartner e) = 2) :
    exec (.elsStartDone e) s = .next (((s.rampEnds (16 + e)).setEls e 2).setEls (elsPartner e) 2) := by
  simp [exec, execElsStartDone, Nat.not_le.mpr he, hstate, hover, hpartner, elsStarting, elsAlone, elsSharing]

theorem elsStartDone_of_partner_dark (hstate : s.els e = 1) (hover : s.rampOver (16 + e) = true)
    (halone : s.els (elsPartner e) ≠ 3) (hsharing : s.els (elsPartner e) ≠ 2) :
    exec (.elsStartDone e) s = .next ((s.rampEnds (16 + e)).setEls e 3) := by
  simp [exec, execElsStartDone, Nat.not_le.mpr he, hstate, hover, halone, hsharing, elsStarting, elsAlone, elsSharing]

theorem elsLatchOpen_of_dark (hstate : s.els e = 5 ∨ s.els e = 6 ∨ s.els e = 7) :
    exec (.elsLatchOpen e) s = .next ((s.setEls e 0).wr Obj.elsInfo e 0) := by
  simp [exec, execElsLatchOpen, Nat.not_le.mpr he, hstate, elsSafe, elsFailed, elsRefused, elsEmpty]

end

theorem elsInserted_reads (s : State) (e info : Nat) (qualified : Bool) :
    (elsInserted s e info qualified).els e = (if qualified then 1 else 7) ∧
      (elsInserted s e info qualified).fld Obj.elsInfo e 0 192 = bits info 0 192 := by
  have hinfo : (s.wr Obj.elsInfo e (info % 2 ^ 256)).fld Obj.elsInfo e 0 192 = bits info 0 192 := by
    rw [State.fld, State.rd_wr_same _ _ _ _ rfl, bits_eq, bits_eq]
    omega
  unfold elsInserted
  cases qualified with
  | false =>
    rw [if_neg (by decide), if_neg (by decide)]
    exact ⟨els_setEls_same .., (elsInfo_setEls ..).trans hinfo⟩
  | true =>
    rw [if_pos rfl, if_pos rfl, State.els, State.fld, rd_rampBay _ _ _ (by decide), rd_rampBay _ _ _ (by decide)]
    exact ⟨els_setEls_same .., (elsInfo_setEls ..).trans hinfo⟩

/-- What a command leaves where it moves a source and is accepted. -/
theorem elsAnswered_reads (s : State) (e v : Nat) : ((s.setEls e v).wr Obj.elsCmd 0 1).els e = v ∧
    ((s.setEls e v).wr Obj.elsCmd 0 1).rd Obj.elsCmd 0 = 1 :=
  ⟨(els_wr _ (by decide) ..).trans (els_setEls_same ..), State.rd_wr_same _ _ _ _ rfl⟩

/-! ### The obligation -/

/-- The second of a receiver that ends shows its lanes, and a FEC rate above the limit takes the port down (R241, R244). -/
theorem fecRate_reads {s : State} {p : Nat} (hp : p < 64) (hscratched : s.scratched = false) (lanes : List (Nat × Nat))
    (errors : Nat) (hmode : s.portMode p ≠ 0) (hdue : (s.port p).second + 1000000000 ≤ s.now) : ∃ t,
    exec (.fecRate p lanes errors) s
      = .next (if s.fecAbove p errors (1000 * symbolsPerMs) then t.leaveUp p 4 3 else t) ∧
    (t.port p).second = s.now ∧ t.portState p = s.portState p ∧
    ∀ l x, l < 8 → lanes[l]? = some x → x.1 < 2 ^ 16 → x.2 < 2 ^ 32 →
      t.fld Obj.laneStatus (8 * p + l) 0 16 = x.1 ∧ t.fld Obj.laneStatus (8 * p + l) 32 32 = x.2 :=
  ⟨_, fecRate_next hp hscratched lanes errors hmode hdue, congrArg PortSt.second (port_secondEnded s p lanes),
    rd_secondEnded s p lanes (by decide) p, fun _ _ hl hx => laneStatus_of_lane s p hl hx⟩

theorem loopMeasure_reads {s : State} {p : Nat} (hp : p < 64) (hup : s.portState p = 2)
    (hdue : (s.port p).probe + 1000000000 ≤ s.now) : ∃ t b, exec (.loopMeasure p) s = .next t ∧
      (t.port p).probe = s.now ∧ t.out = s.out ++ [.block p 3 b] := by
  obtain ⟨b, hout⟩ := out_sendProbe (probeNoted s p) p
  exact ⟨_, b, loopMeasure_next hp hup hdue, probe_sendProbe s p, hout⟩

/-- Settles O22: each event and command is as its equation says, and the state that it leaves reads so. -/
theorem portEventsAndLaserSources : Obligations.PortEventsAndLaserSources := by
  unfold Obligations.PortEventsAndLaserSources
  refine ⟨fun s p hp hscratched => ⟨portLos_of_up hp hscratched, fecRate_reads hp hscratched, loopMeasure_reads hp,
    fun c rest hup hstored => linkReplayTimeout_next hp hup hstored, selftestLoopbackDone_next hp,
    fun oe check => oeSelftest_next s, linkBlockReceive_next hp hscratched⟩,
    fun s e he => ⟨?_, ?_, ?_, ?_, ?_, elsRemove_of_partner he, ?_, elsCancel_of_not_standing he, ?_, ?_, ?_, ?_, ?_⟩⟩
  · intro hstate
    refine ⟨_, elsOutputLoss_next he, ?_⟩
    rw [elsLoses_of_starting hstate, els_rampEnds, els_setEls_same]
  · intro hstate hpartner hlost
    rw [elsOutputLoss_next he, elsLoses_of_sharing hstate hpartner hlost]
  · intro hstate hpartner hlost
    refine ⟨_, elsOutputLoss_next he, ?_⟩
    rw [elsLoses_of_partner_standing hstate hpartner hlost]
    exact els_pair_set he s 6 3
  · exact fun hlost => ⟨_, elsPartnerFull_next he hlost, els_pair_set he _ 6 3⟩
  · exact fun hstate hpartner hlost => ⟨_, elsRemove_next he hstate hpartner hlost, elsAnswered_reads s e 4⟩
  · exact fun hstate => ⟨_, elsCancel_next he hstate, elsAnswered_reads s e 2⟩
  · exact fun hstate hdue => ⟨_, elsRampDone_next he hstate hdue, els_pair_set he s 5 3⟩
  · exact fun hstate info qualified =>
      ⟨_, elsInsert_next he hstate info qualified, elsInserted_reads s e info qualified⟩
  · exact fun hstate hover hpartner => ⟨_, elsStartDone_of_partner_lit he hstate hover hpartner, els_pair_set he _ 2 2⟩
  · exact fun hstate hover halone hsharing =>
      ⟨_, elsStartDone_of_partner_dark he hstate hover halone hsharing, els_setEls_same ..⟩
  · exact fun hstate => ⟨_, elsLatchOpen_of_dark he hstate,
      (els_wr _ (by decide) ..).trans (els_setEls_same ..), State.rd_wr_same _ _ _ _ rfl⟩

end Sys2Proof.Laws
end

section
/-! PROOFS. The Track looks frames up, matches their cells and sends their copies (O23). -/

namespace Sys2Proof.Laws

set_option Elab.async false

open Sys2Proof.Machine

/-! ### What a lookup comes to -/

section

variable {u : State} {x : TrackFrame}

theorem lookup_of_linkLocal {port : Nat} (hmarshal : x.ingress = 79) (hnamed : u.linkLocalPort x.frame = some port) :
    u.lookup x = u.lookupLink x port := by
  simp only [State.lookup, hmarshal, if_true, hnamed]

theorem lookup_of_not_linkLocal (h : x.ingress ≠ 79 ∨ u.linkLocalPort x.frame = none) : u.lookup x = u.lookupOut x := by
  have hnone : (if x.ingress = 79 then u.linkLocalPort x.frame else none) = none := by
    rcases h with hother | hunnamed
    · exact if_neg hother
    · rw [hunnamed, ite_self]
  simp only [State.lookup, hnone]

theorem lookupOut_of_drop {k : Nat} (hroute : u.routeUnicast x.frame x.ingress = .drop k) :
    u.lookupOut x = u.dropFrame x k := by
  simp only [State.lookupOut, hroute]

/-- A frame goes to the egress of its entry where that is not a GMU channel, or where there is a GMU that serves it (R266). -/
theorem lookupOut_of_egress {e : Nat} (hroute : u.routeUnicast x.frame x.ingress = .egress e)
    (hserved : e < 64 ∨ 72 ≤ e ∨ (u.hasCompute = true ∧ u.power ≠ 2)) :
    u.lookupOut x = (u.setFrame { x with looked := true }).addCopy { x with looked := true } false e := by
  simp only [State.lookupOut, hroute]
  rcases hserved with hport | hbeyond | ⟨hcompute, hpower⟩
  · simp [Nat.not_le.mpr hport]
  · simp [Nat.not_lt.mpr hbeyond]
  · simp [hcompute, hpower]

/-- An accepted multicast frame leaves a copy at each of its egress positions, and those that it misses are counted (R271,
R272). -/
theorem lookupMc_of_accepted {es : List Nat} {missing : Nat}
    (hroute : u.routeMulticast x.frame x.ingress = some (es, missing)) (hsome : es ≠ []) :
    u.lookupMc x = es.foldl (fun s e => s.addCopy { x with looked := true } true e)
      ((if missing = 0 then u else u.inc Obj.mcCopyDropped 0 0 64 missing).setFrame { x with looked := true }) := by
  have hcopies : es.isEmpty = false := by rw [List.isEmpty_eq_false_iff]; exact hsome
  simp only [State.lookupMc, hroute, hcopies, Bool.false_eq_true, if_false]

end

/-- A frame that comes to its lookup moves no port (R250, R259). -/
theorem portState_arriving {s u : State} {pos : Nat} {f : Frame} {mc : Bool} {x : Option TrackFrame}
    (h : s.arriving pos f mc = (x, u)) (p : Nat) : u.portState p = s.portState p :=
  ((State.arriving_closed (Agree.closed s (by decide +kernel)) (Agree.refl _ s) pos f mc).of_eq h).rd _ _ (by decide +kernel)

/-! ### The commands of the Track -/

/-- A copy at an egress position that has not begun to leave and whose FWD frame is older than FWD_AGE_NS (R281). -/
def agedForward (s : State) (egress : Nat) (k : TrackCopy) : Bool :=
  k.egress == egress && !k.began && decide (s.rd Obj.fwdAgeNs 0 < s.now - k.time)
    && (match s.frameOf k.frame with | some x => x.cls == 4 | none => false)

section

variable {s : State} (hscratched : s.scratched = false)
include hscratched

theorem frameLookup_of_arriving {pos : Nat} {f : Frame} {x : TrackFrame} {u : State} (hpos : pos < 80)
    (harrives : s.arriving pos f false = (some x, u)) : exec (.frameLookup pos f) s = .next (u.lookup x).trackNote := by
  simp [exec, execFrameLookup, Nat.not_le.mpr hpos, hscratched, harrives]

theorem mcLookup_of_arriving {pos : Nat} {f : Frame} {x : TrackFrame} {u : State} (hpos : pos < 80)
    (harrives : s.arriving pos f true = (some x, u)) : exec (.mcLookup pos f) s = .next (u.lookupMc x).trackNote := by
  simp [exec, execMcLookup, Nat.not_le.mpr hpos, hscratched, harrives]

/-- A link-local frame of Marshal leaves by the port that was named with it where that is UP, and is dropped elsewhere (R266;
log entry 88). -/
theorem frameLookup_of_linkLocal {f : Frame} {x : TrackFrame} {u : State} {port : Nat}
    (harrives : s.arriving 79 f false = (some x, u)) (hmarshal : x.ingress = 79)
    (hnamed : u.linkLocalPort x.frame = some port) :
    let v := { u with linkLocals := u.linkLocals.erase (port, x.frame) }
    let y := { x with looked := true }
    exec (.frameLookup 79 f) s
      = .next (if s.portState port = 2 then (v.setFrame y).addCopy y false port else v.dropFrame x 8).trackNote := by
  intro v y
  have hstate : v.portState port = s.portState port := portState_arriving harrives port
  rw [frameLookup_of_arriving hscratched (by decide) harrives, lookup_of_linkLocal hmarshal hnamed, ← hstate]
  rfl

theorem frameDeparture_of_nextDeparture {egress : Nat} {k : TrackCopy} {x : TrackFrame} (he : egress < 80)
    (hnext : s.nextDeparture [] (s.releaseOrder egress) = some k) (hframe : s.frameOf k.frame = some x) :
    exec (.frameDeparture egress) s
      = .next ((((s.setCopy { k with began := true }).mirror k x).egressPump egress).trackNote) := by
  simp [exec, execFrameDeparture, Nat.not_le.mpr he, hscratched, hnext, hframe]

theorem fwdAgeExpiry_of_aged {egress : Nat} {k : TrackCopy} (he : egress < 80) (hunchecked : s.classChecked 4 = false)
    (haged : s.copies.find? (agedForward s egress) = some k) :
    exec (.fwdAgeExpiry egress) s = .next ((s.unqueueCopy k).countDrop 9).trackNote := by
  simp only [exec, execFwdAgeExpiry]
  rw [if_neg (Nat.not_le.mpr he), if_neg (by simp [hunchecked, hscratched])]
  split
  · next j hj => obtain rfl : j = k := Option.some.inj (hj.symm.trans haged); rfl
  · next hnone => cases hnone.symm.trans haged

/-- What the matches of a cell time and the departures that follow them write: all that `execCellMatch_closed` names but the
count of cell times. -/
def cellMatchFoot : Nat := 0x81e3000060000000000000000000000000000000000020401800000000000000000000000

/-- The matches of a cell time are made and their cells leave, all in the same cell time; then the next begins (R254). -/
theorem cellMatch_next : ∃ u, Agree cellMatchFoot s u ∧
    exec .cellMatch s = .next ({ u with cellTime := u.cellTime + 1 } : State).trackNote := by
  have hclosed {m : Nat} (h : m &&& cellMatchFoot = m) : Closed m (Agree cellMatchFoot s) :=
    (Agree.closed s (by decide +kernel)).mono h
  simp only [exec, execCellMatch]
  rw [if_neg (by simp [hscratched])]
  refine ⟨_, ?_, rfl⟩
  refine foldl_sat (foldl_sat ?_ fun u g hu => ?_) fun u e hu => ?_
  · exact State.movePointers_closed (hclosed (by decide +kernel)) (Agree.refl _ s) _
  · exact State.stage_closed (hclosed (by decide +kernel)) hu g.2
  · exact State.egressPump_closed (hclosed (by decide +kernel)) hu e

end

theorem cellTime_trackNote (s : State) : s.trackNote.cellTime = s.cellTime :=
  (State.trackNote_closed (Agree.closed s (by decide +kernel)) (Agree.refl _ s)).cellTime (by decide +kernel)

theorem cellMatch_reads {s : State} (hscratched : s.scratched = false) :
    ∃ t, exec .cellMatch s = .next t ∧ t.cellTime = s.cellTime + 1 := by
  obtain ⟨u, hagree, hnext⟩ := cellMatch_next hscratched
  refine ⟨_, hnext, ?_⟩
  rw [cellTime_trackNote, ← hagree.cellTime (by decide +kernel)]

/-! ### The obligation -/

/-- Settles O23: what a frame that has arrived comes to is that of its route (`lookupOut_of_egress`, `lookupOut_of_drop`,
`lookupMc_of_accepted`) or of the port named with it, and the other commands are as their equations say. -/
theorem trackLooksUpAndMoves : Obligations.TrackLooksUpAndMoves := by
  unfold Obligations.TrackLooksUpAndMoves
  refine fun s hscratched => ⟨?_, ?_, ?_, ?_, ?_, ?_, cellMatch_reads hscratched⟩
  · intro pos f x u e hpos harrives hroute hnamed hserved
    rw [frameLookup_of_arriving hscratched hpos harrives, lookup_of_not_linkLocal hnamed, lookupOut_of_egress hroute hserved]
  · intro pos f x u k hpos harrives hroute hnamed
    rw [frameLookup_of_arriving hscratched hpos harrives, lookup_of_not_linkLocal hnamed, lookupOut_of_drop hroute]
  · exact fun f x u port harrives hmarshal hnamed => frameLookup_of_linkLocal hscratched harrives hmarshal hnamed
  · intro pos f x u es missing hpos harrives hroute hsome
    rw [mcLookup_of_arriving hscratched hpos harrives, lookupMc_of_accepted hroute hsome]
  · exact fun egress k x he hnext hframe => frameDeparture_of_nextDeparture hscratched he hnext hframe
  · exact fun egress k he hunchecked haged => fwdAgeExpiry_of_aged hscratched he hunchecked haged

end Sys2Proof.Laws
end

section
/-! PROOFS. ROUTE_COMMIT swaps the copies of the routing tables, or reports why it does not (O24). -/

namespace Sys2Proof.Laws

set_option Elab.async false

open Sys2Proof.Machine

/-! ### Flags as the bits of a number -/

/-- The flags of 0 to `n` - 1 as a number, as PORT_USABLE holds those of the ports. -/
def packed (f : Nat → Bool) (n : Nat) : Nat := (List.range n).foldl (fun a p => a + b2n (f p) * 2 ^ p) 0

theorem packed_succ (f : Nat → Bool) (n : Nat) : packed f (n + 1) = 2 ^ n * b2n (f n) + packed f n := by
  rw [packed, List.range_succ, List.foldl_append, List.foldl_cons, List.foldl_nil, ← packed, Nat.add_comm, Nat.mul_comm]

theorem packed_lt (f : Nat → Bool) (n : Nat) : packed f n < 2 ^ n := by
  induction n with
  | zero => exact Nat.one_pos
  | succ n ih =>
    rw [packed_succ, Nat.pow_succ]
    cases f n <;> simp only [b2n, if_true, Bool.false_eq_true, if_false] <;> omega

theorem testBit_packed (f : Nat → Bool) {n p : Nat} (hp : p < n) : (packed f n).testBit p = f p := by
  induction n with
  | zero => omega
  | succ n ih =>
    rw [packed_succ, Nat.testBit_two_pow_mul_add _ (packed_lt f n)]
    split
    · next h => exact ih h
    · next h =>
      obtain rfl : p = n := by omega
      cases hf : f p <;> simp [b2n]

/-! ### Copies of an object -/

theorem rd_mod (s : State) (c : ObjCode) (i : Nat) : s.rd c (i % 2 ^ 32) = s.rd c i := by
  simp only [State.rd, objKey, Nat.mod_mod]

/-- An entry that the store does not list reads its factory value. -/
theorem rd_of_unlisted {s : State} {c : ObjCode} (hid : identRead s.ident c = none) {i : Nat}
    (h : i % 2 ^ 32 ∉ s.listed c) : s.rd c i = factory c (i % 2 ^ 32) := by
  have hunlisted : KMap.find s.objs (objKey c i) = none := by
    cases hfind : KMap.find s.objs (objKey c i) with
    | none => rfl
    | some v =>
      refine absurd (List.mem_map.mpr ⟨_, List.mem_filter.mpr ⟨find_mem hfind, ?_⟩, objKey_mod c i⟩) h
      simp only [objKey_div, beq_self_eq_true]
  rw [rd_of_stored hid, KMap.get, hunlisted, Option.getD_none, factoryKey, objKey_div, objKey_mod]

theorem lt_of_mem_listed {s : State} {c : ObjCode} {i : Nat} (h : i ∈ s.listed c) : i < 2 ^ 32 := by
  obtain ⟨p, -, rfl⟩ := List.mem_map.mp h
  exact Nat.mod_lt _ (by decide)

/-- Of entries that are written one after the other, each that is among them reads what was written there, and the others
stay. -/
theorem rd_foldl_wr {c : ObjCode} (v : Nat → Nat) {l : List Nat} (hl : ∀ j ∈ l, j < 2 ^ 32) (u : State)
    (hid : identRead u.ident c = none) (i : Nat) :
    (l.foldl (fun t j => t.wr c j (v j)) u).rd c i = if i % 2 ^ 32 ∈ l then v (i % 2 ^ 32) else u.rd c i := by
  induction l generalizing u with
  | nil => simp
  | cons j l ih =>
    have hj : j % 2 ^ 32 = j := Nat.mod_eq_of_lt (hl j List.mem_cons_self)
    rw [List.foldl_cons, ih (fun k hk => hl k (List.mem_cons_of_mem j hk)) (u.wr c j (v j)) hid]
    by_cases hin : i % 2 ^ 32 ∈ l
    · simp only [hin, if_true, List.mem_cons, or_true]
    · by_cases hsame : i % 2 ^ 32 = j
      · rw [if_neg hin, if_pos (hsame ▸ List.mem_cons_self), ← rd_mod, hsame, State.rd_wr_same _ _ _ _ hid]
      · rw [if_neg hin, if_neg (List.not_mem_cons_of_ne_of_not_mem hsame hin), State.rd_wr_idx _ _ _ _ (by rwa [hj])]

section

variable {src dst : ObjCode} (hsrc : ∀ d, identRead d src = none) (hdst : ∀ d, identRead d dst = none)
  (hfactory : ∀ i, factory src i = factory dst i)
include hsrc hdst hfactory

/-- An entry of the copy that there is reads as its source's, any other its factory value. -/
theorem rd_copyEntries (s : State) (there : Nat → Bool) (i : Nat) : (s.copyEntries src dst there).rd dst i
    = if there (i % 2 ^ 32) then s.rd src i else factory dst (i % 2 ^ 32) := by
  rw [State.copyEntries, rd_foldl_wr (s.rd src ·) (fun j hj => lt_of_mem_listed (List.mem_filter.mp hj).1) _ (hdst _),
    rd_clearObj_same s (hdst _), rd_mod]
  by_cases hin : i % 2 ^ 32 ∈ s.listed src
  · simp only [List.mem_filter, hin, true_and]
  · rw [if_neg (fun h => hin (List.mem_filter.mp h).1), rd_of_unlisted (hsrc _) hin, hfactory, ite_self]

theorem rd_copyObj (s : State) (i : Nat) : (s.copyObj src dst).rd dst i = s.rd src i := by
  rw [State.copyObj, rd_copyEntries hsrc hdst hfactory, if_pos rfl]

end

theorem rd_copyEntries_other (s : State) {src dst c : ObjCode} (h : c ≠ dst) (there : Nat → Bool) (i : Nat) :
    (s.copyEntries src dst there).rd c i = s.rd c i :=
  foldl_sat (Q := fun t : State => t.rd c i = s.rd c i) (rd_clearObj_other s h i)
    fun _ _ ht => (State.rd_wr_obj _ _ _ _ h).trans ht

theorem rd_copyObj_other (s : State) {src dst c : ObjCode} (h : c ≠ dst) (i : Nat) :
    (s.copyObj src dst).rd c i = s.rd c i := rd_copyEntries_other s h _ i

theorem rd_copyRoutes_other (s : State) {c : ObjCode} (h : c ≠ Obj.routeActive) (i : Nat) :
    s.copyRoutes.rd c i = s.rd c i := rd_copyEntries_other s h _ i

/-- Entries 0x1000 and above of a class read 0 in every state (R283). -/
theorem routeActive_copyRoutes (s : State) (k : Nat) :
    s.copyRoutes.rd Obj.routeActive k = if k % 65536 < 0x1000 then s.rd Obj.routeShadow k else 0 := by
  have hmod : k % 2 ^ 32 % 65536 = k % 65536 := Nat.mod_mod_of_dvd k (by decide)
  have hread := rd_copyEntries (src := Obj.routeShadow) (dst := Obj.routeActive) (fun _ => rfl) (fun _ => rfl) (fun _ => rfl) s
    (fun i => decide (i % 65536 < 0x1000)) k
  simp only [hmod, decide_eq_true_eq] at hread
  exact hread

/-! ### The swap -/

/-- The state in which the active tables have taken their shadows' values (R267). -/
def tablesSwapped (s : State) : State :=
  (s.copyRoutes.copyObj Obj.orientShadow Obj.orientActive).copyObj Obj.mcShadow Obj.mcActive

/-- What the swap leaves to read of any object but the three active tables. -/
theorem rd_tablesSwapped (s : State) {c : ObjCode} (hroutes : c ≠ Obj.routeActive) (horient : c ≠ Obj.orientActive)
    (hgroups : c ≠ Obj.mcActive) (i : Nat) : (tablesSwapped s).rd c i = s.rd c i := by
  rw [tablesSwapped, rd_copyObj_other _ hgroups, rd_copyObj_other _ horient, rd_copyRoutes_other _ hroutes]

theorem routeActive_tablesSwapped (s : State) (k : Nat) :
    (tablesSwapped s).rd Obj.routeActive k = if k % 65536 < 0x1000 then s.rd Obj.routeShadow k else 0 := by
  rw [tablesSwapped, rd_copyObj_other _ (by decide), rd_copyObj_other _ (by decide), routeActive_copyRoutes]

theorem orientActive_tablesSwapped (s : State) (p : Nat) :
    (tablesSwapped s).rd Obj.orientActive p = s.rd Obj.orientShadow p := by
  rw [tablesSwapped, rd_copyObj_other _ (by decide), rd_copyObj (src := Obj.orientShadow) (dst := Obj.orientActive)
    (fun _ => rfl) (fun _ => rfl) (fun _ => rfl), rd_copyRoutes_other _ (by decide)]

theorem mcActive_tablesSwapped (s : State) (g : Nat) : (tablesSwapped s).rd Obj.mcActive g = s.rd Obj.mcShadow g := by
  rw [tablesSwapped, rd_copyObj (src := Obj.mcShadow) (dst := Obj.mcActive) (fun _ => rfl) (fun _ => rfl) (fun _ => rfl),
    rd_copyObj_other _ (by decide), rd_copyRoutes_other _ (by decide)]

/-! ### The command -/

/-- The state that a commit of tables that pass leaves: swapped, the ports that are UP usable, and the outcome reported (R263,
R267). -/
def committed (s : State) : State :=
  (((tablesSwapped s).wr Obj.portUsable 0 (packed (fun p => (tablesSwapped s).portState p == 2) 64)).wr Obj.commitResult 0 0).wr
    Obj.routeCommit 0 2

theorem rd_committed (s : State) {c : ObjCode} (husable : c ≠ Obj.portUsable) (hresult : c ≠ Obj.commitResult)
    (hcommand : c ≠ Obj.routeCommit) (i : Nat) : (committed s).rd c i = (tablesSwapped s).rd c i :=
  (State.rd_wr_obj _ _ _ _ hcommand).trans <| (State.rd_wr_obj _ _ _ _ hresult).trans <| State.rd_wr_obj _ _ _ _ husable

theorem portUsable_committed (s : State) {p : Nat} (hp : p < 64) :
    ((committed s).rd Obj.portUsable 0).testBit p = (s.portState p == 2) := by
  have hread : (committed s).rd Obj.portUsable 0 = packed (fun p => (tablesSwapped s).portState p == 2) 64 :=
    (State.rd_wr_obj _ _ _ _ (by decide)).trans <| (State.rd_wr_obj _ _ _ _ (by decide)).trans <|
      State.rd_wr_same _ _ _ _ rfl
  have hstate : (tablesSwapped s).portState p = s.portState p :=
    rd_tablesSwapped s (by decide) (by decide) (by decide) p
  rw [hread, testBit_packed _ hp, hstate]

/-- What a report of a commit leaves: the outcome in ROUTE_COMMIT and where it failed in COMMIT_RESULT (R268). -/
theorem commitReport_reads (s : State) (result code : Nat) :
    ((s.wr Obj.commitResult 0 result).wr Obj.routeCommit 0 code).rd Obj.routeCommit 0 = code ∧
      ((s.wr Obj.commitResult 0 result).wr Obj.routeCommit 0 code).rd Obj.commitResult 0 = result :=
  ⟨State.rd_wr_same _ _ _ _ rfl, (State.rd_wr_obj _ _ _ _ (by decide)).trans (State.rd_wr_same _ _ _ _ rfl)⟩

section

variable {s : State}

theorem routeCommit_of_pass (hscratched : s.scratched = false) (hpass : s.commitCheck = none) :
    exec (.routeCommit 1) s = .next (committed s) := by
  simp only [exec, execRouteCommit]
  rw [if_neg (not_not_intro rfl), if_neg (by simp [hscratched]), hpass]
  rfl

theorem routeCommit_of_fail {x : CommitFail} (hscratched : s.scratched = false) (hfail : s.commitCheck = some x) :
    exec (.routeCommit 1) s = .next ((s.wr Obj.commitResult 0
      (x.code + x.cls * 2 ^ 8 + x.index * 2 ^ 16 + x.port * 2 ^ 32)).wr Obj.routeCommit 0 3) := by
  simp [exec, execRouteCommit, hscratched, hfail]

theorem routeCommit_of_scratched (hscratched : s.scratched = true) :
    exec (.routeCommit 1) s = .next (s.wr Obj.routeCommit 0 4) := by
  simp [exec, execRouteCommit, hscratched]

theorem routeCommit_of_ne_one {value : Nat} (hvalue : value ≠ 1) : exec (.routeCommit value) s = .next s := by
  simp [exec, execRouteCommit, hvalue]

end

/-! ### The obligation -/

/-- Settles O24: a commit that passes leaves the tables swapped (`routeCommit_of_pass`), which read as their shadows did
(`routeActive_tablesSwapped` and its like), and one that fails writes only its report (`routeCommit_of_fail`). -/
theorem routeCommitSwapsTheCopies : Obligations.RouteCommitSwapsTheCopies := by
  unfold Obligations.RouteCommitSwapsTheCopies
  refine fun s => ⟨fun hscratched hpass => ⟨_, routeCommit_of_pass hscratched hpass, fun k => ?_, fun p => ?_, fun g => ?_,
    fun k => ?_, fun p hp => portUsable_committed s hp, (commitReport_reads _ 0 2).2, (commitReport_reads _ 0 2).1⟩,
    fun x hscratched hfail => ⟨_, routeCommit_of_fail hscratched hfail, (commitReport_reads ..).1, (commitReport_reads ..).2,
      fun k => ?_⟩, routeCommit_of_scratched, fun value => routeCommit_of_ne_one⟩
  · rw [rd_committed s (by decide) (by decide) (by decide), routeActive_tablesSwapped]
  · rw [rd_committed s (by decide) (by decide) (by decide), orientActive_tablesSwapped]
  · rw [rd_committed s (by decide) (by decide) (by decide), mcActive_tablesSwapped]
  · rw [rd_committed s (by decide) (by decide) (by decide), rd_tablesSwapped s (by decide) (by decide) (by decide)]
  · rw [State.rd_wr_obj _ _ _ _ (by decide), State.rd_wr_obj _ _ _ _ (by decide)]

end Sys2Proof.Laws
end

section
/-! PROOFS. The traffic manager polices, queues and picks copies, and its flows come and go (O25). -/

namespace Sys2Proof.Laws

set_option Elab.async false

open Sys2Proof.Machine

/-! ### Enqueue -/

/-- What the policer of a copy's flow says of the copy, where the flow has one (R287, R299). -/
def policedFor (s : State) (port : Nat) (k : TrackCopy) : Colour × State :=
  let f := s.flowFor port k.hdr
  if (s.rd Obj.flowTable f).testBit 31 then s.police (s.flowFld f 32 16) (Frame.plen ⟨k.hdr, []⟩) else (.green, s)

/-- A copy that its policer has found red leaves the egress queue and is counted (R299). -/
def redDropped (s : State) (k : TrackCopy) : State :=
  (((s.dropCopy k).reapFrame k.frame).inc Obj.tmgCounts 0 0 64 1).trackNote

/-- A copy takes its place in a flow, marked where its class is congested; a flow that was empty wakes (R278, R287, R292). -/
def queuedIn (s : State) (k : TrackCopy) (f : Nat) : State :=
  let m := s.markCopy { k with queued := true, flow := f } (Frame.bclass ⟨k.hdr, []⟩)
  let v := m.2.flowFills f
  ((v.wrFld Obj.flowTable f 96 32 (v.flowFld f 96 32 + 1)).setCopy m.1).trackNote

section

variable {s : State} {port : Nat} (hport : port < 64) (hscratched : s.scratched = false)
  {k : TrackCopy} (hfirst : s.copies.find? (fun k => k.egress == port && !k.queued) = some k)
include hport hscratched hfirst

/-- FLOW_ENQUEUE takes the first copy at its port that is in no flow, and what becomes of it turns on its policer's colour. -/
theorem flowEnqueue_of_first : exec (.flowEnqueue port) s = .next (if (policedFor s port k).1 = .red
    then redDropped (policedFor s port k).2 k else queuedIn (policedFor s port k).2 k (s.flowFor port k.hdr)) := by
  simp only [exec, execFlowEnqueue, Nat.not_le.mpr hport, hfirst, hscratched, Bool.false_eq_true, if_false]
  exact (apply_ite Host.Outcome.next ..).symm

theorem flowEnqueue_of_red (hred : (policedFor s port k).1 = .red) :
    exec (.flowEnqueue port) s = .next (redDropped (policedFor s port k).2 k) := by
  rw [flowEnqueue_of_first hport hscratched hfirst, if_pos hred]

theorem flowEnqueue_of_not_red (hcolour : (policedFor s port k).1 ≠ .red) :
    exec (.flowEnqueue port) s = .next (queuedIn (policedFor s port k).2 k (s.flowFor port k.hdr)) := by
  rw [flowEnqueue_of_first hport hscratched hfirst, if_neg hcolour]

end

/-! ### Pick -/

/-- A candidate is picked: the shapers on its path are debited with the colours they gave, the chosen children's credits with
the counted length, and the copy is the next in the order of the picks (R291, R293, R295). -/
def candidatePicked (x : Candidate) (u : State) : State :=
  let plen := Frame.plen ⟨x.copy.hdr, []⟩
  let v := x.own.foldl (fun s p => s.debitShaper p.1 plen p.2) u
  let w := x.path.foldl (fun s p => s.setCredit p.2 (s.credit p.2 - s.nodeLength p.1 plen)) v
  let z := w.setCopy { x.copy with pick := some w.nextPick }
  ({ z with nextPick := z.nextPick + 1 }.flowLess x.copy.flow).trackNote

section

variable {s : State} {port : Nat} (hport : port < 64) (hscratched : s.scratched = false) (hup : s.portState port = 2)
  {x : Candidate} {u : State} (hcand : (s.settleMoves port).portCandidate port = (some x, u))
include hport hscratched hup hcand

/-- TMG_PICK at a port that is UP turns on the colour of the candidate that the port has once its due moves are made. -/
theorem tmgPick_of_candidate : exec (.tmgPick port) s
    = .next (if x.colour = .red then u.inc Obj.tmgCounts 0 64 64 1 else candidatePicked x u) := by
  have hopen : (s.scratched || s.portState port != portUp) = false := by
    rw [hscratched, hup]
    rfl
  simp only [exec, execTmgPick, Nat.not_le.mpr hport, hopen, hcand, Bool.false_eq_true, if_false]
  exact (apply_ite Host.Outcome.next ..).symm

theorem tmgPick_of_red (hred : x.colour = .red) : exec (.tmgPick port) s = .next (u.inc Obj.tmgCounts 0 64 64 1) := by
  rw [tmgPick_of_candidate hport hscratched hup hcand, if_pos hred]

theorem tmgPick_of_not_red (hcolour : x.colour ≠ .red) : exec (.tmgPick port) s = .next (candidatePicked x u) := by
  rw [tmgPick_of_candidate hport hscratched hup hcand, if_neg hcolour]

end

/-! ### CREATE -/

/-- The entry of a valid flow from its fields, with a QUANTUM of 16,384 (R302). -/
def flowEntry (port tc key group prio policed policer : Nat) : Nat :=
  1 + port * 2 ^ 3 + tc * 2 ^ 9 + key * 2 ^ 12 + group * 2 ^ 24 + prio * 2 ^ 29 + policed * 2 ^ 31 + policer * 2 ^ 32
    + 16384 * 2 ^ 48

/-- Fields that fit their widths do not run into each other. -/
theorem bits_flowEntry {port tc key group prio policed policer : Nat} (hport : port < 2 ^ 6) (htc : tc < 2 ^ 3)
    (hkey : key < 2 ^ 12) (hgroup : group < 2 ^ 5) (hprio : prio < 2 ^ 2) (hpoliced : policed < 2 ^ 1)
    (hpolicer : policer < 2 ^ 16) :
    let e := flowEntry port tc key group prio policed policer
    bits e 0 2 = 1 ∧ bits e 3 6 = port ∧ bits e 9 3 = tc ∧ bits e 12 12 = key ∧ bits e 48 16 = 16384 := by
  simp only [flowEntry, bits_eq]
  refine ⟨?_, ?_, ?_, ?_, ?_⟩ <;> omega

/-- The entry of the flow that CREATE makes of a written value (R288). -/
def createdEntry (value : Nat) : Nat :=
  flowEntry (bits value 0 6) (bits value 6 3) (bits value 9 12) (bits value 21 5) (bits value 26 2) (bits value 28 1)
    (bits value 29 16)

theorem bits_createdEntry (value : Nat) : bits (createdEntry value) 0 2 = 1 ∧
    bits (createdEntry value) 3 6 = bits value 0 6 ∧ bits (createdEntry value) 9 3 = bits value 6 3 ∧
    bits (createdEntry value) 12 12 = bits value 9 12 ∧ bits (createdEntry value) 48 16 = 16384 :=
  bits_flowEntry (bits_lt ..) (bits_lt ..) (bits_lt ..) (bits_lt ..) (bits_lt ..) (bits_lt ..) (bits_lt ..)

/-- Flow `f` made by CREATE, its credit 0 and its number answered (R288). -/
def flowMade (s : State) (value f : Nat) : State :=
  ((s.wr Obj.flowTable f (createdEntry value)).setCredit (nodeFlow f) 0).wr Obj.flowCmd 0 (1 + f * 2 ^ 8)

theorem rd_setCredit (s : State) (n : Nat) (x : Int) (c : ObjCode) (i : Nat) : (s.setCredit n x).rd c i = s.rd c i := rfl

theorem flowFld_flowMade (s : State) (value f lo w : Nat) :
    (flowMade s value f).flowFld f lo w = bits (createdEntry value) lo w := by
  have hread : (flowMade s value f).rd Obj.flowTable f = createdEntry value := by
    rw [flowMade, State.rd_wr_obj _ _ _ _ (by decide), rd_setCredit, State.rd_wr_same _ _ _ _ rfl]
  rw [State.flowFld, State.fld, hread]

theorem flowCmd_flowMade (s : State) (value f : Nat) : (flowMade s value f).rd Obj.flowCmd 0 = 1 + f * 2 ^ 8 :=
  State.rd_wr_same _ _ _ _ rfl

section

variable {s : State} {value : Nat} (hvalue : value < 2 ^ 64) (hzero : bits value 45 3 = 0) (haction : bits value 48 8 = 1)
  (hhigh : bits value 56 8 = 0)
include hvalue hzero haction hhigh

/-- A value that says CREATE passes the check of its fixed fields. -/
theorem createValue_ok :
    (decide (2 ^ 64 ≤ value) || bits value 45 3 != 0 || bits value 48 8 != 1 || bits value 56 8 != 0) = false := by
  rw [decide_eq_false (Nat.not_le.mpr hvalue), hzero, haction, hhigh]
  rfl

theorem flowCreate_of_free {k : Nat}
    (hnew : s.findFlow (bits value 0 6) (bits value 6 3) (bits value 9 12) 1 2 = none)
    (hkind : value.testBit 28 = false ∨ s.rd Obj.tcKind (bits value 6 3) ≠ 0)
    (hfree : firstBelow 130560 (fun k => s.flowFld (512 + k) 0 2 == 0) = some k) :
    exec (.flowCreate value) s = .next (flowMade s value (512 + k)) := by
  have hfields := createValue_ok hvalue hzero haction hhigh
  have hmay : (value.testBit 28 && decide (s.rd Obj.tcKind (bits value 6 3) = 0)) = false := by
    rcases hkind with hunpoliced | hkind
    · rw [hunpoliced, Bool.false_and]
    · rw [decide_eq_false hkind, Bool.and_false]
  simp only [exec, execFlowCreate, hfields, hnew, hmay, hfree, Option.isSome_none, Bool.false_eq_true, if_false]
  rfl

theorem flowCreate_of_found
    (hfound : (s.findFlow (bits value 0 6) (bits value 6 3) (bits value 9 12) 1 2).isSome = true) :
    exec (.flowCreate value) s = .next (s.wrFld Obj.flowCmd 0 0 8 3) := by
  have hfields := createValue_ok hvalue hzero haction hhigh
  simp only [exec, execFlowCreate, hfields, hfound, Bool.false_eq_true, if_false, if_true]

end

/-! ### DELETE -/

/-- The factory entry of a flow that is none of the defaults is free (R302). -/
theorem bits_factory_flowTable {f : Nat} (h : 512 ≤ f) : bits (factory Obj.flowTable f) 0 2 = 0 := by
  have hentry : factory Obj.flowTable f = 16384 * 2 ^ 48 := by
    simp [factory, Obj.flowTable, Obj.tcKind, Obj.classBuf, Obj.markThreshold, Obj.portNode, Obj.classNode,
      Obj.groupNode, Nat.not_lt.mpr h]
  rw [hentry]
  decide

/-- A flow that DELETE has taken: free at once where it holds no copy, DRAINING where it does (R288). -/
def flowRetired (s : State) (f : Nat) : State :=
  if s.flowFld f 96 32 = 0 then s.freeFlow f else s.wrFld Obj.flowTable f 0 2 2

theorem state_flowRetired (s : State) {f : Nat} (h : 512 ≤ f) :
    (flowRetired s f).flowFld f 0 2 = if s.flowFld f 96 32 = 0 then 0 else 2 := by
  unfold flowRetired
  split
  · exact (congrArg (bits · 0 2) (s.rd_wr_same Obj.flowTable f _ rfl)).trans (bits_factory_flowTable h)
  · exact s.fld_wrFld_same Obj.flowTable f 0 2 2 rfl

section

variable {s : State} {f : Nat}

theorem flowDelete_of_valid (hcreated : 512 ≤ f) (hf : f < 2 ^ 17) (hvalid : s.flowFld f 0 2 = 1) :
    exec (.flowDelete f) s = .next ((flowRetired s f).wrFld Obj.flowCmd 0 0 8 1) := by
  simp only [exec, execFlowDelete]
  rw [if_neg (Nat.not_le.mpr hf), if_neg (by simp [hvalid, hcreated])]
  rfl

theorem flowDelete_of_default (hdefault : f < 512) :
    exec (.flowDelete f) s = .next (s.wrFld Obj.flowCmd 0 0 8 5) := by
  simp only [exec, execFlowDelete]
  rw [if_neg (by omega), if_pos (.inl hdefault)]

end

/-! ### The obligation -/

/-- Settles O25: the first copy that waits is dropped or queued as its policer says (`flowEnqueue_of_first`), the scheduler's
candidate is picked unless it is red (`tmgPick_of_candidate`), and the flow commands write the entry that
`flowFld_flowMade` and `state_flowRetired` read, or refuse. -/
theorem trafficManagerMovesCopies : Obligations.TrafficManagerMovesCopies := by
  unfold Obligations.TrafficManagerMovesCopies
  refine ⟨fun s port hport hscratched => ⟨fun k hfirst => ⟨flowEnqueue_of_red hport hscratched hfirst,
      flowEnqueue_of_not_red hport hscratched hfirst⟩,
    fun x u hup hcand => tmgPick_of_not_red hport hscratched hup hcand,
    fun x u hup hcand => tmgPick_of_red hport hscratched hup hcand⟩,
    fun s => ⟨fun value k hvalue hzero haction hhigh hnew hkind hfree => ?_,
      fun value hvalue hzero haction hhigh => flowCreate_of_found hvalue hzero haction hhigh,
      fun f hcreated hf hvalid => ?_, fun f => flowDelete_of_default⟩⟩
  · refine ⟨_, flowCreate_of_free hvalue hzero haction hhigh hnew hkind hfree, ?_⟩
    obtain ⟨hstate, hport, htc, hkey, hquantum⟩ := bits_createdEntry value
    simp only [flowFld_flowMade]
    exact ⟨hstate, hport, htc, hkey, hquantum, flowCmd_flowMade ..⟩
  · refine ⟨_, flowDelete_of_valid hcreated hf hvalid, ?_, State.fld_wrFld_same _ _ _ _ _ _ rfl⟩
    exact (State.fld_wrFld_obj _ _ _ _ _ _ _ _ (by decide)).trans (state_flowRetired s hcreated)

end Sys2Proof.Laws
end

section
/-! PROOFS. The register instructions of a stream program write RD and nothing else (O26). -/

namespace Sys2Proof.Laws

set_option Elab.async false

open Sys2Proof.Machine

/-! ### Stream units -/

@[simp] theorem su_setSu_same (s : State) (u : Nat) (x : SuSt) : (s.setSu u x).su u = x := get_set_same ..

theorem su_setSu_other (s : State) {u v : Nat} (x : SuSt) (h : v ≠ u) : (s.setSu u x).su v = s.su v := get_set_other _ _ _ _ h

/-! ### The next instruction of a run -/

/-- The state after an instruction of the run on stream unit `u` that comes to an outcome (R311, R312, R315). -/
def afterEcmel (s : State) (u : Nat) : EcOut → State
  | .go v r c => v.setSu u { v.su u with run := some { r with pc := r.pc + 1, cycles := r.cycles + c } }
  | .jump v r pc => v.setSu u { v.su u with run := some { r with pc := pc, cycles := r.cycles + 1 } }
  | .ends v r k => v.endRun u { r with cycles := r.cycles + 1 } k
  | .fault v r c => v.runFault u r c
  | .waits => s

/-- The next instruction of a run comes to the outcome that its row gives. -/
theorem exec_of_nextEcmel {s t : State} {u op w : Nat} {r : SuRun} {i : Instr}
    {f : SuRun → Nat → (Nat → Nat) → State → EcOut} (h : NextEcmel s u op r w) (hi : exec i s = s.ecmel u op f)
    (ht : afterEcmel s u (f { r with executed := r.executed + 1 } w (r.reg (s.su u).kept) s) = t) : exec i s = .next t := by
  obtain ⟨hu, hrun, hword, hop, hscratched, hbudget⟩ := h
  rw [hi, ← ht]
  unfold State.ecmel
  rw [if_neg (Nat.not_le.mpr hu), hrun]
  simp only [hword, hop, hscratched, ne_eq, not_true_eq_false, Bool.false_eq_true, or_self, if_false]
  rw [if_neg (Nat.not_le.mpr hbudget)]
  unfold afterEcmel
  split <;> rename_i hout <;> exact hout ▸ rfl

/-! ### Registers -/

section

variable (s : State) (u : Nat) (r : SuRun) (v : Nat)

theorem setReg_zero : s.setReg u r 0 v = (s, r) := rfl

theorem setReg_of_general {d : Nat} (hd : d ≠ 0) (hlow : d < 48) :
    s.setReg u r d v = (s, { r with regs := KMap.set r.regs 0 d (v % 2 ^ 64) }) := by
  unfold State.setReg
  rw [if_neg hd, if_pos hlow]

theorem setReg_of_kept {d : Nat} (hhigh : 48 ≤ d) : s.setReg u r d v =
    (s.setSu u { s.su u with kept := KMap.set (s.su u).kept 0 (64 * r.slot + d) (v % 2 ^ 64) }, r) := by
  unfold State.setReg
  rw [if_neg (by omega), if_neg (by omega)]

/-- Of the run, a register write can change G1 to G47. -/
theorem run_setReg (d : Nat) : { (s.setReg u r d v).2 with regs := r.regs } = r := by
  unfold State.setReg
  split
  · rfl
  · split <;> rfl

theorem pc_setReg (d : Nat) : (s.setReg u r d v).2.pc = r.pc :=
  (congrArg SuRun.pc (run_setReg s u r v d) :)

theorem executed_setReg (d : Nat) : (s.setReg u r d v).2.executed = r.executed :=
  (congrArg SuRun.executed (run_setReg s u r v d) :)

theorem cycles_setReg (d : Nat) : (s.setReg u r d v).2.cycles = r.cycles :=
  (congrArg SuRun.cycles (run_setReg s u r v d) :)

/-- Of the stream unit, a register write can change the registers that the slots keep. -/
theorem su_setReg (d : Nat) : { (s.setReg u r d v).1.su u with kept := (s.su u).kept } = s.su u := by
  unfold State.setReg
  split
  · rfl
  · split
    · rfl
    · simp only [su_setSu_same]

theorem su_setReg_other (d : Nat) {x : Nat} (hx : x ≠ u) : (s.setReg u r d v).1.su x = s.su x := by
  unfold State.setReg
  split
  · rfl
  · split
    · rfl
    · exact su_setSu_other s _ hx

/-- Of the module, a register write can change the stream unit. -/
theorem sus_setReg (d : Nat) : { (s.setReg u r d v).1 with sus := s.sus } = s := by
  unfold State.setReg
  split
  · rfl
  · split <;> rfl

/-- A register reads what was written to it, but for G0, and the others read as before (R305). -/
theorem reg_setReg (d g : Nat) :
    (s.setReg u r d v).2.reg ((s.setReg u r d v).1.su u).kept g =
      if g = d ∧ d ≠ 0 then v % 2 ^ 64 else r.reg (s.su u).kept g := by
  by_cases hd : d = 0
  · subst hd
    rw [if_neg (by simp), setReg_zero]
  by_cases hlow : d < 48
  · rw [setReg_of_general s u r v hd hlow]
    by_cases hgd : g = d
    · subst hgd
      rw [if_pos ⟨rfl, hd⟩]
      simp only [SuRun.reg, if_neg hd, if_pos hlow, get_set_same]
    · rw [if_neg (by simp [hgd])]
      simp only [SuRun.reg, get_set_other _ _ _ _ hgd]
  · rw [setReg_of_kept s u r v (Nat.not_lt.mp hlow)]
    by_cases hgd : g = d
    · subst hgd
      rw [if_pos ⟨rfl, hd⟩]
      simp only [SuRun.reg, if_neg hd, if_neg hlow, su_setSu_same, get_set_same]
    · rw [if_neg (by simp [hgd])]
      simp only [SuRun.reg, su_setSu_same, get_set_other _ _ _ _ (show 64 * r.slot + g ≠ 64 * r.slot + d by omega)]

/-- An instruction of one cycle that writes a register and goes on leaves what `ecmelWrites` says. -/
theorem afterEcmel_goReg (d : Nat) :
    afterEcmel s u (s.goReg u { r with executed := r.executed + 1 } d v 1) = ecmelWrites s u r d v := by
  simp only [State.goReg, afterEcmel, ecmelWrites, pc_setReg, cycles_setReg]

theorem writesRegister_ecmelWrites (d : Nat) :
    WritesRegister s (ecmelWrites s u r d v) u r d v := by
  have hsu := su_setReg s u { r with executed := r.executed + 1 } v d
  have hsus := sus_setReg s u { r with executed := r.executed + 1 } v d
  have hr := run_setReg s u { r with executed := r.executed + 1 } v d
  refine ⟨_, congrArg SuSt.run (su_setSu_same ..), ?_, rfl, ?_, rfl, fun g _ => ?_, ?_, fun x hx => ?_, ?_⟩
  · exact congrArg (fun y : SuRun => { y with pc := r.pc, executed := r.executed, cycles := r.cycles }) hr
  · exact executed_setReg ..
  · unfold ecmelWrites
    rw [su_setSu_same]
    exact reg_setReg s u { r with executed := r.executed + 1 } v d g
  · unfold ecmelWrites
    rw [su_setSu_same]
    exact congrArg (fun y : SuSt => { y with run := (s.su u).run }) hsu
  · exact (su_setSu_other _ _ hx).trans (su_setReg_other _ _ _ _ d hx)
  · exact hsus

end

/-! ### The obligation -/

/-- Settles O26: the instruction comes to its outcome (`exec_of_nextEcmel`), which is a fault or a register write
(`afterEcmel_goReg`), and a register write leaves all else as it was (`writesRegister_ecmelWrites`). -/
theorem ecmelRegisterInstructions : Obligations.EcmelRegisterInstructions := by
  unfold Obligations.EcmelRegisterInstructions
  intro s u r w g
  have writes (d v : Nat) := afterEcmel_goReg s u r v d
  exact ⟨fun h => exec_of_nextEcmel h (execEcmelNop.eq_def u s) rfl,
    fun h => exec_of_nextEcmel h (execMovi.eq_def u s) (writes ..),
    fun h => exec_of_nextEcmel h (execEcmelAlu.eq_def u s) (writes ..),
    fun h => exec_of_nextEcmel h (execEcmelGet.eq_def u s) (writes ..),
    fun h => exec_of_nextEcmel h (execEcmelHdr.eq_def u s) (writes ..),
    fun h hin => exec_of_nextEcmel h (execLdp.eq_def u s) ((congrArg _ (if_neg (Nat.not_lt.mpr hin))).trans (writes ..)),
    fun h hbeyond => exec_of_nextEcmel h (execLdp.eq_def u s) (congrArg (afterEcmel s u) (if_pos hbeyond)),
    fun h => exec_of_nextEcmel h (execPadd.eq_def u s) (writes ..),
    fun h hin => exec_of_nextEcmel h (execBtest.eq_def u s) ((congrArg _ (if_neg (Nat.not_le.mpr hin))).trans (writes ..)),
    fun h hbeyond => exec_of_nextEcmel h (execBtest.eq_def u s) (congrArg (afterEcmel s u) (if_pos hbeyond)),
    fun d v _ _ => writesRegister_ecmelWrites s u r v d⟩

end Sys2Proof.Laws
end

section
/-! PROOFS. The control, output, bitmap and record instructions of a stream program (O27). -/

namespace Sys2Proof.Laws

set_option Elab.async false

open Sys2Proof.Machine

/-! ### One bit of a bitmap region -/

theorem testBit_eq_bits (v k : Nat) : v.testBit k = decide (bits v k 1 = 1) := by
  rw [bits_eq, Nat.testBit_eq_decide_div_mod_eq, Nat.pow_one]

theorem testBit_setBits_same (v k x : Nat) : (setBits v k 1 x).testBit k = x.testBit 0 := by
  rw [testBit_eq_bits, testBit_eq_bits, bits_setBits_same, bits_eq, Nat.pow_zero, Nat.div_one]

theorem testBit_setBits_other (v x : Nat) {j k : Nat} (h : j ≠ k) : (setBits v k 1 x).testBit j = v.testBit j := by
  rw [testBit_eq_bits, testBit_eq_bits, bits_setBits_other _ _ _ _ _ _ (by omega)]

theorem testBit_ofNat_byte (v : Nat) {j : Nat} (h : j < 8) : (BitVec.ofNat 8 v).toNat.testBit j = v.testBit j := by
  rw [BitVec.toNat_ofNat, Nat.testBit_mod_two_pow, decide_eq_true h, Bool.true_and]

/-- The byte of a stream unit's bitmap memory that holds bit `i` of a slot's region (R327). -/
def bitmapByte (s : State) (slot i : Nat) : Nat := slot / 8 * 2 ^ 21 + (s.slotBase slot + i) / 8

/-- The state with bit `i` of a slot's region written (R327). -/
def bitWritten (s : State) (slot i x : Nat) : State :=
  s.memWrite spaceBitmap (bitmapByte s slot i)
    [BitVec.ofNat 8 (setBits (s.mem8 spaceBitmap (bitmapByte s slot i)).toNat ((s.slotBase slot + i) % 8) 1 x)]

theorem mem8_bitWritten_same (s : State) (slot x : Nat) {i j : Nat}
    (h : (s.slotBase slot + j) / 8 = (s.slotBase slot + i) / 8) :
    (bitWritten s slot i x).mem8 spaceBitmap (bitmapByte s slot j) =
      BitVec.ofNat 8 (setBits (s.mem8 spaceBitmap (bitmapByte s slot j)).toNat ((s.slotBase slot + i) % 8) 1 x) := by
  have hbyte : bitmapByte s slot j = bitmapByte s slot i := by unfold bitmapByte; rw [h]
  rw [hbyte, bitWritten, mem8_memWrite, if_pos ⟨Nat.le_refl _, Nat.lt_succ_self _⟩, Nat.sub_self]
  rfl

theorem mem8_bitWritten_other (s : State) (slot x : Nat) {i j : Nat}
    (h : (s.slotBase slot + j) / 8 ≠ (s.slotBase slot + i) / 8) :
    (bitWritten s slot i x).mem8 spaceBitmap (bitmapByte s slot j) = s.mem8 spaceBitmap (bitmapByte s slot j) := by
  rw [bitWritten, mem8_memWrite, if_neg]
  unfold memKey bitmapByte
  rw [List.length_singleton]
  omega

theorem bitmapBit_bitWritten_same (s : State) (slot i x : Nat) : (bitWritten s slot i x).bitmapBit slot i = x.testBit 0 := by
  have hbyte := mem8_bitWritten_same s slot x (rfl : (s.slotBase slot + i) / 8 = _)
  refine (congrArg (fun b : Byte => b.toNat.testBit ((s.slotBase slot + i) % 8)) hbyte).trans ?_
  exact (testBit_ofNat_byte _ (Nat.mod_lt _ (by decide))).trans (testBit_setBits_same ..)

theorem bitmapBit_bitWritten_other (s : State) (slot x : Nat) {i j : Nat} (h : j ≠ i) :
    (bitWritten s slot i x).bitmapBit slot j = s.bitmapBit slot j := by
  by_cases hbyte : (s.slotBase slot + j) / 8 = (s.slotBase slot + i) / 8
  · have hsame := mem8_bitWritten_same s slot x hbyte
    refine (congrArg (fun b : Byte => b.toNat.testBit ((s.slotBase slot + j) % 8)) hsame).trans ?_
    exact (testBit_ofNat_byte _ (Nat.mod_lt _ (by decide))).trans (testBit_setBits_other _ _ (by omega))
  · exact congrArg (fun b : Byte => b.toNat.testBit ((s.slotBase slot + j) % 8)) (mem8_bitWritten_other s slot x hbyte)

/-! ### Branches and records -/

/-- A run that branches goes on ahead, or at the next instruction, in one cycle (R315). -/
theorem afterEcmel_branch (s : State) (u : Nat) (r : SuRun) (c : Prop) [Decidable c] (n : Nat) :
    afterEcmel s u (if c then .jump s r (r.pc + 1 + n) else .go s r 1) = s.setSu u { s.su u with
      run := some { r with pc := if c then r.pc + 1 + n else r.pc + 1, cycles := r.cycles + 1 } } := by
  split <;> rfl

/-- The record of a GATH with one contribution more (R324). -/
def gathered (x : SuRec) (rank : Nat) (payload : List Byte) : SuRec :=
  { x with seen := x.seen ++ [rank], parts := x.parts ++ [(rank, payload)], done := x.done + 1 }

/-- The output buffer is no part of the payload, so contributions of its length are put at the same places throughout. -/
theorem foldl_put_of_length (parts : List (Nat × List Byte)) {r : SuRun} {n : Nat} (h : r.payload.length = n) :
    parts.foldl (fun x p => x.put (p.1 * n) p.2) r = parts.foldl (fun x p => x.put (p.1 * x.payload.length) p.2) r := by
  induction parts generalizing r with
  | nil => rfl
  | cons p parts ih =>
    rw [List.foldl_cons, List.foldl_cons, h]
    exact ih h

/-- A GATH whose record takes the contribution, and completes with the last one (R324). -/
theorem gath_of_taken {s v : State} {u w : Nat} {r : SuRun} {g : Nat → Nat} {x : SuRec}
    (hfits : (bits w 0 12 + 1) * r.payload.length ≤ 4096)
    (hopen : s.openRec u r.slot (g (ecRa w)) [1, bits w 0 12 + 1, r.payload.length]
      ((bits w 0 12 + 1) * r.payload.length) = .ok (x, v))
    (hparams : x.params = [1, bits w 0 12 + 1, r.payload.length]) (hrank : g (ecRb w) < bits w 0 12 + 1)
    (hnew : x.seen.contains (g (ecRb w)) = false) :
    let z := gathered x (g (ecRb w)) r.payload
    let cost := 1 + ceilDiv r.payload.length 64
    s.gath u r w g = if z.done = bits w 0 12 + 1
      then ((v.setSuRec u z).closeRec u z).goReg u (z.parts.foldl (fun x p => x.put (p.1 * x.payload.length) p.2) r)
        (ecRd w) 1 cost
      else (v.setSuRec u z).goReg u r (ecRd w) 0 cost := by
  intro z cost
  unfold State.gath
  extract_lets n plen params rank cost'
  rw [if_neg (Nat.not_lt.mpr hfits), hopen]
  simp only
  rw [if_neg (not_not.mpr hparams), if_neg (not_or.mpr ⟨Nat.not_le.mpr hrank, by rw [hnew]; exact Bool.false_ne_true⟩)]
  rw [foldl_put_of_length _ rfl]
  rfl

/-! ### The obligation -/

/-- Settles O27: each instruction comes to the outcome of its row (`exec_of_nextEcmel`); BSET writes one bit of the region
(`bitmapBit_bitWritten_same`, `bitmapBit_bitWritten_other`), and GATH completes with its last contribution
(`gath_of_taken`). -/
theorem ecmelControlOutputAndRecords : Obligations.EcmelControlOutputAndRecords := by
  unfold Obligations.EcmelControlOutputAndRecords
  refine ⟨fun s u r w => ?_, fun s u r w => ?_⟩
  · intro g x
    have within {j k m n : Nat} (hsource : j ≤ k) (hdest : m ≤ n) : ¬(k < j ∨ n < m) :=
      not_or.mpr ⟨Nat.not_lt.mpr hsource, Nat.not_lt.mpr hdest⟩
    refine ⟨fun h => exec_of_nextEcmel h (execEcmelEnd.eq_def u s) rfl,
      fun h => exec_of_nextEcmel h (execEcmelDrop.eq_def u s) rfl,
      fun h => exec_of_nextEcmel h (execBrz.eq_def u s) ?_,
      fun h => exec_of_nextEcmel h (execBrnz.eq_def u s) ?_,
      fun h => exec_of_nextEcmel h (execOhdr.eq_def u s) rfl,
      fun h hout => exec_of_nextEcmel h (execOput.eq_def u s) (congrArg (afterEcmel s u) (if_neg (Nat.not_lt.mpr hout))),
      fun h hin hout => exec_of_nextEcmel h (execOcopy.eq_def u s) (congrArg (afterEcmel s u) (if_neg (within hin hout))),
      fun h hout => exec_of_nextEcmel h (execOzero.eq_def u s) (congrArg (afterEcmel s u) (if_neg (Nat.not_lt.mpr hout))),
      fun h hin hout => exec_of_nextEcmel h (execGfmac.eq_def u s) (congrArg (afterEcmel s u) (if_neg (within hin hout))),
      fun h hout hsendable hroom => exec_of_nextEcmel h (execEcmelSend.eq_def u s) ?_,
      fun h hin =>
        ⟨bitWritten s r.slot (g (ecRa w)) (bits w 0 1), exec_of_nextEcmel h (execBset.eq_def u s) ?_, ?_, ?_, rfl⟩⟩
    · exact afterEcmel_branch s u x (g (ecRa w) = 0) _
    · exact (afterEcmel_branch s u x (g (ecRa w) ≠ 0) _).trans (by simp only [ite_not]; rfl)
    · refine (congrArg _ (if_neg (Nat.not_lt.mpr hout))).trans ?_
      refine (congrArg _ (if_neg (ne_of_eq_of_ne (congrArg Bool.not hsendable) Bool.false_ne_true))).trans ?_
      refine (congrArg _ (if_neg (Nat.not_le.mpr hroom))).trans ?_
      rfl
    · exact congrArg (afterEcmel s u) (if_neg (Nat.not_le.mpr hin))
    · rw [bitmapBit_bitWritten_same, bits_eq, Nat.pow_zero, Nat.div_one, Nat.testBit_mod_two_pow]
      rfl
    · exact fun j hj => bitmapBit_bitWritten_other s r.slot _ hj
  · intro g y
    refine ⟨?_,
      fun c v r' h hgo => exec_of_nextEcmel h (execEcmelRsum.eq_def u s) (congrArg (afterEcmel s u) hgo),
      ?_,
      fun c v r' h hgo => exec_of_nextEcmel h (execEcmelMerge.eq_def u s) (congrArg (afterEcmel s u) hgo)⟩
    · intro f h hformat rs hwhole all good kept v a
      refine exec_of_nextEcmel h (execEcmelFilt.eq_def u s) ?_
      simp only [hformat]
      rw [if_neg (not_not.mpr hwhole)]
      simp only [← decide_not, Nat.not_le]
      rfl
    · intro x v h n hfits hopen hparams hrank hnew z out k a
      refine exec_of_nextEcmel h (execEcmelGath.eq_def u s) ?_
      refine (congrArg (afterEcmel s u) (gath_of_taken (r := y) (g := g) hfits hopen hparams hrank hnew)).trans ?_
      by_cases hdone : z.done = n
      · simp only [a, k, out, if_pos hdone]
        exact congrArg _ (if_pos hdone)
      · simp only [a, k, out, if_neg hdone]
        exact congrArg _ (if_neg hdone)

end Sys2Proof.Laws
end

section
/-! PROOFS. Programs are loaded, marked ARRIVAL and cleared (O55). -/

namespace Sys2Proof.Laws

set_option Elab.async false

open Sys2Proof.Machine

/-! ### Programs -/

theorem rd_extend (s : State) (k digest : Nat) {c : ObjCode} (h : c ≠ Obj.measurement) (i : Nat) :
    (s.extend k digest).rd c i = s.rd c i := s.rd_wr_obj _ _ _ h

/-- What PROGRAM_INFO holds of a slot once the staged program stands in it (R318, R334). -/
def loadedInfo (s : State) (slot : Nat) : Nat :=
  1 + b2n ((imageInstrs (s.rd Obj.programStage 0)).any instrArrival) * 2 + bits (s.rd Obj.programStage 0) 0 16 * 2 ^ 8
    + ((s.fld Obj.programInfo slot 64 64 + 1) % 2 ^ 64) * 2 ^ 64

/-- The state with the staged program in a slot, measured (R511) and reported. -/
def programLoaded (s : State) (slot : Nat) : State :=
  (((s.wr Obj.programText slot (s.rd Obj.programStage 0)).wr Obj.programInfo slot (loadedInfo s slot)).extend 4
    (Config.sm3 (BitVec.ofNat 8 slot :: leBytes 2056 (s.rd Obj.programStage 0)) % 2 ^ 256)).wr Obj.programLoad 0 1

theorem bits_loadedInfo (s : State) (slot : Nat) : bits (loadedInfo s slot) 0 1 = 1 ∧
    bits (loadedInfo s slot) 1 1 = b2n ((imageInstrs (s.rd Obj.programStage 0)).any instrArrival) ∧
    bits (loadedInfo s slot) 8 16 = bits (s.rd Obj.programStage 0) 0 16 ∧
    bits (loadedInfo s slot) 64 64 = (s.fld Obj.programInfo slot 64 64 + 1) % 2 ^ 64 := by
  have hlen := bits_lt (s.rd Obj.programStage 0) 0 16
  have hmark : b2n ((imageInstrs (s.rd Obj.programStage 0)).any instrArrival) < 2 := by
    unfold b2n
    split <;> decide
  have hbits (lo w : Nat) := bits_eq (loadedInfo s slot) lo w
  simp only [hbits]
  unfold loadedInfo
  omega

section

variable {s : State} {slot : Nat} (hslot : slot < 256)
include hslot

theorem programLoad_of_used (hused : s.slotBound slot = true ∨ s.slotReserved slot = true) :
    exec (.programLoad slot) s = .next (s.wr Obj.programLoad 0 4) :=
  (if_neg (Nat.not_le.mpr hslot)).trans (if_pos (by simpa using hused))

theorem programClear_of_used (hused : s.slotBound slot = true ∨ s.slotReserved slot = true) :
    exec (.programClear slot) s = .next (s.wr Obj.programLoad 0 4) :=
  (if_neg (Nat.not_le.mpr hslot)).trans (if_pos (by simpa using hused))

variable (hbound : s.slotBound slot = false) (hreserved : s.slotReserved slot = false)
include hbound hreserved

theorem programLoad_of_refused {reason i : Nat} (hcheck : loaderCheck (s.rd Obj.programStage 0) = some (reason, i)) :
    exec (.programLoad slot) s = .next (s.wr Obj.programLoad 0 (3 + reason * 2 ^ 8 + i * 2 ^ 16)) := by
  refine (if_neg (Nat.not_le.mpr hslot)).trans ((if_neg (by simp [hbound, hreserved])).trans ?_)
  simp only [hcheck]

theorem programLoad_of_accepted (hcheck : loaderCheck (s.rd Obj.programStage 0) = none) :
    exec (.programLoad slot) s = .next (programLoaded s slot) := by
  refine (if_neg (Nat.not_le.mpr hslot)).trans ((if_neg (by simp [hbound, hreserved])).trans ?_)
  simp only [hcheck]
  rfl

theorem programClear_of_free : exec (.programClear slot) s =
    .next (((s.wr Obj.programText slot 0).wrFld Obj.programInfo slot 0 64 0).wr Obj.programLoad 0 2) :=
  (if_neg (Nat.not_le.mpr hslot)).trans (if_neg (by simp [hbound, hreserved]))

end

theorem programLoaded_reads (s : State) (slot : Nat) :
    (programLoaded s slot).rd Obj.programText slot = s.rd Obj.programStage 0 ∧
      (programLoaded s slot).rd Obj.programInfo slot = loadedInfo s slot ∧ (programLoaded s slot).rd Obj.programLoad 0 = 1 := by
  unfold programLoaded
  refine ⟨?_, ?_, State.rd_wr_same _ _ _ _ rfl⟩
  · rw [State.rd_wr_obj _ _ _ _ (by decide), rd_extend _ _ _ (by decide), State.rd_wr_obj _ _ _ _ (by decide)]
    exact State.rd_wr_same _ _ _ _ rfl
  · rw [State.rd_wr_obj _ _ _ _ (by decide), rd_extend _ _ _ (by decide)]
    exact State.rd_wr_same _ _ _ _ rfl

/-! ### The ARRIVAL mark -/

theorem instrArrival_iff (w : Nat) : instrArrival w = true ↔ (bits w 56 8 = 0x20 ∧ bits w 30 2 = 2) ∨ bits w 56 8 = 0x2B ∨
    ((bits w 56 8 = 0x05 ∨ bits w 56 8 = 0x06 ∨ bits w 56 8 = 0x07 ∨ bits w 56 8 = 0x08 ∨ bits w 56 8 = 0x09 ∨
      bits w 56 8 = 0x2A) ∧ 48 ≤ bits w 50 6) := by
  simp only [instrArrival, Bool.or_eq_true, Bool.and_eq_true, beq_iff_eq, decide_eq_true_eq, or_assoc]
  rfl

theorem any_imageInstrs (image : Nat) (p : Nat → Bool) :
    (imageInstrs image).any p = true ↔ ∃ i, i < bits image 0 16 ∧ p (imageInstr image i) = true := by
  simp only [imageInstrs, List.any_map, List.any_eq_true, List.mem_range, Function.comp_apply]

/-- Settles O55: the loader puts into PROGRAM_INFO whether some instruction marks the program (`bits_loadedInfo`), which
`instrArrival` tells of each by the table of R315. -/
theorem loaderMarksArrivalPrograms : Obligations.LoaderMarksArrivalPrograms := by
  unfold Obligations.LoaderMarksArrivalPrograms
  intro s slot hslot hbound hreserved image hcheck
  obtain ⟨-, hinfo, -⟩ := programLoaded_reads s slot
  obtain ⟨-, hmark, -, -⟩ := bits_loadedInfo s slot
  have hone (b : Bool) : b2n b = 1 ↔ b = true := by cases b <;> decide
  refine ⟨_, programLoad_of_accepted hslot hbound hreserved hcheck, ?_⟩
  rw [State.fld, hinfo, hmark, hone, any_imageInstrs]
  exact exists_congr fun i => and_congr_right fun _ => instrArrival_iff _

end Sys2Proof.Laws
end

section
/-! PROOFS. Frames are delivered to bound slots and run; slots are bound, unbound and cleared (O28). -/

namespace Sys2Proof.Laws

set_option Elab.async false

open Sys2Proof.Machine

/-! ### Delivery and runs -/

@[simp] theorem su_wr (s : State) (c : ObjCode) (i v u : Nat) : (s.wr c i v).su u = s.su u := rfl

@[simp] theorem su_useSlots (s : State) (slot : Nat) (d : Int) (u : Nat) : (s.useSlots slot d).su u = s.su u := su_wr ..

@[simp] theorem su_suCount (s : State) (slot k n u : Nat) : (s.suCount slot k n).su u = s.su u := su_wr ..

/-- The entry of DIVERT_MAP or MC_SU_MAP that names the slot of a frame (R308). -/
def mapEntry (s : State) (f : Frame) : Nat :=
  if f.mc then s.rd Obj.mcSuMap (f.dest % 4096) else s.rd Obj.divertMap ((if f.bclass = 4 then 4096 else 0) + f.dest % 4096)

theorem suFrameDeliver_of_bound {s : State} {f : Frame} (hscratched : s.scratched = false)
    (hvalid : (mapEntry s f).testBit 15 = true) (hbound : s.slotBound (bits (mapEntry s f) 0 8) = true)
    (hkind : s.slotKind (bits (mapEntry s f) 0 8) = if f.mc then 2 else 1) (hclass : f.bclass = 3 ∨ f.bclass = 4)
    (ingress : Nat) :
    exec (.suFrameDeliver ingress f) s = .next (s.suTake (bits (mapEntry s f) 0 8) ingress f) := by
  refine (if_neg (by simp [hscratched])).trans (if_pos ?_)
  simp only [Bool.and_eq_true, Bool.or_eq_true, beq_iff_eq]
  exact ⟨⟨⟨hvalid, hbound⟩, hkind⟩, hclass⟩

theorem waiting_suTake {s : State} {slot : Nat} (ingress : Nat) {f : Frame} (hfree : s.slotFree slot ≠ 0)
    (hfits : 32 + f.plen ≤ s.poolSize (s.slotPool slot)) :
    ((s.suTake slot ingress f).su (slot / 8)).waiting = (s.su (slot / 8)).waiting ++ [⟨slot, ingress, f⟩] := by
  unfold State.suTake
  simp only
  rw [if_neg (not_or.mpr ⟨hfree, Nat.not_lt.mpr hfits⟩), su_suCount, su_useSlots, su_setSu_same]

/-- The run that starts with a waiting frame (R311). -/
def startingRun (s : State) (u : Nat) (w : SuFrame) : SuRun :=
  { slot := w.slot, ingress := w.ingress, frame := w.frame, payload := w.frame.payload, ohdr := w.frame.hdr, out := [],
    regs := [], pc := 0, executed := 0, cycles := 4, id := (s.su u).nextRun, seed := s.rd Obj.rngSeed 0, rank := s.logicalRank,
    free := s.free }

/-- The state in which a run starts: the random bits of a module without a logical rank are drawn (R470). -/
def runReady (s : State) : State := if s.logicalRank.isNone then s.drawn else s

theorem slotKind_runReady (s : State) (slot : Nat) : (runReady s).slotKind slot = s.slotKind slot := by
  unfold runReady
  split <;> rfl

theorem suRunStart_next {s : State} {u : Nat} {w : SuFrame} {rest : List SuFrame} (hu : u < 32) (hscratched : s.scratched = false)
    (hidle : (s.su u).run = none) (hwaiting : (s.su u).waiting = w :: rest) (hguard : s.guardWaits u = false)
    (hkind : s.slotKind w.slot ≠ 3) : exec (.suRunStart u) s = .next ((runReady s).setSu u { s.su u with
      waiting := rest, run := some (startingRun s u w), nextRun := (s.su u).nextRun + 1 }) := by
  refine (if_neg (Nat.not_le.mpr hu)).trans ?_
  simp only [hidle, hwaiting, hscratched, hguard]
  rw [if_neg (by decide)]
  exact if_neg (by rw [← slotKind_runReady] at hkind; exact hkind)

theorem guardRun_next {s : State} {ctx : Nat} {g : GuardStore} (hctx : ctx < 4096) (hscratched : s.scratched = false)
    (hstore : (s.dst ctx).store = some g) (hphase : g.phase = 1) (hidle : (s.su (guardSu ctx g.wid)).run = none)
    (hroom : s.deltaRoom g.desc = true) : exec (.guardRun ctx) s =
      .next ((s.incSat Obj.suBusy (guardSu ctx g.wid) 0 64 (4 + 3 * ceilDiv g.old.length 64)).guardDeltas ctx) := by
  refine (if_neg (Nat.not_le.mpr hctx)).trans ?_
  simp only [hstore]
  exact if_neg (by simp [hphase, hidle, hscratched, hroom])

/-! ### Bindings -/

/-- The state with a slot bound to a descriptor and the buffers of its reservation (R319). -/
def slotTaken (a : PoolAns) (slot d : Nat) : State :=
  let t := ({ a.state with suBufs := KMap.set a.state.suBufs [] slot a.bufs }).wr Obj.bindState slot
    (1 + bits d 0 3 * 2 ^ 2 + bits d 0 192 * 2 ^ 64)
  let x := t.su (slot / 8)
  (t.setSu (slot / 8) { x with kept := x.kept.filter fun p => p.1 / 64 != slot }).wr Obj.suFault slot 0

/-- What a reservation in a pool writes. -/
def reserveFoot : Nat := 0x1c00000001e1f198638680700000010000008000001040011a0000000221c81800a900000040ec000001c00

theorem poolReserve_agree (s : State) (p owner n : Nat) (ecc : Ecc) : Agree reserveFoot s (s.poolReserve p owner n ecc).state :=
  (State.poolReserve_closed (Agree.closed s (by decide +kernel)) (Agree.refl _ s) p owner n ecc).state

/-- A binding is refused, and the state is as the pool's answer left it, or the slot is taken (R319). -/
def BindAnswered (s : State) (a : PoolAns) (slot d : Nat) (r : Nat × State) : Prop :=
  (r.1 ≠ 1 ∧ Agree reserveFoot s r.2) ∨ r = (1, slotTaken a slot d)

theorem bindSlot_answered (s : State) (slot d : Nat) (kinds : List Nat) (ecc : Ecc) :
    BindAnswered s (s.poolReserve (bits d 8 6) (ownerSlot slot) (bits d 16 16) ecc) slot d (s.bindSlot slot d kinds ecc) := by
  have refused (k : Nat) (hk : k ≠ 1) :
      BindAnswered s (s.poolReserve (bits d 8 6) (ownerSlot slot) (bits d 16 16) ecc) slot d (k, s) :=
    .inl ⟨hk, Agree.refl _ s⟩
  unfold State.bindSlot
  exact ite_sat (refused 2 (by decide)) <| ite_sat (refused 3 (by decide)) <| ite_sat (refused 4 (by decide)) <|
    ite_sat (refused 5 (by decide)) <| ite_sat (refused 6 (by decide)) <|
    ite_sat (.inl ⟨(by decide : 7 ≠ 1), poolReserve_agree ..⟩) (.inr rfl)

theorem bind_next {s : State} {slot : Nat} (hslot : slot < 256) (ecc : Ecc) : exec (.bind slot ecc) s =
    .next ((s.bindSlot slot (s.rd Obj.bindDesc 0) [1, 2] ecc).2.wr Obj.bindCmd 0
      (s.bindSlot slot (s.rd Obj.bindDesc 0) [1, 2] ecc).1) := if_neg (Nat.not_le.mpr hslot)

theorem slotTaken_reads (a : PoolAns) (slot d : Nat) : (slotTaken a slot d).slotBound slot = true ∧
    (slotTaken a slot d).slotKind slot = bits d 0 3 ∧ (slotTaken a slot d).slotUsed slot = 0 ∧
    (slotTaken a slot d).rd Obj.suFault slot = 0 ∧ KMap.get (slotTaken a slot d).suBufs [] slot = a.bufs := by
  have hstate : (slotTaken a slot d).rd Obj.bindState slot = 1 + bits d 0 3 * 2 ^ 2 + bits d 0 192 * 2 ^ 64 := by
    unfold slotTaken
    rw [State.rd_wr_obj _ _ _ _ (by decide), State.setSu_rd]
    exact State.rd_wr_same _ _ _ _ rfl
  have hkind := bits_lt d 0 3
  have hbits (lo w : Nat) : (slotTaken a slot d).fld Obj.bindState slot lo w =
      (1 + bits d 0 3 * 2 ^ 2 + bits d 0 192 * 2 ^ 64) / 2 ^ lo % 2 ^ w := by rw [State.fld, hstate, bits_eq]
  refine ⟨?_, ?_, ?_, State.rd_wr_same _ _ _ _ rfl, get_set_same ..⟩
  · rw [State.slotBound, hbits, beq_iff_eq]
    omega
  · rw [State.slotKind, hbits]
    omega
  · rw [State.slotUsed, hbits]
    omega

/-- A slot is free once its binding has ended, and its buffers are with the pool (R320). -/
theorem unbindSlot_reads (s : State) (slot : Nat) : (s.unbindSlot slot).slotBound slot = false ∧
    KMap.get (s.unbindSlot slot).suBufs [] slot = [] := by
  refine ⟨?_, by unfold State.unbindSlot; simp only [State.wr_suBufs, get_set_same]⟩
  have hstate : (s.unbindSlot slot).rd Obj.bindState slot = 0 := State.rd_wr_same _ _ _ _ rfl
  rw [State.slotBound, State.fld, hstate]
  decide

theorem slotBound_bindCmd (s : State) (v slot : Nat) : (s.wr Obj.bindCmd 0 v).slotBound slot = s.slotBound slot :=
  congrArg (· == 1) (s.fld_wr_obj 0 slot v 0 2 (by decide))

section

variable {s : State} {slot : Nat} (hslot : slot < 256) (hbound : s.slotBound slot = true) (hkind : s.slotKind slot < 3)
include hslot hbound hkind

theorem unbind_of_quiet (hquiet : s.slotActive slot = false) :
    exec (.unbind slot) s = .next ((s.unbindSlot slot).wr Obj.bindCmd 0 1) := by
  refine (if_neg (Nat.not_le.mpr hslot)).trans ((if_neg ?_).trans (if_neg (by rw [hquiet]; exact Bool.false_ne_true)))
  simp [hbound, hkind]

theorem forceUnbind_of_bound :
    exec (.forceUnbind slot) s = .next (((s.discardSlot slot).unbindSlot slot).wr Obj.bindCmd 0 1) := by
  refine (if_neg (Nat.not_le.mpr hslot)).trans (if_neg ?_)
  simp [hbound, hkind]

end

/-! ### The bitmap memories -/

/-- The state with the bitmap memory of a stream unit cleared and the clear reported (R335). -/
def bitmapCleared (s : State) (u : Nat) : State :=
  { s.wr Obj.bitmapClear 0 1 with mem := s.mem.filter fun c => c.1 / 2 ^ 21 != memKey spaceBitmap (u * 2 ^ 21) / 2 ^ 21 }

theorem bitmapClear_bitmapCleared (s : State) (u : Nat) : (bitmapCleared s u).rd Obj.bitmapClear 0 = 1 :=
  State.rd_wr_same s Obj.bitmapClear 0 1 rfl

theorem mem8_bitmapCleared (s : State) (u : Nat) {off : Nat} (hoff : off < 2 ^ 21) :
    (bitmapCleared s u).mem8 spaceBitmap (u * 2 ^ 21 + off) = 0 := by
  have hfound := find_filter s.mem (fun k => k / 2 ^ 21 != memKey spaceBitmap (u * 2 ^ 21) / 2 ^ 21)
    (memKey spaceBitmap (u * 2 ^ 21 + off))
  have hunit : memKey spaceBitmap (u * 2 ^ 21 + off) / 2 ^ 21 = memKey spaceBitmap (u * 2 ^ 21) / 2 ^ 21 := by
    unfold memKey
    omega
  rw [hunit, bne_self_eq_false, if_neg Bool.false_ne_true] at hfound
  exact congrArg (Option.getD · 0) hfound

/-- The state with a clear of a stream unit's bitmap memory among what waits for the end of its run (R320). -/
def clearAsked (s : State) (u : Nat) : State :=
  (s.setSu u { s.su u with later := (s.su u).later ++ [none] }).wr Obj.bitmapClear 0 0

theorem su_clearAsked (s : State) (u : Nat) : (clearAsked s u).su u = { s.su u with later := (s.su u).later ++ [none] } :=
  (su_wr ..).trans (su_setSu_same ..)

theorem bitmapClear_of_idle {s : State} {u : Nat} (hu : u < 32) (hidle : (s.su u).run = none) :
    exec (.bitmapClear u) s = .next ((clearAsked s u).bitmapLater u) := by
  have hrun : ((clearAsked s u).su u).run.isSome = false := by rw [su_clearAsked, hidle]; rfl
  exact (if_neg (Nat.not_le.mpr hu)).trans (congrArg _ (if_neg (ne_of_eq_of_ne hrun Bool.false_ne_true)))

theorem bitmapLater_of_clear {s : State} {u : Nat} (h : (s.su u).later = [none]) :
    s.bitmapLater u = (bitmapCleared s u).setSu u { s.su u with later := [] } := by
  unfold State.bitmapLater
  rw [h]
  rfl

/-! ### The obligation -/

/-- Settles O28: a frame waits at its slot (`waiting_suTake`) and starts a run (`suRunStart_next`), the Guard program runs
(`guardRun_next`); the commands leave the program (`programLoaded_reads`), the binding (`slotTaken_reads`,
`unbindSlot_reads`) and the bitmap memory (`mem8_bitmapCleared`) as stated, or refuse. -/
theorem streamUnitsRunTheirPrograms : Obligations.StreamUnitsRunTheirPrograms := by
  unfold Obligations.StreamUnitsRunTheirPrograms
  refine ⟨fun s hscratched => ⟨fun ingress f => ?_, fun u w rest hu hidle hwaiting hguard hkind =>
      ⟨_, _, suRunStart_next hu hscratched hidle hwaiting hguard hkind, congrArg SuSt.run (su_setSu_same ..),
        congrArg SuSt.waiting (su_setSu_same ..), rfl, rfl, rfl, rfl, rfl, rfl, rfl⟩,
      fun ctx g hctx hstore hphase hidle hroom => guardRun_next hctx hscratched hstore hphase hidle hroom⟩,
    fun s slot hslot => ⟨fun hbound hreserved hcheck => ⟨_, programLoad_of_accepted hslot hbound hreserved hcheck, ?_⟩,
      fun reason i hbound hreserved hcheck => programLoad_of_refused hslot hbound hreserved hcheck,
      fun hbound => ⟨programLoad_of_used hslot (.inl hbound), programClear_of_used hslot (.inl hbound)⟩,
      fun hbound hreserved => ⟨_, programClear_of_free hslot hbound hreserved, ?_, ?_, State.rd_wr_same _ _ _ _ rfl⟩,
      fun ecc => ?_, fun ecc hrefused => ⟨_, bind_next hslot ecc, State.rd_wr_same _ _ _ _ rfl, ?_⟩,
      fun hbound hkind hquiet => ⟨_, unbind_of_quiet hslot hbound hkind hquiet, ?_, ?_, State.rd_wr_same _ _ _ _ rfl⟩,
      fun hbound hkind => ⟨_, forceUnbind_of_bound hslot hbound hkind, ?_, ?_, State.rd_wr_same _ _ _ _ rfl⟩,
      fun u hu hidle hlater => ⟨_, bitmapClear_of_idle hu hidle, ?_⟩⟩⟩
  · intro e slot hvalid hbound hkind hclass
    exact ⟨suFrameDeliver_of_bound hscratched hvalid hbound hkind hclass ingress, waiting_suTake ingress⟩
  · obtain ⟨htext, hinfo, hload⟩ := programLoaded_reads s slot
    obtain ⟨hloaded, -, hlen, hloads⟩ := bits_loadedInfo s slot
    simp only [State.fld, hinfo]
    exact ⟨htext, hloaded, hlen, hloads, hload⟩
  · rw [State.rd_wr_obj _ _ _ _ (by decide), State.rd_wrFld_obj _ _ _ _ _ _ (by decide)]
    exact State.rd_wr_same _ _ _ _ rfl
  · rw [State.fld_wr_obj _ _ _ _ _ _ (by decide), State.fld, State.wrFld_eq, State.rd_wr_same _ _ _ _ rfl, bits_eq, setBits_eq]
    omega
  · intro d a hdone
    rcases bindSlot_answered s slot d [1, 2] ecc with ⟨hrefused, -⟩ | htaken
    · exact absurd hdone hrefused
    · obtain ⟨hbound, hkind, hused, hfault, hbufs⟩ := slotTaken_reads a slot d
      have hbind := bind_next (s := s) hslot ecc
      rw [htaken] at hbind
      refine ⟨_, hbind, State.rd_wr_same _ _ _ _ rfl, (slotBound_bindCmd ..).trans hbound, ?_, ?_, ?_, hbufs⟩
      · exact (State.fld_wr_obj _ _ _ _ _ _ (by decide)).trans hkind
      · exact (State.fld_wr_obj _ _ _ _ _ _ (by decide)).trans hused
      · exact (State.rd_wr_obj _ _ _ _ (by decide)).trans hfault
  · rcases bindSlot_answered s slot (s.rd Obj.bindDesc 0) [1, 2] ecc with ⟨-, hagree⟩ | htaken
    · exact (slotBound_bindCmd ..).trans (congrArg (· == 1) (hagree.fld (by decide +kernel) ..))
    · exact absurd (congrArg Prod.fst htaken) hrefused
  · exact (slotBound_bindCmd ..).trans (unbindSlot_reads s slot).1
  · exact (unbindSlot_reads s slot).2
  · exact (slotBound_bindCmd ..).trans (unbindSlot_reads (s.discardSlot slot) slot).1
  · exact (unbindSlot_reads (s.discardSlot slot) slot).2
  · rw [bitmapLater_of_clear (by rw [su_clearAsked, hlater]; rfl)]
    exact ⟨bitmapClear_bitmapCleared _ u, fun off hoff => mem8_bitmapCleared _ u hoff⟩

end Sys2Proof.Laws
end

section
/-! PROOFS. Groups are set up, destroyed and resumed (O29). -/

namespace Sys2Proof.Laws

set_option Elab.async false

open Sys2Proof.Machine

/-! ### Contexts and slots -/

@[simp] theorem ctx_setCtx_same (s : State) (c : Nat) (x : CtxSt) : (s.setCtx c x).ctx c = x := get_set_same ..

@[simp] theorem ctx_wr (s : State) (o : ObjCode) (i v c : Nat) : (s.wr o i v).ctx c = s.ctx c := rfl

@[simp] theorem ctx_wrFld (s : State) (o : ObjCode) (i lo w v c : Nat) : (s.wrFld o i lo w v).ctx c = s.ctx c := rfl

@[simp] theorem ctx_drawn (s : State) (c : Nat) : s.drawn.ctx c = s.ctx c := rfl

@[simp] theorem ctx_setSu (s : State) (u : Nat) (x : SuSt) (c : Nat) : (s.setSu u x).ctx c = s.ctx c := rfl

/-- The index of an object entry has 32 bits (R417). -/
theorem rd_of_index_eq (s : State) (o : ObjCode) {i j : Nat} (h : i % 2 ^ 32 = j % 2 ^ 32) : s.rd o i = s.rd o j := by
  unfold State.rd objKey
  rw [h]

/-- What a step of a fold makes true of its own element, and every step keeps of the others, the fold makes true of all. -/
theorem foldl_forall_mem {α β : Type} {f : β → α → β} {Q : β → α → Prop} (hown : ∀ b a, Q (f b a) a)
    (hkeep : ∀ b a j, Q b j → Q (f b a) j) {l : List α} {b : β} {j : α} (hj : j ∈ l) : Q (l.foldl f b) j := by
  induction l generalizing b with
  | nil => exact absurd hj List.not_mem_nil
  | cons a l ih =>
    rcases List.mem_cons.mp hj with rfl | hj
    · exact foldl_sat (Q := fun b => Q b j) (l := l) (hown b j) fun b a => hkeep b a j
    · exact ih hj

/-- A slot is bound for the collective engine (R340). -/
def CleBound (s : State) (slot : Nat) : Prop := s.slotBound slot = true ∧ s.slotKind slot = 3

/-- What BIND_STATE holds of such a slot of a group (R334, R340). -/
def cleEntry (x : CtxSt) : Nat := 1 + 3 * 2 ^ 2 + (3 + bits x.desc 56 6 * 2 ^ 8 + bits x.desc 104 8 * 2 ^ 32) * 2 ^ 64

theorem rd_bindCle (s : State) (x : CtxSt) (slot j : Nat) : (s.bindCle x slot).rd Obj.bindState j =
    if j % 2 ^ 32 = slot % 2 ^ 32 then cleEntry x else s.rd Obj.bindState j := by
  unfold State.bindCle
  rw [State.setSu_rd, State.rd_wr_obj _ _ _ _ (by decide)]
  split
  case isTrue h => exact (rd_of_index_eq _ _ h).trans (State.rd_wr_same _ _ _ _ rfl)
  case isFalse h => exact (State.rd_wr_idx _ _ _ _ h).trans ((State.drawn_rd ..).trans (State.rd_wr_obj _ _ _ _ (by decide)))

@[simp] theorem ctx_bindCle (s : State) (x : CtxSt) (slot c : Nat) : (s.bindCle x slot).ctx c = s.ctx c := by
  unfold State.bindCle
  rw [ctx_setSu, ctx_wr, ctx_wr, ctx_drawn, ctx_wr]

theorem cleBound_of_entry {s : State} {slot : Nat} {x : CtxSt} (h : s.rd Obj.bindState slot = cleEntry x) : CleBound s slot := by
  unfold CleBound State.slotBound State.slotKind State.fld
  rw [h, beq_iff_eq, bits_eq, bits_eq, cleEntry]
  omega

theorem cleBound_bindCle_same (s : State) (x : CtxSt) (slot : Nat) : CleBound (s.bindCle x slot) slot :=
  cleBound_of_entry ((rd_bindCle s x slot slot).trans (if_pos rfl))

theorem cleBound_bindCle (s : State) (x : CtxSt) (slot j : Nat) (h : CleBound s j) : CleBound (s.bindCle x slot) j := by
  have hentry := rd_bindCle s x slot j
  split at hentry
  · exact cleBound_of_entry hentry
  · unfold CleBound State.slotBound State.slotKind State.fld
    rw [hentry]
    exact h

theorem rd_discardSlot_bindState (s : State) (slot j : Nat) : (s.discardSlot slot).rd Obj.bindState j = s.rd Obj.bindState j :=
  (State.discardSlot_closed (Agree.closed s (by decide +kernel)) (Agree.refl _ s) slot).rd _ _ (by decide +kernel)

theorem rd_unbindCle (s : State) (slot j : Nat) : (s.unbindCle slot).rd Obj.bindState j =
    if j % 2 ^ 32 = slot % 2 ^ 32 then 0 else s.rd Obj.bindState j := by
  unfold State.unbindCle
  rw [State.rd_wrFld_obj _ _ _ _ _ _ (by decide)]
  split
  case isTrue h => exact (rd_of_index_eq _ _ h).trans (State.rd_wr_same _ _ _ _ rfl)
  case isFalse h => exact (State.rd_wr_idx _ _ _ _ h).trans (rd_discardSlot_bindState s slot j)

theorem slotBound_unbindCle (s : State) (slot j : Nat) :
    (s.unbindCle slot).slotBound j = if j % 2 ^ 32 = slot % 2 ^ 32 then false else s.slotBound j := by
  unfold State.slotBound State.fld
  rw [rd_unbindCle]
  split
  · decide
  · rfl

/-! ### SETUP -/

/-- The context that GROUP_DESC and the tables describe (R337). -/
def groupAsked (s : State) : CtxSt :=
  let y : CtxSt := { CtxSt.init with desc := s.rd Obj.groupDesc 0 }
  { y with members := (List.range y.n).map (s.rd Obj.memberTable), rps := (List.range y.r).map (s.rd Obj.rpTable) }

/-- The pool of the group. -/
def groupPool (s : State) : Nat := bits (s.rd Obj.groupDesc 0) 56 6

/-- The stream units that a reduction point of the group takes (R340). -/
def groupUnits (s : State) : Nat := 2 ^ bits (s.rd Obj.groupDesc 0) 52 2

/-- The pool buffers that the group needs (R339). -/
def groupNeed (s : State) : Nat :=
  let x := groupAsked s
  (if x.member then 16 * x.w else 0) + (if x.rp then 16 * ceilDiv x.w x.r * (x.n +
    (match ecFormat x.typeIn with | some f => recSlots x.mode f (s.poolSize (groupPool s)) | none => 0) + 1) else 0)

/-- The reservation of those buffers for a context. -/
def groupReserve (s : State) (c : Nat) (ecc : Ecc) : PoolAns := s.poolReserve (groupPool s) (ownerCtx c) (groupNeed s) ecc

/-- The slots that the group's stream units give. -/
def groupSlots (s : State) : List Nat := if (groupAsked s).rp then s.freeSlots.take (groupUnits s) else []

/-- What CTX_STATE holds of the group's context once it is open (R367). -/
def openedEntry (s : State) : Nat :=
  let d := s.rd Obj.groupDesc 0
  1 + (groupAsked s).group * 2 ^ 16 + bits d 128 32 * 2 ^ 32 + bits d 112 16 * 2 ^ 64 + bits d 160 32 * 2 ^ 96
    + groupNeed s * 2 ^ 160

/-- The context once it is open, with the buffers reserved for it. -/
def openedCtx (s : State) (a : PoolAns) : CtxSt := { groupAsked s with bufs := a.bufs, slots := groupSlots s }

/-- The state in which the group's slots are bound and its context is open. -/
def groupOpened (s : State) (c : Nat) (a : PoolAns) : State :=
  ((((groupSlots s).foldl (fun t k => t.bindCle (groupAsked s) k) (a.state.setCtx c (openedCtx s a))).wr Obj.ctxState c
    (openedEntry s)).wr Obj.ctxCounts c 0).wr Obj.groupCmd 0 (1 + c * 2 ^ 8)

theorem groupSetup_next {s : State} {c : Nat} (ecc : Ecc) (hrun : s.inRun = true)
    (hfree : (List.range 64).find? (fun c => s.ctxState c == 0) = some c) (hdesc : s.groupDescOk (groupAsked s) = true)
    (hnew : (List.range 64).any (fun k => s.ctxState k != 0 && (s.ctx k).group == (groupAsked s).group) = false)
    (hfast : (groupAsked s).mode = 2 → s.repro = false) (htree : s.groupTreeOk (groupAsked s) = true)
    (hslots : (groupAsked s).rp = true → groupUnits s ≤ s.freeSlots.length) (hsize : 4128 ≤ s.poolSize (groupPool s)) :
    exec (.groupSetup ecc) s = if (groupReserve s c ecc).code ≠ 1 then
      .next ((groupReserve s c ecc).state.wrFld Obj.groupCmd 0 0 8 8) else .next (groupOpened s c (groupReserve s c ecc)) := by
  have hrefuse {b : Bool} (hb : b = true) : ¬(!b) = true := by simp [hb]
  refine (if_neg (hrefuse hrun)).trans ?_
  simp only [hfree]
  exact (if_neg (hrefuse hdesc)).trans <| (if_neg (ne_true_of_eq_false hnew)).trans <|
    (if_neg fun ⟨hmode, hrepro⟩ => ne_true_of_eq_false (hfast hmode) hrepro).trans <| (if_neg (hrefuse htree)).trans <|
    (if_neg fun ⟨hrp, hfew⟩ => Nat.not_lt.mpr (hslots hrp) hfew).trans (if_neg (Nat.not_lt.mpr hsize))

theorem bits_openedEntry (s : State) : bits (openedEntry s) 0 2 = 1 ∧ bits (openedEntry s) 16 16 = (groupAsked s).group ∧
    bits (openedEntry s) 32 32 = bits (s.rd Obj.groupDesc 0) 128 32 ∧
    bits (openedEntry s) 64 16 = bits (s.rd Obj.groupDesc 0) 112 16 ∧
    bits (openedEntry s) 96 32 = bits (s.rd Obj.groupDesc 0) 160 32 := by
  have hgroup : (groupAsked s).group < 2 ^ 16 := bits_lt ..
  have hseq := bits_lt (s.rd Obj.groupDesc 0) 128 32
  have hepoch := bits_lt (s.rd Obj.groupDesc 0) 112 16
  have hchunk := bits_lt (s.rd Obj.groupDesc 0) 160 32
  have hbits (lo w : Nat) := bits_eq (openedEntry s) lo w
  simp only [hbits]
  dsimp only [openedEntry]
  omega

theorem groupOpened_reads (s : State) (c : Nat) (a : PoolAns) :
    (groupOpened s c a).rd Obj.ctxState c = openedEntry s ∧ (groupOpened s c a).ctx c = openedCtx s a ∧
      (groupOpened s c a).rd Obj.ctxCounts c = 0 ∧ (groupOpened s c a).rd Obj.groupCmd 0 = 1 + c * 2 ^ 8 := by
  refine ⟨?_, ?_, (State.rd_wr_obj _ _ _ _ (by decide)).trans (State.rd_wr_same _ _ _ _ rfl), State.rd_wr_same _ _ _ _ rfl⟩
  · unfold groupOpened
    rw [State.rd_wr_obj _ _ _ _ (by decide), State.rd_wr_obj _ _ _ _ (by decide)]
    exact State.rd_wr_same _ _ _ _ rfl
  · unfold groupOpened
    rw [ctx_wr, ctx_wr, ctx_wr]
    exact foldl_sat (Q := fun t : State => t.ctx c = openedCtx s a) (ctx_setCtx_same ..)
      fun t k h => (ctx_bindCle t _ k c).trans h

theorem cleBound_groupOpened (s : State) (c : Nat) (a : PoolAns) {k : Nat} (hk : k ∈ groupSlots s) :
    CleBound (groupOpened s c a) k := by
  have hbound : CleBound ((groupSlots s).foldl (fun t k => t.bindCle (groupAsked s) k) (a.state.setCtx c (openedCtx s a))) k :=
    foldl_forall_mem (fun t j => cleBound_bindCle_same t _ j) (fun t j i => cleBound_bindCle t _ j i) hk
  unfold CleBound State.slotBound State.slotKind groupOpened at *
  simp only [State.fld_wr_obj _ _ _ _ _ _ (by decide : Obj.bindState ≠ Obj.groupCmd),
    State.fld_wr_obj _ _ _ _ _ _ (by decide : Obj.bindState ≠ Obj.ctxCounts),
    State.fld_wr_obj _ _ _ _ _ _ (by decide : Obj.bindState ≠ Obj.ctxState)]
  exact hbound

/-! ### DESTROY -/

/-- The state in which a context's slots and buffers are given back and its frames are injected. -/
def groupFreed (s : State) (c : Nat) : State :=
  (s.ctx c).outbox.foldl (fun s f => s.send (.channel (76 + c % 2) f))
    (((s.ctx c).slots.foldl State.unbindCle s).poolRelease (bits (s.ctx c).desc 56 6) (ownerCtx c) (s.ctx c).bufs)

/-- The state in which the context is free (R341). -/
def groupDestroyed (s : State) (c : Nat) : State :=
  (((groupFreed s c).setCtx c CtxSt.init).wr Obj.ctxState c 0).wrFld Obj.groupCmd 0 0 8 1

theorem groupDestroy_next {s : State} {c : Nat} (hc : c < 64) (hstate : s.ctxState c = 1 ∨ s.ctxState c = 3) :
    exec (.groupDestroy c) s = .next (groupDestroyed s c) :=
  (if_neg (Nat.not_le.mpr hc)).trans (if_neg (not_and_or.mpr (hstate.imp not_not_intro not_not_intro)))

theorem groupDestroyed_reads (s : State) (c : Nat) : (groupDestroyed s c).ctxState c = 0 ∧
    (groupDestroyed s c).ctx c = CtxSt.init ∧ (groupDestroyed s c).fld Obj.groupCmd 0 0 8 = 1 := by
  refine ⟨?_, by simp [groupDestroyed], State.fld_wrFld_same _ _ _ _ _ _ rfl⟩
  have hentry : (groupDestroyed s c).rd Obj.ctxState c = 0 :=
    (State.rd_wrFld_obj _ _ _ _ _ _ (by decide)).trans (State.rd_wr_same _ _ _ _ rfl)
  rw [State.ctxState, State.fld, hentry]
  decide

theorem slotBound_poolRelease (s : State) (p owner slot : Nat) (bs : List Nat) :
    (s.poolRelease p owner bs).slotBound slot = s.slotBound slot :=
  congrArg (· == 1) <| (State.poolRelease_closed (Agree.closed s (by decide +kernel)) (Agree.refl _ s) p owner bs).fld
    (by decide +kernel) ..

theorem slotBound_groupDestroyed (s : State) (c : Nat) {k : Nat} (hk : k ∈ (s.ctx c).slots) :
    (groupDestroyed s c).slotBound k = false := by
  have hfreed : (groupFreed s c).slotBound k = false := by
    refine foldl_sat (Q := fun t : State => t.slotBound k = false) ?_ fun t f h => h
    rw [slotBound_poolRelease]
    exact foldl_forall_mem (Q := fun t j => t.slotBound j = false) (fun t j => (slotBound_unbindCle t j j).trans (if_pos rfl))
      (fun t i j h => (slotBound_unbindCle t i j).trans (ite_sat (Q := (· = false)) rfl h)) hk
  unfold groupDestroyed State.slotBound
  rw [State.fld_wrFld_obj _ _ _ _ _ _ _ _ (by decide), State.fld_wr_obj _ _ _ _ _ _ (by decide)]
  exact hfreed

/-! ### RESUME -/

/-- The global chunk at which an aborted context goes on (R364). -/
def resumeChunk (s : State) (c : Nat) : Nat :=
  (KMap.get (s.ctx c).firsts none (s.ctxAbortSeq c)).getD (s.fld Obj.ctxState c 96 32)

/-- What CTX_STATE holds of a context that goes on. -/
def resumedEntry (s : State) (c : Nat) : Nat :=
  setBits (setBits (setBits (setBits (setBits (s.rd Obj.ctxState c) 0 2 1) 8 8 0) 32 32 (s.ctxAbortSeq c)) 64 16
    (s.ctxEpoch c + 1)) 96 32 (resumeChunk s c)

/-- The state in which it is READY in the next epoch. -/
def groupResumed (s : State) (c : Nat) : State :=
  ((s.setCtx c { s.ctx c with retained := [], digests := [], aborted := false, early := [], parts := [], chunks := [] }).wr
    Obj.ctxState c (resumedEntry s c)).wrFld Obj.groupCmd 0 0 8 1

theorem groupResume_next {s : State} {c : Nat} (hc : c < 64) (hstate : s.ctxState c = 3) :
    exec (.groupResume c) s = .next (groupResumed s c) :=
  (if_neg (Nat.not_le.mpr hc)).trans (if_neg (not_not_intro hstate))

theorem bits_resumedEntry (s : State) (c : Nat) : bits (resumedEntry s c) 0 2 = 1 ∧
    bits (resumedEntry s c) 8 8 = 0 ∧ bits (resumedEntry s c) 32 32 = s.ctxAbortSeq c ∧
    bits (resumedEntry s c) 64 16 = (s.ctxEpoch c + 1) % 2 ^ 16 ∧ bits (resumedEntry s c) 96 32 = resumeChunk s c % 2 ^ 32 := by
  have hseq : s.ctxAbortSeq c % 2 ^ 32 = s.ctxAbortSeq c := Nat.mod_eq_of_lt (bits_lt ..)
  unfold resumedEntry
  simp (disch := omega) only [bits_setBits_same, bits_setBits_other, hseq]
  decide

theorem fld_groupResumed (s : State) (c lo w : Nat) : (groupResumed s c).fld Obj.ctxState c lo w = bits (resumedEntry s c) lo w :=
  congrArg (bits · lo w) ((State.rd_wrFld_obj _ _ _ _ _ _ (by decide)).trans (State.rd_wr_same _ _ _ _ rfl))

/-! ### The obligation -/

/-- Settles O29: SETUP answers by its reservation (`groupSetup_next`); the contexts that it opens, that DESTROY frees and
that RESUME restarts read as stated (`groupOpened_reads`, `groupDestroyed_reads`, `bits_resumedEntry`). -/
theorem collectiveGroupCommands : Obligations.CollectiveGroupCommands := by
  unfold Obligations.CollectiveGroupCommands
  refine fun s => ⟨fun c ecc => ?_, fun c hc hstate => ?_, fun c hc hstate => ?_, fun c hc hstate => ⟨?_, ?_⟩⟩
  · intro d y x pool hrun hfree hdesc hnew hfast htree hslots hsize need a slots u t
    have hnext := groupSetup_next ecc hrun hfree hdesc hnew hfast htree hslots hsize
    refine ⟨fun hcode => hnext.trans (if_pos hcode), fun hcode => ?_⟩
    obtain ⟨hentry, hctx, hcounts, hcmd⟩ := groupOpened_reads s c a
    obtain ⟨hready, hgroup, hseq, hepoch, hchunk⟩ := bits_openedEntry s
    have hfld (lo w : Nat) : t.fld Obj.ctxState c lo w = bits (openedEntry s) lo w := congrArg (bits · lo w) hentry
    exact ⟨hnext.trans (if_neg (not_not_intro hcode)), (hfld 0 2).trans hready, (hfld 16 16).trans hgroup,
      (hfld 32 32).trans hseq, (hfld 64 16).trans hepoch, (hfld 96 32).trans hchunk, hctx,
      fun k hk => cleBound_groupOpened s c a hk, hcounts, hcmd⟩
  · obtain ⟨hfree, hctx, hcmd⟩ := groupDestroyed_reads s c
    exact ⟨groupDestroy_next hc hstate, hfree, hctx, hcmd, fun k hk => slotBound_groupDestroyed s c hk⟩
  · obtain ⟨hready, hcause, hseq, hepoch, hchunk⟩ := bits_resumedEntry s c
    have hfld := fld_groupResumed s c
    exact ⟨groupResumed s c, groupResume_next hc hstate, (hfld 0 2).trans hready, (hfld 32 32).trans hseq,
      (hfld 64 16).trans hepoch, (hfld 96 32).trans hchunk, (hfld 8 8).trans hcause, by simp [groupResumed], State.fld_wrFld_same _ _ _ _ _ _ rfl⟩
  · exact (if_neg (Nat.not_le.mpr hc)).trans (if_pos (by omega))
  · exact (if_neg (Nat.not_le.mpr hc)).trans (if_pos (by omega))

end Sys2Proof.Laws
end

section
/-! PROOFS. Chunks are sent and resent, results are sent, and aborts take effect (O30). -/

namespace Sys2Proof.Laws

set_option Elab.async false

open Sys2Proof.Machine

/-! ### Chunks are sent -/

@[simp] theorem chunkRead_clean (s : State) (k : CollSt) (x : CtxSt) (i : Nat) : s.chunkRead k x i .clean = (true, s) := rfl

theorem now_ctxCount (s : State) (c k n : Nat) : (s.ctxCount c k n).now = s.now :=
  (State.ctxCount_closed (Agree.closed s (by decide +kernel)) (Agree.refl _ s) c k n).now (by decide +kernel)

theorem now_sendChunk (s : State) (c : Nat) (k : CollSt) (i t : Nat) : (s.sendChunk c k i t).now = s.now :=
  (State.sendChunk_closed (Agree.closed s (by decide +kernel)) (Agree.refl _ s) c k i t).now (by decide +kernel)

/-- Contribution chunk `i` is of the member's own pair of an exchange, which is copied and not sent (R358). -/
def OwnPair (k : CollSt) (x : CtxSt) (i : Nat) : Prop := isExchange k.op = true ∧ (exchangeAt k x x.n 0 i).1 = x.n - 1

section

variable {s : State} {c : Nat} {k : CollSt} {i : Nat} (hc : c < 64) (hscratched : s.scratched = false)
  (hstate : s.ctxState c = 2 ∨ s.ctxState c = 3) (hnext : s.nextSend c = some (k, i))
include hscratched hstate

theorem sends_of_state : ¬(s.scratched || !(s.ctxState c == 2 || s.ctxState c == 3)) = true := by
  rcases hstate with h | h <;> simp [hscratched, h]

include hc hnext

theorem chunkSend_of_other (hother : ¬ OwnPair k (s.ctx c) i) : exec (.chunkSend c .clean) s =
    .next (((s.sendChunk c k i 0).ctxCount c 0 1).setColl c { k with
      sent := i + 1, times := KMap.set k.times 0 (if isExchange k.op then 1 else k.chunkAt (s.ctx c) i) s.now }) := by
  refine (if_neg (Nat.not_le.mpr hc)).trans ((if_neg (sends_of_state hscratched hstate)).trans ?_)
  simp only [hnext, chunkRead_clean, now_ctxCount, now_sendChunk]
  exact if_neg hother

theorem chunkSend_of_own (hown : OwnPair k (s.ctx c) i) (hrecv : k.recv = (s.ctx c).n - 1)
    (hhanded : k.contribs (s.ctx c) ≤ k.handed) : exec (.chunkSend c .clean) s = .next (s.copyOwn c k) := by
  refine (if_neg (Nat.not_le.mpr hc)).trans ((if_neg (sends_of_state hscratched hstate)).trans ?_)
  simp only [hnext, chunkRead_clean]
  exact (if_pos hown).trans (if_pos ⟨hrecv, hhanded⟩)

end

/-! ### Retries are answered -/

section

variable {s : State} {f : Frame} {c : Nat} (hscratched : s.scratched = false) (htype : cleType f = 3) (hsub : cleSub f = 2)
  (htakes : s.ctxTakes c (cleEpoch f) (cleSeq f) = true)
include hscratched htype hsub htakes

theorem retryFrame_of_retained (ecc : Ecc) {r : Nat × Nat × List (List Byte)} (hctx : s.findCtx (cleGroup f) true = some c)
    (hkept : (s.ctx c).retained.find? (fun r => r.1 == cleSeq f && r.2.1 == cleArg0 f) = some r) :
    exec (.retryFrame f ecc) s =
      .next ((s.sendResult c (cleSeq f) (cleArg0 f) 1 r.2.2 (some f.src)).ctxCount c 4 1) := by
  refine (if_neg (by simp [hscratched, htype, hsub, cleControl])).trans ?_
  simp only [hctx, hkept, Option.map_some]
  exact if_pos htakes

theorem retryFrame_of_sent {k : CollSt} {i : Nat} (hrp : s.findCtx (cleGroup f) true = none)
    (hctx : s.findCtx (cleGroup f) false = some c) (hcoll : s.collOf c (cleSeq f) = some k)
    (hmine : isExchange k.op = true ∨ s.resultAsked c (cleSeq f) (cleArg0 f) f.src = false)
    (hindex : k.retryIndex (s.ctx c) (cleArg0 f) f.src = some i) (hsent : i < k.sent) :
    exec (.retryFrame f .clean) s = .next ((s.sendChunk c k i 1).ctxCount c 4 1) := by
  refine (if_neg (by simp [hscratched, htype, hsub, cleControl])).trans ?_
  simp only [hrp, hctx, hcoll]
  refine (if_neg (by simp [htakes])).trans (congrArg _ ((if_neg ?_).trans ?_))
  · rcases hmine with h | h <;> simp [h]
  · simp only [State.answerRetry, hindex, chunkRead_clean]
    exact if_neg (Nat.not_le.mpr hsent)

end

/-! ### Time runs out -/

theorem chunkTimeout_next {s : State} {c : Nat} {a : Assembly} (hc : c < 64) (hscratched : s.scratched = false)
    (hlate : (s.ctx c).parts.find? (fun a => !a.parts.isEmpty && decide (a.since + s.fld Obj.collTimeout 0 0 32 ≤ s.now)) =
      some a) :
    exec (.chunkTimeout c) s = .next ((s.chunkFails c a (if a.rank < 4096 then (s.ctx c).members.getD a.rank 0
      else if a.rank = 4096 then (s.ctx c).rps.getD (a.chunk % (s.ctx c).r) 0
      else (s.ctx c).members.getD (a.rank - 4097) 0) 3).ctxNote c) := by
  refine (if_neg (Nat.not_le.mpr hc)).trans ?_
  simp only [hlate]
  exact if_neg (ne_true_of_eq_false hscratched)

/-- The late chunk of a collective (R361). -/
def lateChunk (s : State) (c : Nat) (k : CollSt) : Option LateChunk :=
  if isExchange k.op then s.lateExchange (s.ctx c) k else s.lateResult c (s.ctx c) k

/-- The state in which the timer of a late chunk has been served (R361). -/
def lateServed (s : State) (c : Nat) (k : CollSt) (l : LateChunk) : State :=
  let u := s.ctxCount c 2 1
  let j := { k with failed := l.key :: k.failed, times := KMap.set k.times 0 l.timer s.now }
  if k.failed.contains l.key then u.collAbort c k.seq 3
  else match l.again with
    | some i => (u.setColl c j).sendChunk c j i 1
    | none => ((u.setColl c { j with retries := k.retries + 1 }).ctxCount c 3 1).sendControl c l.source false 2 k.seq k.epoch 0
        l.arg 0 0

theorem resultTimeout_next {s : State} {c : Nat} {k : CollSt} {rest : List CollSt} {l : LateChunk} (hc : c < 64)
    (hscratched : s.scratched = false) (hcolls : (s.ctx c).colls = k :: rest) (hlate : lateChunk s c k = some l) :
    exec (.resultTimeout c) s = .next (lateServed s c k l) := by
  refine (if_neg (Nat.not_le.mpr hc)).trans ((if_neg (ne_true_of_eq_false hscratched)).trans ?_)
  rw [lateChunk] at hlate
  simp only [hcolls, List.findSome?_cons, hlate, Option.map_some, now_ctxCount]
  unfold lateServed
  cases k.failed.contains l.key with
  | true => rfl
  | false => cases l.again <;> rfl

/-! ### Results -/

/-- The parts of a chunk's result, from those that the stream units gave back (R353). -/
def chunkParts (r : RpChunk) : List (List Byte) :=
  resultParts ((List.range r.lens.length).map fun p => ((r.results.find? fun q => q.1 == p).map (·.2)).getD []).flatten

/-- The state in which a complete chunk is no longer open, and its result is retained (R357). -/
def resultRetained (s : State) (c : Nat) (r : RpChunk) : State :=
  let x := s.ctx c
  let retained := x.retained ++ [(r.seq, r.gchunk, chunkParts r)]
  s.setCtx c { x with
    chunks := x.chunks.filter (fun p => !(p.seq == r.seq && p.gchunk == r.gchunk)),
    retained := retained.drop (retained.length - ceilDiv x.w x.r) }

section

variable {s : State} {c : Nat} {r : RpChunk} (hc : c < 64) (hscratched : s.scratched = false)
  (hwhole : (s.ctx c).chunks.find? (fun r => r.results.length == r.lens.length) = some r) (hcoll : s.collOf c r.seq = none)
include hc hscratched hwhole

theorem resultAssemble_to_all (target : Nat) (hop : ¬ (r.op = 2 ∨ r.op = 3)) : exec (.resultAssemble c target) s =
    .next ((((resultRetained s c r).sendResult c r.seq r.gchunk 0 (chunkParts r) none).ctxCount c 0 1).ctxNote c) := by
  refine (if_neg (Nat.not_le.mpr hc)).trans ?_
  simp only [hwhole]
  exact (if_neg (ne_true_of_eq_false hscratched)).trans (if_neg hop)

include hcoll

theorem resultAssemble_to_one (target : Nat) (hop : r.op = 2 ∨ r.op = 3) :
    let x := s.ctx c
    let v := (resultRetained s c r).sendResult c r.seq r.gchunk 0 (chunkParts r) (some (x.members.getD target 0))
    exec (.resultAssemble c target) s = .next (((v.sendControl c (x.mgBase + x.myRp) true 3 r.seq (v.ctxEpoch c)
      ((KMap.get x.digests none r.seq).getD 0) r.gchunk 0 0).ctxCount c 0 1).ctxNote c) := by
  refine (if_neg (Nat.not_le.mpr hc)).trans ?_
  simp only [hwhole, hcoll]
  exact (if_neg (ne_true_of_eq_false hscratched)).trans (if_pos hop)

end

/-! ### Aborts -/

theorem abortFrame_next {s : State} {f : Frame} (hscratched : s.scratched = false) (htype : cleType f = 3)
    (hsub : cleSub f = 4) : exec (.abortFrame f) s = .next (foldUp (fun c u =>
      if u.ctxState c ≠ 0 ∧ (u.ctx c).group = cleGroup f ∧ u.ctxEpoch c = cleEpoch f ∧ u.ctxState c ≠ 3
      then (u.abortSpread c (cleArg0 f) (bits (leCode f.payload) 64 8)).abortHere c (cleArg0 f) (bits (leCode f.payload) 64 8)
      else u) 0 64 s) :=
  if_neg (by simp [hscratched, htype, hsub, cleControl])

theorem fld_ctxCount_ctxState (s : State) (c k n i lo w : Nat) :
    (s.ctxCount c k n).fld Obj.ctxState i lo w = s.fld Obj.ctxState i lo w :=
  (State.ctxCount_closed (Agree.closed s (by decide +kernel)) (Agree.refl _ s) c k n).fld (by decide +kernel) ..

/-- What CTX_STATE holds of an aborted context (R363). -/
def abortedEntry (s : State) (c seq cause : Nat) : Nat :=
  setBits (setBits (setBits (s.rd Obj.ctxState c) 0 2 3) 8 8 cause) 128 32 seq

theorem fld_abortHere {s : State} {c : Nat} (seq cause : Nat) (hopen : s.ctxState c ≠ 0) (hlive : s.ctxState c ≠ 3)
    (hcolls : (s.ctx c).colls = []) (hslots : (s.ctx c).slots = []) (lo w : Nat) :
    (s.abortHere c seq cause).fld Obj.ctxState c lo w = bits (abortedEntry s c seq cause) lo w := by
  unfold State.abortHere
  rw [if_neg (not_or.mpr ⟨hopen, hlive⟩)]
  simp only [hcolls, hslots, List.filter_nil, List.foldl_nil]
  rw [fld_ctxCount_ctxState, State.fld, State.setCtx_rd, State.rd_wr_same _ _ _ _ rfl]
  rfl

theorem bits_abortedEntry (s : State) (c seq cause : Nat) : bits (abortedEntry s c seq cause) 0 2 = 3 ∧
    bits (abortedEntry s c seq cause) 128 32 = seq % 2 ^ 32 ∧ bits (abortedEntry s c seq cause) 8 8 = cause % 2 ^ 8 := by
  unfold abortedEntry
  simp (disch := omega) only [bits_setBits_same, bits_setBits_other]
  decide

/-! ### The obligation -/

/-- Settles O30: each command's lemma gives its next state, and an aborted context reads as stated (`fld_abortHere`). -/
theorem collectiveChunksResultsAndAborts : Obligations.CollectiveChunksResultsAndAborts := by
  unfold Obligations.CollectiveChunksResultsAndAborts
  refine ⟨fun s hscratched => ⟨fun c k i hc hstate hnext hother => ?_,
      fun c k i hc hstate hnext hexchange hplace hrecv hhanded =>
        chunkSend_of_own hc hscratched hstate hnext ⟨hexchange, hplace⟩ hrecv hhanded,
      fun f ecc c r htype hsub hctx hkept htakes => retryFrame_of_retained hscratched htype hsub htakes ecc hctx hkept,
      fun f c k i htype hsub hrp hctx htakes hcoll hmine hindex hsent =>
        retryFrame_of_sent hscratched htype hsub htakes hrp hctx hcoll hmine hindex hsent,
      fun c a hc hlate => chunkTimeout_next hc hscratched hlate,
      fun c k rest l hc hcolls hlate => resultTimeout_next hc hscratched hcolls hlate⟩,
    fun s hscratched => ⟨fun c target r hc hwhole hcoll => ⟨fun hreduce hscatter => ?_, fun hop => ?_⟩,
      fun f htype hsub => abortFrame_next hscratched htype hsub, fun c seq cause hopen hlive hcolls hslots => ?_⟩⟩
  · refine chunkSend_of_other hc hscratched hstate hnext fun ⟨hexchange, hplace⟩ => ?_
    exact hother.elim (fun h => Bool.eq_false_iff.mp h hexchange) (absurd hplace)
  · exact resultAssemble_to_all hc hscratched hwhole target (not_or.mpr ⟨hreduce, hscatter⟩)
  · exact resultAssemble_to_one hc hscratched hwhole hcoll target hop
  · obtain ⟨hstate, hseq, hcause⟩ := bits_abortedEntry s c seq cause
    have hfld := fld_abortHere seq cause hopen hlive hcolls hslots
    exact ⟨(hfld 0 2).trans hstate, (hfld 128 32).trans hseq, (hfld 8 8).trans hcause⟩

end Sys2Proof.Laws
end

section
/-! PROOFS. Frames that complete a chunk take effect once its checks pass (O31). -/

namespace Sys2Proof.Laws

set_option Elab.async false

open Sys2Proof.Machine

/-! ### Contributions -/

/-- The state in which a reduction point remembers the digest and the lowest chunk of a contribution's SEQ (R350, R364). -/
def contribNoted (u : State) (c : Nat) (f : Frame) : State :=
  let y := u.ctx c
  let low := match KMap.get y.firsts none (cleSeq f) with | some y => min y (cleChunk f) | none => cleChunk f
  u.setCtx c { y with
    digests := KMap.set y.digests none (cleSeq f) (some (cleDigest f)), firsts := KMap.set y.firsts none (cleSeq f) (some low) }

/-- The chunk that a first contribution opens at a reduction point (R351). -/
def firstContrib (u : State) (c : Nat) (f : Frame) (op : Nat) (ps : List (List Byte)) : RpChunk :=
  ⟨cleSeq f, cleChunk f, u.rpOp c (cleSeq f) op, ps.map (·.length), [cleRank f], []⟩

theorem contribFrame_of_whole {s u : State} {f : Frame} {c : Nat} {a : Assembly} {ps : List (List Byte)}
    (hscratched : s.scratched = false) (htakes : s.ctxTakes c (cleEpoch f) (cleSeq f) = true) (op : Nat) (htype : cleType f = 0)
    (hctx : s.findCtx (cleGroup f) true = some c)
    (hkept : (s.ctx c).retained.any (fun r => r.1 == cleSeq f && r.2.1 == cleChunk f) = false)
    (hbefore : s.rpChunk c (cleSeq f) (cleChunk f) = none) (hfirst : u.rpChunk c (cleSeq f) (cleChunk f) = none)
    (hwhole : s.partIn c (cleChunk f) (cleRank f) ((s.ctx c).members.getD (cleRank f) 0) f = (some (a, ps), u))
    (hdigest : (KMap.get (u.ctx c).digests none (cleSeq f)).getD (cleDigest f) = cleDigest f)
    (hlens : ∀ k, u.collOf c (cleSeq f) = some k →
      ps.map (·.length) = (partsOf (List.replicate (k.place (u.ctx c) (cleChunk f - k.first)).1 0)).map (·.length)) :
    let r := firstContrib u c f op ps
    exec (.contribFrame f op) s = .next ((if isMove (u.rpOp c (cleSeq f) op)
      then (contribNoted u c f).setRpChunk c { r with results := ps.zipIdx.map fun p => (p.2, p.1) }
      else ((contribNoted u c f).setRpChunk c r).toSus c a).ctxNote c) := by
  intro r
  unfold exec execContribFrame
  simp only [hctx]
  refine (if_neg (by simp [hscratched, htype, cleContrib])).trans ((if_neg (by simp [htakes])).trans ?_)
  simp only [hbefore]
  refine (if_neg (by simp [hkept])).trans ?_
  simp only [hwhole, hfirst, hdigest, Option.getD_none]
  refine (if_neg (not_or.mpr ⟨not_not_intro rfl, not_or.mpr ⟨not_not_intro rfl, ?_⟩⟩)).trans ?_
  · cases hcoll : u.collOf c (cleSeq f) with
    | none => exact not_not_intro rfl
    | some k => exact not_not_intro (hlens k hcoll)
  · cases isMove (u.rpOp c (cleSeq f) op) <;> rfl

/-! ### Frames at a member -/

/-- A frame that a context takes is acted on by the collective of its SEQ. -/
theorem toMember_of_coll {s t : State} {f : Frame} {c : Nat} {k : CollSt} (hscratched : s.scratched = false)
    (htakes : s.ctxTakes c (cleEpoch f) (cleSeq f) = true) (hctx : s.findCtx (cleGroup f) false = some c)
    (hcoll : s.collOf c (cleSeq f) = some k) (hact : s.memberFrame c k f = t) : s.toMember f = t.ctxNote c := by
  unfold State.toMember
  simp only [hctx, hcoll, hact]
  exact (if_neg (ne_true_of_eq_false hscratched)).trans (if_neg (by simp [htakes]))

section

variable {s : State} {c : Nat} {k : CollSt} {f : Frame}

theorem resultFrame_next (htype : cleType f = 1) : exec (.resultFrame f) s = .next (s.toMember f) := congrArg _ (if_pos htype)

theorem directFrame_next (htype : cleType f = 2) : exec (.directFrame f) s = .next (s.toMember f) := congrArg _ (if_pos htype)

theorem grantFrame_next (htype : cleType f = 3) (hsub : cleSub f = 1) : exec (.grantFrame f) s = .next (s.toMember f) :=
  congrArg _ (if_pos ⟨htype, hsub⟩)

theorem doneFrame_next (htype : cleType f = 3) (hsub : cleSub f = 3) : exec (.doneFrame f) s = .next (s.toMember f) :=
  congrArg _ (if_pos ⟨htype, hsub⟩)

theorem memberFrame_of_result (htype : cleType f = 1) : s.memberFrame c k f = s.resultIn c k f := if_pos htype

theorem memberFrame_of_direct (htype : cleType f = 2) (hexchange : isExchange k.op = true) :
    s.memberFrame c k f = s.directIn c k f := by
  simp [State.memberFrame, htype, hexchange, cleResult, cleDirect]

theorem memberFrame_of_grant (htype : cleType f = 3) (hsub : cleSub f = 1) (hexchange : isExchange k.op = true) :
    s.memberFrame c k f = s.grantIn c k f := by
  simp only [State.memberFrame, htype, hsub, hexchange, cleResult, cleDirect]
  rfl

theorem memberFrame_of_done (htype : cleType f = 3) (hsub : cleSub f = 3) : s.memberFrame c k f = s.doneIn c k f := by
  simp [State.memberFrame, htype, hsub, cleResult, cleDirect]

end

/-- The state in which a result chunk is in DST, counted and posted (R354). -/
def resultWritten (u : State) (c : Nat) (x : CtxSt) (k : CollSt) (ch : Nat) (bs : List Byte) : State :=
  let v := u.writeLocal (k.dst + (k.place x ch).2.2) bs
  let j := (v.collOf c k.seq).getD k
  ((v.setColl c { j with got := ch :: j.got, written := j.written + 1 }).resFlag c j).collNote c

theorem resultIn_of_whole {s u : State} {f : Frame} {c : Nat} {k : CollSt} {a : Assembly} {ps : List (List Byte)}
    (hfirst : k.first ≤ cleChunk f) (hcount : cleChunk f - k.first < k.count)
    (hnew : k.got.contains (cleChunk f - k.first) = false)
    (hwhole : s.partIn c (cleChunk f) 4096 ((s.ctx c).rps.getD (cleChunk f % (s.ctx c).r) 0) f = (some (a, ps), u))
    (hdigest : cleDigest f = k.digest (s.ctx c)) (hmine : k.mine (s.ctx c) (cleChunk f - k.first) = true)
    (hlens : ps.map (·.length) =
      (resultParts (List.replicate (k.resultLen (s.ctx c) (cleChunk f - k.first)) 0)).map (·.length)) :
    s.resultIn c k f = resultWritten u c (s.ctx c) k (cleChunk f - k.first) ps.flatten := by
  unfold State.resultIn
  refine (if_neg (not_or.mpr ⟨Nat.not_lt.mpr hfirst,
    not_or.mpr ⟨Nat.not_le.mpr hcount, ne_true_of_eq_false hnew⟩⟩)).trans ?_
  simp only [resultRank, hwhole]
  exact (if_neg (by simp [hdigest, hlens])).trans (if_pos hmine)

theorem doneIn_of_new {s : State} {f : Frame} {c : Nat} {k : CollSt} (hdigest : cleDigest f = k.digest (s.ctx c))
    (hfirst : k.first ≤ cleArg0 f) (hcount : cleArg0 f - k.first < k.count)
    (hnew : k.got.contains (cleArg0 f - k.first) = false) (hother : k.mine (s.ctx c) (cleArg0 f - k.first) = false) :
    s.doneIn c k f = (s.setColl c { k with got := (cleArg0 f - k.first) :: k.got }).collNote c :=
  (if_neg (not_not_intro hdigest)).trans <| if_neg <| not_or.mpr ⟨Nat.not_lt.mpr hfirst, not_or.mpr
    ⟨Nat.not_le.mpr hcount, not_or.mpr ⟨ne_true_of_eq_false hnew, ne_true_of_eq_false hother⟩⟩⟩

theorem grantIn_of_member {s : State} {f : Frame} {c j : Nat} {k : CollSt}
    (hmember : (s.ctx c).members.findIdx? (fun d => d == f.src) = some j) :
    let ended := (leCode (sliceBytes f.payload 4 4)).testBit 0
    s.grantIn c k f = (s.setColl c { k with
      granted := KMap.set k.granted 0 j (max (KMap.get k.granted 0 j) (cleArg0 f)), times := KMap.set k.times 0 1 s.now,
      ended := if ended ∧ !k.ended.contains j then j :: k.ended else k.ended }).collNote c := by
  unfold State.grantIn
  simp only [hmember]

/-- The state in which a chunk of an exchange is in DST, counted, posted and answered with grants: a GRANT that ends the pair
where it was the pair's last (R358). -/
def directWritten (u : State) (c : Nat) (x : CtxSt) (k : CollSt) (src idx : Nat) (bs : List Byte) : State :=
  let total := chunksOf (k.pair x src).2
  let v := u.writeLocal (k.dst + (k.pairAt x src).2 + 65536 * idx) bs
  let j := (v.collOf c k.seq).getD k
  let w := v.resFlag c j
  let z := { j with recvGot := idx :: j.recvGot, written := j.written + 1, times := KMap.set j.times 0 0 w.now }
  if z.recvGot.length = total
  then (((w.sendControl c (x.members.getD src 0) false 1 z.seq z.epoch (z.digest x) total 1 0).grantNext c
    { z with recv := z.recv + 1, recvGranted := 0, recvGot := [] }).grantAll c).collNote c
  else (w.grantNext c z).grantAll c

theorem directIn_of_whole {s u : State} {f : Frame} {c : Nat} {k : CollSt} {a : Assembly} {ps : List (List Byte)}
    (hrecv : k.recv < (s.ctx c).n - 1) (hsource : cleRank f = recvFrom (s.ctx c) k.recv)
    (hnew : k.recvGot.contains (bits f.hdr 84 16) = false)
    (hwhole : s.partIn c (bits f.hdr 84 16) (4097 + cleRank f) ((s.ctx c).members.getD (cleRank f) 0) f = (some (a, ps), u))
    (hdigest : cleDigest f = k.digest (s.ctx c)) (htotal : bits f.hdr 68 16 + 1 = chunksOf (k.pair (s.ctx c) (cleRank f)).2)
    (hlens : ps.map (·.length) =
      (partsOf (List.replicate (chunkLen (k.pair (s.ctx c) (cleRank f)).2 (bits f.hdr 84 16)) 0)).map (·.length)) :
    s.directIn c k f = directWritten u c (s.ctx c) k (cleRank f) (bits f.hdr 84 16) ps.flatten := by
  unfold State.directIn
  refine (if_neg (not_or.mpr ⟨Nat.not_le.mpr hrecv,
    not_or.mpr ⟨not_not_intro hsource, ne_true_of_eq_false hnew⟩⟩)).trans ?_
  simp only [directRank, hwhole]
  refine (if_neg (by simp [hdigest, htotal, hlens])).trans ?_
  rw [htotal]
  rfl

/-! ### The obligation -/

/-- Settles O31: a whole contribution joins its chunk (`contribFrame_of_whole`); a member's collective acts on the other
frames (`toMember_of_coll`), each as the lemma of its kind says. -/
theorem collectiveFramesAreTaken : Obligations.CollectiveFramesAreTaken := by
  unfold Obligations.CollectiveFramesAreTaken
  intro s u f c a ps hscratched htakes x seq g
  refine ⟨fun op htype hctx hkept hbefore hfirst hwhole => ?_, fun k htype hctx hcoll => ?_, fun k htype hsub hctx hcoll => ?_,
    fun k j htype hsub hctx hcoll hexchange hmember => ?_, fun k htype hctx hcoll hexchange => ?_⟩
  · intro y hdigest hlens
    exact contribFrame_of_whole hscratched htakes op htype hctx hkept hbefore hfirst hwhole hdigest hlens
  · intro hfirst hcount hnew hwhole hdigest hmine hlens
    have hact := (memberFrame_of_result htype).trans (resultIn_of_whole hfirst hcount hnew hwhole hdigest hmine hlens)
    exact (resultFrame_next htype).trans (congrArg _ (toMember_of_coll hscratched htakes hctx hcoll hact))
  · intro ch hdigest hfirst hcount hnew hother
    have hact := (memberFrame_of_done htype hsub).trans (doneIn_of_new hdigest hfirst hcount hnew hother)
    exact (doneFrame_next htype hsub).trans (congrArg _ (toMember_of_coll hscratched htakes hctx hcoll hact))
  · have hact := (memberFrame_of_grant htype hsub hexchange).trans (grantIn_of_member hmember)
    exact (grantFrame_next htype hsub).trans (congrArg _ (toMember_of_coll hscratched htakes hctx hcoll hact))
  · intro idx src span hrecv hsource hnew hwhole hdigest htotal hlens
    have hact := (memberFrame_of_direct htype hexchange).trans
      (directIn_of_whole hrecv hsource hnew hwhole hdigest htotal hlens)
    exact (directFrame_next htype).trans (congrArg _ (toMember_of_coll hscratched htakes hctx hcoll hact))

end Sys2Proof.Laws
end

section
/-! PROOFS. The step takes the front command (O1), the state after reset is sound (O2), and every step keeps soundness (O3). -/

namespace Sys2Proof.Laws

set_option Elab.async false

open Sys2Proof.Machine

/-! ### The step and the reset -/

/-- Settles O1: the two equations are the two branches of `step`. -/
theorem stepRunsTheFrontCommand : Obligations.StepRunsTheFrontCommand := by
  unfold Obligations.StepRunsTheFrontCommand
  exact fun s c rest => ⟨rfl, rfl⟩

/-- Of the objects of a module after reset only LAST_RESET does not read its factory value. -/
theorem rd_reset {c : ObjCode} (i : Nat) (hlast : c ≠ Obj.lastReset) (hident : identRead Ident.j96 c = none) :
    State.reset.rd c i = factoryKey (objKey c i) := by
  have hobjs : State.reset.objs = [(objKey Obj.lastReset 0, 1)] := by decide +kernel
  have hkey : objKey Obj.lastReset 0 ≠ objKey c i := objKey_ne_code i 0 hlast.symm
  rw [rd_of_stored (s := State.reset) hident, hobjs, KMap.get, KMap.find, if_neg hkey, KMap.find, Option.getD_none]

/-- Settles O2: what is in the record `State.reset` is read off; every entry of CORE_STATE and of the flags has its factory
value 0 (`rd_reset`). -/
theorem resetStateIsSound : Obligations.ResetStateIsSound := by
  unfold Obligations.ResetStateIsSound
  refine ⟨by unfold Sound; decide +kernel, rfl, rfl, rfl, by decide +kernel, by decide +kernel, by decide +kernel, by decide +kernel,
    rfl, rfl, by decide +kernel, fun n _ => ⟨?_, rfl, fun f _ => ?_⟩⟩
  · exact (rd_reset n (by decide) (by decide)).trans (congrArg₂ factory (objKey_div ..) rfl)
  · exact (rd_reset _ (by decide) (by decide)).trans (congrArg₂ factory (objKey_div ..) rfl)

/-! ### Soundness -/

/-- A state whose memory and object store are those of a sound state is sound. -/
theorem sound_restart {s : State} (h : Sound s) (kind : Nat) (ended : Bool) : Sound (s.restart kind ended) := by
  obtain ⟨hmem, hobjs⟩ := h
  refine ⟨?_, wf_set _ _ _ _ (wf_filter _ _ _ hobjs)⟩
  unfold State.restart
  extract_lets keep s'
  show Memory.wf (if keep then s.mem.filter (fun c => decide (c.1 < memKey 2 0)) else []) = true
  cases keep
  · rfl
  · exact wf_filter _ _ _ hmem

/-- The writes of every footprint keep a state sound: those of objects and of memory keep their canonical forms, and no other
touches them. -/
theorem sound_closed (m : Nat) : Closed m Sound := by
  constructor
  case wr => exact fun s c i v _ h => ⟨h.1, wf_set _ _ _ _ h.2⟩
  case drop => exact fun s g _ h => ⟨h.1, wf_filter _ _ _ h.2⟩
  case mem => exact fun _ s space off bs h => ⟨memSplice_wf _ _ _ h.1, h.2⟩
  case memDrop => exact fun _ s g h => ⟨wf_filter _ _ _ h.1, h.2⟩
  case restart => exact fun _ s k e h => sound_restart h k e
  case out => exact fun _ _ _ h => h
  case free => exact fun _ _ h => h
  case now => exact fun _ _ h => h
  all_goals exact fun _ _ _ h => h

/-- Settles O3: soundness is closed under every write (`sound_closed`), and so under each command and under the tick. -/
theorem everyStepKeepsTheStateSound : Obligations.EveryStepKeepsTheStateSound := by
  unfold Obligations.EveryStepKeepsTheStateSound
  intro s t hs hstep
  unfold step at hstep
  split at hstep
  case h_1 c rest _ => exact (exec_closed (s := { s with pending := rest }) (sound_closed _) hs c).of_eq hstep
  case h_2 => exact Host.Outcome.next.inj hstep ▸ State.tick_closed (sound_closed _) hs

end Sys2Proof.Laws
end

section
/-! PROOFS. What the commands leave unchanged: the closure lemma of each command names its footprint (O57 to O60). -/

namespace Sys2Proof.Laws

set_option Elab.async false

open Sys2Proof.Machine

/-! ### From a footprint to the frame of a command -/

/-- Objects outside a footprint read as before. -/
theorem Agree.sameObjects {m : Nat} {s t : State} {os : List ObjCode} (h : Agree m s t)
    (hos : (objTable.zipIdx.all fun p => !m.testBit p.2 || os.contains p.1.code) = true)
    (hlast : m.testBit objTable.length = false) : SameObjects s t os :=
  fun o i ho => h.rd o i (Foot.not_obj hos hlast ho)

/-- Outside its footprint a command keeps the fields, as an equation `E` says, and the objects. -/
theorem Agree.frame {m : Nat} {s t : State} {os : List ObjCode} {E : Prop} (h : Agree m s t) (heq : Agree m s t → E)
    (hos : (objTable.zipIdx.all fun p => !m.testBit p.2 || os.contains p.1.code) = true := by decide +kernel)
    (hlast : m.testBit objTable.length = false := by decide +kernel) : E ∧ SameObjects s t os :=
  ⟨heq h, h.sameObjects hos hlast⟩

/-- A command agrees outside any footprint that holds its own. -/
theorem Agree.of_within (m : Nat) {m' : Nat} {s t : State} {r : Res} (h : ∀ P : State → Prop, Closed m' P → P s → SatR P r)
    (e : r = .next t) (hsub : m' &&& m = m' := by decide +kernel) (hr : m.testBit 260 = false := by decide +kernel) :
    Agree m s t :=
  .of_closed (fun P hP hs => h P (hP.mono hsub) hs) hr e

/-! ### The commands of the cores and the memory, of the ports and the switch, and of the module -/

/-- What the events of the cores, the RAKE engines, the memory tiers and the GMU write together. -/
abbrev Foot.coreAndGmuEvents : Nat := 0x1d00400001edc19863feb070000001000000a0000011600100d094200221c81800a91d30c050ed9fff4dc00

/-- What serving a request of the GMU writes, with the access to memory and the failures it can raise; any object. -/
abbrev Foot.gmuRequests : Nat := 0x1c00c00001e1c1de63f7b07ffffffffffffffffffffffffffffffffffffffffffffffffffffffffffffffff

/-- Settles O57, from the footprint of each command. -/
theorem coreAndMemoryCommandsChangeNothingElse :
    Obligations.CoreAndMemoryCommandsChangeNothingElse := by
  unfold Obligations.CoreAndMemoryCommandsChangeNothingElse
  intro c s t hnext
  cases c
  case waitLimit => exact Agree.frame (Agree.of_closed (fun _ hP hs => execWaitLimit_closed hP hs ..) rfl hnext) Agree.eq
  case coreComplete => exact Agree.frame (Agree.of_closed (fun _ hP hs => execCoreComplete_closed hP hs ..) rfl hnext) Agree.eq
  case coreStop => exact Agree.frame (Agree.of_closed (fun _ hP hs => execCoreStop_closed hP hs ..) rfl hnext) Agree.eq
  case totalClear => exact Agree.frame (Agree.of_closed (fun _ hP hs => execTotalClear_closed hP hs ..) rfl hnext) Agree.eq
  case strideWindowEnd => exact Agree.frame (Agree.of_closed (fun _ hP hs => execStrideWindowEnd_closed hP hs ..) rfl hnext) Agree.eq
  case rakeTotalClear => exact Agree.frame (Agree.of_closed (fun _ hP hs => execRakeTotalClear_closed hP hs ..) rfl hnext) Agree.eq
  case ondieCePoll => exact Agree.frame (Agree.of_closed (fun _ hP hs => execOndieCePoll_closed hP hs ..) rfl hnext) Agree.eq
  case recalStart => exact Agree.frame (Agree.of_closed (fun _ hP hs => execRecalStart_closed hP hs ..) rfl hnext) Agree.eq
  case recalForced => exact Agree.frame (Agree.of_closed (fun _ hP hs => execRecalForced_closed hP hs ..) rfl hnext) Agree.eq
  case recalNow => exact Agree.frame (Agree.of_closed (fun _ hP hs => execRecalNow_closed hP hs ..) rfl hnext) Agree.eq
  case dimmDrain => exact Agree.frame (Agree.of_closed (fun _ hP hs => execDimmDrain_closed hP hs ..) rfl hnext) Agree.eq
  case dimmReturn => exact Agree.frame (Agree.of_closed (fun _ hP hs => execDimmReturn_closed hP hs ..) rfl hnext) Agree.eq
  case drainCancel => exact Agree.frame (Agree.of_closed (fun _ hP hs => execDrainCancel_closed hP hs ..) rfl hnext) Agree.eq
  case dimmPowerOff => exact Agree.frame (Agree.of_closed (fun _ hP hs => execDimmPowerOff_closed hP hs ..) rfl hnext) Agree.eq
  case dimmPowerOn => exact Agree.frame (Agree.of_closed (fun _ hP hs => execDimmPowerOn_closed hP hs ..) rfl hnext) Agree.eq
  case dimmLatchClose => exact Agree.frame (Agree.of_closed (fun _ hP hs => execDimmLatchClose_closed hP hs ..) rfl hnext) Agree.eq
  case dimmTrained => exact Agree.frame (Agree.of_closed (fun _ hP hs => execDimmTrained_closed hP hs ..) rfl hnext) Agree.eq
  case guardActivate => exact Agree.frame (Agree.of_closed (fun _ hP hs => execGuardActivate_closed hP hs ..) rfl hnext) Agree.eq
  case guardDeactivate => exact Agree.frame (Agree.of_closed (fun _ hP hs => execGuardDeactivate_closed hP hs ..) rfl hnext) Agree.eq
  case pacedDispatch => exact Agree.frame (Agree.of_within Foot.coreAndGmuEvents (fun _ hP hs => execPacedDispatch_closed hP hs ..) hnext) Agree.eq
  case queueDispatch => exact Agree.frame (Agree.of_within Foot.coreAndGmuEvents (fun _ hP hs => execQueueDispatch_closed hP hs ..) hnext) Agree.eq
  case pacedResult => exact Agree.frame (Agree.of_within Foot.coreAndGmuEvents (fun _ hP hs => execPacedResult_closed hP hs ..) hnext) Agree.eq
  case icacheFill => exact Agree.frame (Agree.of_within Foot.coreAndGmuEvents (fun _ hP hs => execIcacheFill_closed hP hs ..) hnext) Agree.eq
  case coreLaunch => exact Agree.frame (Agree.of_within Foot.coreAndGmuEvents (fun _ hP hs => execCoreLaunch_closed hP hs ..) hnext) Agree.eq
  case rkeServiceStart => exact Agree.frame (Agree.of_within Foot.coreAndGmuEvents (fun _ hP hs => execRkeServiceStart_closed hP hs ..) hnext) Agree.eq
  case rkeResult => exact Agree.frame (Agree.of_within Foot.coreAndGmuEvents (fun _ hP hs => execRkeResult_closed hP hs ..) hnext) Agree.eq
  case patrolRead => exact Agree.frame (Agree.of_within Foot.coreAndGmuEvents (fun _ hP hs => execPatrolRead_closed hP hs ..) hnext) Agree.eq
  case drainBlockCopied => exact Agree.frame (Agree.of_within Foot.coreAndGmuEvents (fun _ hP hs => execDrainBlockCopied_closed hP hs ..) hnext) Agree.eq
  case dimmLatchOpen => exact Agree.frame (Agree.of_within Foot.coreAndGmuEvents (fun _ hP hs => execDimmLatchOpen_closed hP hs ..) hnext) Agree.eq
  case gmuReply => exact Agree.frame (Agree.of_within Foot.coreAndGmuEvents (fun _ hP hs => execGmuReply_closed hP hs ..) hnext) Agree.eq
  case replayAfterExpiry => exact Agree.frame (Agree.of_within Foot.coreAndGmuEvents (fun _ hP hs => execReplayAfterExpiry_closed hP hs ..) hnext) Agree.eq
  case abandonAfterExpiry => exact Agree.frame (Agree.of_within Foot.coreAndGmuEvents (fun _ hP hs => execAbandonAfterExpiry_closed hP hs ..) hnext) Agree.eq
  case tagQuarantineEnd => exact Agree.frame (Agree.of_within Foot.coreAndGmuEvents (fun _ hP hs => execTagQuarantineEnd_closed hP hs ..) hnext) Agree.eq
  case streamReset => exact Agree.frame (Agree.of_within Foot.coreAndGmuEvents (fun _ hP hs => execStreamReset_closed hP hs ..) hnext) Agree.eq
  case recalEnd => exact (Agree.of_within Foot.gmuRequests (fun _ hP hs => execRecalEnd_closed hP hs ..) hnext).eq
  case reqRead => exact (Agree.of_within Foot.gmuRequests (fun _ hP hs => execReqRead_closed hP hs ..) hnext).eq
  case reqWrite => exact (Agree.of_within Foot.gmuRequests (fun _ hP hs => execReqWrite_closed hP hs ..) hnext).eq
  case reqAtomic => exact (Agree.of_within Foot.gmuRequests (fun _ hP hs => execReqAtomic_closed hP hs ..) hnext).eq
  case reqFence => exact (Agree.of_within Foot.gmuRequests (fun _ hP hs => execReqFence_closed hP hs ..) hnext).eq
  case reqSignal => exact (Agree.of_within Foot.gmuRequests (fun _ hP hs => execReqSignal_closed hP hs ..) hnext).eq
  case reqPdelta => exact (Agree.of_within Foot.gmuRequests (fun _ hP hs => execReqPdelta_closed hP hs ..) hnext).eq
  case reqPclose => exact (Agree.of_within Foot.gmuRequests (fun _ hP hs => execReqPclose_closed hP hs ..) hnext).eq
  case guardParityReplied => exact (Agree.of_within Foot.gmuRequests (fun _ hP hs => execGuardParityReplied_closed hP hs ..) hnext).eq
  case guardQuiet => exact (Agree.of_within Foot.gmuRequests (fun _ hP hs => execGuardQuiet_closed hP hs ..) hnext).eq
  case stripeDemandRebuild => exact (Agree.of_within Foot.gmuRequests (fun _ hP hs => execStripeDemandRebuild_closed hP hs ..) hnext).eq
  all_goals trivial

/-- What the events and commands of a link write, with a frame they deliver and a port they take down. -/
abbrev Foot.linkEvents : Nat := 0x3e01400001e1c79867f6b070000001000000800000116001000000000225c81817ad15200040ec000605c00

/-- Settles O58, from the footprint of each command. -/
theorem portAndSwitchCommandsChangeNothingElse :
    Obligations.PortAndSwitchCommandsChangeNothingElse := by
  unfold Obligations.PortAndSwitchCommandsChangeNothingElse
  intro c s t hnext
  cases c
  case loopMeasure => exact (Agree.of_closed (fun _ hP hs => execLoopMeasure_closed hP hs ..) rfl hnext).eq
  case trainingStart => exact Agree.frame (Agree.of_closed (fun _ hP hs => execTrainingStart_closed hP hs ..) rfl hnext) Agree.eq
  case trainingRetry => exact Agree.frame (Agree.of_closed (fun _ hP hs => execTrainingRetry_closed hP hs ..) rfl hnext) Agree.eq
  case lightReturns => exact Agree.frame (Agree.of_closed (fun _ hP hs => execLightReturns_closed hP hs ..) rfl hnext) Agree.eq
  case portUp => exact Agree.frame (Agree.of_closed (fun _ hP hs => execPortUp_closed hP hs ..) rfl hnext) Agree.eq
  case cipherKeyAgreed => exact Agree.frame (Agree.of_closed (fun _ hP hs => execCipherKeyAgreed_closed hP hs ..) rfl hnext) Agree.eq
  case portEnable => exact Agree.frame (Agree.of_closed (fun _ hP hs => execPortEnable_closed hP hs ..) rfl hnext) Agree.eq
  case portSelftest => exact Agree.frame (Agree.of_closed (fun _ hP hs => execPortSelftest_closed hP hs ..) rfl hnext) Agree.eq
  case elsPartnerFull => exact Agree.frame (Agree.of_closed (fun _ hP hs => execElsPartnerFull_closed hP hs ..) rfl hnext) Agree.eq
  case elsRemove => exact Agree.frame (Agree.of_closed (fun _ hP hs => execElsRemove_closed hP hs ..) rfl hnext) Agree.eq
  case elsCancel => exact Agree.frame (Agree.of_closed (fun _ hP hs => execElsCancel_closed hP hs ..) rfl hnext) Agree.eq
  case elsRampDone => exact Agree.frame (Agree.of_closed (fun _ hP hs => execElsRampDone_closed hP hs ..) rfl hnext) Agree.eq
  case elsInsert => exact Agree.frame (Agree.of_closed (fun _ hP hs => execElsInsert_closed hP hs ..) rfl hnext) Agree.eq
  case elsStartDone => exact Agree.frame (Agree.of_closed (fun _ hP hs => execElsStartDone_closed hP hs ..) rfl hnext) Agree.eq
  case frameLookup => exact Agree.frame (Agree.of_closed (fun _ hP hs => execFrameLookup_closed hP hs ..) rfl hnext) Agree.eq
  case mcLookup => exact Agree.frame (Agree.of_closed (fun _ hP hs => execMcLookup_closed hP hs ..) rfl hnext) Agree.eq
  case cellMatch => exact Agree.frame (Agree.of_closed (fun _ hP hs => execCellMatch_closed hP hs ..) rfl hnext) Agree.eq
  case frameDeparture => exact Agree.frame (Agree.of_closed (fun _ hP hs => execFrameDeparture_closed hP hs ..) rfl hnext) Agree.eq
  case fwdAgeExpiry => exact Agree.frame (Agree.of_closed (fun _ hP hs => execFwdAgeExpiry_closed hP hs ..) rfl hnext) Agree.eq
  case routeCommit => exact Agree.frame (Agree.of_closed (fun _ hP hs => execRouteCommit_closed hP hs ..) rfl hnext) Agree.eq
  case flowEnqueue => exact Agree.frame (Agree.of_closed (fun _ hP hs => execFlowEnqueue_closed hP hs ..) rfl hnext) Agree.eq
  case tmgPick => exact Agree.frame (Agree.of_closed (fun _ hP hs => execTmgPick_closed hP hs ..) rfl hnext) Agree.eq
  case flowCreate => exact Agree.frame (Agree.of_closed (fun _ hP hs => execFlowCreate_closed hP hs ..) rfl hnext) Agree.eq
  case flowDelete => exact Agree.frame (Agree.of_closed (fun _ hP hs => execFlowDelete_closed hP hs ..) rfl hnext) Agree.eq
  case trainingCheckExpiry => exact Agree.frame (Agree.of_closed (fun _ hP hs => execTrainingCheckExpiry_closed hP hs ..) rfl hnext) Agree.eq
  case linkBlockReceive => exact Agree.frame (Agree.of_within Foot.linkEvents (fun _ hP hs => execLinkBlockReceive_closed hP hs ..) hnext) Agree.eq
  case linkReplayTimeout => exact Agree.frame (Agree.of_within Foot.linkEvents (fun _ hP hs => execLinkReplayTimeout_closed hP hs ..) hnext) Agree.eq
  case portLos => exact Agree.frame (Agree.of_within Foot.linkEvents (fun _ hP hs => execPortLos_closed hP hs ..) hnext) Agree.eq
  case fecRate => exact Agree.frame (Agree.of_within Foot.linkEvents (fun _ hP hs => execFecRate_closed hP hs ..) hnext) Agree.eq
  case portDisable => exact Agree.frame (Agree.of_within Foot.linkEvents (fun _ hP hs => execPortDisable_closed hP hs ..) hnext) Agree.eq
  case retrain => exact Agree.frame (Agree.of_within Foot.linkEvents (fun _ hP hs => execRetrain_closed hP hs ..) hnext) Agree.eq
  case selftestLoopbackDone => exact Agree.frame (Agree.of_within Foot.linkEvents (fun _ hP hs => execSelftestLoopbackDone_closed hP hs ..) hnext) Agree.eq
  case oeSelftest => exact Agree.frame (Agree.of_within Foot.linkEvents (fun _ hP hs => execOeSelftest_closed hP hs ..) hnext) Agree.eq
  case elsOutputLoss => exact Agree.frame (Agree.of_within Foot.linkEvents (fun _ hP hs => execElsOutputLoss_closed hP hs ..) hnext) Agree.eq
  case elsLatchOpen => exact Agree.frame (Agree.of_within Foot.linkEvents (fun _ hP hs => execElsLatchOpen_closed hP hs ..) hnext) Agree.eq
  all_goals trivial

/-- What host requests, messages of the manager, a scratch and the failures of a unit write. -/
abbrev Foot.hostAndRecoveryEvents : Nat := 0x3e00600001edf59863f6f070000001000031801c201160013ad094200221c87814a975210040ec003e07c00

/-- What the events of the managed domain write, with a step of the recovery that starts; any object. -/
abbrev Foot.domainEvents : Nat := 0x3e01e00003eff7ffe3f7f07ffffffffffffffffffffffffffffffffffffffffffffffffffffffffffffffff

/-- Settles O60, from the footprint of each command. -/
theorem moduleCommandsChangeNothingElse :
    Obligations.ModuleCommandsChangeNothingElse := by
  unfold Obligations.ModuleCommandsChangeNothingElse
  intro c s t hnext
  cases c
  case startupFill => exact Agree.frame (Agree.of_closed (fun _ hP hs => execStartupFill_closed hP hs ..) rfl hnext) Agree.eq
  case hostFrameReceive => exact Agree.frame (Agree.of_closed (fun _ hP hs => execHostFrameReceive_closed hP hs ..) rfl hnext) Agree.eq
  case cnp => exact Agree.frame (Agree.of_closed (fun _ hP hs => execCnp_closed hP hs ..) rfl hnext) Agree.eq
  case rateRaise => exact (Agree.of_closed (fun _ hP hs => execRateRaise_closed hP hs ..) rfl hnext).eq
  case ackTimeout => exact Agree.frame (Agree.of_closed (fun _ hP hs => execAckTimeout_closed hP hs ..) rfl hnext) Agree.eq
  case acknowledgement => exact Agree.frame (Agree.of_closed (fun _ hP hs => execAcknowledgement_closed hP hs ..) rfl hnext) Agree.eq
  case qpConnect => exact Agree.frame (Agree.of_closed (fun _ hP hs => execQpConnect_closed hP hs ..) rfl hnext) Agree.eq
  case qpReset => exact Agree.frame (Agree.of_closed (fun _ hP hs => execQpReset_closed hP hs ..) rfl hnext) Agree.eq
  case ringPoll => exact Agree.frame (Agree.of_closed (fun _ hP hs => execRingPoll_closed hP hs ..) rfl hnext) Agree.eq
  case ringNop => exact Agree.frame (Agree.of_closed (fun _ hP hs => execRingNop_closed hP hs ..) rfl hnext) Agree.eq
  case ringPower => exact Agree.frame (Agree.of_closed (fun _ hP hs => execRingPower_closed hP hs ..) rfl hnext) Agree.eq
  case ringPoolFree => exact Agree.frame (Agree.of_closed (fun _ hP hs => execRingPoolFree_closed hP hs ..) rfl hnext) Agree.eq
  case ringCompletion => exact Agree.frame (Agree.of_closed (fun _ hP hs => execRingCompletion_closed hP hs ..) rfl hnext) Agree.eq
  case ringStart => exact Agree.frame (Agree.of_closed (fun _ hP hs => execRingStart_closed hP hs ..) rfl hnext) Agree.eq
  case ringStop => exact Agree.frame (Agree.of_closed (fun _ hP hs => execRingStop_closed hP hs ..) rfl hnext) Agree.eq
  case fwdOutbound => exact Agree.frame (Agree.of_closed (fun _ hP hs => execFwdOutbound_closed hP hs ..) rfl hnext) Agree.eq
  case fwdInbound => exact Agree.frame (Agree.of_closed (fun _ hP hs => execFwdInbound_closed hP hs ..) rfl hnext) Agree.eq
  case mirrorOut => exact Agree.frame (Agree.of_closed (fun _ hP hs => execMirrorOut_closed hP hs ..) rfl hnext) Agree.eq
  case cdpRead => exact Agree.frame (Agree.of_closed (fun _ hP hs => execCdpRead_closed hP hs ..) rfl hnext) Agree.eq
  case describe => exact Agree.frame (Agree.of_closed (fun _ hP hs => execDescribe_closed hP hs ..) rfl hnext) Agree.eq
  case cdpNext => exact Agree.frame (Agree.of_closed (fun _ hP hs => execCdpNext_closed hP hs ..) rfl hnext) Agree.eq
  case nvWrite => exact Agree.frame (Agree.of_closed (fun _ hP hs => execNvWrite_closed hP hs ..) rfl hnext) Agree.eq
  case nvErase => exact Agree.frame (Agree.of_closed (fun _ hP hs => execNvErase_closed hP hs ..) rfl hnext) Agree.eq
  case sessionOpen => exact Agree.frame (Agree.of_closed (fun _ hP hs => execSessionOpen_closed hP hs ..) rfl hnext) Agree.eq
  case sessionClose => exact Agree.frame (Agree.of_closed (fun _ hP hs => execSessionClose_closed hP hs ..) rfl hnext) Agree.eq
  case imageWrite => exact Agree.frame (Agree.of_closed (fun _ hP hs => execImageWrite_closed hP hs ..) rfl hnext) Agree.eq
  case sessionFinish => exact Agree.frame (Agree.of_closed (fun _ hP hs => execSessionFinish_closed hP hs ..) rfl hnext) Agree.eq
  case cdpIdleExpiry => exact (Agree.of_closed (fun _ hP hs => execCdpIdleExpiry_closed hP hs ..) rfl hnext).eq
  case sessionFinishTimeout => exact (Agree.of_closed (fun _ hP hs => execSessionFinishTimeout_closed hP hs ..) rfl hnext).eq
  case nvBankErase => exact Agree.frame (Agree.of_closed (fun _ hP hs => execNvBankErase_closed hP hs ..) rfl hnext) Agree.eq
  case nvBankEraseDone => exact Agree.frame (Agree.of_closed (fun _ hP hs => execNvBankEraseDone_closed hP hs ..) rfl hnext) Agree.eq
  case nvVerify => exact Agree.frame (Agree.of_closed (fun _ hP hs => execNvVerify_closed hP hs ..) rfl hnext) Agree.eq
  case nvActivate => exact Agree.frame (Agree.of_closed (fun _ hP hs => execNvActivate_closed hP hs ..) rfl hnext) Agree.eq
  case heartbeatSend => exact (Agree.of_closed (fun _ hP hs => execHeartbeatSend_closed hP hs ..) rfl hnext).eq
  case probeRelayTimeout => exact (Agree.of_closed (fun _ hP hs => execProbeRelayTimeout_closed hP hs ..) rfl hnext).eq
  case probeMsg => exact (Agree.of_closed (fun _ hP hs => execProbeMsg_closed hP hs ..) rfl hnext).eq
  case helloSend => exact (Agree.of_closed (fun _ hP hs => execHelloSend_closed hP hs ..) rfl hnext).eq
  case helloMsg => exact Agree.frame (Agree.of_closed (fun _ hP hs => execHelloMsg_closed hP hs ..) rfl hnext) Agree.eq
  case assignMsg => exact Agree.frame (Agree.of_closed (fun _ hP hs => execAssignMsg_closed hP hs ..) rfl hnext) Agree.eq
  case guardSyncMsg => exact (Agree.of_closed (fun _ hP hs => execGuardSyncMsg_closed hP hs ..) rfl hnext).eq
  case restAnswerMsg => exact Agree.frame (Agree.of_closed (fun _ hP hs => execRestAnswerMsg_closed hP hs ..) rfl hnext) Agree.eq
  case restQueryRetry => exact Agree.frame (Agree.of_closed (fun _ hP hs => execRestQueryRetry_closed hP hs ..) rfl hnext) Agree.eq
  case marshalAdmit => exact Agree.frame (Agree.of_closed (fun _ hP hs => execMarshalAdmit_closed hP hs ..) rfl hnext) Agree.eq
  case inputDip => exact Agree.frame (Agree.of_closed (fun _ hP hs => execInputDip_closed hP hs ..) rfl hnext) Agree.eq
  case ovWarn => exact Agree.frame (Agree.of_closed (fun _ hP hs => execOvWarn_closed hP hs ..) rfl hnext) Agree.eq
  case reverseBlock => exact Agree.frame (Agree.of_closed (fun _ hP hs => execReverseBlock_closed hP hs ..) rfl hnext) Agree.eq
  case reverseConduct => exact (Agree.of_closed (fun _ hP hs => execReverseConduct_closed hP hs ..) rfl hnext).eq
  case governorUpdate => exact Agree.frame (Agree.of_closed (fun _ hP hs => execGovernorUpdate_closed hP hs ..) rfl hnext) Agree.eq
  case loopLost => exact Agree.frame (Agree.of_closed (fun _ hP hs => execLoopLost_closed hP hs ..) rfl hnext) Agree.eq
  case inletHigh => exact Agree.frame (Agree.of_closed (fun _ hP hs => execInletHigh_closed hP hs ..) rfl hnext) Agree.eq
  case stageRemove => exact Agree.frame (Agree.of_closed (fun _ hP hs => execStageRemove_closed hP hs ..) rfl hnext) Agree.eq
  case stageCancel => exact Agree.frame (Agree.of_closed (fun _ hP hs => execStageCancel_closed hP hs ..) rfl hnext) Agree.eq
  case stageSafe => exact Agree.frame (Agree.of_closed (fun _ hP hs => execStageSafe_closed hP hs ..) rfl hnext) Agree.eq
  case stageInsert => exact Agree.frame (Agree.of_closed (fun _ hP hs => execStageInsert_closed hP hs ..) rfl hnext) Agree.eq
  case powerRun => exact Agree.frame (Agree.of_closed (fun _ hP hs => execPowerRun_closed hP hs ..) rfl hnext) Agree.eq
  case powerHold => exact Agree.frame (Agree.of_closed (fun _ hP hs => execPowerHold_closed hP hs ..) rfl hnext) Agree.eq
  case powerRest => exact Agree.frame (Agree.of_closed (fun _ hP hs => execPowerRest_closed hP hs ..) rfl hnext) Agree.eq
  case powerDeepRest => exact Agree.frame (Agree.of_closed (fun _ hP hs => execPowerDeepRest_closed hP hs ..) rfl hnext) Agree.eq
  case restAbortPoint => exact Agree.frame (Agree.of_closed (fun _ hP hs => execRestAbortPoint_closed hP hs ..) rfl hnext) Agree.eq
  case deepRestPermit => exact Agree.frame (Agree.of_closed (fun _ hP hs => execDeepRestPermit_closed hP hs ..) rfl hnext) Agree.eq
  case unitResetCore => exact Agree.frame (Agree.of_closed (fun _ hP hs => execUnitResetCore_closed hP hs ..) rfl hnext) Agree.eq
  case unitResetSu => exact Agree.frame (Agree.of_closed (fun _ hP hs => execUnitResetSu_closed hP hs ..) rfl hnext) Agree.eq
  case unitResetCvu => exact Agree.frame (Agree.of_closed (fun _ hP hs => execUnitResetCvu_closed hP hs ..) rfl hnext) Agree.eq
  case unitResetHostPort => exact Agree.frame (Agree.of_closed (fun _ hP hs => execUnitResetHostPort_closed hP hs ..) rfl hnext) Agree.eq
  case resetNRelease => exact (Agree.of_closed (fun _ hP hs => execResetNRelease_closed hP hs ..) rfl hnext).eq
  case keysCmd => exact Agree.frame (Agree.of_closed (fun _ hP hs => execKeysCmd_closed hP hs ..) rfl hnext) Agree.eq
  case rollbackCommit => exact Agree.frame (Agree.of_closed (fun _ hP hs => execRollbackCommit_closed hP hs ..) rfl hnext) Agree.eq
  case svnCommit => exact Agree.frame (Agree.of_closed (fun _ hP hs => execSvnCommit_closed hP hs ..) rfl hnext) Agree.eq
  case fwErase => exact Agree.frame (Agree.of_closed (fun _ hP hs => execFwErase_closed hP hs ..) rfl hnext) Agree.eq
  case fwVerify => exact Agree.frame (Agree.of_closed (fun _ hP hs => execFwVerify_closed hP hs ..) rfl hnext) Agree.eq
  case fwActivate => exact Agree.frame (Agree.of_closed (fun _ hP hs => execFwActivate_closed hP hs ..) rfl hnext) Agree.eq
  case attest => exact Agree.frame (Agree.of_closed (fun _ hP hs => execAttest_closed hP hs ..) rfl hnext) Agree.eq
  case extendMr => exact Agree.frame (Agree.of_closed (fun _ hP hs => execExtendMr_closed hP hs ..) rfl hnext) Agree.eq
  case smbusBlockRead => exact (Agree.of_closed (fun _ hP hs => execSmbusBlockRead_closed hP hs ..) rfl hnext).eq
  case sidebandUpdate => exact Agree.frame (Agree.of_closed (fun _ hP hs => execSidebandUpdate_closed hP hs ..) rfl hnext) Agree.eq
  case osfpInsert => exact Agree.frame (Agree.of_closed (fun _ hP hs => execOsfpInsert_closed hP hs ..) rfl hnext) Agree.eq
  case osfpRemove => exact Agree.frame (Agree.of_closed (fun _ hP hs => execOsfpRemove_closed hP hs ..) rfl hnext) Agree.eq
  case hostPortUp => exact Agree.frame (Agree.of_closed (fun _ hP hs => execHostPortUp_closed hP hs ..) rfl hnext) Agree.eq
  case hostPortDown => exact Agree.frame (Agree.of_closed (fun _ hP hs => execHostPortDown_closed hP hs ..) rfl hnext) Agree.eq
  case fwEraseDone => exact Agree.frame (Agree.of_closed (fun _ hP hs => execFwEraseDone_closed hP hs ..) rfl hnext) Agree.eq
  case rdmaWrite => exact Agree.frame (Agree.of_within Foot.hostAndRecoveryEvents (fun _ hP hs => execRdmaWrite_closed hP hs ..) hnext) Agree.eq
  case rdmaRead => exact Agree.frame (Agree.of_within Foot.hostAndRecoveryEvents (fun _ hP hs => execRdmaRead_closed hP hs ..) hnext) Agree.eq
  case rdmaSend => exact Agree.frame (Agree.of_within Foot.hostAndRecoveryEvents (fun _ hP hs => execRdmaSend_closed hP hs ..) hnext) Agree.eq
  case rdmaAtomic => exact Agree.frame (Agree.of_within Foot.hostAndRecoveryEvents (fun _ hP hs => execRdmaAtomic_closed hP hs ..) hnext) Agree.eq
  case ringLaunch => exact Agree.frame (Agree.of_within Foot.hostAndRecoveryEvents (fun _ hP hs => execRingLaunch_closed hP hs ..) hnext) Agree.eq
  case ringColl => exact Agree.frame (Agree.of_within Foot.hostAndRecoveryEvents (fun _ hP hs => execRingColl_closed hP hs ..) hnext) Agree.eq
  case heartbeatMsg => exact Agree.frame (Agree.of_within Foot.hostAndRecoveryEvents (fun _ hP hs => execHeartbeatMsg_closed hP hs ..) hnext) Agree.eq
  case probeAckMsg => exact Agree.frame (Agree.of_within Foot.hostAndRecoveryEvents (fun _ hP hs => execProbeAckMsg_closed hP hs ..) hnext) Agree.eq
  case suspectMsg => exact Agree.frame (Agree.of_within Foot.hostAndRecoveryEvents (fun _ hP hs => execSuspectMsg_closed hP hs ..) hnext) Agree.eq
  case clearedMsg => exact Agree.frame (Agree.of_within Foot.hostAndRecoveryEvents (fun _ hP hs => execClearedMsg_closed hP hs ..) hnext) Agree.eq
  case marshalFenceMsg => exact Agree.frame (Agree.of_within Foot.hostAndRecoveryEvents (fun _ hP hs => execMarshalFenceMsg_closed hP hs ..) hnext) Agree.eq
  case relayMsg => exact Agree.frame (Agree.of_within Foot.hostAndRecoveryEvents (fun _ hP hs => execRelayMsg_closed hP hs ..) hnext) Agree.eq
  case rerouteMsg => exact Agree.frame (Agree.of_within Foot.hostAndRecoveryEvents (fun _ hP hs => execRerouteMsg_closed hP hs ..) hnext) Agree.eq
  case managerChangeMsg => exact Agree.frame (Agree.of_within Foot.hostAndRecoveryEvents (fun _ hP hs => execManagerChangeMsg_closed hP hs ..) hnext) Agree.eq
  case restQueryMsg => exact Agree.frame (Agree.of_within Foot.hostAndRecoveryEvents (fun _ hP hs => execRestQueryMsg_closed hP hs ..) hnext) Agree.eq
  case scratchNow => exact Agree.frame (Agree.of_within Foot.hostAndRecoveryEvents (fun _ hP hs => execScratchNow_closed hP hs ..) hnext) Agree.eq
  case thermalLimit => exact Agree.frame (Agree.of_within Foot.hostAndRecoveryEvents (fun _ hP hs => execThermalLimit_closed hP hs ..) hnext) Agree.eq
  case stageFail => exact Agree.frame (Agree.of_within Foot.hostAndRecoveryEvents (fun _ hP hs => execStageFail_closed hP hs ..) hnext) Agree.eq
  case restEntered => exact Agree.frame (Agree.of_within Foot.hostAndRecoveryEvents (fun _ hP hs => execRestEntered_closed hP hs ..) hnext) Agree.eq
  case stageLatchOpen => exact Agree.frame (Agree.of_within Foot.hostAndRecoveryEvents (fun _ hP hs => execStageLatchOpen_closed hP hs ..) hnext) Agree.eq
  case internalFault => exact Agree.frame (Agree.of_within Foot.hostAndRecoveryEvents (fun _ hP hs => execInternalFault_closed hP hs ..) hnext) Agree.eq
  case heartbeatMiss => exact (Agree.of_within Foot.domainEvents (fun _ hP hs => execHeartbeatMiss_closed hP hs ..) hnext).eq
  case probeFailTimeout => exact (Agree.of_within Foot.domainEvents (fun _ hP hs => execProbeFailTimeout_closed hP hs ..) hnext).eq
  case reportSend => exact (Agree.of_within Foot.domainEvents (fun _ hP hs => execReportSend_closed hP hs ..) hnext).eq
  case reportMsg => exact (Agree.of_within Foot.domainEvents (fun _ hP hs => execReportMsg_closed hP hs ..) hnext).eq
  case scoreWindowEnd => exact (Agree.of_within Foot.domainEvents (fun _ hP hs => execScoreWindowEnd_closed hP hs ..) hnext).eq
  case lostMsg => exact (Agree.of_within Foot.domainEvents (fun _ hP hs => execLostMsg_closed hP hs ..) hnext).eq
  case stepAckMsg => exact (Agree.of_within Foot.domainEvents (fun _ hP hs => execStepAckMsg_closed hP hs ..) hnext).eq
  case stepTimeout => exact (Agree.of_within Foot.domainEvents (fun _ hP hs => execStepTimeout_closed hP hs ..) hnext).eq
  case relayedMsg => exact (Agree.of_within Foot.domainEvents (fun _ hP hs => execRelayedMsg_closed hP hs ..) hnext).eq
  case rebuiltMsg => exact (Agree.of_within Foot.domainEvents (fun _ hP hs => execRebuiltMsg_closed hP hs ..) hnext).eq
  case spareReady => exact (Agree.of_within Foot.domainEvents (fun _ hP hs => execSpareReady_closed hP hs ..) hnext).eq
  case marshalScratch => exact (Agree.of_within Foot.domainEvents (fun _ hP hs => execMarshalScratch_closed hP hs ..) hnext).eq
  case takeManager => exact (Agree.of_within Foot.domainEvents (fun _ hP hs => execTakeManager_closed hP hs ..) hnext).eq
  case guardStripeRebuild => exact (Agree.of_within Foot.domainEvents (fun _ hP hs => execGuardStripeRebuild_closed hP hs ..) hnext).eq
  case wakeDone => exact (Agree.of_within Foot.domainEvents (fun _ hP hs => execWakeDone_closed hP hs ..) hnext).eq
  case boot => exact (Agree.of_closed (fun _ hP hs => execBoot_closed hP hs ..) rfl hnext).eq
  case registerWrite => exact (Agree.of_closed (fun _ hP hs => execRegisterWrite_closed hP hs ..) rfl hnext).eq
  all_goals trivial

end Sys2Proof.Laws
end

section
/-! PROOFS. What the commands of the stream units, the collectives and the pools leave unchanged (O59). -/

namespace Sys2Proof.Laws

set_option Elab.async false

open Sys2Proof.Machine

/-! ### What an instruction of a stream program leaves unchanged -/

/-- Every stream unit but `u` and the addressable memory, which ends below the space of the bitmaps, are those of `s`. -/
structure OnlyUnit (u : Nat) (s t : State) : Prop where
  su : ∀ x, x ≠ u → t.su x = s.su x
  mem8 : ∀ space off, space < 16 → off < 2 ^ 44 → t.mem8 space off = s.mem8 space off

namespace OnlyUnit

theorem refl (u : Nat) (s : State) : OnlyUnit u s s := ⟨fun _ _ => rfl, fun _ _ _ _ => rfl⟩

section
variable {u : Nat} {s t : State} (h : OnlyUnit u s t)
include h

/-- A write to neither the stream units nor the memory. -/
theorem congr {t' : State} (hsus : t'.sus = t.sus) (hmem : t'.mem = t.mem) : OnlyUnit u s t' where
  su x hx := (congrArg (KMap.get · SuSt.init x) hsus).trans (h.su x hx)
  mem8 space off hs ho := (congrArg (KMap.get · 0 (memKey space off)) hmem).trans (h.mem8 space off hs ho)

theorem wr (c : ObjCode) (i v : Nat) : OnlyUnit u s (t.wr c i v) := h.congr (State.wr_sus t c i v) (State.wr_mem t c i v)

theorem setSu (x : SuSt) : OnlyUnit u s (t.setSu u x) where
  su y hy := (su_setSu_other t x hy).trans (h.su y hy)
  mem8 := h.mem8

/-- The bitmaps stand above every addressable byte. -/
theorem bitmapWrite (off : Nat) (bs : List Byte) : OnlyUnit u s (t.memWrite spaceBitmap off bs) where
  su := h.su
  mem8 space o hs ho := by
    rw [mem8_memWrite, if_neg (by simp only [memKey, spaceBitmap]; omega)]
    exact h.mem8 space o hs ho

theorem bitmapDrop (off : Nat) :
    OnlyUnit u s { t with mem := t.mem.filter fun c => c.1 / 2 ^ 21 != memKey spaceBitmap off / 2 ^ 21 } where
  su := h.su
  mem8 space o hs ho := by
    have hkept : (memKey space o / 2 ^ 21 != memKey spaceBitmap off / 2 ^ 21) = true := by
      simp only [memKey, spaceBitmap, bne_iff_ne]
      omega
    have hfind := find_filter t.mem (fun k => k / 2 ^ 21 != memKey spaceBitmap off / 2 ^ 21) (memKey space o)
    rw [if_pos hkept] at hfind
    exact (congrArg (Option.getD · 0) hfind).trans (h.mem8 space o hs ho)

theorem bitmapLater : OnlyUnit u s (t.bitmapLater u) := by
  unfold State.bitmapLater
  refine setSu (foldl_sat h fun b w hb => ?_) _
  cases w with
  | none => exact (hb.wr Obj.bitmapClear 0 1).bitmapDrop (u * 2 ^ 21)
  | some w => exact hb.bitmapWrite ..

theorem incSat (c : ObjCode) (i lo w n : Nat) : OnlyUnit u s (t.incSat c i lo w n) := h.wr ..

theorem suCount (slot k n : Nat) : OnlyUnit u s (t.suCount slot k n) := h.incSat ..

theorem useSlots (slot : Nat) (d : Int) : OnlyUnit u s (t.useSlots slot d) := h.wr ..

theorem noteRecs (slot : Nat) : OnlyUnit u s (t.noteRecs slot) := h.wr ..

theorem noteHeld (slot : Nat) : OnlyUnit u s (t.noteHeld slot) := h.wr ..

theorem endRun (r : SuRun) (k : Nat) : OnlyUnit u s (t.endRun u r k) := by
  unfold State.endRun
  have hidle := h.setSu { t.su u with run := none }
  exact (((ite_sat hidle (hidle.useSlots ..) : OnlyUnit u s _).suCount ..).incSat ..).bitmapLater

theorem runFault (r : SuRun) (code : Nat) : OnlyUnit u s (t.runFault u r code) := by
  unfold State.runFault
  extract_lets t₁ t₂
  have h₁ : OnlyUnit u s t₁ := ite_sat (h.wr ..) (h.incSat ..)
  have h₂ : OnlyUnit u s t₂ :=
    ite_sat (h₁.suCount ..) (ite_sat (h₁.suCount ..) (ite_sat (h₁.suCount ..) (ite_sat (h₁.suCount ..) h₁)))
  exact h₂.endRun ..

/-! ### Registers and records -/

theorem setReg (r : SuRun) (g v : Nat) : Sat1 (OnlyUnit u s) (t.setReg u r g v) := by
  unfold State.setReg
  exact ite_sat ⟨h⟩ (ite_sat ⟨h⟩ ⟨h.setSu _⟩)

theorem goReg (r : SuRun) (g v c : Nat) : SatEc (OnlyUnit u s) (t.goReg u r g v c) := .go (h.setReg r g v).fst

theorem openRec (slot key : Nat) (params : List Nat) (bytes : Nat) :
    SatE2 (OnlyUnit u s) (t.openRec u slot key params bytes) := by
  unfold State.openRec
  split
  · exact .ok h
  · exact ite_sat .error (ite_sat .error (.ok (((h.setSu _).useSlots ..).noteRecs ..)))

theorem setSuRec (x : SuRec) : OnlyUnit u s (t.setSuRec u x) := h.setSu _

theorem closeRec (x : SuRec) : OnlyUnit u s (t.closeRec u x) := (((h.setSu _).useSlots ..).suCount ..).noteRecs ..

theorem refold (r : SuRun) (key lo hi : Nat) (keep : Option Nat) : OnlyUnit u s (t.refold u r key lo hi keep) :=
  ((h.setSu _).useSlots ..).noteHeld ..

theorem rsum (r : SuRun) (w : Nat) (g : Nat → Nat) : SatEc (OnlyUnit u s) (t.rsum u r w g) := by
  unfold State.rsum
  extract_lets imm mode n
  split
  case h_2 => exact .fault h
  case h_1 fin fout _ _ =>
    extract_lets
    split
    case h_1 => exact .fault h
    case h_2 x t₁ hopen =>
      have h₁ := (h.openRec ..).of_eq hopen
      refine ite_sat (.fault h₁) (ite_sat (.fault h₁) ?_)
      split
      extract_lets t₂ t₃
      have h₂ : OnlyUnit u s t₂ := ite_sat (h₁.refold ..) h₁
      have h₃ : OnlyUnit u s t₃ := h₂.setSuRec _
      exact ite_sat (goReg (((h₃.suCount ..).suCount ..).closeRec _) ..) (h₃.goReg ..)

theorem gath (r : SuRun) (w : Nat) (g : Nat → Nat) : SatEc (OnlyUnit u s) (t.gath u r w g) := by
  unfold State.gath
  extract_lets n plen params rank cost
  refine ite_sat (.fault h) ?_
  split
  case h_1 => exact .fault h
  case h_2 x t₁ hopen =>
    have h₁ := (h.openRec ..).of_eq hopen
    exact ite_sat (.fault h₁) (ite_sat (.fault h₁)
      (ite_sat (((h₁.setSuRec _).closeRec _).goReg ..) ((h₁.setSuRec _).goReg ..)))

theorem mergeRun (r : SuRun) (w : Nat) (g : Nat → Nat) : SatEc (OnlyUnit u s) (t.mergeRun u r w g) := by
  unfold State.mergeRun
  extract_lets imm k n asc rs rank params
  split
  case h_1 => exact .fault h
  case h_2 f _ =>
    refine ite_sat (.fault h) ?_
    split
    case h_1 => exact .fault h
    case h_2 x t₁ hopen =>
      have h₁ := (h.openRec ..).of_eq hopen
      refine ite_sat (.fault h₁) (ite_sat (.fault h₁) ?_)
      have h₂ (y : SuRec) (bad unsorted : Nat) := ((h₁.setSuRec y).suCount r.slot 8 bad).suCount r.slot 9 unsorted
      exact ite_sat (((h₂ ..).closeRec _).goReg ..) ((h₂ ..).goReg ..)

end

/-- The next instruction of a run keeps what its outcome keeps (R311, R312). -/
theorem ecmel {u : Nat} {s : State} {op : Nat} {f : SuRun → Nat → (Nat → Nat) → State → EcOut}
    (hf : ∀ r w g, SatEc (OnlyUnit u s) (f r w g s)) : SatR (OnlyUnit u s) (s.ecmel u op f) := by
  have h := refl u s
  unfold State.ecmel
  refine ite_sat .fault ?_
  split
  case h_1 => exact .next h
  case h_2 r _ =>
    refine ite_sat (.next h) (ite_sat (.next (h.runFault ..)) ?_)
    extract_lets r' keep
    have hout := hf r' (imageInstr (s.rd Obj.programText r.slot) r.pc) fun g => r'.reg (s.su u).kept g
    split
    case h_1 heq => exact .next ((hout.eq_go heq).setSu _)
    case h_2 heq => exact .next ((hout.eq_jump heq).setSu _)
    case h_3 heq => exact .next ((hout.eq_ends heq).endRun ..)
    case h_4 heq => exact .next ((hout.eq_fault heq).runFault ..)
    case h_5 => exact .next h

/-! ### The instructions, by the outcomes each can have (R315, R321 to R330) -/

section
variable (u : Nat) (s : State)

theorem ecmelNop : SatR (OnlyUnit u s) (execEcmelNop u s) := ecmel fun _ _ _ =>
  .go (refl u s)

theorem ecmelEnd : SatR (OnlyUnit u s) (execEcmelEnd u s) := ecmel fun _ _ _ =>
  .ends (refl u s)

theorem ecmelDrop : SatR (OnlyUnit u s) (execEcmelDrop u s) := ecmel fun _ _ _ =>
  .ends (refl u s)

theorem brz : SatR (OnlyUnit u s) (execBrz u s) := ecmel fun _ _ _ =>
  ite_sat (.jump (refl u s)) (.go (refl u s))

theorem brnz : SatR (OnlyUnit u s) (execBrnz u s) := ecmel fun _ _ _ =>
  ite_sat (.jump (refl u s)) (.go (refl u s))

theorem movi : SatR (OnlyUnit u s) (execMovi u s) := ecmel fun _ _ _ =>
  (refl u s).goReg ..

theorem ecmelAlu : SatR (OnlyUnit u s) (execEcmelAlu u s) := ecmel fun _ _ _ =>
  (refl u s).goReg ..

theorem ecmelGet : SatR (OnlyUnit u s) (execEcmelGet u s) := ecmel fun _ _ _ =>
  (refl u s).goReg ..

theorem ecmelHdr : SatR (OnlyUnit u s) (execEcmelHdr u s) := ecmel fun _ _ _ =>
  (refl u s).goReg ..

theorem ldp : SatR (OnlyUnit u s) (execLdp u s) := ecmel fun _ _ _ =>
  ite_sat (.fault (refl u s)) ((refl u s).goReg ..)

theorem padd : SatR (OnlyUnit u s) (execPadd u s) := ecmel fun _ _ _ =>
  (refl u s).goReg ..

theorem ohdr : SatR (OnlyUnit u s) (execOhdr u s) := ecmel fun _ _ _ =>
  .go (refl u s)

theorem oput : SatR (OnlyUnit u s) (execOput u s) := ecmel fun _ _ _ =>
  ite_sat (.fault (refl u s)) (.go (refl u s))

theorem ocopy : SatR (OnlyUnit u s) (execOcopy u s) := ecmel fun _ _ _ =>
  ite_sat (.fault (refl u s)) (.go (refl u s))

theorem ecmelSend : SatR (OnlyUnit u s) (execEcmelSend u s) := ecmel fun _ _ _ =>
  ite_sat (.fault (refl u s)) (ite_sat (.fault (refl u s)) (ite_sat .waits (.go (((refl u s).congr (t' := s.send _) rfl rfl).suCount ..))))

theorem ecmelRsum : SatR (OnlyUnit u s) (execEcmelRsum u s) := ecmel fun _ _ _ =>
  (refl u s).rsum ..

theorem ecmelGath : SatR (OnlyUnit u s) (execEcmelGath u s) := ecmel fun _ _ _ =>
  (refl u s).gath ..

theorem ecmelFilt : SatR (OnlyUnit u s) (execEcmelFilt u s) := ecmel fun r w _ => by
  have h := refl u s
  refine match ecFormat (ecFmt w) with
    | none => .fault h
    | some f => ite_sat (.fault h) (goReg ((((h.suCount ..).suCount ..).suCount ..).suCount ..) ..)

theorem ecmelMerge : SatR (OnlyUnit u s) (execEcmelMerge u s) := ecmel fun _ _ _ =>
  (refl u s).mergeRun ..

theorem btest : SatR (OnlyUnit u s) (execBtest u s) := ecmel fun _ _ _ =>
  ite_sat (.fault (refl u s)) ((refl u s).goReg ..)

theorem bset : SatR (OnlyUnit u s) (execBset u s) := ecmel fun _ _ _ =>
  ite_sat (.fault (refl u s)) (.go ((refl u s).bitmapWrite ..))

theorem gfmac : SatR (OnlyUnit u s) (execGfmac u s) := ecmel fun _ _ _ =>
  ite_sat (.fault (refl u s)) (.go (refl u s))

theorem ozero : SatR (OnlyUnit u s) (execOzero u s) := ecmel fun _ _ _ =>
  ite_sat (.fault (refl u s)) (.go (refl u s))

end

end OnlyUnit

/-! ### The commands -/

/-- The frame of an instruction of a stream program. -/
theorem Agree.ecmelFrame {m u : Nat} {c : Instr} {s t : State} {os : List ObjCode} {E : Prop} (hu : SatR (OnlyUnit u s) (exec c s))
    (h : Agree m s t) (heq : Agree m s t → E) (hnext : exec c s = .next t)
    (hos : (objTable.zipIdx.all fun p => !m.testBit p.2 || os.contains p.1.code) = true := by decide +kernel)
    (hlast : m.testBit objTable.length = false := by decide +kernel) :
    E ∧ SameObjects s t os ∧ (∀ x, x ≠ u → t.su x = s.su x) ∧
      ∀ space off, space < 16 → off < 2 ^ 44 → t.mem8 space off = s.mem8 space off :=
  have honly := hu.of_eq hnext
  ⟨heq h, h.sameObjects hos hlast, honly.su, honly.mem8⟩

/-- What stream runs, chunks and buffers write, with the memory errors they can meet. -/
abbrev Foot.poolAndChunkWork : Nat := 0x1c00400001eff19863f6b07000000100000080000011600d1e589ca80221c81800a911200040ec000605c00

/-- Settles O59, from the footprint of each command. -/
theorem streamUnitAndCollectiveCommandsChangeNothingElse :
    Obligations.StreamUnitAndCollectiveCommandsChangeNothingElse := by
  unfold Obligations.StreamUnitAndCollectiveCommandsChangeNothingElse
  intro c s t hnext
  cases c
  case suFrameDeliver => exact Agree.frame (Agree.of_closed (fun _ hP hs => execSuFrameDeliver_closed hP hs ..) rfl hnext) Agree.eq
  case suRunStart => exact Agree.frame (Agree.of_closed (fun _ hP hs => execSuRunStart_closed hP hs ..) rfl hnext) Agree.eq
  case ecmelNop => exact Agree.ecmelFrame (OnlyUnit.ecmelNop ..) (Agree.of_closed (fun _ hP hs => execEcmelNop_closed hP hs ..) rfl hnext) Agree.eq hnext
  case ecmelEnd => exact Agree.ecmelFrame (OnlyUnit.ecmelEnd ..) (Agree.of_closed (fun _ hP hs => execEcmelEnd_closed hP hs ..) rfl hnext) Agree.eq hnext
  case ecmelDrop => exact Agree.ecmelFrame (OnlyUnit.ecmelDrop ..) (Agree.of_closed (fun _ hP hs => execEcmelDrop_closed hP hs ..) rfl hnext) Agree.eq hnext
  case brz => exact Agree.ecmelFrame (OnlyUnit.brz ..) (Agree.of_closed (fun _ hP hs => execBrz_closed hP hs ..) rfl hnext) Agree.eq hnext
  case brnz => exact Agree.ecmelFrame (OnlyUnit.brnz ..) (Agree.of_closed (fun _ hP hs => execBrnz_closed hP hs ..) rfl hnext) Agree.eq hnext
  case movi => exact Agree.ecmelFrame (OnlyUnit.movi ..) (Agree.of_closed (fun _ hP hs => execMovi_closed hP hs ..) rfl hnext) Agree.eq hnext
  case ecmelAlu => exact Agree.ecmelFrame (OnlyUnit.ecmelAlu ..) (Agree.of_closed (fun _ hP hs => execEcmelAlu_closed hP hs ..) rfl hnext) Agree.eq hnext
  case ecmelGet => exact Agree.ecmelFrame (OnlyUnit.ecmelGet ..) (Agree.of_closed (fun _ hP hs => execEcmelGet_closed hP hs ..) rfl hnext) Agree.eq hnext
  case ecmelHdr => exact Agree.ecmelFrame (OnlyUnit.ecmelHdr ..) (Agree.of_closed (fun _ hP hs => execEcmelHdr_closed hP hs ..) rfl hnext) Agree.eq hnext
  case ldp => exact Agree.ecmelFrame (OnlyUnit.ldp ..) (Agree.of_closed (fun _ hP hs => execLdp_closed hP hs ..) rfl hnext) Agree.eq hnext
  case padd => exact Agree.ecmelFrame (OnlyUnit.padd ..) (Agree.of_closed (fun _ hP hs => execPadd_closed hP hs ..) rfl hnext) Agree.eq hnext
  case ohdr => exact Agree.ecmelFrame (OnlyUnit.ohdr ..) (Agree.of_closed (fun _ hP hs => execOhdr_closed hP hs ..) rfl hnext) Agree.eq hnext
  case oput => exact Agree.ecmelFrame (OnlyUnit.oput ..) (Agree.of_closed (fun _ hP hs => execOput_closed hP hs ..) rfl hnext) Agree.eq hnext
  case ocopy => exact Agree.ecmelFrame (OnlyUnit.ocopy ..) (Agree.of_closed (fun _ hP hs => execOcopy_closed hP hs ..) rfl hnext) Agree.eq hnext
  case ecmelRsum => exact Agree.ecmelFrame (OnlyUnit.ecmelRsum ..) (Agree.of_closed (fun _ hP hs => execEcmelRsum_closed hP hs ..) rfl hnext) Agree.eq hnext
  case ecmelGath => exact Agree.ecmelFrame (OnlyUnit.ecmelGath ..) (Agree.of_closed (fun _ hP hs => execEcmelGath_closed hP hs ..) rfl hnext) Agree.eq hnext
  case ecmelFilt => exact Agree.ecmelFrame (OnlyUnit.ecmelFilt ..) (Agree.of_closed (fun _ hP hs => execEcmelFilt_closed hP hs ..) rfl hnext) Agree.eq hnext
  case ecmelMerge => exact Agree.ecmelFrame (OnlyUnit.ecmelMerge ..) (Agree.of_closed (fun _ hP hs => execEcmelMerge_closed hP hs ..) rfl hnext) Agree.eq hnext
  case btest => exact Agree.ecmelFrame (OnlyUnit.btest ..) (Agree.of_closed (fun _ hP hs => execBtest_closed hP hs ..) rfl hnext) Agree.eq hnext
  case bset => exact Agree.ecmelFrame (OnlyUnit.bset ..) (Agree.of_closed (fun _ hP hs => execBset_closed hP hs ..) rfl hnext) Agree.eq hnext
  case gfmac => exact Agree.ecmelFrame (OnlyUnit.gfmac ..) (Agree.of_closed (fun _ hP hs => execGfmac_closed hP hs ..) rfl hnext) Agree.eq hnext
  case ozero => exact Agree.ecmelFrame (OnlyUnit.ozero ..) (Agree.of_closed (fun _ hP hs => execOzero_closed hP hs ..) rfl hnext) Agree.eq hnext
  case ecmelSend => exact Agree.ecmelFrame (OnlyUnit.ecmelSend ..) (Agree.of_closed (fun _ hP hs => execEcmelSend_closed hP hs ..) rfl hnext) Agree.eq hnext
  case programLoad => exact Agree.frame (Agree.of_closed (fun _ hP hs => execProgramLoad_closed hP hs ..) rfl hnext) Agree.eq
  case programClear => exact Agree.frame (Agree.of_closed (fun _ hP hs => execProgramClear_closed hP hs ..) rfl hnext) Agree.eq
  case unbind => exact Agree.frame (Agree.of_closed (fun _ hP hs => execUnbind_closed hP hs ..) rfl hnext) Agree.eq
  case forceUnbind => exact Agree.frame (Agree.of_closed (fun _ hP hs => execForceUnbind_closed hP hs ..) rfl hnext) Agree.eq
  case bitmapClear => exact Agree.frame (Agree.of_closed (fun _ hP hs => execBitmapClear_closed hP hs ..) rfl hnext) Agree.eq
  case groupDestroy => exact Agree.frame (Agree.of_closed (fun _ hP hs => execGroupDestroy_closed hP hs ..) rfl hnext) Agree.eq
  case groupResume => exact Agree.frame (Agree.of_closed (fun _ hP hs => execGroupResume_closed hP hs ..) rfl hnext) Agree.eq
  case contribFrame => exact Agree.frame (Agree.of_closed (fun _ hP hs => execContribFrame_closed hP hs ..) rfl hnext) Agree.eq
  case resultFrame => exact Agree.frame (Agree.of_closed (fun _ hP hs => execResultFrame_closed hP hs ..) rfl hnext) Agree.eq
  case directFrame => exact Agree.frame (Agree.of_closed (fun _ hP hs => execDirectFrame_closed hP hs ..) rfl hnext) Agree.eq
  case grantFrame => exact Agree.frame (Agree.of_closed (fun _ hP hs => execGrantFrame_closed hP hs ..) rfl hnext) Agree.eq
  case doneFrame => exact Agree.frame (Agree.of_closed (fun _ hP hs => execDoneFrame_closed hP hs ..) rfl hnext) Agree.eq
  case abortFrame => exact Agree.frame (Agree.of_closed (fun _ hP hs => execAbortFrame_closed hP hs ..) rfl hnext) Agree.eq
  case chunkTimeout => exact Agree.frame (Agree.of_closed (fun _ hP hs => execChunkTimeout_closed hP hs ..) rfl hnext) Agree.eq
  case resultTimeout => exact Agree.frame (Agree.of_closed (fun _ hP hs => execResultTimeout_closed hP hs ..) rfl hnext) Agree.eq
  case resultAssemble => exact Agree.frame (Agree.of_closed (fun _ hP hs => execResultAssemble_closed hP hs ..) rfl hnext) Agree.eq
  case bpmHandover => exact Agree.frame (Agree.of_closed (fun _ hP hs => execBpmHandover_closed hP hs ..) rfl hnext) Agree.eq
  case bpmFree => exact Agree.frame (Agree.of_closed (fun _ hP hs => execBpmFree_closed hP hs ..) rfl hnext) Agree.eq
  case poolInit => exact Agree.frame (Agree.of_closed (fun _ hP hs => execPoolInit_closed hP hs ..) rfl hnext) Agree.eq
  case poolDisable => exact Agree.frame (Agree.of_closed (fun _ hP hs => execPoolDisable_closed hP hs ..) rfl hnext) Agree.eq
  case poolInitDone => exact Agree.frame (Agree.of_closed (fun _ hP hs => execPoolInitDone_closed hP hs ..) rfl hnext) Agree.eq
  case ownerQuery => exact Agree.frame (Agree.of_closed (fun _ hP hs => execOwnerQuery_closed hP hs ..) rfl hnext) Agree.eq
  case cvuStart => exact Agree.frame (Agree.of_closed (fun _ hP hs => execCvuStart_closed hP hs ..) rfl hnext) Agree.eq
  case cvuFinish => exact Agree.frame (Agree.of_closed (fun _ hP hs => execCvuFinish_closed hP hs ..) rfl hnext) Agree.eq
  case cvuResume => exact Agree.frame (Agree.of_closed (fun _ hP hs => execCvuResume_closed hP hs ..) rfl hnext) Agree.eq
  case cvuSuspend => exact Agree.frame (Agree.of_closed (fun _ hP hs => execCvuSuspend_closed hP hs ..) rfl hnext) Agree.eq
  case feed => exact Agree.frame (Agree.of_closed (fun _ hP hs => execFeed_closed hP hs ..) rfl hnext) Agree.eq
  case cvuCancel => exact Agree.frame (Agree.of_closed (fun _ hP hs => execCvuCancel_closed hP hs ..) rfl hnext) Agree.eq
  case scanSubmit => exact Agree.frame (Agree.of_closed (fun _ hP hs => execScanSubmit_closed hP hs ..) rfl hnext) Agree.eq
  case scanCancel => exact Agree.frame (Agree.of_closed (fun _ hP hs => execScanCancel_closed hP hs ..) rfl hnext) Agree.eq
  case scanJobStart => exact Agree.frame (Agree.of_closed (fun _ hP hs => execScanJobStart_closed hP hs ..) rfl hnext) Agree.eq
  case guardRun => exact Agree.frame (Agree.of_within Foot.poolAndChunkWork (fun _ hP hs => execGuardRun_closed hP hs ..) hnext) Agree.eq
  case bind => exact Agree.frame (Agree.of_within Foot.poolAndChunkWork (fun _ hP hs => execBind_closed hP hs ..) hnext) Agree.eq
  case groupSetup => exact Agree.frame (Agree.of_within Foot.poolAndChunkWork (fun _ hP hs => execGroupSetup_closed hP hs ..) hnext) Agree.eq
  case chunkSend => exact Agree.frame (Agree.of_within Foot.poolAndChunkWork (fun _ hP hs => execChunkSend_closed hP hs ..) hnext) Agree.eq
  case retryFrame => exact Agree.frame (Agree.of_within Foot.poolAndChunkWork (fun _ hP hs => execRetryFrame_closed hP hs ..) hnext) Agree.eq
  case bpmReserve => exact Agree.frame (Agree.of_within Foot.poolAndChunkWork (fun _ hP hs => execBpmReserve_closed hP hs ..) hnext) Agree.eq
  case bpmAllocHigh => exact Agree.frame (Agree.of_within Foot.poolAndChunkWork (fun _ hP hs => execBpmAllocHigh_closed hP hs ..) hnext) Agree.eq
  case bpmAllocLow => exact Agree.frame (Agree.of_within Foot.poolAndChunkWork (fun _ hP hs => execBpmAllocLow_closed hP hs ..) hnext) Agree.eq
  case feedDone => exact Agree.frame (Agree.of_within Foot.poolAndChunkWork (fun _ hP hs => execFeedDone_closed hP hs ..) hnext) Agree.eq
  case scanJobEnd => exact (Agree.of_closed (fun _ hP hs => execScanJobEnd_closed hP hs ..) rfl hnext).eq
  all_goals trivial

end Sys2Proof.Laws
end

section
/-! PROOFS. What the resets and the input events keep and lose (O54, O45). -/

namespace Sys2Proof.Laws

set_option Elab.async false

open Sys2Proof.Machine

/-! ### The object store after a restart -/

/-- Of a filter that keeps a key, the same is found under it. -/
theorem find_filter_kept {α : Type} {l : KMap α} {g : Nat × α → Bool} {k : Nat} (hg : ∀ v, g (k, v) = true) :
    KMap.find (l.filter g) k = KMap.find l k := by
  induction l with
  | nil => rfl
  | cons p l ih =>
    obtain ⟨a, v⟩ := p
    by_cases ha : a = k
    · subst ha
      rw [List.filter_cons_of_pos (hg v)]
      simp only [KMap.find, if_true]
    · rw [List.filter_cons]
      split <;> simp only [KMap.find, if_neg ha, ih]

section
variable {s : State} {kind : Nat} {ended : Bool} {c : ObjCode} {i : Nat}

/-- An entry that a restart does not keep reads its factory value. -/
theorem restart_rd_dropped (hid : identRead s.ident c = none) (hlast : c ≠ Obj.lastReset)
    (hdrop : keptEntry kind (decide (resetPin ≤ kind) && !ended) (objKey c i) = false) :
    (s.restart kind ended).rd c i = factoryKey (objKey c i) := by
  unfold State.restart
  extract_lets keep src t
  rw [State.rd_wr_obj t 0 i _ hlast, rd_of_stored (s := t) hid]
  exact get_filter_dropped (fun _ => hdrop) _

/-- An entry that it keeps reads as before. -/
theorem restart_rd_kept (hlast : c ≠ Obj.lastReset)
    (hkept : keptEntry kind (decide (resetPin ≤ kind) && !ended) (objKey c i) = true) :
    (s.restart kind ended).rd c i = s.rd c i := by
  unfold State.restart
  extract_lets keep src t
  have hfind : KMap.find t.objs (objKey c i) = KMap.find s.objs (objKey c i) := find_filter_kept fun _ => hkept
  rw [State.rd_wr_obj t 0 i _ hlast]
  unfold State.rd KMap.get
  rw [hfind]

/-- LAST_RESET tells the kind of a reset, and whether it ended a scratch (R504). -/
theorem restart_lastReset (s : State) (kind : Nat) (ended : Bool) :
    (s.restart kind ended).rd Obj.lastReset 0 = kind + if ended then 128 else 0 := by
  unfold State.restart
  rw [State.rd_wr_same _ _ _ _ rfl]
  cases ended <;> rfl

/-- The identity objects are none of those that the AOP keeps. -/
theorem identRead_of_persist_k {o : ObjInfo} (d : Ident) (ho : objInfo c = some o) (hk : o.persist = .k) : identRead d c = none := by
  have hall : ∀ o ∈ objTable, o.persist = .k → o.code ∉ [Obj.gradeCode, Obj.partNumber, Obj.serialNumber, Obj.corePresent,
      Obj.stackPresent, Obj.rakePresent, Obj.hbmPresent, Obj.ddr5SocketPresent, Obj.sm4Present, Obj.deviceCert, Obj.caCert] := by
    decide +kernel
  have hno := hall o (List.mem_of_find?_eq_some ho) hk
  rw [objInfo_code ho] at hno
  simp only [List.mem_cons, List.not_mem_nil, or_false, not_or] at hno
  simp [identRead, hno]

/-- LAST_RESET and MEASUREMENT are not K objects. -/
theorem ne_of_persist_k {o : ObjInfo} (ho : objInfo c = some o) (hk : o.persist = .k) : c ≠ Obj.lastReset ∧ c ≠ Obj.measurement := by
  have hall : ∀ o ∈ objTable, o.persist = .k → o.code ≠ Obj.lastReset ∧ o.code ≠ Obj.measurement := by decide +kernel
  have hno := hall o (List.mem_of_find?_eq_some ho) hk
  rwa [objInfo_code ho] at hno

/-- What a restart keeps of an object, by its persistence (R502); of MEASUREMENT, MR0 alone is kept otherwise. -/
theorem keptEntry_of_info {key : Nat} {o : ObjInfo} (ho : objInfo (key / 2 ^ 32) = some o) (hkey : key ≠ objKey Obj.measurement 0)
    (keep : Bool) : keptEntry kind keep key = ((o.persist == .s && kind != resetPowerOn) || (o.persist == .k && keep)) := by
  unfold keptEntry
  rw [ho]
  simp [beq_eq_false_iff_ne.mpr hkey]

theorem keptEntry_objKey {o : ObjInfo} (ho : objInfo c = some o) (hc : c ≠ Obj.measurement) (keep : Bool) :
    keptEntry kind keep (objKey c i) = ((o.persist == .s && kind != resetPowerOn) || (o.persist == .k && keep)) :=
  keptEntry_of_info (by rw [objKey_div, ho]) (objKey_ne_code _ _ hc) keep

/-- A restart that keeps nothing loses the K objects. -/
theorem restart_rd_k {o : ObjInfo} (ho : objInfo c = some o) (hk : o.persist = .k)
    (hkeep : (decide (resetPin ≤ kind) && !ended) = false) : (s.restart kind ended).rd c i = factoryKey (objKey c i) := by
  obtain ⟨hlast, hmeas⟩ := ne_of_persist_k ho hk
  refine restart_rd_dropped (identRead_of_persist_k _ ho hk) hlast ?_
  rw [keptEntry_objKey ho hmeas, hk, hkeep]
  rfl

end

theorem restart_scratched (s : State) (kind : Nat) (ended : Bool) : (s.restart kind ended).scratched = false := by
  have hservice : (s.restart kind ended).service = 0 :=
    (restart_rd objInfo_serviceState rfl rfl (by decide) (by decide) 0).trans (by decide +kernel)
  unfold State.scratched
  rw [hservice]
  rfl

/-- What a state is after a reset that keeps neither memory nor K objects (R501). -/
def KeepsNothing (t : State) : Prop :=
  t.scratched = false ∧ t.mem = [] ∧ ∀ c i o, objInfo c = some o → o.persist = .k → t.rd c i = factoryKey (objKey c i)

theorem keepsNothing_restart (s : State) {kind : Nat} {ended : Bool} (hkeep : (decide (resetPin ≤ kind) && !ended) = false) :
    KeepsNothing (s.restart kind ended) := by
  refine ⟨restart_scratched .., ?_, fun c i o ho hk => restart_rd_k ho hk hkeep⟩
  change (if (decide (resetPin ≤ kind) && !ended) = true then _ else _) = ([] : List Host.Cell)
  rw [hkeep]
  rfl

/-- The fields of the state that a reset sets beside are none of them. -/
theorem KeepsNothing.of_same {t u : State} (h : KeepsNothing t) (hobjs : u.objs = t.objs) (hid : u.ident = t.ident)
    (hmem : u.mem = t.mem) : KeepsNothing u := by
  obtain ⟨hscratched, hnone, hk⟩ := h
  have hrd : ∀ c i, u.rd c i = t.rd c i := fun c i => by unfold State.rd; rw [hobjs, hid]
  refine ⟨?_, hmem.trans hnone, fun c i o ho hp => (hrd c i).trans (hk c i o ho hp)⟩
  unfold State.scratched State.service at hscratched ⊢
  rw [hrd, hscratched]

/-! ### Warm starts and trips -/

/-- A warm start is a restart, but for the firmware slot and where the start-up stands. -/
theorem warmStart_eq (s : State) : ∃ mark slot boot, s.warmStart =
    { s.restart resetWarm s.scratched with fwMark := mark, fwRunning := slot, boot := boot } := by
  unfold State.warmStart
  extract_lets t u
  unfold u
  split
  · exact ⟨_, _, _, rfl⟩
  · exact ⟨t.fwMark, t.fwRunning, _, rfl⟩

theorem warmStart_rd (s : State) (c : ObjCode) (i : Nat) : s.warmStart.rd c i = (s.restart resetWarm s.scratched).rd c i := by
  obtain ⟨mark, slot, boot, h⟩ := warmStart_eq s
  rw [h]
  rfl

theorem exec_warmReset {s : State} (hoff : s.boot ≠ .off) (hrom : s.boot ≠ .rom) (hheld : s.boot ≠ .held) :
    exec .warmReset s = .next s.warmStart := by
  change execWarmReset s = _
  simp [execWarmReset, hoff, hrom, hheld]

theorem exec_resetNAssert {s : State} {ns : Nat} (hns : 10000 ≤ ns) (hlow : s.resetLow = false) (haop : s.aopDead = false)
    (hoff : s.boot ≠ .off) (hrom : s.boot ≠ .rom) :
    exec (.resetNAssert ns) s = .next { ({ s with resetLow := true } : State).restart resetPin s.scratched with boot := .held } := by
  change execResetNAssert ns s = _
  simp [execResetNAssert, Nat.not_lt.mpr hns, hlow, haop, hoff, hrom]

/-- The state of a trip, before it turns the supplies off. -/
def State.beforeTrip (s : State) (bit count : Nat) : State := (s.scratchRecord causePower).inputEvent bit count

theorem beforeTrip_agree (s : State) (bit count : Nat) :
    Agree 0x200000000000000c0000000000000000000000000000000000000000000001c00 s (State.beforeTrip s bit count) :=
  State.inputEvent_closed ((Agree.closed s rfl).mono (by decide +kernel))
    (State.scratchRecord_closed ((Agree.closed s rfl).mono (by decide +kernel)) (Agree.refl _ s) _) _ _

theorem trip_eq {s : State} (haop : s.aopDead = false) (hoff : s.boot ≠ .off) (bit count : Nat) : s.trip bit count =
    { (State.beforeTrip s bit count).restart resetTrip s.scratched with boot := .off, tripped := some s.scratched } := by
  unfold State.trip
  rw [if_neg (by simp [haop, hoff])]
  rfl

theorem exec_tripUv {s : State} {volts ns : Nat} (hv : volts < 2800) (hns : 2000 ≤ ns ∨ s.inputBlocked = true) :
    exec (.tripUv volts ns) s = .next (s.trip 3 128) := congrArg Host.Outcome.next (if_pos ⟨hv, hns⟩)

theorem exec_tripOv {s : State} {volts ns : Nat} (hv : 4400 ≤ volts) (hns : 1000 ≤ ns) :
    exec (.tripOv volts ns) s = .next (s.trip 4 192) := congrArg Host.Outcome.next (if_pos ⟨hv, hns⟩)

theorem exec_aopFloor {s : State} {volts : Nat} (haop : s.aopDead = false) (hv : volts < 1800) :
    exec (.aopFloor volts) s = .next { s.restart resetPowerOn false with boot := .off, aopDead := true } :=
  congrArg Host.Outcome.next (if_neg (by simp [haop, Nat.not_le.mpr hv]))

theorem exec_tripRestart {s : State} {volts ns : Nat} {was : Bool} (haop : s.aopDead = false) (htripped : s.tripped = some was)
    (hlo : 3000 ≤ volts) (hhi : volts ≤ 4200) (hns : 10000000 ≤ ns) :
    exec (.tripRestart volts ns) s = .next (s.coldStart resetTrip was) := by
  change execTripRestart volts ns s = _
  simp [execTripRestart, htripped, haop, within, hlo, hhi, Nat.not_lt.mpr hns]

/-- Settles O54: each of these resets restarts with nothing kept (`keepsNothing_restart`). -/
theorem resetThatEndsAScratchKeepsNothing : Obligations.ResetThatEndsAScratchKeepsNothing := by
  unfold Obligations.ResetThatEndsAScratchKeepsNothing
  refine ⟨?_, ?_⟩
  · intro s hscratched haop hlow hoff hrom hheld low high floor ns huv hov hfloor hns c hc
    have hended (kind : Nat) : (decide (resetPin ≤ kind) && !s.scratched) = false := by rw [hscratched]; exact Bool.and_false _
    obtain ⟨mark, slot, boot, hwarm⟩ := warmStart_eq s
    simp only [List.mem_cons, List.not_mem_nil, or_false] at hc
    rcases hc with rfl | rfl | rfl | rfl | rfl
    · exact ⟨_, exec_warmReset hoff hrom hheld, hwarm ▸ (keepsNothing_restart s (hended _)).of_same rfl rfl rfl⟩
    · exact ⟨_, exec_resetNAssert hns hlow haop hoff hrom, (keepsNothing_restart _ (hended _)).of_same rfl rfl rfl⟩
    · exact ⟨_, (exec_tripUv huv (.inl (by omega))).trans (congrArg _ (trip_eq haop hoff ..)),
        (keepsNothing_restart _ (hended _)).of_same rfl rfl rfl⟩
    · exact ⟨_, (exec_tripOv hov (by omega)).trans (congrArg _ (trip_eq haop hoff ..)),
        (keepsNothing_restart _ (hended _)).of_same rfl rfl rfl⟩
    · exact ⟨_, exec_aopFloor haop hfloor, (keepsNothing_restart s (kind := resetPowerOn) (ended := false) rfl).of_same rfl rfl rfl⟩
  · intro s volts ns haop htripped hlo hhi hns
    obtain ⟨-, hmem, hk⟩ := keepsNothing_restart s (kind := resetTrip) (ended := true) rfl
    exact ⟨_, exec_tripRestart haop htripped hlo hhi hns, rfl, hmem, hk⟩

/-! ### Events of the input -/

theorem exec_inputDip {s : State} {low ns after : Nat} (haop : s.aopDead = false) (hoff : s.boot ≠ .off) (hafter : 3120 ≤ after) :
    exec (.inputDip low ns after) s = .next (if low < 3100 ∧ 1000 * s.rd Obj.dipFilterUs 0 ≤ ns then s.inputEvent 0 0 else s) := by
  change execInputDip low ns after s = _
  unfold execInputDip
  by_cases hdip : low < 3100 ∧ 1000 * s.rd Obj.dipFilterUs 0 ≤ ns
  · rw [if_pos hdip, if_neg (by simp [haop, hoff]; omega)]
  · rw [if_neg hdip, if_pos (by simp [haop, hoff]; omega)]

theorem exec_ovWarn {s : State} (volts ns : Nat) (haop : s.aopDead = false) :
    exec (.ovWarn volts ns) s = .next (if 4200 < volts ∧ 5000 ≤ ns then s.wrFld Obj.inputEvents 0 1 1 1 else s) := by
  change execOvWarn volts ns s = _
  unfold execOvWarn
  by_cases hwarn : 4200 < volts ∧ 5000 ≤ ns
  · rw [if_pos hwarn, if_neg (by simp [haop]; omega)]
  · rw [if_neg hwarn, if_pos (by simp [haop]; omega)]

theorem exec_reverseBlock {s : State} (haop : s.aopDead = false) (hoff : s.boot ≠ .off) (hblocked : s.inputBlocked = false) :
    exec .reverseBlock s = .next { s.inputEvent 2 64 with inputBlocked := true } :=
  congrArg Host.Outcome.next (if_neg (by simp [haop, hoff, hblocked]))

/-- Between the levels of R476 nothing trips. -/
theorem exec_trip_within {s : State} {volts : Nat} (ns : Nat) (hlo : 2800 ≤ volts) (hhi : volts < 4400) :
    exec (.tripUv volts ns) s = .next s ∧ exec (.tripOv volts ns) s = .next s :=
  ⟨congrArg Host.Outcome.next (if_neg (by omega)), congrArg Host.Outcome.next (if_neg (by omega))⟩

/-- What a trip leaves (R478, R479). -/
theorem tripped_leaves {s : State} (haop : s.aopDead = false) (hoff : s.boot ≠ .off) (bit count : Nat) :
    let t := s.trip bit count
    t.boot = .off ∧ t.tripped = some s.scratched ∧ t.mem = [] ∧ t.cores = [] ∧ t.frames = [] ∧ t.flash = s.flash ∧
      t.ident = s.ident ∧ t.pending = s.pending ∧ t.rd Obj.lastReset 0 = 2 + if s.scratched then 128 else 0 := by
  rw [trip_eq haop hoff]
  have hbefore := beforeTrip_agree s bit count
  exact ⟨rfl, rfl, rfl, rfl, rfl, hbefore.flash rfl, hbefore.ident, hbefore.pending, restart_lastReset ..⟩

theorem exec_powerOn {s : State} (haop : s.aopDead = true) : exec .powerOn s = .next (s.coldStart resetPowerOn false) :=
  congrArg Host.Outcome.next (if_pos haop)

/-! ### What a warm reset keeps -/

/-- The bytes of memory after a restart: those below the local memories, where it keeps them (R502). -/
theorem mem_restart (s : State) (kind : Nat) (ended : Bool) (k : Nat) : KMap.get (s.restart kind ended).mem 0 k =
    if (decide (resetPin ≤ kind) && !ended) = true ∧ k < memKey 2 0 then KMap.get s.mem 0 k else 0 := by
  change KMap.get (if (decide (resetPin ≤ kind) && !ended) = true then s.mem.filter fun c => decide (c.1 < memKey 2 0) else []) 0 k = _
  by_cases hkeep : (decide (resetPin ≤ kind) && !ended) = true
  · simp only [if_pos hkeep, KMap.get, find_filter s.mem fun a => decide (a < memKey 2 0)]
    by_cases hk : k < memKey 2 0 <;> simp [hkeep, hk]
  · simp only [hkeep]
    rfl

/-- The objects after a warm start, by their persistence (R502). -/
theorem warmStart_objects (s : State) {c : ObjCode} {o : ObjInfo} (i : Nat) (ho : objInfo c = some o) (hlast : c ≠ Obj.lastReset)
    (hmeas : c ≠ Obj.measurement) :
    (o.persist = .v → identRead s.ident c = none → s.warmStart.rd c i = factoryKey (objKey c i)) ∧
      (o.persist = .s → s.warmStart.rd c i = s.rd c i) ∧
      (o.persist = .k → s.scratched = false → s.warmStart.rd c i = s.rd c i) := by
  have hkept := keptEntry_objKey (kind := resetWarm) (i := i) ho hmeas (decide (resetPin ≤ resetWarm) && !s.scratched)
  refine ⟨fun hv hid => ?_, fun hs => ?_, fun hk hlive => ?_⟩
  · exact (warmStart_rd ..).trans (restart_rd ho hv hid hmeas hlast i)
  · exact (warmStart_rd ..).trans (restart_rd_kept hlast (hkept.trans (by rw [hs]; rfl)))
  · exact (warmStart_rd ..).trans (restart_rd_kept hlast (hkept.trans (by rw [hk, hlive]; rfl)))

/-- What a warm start leaves of the units, the keys and the memory. -/
theorem warmStart_leaves (s : State) :
    let t := s.warmStart
    t.boot = (if s.resetLow then .held else .aop) ∧ t.rd Obj.lastReset 0 = 4 + (if s.scratched then 128 else 0) ∧
      t.cores = [] ∧ t.frames = [] ∧ t.sent = [] ∧ t.ports = [] ∧ t.flash = s.flash ∧ t.ownerKey = s.ownerKey ∧
      (∀ k, k < memKey 2 0 → KMap.get t.mem 0 k = if s.scratched then 0 else KMap.get s.mem 0 k) ∧
      ∀ k, memKey 2 0 ≤ k → KMap.get t.mem 0 k = 0 := by
  have hboot : s.warmStart.boot = if s.resetLow then .held else .aop := rfl
  have hlast := (warmStart_rd s Obj.lastReset 0).trans (restart_lastReset ..)
  obtain ⟨mark, slot, boot, hwarm⟩ := warmStart_eq s
  have hmem : s.warmStart.mem = (s.restart resetWarm s.scratched).mem := by rw [hwarm]
  refine ⟨hboot, hlast, ?_, ?_, ?_, ?_, ?_, ?_, fun k hk => ?_, fun k hk => ?_⟩
  any_goals rw [hwarm]; rfl
  · rw [hmem, mem_restart]
    cases s.scratched <;> simp [hk, resetPin, resetWarm]
  · rw [hmem, mem_restart, if_neg (by omega)]

/-- Settles O45, event by event. -/
theorem inputPowerAndResetsKeepWhatTheyMust : Obligations.InputPowerAndResetsKeepWhatTheyMust := by
  unfold Obligations.InputPowerAndResetsKeepWhatTheyMust
  refine ⟨fun s volts ns => ⟨fun haop hoff => ⟨fun low after => exec_inputDip haop hoff, ?_, exec_trip_within ns,
    exec_reverseBlock haop hoff⟩, fun haop => ⟨exec_ovWarn volts ns haop, fun hfloor => ?_, fun was htripped hlo hhi hns => ?_⟩,
    fun haop => ?_, rfl⟩, fun s => ⟨fun hoff hrom hheld => ?_, fun ns hns hlow haop hoff hrom => ?_, fun ns hns => ?_,
    fun ns hns hheld => ?_⟩⟩
  · rintro c (⟨rfl, hv, hns⟩ | ⟨rfl, hv, hns⟩)
    · exact ⟨_, exec_tripUv hv hns, tripped_leaves haop hoff ..⟩
    · exact ⟨_, exec_tripOv hv hns, tripped_leaves haop hoff ..⟩
  · exact ⟨_, exec_aopFloor haop hfloor, rfl, rfl, rfl, restart_lastReset s resetPowerOn false⟩
  · exact ⟨_, exec_tripRestart haop htripped hlo hhi hns, rfl, rfl, rfl, restart_lastReset s resetTrip was⟩
  · exact ⟨_, exec_powerOn haop, rfl, rfl, rfl, restart_lastReset s resetPowerOn false⟩
  · obtain ⟨hboot, hlast, hcores, hframes, hsent, hports, hflash, howner, hlow, hhigh⟩ := warmStart_leaves s
    exact ⟨_, exec_warmReset hoff hrom hheld, hboot, hlast, hcores, hframes, hsent, hports, hflash, howner, hlow, hhigh,
      fun c i o ho hc hm => warmStart_objects s i ho hc hm⟩
  · exact ⟨_, exec_resetNAssert hns hlow haop hoff hrom, rfl, rfl, rfl, restart_lastReset _ resetPin s.scratched⟩
  · exact if_pos hns
  · exact ⟨_, congrArg Host.Outcome.next (if_neg (Nat.not_lt.mpr hns)), if_pos hheld, rfl, rfl⟩

end Sys2Proof.Laws
end

section
/-! PROOFS. Power states are requested, entered, abandoned and left (O48). -/

namespace Sys2Proof.Laws

set_option Elab.async false

open Sys2Proof.Machine

/-! ### POWER_STATE and POWER_CMD under the notes and the ends of requests -/

theorem fld_withRingDone (s : State) (x : List (Nat × Nat × Nat)) (c : ObjCode) (i lo w : Nat) :
    ({ s with ringDone := x } : State).fld c i lo w = s.fld c i lo w := rfl

theorem power_withEntryWake (s : State) (e : Option PowerEntry) (ws : List (Nat × Option Nat)) :
    ({ s with powerEntry := e, powerWake := ws } : State).power = s.power := rfl

theorem power_withWake (s : State) (ws : List (Nat × Option Nat)) : ({ s with powerWake := ws } : State).power = s.power := rfl

/-- `powerNote` writes the transition bits of POWER_STATE alone (R504). -/
theorem fld_powerState_powerNote (s : State) {lo w : Nat} (h : lo + w ≤ 2 ∨ 6 ≤ lo) :
    s.powerNote.fld Obj.powerState 0 lo w = s.fld Obj.powerState 0 lo w := by
  have hbits (t : State) (lo' w' v : Nat) (hlo : 2 ≤ lo') (hhi : lo' + w' ≤ 6) :
      (t.wrFld Obj.powerState 0 lo' w' v).fld Obj.powerState 0 lo w = t.fld Obj.powerState 0 lo w :=
    State.fld_wrFld_other _ _ _ _ _ _ _ _ rfl (by omega)
  unfold State.powerNote
  extract_lets mine own t
  have ht : t.fld Obj.powerState 0 lo w = s.fld Obj.powerState 0 lo w := by
    unfold t
    split
    · exact State.fld_wrFld_obj _ _ _ _ _ _ _ _ (by decide)
    · rfl
  split
  · rw [hbits _ 4 2 _ (by decide) (by decide), hbits _ 3 1 _ (by decide) (by decide), hbits _ 2 1 _ (by decide) (by decide), ht]
  · rw [hbits _ 4 2 _ (by decide) (by decide), hbits _ 2 2 _ (by decide) (by decide), ht]
  · rw [hbits _ 2 2 _ (by decide) (by decide), ht]

theorem powerNote_agree (s : State) : Agree 0x1800000000000000000000000000000000000000000000000000 s s.powerNote :=
  State.powerNote_closed (Agree.closed s rfl) (Agree.refl _ s)

/-- With nothing under way it clears them. -/
theorem powerNote_idle {s : State} (hentry : s.powerEntry = none) (hwake : s.powerWake = []) :
    s.powerNote = s.wrFld Obj.powerState 0 2 2 0 := by
  simp [State.powerNote, hentry, hwake]

theorem power_powerNote (s : State) : s.powerNote.power = s.power := fld_powerState_powerNote s (.inl (by decide))

/-- The end of a request writes its outcome into POWER_STATE (R492), and no other bit of it. -/
theorem fld_powerState_powerEnd (s : State) (ring : Option Nat) (code point : Nat) {lo w : Nat} (h : lo + w ≤ 8 ∨ 19 ≤ lo) :
    (s.powerEnd ring code point).fld Obj.powerState 0 lo w = s.fld Obj.powerState 0 lo w := by
  have hout : ((s.wrFld Obj.powerState 0 8 8 code).wrFld Obj.powerState 0 16 3 point).fld Obj.powerState 0 lo w =
      s.fld Obj.powerState 0 lo w :=
    (State.fld_wrFld_other _ _ _ _ _ _ _ _ rfl (by omega)).trans (State.fld_wrFld_other _ _ _ _ _ _ _ _ rfl (by omega))
  cases ring with
  | none => exact (State.fld_wr_obj _ _ _ _ _ _ (by decide)).trans hout
  | some id =>
    unfold State.powerEnd
    exact (fld_withRingDone ..).trans hout

theorem power_powerEnd (s : State) (ring : Option Nat) (code point : Nat) : (s.powerEnd ring code point).power = s.power :=
  fld_powerState_powerEnd s ring code point (.inl (by decide))

theorem outcome_powerEnd (s : State) (code point : Nat) :
    (s.powerEnd none code point).fld Obj.powerState 0 8 8 = code % 2 ^ 8 :=
  (State.fld_wr_obj _ _ _ _ _ _ (by decide)).trans ((State.fld_wrFld_other _ _ _ _ _ _ _ _ rfl (.inl (by decide))).trans
    (State.fld_wrFld_same _ _ _ _ _ _ rfl))

theorem powerEnd_agree (s : State) (ring : Option Nat) (code point : Nat) :
    Agree 0x8000000000000000000000001800000000000000000000000000000000000000000000000000 s (s.powerEnd ring code point) :=
  State.powerEnd_closed (Agree.closed s rfl) (Agree.refl _ s) ..

theorem setPower_agree (s : State) (state : Nat) :
    Agree 0x800000000000000000000000000000000000000000000000000 s (s.setPower state) :=
  State.setPower_closed (Agree.closed s rfl) (Agree.refl _ s) state

theorem power_setPower (s : State) {state : Nat} (h : state < 4) : (s.setPower state).power = state :=
  (State.fld_wrFld_other _ _ _ _ _ _ _ _ rfl (.inl (by decide))).trans
    ((State.fld_wrFld_same _ _ _ _ _ _ rfl).trans (Nat.mod_eq_of_lt h))

/-! ### Requests (R491, R492) -/

section
variable {s : State} (hentry : s.powerEntry = none) (hwake : s.powerWake = []) (hlive : s.scratched = false)
  (hin : s.inService = true) (hpower : s.power < 2)
include hentry hwake hlive hin hpower

/-- RUN and HOLD are entered at once. -/
theorem powerRequest_at_once {target : Nat} (ht : target < 2) (hne : s.power ≠ target)
    (hcores : target = 0 ∨ (List.range 96).any s.coreLive = false) :
    s.powerRequest target none = (s.setPower target).powerEnd none 0 0 := by
  have hrefused : ¬(target ≠ 0 ∧ (List.range 96).any s.coreLive = true) := by
    rintro ⟨hne0, hany⟩
    rcases hcores with h | h
    · exact hne0 h
    · exact Bool.false_ne_true (h.symm.trans hany)
  unfold State.powerRequest
  rw [if_neg (by simp [hne]), if_neg (by simp [hlive, hin]), if_neg (by simp [hentry, hwake]),
    if_neg (by simp [hentry]; omega), if_neg (by omega), if_neg hrefused, if_pos ht]

/-- A deeper state is refused while a core runs (code 0x04). -/
theorem powerRequest_live {target : Nat} (ht : 2 ≤ target) (hcores : (List.range 96).any s.coreLive = true) :
    s.powerRequest target none = s.powerEnd none 0x04 0 := by
  unfold State.powerRequest
  rw [if_neg (by omega), if_neg (by simp [hlive, hin]), if_neg (by simp [hentry, hwake]),
    if_neg (by simp [hentry]; omega), if_neg (by omega), if_pos ⟨by omega, hcores⟩]

/-- The entry into a deeper state starts where no unit refuses it. -/
theorem powerRequest_starts {target : Nat} (ht : 2 ≤ target) (hcores : (List.range 96).any s.coreLive = false)
    (hrefusal : s.restRefusal target = 0) :
    s.powerRequest target none = ({ s with powerEntry := some ⟨target, none, target == 3, 0, []⟩ } : State).powerNote := by
  unfold State.powerRequest
  rw [if_neg (by omega), if_neg (by simp [hlive, hin]), if_neg (by simp [hentry, hwake]),
    if_neg (by simp [hentry]; omega), if_neg (by omega), if_neg (by rw [hcores]; simp), if_neg (by omega)]
  exact if_neg (not_not_intro hrefusal)

theorem powerCommand_at_once {target : Nat} (ht : target < 2) (hne : s.power ≠ target)
    (hcores : target = 0 ∨ (List.range 96).any s.coreLive = false) :
    (s.powerCommand target).power = target ∧ (s.powerCommand target).rd Obj.powerCmd 0 = 2 := by
  have hreq := powerRequest_at_once hentry hwake hlive hin hpower ht hne hcores
  have hset := setPower_agree s target
  have hend := powerEnd_agree (s.setPower target) none 0 0
  have hnote : s.powerCommand target = ((s.setPower target).powerEnd none 0 0).wrFld Obj.powerState 0 2 2 0 := by
    unfold State.powerCommand
    rw [hreq, powerNote_idle ((hend.powerEntry rfl).trans ((hset.powerEntry rfl).trans hentry))
      ((hend.powerWake rfl).trans ((hset.powerWake rfl).trans hwake))]
  constructor
  · unfold State.powerCommand
    rw [hreq, power_powerNote, power_powerEnd, power_setPower _ (by omega)]
  · rw [hnote, State.rd_wrFld_obj _ _ _ _ _ _ (by decide)]
    exact State.rd_wr_same _ _ _ _ rfl

theorem powerCommand_starts {target : Nat} (ht : 2 ≤ target) (hcores : (List.range 96).any s.coreLive = false)
    (hrefusal : s.restRefusal target = 0) :
    (s.powerCommand target).powerEntry = some ⟨target, none, target == 3, 0, []⟩ ∧ (s.powerCommand target).power = s.power := by
  unfold State.powerCommand
  rw [powerRequest_starts hentry hwake hlive hin hpower ht hcores hrefusal, power_powerNote, power_powerNote]
  exact ⟨((powerNote_agree _).powerEntry rfl).trans ((powerNote_agree _).powerEntry rfl), rfl⟩

theorem powerCommand_live {target : Nat} (ht : 2 ≤ target) (hcores : (List.range 96).any s.coreLive = true) :
    (s.powerCommand target).powerEntry = none ∧ (s.powerCommand target).power = s.power ∧
      (s.powerCommand target).fld Obj.powerState 0 8 8 = 4 := by
  unfold State.powerCommand
  rw [powerRequest_live hentry hwake hlive hin hpower ht hcores, power_powerNote, power_powerEnd,
    fld_powerState_powerNote _ (.inr (by decide)), outcome_powerEnd]
  exact ⟨((powerNote_agree _).powerEntry rfl).trans (((powerEnd_agree ..).powerEntry rfl).trans hentry), rfl, rfl⟩

end

/-! ### The steps of an entry and of a wake (R493 to R497) -/

section
variable {s : State} {e : PowerEntry} (he : s.powerEntry = some e)
include he

theorem exec_restAbortPoint_wakes (hpoint : e.point < 4) (hwakes : e.wakes ≠ []) :
    exec .restAbortPoint s = .next (s.abandonEntry e (e.point + 1)) := by
  change execRestAbortPoint s = _
  simp [execRestAbortPoint, he, Nat.not_le.mpr hpoint, hwakes]

theorem exec_restAbortPoint (hpoint : e.point < 4) (hwakes : e.wakes = []) (hwaiting : e.waiting = false) :
    exec .restAbortPoint s =
      .next { (if e.point = 1 then s.saveList e.target else s) with powerEntry := some { e with point := e.point + 1 } } := by
  change execRestAbortPoint s = _
  simp [execRestAbortPoint, he, Nat.not_le.mpr hpoint, hwakes, hwaiting]

theorem exec_deepRestPermit (hwaiting : e.waiting = true) (hwakes : e.wakes = []) :
    exec .deepRestPermit s = .next ({ s with powerEntry := some { e with waiting := false } } : State).powerNote := by
  change execDeepRestPermit s = _
  simp [execDeepRestPermit, he, hwaiting, hwakes]

theorem exec_restEntered (hpoint : 4 ≤ e.point) (htarget : e.target = 2 ∨ e.target = 3) :
    ∃ t, exec .restEntered s = .next t ∧ t.power = e.target ∧ t.powerEntry = none ∧ t.powerWake = e.wakes := by
  have hexec : exec .restEntered s = .next (({ (if e.target = 3 then (foldUp (fun p s => s.restPort p) 0 64 s).elsOff else s).setPower
      e.target with powerEntry := none, powerWake := e.wakes } : State).powerEnd e.ring 0 0).powerNote := by
    change execRestEntered s = _
    simp only [execRestEntered, he, if_neg (Nat.not_lt.mpr hpoint)]
  refine ⟨_, hexec, ?_, ?_, ?_⟩
  · rw [power_powerNote, power_powerEnd]
    exact (power_withEntryWake ..).trans (power_setPower _ (by omega))
  · exact ((powerNote_agree _).powerEntry rfl).trans ((powerEnd_agree ..).powerEntry rfl)
  · exact ((powerNote_agree _).powerWake rfl).trans ((powerEnd_agree ..).powerWake rfl)

end

/-- The restored list is no longer saved. -/
theorem restoreList_saved (s : State) (state : Nat) : (s.restoreList state).saved = [] :=
  foldl_sat (Q := fun t : State => t.saved = []) rfl fun _ _ h => h

theorem exec_wakeDone {s : State} {w : Nat × Option Nat} (hwake : s.powerWake = [w]) (hpower : s.power = 2) (hw : w.1 < 2) :
    ∃ t, exec .wakeDone s = .next t ∧ t.power = w.1 ∧ t.powerWake = [] ∧ t.saved = [] := by
  have hexec : exec .wakeDone s = .next
      (({ ((s.restoreList 2).wakeCompute).setPower w.1 with powerWake := [] } : State).powerEnd w.2 0 0).powerNote := by
    change execWakeDone s = _
    simp [execWakeDone, hwake, hpower, State.serveWakes]
  have hcompute := State.wakeCompute_closed (Agree.closed (s.restoreList 2) rfl) (Agree.refl _ _)
  have hset := setPower_agree (s.restoreList 2).wakeCompute w.1
  refine ⟨_, hexec, ?_, ?_, ?_⟩
  · rw [power_powerNote, power_powerEnd]
    exact (power_withWake ..).trans (power_setPower _ (by omega))
  · exact ((powerNote_agree _).powerWake rfl).trans ((powerEnd_agree ..).powerWake rfl)
  · exact ((powerNote_agree _).saved rfl).trans (((powerEnd_agree ..).saved rfl).trans
      ((hset.saved rfl).trans ((hcompute.saved rfl).trans (restoreList_saved s 2))))

/-- Settles O48, from the requests and the steps of an entry. -/
theorem powerStatesAreEntered : Obligations.PowerStatesAreEntered := by
  unfold Obligations.PowerStatesAreEntered
  intro s
  refine ⟨fun hentry hwake hlive hin hpower => ⟨fun hhold => ?_, fun hcores => ⟨fun hrun => ?_, fun hrefusal => ?_, fun hrefusal => ?_⟩,
    fun hcores => ?_⟩, fun e he hpoint => ⟨fun hwakes hwaiting => ?_, exec_restAbortPoint_wakes he hpoint⟩,
    fun e he => exec_restEntered he, fun e he hwaiting hwakes => ?_, fun w => exec_wakeDone⟩
  · exact ⟨_, rfl, powerCommand_at_once hentry hwake hlive hin hpower (by decide) (by omega) (.inl rfl)⟩
  · exact ⟨_, rfl, powerCommand_at_once hentry hwake hlive hin hpower (by decide) (by omega) (.inr hcores)⟩
  · exact ⟨_, rfl, powerCommand_starts hentry hwake hlive hin hpower (by decide) hcores hrefusal⟩
  · exact ⟨_, rfl, powerCommand_starts hentry hwake hlive hin hpower (by decide) hcores hrefusal⟩
  · exact ⟨_, rfl, powerCommand_live hentry hwake hlive hin hpower (by decide) hcores⟩
  · refine ⟨_, exec_restAbortPoint he hpoint hwakes hwaiting, rfl, fun hone => ?_⟩
    rw [if_pos hone]
    rfl
  · exact ⟨_, exec_deepRestPermit he hwaiting hwakes, (powerNote_agree _).powerEntry rfl⟩

end Sys2Proof.Laws
end

section
/-! PROOFS. Power stages are serviced, and a unit reset clears one idle unit (O47). -/

namespace Sys2Proof.Laws

set_option Elab.async false

open Sys2Proof.Machine

/-! ### Entries cleared by a unit reset (R500) -/

section
variable (s : State) (c : ObjCode) (lo n : Nat)

/-- A cleared entry reads its factory value. -/
theorem rd_clearEntries_of_mem {i : Nat} (hid : identRead s.ident c = none) (hn : lo + n < 2 ^ 32) (hlo : lo ≤ i) (hi : i < lo + n) :
    (s.clearEntries c lo n).rd c i = factoryKey (objKey c i) := by
  refine (rd_of_stored (s := s.clearEntries c lo n) hid i).trans (get_filter_dropped (fun _ => ?_) _)
  have hmod : i % 2 ^ 32 = i := Nat.mod_eq_of_lt (by omega)
  have hmodlo : lo % 2 ^ 32 = lo := Nat.mod_eq_of_lt (by omega)
  have hmodhi : (lo + n) % 2 ^ 32 = lo + n := Nat.mod_eq_of_lt hn
  simp only [objKey, hmod, hmodlo, hmodhi, Bool.not_eq_false', Bool.and_eq_true, decide_eq_true_eq]
  omega

/-- An entry that reads its factory value still does when any entries are cleared. -/
theorem factory_clearEntries {c' : ObjCode} {i : Nat} (hid : identRead s.ident c' = none)
    (h : s.rd c' i = factoryKey (objKey c' i)) : (s.clearEntries c lo n).rd c' i = factoryKey (objKey c' i) := by
  rw [rd_of_stored (s := s.clearEntries c lo n) hid]
  rw [rd_of_stored hid] at h
  cases hout : !(decide (objKey c lo ≤ objKey c' i) && decide (objKey c' i < objKey c (lo + n))) with
  | true => exact (congrArg (Option.getD · _) (find_filter_kept fun _ => hout)).trans h
  | false => exact get_filter_dropped (fun _ => hout) _

theorem rd_of_find {s t : State} {i : Nat} (hid : t.ident = s.ident)
    (hfind : KMap.find t.objs (objKey c i) = KMap.find s.objs (objKey c i)) : t.rd c i = s.rd c i := by
  unfold State.rd KMap.get
  rw [hid, hfind]

/-- Entries of other objects, and those outside the range, are left. -/
theorem rd_clearEntries_of_not_mem {c' : ObjCode} {i : Nat} (hn : lo + n < 2 ^ 32) (hi : i < 2 ^ 32)
    (hout : c' ≠ c ∨ i < lo ∨ lo + n ≤ i) : (s.clearEntries c lo n).rd c' i = s.rd c' i := by
  have hkept : (!(decide (objKey c lo ≤ objKey c' i) && decide (objKey c' i < objKey c (lo + n)))) = true := by
    have hmod : i % 2 ^ 32 = i := Nat.mod_eq_of_lt hi
    have hmodlo : lo % 2 ^ 32 = lo := Nat.mod_eq_of_lt (by omega)
    have hmodhi : (lo + n) % 2 ^ 32 = lo + n := Nat.mod_eq_of_lt hn
    simp only [objKey, hmod, hmodlo, hmodhi, Bool.not_eq_true', Bool.and_eq_false_iff, decide_eq_false_iff_not]
    rcases hout with hne | hidx
    · rcases Nat.lt_or_gt_of_ne hne with hlt | hlt <;> omega
    · by_cases hc : c' = c
      · subst hc; omega
      · rcases Nat.lt_or_gt_of_ne hc with hlt | hlt <;> omega
  have hfind : KMap.find (s.clearEntries c lo n).objs (objKey c' i) = KMap.find s.objs (objKey c' i) :=
    find_filter_kept fun _ => hkept
  exact rd_of_find c' rfl hfind

end

/-- The entries of unit `n` of each listed object, which has as many for a unit as its second part says, cleared in turn. -/
def clearUnit (s : State) (l : List (ObjCode × Nat)) (n : Nat) : State :=
  l.foldl (fun s p => s.clearEntries p.1 (p.2 * n) p.2) s

section
variable {l : List (ObjCode × Nat)} {n : Nat} {c : ObjCode}

theorem clearUnit_mem (s : State) : (clearUnit s l n).mem = s.mem :=
  foldl_sat (Q := fun t : State => t.mem = s.mem) rfl fun _ _ h => h

/-- An entry of the unit of a listed object reads its factory value. -/
theorem rd_clearUnit_of_mem {s : State} {w i : Nat} (hp : (c, w) ∈ l) (hid : identRead s.ident c = none)
    (hn : w * n + w < 2 ^ 32) (hlo : w * n ≤ i) (hi : i < w * n + w) : (clearUnit s l n).rd c i = factoryKey (objKey c i) := by
  induction l generalizing s with
  | nil => cases hp
  | cons p l ih =>
    rcases List.mem_cons.mp hp with rfl | hp
    · change (clearUnit (s.clearEntries c (w * n) w) l n).rd c i = _
      exact (foldl_sat (Q := fun t : State => t.ident = s.ident ∧ t.rd c i = factoryKey (objKey c i))
        (b := s.clearEntries c (w * n) w) (f := fun t p => t.clearEntries p.1 (p.2 * n) p.2) (l := l)
        ⟨rfl, rd_clearEntries_of_mem s c (w * n) w hid hn hlo hi⟩
        fun t p ⟨ht, hrd⟩ => ⟨ht, factory_clearEntries t p.1 _ _ (ht ▸ hid) hrd⟩).2
    · exact ih (s := s.clearEntries p.1 (p.2 * n) p.2) hp hid

/-- Every other entry reads as before. -/
theorem rd_clearUnit_of_not_mem (s : State) {i : Nat} (hi : i < 2 ^ 32)
    (hout : ∀ p ∈ l, p.2 * n + p.2 < 2 ^ 32 ∧ (c ≠ p.1 ∨ i < p.2 * n ∨ p.2 * n + p.2 ≤ i)) :
    (clearUnit s l n).rd c i = s.rd c i :=
  foldl_mem_sat (Q := fun t : State => t.rd c i = s.rd c i) rfl fun t p hp h =>
    (rd_clearEntries_of_not_mem t p.1 _ _ (hout p hp).1 hi (hout p hp).2).trans h

end

/-! ### Unit resets -/

/-- The entries of a core that its reset clears (R500). -/
def coreCleared : List (ObjCode × Nat) :=
  [(Obj.flags, 256), (Obj.summarySlots, 8), (Obj.haltRecord, 1), (Obj.tileRegs, 32), (Obj.maskRegs, 8), (Obj.satTotal, 1),
    (Obj.flushTotal, 1), (Obj.rakeOverTotal, 1), (Obj.rakeOorTotal, 1), (Obj.rakeMalformedTotal, 1), (Obj.rmaskOutsideTotal, 1),
    (Obj.icacheRefetch, 1)]

/-- A core after its reset: what its run had under way has ended, its entries are cleared, and of SEQ_STATE its predicates and lap
counters are 0. -/
def coreReset (s : State) (n : Nat) : State :=
  ((clearUnit (if s.coreState n = 0 then s else s.ringCoreEnds n) coreCleared n).wrFld Obj.seqState n 0 16 0).wrFld Obj.seqState n 112 96 0

theorem exec_unitResetCore {s : State} {n : Nat} (hcore : s.hasCore n = true) (hidle : s.coreLive n = false)
    (hlive : s.scratched = false) : exec (.unitResetCore n) s = .next ((coreReset s n).unitAnswer 1) := by
  change execUnitResetCore n s = _
  simp only [execUnitResetCore, hcore, hidle, hlive, Bool.not_true, Bool.or_false, Bool.false_eq_true, if_false]
  rfl

theorem rd_unitAnswer (s : State) (code : Nat) {c : ObjCode} (i : Nat) (h : c ≠ Obj.unitReset) : (s.unitAnswer code).rd c i = s.rd c i :=
  State.rd_wr_obj _ _ _ _ h

theorem unitReset_unitAnswer (s : State) (code : Nat) : (s.unitAnswer code).rd Obj.unitReset 0 = code :=
  State.rd_wr_same _ _ _ _ rfl

section
variable (s : State) (n : Nat)

/-- The end of a launch touches no object. -/
theorem launchEnded_agree :
    Agree 0x40000000000000000000000000000000000000000000000000000000000000000000000000000 s (if s.coreState n = 0 then s else s.ringCoreEnds n) :=
  ite_sat (Agree.refl _ s) (State.ringCoreEnds_closed (Agree.closed s rfl) (Agree.refl _ s) n)

theorem rd_coreReset {c : ObjCode} (i : Nat) (h : c ≠ Obj.seqState) :
    (coreReset s n).rd c i = (clearUnit (if s.coreState n = 0 then s else s.ringCoreEnds n) coreCleared n).rd c i :=
  (State.rd_wrFld_obj _ _ _ _ _ _ h).trans (State.rd_wrFld_obj _ _ _ _ _ _ h)

theorem coreReset_cleared {c : ObjCode} {w i : Nat} (hp : (c, w) ∈ coreCleared) (hid : identRead s.ident c = none) (hn : w * n + w < 2 ^ 32)
    (hlo : w * n ≤ i) (hi : i < w * n + w) (hc : c ≠ Obj.seqState := by decide) :
    (coreReset s n).rd c i = factoryKey (objKey c i) :=
  (rd_coreReset s n i hc).trans (rd_clearUnit_of_mem hp ((launchEnded_agree s n).ident ▸ hid) hn hlo hi)

theorem coreReset_seqState : (coreReset s n).fld Obj.seqState n 0 16 = 0 ∧ (coreReset s n).fld Obj.seqState n 112 96 = 0 :=
  ⟨(State.fld_wrFld_other _ _ _ _ _ _ _ _ rfl (.inl (by decide))).trans (State.fld_wrFld_same _ _ _ _ _ _ rfl),
    State.fld_wrFld_same _ _ _ _ _ _ rfl⟩

/-- The flags of the other cores are left. -/
theorem coreReset_other {m k : Nat} (hn : n < 96) (hm : m < 96) (hne : m ≠ n) (hk : k < 256) :
    (coreReset s n).rd Obj.flags (256 * m + k) = s.rd Obj.flags (256 * m + k) := by
  have hsizes : ∀ p ∈ coreCleared, p.2 ≤ 256 ∧ (Obj.flags ≠ p.1 ∨ p.2 = 256) := by decide
  refine (rd_coreReset s n _ (by decide)).trans ((rd_clearUnit_of_not_mem _ (by omega) fun p hp => ?_).trans
    ((launchEnded_agree s n).rd _ _ (Foot.none_of_no_objects (by decide +kernel) _)))
  obtain ⟨hle, hobj⟩ := hsizes p hp
  have hmul : p.2 * n ≤ 256 * n := Nat.mul_le_mul_right n hle
  refine ⟨by omega, hobj.imp id fun h256 => ?_⟩
  rw [h256]
  omega

theorem coreReset_mem : (coreReset s n).mem = s.mem := by
  unfold coreReset
  rw [State.wrFld_mem, State.wrFld_mem, clearUnit_mem, (launchEnded_agree s n).mem rfl]

end

/-- What else a unit reset writes is none of the objects. -/
theorem rd_setSu (s : State) (u : Nat) (x : SuSt) (c : ObjCode) (i : Nat) : (s.setSu u x).rd c i = s.rd c i := rfl

theorem cvu_setCvu_same (s : State) (v : Nat) (x : CvuSt) : (s.setCvu v x).cvu v = x := get_set_same ..

theorem rd_setCvu (s : State) (v : Nat) (x : CvuSt) (c : ObjCode) (i : Nat) : (s.setCvu v x).rd c i = s.rd c i := rfl

theorem exec_unitResetSu {s : State} {n : Nat} (hn : n < 32) (hbound : (List.range 8).any (fun k => s.slotBound (8 * n + k)) = false)
    (hreserved : s.slotReserved (8 * n + 7) = false) (hlive : s.scratched = false) : exec (.unitResetSu n) s =
      .next (((clearUnit s [(Obj.programInfo, 8), (Obj.programText, 8), (Obj.suCounts, 8), (Obj.suFault, 8)] n).setSu n SuSt.init).unitAnswer 1) := by
  change execUnitResetSu n s = _
  simp only [execUnitResetSu, if_neg (Nat.not_le.mpr hn), hbound, hreserved, hlive, Bool.or_false, Bool.false_eq_true, if_false]
  rfl

theorem exec_unitResetCvu {s : State} {n : Nat} (hn : n < 16) (hidle : s.cvuState n = 0) (hfree : s.cvuClaimed n = false)
    (htaken : s.cvuTaken n = false) (hlive : s.scratched = false) : exec (.unitResetCvu n) s =
      .next ((((s.clearEntries Obj.cvuRun n 1).clearEntries Obj.cvuState n 1).setCvu n CvuSt.init).unitAnswer 1) := by
  change execUnitResetCvu n s = _
  simp [execUnitResetCvu, Nat.not_le.mpr hn, hidle, hfree, htaken, hlive]

theorem exec_unitResetHostPort {s : State} {n : Nat} (hn : n < 2)
    (hqps : (List.range 512).any (fun q => s.qpState q != 0 && s.fld Obj.qpTable q 2 1 == n) = false)
    (hrings : (List.range 64).any (fun r => s.ringMode r == 1 && s.fld Obj.qpTable (s.ringQp r) 2 1 == n) = false) :
    exec (.unitResetHostPort n) s =
      .next (((s.clearEntries Obj.hostPortState n 1).clearEntries Obj.hostPortCounts n 1).unitAnswer 1) := by
  change execUnitResetHostPort n s = _
  unfold execUnitResetHostPort
  rw [if_neg (Nat.not_le.mpr hn), if_neg (by rw [hqps, hrings]; decide)]

/-! ### Power stages (R487 to R489) -/

theorem powerStage_wr_stage (s : State) (p v : Nat) : (s.wr Obj.stageState p v).powerStage p = v := State.rd_wr_same _ _ _ _ rfl

/-- A stage whose ramp is over carries its share. -/
theorem rampStep_of_starting {s : State} {p : Nat} {r : Ramp} (hstage : s.powerStage p = 1) (hramp : s.ramp (32 + p) = some r)
    (hover : s.rampOver (32 + p) = true) : s.rampStep (32 + p) = (s.rampEnds (32 + p)).wr Obj.stageState p 2 := by
  have hbegan : r.began.isNone = false := by
    simp only [State.rampOver, hramp] at hover
    cases hb : r.began with
    | none => simp [hb] at hover
    | some t => rfl
  have hends : (s.rampEnds (32 + p)).powerStage (32 + p - 32) = stageStarting := by
    rw [Nat.add_sub_cancel_left]
    exact hstage
  unfold State.rampStep
  simp only [hramp, hbegan, hover, Bool.not_true, Bool.false_eq_true, if_false]
  rw [if_pos ⟨Nat.le_add_right .., hends⟩, Nat.add_sub_cancel_left]
  rfl

section
variable {s : State} {p : Nat} (hp : p < 13)
include hp

theorem exec_stageFail : exec (.stageFail p) s = .next (s.stageLost p) := if_neg (Nat.not_le.mpr hp)

/-- An open latch loses a stage that stands in the share or ramps into it. -/
theorem exec_stageLatchOpen (h : s.powerStage p ≤ 3) : exec (.stageLatchOpen p) s = exec (.stageFail p) s := by
  rw [exec_stageFail hp]
  change execStageLatchOpen p s = _
  unfold execStageLatchOpen
  rw [if_neg (Nat.not_le.mpr hp)]
  exact if_neg (by simp only [stageSafe, stageFailed, stageRefused]; omega)

theorem exec_stageRemove : exec (.stageRemove p) s = .next (if s.othersOn p = true then
      if s.powerStage p = 2 then (s.wr Obj.stageState p 3).wr Obj.stageCmd 0 1 else s.wr Obj.stageCmd 0 3
    else s.wr Obj.stageCmd 0 2) := by
  change execStageRemove p s = _
  unfold execStageRemove
  rw [if_neg (Nat.not_le.mpr hp)]
  cases s.othersOn p with
  | false => rfl
  | true => by_cases hon : s.powerStage p = 2 <;> simp [hon, stageOn, stageStanding]

theorem exec_stageCancel : exec (.stageCancel p) s = .next (if s.powerStage p = 3 then (s.wr Obj.stageState p 2).wr Obj.stageCmd 0 1
    else s.wr Obj.stageCmd 0 3) := by
  change execStageCancel p s = _
  unfold execStageCancel
  rw [if_neg (Nat.not_le.mpr hp)]
  by_cases hstanding : s.powerStage p = 3 <;> simp [hstanding, stageStanding, stageOn]

theorem exec_stageSafe (h : s.powerStage p = 3) (volts : Nat) :
    exec (.stageSafe p volts) s = .next (if volts < 500 then s.wr Obj.stageState p 4 else s) := by
  change execStageSafe p volts s = _
  simp only [execStageSafe, if_neg (Nat.not_le.mpr hp), h, stageStanding, Machine.stageSafe, true_and]

theorem exec_stageInsert (info : Nat) (qualified : Bool) (h : s.powerStage p = 0 ∨ s.powerStage p = 5 ∨ s.powerStage p = 6) :
    exec (.stageInsert p info qualified) s
      = .next (if qualified then ((s.wr Obj.stageInfo p (info % 2 ^ 256)).wr Obj.stageState p 1).rampBay (32 + p) 0
          else (s.wr Obj.stageInfo p (info % 2 ^ 256)).wr Obj.stageState p 6) := by
  change execStageInsert p info qualified s = _
  unfold execStageInsert
  rw [if_neg (Nat.not_le.mpr hp)]
  exact if_pos h

theorem exec_stageLatchOpen_empty (h : s.powerStage p = 4 ∨ s.powerStage p = 5 ∨ s.powerStage p = 6) :
    exec (.stageLatchOpen p) s = .next ((s.wr Obj.stageInfo p 0).wr Obj.stageState p 0) := by
  change execStageLatchOpen p s = _
  unfold execStageLatchOpen
  rw [if_neg (Nat.not_le.mpr hp)]
  exact if_pos h

end

/-- The loss of a stage that ramps into the share, and of one that carries it (R489). -/
theorem stageLost_of_starting {s : State} {p : Nat} (h : s.powerStage p = 1) :
    s.stageLost p = (s.wr Obj.stageState p 5).rampEnds (32 + p) := by
  unfold State.stageLost
  simp only [h]
  rfl

theorem stageLost_of_load {s : State} {p : Nat} (h : s.powerStage p = 2 ∨ s.powerStage p = 3) :
    s.stageLost p = if s.othersOn p then s.wr Obj.stageState p 5 else (s.wr Obj.stageState p 5).scratch causePower := if_pos h

/-- Settles O47, from the equation of each command and what a cleared unit reads. -/
theorem stagesAndUnitsAreServiced : Obligations.StagesAndUnitsAreServiced := by
  unfold Obligations.StagesAndUnitsAreServiced
  refine ⟨fun s p hp => ⟨fun hothers hon => ?_, fun hothers => ?_, fun hothers hoff => ?_, fun hstanding => ⟨?_, exec_stageSafe hp hstanding⟩,
    fun hnot => ?_, fun info qualified => exec_stageInsert hp info qualified, fun r hstage hramp hover => ?_,
    fun hstarting => ⟨?_, exec_stageLatchOpen hp (by omega)⟩, fun hload => ⟨?_, exec_stageLatchOpen hp (by omega)⟩,
    exec_stageLatchOpen_empty hp⟩, fun s n => ⟨fun hn hcore hidle hlive => ?_, fun hn hcore hbusy => ?_,
    fun hn hbound hreserved hlive => ?_, fun hn hidle hfree htaken hlive => ?_, fun hn hqps hrings => ?_⟩⟩
  · rw [exec_stageRemove hp, if_pos hothers, if_pos hon]
  · rw [exec_stageRemove hp, hothers]
    rfl
  · rw [exec_stageRemove hp, if_pos hothers, if_neg hoff]
  · rw [exec_stageCancel hp, if_pos hstanding]
  · rw [exec_stageCancel hp, if_neg hnot]
  · rw [rampStep_of_starting hstage hramp hover]
    exact ⟨powerStage_wr_stage .., (ramp_of_ramps (State.wr_ramps ..) _).trans (ramp_setRamp_same ..)⟩
  · rw [exec_stageFail hp, stageLost_of_starting hstarting]
  · rw [exec_stageFail hp, stageLost_of_load hload]
  · refine ⟨_, exec_unitResetCore hcore hidle hlive, unitReset_unitAnswer .., fun k hk => ?_, ?_, fun k hk => ?_, ?_, ?_,
      fun m k hm hne hk => ?_, (State.wr_mem ..).trans (coreReset_mem s n)⟩
    · exact (rd_unitAnswer _ _ _ (by decide)).trans
        (coreReset_cleared s n (w := 256) (by decide) rfl (by omega) (by omega) (by omega))
    · exact (rd_unitAnswer _ _ _ (by decide)).trans
        (coreReset_cleared s n (w := 1) (by decide) rfl (by omega) (by omega) (by omega))
    · exact (rd_unitAnswer _ _ _ (by decide)).trans
        (coreReset_cleared s n (w := 32) (by decide) rfl (by omega) (by omega) (by omega))
    · exact (State.fld_wr_obj _ _ _ _ _ _ (by decide)).trans (coreReset_seqState s n).1
    · exact (State.fld_wr_obj _ _ _ _ _ _ (by decide)).trans (coreReset_seqState s n).2
    · exact (rd_unitAnswer _ _ _ (by decide)).trans (coreReset_other s n hn hm hne hk)
  · change execUnitResetCore n s = _
    simp [execUnitResetCore, hcore, hbusy, State.unitAnswer]
  · refine ⟨_, exec_unitResetSu hn hbound hreserved hlive, ?_, unitReset_unitAnswer .., fun k hk => ?_⟩
    · exact (congrArg (KMap.get · SuSt.init n) (State.wr_sus ..)).trans (su_setSu_same ..)
    · rw [rd_unitAnswer _ _ _ (by decide), rd_setSu]
      exact rd_clearUnit_of_mem (w := 8) (by decide) rfl (by omega) (by omega) (by omega)
  · refine ⟨_, exec_unitResetCvu hn hidle hfree htaken hlive,
      (congrArg (KMap.get · CvuSt.init n) (State.wr_cvus ..)).trans (cvu_setCvu_same ..), ?_, unitReset_unitAnswer ..⟩
    rw [rd_unitAnswer _ _ _ (by decide), rd_setCvu]
    exact factory_clearEntries _ _ _ _ rfl (rd_clearEntries_of_mem s _ n 1 rfl (by omega) (Nat.le_refl n) (by omega))
  · refine ⟨_, exec_unitResetHostPort hn hqps hrings, ?_, unitReset_unitAnswer ..⟩
    exact (rd_unitAnswer _ _ _ (by decide)).trans
      (rd_clearEntries_of_mem (s.clearEntries Obj.hostPortState n 1) _ n 1 rfl (by omega) (Nat.le_refl n) (by omega))

end Sys2Proof.Laws
end

section
/-! PROOFS. Images and firmware slots are replaced, and the sideband answers (O40, O50). -/

namespace Sys2Proof.Laws

set_option Elab.async false

open Sys2Proof.Machine

/-! ### Erased flash -/

/-- Every byte of an erased store reads 0xFF. -/
theorem flash8_flashErase (s : State) (store : Nat) {off : Nat} (h : off < 2 ^ 32) : (s.flashErase store).flash8 store off = 0xFF := by
  have hstore : (store * 2 ^ 32 + off) / 2 ^ 32 = store := by omega
  exact get_filter_dropped (fun _ => by simp only [hstore, bne_self_eq_false]) _

/-- The bytes of the other stores are left. -/
theorem flash8_flashErase_other (s : State) {store other off : Nat} (hne : other ≠ store) (h : off < 2 ^ 32) :
    (s.flashErase store).flash8 other off = s.flash8 other off := by
  have hstore : (other * 2 ^ 32 + off) / 2 ^ 32 = other := by omega
  exact congrArg (Option.getD · 0xFF) (find_filter_kept fun _ => by simp only [hstore, bne_iff_ne, ne_eq, hne, not_false_eq_true])

/-! ### Fields of NV_STATE -/

/-- The low bits of a field. -/
theorem fld_narrow (s : State) (c : ObjCode) (i lo : Nat) {w w' : Nat} (h : w' ≤ w) :
    s.fld c i lo w' = s.fld c i lo w % 2 ^ w' := by
  simp only [State.fld, bits_eq]
  exact (Nat.mod_mod_of_dvd _ (Nat.pow_dvd_pow 2 h)).symm

/-- An answer of NV_CMD leaves NV_STATE. -/
theorem nvStandby_nvAnswer (s : State) (code : Nat) : (s.nvAnswer code).nvStandby = s.nvStandby :=
  State.fld_wr_obj _ _ _ _ _ _ (by decide)

theorem nvCmd_nvAnswer (s : State) (code : Nat) : (s.nvAnswer code).rd Obj.nvCmd 0 = code := State.rd_wr_same _ _ _ _ rfl

theorem nvStandby_wrFld (s : State) {v : Nat} (h : v < 4) : (s.wrFld Obj.nvState 0 2 2 v).nvStandby = v :=
  (State.fld_wrFld_same _ _ _ _ _ _ rfl).trans (Nat.mod_eq_of_lt h)

theorem nvStandby_withErasing (s : State) (x : Bool) (m : Option Nat) :
    ({ s with nvErasing := x, nvMark := m } : State).nvStandby = s.nvStandby := rfl

/-! ### The standby bank (R437) -/

/-- The state after ERASE is accepted. -/
def bankErasing (s : State) : State :=
  { (s.flashErase s.standbyBank).wrFld Obj.nvState 0 2 3 0 with nvErasing := true, nvMark := none }

theorem nvStandby_bankErasing (s : State) : (bankErasing s).nvStandby = 0 := by
  have hzero := State.fld_wrFld_same (s.flashErase s.standbyBank) Obj.nvState 0 2 3 0 rfl
  refine (nvStandby_withErasing ..).trans ((fld_narrow _ _ _ _ (by decide : 2 ≤ 3)).trans ?_)
  rw [hzero]
  rfl

theorem exec_nvBankErase {s : State} (h : s.nvErasing = false) : exec .nvBankErase s = .next ((bankErasing s).nvAnswer 2) :=
  if_neg (by simp [h])

theorem exec_nvBankEraseDone {s : State} (h : s.nvErasing = true) : exec .nvBankEraseDone s =
    .next ((({ s with nvErasing := false } : State).wrFld Obj.nvState 0 2 2 1).nvAnswer 1) :=
  congrArg Host.Outcome.next (if_pos h)

/-- Why VERIFY refuses the standby bank; 0 where it does not. -/
def verifyReason (s : State) : Nat :=
  if s.ownerKey = 0 ∧ s.bankReason s.standbyBank = 0 then 4 else s.bankReason s.standbyBank

theorem exec_nvVerify {s : State} (h : s.nvErasing = false) (hstate : s.nvStandby ≠ 0) : exec .nvVerify s =
    .next (((s.wrFld Obj.nvState 0 2 2 (if verifyReason s = 0 then 3 else 2)).wr Obj.nvVerify 0 (verifyReason s)).nvAnswer
      (if verifyReason s = 0 then 1 else 4)) := by
  change execNvVerify s = _
  unfold execNvVerify
  rw [if_neg (by simp [h]), if_neg hstate]
  change (if verifyReason s = 0 then _ else _) = _
  by_cases hwhy : verifyReason s = 0
  · rw [if_pos hwhy, if_pos hwhy, if_pos hwhy, hwhy]
  · rw [if_neg hwhy, if_neg hwhy, if_neg hwhy]
    rfl

theorem exec_nvActivate {s : State} (h : s.nvErasing = false) (hstate : s.nvStandby = 3) : exec .nvActivate s =
    .next ({ s.wrFld Obj.nvState 0 4 1 1 with nvMark := some s.standbyBank }.nvAnswer 1) := by
  change execNvActivate s = _
  unfold execNvActivate
  rw [if_neg (by simp [h]), if_neg (not_not_intro hstate)]

theorem fld_withNvMark (s : State) (m : Option Nat) (c : ObjCode) (i lo w : Nat) :
    ({ s with nvMark := m } : State).fld c i lo w = s.fld c i lo w := rfl

/-- Settles O40, from the equation of each command of the bank. -/
theorem nvImageIsReplaced : Obligations.NvImageIsReplaced := by
  unfold Obligations.NvImageIsReplaced
  intro s
  refine ⟨fun h => ?_, fun h => ?_, fun h => ⟨if_pos h, if_pos h⟩, fun h hstate => ?_, fun h hstate => ?_, fun h hstate => ?_⟩
  · exact ⟨_, exec_nvBankErase h, rfl, rfl, (nvStandby_nvAnswer ..).trans (nvStandby_bankErasing s), nvCmd_nvAnswer ..,
      fun off hoff => flash8_flashErase s _ hoff⟩
  · exact ⟨_, exec_nvBankEraseDone h, rfl, (nvStandby_nvAnswer ..).trans (nvStandby_wrFld _ (by decide)), nvCmd_nvAnswer ..⟩
  · refine ⟨_, exec_nvVerify h hstate, ?_, ?_, nvCmd_nvAnswer ..⟩
    · refine (nvStandby_nvAnswer ..).trans ((State.fld_wr_obj _ _ _ _ _ _ (by decide)).trans (nvStandby_wrFld _ ?_))
      split <;> decide
    · exact (State.rd_wr_obj _ _ _ _ (by decide)).trans (State.rd_wr_same _ _ _ _ rfl)
  · refine ⟨_, exec_nvActivate h hstate, rfl, ?_, nvCmd_nvAnswer ..⟩
    exact (State.fld_wr_obj _ _ _ _ _ _ (by decide)).trans ((fld_withNvMark ..).trans (State.fld_wrFld_same _ _ _ _ _ _ rfl))
  · change execNvActivate s = _
    unfold execNvActivate
    rw [if_neg (by simp [h]), if_pos hstate]
    rfl

/-! ### The standby firmware slot (R507) -/

section
variable {s : State} (hnv : s.nvErasing = false)
include hnv

theorem exec_fwErase (hfw : s.fwErasing = false) : exec .fwErase s = .next ({ s.flashErase (2 + s.standbySlot) with
    fwOwn := s.fwOwn.filter (· != s.standbySlot), fwErasing := true, fwStandby := .unknown, fwMark := false }.wr Obj.securityCmd 0 2) :=
  if_neg (by simp [hnv, hfw])

theorem exec_fwVerify (hfw : s.fwErasing = false) : exec .fwVerify s = .next (if (s.slotValid s.standbySlot).isSome = true then
      { s with fwStandby := .verified }.wr Obj.securityCmd 0 1
    else { s with fwStandby := if s.fwStandby = Standby.verified then .written else s.fwStandby }.wr Obj.securityCmd 0 6) := by
  change execFwVerify s = _
  unfold execFwVerify
  rw [if_neg (by simp [hnv, hfw])]
  exact (apply_ite Host.Outcome.next _ _ _).symm

theorem exec_fwActivate (hfw : s.fwErasing = false) : exec .fwActivate s = .next (if s.fwStandby = .verified then
      { s with fwMark := true }.wr Obj.securityCmd 0 1 else s.wr Obj.securityCmd 0 3) := by
  change execFwActivate s = _
  unfold execFwActivate
  rw [if_neg (by simp [hnv, hfw]), ite_not]
  exact (apply_ite Host.Outcome.next _ _ _).symm

end

/-- While a slot is erased the commands of the slots answer BUSY. -/
theorem exec_fw_busy {s : State} (h : s.fwErasing = true) {c : Instr} (hc : c = .fwErase ∨ c = .fwVerify ∨ c = .fwActivate) :
    exec c s = .next (s.wr Obj.securityCmd 0 2) := by
  have hbusy : (s.fwErasing || s.nvErasing) = true := by rw [h, Bool.true_or]
  rcases hc with rfl | rfl | rfl
  · exact if_pos hbusy
  · exact if_pos hbusy
  · exact if_pos hbusy

/-! ### Reports, measurements and transfers -/

theorem length_leBytes (n v : Nat) : (leBytes n v).length = n := by
  induction n generalizing v with
  | zero => rfl
  | succ n ih => exact congrArg (· + 1) (ih _)

theorem length_reportBody (s : State) : s.reportBody.length = 384 := by
  have hmrs : ((List.range 8).flatMap fun i => leBytes 32 (s.rd Obj.measurement i)).length = 256 := by
    simp [List.length_flatMap, length_leBytes]
  unfold State.reportBody
  simp only [List.length_append, length_leBytes, hmrs]

theorem exec_smbusBlockRead {s : State} (ga code : Nat) (write pec : Bool) (haop : s.aopDead = false) :
    exec (.smbusBlockRead (0x50 + ga) ga code write pec) s = .next (if write || code != 0 || !pec then s.send .sidebandNack
      else s.send (.sideband (leBytes 64 s.sideband) (blockPec (0x50 + ga) (leBytes 64 s.sideband)))) := by
  change execSmbusBlockRead (0x50 + ga) ga code write pec s = _
  unfold execSmbusBlockRead
  rw [if_neg (by simp [haop])]
  exact (apply_ite Host.Outcome.next _ _ _).symm

/-! ### Sensors and host cages -/

/-- The state with the sensors read (R535): of an absent compute stack 0. -/
def sensed (s : State) (status : Nat) (temps : List Nat) : State :=
  foldUp (fun k v => v.wr Obj.stackTemp k (if decide (8 ≤ k) || (s.rd Obj.stackPresent 0).testBit k then temps.getD k 0 % 2 ^ 16 else 0)) 0 10
    (s.wr Obj.thermalStatus 0 (bits status 0 176))

section
variable (s : State) (status : Nat) (temps : List Nat)

theorem sensed_now : (sensed s status temps).now = s.now :=
  foldUp_sat (Q := fun t : State => t.now = s.now) rfl fun _ _ h => h

theorem sensed_thermalStatus : (sensed s status temps).rd Obj.thermalStatus 0 = bits status 0 176 :=
  foldUp_sat (Q := fun t : State => t.rd Obj.thermalStatus 0 = bits status 0 176) (State.rd_wr_same _ _ _ _ rfl) fun _ _ h =>
    (State.rd_wr_obj _ _ _ _ (by decide)).trans h

theorem sensed_stackTemp {k : Nat} (hk : k < 8) : (sensed s status temps).rd Obj.stackTemp k =
    if (s.rd Obj.stackPresent 0).testBit k then temps.getD k 0 % 2 ^ 16 else 0 := by
  refine foldUp_at (Q := fun _ => True) (R := fun t : State => t.rd Obj.stackTemp k = _) (k := k) (hi := 10) (fun u _ => ?_)
    (fun _ _ _ _ => trivial) (fun j u hj hj10 h => ?_) (Nat.zero_le k) (by omega) rfl trivial
  · refine (State.rd_wr_same _ _ _ _ rfl).trans ?_
    rw [decide_eq_false (by omega), Bool.false_or]
  · exact (State.rd_wr_idx _ _ _ _ (by omega)).trans h

theorem exec_sidebandUpdate {s : State} (haop : s.aopDead = false) (hdue : s.sidebandAt + 1000000 ≤ s.now) :
    exec (.sidebandUpdate status temps) s = .next { sensed s status temps with
      sideband := (sensed s status temps).sidebandBlock, sidebandAt := s.now } := by
  rw [← sensed_now s status temps]
  change execSidebandUpdate status temps s = _
  unfold execSidebandUpdate
  rw [if_neg (by simp [haop]; omega)]
  rfl

end

section
variable {s : State} {hp : Nat} (hport : hp < 2) (halive : s.hostAlive = true)
include hport halive

theorem exec_osfpInsert (hempty : s.hostPort hp = 2) (medium watts : Nat) : exec (.osfpInsert hp medium watts) s
    = .next (s.wr Obj.hostPortState hp (if medium < 4 ∧ watts ≤ 14 then 0 else 3)) := by
  change execOsfpInsert hp medium watts s = _
  unfold execOsfpInsert
  rw [if_neg (Nat.not_le.mpr hport), if_neg (by simp [halive, hempty])]
  simp only [osfpQualified, Bool.and_eq_true, decide_eq_true_eq]

theorem exec_osfpRemove : exec (.osfpRemove hp) s = .next (s.wr Obj.hostPortState hp 2) := by
  change execOsfpRemove hp s = _
  unfold execOsfpRemove
  rw [if_neg (Nat.not_le.mpr hport), if_neg (by simp [halive])]

theorem exec_hostPortUp (hdown : s.hostPort hp = 0) : exec (.hostPortUp hp) s = .next (s.wr Obj.hostPortState hp 1) := by
  change execHostPortUp hp s = _
  unfold execHostPortUp
  rw [if_neg (Nat.not_le.mpr hport), if_neg (by simp [halive, hdown])]

theorem exec_hostPortDown (hup : s.hostPort hp = 1) : exec (.hostPortDown hp) s = .next (s.wr Obj.hostPortState hp 0) := by
  change execHostPortDown hp s = _
  unfold execHostPortDown
  rw [if_neg (Nat.not_le.mpr hport), if_neg (by simp [halive, hup])]

end

/-- Settles O50, from the equation of each command. -/
theorem firmwareAttestationAndSideband : Obligations.FirmwareAttestationAndSideband := by
  unfold Obligations.FirmwareAttestationAndSideband
  refine ⟨fun s hnv => ⟨fun hfw => ⟨exec_fwErase hnv hfw, fun off => flash8_flashErase s _⟩,
    fun hfw => ⟨congrArg Host.Outcome.next (if_pos hfw), fun c => exec_fw_busy hfw⟩, fun hfw hvalid => ?_, fun hfw hvalid hnot => ?_,
    fun hfw hvalid hwas => ?_, fun hfw hverified => ?_, fun hfw hverified => ?_, ⟨rfl, length_reportBody s⟩,
    fun i d hi => ⟨if_neg (by omega), if_pos (by omega)⟩⟩,
    fun s => ⟨fun ga haop => ?_, fun ga code write pec haop hbad => ?_,
      fun status temps haop hdue => ⟨exec_sidebandUpdate status temps haop hdue, sensed_thermalStatus s status temps,
        fun k => sensed_stackTemp s status temps⟩,
      fun hp hport halive => ⟨exec_osfpInsert hport halive, exec_osfpRemove hport halive, exec_hostPortUp hport halive,
        exec_hostPortDown hport halive⟩⟩⟩
  · rw [exec_fwVerify hnv hfw, if_pos hvalid]
  · rw [exec_fwVerify hnv hfw, if_neg (by simp [hvalid]), if_neg hnot]
  · rw [exec_fwVerify hnv hfw, if_neg (by simp [hvalid]), if_pos hwas]
  · rw [exec_fwActivate hnv hfw, if_pos hverified]
  · rw [exec_fwActivate hnv hfw, if_neg hverified]
  · rw [exec_smbusBlockRead ga 0 false true haop]
    rfl
  · rw [exec_smbusBlockRead ga code write pec haop, if_pos ?_]
    · rfl
    · rcases hbad with rfl | hcode | rfl <;> simp [*]

end Sys2Proof.Laws
end

section
/-! PROOFS. The module starts and is owned (O49). -/

namespace Sys2Proof.Laws

set_option Elab.async false

open Sys2Proof.Machine

/-! ### The start-up (R506, R387) -/

section
variable {s : State} (b : Bays)

theorem exec_boot_rom {k : Nat} {v : Nat × Nat × Nat} (hboot : s.boot = .rom) (hslot : s.chooseSlot = some k)
    (hvalid : s.slotValid k = some v) : exec (.boot b) s = .next (if s.resetLow then
      { s.extend 0 v.2.1 with fwRunning := k, boot := .held } else ({ s.extend 0 v.2.1 with fwRunning := k } : State).release v.2.2 b) := by
  change execBoot b s = _
  simp only [execBoot, hboot, if_true, hslot, hvalid]
  rfl

theorem exec_boot_recovery (hboot : s.boot = .rom) (hslot : s.chooseSlot = none) : exec (.boot b) s = .next (s.recover b) := by
  change execBoot b s = _
  simp only [execBoot, hboot, if_true, hslot]

theorem exec_boot_aop {v : Nat × Nat × Nat} (hboot : s.boot = .aop) (hvalid : s.slotValid s.fwRunning = some v) :
    exec (.boot b) s = .next (s.release v.2.2 b) := by
  change execBoot b s = _
  simp only [execBoot, hboot, if_true, hvalid]
  exact if_neg (by decide)

theorem startMarshal_role (s : State) : s.startMarshal.marshal.role = bits (s.rd Obj.marshalConfig 0) 0 2 := by
  simp only [State.startMarshal, State.setMarshal_marshal]

theorem rd_withBoot (s : State) (x : Boot) (c : ObjCode) (i : Nat) : ({ s with boot := x } : State).rd c i = s.rd c i := rfl

/-- A release brings the role of C000.01 into force (R440), and the start-up fill is next. -/
theorem release_starts (s : State) (digest : Nat) : (s.release digest b).boot = .fill ∧
    (s.release digest b).marshal.role = bits ((s.release digest b).rd Obj.marshalConfig 0) 0 2 := by
  refine ⟨rfl, ?_⟩
  obtain ⟨u, hu⟩ : ∃ u : State, s.release digest b = { u.startMarshal.trackNote with boot := .fill } := ⟨_, rfl⟩
  have hnote := State.trackNote_closed (Agree.closed u.startMarshal rfl) (Agree.refl _ _)
  have hstart := State.startMarshal_closed (Agree.closed u rfl) (Agree.refl _ _)
  have hrd : (s.release digest b).rd Obj.marshalConfig 0 = u.rd Obj.marshalConfig 0 := by
    rw [hu]
    exact (rd_withBoot ..).trans ((hnote.rd _ _ (by decide +kernel)).trans (hstart.rd _ _ (by decide +kernel)))
  rw [hrd, hu]
  have hmarshal : u.startMarshal.trackNote.marshal = u.startMarshal.marshal := hnote.marshal (by decide +kernel)
  dsimp only
  rw [hmarshal, startMarshal_role]

end

/-- The state after the start-up fill, before a manager takes its ID. -/
def filled (s : State) : State :=
  { s.wr Obj.scanInternal 0 0 with
    mem := s.mem.filter fun c =>
      (decide (c.1 < memKey 1 0) && decide (s.rd Obj.lastReset 0 = resetPin ∨ s.rd Obj.lastReset 0 = resetWarm)) ||
        (decide (memKey 1 0 ≤ c.1) && decide (c.1 < memKey 2 0)),
    boot := .up }

theorem exec_startupFill {s : State} (hboot : s.boot = .fill) : exec .startupFill s =
    .next (if s.marshal.role = 0 ∨ (filled s).scratched then filled s else (filled s).startManager) := by
  change execStartupFill s = _
  simp only [execStartupFill, hboot, ne_eq, not_true_eq_false, if_false]
  rfl

theorem rd_withMemBoot (s : State) (m : List Host.Cell) (x : Boot) (c : ObjCode) (i : Nat) :
    ({ s with mem := m, boot := x } : State).rd c i = s.rd c i := rfl

theorem filled_scratched (s : State) : (filled s).scratched = s.scratched := by
  have hservice : (filled s).rd Obj.serviceState 0 = s.rd Obj.serviceState 0 :=
    (rd_withMemBoot ..).trans (State.rd_wr_obj _ _ _ _ (by decide))
  unfold State.scratched State.service
  rw [hservice]

/-- What the fill leaves of memory: DDR5 as it was, HBM4 where the reset kept it, and everything else 0. -/
theorem mem8_filled (s : State) {off : Nat} (h : off < 2 ^ 44) :
    (filled s).mem8 1 off = s.mem8 1 off ∧ (filled s).mem8 2 off = 0 ∧ (filled s).mem8 spaceArena off = 0 ∧
      (filled s).mem8 spaceBitmap off = 0 ∧
      (filled s).mem8 0 off = if s.rd Obj.lastReset 0 = 3 ∨ s.rd Obj.lastReset 0 = 4 then s.mem8 0 off else 0 := by
  have hget (space : Nat) : (filled s).mem8 space off =
      if ((decide (memKey space off < memKey 1 0) && decide (s.rd Obj.lastReset 0 = resetPin ∨ s.rd Obj.lastReset 0 = resetWarm)) ||
        (decide (memKey 1 0 ≤ memKey space off) && decide (memKey space off < memKey 2 0))) = true then s.mem8 space off else 0 := by
    refine (congrArg (Option.getD · 0) (find_filter s.mem (fun a => (decide (a < memKey 1 0) &&
      decide (s.rd Obj.lastReset 0 = resetPin ∨ s.rd Obj.lastReset 0 = resetWarm)) ||
      (decide (memKey 1 0 ≤ a) && decide (a < memKey 2 0))) (memKey space off))).trans ?_
    split <;> rfl
  have hnone (space : Nat) (hspace : 2 ≤ space) : (filled s).mem8 space off = 0 := by
    have hddr : ¬memKey space off < memKey 2 0 := by simp only [memKey]; omega
    have hhbm : ¬memKey space off < memKey 1 0 := by simp only [memKey]; omega
    rw [hget, if_neg (by simp [hddr, hhbm])]
  refine ⟨?_, hnone 2 (Nat.le_refl 2), hnone 15 (by decide), hnone 16 (by decide), ?_⟩
  · have hddr : memKey 1 off < memKey 2 0 := by simp only [memKey]; omega
    have hhbm : memKey 1 0 ≤ memKey 1 off := by simp only [memKey]; omega
    rw [hget, if_pos (by simp [hddr, hhbm])]
  · rw [hget]
    have hlow : memKey 0 off < memKey 1 0 := by simp only [memKey]; omega
    simp only [hlow, decide_true, Bool.true_and, Nat.not_le.mpr hlow, decide_false, Bool.false_and, Bool.or_false, resetPin, resetWarm]
    exact ite_congr (decide_eq_true_eq) (fun _ => rfl) fun _ => rfl

/-- A manager or standby manager takes its ID and is in service; memory is left. -/
theorem startManager_leaves {s : State} : s.startManager.mem = s.mem ∧ s.startManager.boot = s.boot ∧ s.startManager.service = 1 ∧
    (s.marshal.role = 1 → s.startManager.devId = s.marshal.manager) := by
  unfold State.startManager
  extract_lets m id t
  refine ⟨State.wr_mem .., State.wr_boot .., ?_, fun hrole => ?_⟩
  · unfold State.service
    rw [State.rd_wr_obj _ _ _ _ (by decide), State.rd_wr_same _ _ _ _ rfl]
  · unfold State.devId
    rw [State.rd_wr_obj _ _ _ _ (by decide), State.rd_wr_obj _ _ _ _ (by decide), State.rd_wr_same _ _ _ _ rfl]
    exact if_pos hrole

theorem startupFill_leaves {s : State} (hboot : s.boot = .fill) : ∃ t, exec .startupFill s = .next t ∧ t.boot = .up ∧
    (∀ off, off < 2 ^ 44 → t.mem8 1 off = s.mem8 1 off ∧ t.mem8 2 off = 0 ∧ t.mem8 spaceArena off = 0 ∧ t.mem8 spaceBitmap off = 0 ∧
      t.mem8 0 off = if s.rd Obj.lastReset 0 = 3 ∨ s.rd Obj.lastReset 0 = 4 then s.mem8 0 off else 0) ∧
    (s.marshal.role = 0 → t.objs = (s.wr Obj.scanInternal 0 0).objs) ∧
    (s.scratched = false → s.marshal.role = 1 → t.service = 1 ∧ t.devId = s.marshal.manager) := by
  refine ⟨_, exec_startupFill hboot, ?_⟩
  rw [filled_scratched]
  by_cases hnone : s.marshal.role = 0 ∨ s.scratched = true
  · rw [if_pos hnone]
    refine ⟨rfl, fun off => mem8_filled s, fun _ => rfl, fun hlive hrole => absurd hnone ?_⟩
    rw [hrole, hlive]
    decide
  · rw [if_neg hnone]
    obtain ⟨hmem, hup, hservice, hid⟩ := startManager_leaves (s := filled s)
    have hmem8 (space off : Nat) : (filled s).startManager.mem8 space off = (filled s).mem8 space off := by
      unfold State.mem8
      rw [hmem]
    refine ⟨hup, fun off hoff => ?_, fun hrole => absurd (.inl hrole) hnone, fun _ hrole => ⟨hservice, hid hrole⟩⟩
    simp only [hmem8]
    exact mem8_filled s hoff

/-! ### Ownership and the commits (R508, R509) -/

/-- A warm start keeps the keys. -/
theorem warmStart_keys (s : State) : s.warmStart.ownerKey = s.ownerKey ∧ s.warmStart.operatorKeys = s.operatorKeys ∧
    s.warmStart.nvKey = s.nvKey ∧ s.warmStart.flash = s.flash := by
  obtain ⟨mark, slot, boot, h⟩ := warmStart_eq s
  rw [h]
  exact ⟨rfl, rfl, rfl, rfl⟩

/-- Both banks are erased. -/
theorem flash8_eraseBanks (s : State) {off : Nat} (h : off < 2 ^ 32) : s.eraseBanks.flash8 0 off = 0xFF ∧ s.eraseBanks.flash8 1 off = 0xFF :=
  ⟨(flash8_flashErase_other (s.flashErase 0) (by decide) h).trans (flash8_flashErase s 0 h), flash8_flashErase _ 1 h⟩

theorem flash8_congr {s t : State} (h : t.flash = s.flash) (store off : Nat) : t.flash8 store off = s.flash8 store off := by
  unfold State.flash8
  rw [h]

/-- A module with the keys of COMMISSION_DESC, and its banks erased. -/
def withDescKeys (s : State) : State := { s.eraseBanks with ownerKey := s.descOwner, operatorKeys := s.descOperators }

/-- A module that COMMISSION makes an owner's, before it starts again (R509). -/
def commissioned (s : State) : State :=
  { withDescKeys s with nvKey := Config.kdf 1 [(withDescKeys s).ident.deviceSecret, (withDescKeys s).ownerDigest] }

/-- A module that DECOMMISSION returns to FACTORY. -/
def decommissioned (s : State) : State := { s.eraseBanks with ownerKey := 0, operatorKeys := [], nvKey := 0 }

theorem scratched_withKeys (s : State) (a k : Nat) (l : List Nat) :
    ({ s with ownerKey := a, operatorKeys := l } : State).scratched = s.scratched ∧ ({ s with nvKey := k } : State).scratched = s.scratched :=
  ⟨rfl, rfl⟩

theorem scratched_eraseBanks (s : State) : s.eraseBanks.scratched = s.scratched := rfl

theorem commissioned_scratched (s : State) : (commissioned s).scratched = s.scratched :=
  (scratched_withKeys (withDescKeys s) 0 _ []).2.trans ((scratched_withKeys s.eraseBanks _ 0 _).1.trans (scratched_eraseBanks s))

section
variable {s : State} (hfw : s.fwErasing = false) (hnv : s.nvErasing = false)
include hfw hnv

theorem exec_commission (hstate : s.commState = 0) (hplain : s.fld Obj.commissionDesc 0 4608 512 = 0)
    (howner : s.fld Obj.commissionDesc 0 0 512 ≠ 0) : exec .commission s = .next (commissioned s).warmStart := by
  change execCommission s = _
  unfold execCommission
  rw [if_neg (by simp [hfw, hnv]), if_neg (not_not_intro hstate),
    if_neg (by simp only [State.descPlain, State.descOwner, hplain, beq_self_eq_true, Bool.not_true, Bool.false_or, beq_iff_eq]; exact howner)]
  rfl

theorem exec_commission_refused (hstate : s.commState ≠ 0) : exec .commission s = .next (s.wr Obj.securityCmd 0 3) := by
  change execCommission s = _
  unfold execCommission
  rw [if_neg (by simp [hfw, hnv]), if_pos hstate]
  rfl

theorem exec_decommission (howner : s.ownerKey ≠ 0) (owner : Bool) : exec (.decommission owner) s =
    .next (if owner then (decommissioned s).warmStart else s.wr Obj.securityCmd 0 4) := by
  change execDecommission owner s = _
  unfold execDecommission
  rw [if_neg (by simp [hfw, hnv]), if_neg howner]
  cases owner <;> rfl

theorem exec_keysCmd_refused (howner : s.ownerKey ≠ 0) : exec (.keysCmd false) s = .next (s.wr Obj.securityCmd 0 4) := by
  change execKeysCmd false s = _
  unfold execKeysCmd
  rw [if_neg (by simp [hfw, hnv]), if_neg howner]
  rfl

theorem exec_keysCmd (howner : s.ownerKey ≠ 0) (hplain : s.fld Obj.commissionDesc 0 4608 512 = 0) :
    exec (.keysCmd true) s = .next ({ s with operatorKeys := s.descOperators }.securityAnswer 1) := by
  change execKeysCmd true s = _
  unfold execKeysCmd
  rw [if_neg (by simp [hfw, hnv]), if_neg howner, if_neg (by decide), if_neg (by simp [State.descPlain, hplain])]

theorem exec_rollbackCommit {b : Nat} (hbank : s.activeBank = some b) : ∃ t, exec (.rollbackCommit true) s = .next t ∧
    t.rollback = max s.rollback (s.imageRollback b) ∧ t.rd Obj.securityCmd 0 = 1 := by
  change ∃ t, execRollbackCommit true s = .next t ∧ _
  unfold execRollbackCommit
  rw [if_neg (by simp [hfw, hnv]), hbank]
  refine ⟨_, if_neg (by decide), ?_, State.rd_wr_same _ _ _ _ rfl⟩
  change State.rollback (ite _ _ _) = _
  split <;> rfl

theorem exec_svnCommit {v : Nat × Nat × Nat} (hboot : s.boot ≠ .recovery) (hslot : s.slotInfo s.fwRunning = some v) :
    ∃ t, exec (.svnCommit true) s = .next t ∧ t.svnFuses = max s.svnFuses (min 64 v.1) ∧ t.rd Obj.securityCmd 0 = 1 := by
  change ∃ t, execSvnCommit true s = .next t ∧ _
  unfold execSvnCommit
  rw [if_neg (by simp [hfw, hnv]), if_neg hboot, hslot]
  refine ⟨_, if_neg (by decide), ?_, State.rd_wr_same _ _ _ _ rfl⟩
  change State.svnFuses (ite _ _ _) = _
  split <;> rfl

end

/-- Settles O49, from the equation of each command. -/
theorem moduleStartsAndIsOwned : Obligations.ModuleStartsAndIsOwned := by
  unfold Obligations.ModuleStartsAndIsOwned
  refine ⟨fun s b => ⟨fun k v => exec_boot_rom b, fun hboot hslot => ⟨_, exec_boot_recovery b hboot hslot, rfl⟩,
    fun v => exec_boot_aop b, fun d => release_starts b s d, startupFill_leaves⟩,
    fun s hfw hnv => ⟨fun hstate hplain howner => ?_, exec_commission_refused hfw hnv, fun howner => ?_, fun howner => ⟨?_, ?_⟩,
      fun howner hplain => ?_, fun b => exec_rollbackCommit hfw hnv, fun v => exec_svnCommit hfw hnv⟩⟩
  · obtain ⟨hkey, hkeys, -, -⟩ := warmStart_keys (commissioned s)
    exact ⟨_, exec_commission hfw hnv hstate hplain howner, hkey, hkeys,
      (warmStart_rd ..).trans ((restart_lastReset ..).trans (by rw [commissioned_scratched]; rfl))⟩
  · obtain ⟨hkey, hkeys, hnvkey, hflash⟩ := warmStart_keys (decommissioned s)
    refine ⟨_, exec_decommission hfw hnv howner true, hkey, hkeys, hnvkey, fun off hoff => ?_⟩
    obtain ⟨h0, h1⟩ := flash8_eraseBanks s hoff
    exact ⟨(flash8_congr hflash ..).trans h0, (flash8_congr hflash ..).trans h1⟩
  · exact exec_decommission hfw hnv howner false
  · exact exec_keysCmd_refused hfw hnv howner
  · exact ⟨_, exec_keysCmd hfw hnv howner hplain, rfl, rfl, State.rd_wr_same _ _ _ _ rfl⟩

end Sys2Proof.Laws
end

section
/-! PROOFS. Check-value units take feeds, and the scan engine runs its queue (O33). -/

namespace Sys2Proof.Laws

set_option Elab.async false

open Sys2Proof.Machine

/-! ### What the fields of a unit read after each operation -/

/-- FEED_LEFT of a unit (R390). -/
def feedLeft (s : State) (c : Nat) : Nat := s.fld Obj.cvuState c 128 64

/-- RESULT of a unit (R390). -/
def cvuResult (s : State) (c : Nat) : Nat := s.fld Obj.cvuState c 64 64

section
variable (s : State) (c v : Nat)

theorem cvuReg_setRun (reg bytes : Nat) : (s.setRun c reg bytes).cvuReg c = reg % 2 ^ 64 := by
  have hrd : (s.setRun c reg bytes).rd Obj.cvuRun c = reg % 2 ^ 64 + bytes % 2 ^ 64 * 2 ^ 64 := State.rd_wr_same _ _ _ _ rfl
  simp only [State.cvuReg, State.fld, hrd, bits_eq]
  omega

theorem cvuBytes_setRun (reg bytes : Nat) : (s.setRun c reg bytes).cvuBytes c = bytes % 2 ^ 64 := by
  have hrd : (s.setRun c reg bytes).rd Obj.cvuRun c = reg % 2 ^ 64 + bytes % 2 ^ 64 * 2 ^ 64 := State.rd_wr_same _ _ _ _ rfl
  simp only [State.cvuBytes, State.fld, hrd, bits_eq]
  omega

@[simp] theorem cvuState_setRun (reg bytes : Nat) : (s.setRun c reg bytes).cvuState c = s.cvuState c :=
  State.fld_wr_obj _ _ _ _ _ _ (by decide)

@[simp] theorem feedLeft_setRun (reg bytes : Nat) : feedLeft (s.setRun c reg bytes) c = feedLeft s c :=
  State.fld_wr_obj _ _ _ _ _ _ (by decide)

@[simp] theorem cvuParams_setRun (reg bytes : Nat) : (s.setRun c reg bytes).cvuParams c = s.cvuParams c :=
  congrArg crcParams (State.rd_wr_obj _ _ _ _ (by decide))

theorem cvuState_setCvuState (h : v < 4) : (s.setCvuState c v).cvuState c = v :=
  (State.fld_wrFld_same _ _ _ _ _ _ rfl).trans (Nat.mod_eq_of_lt h)

@[simp] theorem feedLeft_setCvuState : feedLeft (s.setCvuState c v) c = feedLeft s c :=
  State.fld_wrFld_other _ _ _ _ _ _ _ _ rfl (.inr (by decide))

@[simp] theorem cvuResult_setCvuState : cvuResult (s.setCvuState c v) c = cvuResult s c :=
  State.fld_wrFld_other _ _ _ _ _ _ _ _ rfl (.inr (by decide))

@[simp] theorem cvuReg_setCvuState : (s.setCvuState c v).cvuReg c = s.cvuReg c := State.fld_wrFld_obj _ _ _ _ _ _ _ _ (by decide)

theorem feedLeft_setFeedLeft : feedLeft (s.setFeedLeft c v) c = v % 2 ^ 64 := State.fld_wrFld_same _ _ _ _ _ _ rfl

@[simp] theorem cvuReg_setFeedLeft : (s.setFeedLeft c v).cvuReg c = s.cvuReg c := State.fld_wrFld_obj _ _ _ _ _ _ _ _ (by decide)

@[simp] theorem cvuParams_setFeedLeft : (s.setFeedLeft c v).cvuParams c = s.cvuParams c :=
  congrArg crcParams (State.rd_wrFld_obj _ _ _ _ _ _ (by decide))

theorem cvuResult_setCvuResult : cvuResult (s.setCvuResult c v) c = v % 2 ^ 64 := State.fld_wrFld_same _ _ _ _ _ _ rfl

@[simp] theorem cvuReg_setCvuResult : (s.setCvuResult c v).cvuReg c = s.cvuReg c := State.fld_wrFld_obj _ _ _ _ _ _ _ _ (by decide)

@[simp] theorem cvuState_setCvu (x : CvuSt) : (s.setCvu c x).cvuState c = s.cvuState c := rfl

@[simp] theorem feedLeft_setCvu (x : CvuSt) : feedLeft (s.setCvu c x) c = feedLeft s c := rfl

@[simp] theorem cvuReg_setCvu (x : CvuSt) : (s.setCvu c x).cvuReg c = s.cvuReg c := rfl

@[simp] theorem cvuResult_setCvu (x : CvuSt) : cvuResult (s.setCvu c x) c = cvuResult s c := rfl

@[simp] theorem cvuState_cvuAnswer : (s.cvuAnswer v).cvuState c = s.cvuState c := State.fld_wr_obj _ _ _ _ _ _ (by decide)

@[simp] theorem feedLeft_cvuAnswer : feedLeft (s.cvuAnswer v) c = feedLeft s c := State.fld_wr_obj _ _ _ _ _ _ (by decide)

@[simp] theorem cvuResult_cvuAnswer : cvuResult (s.cvuAnswer v) c = cvuResult s c := State.fld_wr_obj _ _ _ _ _ _ (by decide)

@[simp] theorem cvuReg_cvuAnswer : (s.cvuAnswer v).cvuReg c = s.cvuReg c := State.fld_wr_obj _ _ _ _ _ _ (by decide)

@[simp] theorem cvuBytes_cvuAnswer : (s.cvuAnswer v).cvuBytes c = s.cvuBytes c := State.fld_wr_obj _ _ _ _ _ _ (by decide)

theorem cvuCmd_cvuAnswer : (s.cvuAnswer v).rd Obj.cvuCmd 0 = v := State.rd_wr_same _ _ _ _ rfl

theorem cvu_of_cvus {s t : State} (h : t.cvus = s.cvus) : t.cvu c = s.cvu c := by
  unfold State.cvu
  rw [h]

end

/-! ### Commands of a unit (R379, R383, R384) -/

theorem cvuCommand_of_ok {s : State} {c : Nat} {ok : Nat → Bool} {f : State → State} (hopen : s.cvuClosed c = false)
    (hok : ok (s.cvuState c) = true) : s.cvuCommand c ok f = (f s).cvuAnswer 1 := by
  unfold State.cvuCommand
  rw [if_neg (by simp [hopen]), if_pos hok]

theorem cvuCommand_of_refused {s : State} {c : Nat} {ok : Nat → Bool} {f : State → State} (hopen : s.cvuClosed c = false)
    (hok : ok (s.cvuState c) = false) : s.cvuCommand c ok f = s.wr Obj.cvuCmd 0 3 := by
  unfold State.cvuCommand
  rw [if_neg (by simp [hopen]), if_neg (by simp [hok])]
  rfl

/-- What a feed has fed so far is in REG, and the rest is left. -/
theorem feedTo_leaves (s : State) (c : Nat) (f : Feed) (left : Nat) :
    feedLeft (s.feedTo c f left) c = left % 2 ^ 64 ∧ (s.feedTo c f left).cvuParams c = s.cvuParams c ∧
      (s.feedTo c f left).cvuReg c = crcFeed (s.cvuParams c) (s.cvuReg c)
        (s.rangeBytes (f.addr + (f.len - feedLeft s c)) (feedLeft s c - left)) % 2 ^ 64 := by
  unfold State.feedTo
  refine ⟨feedLeft_setFeedLeft .., by simp, ?_⟩
  exact (cvuReg_setFeedLeft ..).trans (cvuReg_setRun ..)

section
variable {s : State} {c : Nat} (hc : c < 16)
include hc

section
variable (hopen : s.cvuClosed c = false)
include hopen

theorem exec_cvuStart (hidle : s.cvuState c ≠ 1) : ∃ t, exec (.cvuStart c) s = .next t ∧
    t.cvuReg c = bits (s.rd Obj.cvuParams c) 128 64 ∧ t.cvuBytes c = 0 ∧ t.rd Obj.cvuCmd 0 = 1 := by
  have hexec : exec (.cvuStart c) s = .next ((s.cvuBegin c).cvuAnswer 1) :=
    congrArg Host.Outcome.next ((if_neg (Nat.not_le.mpr hc)).trans (cvuCommand_of_ok hopen (bne_iff_ne.mpr hidle)))
  refine ⟨_, hexec, ?_, (cvuBytes_cvuAnswer ..).trans (cvuBytes_setRun ..), cvuCmd_cvuAnswer ..⟩
  exact (cvuReg_cvuAnswer ..).trans ((cvuReg_setRun ..).trans (Nat.mod_eq_of_lt (bits_lt ..)))

theorem exec_cvuFinish (hidle : s.cvuState c ≠ 1) : ∃ t, exec (.cvuFinish c) s = .next t ∧
    cvuResult t c = crcResult (s.cvuParams c) (s.cvuReg c) % 2 ^ 64 ∧ t.cvuReg c = s.cvuReg c ∧ t.rd Obj.cvuCmd 0 = 1 := by
  have hexec : exec (.cvuFinish c) s = .next ((s.cvuEnd c).cvuAnswer 1) :=
    congrArg Host.Outcome.next ((if_neg (Nat.not_le.mpr hc)).trans (cvuCommand_of_ok hopen (bne_iff_ne.mpr hidle)))
  exact ⟨_, hexec, (cvuResult_cvuAnswer ..).trans (cvuResult_setCvuResult ..),
    (cvuReg_cvuAnswer ..).trans (cvuReg_setCvuResult ..), cvuCmd_cvuAnswer ..⟩

theorem exec_cvu_feeding (hfeeding : s.cvuState c = 1) :
    exec (.cvuStart c) s = .next (s.wr Obj.cvuCmd 0 3) ∧ exec (.cvuFinish c) s = .next (s.wr Obj.cvuCmd 0 3) := by
  have hno : (s.cvuState c != 1) = false := by rw [hfeeding]; rfl
  exact ⟨congrArg Host.Outcome.next ((if_neg (Nat.not_le.mpr hc)).trans (cvuCommand_of_refused hopen hno)),
    congrArg Host.Outcome.next ((if_neg (Nat.not_le.mpr hc)).trans (cvuCommand_of_refused hopen hno))⟩

theorem exec_cvuResume (hheld : s.cvuState c = 2) : ∃ t, exec (.cvuResume c) s = .next t ∧ t.cvuState c = 1 ∧
    t.cvuReg c = s.cvuReg c ∧ t.rd Obj.cvuCmd 0 = 1 := by
  have hexec : exec (.cvuResume c) s = .next ((s.setCvuState c 1).cvuAnswer 1) :=
    congrArg Host.Outcome.next ((if_neg (Nat.not_le.mpr hc)).trans (cvuCommand_of_ok hopen (beq_iff_eq.mpr hheld)))
  exact ⟨_, hexec, (cvuState_cvuAnswer ..).trans (cvuState_setCvuState _ _ _ (by decide)),
    (cvuReg_cvuAnswer ..).trans (cvuReg_setCvuState ..), cvuCmd_cvuAnswer ..⟩

/-- A descriptor at a unit without a feed starts at once. -/
theorem exec_feed (hplain : bits (s.rd Obj.feedDesc 0) 98 30 = 0) (hlen : bits (s.rd Obj.feedDesc 0) 64 32 ≠ 0)
    (hrange : s.rangeOk (bits (s.rd Obj.feedDesc 0) 0 64) (bits (s.rd Obj.feedDesc 0) 64 32) = true) (hnone : (s.cvu c).feeds = []) :
    ∃ t, exec (.feed c) s = .next t ∧
      (t.cvu c).feeds = [⟨bits (s.rd Obj.feedDesc 0) 0 64, bits (s.rd Obj.feedDesc 0) 64 32, (s.rd Obj.feedDesc 0).testBit 96,
        (s.rd Obj.feedDesc 0).testBit 97⟩] ∧
      t.cvuState c = 1 ∧ feedLeft t c = bits (s.rd Obj.feedDesc 0) 64 32 ∧ t.rd Obj.cvuCmd 0 = 1 := by
  obtain ⟨f, hf⟩ : ∃ f : Feed, f = ⟨bits (s.rd Obj.feedDesc 0) 0 64, bits (s.rd Obj.feedDesc 0) 64 32, (s.rd Obj.feedDesc 0).testBit 96,
    (s.rd Obj.feedDesc 0).testBit 97⟩ := ⟨_, rfl⟩
  have hflen : f.len = bits (s.rd Obj.feedDesc 0) 64 32 := by rw [hf]
  have hfeeds : ((s.setCvu c ⟨[f]⟩).cvu c).feeds = [f] := by rw [cvu_setCvu_same]
  obtain ⟨u, hu⟩ : ∃ u, u = if f.start then (s.setCvu c ⟨[f]⟩).cvuBegin c else s.setCvu c ⟨[f]⟩ := ⟨_, rfl⟩
  have hbegin : (s.setCvu c ⟨[f]⟩).feedBegin c = (u.setFeedLeft c f.len).setCvuState c 1 := by
    unfold State.feedBegin
    simp only [hfeeds, hu]
  have hexec : exec (.feed c) s = .next (((u.setFeedLeft c f.len).setCvuState c 1).cvuAnswer 1) := by
    change execFeed c s = _
    unfold execFeed
    simp only [← hf]
    rw [if_neg (Nat.not_le.mpr hc), if_neg (by simp [hopen]), if_neg (by simp [hplain, hlen, hrange]), if_neg (by simp [hnone])]
    simp only [hnone, List.isEmpty_nil, if_true, List.nil_append, hbegin]
  have hcvus : u.cvu c = ⟨[f]⟩ := by
    rw [hu]
    split
    · exact (cvu_of_cvus _ (State.wr_cvus ..)).trans (cvu_setCvu_same ..)
    · exact cvu_setCvu_same ..
  refine ⟨_, hexec, ?_, ?_, ?_, cvuCmd_cvuAnswer ..⟩
  · rw [cvu_of_cvus c (s := u) (by simp [State.cvuAnswer, State.setCvuState, State.setFeedLeft]), hcvus, hf]
  · exact (cvuState_cvuAnswer ..).trans (cvuState_setCvuState _ _ _ (by decide))
  · rw [feedLeft_cvuAnswer, feedLeft_setCvuState, feedLeft_setFeedLeft, hflen]
    exact Nat.mod_eq_of_lt (Nat.lt_of_lt_of_le (bits_lt ..) (by decide))

section
variable {x : Feed} {rest : List Feed} (hfeeds : (s.cvu c).feeds = x :: rest) (hfeeding : s.cvuState c = 1) (fed : Nat)
include hfeeds hfeeding

theorem exec_cvuSuspend : ∃ t, exec (.cvuSuspend c fed) s = .next t ∧ t.cvuState c = 2 ∧ feedLeft t c = feedLeft s c -
    min (feedLeft s c) (ceilDiv (x.addr + (x.len - feedLeft s c) + fed) 64 * 64 - (x.addr + (x.len - feedLeft s c))) := by
  obtain ⟨left, hleft⟩ : ∃ left, left = feedLeft s c -
    min (feedLeft s c) (ceilDiv (x.addr + (x.len - feedLeft s c) + fed) 64 * 64 - (x.addr + (x.len - feedLeft s c))) := ⟨_, rfl⟩
  have hexec : exec (.cvuSuspend c fed) s = .next (((s.feedTo c x left).setCvuState c 2).cvuAnswer 1) := by
    change execCvuSuspend c fed s = _
    unfold execCvuSuspend
    simp only [if_neg (Nat.not_le.mpr hc), hfeeds]
    rw [hleft]
    exact congrArg Host.Outcome.next (cvuCommand_of_ok hopen (by simp [hfeeding]))
  refine ⟨_, hexec, (cvuState_cvuAnswer ..).trans (cvuState_setCvuState _ _ _ (by decide)), ?_⟩
  rw [feedLeft_cvuAnswer, feedLeft_setCvuState, (feedTo_leaves ..).1, ← hleft]
  have hlt : feedLeft s c < 2 ^ 64 := bits_lt ..
  exact Nat.mod_eq_of_lt (by omega)

omit hfeeding in
theorem exec_cvuCancel : ∃ t, exec (.cvuCancel c fed) s = .next t ∧ t.cvuState c = 0 ∧ (t.cvu c).feeds = [] ∧ feedLeft t c = 0 := by
  obtain ⟨u, hexec⟩ : ∃ u : State, exec (.cvuCancel c fed) s =
      .next ((((u.setCvu c ⟨[]⟩).setFeedLeft c 0).setCvuState c 0).cvuAnswer 1) := by
    refine ⟨if s.cvuState c = 1 then s.feedTo c x (feedLeft s c - min (feedLeft s c) fed) else s, ?_⟩
    change execCvuCancel c fed s = _
    unfold execCvuCancel
    simp only [if_neg (Nat.not_le.mpr hc), hfeeds]
    exact congrArg Host.Outcome.next (cvuCommand_of_ok hopen rfl)
  refine ⟨_, hexec, (cvuState_cvuAnswer ..).trans (cvuState_setCvuState _ _ _ (by decide)), ?_, ?_⟩
  · rw [cvu_of_cvus c (s := u.setCvu c ⟨[]⟩) (by simp [State.cvuAnswer, State.setCvuState, State.setFeedLeft]), cvu_setCvu_same]
  · rw [feedLeft_cvuAnswer, feedLeft_setCvuState, feedLeft_setFeedLeft]
    rfl

end

end

/-- The last feed of a unit ends: exactly its bytes have gone through the CRC (R383). -/
theorem exec_feedDone {x : Feed} (hfeeds : (s.cvu c).feeds = [x]) (hfeeding : s.cvuState c = 1) (hlive : s.scratched = false) :
    let reg := crcFeed (s.cvuParams c) (s.cvuReg c) (s.rangeBytes (x.addr + (x.len - feedLeft s c)) (feedLeft s c))
    ∃ t, exec (.feedDone c .clean) s = .next t ∧ t.cvuState c = 0 ∧ (t.cvu c).feeds = [] ∧ t.cvuReg c = reg % 2 ^ 64 ∧
      (x.finish = true → cvuResult t c = crcResult (s.cvuParams c) (reg % 2 ^ 64) % 2 ^ 64) := by
  intro reg
  obtain ⟨u, hu⟩ : ∃ u, u = if x.finish then (s.feedTo c x 0).cvuEnd c else s.feedTo c x 0 := ⟨_, rfl⟩
  have hempty : ((u.setCvu c ⟨[]⟩).cvu c).feeds = [] := by rw [cvu_setCvu_same]
  have hbegin : (u.setCvu c ⟨[]⟩).feedBegin c = (u.setCvu c ⟨[]⟩).setCvuState c 0 := by
    unfold State.feedBegin
    simp only [hempty]
  have hexec : exec (.feedDone c .clean) s = .next ((u.setCvu c ⟨[]⟩).setCvuState c 0) := by
    change execFeedDone c .clean s = _
    unfold execFeedDone
    simp only [if_neg (Nat.not_le.mpr hc), hfeeds, hfeeding, hlive, State.rangeEcc, State.eccRead_clean, ← hu, hbegin]
    rfl
  obtain ⟨-, hparams, hreg⟩ := feedTo_leaves s c x 0
  rw [Nat.sub_zero] at hreg
  refine ⟨_, hexec, cvuState_setCvuState _ _ _ (by decide), ?_, ?_, fun hfinish => ?_⟩
  · exact (congrArg CvuSt.feeds (cvu_of_cvus c (State.wrFld_cvus ..))).trans hempty
  · rw [cvuReg_setCvuState, cvuReg_setCvu, hu]
    split
    · exact (cvuReg_setCvuResult ..).trans hreg
    · exact hreg
  · rw [cvuResult_setCvuState, cvuResult_setCvu, hu, if_pos hfinish]
    exact (cvuResult_setCvuResult ..).trans (by rw [hparams, hreg])

end

/-! ### The scan engine (R385, R386) -/

section
variable {s : State}

theorem exec_scanSubmit {e : Nat} (hrun : s.inRun = true) (hok : s.scanDescOk (s.rd Obj.scanDesc 0) = true)
    (hfree : (List.range 16).find? (fun e => !s.scanEntryUsed e) = some e) :
    ∃ t, exec .scanSubmit s = .next t ∧ t.scanJobs = s.scanJobs ++ [⟨.queue e, s.rd Obj.scanDesc 0, false,
      if scanJobOf (s.rd Obj.scanDesc 0) = 1 then none else some (scanCvuOf (s.rd Obj.scanDesc 0))⟩] ∧
      t.rd Obj.scanResult e = 1 ∧ t.rd Obj.scanCmd 0 = 1 + e * 2 ^ 8 := by
  change ∃ t, execScanSubmit s = .next t ∧ _
  unfold execScanSubmit
  simp only [hrun, hok, hfree, Bool.not_true, Bool.false_eq_true, if_false]
  exact ⟨_, rfl, rfl, (State.rd_wr_obj _ _ _ _ (by decide)).trans (State.rd_wr_same _ _ _ _ rfl), State.rd_wr_same _ _ _ _ rfl⟩

theorem exec_scanJobStart {j : ScanJob} {rest : List ScanJob} {e : Nat} (hlive : s.scratched = false) (hup : s.boot = .up)
    (hpower : s.power < 2) (hranges : s.guardRanges ≠ .releasing) (hcopy : s.dimmCopy = none) (hjobs : s.scanJobs = j :: rest)
    (hidle : s.scanJobs.any (·.running) = false) (howner : j.owner = .queue e)
    (hverify : ∀ x i, x ∈ s.scanJobs → x.owner ≠ .verify i)
    (hcvu : ∀ c, j.cvu = some c → (s.cvu c).feeds = [] ∧ s.cvuState c = 0 ∧ s.cvuClaimed c = false) :
    ∃ t, exec .scanJobStart s = .next t ∧ t.scanJobs = { j with running := true } :: rest ∧ t.rd Obj.scanResult e = 2 := by
  refine ⟨_, ?_, rfl, State.rd_wr_same ({ s with scanJobs := { j with running := true } :: rest } : State) _ _ _ rfl⟩
  change execScanJobStart s = _
  unfold execScanJobStart
  extract_lets verify
  rw [if_neg (by simp [hlive, hidle, hup]; omega), if_neg hranges]
  have hnone : s.scanJobs.find? verify = none := by
    refine List.find?_eq_none.mpr fun x hx => ?_
    unfold verify
    split
    next i hx' => exact absurd hx' (hverify x i hx)
    next => exact Bool.false_ne_true
  rw [hnone]
  simp only [hcopy, Option.isSome_none, Bool.false_eq_true, if_false, hjobs, howner]
  cases hj : j.cvu with
  | none => rfl
  | some c =>
    obtain ⟨hfeeds, hstate, hclaimed⟩ := hcvu c hj
    simp only [hfeeds, hstate, hclaimed, List.isEmpty_nil, beq_self_eq_true, Bool.not_false, Bool.and_self, if_true]

section
variable {j : ScanJob} {e : Nat} (hlive : s.scratched = false) (hrunning : s.scanJobs.find? (·.running) = some j)
  (howner : j.owner = .queue e)
include hlive hrunning howner

theorem exec_scanJobEnd_fill (hjob : scanJobOf j.desc = 1) (ecc : Ecc) : exec (.scanJobEnd ecc) s =
    .next ((s.scanStore (scanStartOf j.desc) (fillBytes (bits j.desc 256 64) (scanLenOf j.desc))).scanFinish e 3
      (scanLenOf j.desc) 0 0 0) := by
  change execScanJobEnd ecc s = _
  simp only [execScanJobEnd, hrunning, hlive, howner, hjob, Bool.false_eq_true, if_false, if_true]

theorem exec_scanJobEnd_check (hjob : scanJobOf j.desc ≠ 1) :
    let d := j.desc
    let r := s.scanBlocksTo d (scanCvuOf d) (scanBlocks d)
    exec (.scanJobEnd .clean) s = .next (r.1.scanFinish e (if r.2.1 = 0 then 3 else 4) (scanLenOf d)
      (if scanBlockOf d = 0 then r.1.fld Obj.cvuState (scanCvuOf d) 64 64 else 0) r.2.1 r.2.2) := by
  have hreads : s.scanReads j.desc .clean = (true, s) := by
    simp only [State.scanReads, State.rangeEcc, State.eccRead_clean, eccAfter_clean, State.mergeRead_clean, ite_self]
  change execScanJobEnd .clean s = _
  simp only [execScanJobEnd, hrunning, hlive, howner, hjob, Bool.false_eq_true, if_false, hreads]

end

theorem rd_withScanJobs (s : State) (x : List ScanJob) (c : ObjCode) (i : Nat) : ({ s with scanJobs := x } : State).rd c i = s.rd c i := rfl

section
variable {e : Nat} (he : e < 16) (done : Nat)
include he

theorem exec_scanCancel {j : ScanJob} (hjob : s.scanJobs.find? (fun j => j.owner == .queue e) = some j) (hqueued : j.running = false) :
    ∃ t, exec (.scanCancel e done) s = .next t ∧ t.scanJobs = s.scanJobs.filter (fun j => j.owner != .queue e) ∧
      t.fld Obj.scanResult e 0 8 = 5 ∧ t.fld Obj.scanCmd 0 0 8 = 1 := by
  refine ⟨(s.scanFinish e 5 0 0 0 0).scanAnswer 1, ?_, rfl, ?_, State.fld_wrFld_same _ _ _ _ _ _ rfl⟩
  · change execScanCancel e done s = _
    simp only [execScanCancel, if_neg (Nat.not_le.mpr he), hjob, hqueued, Bool.not_false, if_true]
  · have hrd : (s.scanFinish e 5 0 0 0 0).rd Obj.scanResult e = 5 + (s.now % 2 ^ 64) * 2 ^ 320 :=
      (rd_withScanJobs ..).trans ((State.rd_wr_same s Obj.scanResult e _ rfl).trans (by omega))
    refine (State.fld_wrFld_obj _ _ _ _ _ _ _ _ (by decide)).trans ?_
    simp only [State.fld, hrd, bits_eq]
    omega

theorem exec_scanCancel_unknown (hjob : s.scanJobs.find? (fun j => j.owner == .queue e) = none) :
    exec (.scanCancel e done) s = .next (s.wrFld Obj.scanCmd 0 0 8 5) := by
  change execScanCancel e done s = _
  simp only [execScanCancel, if_neg (Nat.not_le.mpr he), hjob]
  rfl

end

end

/-- Settles O33, from the equation of each command. -/
theorem checkValueUnitsAndScans : Obligations.CheckValueUnitsAndScans := by
  unfold Obligations.CheckValueUnitsAndScans
  exact ⟨fun s c hc hopen => ⟨exec_cvuStart hc hopen, exec_cvuFinish hc hopen, exec_cvu_feeding hc hopen,
      exec_feed hc hopen,
      fun x rest fed hfeeds hfeeding => ⟨exec_cvuSuspend hc hopen hfeeds hfeeding fed, exec_cvuCancel hc hopen hfeeds fed⟩,
      exec_cvuResume hc hopen, fun x => exec_feedDone hc⟩,
    fun s => ⟨fun e => exec_scanSubmit, fun j rest e => exec_scanJobStart,
      fun j e ecc hlive hrunning howner hjob => exec_scanJobEnd_fill hlive hrunning howner hjob ecc,
      fun j e hlive hrunning howner hjob => exec_scanJobEnd_check hlive hrunning howner hjob,
      fun e done j he => exec_scanCancel he done, fun e done he => exec_scanCancel_unknown he done⟩⟩

end Sys2Proof.Laws
end

section
/-! PROOFS. Buffer pools serve their owners (O32). -/

namespace Sys2Proof.Laws

set_option Elab.async false

open Sys2Proof.Machine

/-! ### The books of a pool -/

theorem pool_setPool_same (s : State) (p : Nat) (x : PoolSt) : (s.setPool p x).pool p = x := get_set_same ..

theorem pool_congr {s t : State} (h : t.pools = s.pools) (p : Nat) : t.pool p = s.pool p := congrArg (KMap.get · PoolSt.init p) h

theorem pool_poolSet (s : State) (p free held : Nat) : (s.poolSet p free held).pool p = s.pool p :=
  pool_congr ((State.wrFld_pools ..).trans (State.wrFld_pools ..)) p

theorem pool_setOwner (s : State) (p b o : Nat) : (s.setOwner p b o).pool p = s.pool p := pool_congr rfl p

/-- A step that leaves the books of pool `p` as they were: who owns each buffer, how many are free and held, and the head of the
free list. -/
structure SameBooks (p : Nat) (s t : State) : Prop where
  owners : t.owners = s.owners
  free : t.poolFree p = s.poolFree p
  held : t.poolHeld p = s.poolHeld p
  head : (t.pool p).head = (s.pool p).head

namespace SameBooks

variable {p : Nat} {s t u : State}

theorem refl (p : Nat) (s : State) : SameBooks p s s := ⟨rfl, rfl, rfl, rfl⟩

theorem trans (h : SameBooks p s t) (g : SameBooks p t u) : SameBooks p s u :=
  ⟨g.owners.trans h.owners, g.free.trans h.free, g.held.trans h.held, g.head.trans h.head⟩

theorem ownerOf (h : SameBooks p s t) (q b : Nat) : t.ownerOf q b = s.ownerOf q b :=
  congrArg (KMap.get · 0 (2 ^ 23 * q + b)) h.owners

/-- A step that touches neither POOL_STATE nor what the pools and owners are. -/
theorem of_agree {m : Nat} (h : Agree m s t) (hstate : Foot.obj m Obj.poolState = false) (hpools : m.testBit 296 = false)
    (howners : m.testBit 297 = false) : SameBooks p s t where
  owners := h.owners howners
  free := congrArg (bits · 32 32) (h.rd _ _ hstate)
  held := congrArg (bits · 64 32) (h.rd _ _ hstate)
  head := congrArg PoolSt.head (pool_congr (h.pools hpools) p)

/-- A write of POOL_STATE outside FREE and the buffers held. -/
theorem wrState (s : State) (p lo w v : Nat) (h : lo + w ≤ 32 ∨ 96 ≤ lo) : SameBooks p s (s.wrFld Obj.poolState p lo w v) where
  owners := State.wrFld_owners ..
  free := State.fld_wrFld_other _ _ _ _ _ _ _ _ rfl (by omega)
  held := State.fld_wrFld_other _ _ _ _ _ _ _ _ rfl (by omega)
  head := congrArg PoolSt.head (pool_congr (State.wrFld_pools ..) p)

theorem setPool (s : State) (p : Nat) (x : PoolSt) (h : x.head = (s.pool p).head) : SameBooks p s (s.setPool p x) :=
  ⟨rfl, rfl, rfl, (congrArg PoolSt.head (pool_setPool_same s p x)).trans h⟩

theorem poolCountUp (s : State) (p k n : Nat) : SameBooks p s (s.poolCountUp p k n) :=
  of_agree (State.poolCountUp_closed (Agree.closed s rfl) (Agree.refl _ s) p k n) (by decide +kernel) rfl rfl

theorem wrFlags (s : State) (p k : Nat) : SameBooks p s (s.wrFld Obj.poolFlags p k 1 1) where
  owners := State.wrFld_owners ..
  free := State.fld_wrFld_obj _ _ _ _ _ _ _ _ (by decide)
  held := State.fld_wrFld_obj _ _ _ _ _ _ _ _ (by decide)
  head := congrArg PoolSt.head (pool_congr (State.wrFld_pools ..) p)

theorem poolEnter (s : State) (p st : Nat) : SameBooks p s (s.poolEnter p st) := by
  unfold State.poolEnter
  refine ite_sat (refl p s) ?_
  extract_lets t flag x
  have ht : SameBooks p s t := wrState s p 0 3 st (.inl (by decide))
  refine ite_sat ?_ (ite_sat ?_ (ite_sat ?_ (ite_sat ?_ ht)))
  · exact (ht.trans (setPool t p { x with skims := x.skims + 1 } rfl)).trans (wrFlags _ p 0)
  · exact (ht.trans (wrFlags t p 1)).trans (poolCountUp _ p 7 1)
  · exact (ht.trans (setPool t p { x with dries := x.dries + 1 } rfl)).trans (wrFlags _ p 2)
  · exact ht.trans (wrFlags t p 3)

theorem poolNote (s : State) (p : Nat) : SameBooks p s (s.poolNote p) := by
  unfold State.poolNote
  extract_lets free skim crust relief flag src t u
  have ht : SameBooks p s t := setPool s p _ rfl
  have hu : SameBooks p s u := ite_sat (ht.trans (wrState t p 96 32 free (.inr (by decide)))) ht
  exact hu.trans (poolEnter u p _)

theorem finish (a : PoolAns) (p caller : Nat) : SameBooks p a.state (a.finish caller) :=
  of_agree (PoolAns.finish_closed (Agree.closed a.state rfl) (Agree.refl _ a.state) caller) (by decide +kernel) rfl rfl

end SameBooks

/-- Entering a state leaves the least FREE that A000.02 has shown. -/
theorem poolEnter_least (s : State) (p st : Nat) :
    (s.poolEnter p st).fld Obj.poolState p 96 32 = s.fld Obj.poolState p 96 32 := by
  unfold State.poolEnter
  split
  · rfl
  extract_lets t flag x
  have ht : t.fld Obj.poolState p 96 32 = s.fld Obj.poolState p 96 32 := State.fld_wrFld_other _ _ _ _ _ _ _ _ rfl (.inr (by decide))
  have hflag (k : Nat) (u : State) : (flag k u).fld Obj.poolState p 96 32 = u.fld Obj.poolState p 96 32 :=
    State.fld_wrFld_obj _ _ _ _ _ _ _ _ (by decide)
  split
  · exact (hflag ..).trans ht
  split
  · have hcount := State.poolCountUp_closed (Agree.closed (flag 1 t) rfl) (Agree.refl _ _) p 7 1
    exact (congrArg (bits · 96 32) (hcount.rd Obj.poolState p (by decide +kernel))).trans ((hflag ..).trans ht)
  split
  · exact (hflag ..).trans ht
  split
  · exact (hflag ..).trans ht
  · exact ht

/-- So does an evaluation of FREE that is not below it. -/
theorem poolNote_least {s : State} {p : Nat} (h : s.fld Obj.poolState p 96 32 ≤ s.poolFree p) :
    (s.poolNote p).fld Obj.poolState p 96 32 = s.fld Obj.poolState p 96 32 := by
  unfold State.poolNote
  extract_lets free skim crust relief flag src t u
  have hu : u = t := if_neg (Nat.not_lt.mpr h)
  rw [poolEnter_least, hu]
  rfl

theorem poolSet_books (s : State) (p free held : Nat) :
    (s.poolSet p free held).poolFree p = free % 2 ^ 32 ∧ (s.poolSet p free held).poolHeld p = held % 2 ^ 32 :=
  ⟨(State.fld_wrFld_other _ _ _ _ _ _ _ _ rfl (.inl (by decide))).trans (State.fld_wrFld_same _ _ _ _ _ _ rfl),
    State.fld_wrFld_same _ _ _ _ _ _ rfl⟩

theorem ownerOf_poolSet (s : State) (p free held q b : Nat) : (s.poolSet p free held).ownerOf q b = s.ownerOf q b := by
  unfold State.ownerOf State.poolSet
  rw [State.wrFld_owners, State.wrFld_owners]

theorem ownerOf_setOwner_same (s : State) (p b o : Nat) : (s.setOwner p b o).ownerOf p b = o := get_set_same ..

theorem ownerOf_setOwner_other (s : State) {p b q j : Nat} (o : Nat) (h : 2 ^ 23 * q + j ≠ 2 ^ 23 * p + b) :
    (s.setOwner p b o).ownerOf q j = s.ownerOf q j := get_set_other _ _ _ _ h

theorem poolFree_lt (s : State) (p : Nat) : s.poolFree p < 2 ^ 32 := bits_lt ..

theorem poolHeld_lt (s : State) (p : Nat) : s.poolHeld p < 2 ^ 32 := bits_lt ..

/-! ### Allocation (R370, R371, R374) -/

/-- The link word at a buffer names the next one (R370). -/
def nextBuf (s : State) (p b : Nat) : Nat := bits (leCode (s.poolRead p (s.bufAt p b) 8)) 0 32

/-- The books of pool `p` after its head `b` was handed to an owner. -/
structure Handed (p owner b : Nat) (s t : State) : Prop where
  owner : t.ownerOf p b = owner
  free : t.poolFree p = s.poolFree p - 1
  held : t.poolHeld p = (s.poolHeld p + 1) % 2 ^ 32
  head : (t.pool p).head = if nextBuf s p b = 0xFFFFFFFF then none else some (nextBuf s p b)
  others : ∀ q j, 2 ^ 23 * q + j ≠ 2 ^ 23 * p + b → t.ownerOf q j = s.ownerOf q j

theorem Handed.books {p owner b : Nat} {s t u : State} (h : Handed p owner b s t) (g : SameBooks p t u) : Handed p owner b s u :=
  ⟨(g.ownerOf p b).trans h.owner, g.free.trans h.free, g.held.trans h.held, g.head.trans h.head,
    fun q j hne => (g.ownerOf q j).trans (h.others q j hne)⟩

theorem poolWrite_agree (s : State) (p off : Nat) (bs : List Byte) :
    Agree 0x10000000000000000000000000000000000000000000000000000000000000000 s (s.poolWrite p off bs) :=
  State.poolWrite_closed (Agree.closed s rfl) (Agree.refl _ s) p off bs

section
variable {s : State} {p owner b : Nat} (hhead : (s.pool p).head = some b) (hgood : s.linkGood p b = true)
include hhead hgood

theorem popBuf_of_good : ∃ u, s.popBuf p owner = some (b, u) ∧ Handed p owner b s u := by
  obtain ⟨w, hw⟩ : ∃ w : State, w = (s.poolWrite p (s.bufAt p b + 8)
    ((List.range (s.poolSize p - 8)).map fun k => BitVec.ofNat 8 (s.draw k))).drawn := ⟨_, rfl⟩
  have hbooks : SameBooks p s w := hw ▸ (SameBooks.of_agree (poolWrite_agree ..) (by decide +kernel) rfl rfl).trans ⟨rfl, rfl, rfl, rfl⟩
  obtain ⟨v, hv⟩ : ∃ v : State, v = w.setPool p { w.pool p with head := if nextBuf s p b = endOfList then none else some (nextBuf s p b) } :=
    ⟨_, rfl⟩
  have hfree : v.poolFree p = s.poolFree p := hv ▸ hbooks.free
  have hheld : v.poolHeld p = s.poolHeld p := hv ▸ hbooks.held
  have howners (q j : Nat) : v.ownerOf q j = s.ownerOf q j := hv ▸ hbooks.ownerOf q j
  refine ⟨(v.setOwner p b owner).poolSet p (v.poolFree p - 1) (v.poolHeld p + 1), ?_, ?_⟩
  · unfold State.popBuf
    simp only [hhead, hgood, Bool.not_true, Bool.false_eq_true, if_false]
    rw [hv, hw]
    rfl
  · obtain ⟨hf, hh⟩ := poolSet_books (v.setOwner p b owner) p (v.poolFree p - 1) (v.poolHeld p + 1)
    have hlt := poolFree_lt s p
    refine ⟨(ownerOf_poolSet ..).trans (ownerOf_setOwner_same ..), hf.trans ?_, hh.trans (by rw [hheld]), ?_, fun q j hne => ?_⟩
    · rw [hfree]
      omega
    · rw [pool_poolSet, pool_setOwner, hv, pool_setPool_same]
      rfl
    · exact (ownerOf_poolSet ..).trans ((ownerOf_setOwner_other _ _ hne).trans (howners q j))

/-- One buffer taken for an allocation or a reservation. -/
theorem poolTake_one (field : Nat) : ∃ a, s.poolTake p owner 1 field .clean = a ∧ Handed p owner b s a.state := by
  obtain ⟨u, hpop, hu⟩ := popBuf_of_good (owner := owner) hhead hgood
  refine ⟨_, rfl, ?_⟩
  unfold State.poolTake
  simp only [eccRanges_clean, popMany, hpop]
  exact hu.books ((SameBooks.poolCountUp u p field 1).trans (SameBooks.poolNote _ p))

end

section
variable {s : State} {p : Nat} (hp : p < 64) (hlo : 1 ≤ s.poolState p) (hhi : s.poolState p ≤ 4)
include hp hlo hhi

/-- A pool in NORMAL, SKIM, CRUST or DRY serves. -/
theorem poolClosed_none : s.poolClosed p = none := by
  unfold State.poolClosed
  rw [if_neg (by omega)]
  split
  · omega
  · omega
  · omega
  · rfl

theorem poolAlloc_open (owner : Nat) (high : Bool) (ecc : Ecc) : s.poolAlloc p owner high ecc =
    if s.poolFree p = 0 then ⟨3, [], s.poolCountUp p 4 1⟩
    else if !high && s.poolState p == 3 then ⟨2, [], s.poolCountUp p 3 1⟩ else s.poolTake p owner 1 0 ecc := by
  unfold State.poolAlloc
  rw [poolClosed_none hp hlo hhi]
  rfl

theorem poolReserve_open (owner n : Nat) (ecc : Ecc) : s.poolReserve p owner n ecc =
    if s.poolFree p < n then ⟨3, [], s.poolCountUp p 4 1⟩ else s.poolTake p owner n 2 ecc := by
  unfold State.poolReserve
  rw [poolClosed_none hp hlo hhi]
  rfl

theorem poolFreeBuf_served {caller b : Nat} {u : State} (hb : b < s.poolCount p) (howner : s.ownerOf p b = caller) (hnone : caller ≠ 0)
    (hu : u = (s.setOwner p b 0).poolCountUp p 1 1) (hopen : u.poolState p ≠ 5) : s.poolFreeBuf p caller b =
      ⟨1, [], ((u.pushBuf p b).poolSet p (u.poolFree p + 1) (u.poolHeld p - 1)).poolNote p⟩ := by
  unfold State.poolFreeBuf
  rw [if_neg (by omega), poolClosed_none hp hlo hhi, ← hu]
  exact (if_neg (by omega)).trans ((if_neg (by simp [howner, hnone])).trans (if_neg hopen))

theorem poolFreeBuf_rejected {caller b : Nat} (hb : b < s.poolCount p) (howner : s.ownerOf p b ≠ caller) :
    s.poolFreeBuf p caller b = ⟨4, [], s.poolReject p b caller⟩ := by
  unfold State.poolFreeBuf
  rw [if_neg (by omega), poolClosed_none hp hlo hhi]
  exact (if_neg (by omega)).trans (if_pos (.inl howner))

theorem poolHandover_open (caller b o : Nat) : s.poolHandover p caller b o =
    if s.poolCount p ≤ b ∨ s.ownerOf p b ≠ caller ∨ caller = 0 then ⟨4, [], s.poolReject p b caller⟩
    else if !ownerOk o then ⟨8, [], s⟩ else ⟨1, [], s.setOwner p b o⟩ := by
  unfold State.poolHandover
  rw [poolClosed_none hp hlo hhi]
  rfl

section
variable {owner b : Nat} (hhead : (s.pool p).head = some b) (hfree : s.poolFree p ≠ 0) (hgood : s.linkGood p b = true)
include hhead hfree hgood

theorem exec_bpmAllocHigh : ∃ t, exec (.bpmAllocHigh owner p .clean) s = .next t ∧ Handed p owner b s t := by
  obtain ⟨a, ha, hbooks⟩ := poolTake_one (owner := owner) hhead hgood 0
  refine ⟨_, congrArg (fun a : PoolAns => Host.Outcome.next (a.finish owner))
    ((poolAlloc_open hp hlo hhi owner true .clean).trans ((if_neg hfree).trans ((if_neg (by simp)).trans ha))), ?_⟩
  exact hbooks.books (SameBooks.finish a p owner)

theorem exec_bpmAllocLow (hcrust : s.poolState p ≠ 3) :
    ∃ t, exec (.bpmAllocLow owner p .clean) s = .next t ∧ Handed p owner b s t := by
  obtain ⟨a, ha, hbooks⟩ := poolTake_one (owner := owner) hhead hgood 0
  refine ⟨_, congrArg (fun a : PoolAns => Host.Outcome.next (a.finish owner))
    ((poolAlloc_open hp hlo hhi owner false .clean).trans ((if_neg hfree).trans ((if_neg (by simp [hcrust])).trans ha))), ?_⟩
  exact hbooks.books (SameBooks.finish a p owner)

theorem exec_bpmReserve_one : ∃ t, exec (.bpmReserve owner p 1 .clean) s = .next t ∧ Handed p owner b s t := by
  obtain ⟨a, ha, hbooks⟩ := poolTake_one (owner := owner) hhead hgood 2
  refine ⟨_, congrArg (fun a : PoolAns => Host.Outcome.next (a.finish owner))
    ((poolReserve_open hp hlo hhi owner 1 .clean).trans ((if_neg (by omega)).trans ha)), ?_⟩
  exact hbooks.books (SameBooks.finish a p owner)

end

theorem exec_bpmReserve {owner n : Nat} {bs : List Nat} {u : State} (hn : n ≤ s.poolFree p) (hpop : popMany p owner n [] s = some (bs, u)) :
    exec (.bpmReserve owner p n .clean) s = .next ((⟨1, bs, (u.poolCountUp p 2 n).poolNote p⟩ : PoolAns).finish owner) := by
  have htake : s.poolTake p owner n 2 .clean = ⟨1, bs, (u.poolCountUp p 2 n).poolNote p⟩ := by
    unfold State.poolTake
    simp only [eccRanges_clean, hpop, poolDone]
  exact congrArg (fun a : PoolAns => Host.Outcome.next (a.finish owner))
    ((poolReserve_open hp hlo hhi owner n .clean).trans ((if_neg (by omega)).trans htake))

theorem exec_bpmAllocLow_dry (owner : Nat) (ecc : Ecc) (hfree : s.poolFree p = 0) :
    exec (.bpmAllocLow owner p ecc) s = .next ((⟨3, [], s.poolCountUp p 4 1⟩ : PoolAns).finish owner) :=
  congrArg (fun a : PoolAns => Host.Outcome.next (a.finish owner)) ((poolAlloc_open hp hlo hhi owner false ecc).trans (if_pos hfree))

theorem exec_bpmAllocLow_crust (owner : Nat) (ecc : Ecc) (hfree : s.poolFree p ≠ 0) (hcrust : s.poolState p = 3) :
    exec (.bpmAllocLow owner p ecc) s = .next ((⟨2, [], s.poolCountUp p 3 1⟩ : PoolAns).finish owner) :=
  congrArg (fun a : PoolAns => Host.Outcome.next (a.finish owner)) ((poolAlloc_open hp hlo hhi owner false ecc).trans
    ((if_neg hfree).trans (if_pos (by simp [hcrust]))))

/-! ### FREE and HANDOVER (R374, R375) -/

/-- A buffer that its owner frees is the new head, and is owned by none. -/
theorem exec_bpmFree {owner b : Nat} (hb : b < s.poolCount p) (howner : s.ownerOf p b = owner) (hnone : owner ≠ 0) :
    ∃ t, exec (.bpmFree owner p b) s = .next t ∧ t.ownerOf p b = 0 ∧ t.poolFree p = (s.poolFree p + 1) % 2 ^ 32 ∧
      t.poolHeld p = s.poolHeld p - 1 ∧ (t.pool p).head = some b := by
  obtain ⟨u, hu⟩ : ∃ u : State, u = (s.setOwner p b 0).poolCountUp p 1 1 := ⟨_, rfl⟩
  have hcount := hu ▸ SameBooks.poolCountUp (s.setOwner p b 0) p 1 1
  have hstate : u.poolState p = s.poolState p := by
    have hagree := State.poolCountUp_closed (Agree.closed (s.setOwner p b 0) rfl) (Agree.refl _ _) p 1 1
    exact congrArg (bits · 0 3) (hu ▸ hagree.rd Obj.poolState p (by decide +kernel))
  obtain ⟨w, hw⟩ : ∃ w : State, w = u.poolWrite p (u.bufAt p b) (leBytes 8 (u.linkWord p (u.pool p).head)) := ⟨_, rfl⟩
  have hwrite : SameBooks p u w := hw ▸ SameBooks.of_agree (poolWrite_agree ..) (by decide +kernel) rfl rfl
  obtain ⟨v, hv⟩ : ∃ v : State, v = w.setPool p { w.pool p with head := some b } := ⟨_, rfl⟩
  have hpush : u.pushBuf p b = v := by rw [hv, hw]; rfl
  have hfree : u.poolFree p = s.poolFree p := hcount.free
  have hheld : u.poolHeld p = s.poolHeld p := hcount.held
  have hnoowner : v.ownerOf p b = 0 := hv ▸ (hwrite.ownerOf p b).trans ((hcount.ownerOf p b).trans (ownerOf_setOwner_same ..))
  have hans := poolFreeBuf_served hp hlo hhi hb howner hnone hu (by omega)
  rw [hpush, hfree, hheld] at hans
  have hbooks := (SameBooks.poolNote (v.poolSet p (s.poolFree p + 1) (s.poolHeld p - 1)) p).trans
    (SameBooks.finish ⟨1, [], (v.poolSet p (s.poolFree p + 1) (s.poolHeld p - 1)).poolNote p⟩ p owner)
  obtain ⟨hf, hh⟩ := poolSet_books v p (s.poolFree p + 1) (s.poolHeld p - 1)
  have hlt := poolHeld_lt s p
  refine ⟨_, congrArg (fun a : PoolAns => Host.Outcome.next (a.finish owner)) hans, ?_, hbooks.free.trans hf, ?_, ?_⟩
  · exact (hbooks.ownerOf p b).trans ((ownerOf_poolSet ..).trans hnoowner)
  · exact hbooks.held.trans (hh.trans (by omega))
  · refine hbooks.head.trans ?_
    rw [pool_poolSet, hv, pool_setPool_same]

theorem exec_bpmHandover {owner b o : Nat} (hb : b < s.poolCount p) (howner : s.ownerOf p b = owner) (hnone : owner ≠ 0)
    (ho : ownerOk o = true) : ∃ t, exec (.bpmHandover owner p b o) s = .next t ∧ t.ownerOf p b = o ∧
      t.poolFree p = s.poolFree p ∧ t.poolHeld p = s.poolHeld p := by
  have hans : s.poolHandover p owner b o = ⟨1, [], s.setOwner p b o⟩ := by
    rw [poolHandover_open hp hlo hhi, if_neg (by simp [howner, hnone]; omega), if_neg (by simp [ho])]
  have hbooks := SameBooks.finish ⟨1, [], s.setOwner p b o⟩ p owner
  exact ⟨_, congrArg (fun a : PoolAns => Host.Outcome.next (a.finish owner)) hans,
    (hbooks.ownerOf p b).trans (ownerOf_setOwner_same ..), hbooks.free, hbooks.held⟩

/-- A FREE by another than the owner changes the reject record alone. -/
theorem exec_bpmFree_rejected {owner b : Nat} (hb : b < s.poolCount p) (howner : s.ownerOf p b ≠ owner) :
    ∃ t, exec (.bpmFree owner p b) s = .next t ∧ t.ownerOf p b = s.ownerOf p b ∧ t.poolFree p = s.poolFree p ∧
      t.fld Obj.poolReject p 0 32 = b % 2 ^ 32 := by
  have hans : s.poolFreeBuf p owner b = ⟨4, [], s.poolReject p b owner⟩ := poolFreeBuf_rejected hp hlo hhi hb howner
  have hreject : SameBooks p s (s.poolReject p b owner) :=
    .of_agree (State.poolReject_closed (Agree.closed s rfl) (Agree.refl _ s) p b owner) (by decide +kernel) rfl rfl
  have hbooks := hreject.trans (SameBooks.finish ⟨4, [], s.poolReject p b owner⟩ p owner)
  have hfinish := PoolAns.finish_closed (a := ⟨4, [], s.poolReject p b owner⟩) (Agree.closed (s.poolReject p b owner) rfl)
    (Agree.refl _ _) owner
  refine ⟨_, congrArg (fun a : PoolAns => Host.Outcome.next (a.finish owner)) hans, hbooks.ownerOf p b, hbooks.free, ?_⟩
  refine (congrArg (bits · 0 32) (hfinish.rd Obj.poolReject p (by decide +kernel))).trans ?_
  unfold State.poolReject
  rw [State.rd_wr_same _ _ _ _ rfl, bits_eq]
  omega

end

/-! ### Pools made and unmade (R372, R389) -/

section
variable {s : State} {p : Nat} (hp : p < 64)
include hp

omit hp in
theorem poolCmd_answered (u : State) {code : Nat} (h : code < 256) : (u.wrFld Obj.poolCmd 0 0 8 code).fld Obj.poolCmd 0 0 8 = code :=
  (State.fld_wrFld_same _ _ _ _ _ _ rfl).trans (Nat.mod_eq_of_lt h)

omit hp in
/-- POOL_STATE of a pool whose list is being built. -/
theorem poolState_initialising (u : State) (p n code : Nat) :
    ((u.wr Obj.poolState p (6 + n % 2 ^ 16 * 2 ^ 128)).wrFld Obj.poolCmd 0 0 8 code).poolState p = 6 := by
  have hrd : (u.wr Obj.poolState p (6 + n % 2 ^ 16 * 2 ^ 128)).rd Obj.poolState p = 6 + n % 2 ^ 16 * 2 ^ 128 :=
    State.rd_wr_same _ _ _ _ rfl
  refine (State.fld_wrFld_obj _ _ _ _ _ _ _ _ (by decide)).trans ?_
  rw [State.fld, hrd, bits_eq]
  omega

theorem exec_poolInit_eq (hstate : s.poolState p = 0) (hvalid : s.poolValid p = true) :
    exec (.poolInit p) s = .next (((s.setPool p { PoolSt.init with inits := (s.pool p).inits + 1 }).wr Obj.poolState p
      (6 + ((s.pool p).inits + 1) % 2 ^ 16 * 2 ^ 128)).wrFld Obj.poolCmd 0 0 8 1) := by
  change execPoolInit p s = _
  unfold execPoolInit
  rw [if_neg (by omega), if_neg (by omega), if_neg (by simp [hvalid])]
  rfl

theorem exec_poolInit (hstate : s.poolState p = 0) (hvalid : s.poolValid p = true) :
    ∃ t, exec (.poolInit p) s = .next t ∧ t.poolState p = 6 ∧ (t.pool p).inits = (s.pool p).inits + 1 ∧ t.fld Obj.poolCmd 0 0 8 = 1 := by
  rw [exec_poolInit_eq hp hstate hvalid]
  obtain ⟨u, hu⟩ : ∃ u, u = s.setPool p { PoolSt.init with inits := (s.pool p).inits + 1 } := ⟨_, rfl⟩
  have hinits : (u.pool p).inits = (s.pool p).inits + 1 := by rw [hu, pool_setPool_same]
  rw [← hu]
  refine ⟨_, rfl, poolState_initialising .., ?_, poolCmd_answered _ (by decide)⟩
  rw [← hinits]
  exact congrArg PoolSt.inits (pool_congr ((State.wrFld_pools ..).trans (State.wr_pools ..)) p)

theorem exec_poolInit_refused (hstate : s.poolState p = 0) (hvalid : s.poolValid p = false) :
    exec (.poolInit p) s = .next (s.wrFld Obj.poolCmd 0 0 8 8) := by
  change execPoolInit p s = _
  unfold execPoolInit
  rw [if_neg (by omega), if_neg (by omega), if_pos (by simp [hvalid])]
  rfl

/-- A pool whose list is built holds every buffer free. -/
theorem exec_poolInitDone (hstate : s.poolState p = 6) : ∃ t, exec (.poolInitDone p) s = .next t ∧ t.poolFree p = s.poolCount p ∧
    t.poolHeld p = 0 ∧ (t.pool p).head = some 0 ∧ t.fld Obj.poolState p 96 32 = s.poolCount p ∧ ∀ b, b < 2 ^ 23 → t.ownerOf p b = 0 := by
  have hcount : s.poolCount p < 2 ^ 32 := bits_lt ..
  obtain ⟨u, hu⟩ : ∃ u : State, u = foldUp (fun k (t : State) => t.poolWrite p (t.bufAt p k)
    (leBytes 8 (t.linkWord p (if k + 1 < s.poolCount p then some (k + 1) else none)))) 0 (s.poolCount p) s := ⟨_, rfl⟩
  obtain ⟨v, hv⟩ : ∃ v : State, v = { u with owners := u.owners.filter fun q => q.1 / 2 ^ 23 != p } := ⟨_, rfl⟩
  obtain ⟨w, hw⟩ : ∃ w : State, w = v.setPool p { v.pool p with head := some 0, crust := false } := ⟨_, rfl⟩
  obtain ⟨x, hx⟩ : ∃ x : State, x = ((w.poolSet p (s.poolCount p) 0).wrFld Obj.poolState p 96 32 (s.poolCount p)).wr Obj.poolCounts p 0 :=
    ⟨_, rfl⟩
  have hexec : exec (.poolInitDone p) s = .next ((x.poolNote p).wr Obj.poolFlags p (x.rd Obj.poolFlags p)) := by
    change execPoolInitDone p s = _
    unfold execPoolInitDone
    rw [if_neg (by omega), if_neg (not_not_intro hstate), hx, hw, hv, hu]
  obtain ⟨hf, hh⟩ := poolSet_books w p (s.poolCount p) 0
  have hmin : SameBooks p (w.poolSet p (s.poolCount p) 0) x := by
    rw [hx]
    refine (SameBooks.wrState _ p 96 32 _ (.inr (by decide))).trans ⟨State.wr_owners .., ?_, ?_, ?_⟩
    · exact State.fld_wr_obj _ _ _ _ _ _ (by decide)
    · exact State.fld_wr_obj _ _ _ _ _ _ (by decide)
    · exact congrArg PoolSt.head (pool_congr (State.wr_pools ..) p)
  have hflags : SameBooks p (x.poolNote p) ((x.poolNote p).wr Obj.poolFlags p (x.rd Obj.poolFlags p)) :=
    ⟨State.wr_owners .., State.fld_wr_obj _ _ _ _ _ _ (by decide), State.fld_wr_obj _ _ _ _ _ _ (by decide),
      congrArg PoolSt.head (pool_congr (State.wr_pools ..) p)⟩
  have hbooks := (hmin.trans (SameBooks.poolNote x p)).trans hflags
  have hleast : x.fld Obj.poolState p 96 32 = s.poolCount p := by
    rw [hx]
    exact (State.fld_wr_obj _ _ _ _ _ _ (by decide)).trans ((State.fld_wrFld_same _ _ _ _ _ _ rfl).trans (Nat.mod_eq_of_lt hcount))
  have hall : x.poolFree p = s.poolCount p := hmin.free.trans (hf.trans (Nat.mod_eq_of_lt hcount))
  refine ⟨_, hexec, hbooks.free.trans (hf.trans (Nat.mod_eq_of_lt hcount)), hbooks.held.trans hh, ?_, ?_, fun b hb => ?_⟩
  · refine hbooks.head.trans ?_
    rw [pool_poolSet, hw, pool_setPool_same]
  · exact (State.fld_wr_obj _ _ _ _ _ _ (by decide)).trans ((poolNote_least (by omega)).trans hleast)
  · refine (hbooks.ownerOf p b).trans ((ownerOf_poolSet ..).trans ?_)
    have hpool : (2 ^ 23 * p + b) / 2 ^ 23 = p := by omega
    have hdropped : v.ownerOf p b = 0 := by
      rw [hv]
      exact get_filter_dropped (fun _ => by simp only [hpool, bne_self_eq_false]) 0
    rw [hw]
    exact hdropped

theorem exec_poolDisable (hheld : s.poolHeld p = 0) (hstate : s.poolState p ≠ 6) :
    ∃ t, exec (.poolDisable p) s = .next t ∧ t.poolState p = 0 ∧ t.poolFree p = 0 ∧ (t.pool p).head = none ∧ t.fld Obj.poolCmd 0 0 8 = 1 := by
  change ∃ t, execPoolDisable p s = .next t ∧ _
  unfold execPoolDisable
  rw [if_neg (by omega), if_neg (by omega)]
  refine ⟨_, rfl, ?_, ?_, ?_, poolCmd_answered _ (by decide)⟩
  · exact (State.fld_wrFld_obj _ _ _ _ _ _ _ _ (by decide)).trans ((State.fld_wrFld_other _ _ _ _ _ _ _ _ rfl (.inl (by decide))).trans
      (State.fld_wrFld_same _ _ _ _ _ _ rfl))
  · exact (State.fld_wrFld_obj _ _ _ _ _ _ _ _ (by decide)).trans (State.fld_wrFld_same _ _ _ _ _ _ rfl)
  · simp only [State.pool, State.wrFld_pools]
    exact congrArg PoolSt.head (pool_setPool_same ..)

theorem exec_poolDisable_held (hheld : s.poolHeld p ≠ 0) : exec (.poolDisable p) s = .next (s.wrFld Obj.poolCmd 0 0 8 6) := by
  change execPoolDisable p s = _
  unfold execPoolDisable
  rw [if_neg (by omega), if_pos (.inl hheld)]
  rfl

theorem exec_ownerQuery {b : Nat} (hb : b < 2 ^ 32) : exec (.ownerQuery (p + b * 2 ^ 32)) s = .next (s.wr Obj.ownerQuery 0
    (if s.poolState p = 0 then 2 * 2 ^ 16 else if s.poolCount p ≤ b then 2 ^ 16 else s.ownerOf p b)) := by
  have hpool : bits (p + b * 2 ^ 32) 0 6 = p := by rw [bits_eq]; omega
  have hbuf : bits (p + b * 2 ^ 32) 32 32 = b := by rw [bits_eq]; omega
  have hrest : bits (p + b * 2 ^ 32) 6 26 = 0 := by rw [bits_eq]; omega
  change execOwnerQuery (p + b * 2 ^ 32) s = _
  unfold execOwnerQuery
  simp only [hpool, hbuf, hrest]
  rw [if_neg (by omega)]
  split
  · rfl
  · split <;> rfl

end

/-- Settles O32, from the equation of each operation and the books it leaves. -/
theorem bufferPoolsServeTheirOwners : Obligations.BufferPoolsServeTheirOwners := by
  unfold Obligations.BufferPoolsServeTheirOwners
  refine ⟨fun s p owner b hp hlo hhi => ⟨fun hhead hfree hgood => ⟨?_, fun hcrust => ?_, ?_⟩,
      fun n bs u => exec_bpmReserve hp hlo hhi, fun ecc => exec_bpmAllocLow_dry hp hlo hhi owner ecc,
      fun ecc => exec_bpmAllocLow_crust hp hlo hhi owner ecc,
      fun hb howner hnone => ⟨exec_bpmFree hp hlo hhi hb howner hnone, fun o => exec_bpmHandover hp hlo hhi hb howner hnone⟩,
      exec_bpmFree_rejected hp hlo hhi⟩,
    fun s p hp => ⟨exec_poolInit hp, exec_poolInit_refused hp, exec_poolInitDone hp, exec_poolDisable hp, exec_poolDisable_held hp,
      fun b => exec_ownerQuery hp⟩⟩
  · obtain ⟨t, ht, howner, hf, hh, hnext, hothers⟩ := exec_bpmAllocHigh (owner := owner) hp hlo hhi hhead hfree hgood
    exact ⟨t, ht, howner, hf, hh, hnext, hothers⟩
  · obtain ⟨t, ht, howner, hf, hh, -, -⟩ := exec_bpmAllocLow (owner := owner) hp hlo hhi hhead hfree hgood hcrust
    exact ⟨t, ht, howner, hf, hh⟩
  · obtain ⟨t, ht, howner, hf, hh, -, -⟩ := exec_bpmReserve_one (owner := owner) hp hlo hhi hhead hfree hgood
    exact ⟨t, ht, howner, hf, hh⟩

end Sys2Proof.Laws
end

section
/-! PROOFS. Frames at a host port, and frames that pass between the host ports and the fabric (O34). -/

namespace Sys2Proof.Laws

set_option Elab.async false

open Sys2Proof.Machine

/-! ### Counts of another object -/

theorem rd_inc_obj (s : State) {c c' : ObjCode} (h : c' ≠ c) (i lo w n j : Nat) : (s.inc c i lo w n).rd c' j = s.rd c' j := by
  unfold State.inc
  extract_lets
  split
  · exact State.rd_wrFld_obj _ _ _ _ _ _ h
  · rw [State.drawn_rd]
    exact State.rd_wrFld_obj _ _ _ _ _ _ h

theorem fld_inc_obj (s : State) {c c' : ObjCode} (h : c' ≠ c) (i lo w n j lo' w' : Nat) :
    (s.inc c i lo w n).fld c' j lo' w' = s.fld c' j lo' w' := congrArg (bits · lo' w') (rd_inc_obj s h ..)

/-! ### Frames at a host port (R391, R392) -/

/-- The state in which a frame that has arrived whole is looked at: it has been counted. -/
def frameCounted (s : State) (hp : Nat) : State := s.inc Obj.hostPortCounts hp 0 64 1

theorem hostVlan_frameCounted (s : State) (hp : Nat) : (frameCounted s hp).hostVlan hp = s.hostVlan hp := by
  unfold State.hostVlan State.fld frameCounted
  rw [rd_inc_obj _ (by decide)]

/-- A fresh packet without an ECN mark is performed. -/
theorem hostRequest_fresh {s : State} {q psn : Nat} (h : FreshPacket s q psn) (fresh again : State → State) :
    s.hostRequest q psn false fresh again = .next (fresh s) := by
  obtain ⟨hq, hready, hplace⟩ := h
  unfold State.hostRequest
  rw [if_neg (by omega), if_neg (by omega)]
  have hecn : s.ecnSeen q false = s := rfl
  dsimp only
  rw [hecn, hplace]
  rfl

section
variable {s : State} {hp len : Nat} (hhp : hp < 2) (hup : s.hostPort hp = 1) (hlen : len ≤ 9216)
  (udp etype : Nat) (toIp toMac neighbour : Bool) (vlan : Option Nat) (bad : Option (Nat × Nat))
include hhp hup hlen

theorem hostFrame_badFcs : exec (.hostFrameReceive hp len udp etype false toIp toMac neighbour vlan bad) s =
    .next (s.inc Obj.hostPortCounts hp 128 64 1) := by
  change execHostFrameReceive hp len udp etype false toIp toMac neighbour vlan bad s = _
  unfold execHostFrameReceive
  rw [if_neg (by omega), if_neg (by omega)]
  rfl

theorem hostFrame_otherVlan (hvlan : vlan ≠ s.hostVlan hp) : exec (.hostFrameReceive hp len udp etype true toIp toMac neighbour vlan bad) s =
    .next ((frameCounted s hp).inc Obj.hostPortCounts hp 192 64 1) := by
  change execHostFrameReceive hp len udp etype true toIp toMac neighbour vlan bad s = _
  unfold execHostFrameReceive
  rw [if_neg (by omega), if_neg (by omega), if_neg (by decide)]
  dsimp only
  rw [← frameCounted, if_pos (by rwa [hostVlan_frameCounted])]

/-- A frame with the port's tag goes to the service that takes it. -/
theorem hostFrame_ownVlan (hvlan : vlan = s.hostVlan hp) : exec (.hostFrameReceive hp len udp etype true toIp toMac neighbour vlan bad) s =
    if toIp && udp == 4791 then
      bad.elim (.next (frameCounted s hp)) fun p => if p.1 < 512 then (frameCounted s hp).hostRequest p.1 p.2 false
        (fun s => s.hostUnsupported p.1 p.2) (fun s => s) else .next (frameCounted s hp)
    else if (toIp && udp == 48213) || (toMac && etype == (frameCounted s hp).fld Obj.hostEther 0 8 16) then .next (frameCounted s hp)
    else if neighbour then
      .next ((frameCounted s hp).hostSend hp hostNeighbour 0 (beBytes 6 ((frameCounted s hp).fld Obj.hostPortConfig hp 0 48)))
    else .next ((frameCounted s hp).inc Obj.hostPortCounts hp 192 64 1) := by
  change execHostFrameReceive hp len udp etype true toIp toMac neighbour vlan bad s = _
  unfold execHostFrameReceive
  rw [if_neg (by omega), if_neg (by omega), if_neg (by decide)]
  dsimp only
  rw [← frameCounted, if_neg (by rw [hostVlan_frameCounted, hvlan]; exact not_not_intro rfl)]
  cases bad <;> rfl

end

/-- The whole of a frame's fate at a host port that is UP. -/
theorem hostFrames (s : State) (hp len udp etype : Nat) (toIp toMac neighbour : Bool) (vlan : Option Nat) (bad : Option (Nat × Nat))
    (hhp : hp < 2) (hup : s.hostPort hp = 1) (hlen : len ≤ 9216) :
    let u := s.inc Obj.hostPortCounts hp 0 64 1
    let frame (fcs : Bool) := exec (.hostFrameReceive hp len udp etype fcs toIp toMac neighbour vlan bad) s
    let roce := toIp && udp == 4791
    let taken := (roce && bad.isNone) || (!roce && ((toIp && udp == 48213) || (toMac && etype == s.fld Obj.hostEther 0 8 16)))
    frame false = .next (s.inc Obj.hostPortCounts hp 128 64 1) ∧
    (vlan ≠ s.hostVlan hp → frame true = .next (u.inc Obj.hostPortCounts hp 192 64 1)) ∧
    (vlan = s.hostVlan hp →
      (taken = true → frame true = .next u) ∧
      (∀ q psn, roce = true → bad = some (q, psn) → FreshPacket u q psn → frame true = .next (u.hostUnsupported q psn)) ∧
      (roce = false → taken = false → neighbour = true →
        frame true = .next (u.hostSend hp hostNeighbour 0 (beBytes 6 (s.fld Obj.hostPortConfig hp 0 48)))) ∧
      (roce = false → taken = false → neighbour = false → frame true = .next (u.inc Obj.hostPortCounts hp 192 64 1))) := by
  intro u frame roce taken
  refine ⟨hostFrame_badFcs hhp hup hlen .., fun hvlan => hostFrame_otherVlan hhp hup hlen _ _ _ _ _ _ _ hvlan, fun hvlan => ?_⟩
  have hether : (frameCounted s hp).fld Obj.hostEther 0 8 16 = s.fld Obj.hostEther 0 8 16 := fld_inc_obj _ (by decide) ..
  have hmac : (frameCounted s hp).fld Obj.hostPortConfig hp 0 48 = s.fld Obj.hostPortConfig hp 0 48 := fld_inc_obj _ (by decide) ..
  have hframe := hostFrame_ownVlan hhp hup hlen udp etype toIp toMac neighbour vlan bad hvlan
  rw [hether, hmac] at hframe
  refine ⟨fun htaken => hframe.trans ?_, fun q psn hroce hbad hfresh => hframe.trans ?_, fun hroce htaken hnb => hframe.trans ?_,
    fun hroce htaken hnb => hframe.trans ?_⟩
  · cases hroce : roce
    · rw [if_neg (by simpa [roce] using hroce), if_pos (by simpa [taken, hroce] using htaken)]
      rfl
    · have hnone : bad = none := by simpa [taken, hroce] using htaken
      rw [if_pos hroce, hnone]
      rfl
  · rw [if_pos hroce, hbad]
    exact (if_pos hfresh.1).trans (hostRequest_fresh hfresh _ _)
  · rw [if_neg (by simpa [roce] using hroce), if_neg (by simpa [taken, hroce] using htaken), if_pos hnb]
    rfl
  · rw [if_neg (by simpa [roce] using hroce), if_neg (by simpa [taken, hroce] using htaken), if_neg (by simp [hnb])]
    rfl

/-! ### Fabric Ethernet and mirror copies (R415) -/

theorem ethernetOut_sent {s : State} {p : Nat} {bs : List Byte} (h : s.hostPort p = 1 ∧ bs.length ≤ s.fld Obj.hostPortConfig p 208 14) :
    s.ethernetOut p bs = (true, s.hostSend p hostEthernet 0 bs) := if_pos h

theorem ethernetOut_dropped {s : State} {p : Nat} {bs : List Byte}
    (h : ¬(s.hostPort p = 1 ∧ bs.length ≤ s.fld Obj.hostPortConfig p 208 14)) : s.ethernetOut p bs = (false, s) := if_neg h

theorem exec_fwdOutbound {s : State} {f : Frame} (hclass : f.bclass = 4) (hs : s.scratched = false) :
    let p := s.fld Obj.hostEther 0 0 1
    exec (.fwdOutbound f) s = .next (if s.hostPort p = 1 ∧ f.payload.length ≤ s.fld Obj.hostPortConfig p 208 14
      then s.hostSend p hostEthernet 0 f.payload else s.inc Obj.hostPortCounts p 256 64 1) := by
  intro p
  change execFwdOutbound f s = _
  unfold execFwdOutbound
  rw [if_neg (by simp [hclass, hs])]
  extract_lets r
  by_cases h : s.hostPort p = 1 ∧ f.payload.length ≤ s.fld Obj.hostPortConfig p 208 14
  · have hr : r = _ := ethernetOut_sent h
    rw [if_pos h, hr]
    rfl
  · have hr : r = _ := ethernetOut_dropped h
    rw [if_neg h, hr]
    rfl

/-- The header that the HA gives an injected frame. -/
def injectedFrame (s : State) (bytes : List Byte) : Frame :=
  (((⟨beCode (sliceBytes bytes 0 32), bytes.drop 32⟩ : Frame).set 224 16 s.devId).set 210 6 (s.rd Obj.hopInit 0)).set 218 3 4

theorem injectedFrame_src (s : State) (bytes : List Byte) : (injectedFrame s bytes).src = s.devId % 2 ^ 16 :=
  (bits_setBits_other _ _ _ _ _ _ (.inr (by decide))).trans ((bits_setBits_other _ _ _ _ _ _ (.inr (by decide))).trans
    (bits_setBits_same ..))

theorem injectedFrame_hops (s : State) (bytes : List Byte) : (injectedFrame s bytes).hops = bits (s.rd Obj.hopInit 0) 0 6 :=
  (bits_setBits_other _ _ _ _ _ _ (.inl (by decide))).trans ((bits_setBits_same ..).trans (by rw [bits_eq, pow_zero, Nat.div_one]))

theorem injectedFrame_bclass (s : State) (bytes : List Byte) : (injectedFrame s bytes).bclass = 4 := bits_setBits_same ..

theorem exec_fwdInbound {s : State} {hp : Nat} {bytes : List Byte} (hhp : hp < 2) (hs : s.scratched = false) (hup : s.hostPort hp = 1)
    (hlen : bytes.length ≤ s.fld Obj.hostPortConfig hp 208 14) :
    ∃ t f, exec (.fwdInbound hp bytes) s = .next t ∧ t = s.send (.frame f) ∧ f.src = s.devId % 2 ^ 16 ∧
      f.hops = bits (s.rd Obj.hopInit 0) 0 6 ∧ f.bclass = 4 ∧ f.payload = bytes.drop 32 := by
  refine ⟨_, injectedFrame s bytes, ?_, rfl, injectedFrame_src s bytes, injectedFrame_hops s bytes, injectedFrame_bclass s bytes, rfl⟩
  change execFwdInbound hp bytes s = _
  unfold execFwdInbound State.hostMtu
  rw [if_neg (by omega), if_neg (by simp [hs]), if_neg (by omega)]
  rfl

theorem exec_fwdInbound_down {s : State} {hp : Nat} (bytes : List Byte) (hhp : hp < 2) (hs : s.scratched = false)
    (hdown : s.hostPort hp ≠ 1) : exec (.fwdInbound hp bytes) s = .next (s.inc Obj.hostPortCounts hp 256 64 1) := by
  change execFwdInbound hp bytes s = _
  unfold execFwdInbound
  rw [if_neg (by omega), if_neg (by simp [hs]), if_pos (.inl hdown)]

/-- The bytes of a mirrored copy as they leave. -/
def mirrorBytes (u : State) (c : MirrorCopy) : List Byte :=
  beBytes 6 (bits (u.rd Obj.hostEther 0) 40 48) ++ beBytes 6 (u.fld Obj.hostPortConfig (bits (u.rd Obj.hostEther 0) 1 1) 0 48)
    ++ beBytes 2 (bits (u.rd Obj.hostEther 0) 24 16) ++ c.bytes

/-- A copy taken from the mirror queue leaves, or is dropped and counted. -/
def mirrorLeaves (u : State) (c : MirrorCopy) : State :=
  let r := u.ethernetOut (bits (u.rd Obj.hostEther 0) 1 1) (mirrorBytes u c)
  r.2.inc Obj.mirrorCounts c.session (if r.1 then 0 else 64) 64 1

theorem exec_mirrorOut_eq {s : State} {c : MirrorCopy} {rest : List MirrorCopy} (hq : s.mirrorQueue = c :: rest) :
    exec .mirrorOut s = .next (mirrorLeaves { s with mirrorQueue := rest } c) := by
  change execMirrorOut s = _
  unfold execMirrorOut
  split
  · next h => exact absurd (h.symm.trans hq) (by simp)
  · next h =>
    obtain ⟨rfl, rfl⟩ := List.cons.inj (h.symm.trans hq)
    rfl

theorem mirrorLeaves_eq (u : State) (c : MirrorCopy) :
    let port := bits (u.rd Obj.hostEther 0) 1 1
    mirrorLeaves u c = if u.hostPort port = 1 ∧ (mirrorBytes u c).length ≤ u.fld Obj.hostPortConfig port 208 14
      then (u.hostSend port hostEthernet 0 (mirrorBytes u c)).inc Obj.mirrorCounts c.session 0 64 1
      else u.inc Obj.mirrorCounts c.session 64 64 1 := by
  intro port
  unfold mirrorLeaves
  by_cases h : u.hostPort port = 1 ∧ (mirrorBytes u c).length ≤ u.fld Obj.hostPortConfig port 208 14
  · rw [if_pos h, ethernetOut_sent h]
    rfl
  · rw [if_neg h, ethernetOut_dropped h]
    rfl

theorem exec_mirrorOut {s : State} {c : MirrorCopy} {rest : List MirrorCopy} (hq : s.mirrorQueue = c :: rest) :
    let u := { s with mirrorQueue := rest }
    let e := s.rd Obj.hostEther 0
    let bs := beBytes 6 (bits e 40 48) ++ beBytes 6 (s.fld Obj.hostPortConfig (bits e 1 1) 0 48) ++ beBytes 2 (bits e 24 16) ++ c.bytes
    exec .mirrorOut s = .next (if s.hostPort (bits e 1 1) = 1 ∧ bs.length ≤ s.fld Obj.hostPortConfig (bits e 1 1) 208 14
      then (u.hostSend (bits e 1 1) hostEthernet 0 bs).inc Obj.mirrorCounts c.session 0 64 1
      else u.inc Obj.mirrorCounts c.session 64 64 1) :=
  (exec_mirrorOut_eq hq).trans (congrArg Host.Outcome.next (mirrorLeaves_eq { s with mirrorQueue := rest } c))

/-- Settles O34: each fate of a host frame, and of a frame between a host port and the fabric, by the lemma named for it. -/
theorem hostFramesAndFabricEthernet : Obligations.HostFramesAndFabricEthernet :=
  ⟨hostFrames, fun _ => ⟨fun _ => exec_fwdOutbound, fun _ _ => exec_fwdInbound, fun _ bytes => exec_fwdInbound_down bytes,
    fun _ _ => exec_mirrorOut⟩⟩

end Sys2Proof.Laws
end

section
/-! PROOFS. The fresh packets of a host are served (O35). -/

namespace Sys2Proof.Laws

set_option Elab.async false

open Sys2Proof.Machine

/-! ### Access through a window (R398, R399) -/

theorem hostAccess_granted {s : State} {rkey va len bit a : Nat} (hopen : s.memClosed = false) (ha : s.windowAddr rkey va len bit = some a)
    (q psn kind packets : Nat) (make : State → Nat → Nat → List GReq) :
    let id := 512 * (s.qp q).made + q
    let reqs := make s id a
    s.hostAccess q psn rkey va len kind bit packets make =
      ((s.psnOn q packets).pushOp q ⟨id, kind, psn, a, len, reqs, reqs.length, false, [], none⟩).pump := by
  intro id reqs
  unfold State.hostAccess
  rw [if_neg (by simp [hopen]), ha]

theorem hostAccess_denied {s : State} {rkey va len bit : Nat} (hopen : s.memClosed = false) (ha : s.windowAddr rkey va len bit = none)
    (q psn kind packets : Nat) (make : State → Nat → Nat → List GReq) :
    s.hostAccess q psn rkey va len kind bit packets make = (s.psnOn q packets).pushOp q (s.doneOp q kind psn (some hostNakAccess)) := by
  unfold State.hostAccess
  rw [if_neg (by simp [hopen]), ha]

/-! ### SEND (R401, R402) -/

section
variable {s : State} {q psn : Nat} (hfresh : FreshPacket s q psn) (hrecv : (s.qp q).entry.testBit 326 = true) (hopen : s.memClosed = false)
  (data : List Byte) (ecc : Ecc)
include hfresh hrecv hopen

theorem exec_rdmaSend_placed {b : Nat} (hbufs : (s.poolAlloc (bits (s.qp q).entry 320 6) (ownerQp q) false ecc).bufs = [b])
    (hs : (s.poolAlloc (bits (s.qp q).entry 320 6) (ownerQp q) false ecc).state.scratched = false)
    (hfits : data.length ≤ s.poolSize (bits (s.qp q).entry 320 6)) :
    exec (.rdmaSend q psn data false ecc) s =
      .next ((s.poolAlloc (bits (s.qp q).entry 320 6) (ownerQp q) false ecc).state.sendSteps q psn b data (eccAfter ecc 1)) := by
  change execRdmaSend q psn data false ecc s = _
  unfold execRdmaSend
  rw [hostRequest_fresh hfresh]
  dsimp only
  rw [if_neg (by simp [hrecv]), if_neg (by simp [hopen]), if_neg (by simp [hs]), hbufs]
  exact congrArg Host.Outcome.next (if_neg (by omega))

theorem exec_rdmaSend_notReady (hs : s.scratched = false) (hstate : 1 ≤ s.poolState (bits (s.qp q).entry 320 6))
    (henabled : s.poolState (bits (s.qp q).entry 320 6) ≤ 4) (hfree : s.poolFree (bits (s.qp q).entry 320 6) = 0) :
    let u := s.poolCountUp (bits (s.qp q).entry 320 6) 4 1
    exec (.rdmaSend q psn data false ecc) s = .next ((u.psnOn q 0).pushOp q (u.doneOp q 3 psn (some hostNakRnr))) := by
  intro u
  have hdry : s.poolAlloc (bits (s.qp q).entry 320 6) (ownerQp q) false ecc = ⟨poolDry, [], u⟩ := by
    rw [poolAlloc_open (bits_lt ..) hstate henabled, if_pos hfree]
    rfl
  have hus : u.scratched = false := by
    unfold State.scratched State.service at hs ⊢
    rw [show u.rd Obj.serviceState 0 = _ from rd_inc_obj s (by decide) ..]
    exact hs
  change execRdmaSend q psn data false ecc s = _
  unfold execRdmaSend
  rw [hostRequest_fresh hfresh]
  dsimp only
  rw [if_neg (by simp [hrecv]), if_neg (by simp [hopen]), hdry, if_neg (by simp [hus])]
  exact congrArg Host.Outcome.next (if_pos (.inr rfl))

end

/-! ### Congestion (R403) -/

theorem now_inc (s : State) (c : ObjCode) (i lo w n : Nat) : (s.inc c i lo w n).now = s.now := by
  unfold State.inc
  extract_lets
  split <;> rfl

theorem qp_setQp_same (s : State) (q : Nat) (x : QpSt) : (s.setQp q x).qp q = x := get_set_same ..

theorem exec_cnp {s : State} {q : Nat} (hq : q < 512) (hready : s.qpState q = 1) : ∃ t, exec (.cnp q) s = .next t ∧
    (t.qp q).rate = max 1000000000 ((s.qp q).rate / 2) ∧ (t.qp q).rateAt = s.now := by
  obtain ⟨u, hu⟩ : ∃ u, u = s.inc Obj.hostPortCounts (s.qp q).port 384 64 1 := ⟨_, rfl⟩
  have hexec : exec (.cnp q) s = .next (u.setQp q { s.qp q with rate := max 1000000000 ((s.qp q).rate / 2), rateAt := u.now }) := by
    change execCnp q s = _
    unfold execCnp
    rw [if_neg (by omega), if_neg (by omega), hu]
  refine ⟨_, hexec, congrArg QpSt.rate (qp_setQp_same ..), (congrArg QpSt.rateAt (qp_setQp_same ..)).trans ?_⟩
  rw [hu]
  exact now_inc ..

theorem exec_rateRaise {s : State} {q : Nat} (hq : q < 512) (hready : s.qpState q = 1) (hrate : (s.qp q).rate ≠ 400000000000)
    (hdue : (s.qp q).rateAt + 55000 ≤ s.now) : ∃ t, exec (.rateRaise q) s = .next t ∧
    (t.qp q).rate = min 400000000000 ((s.qp q).rate + 5000000000) ∧ (t.qp q).rateAt = s.now := by
  have hexec : exec (.rateRaise q) s =
      .next (s.setQp q { s.qp q with rate := min 400000000000 ((s.qp q).rate + 5000000000), rateAt := s.now }) := by
    change execRateRaise q s = _
    unfold execRateRaise
    rw [if_neg (Nat.not_le.mpr hq), if_neg (not_or.mpr ⟨not_not_intro hready, not_or.mpr ⟨hrate, Nat.not_lt.mpr hdue⟩⟩)]
  refine ⟨_, hexec, ?_, ?_⟩ <;> rw [qp_setQp_same]

/-- Settles O35: what each packet does, by the answer of the window or of the pool. -/
theorem hostPacketsAreServed : Obligations.HostPacketsAreServed := by
  intro s q psn hfresh id
  refine ⟨fun rkey va data a hopen ha => ?_, fun rkey va len a hopen ha => ?_, fun rkey va swap x y a hopen ha => ?_,
    fun rkey va data hopen ha => ?_, fun data ecc b => ?_, fun data ecc => ?_, exec_cnp hfresh.1 hfresh.2.1,
    exec_rateRaise hfresh.1 hfresh.2.1⟩
  · change execRdmaWrite q psn rkey va data false s = _
    unfold execRdmaWrite
    rw [hostRequest_fresh hfresh, hostAccess_granted hopen ha]
  · change execRdmaRead q psn rkey va len false s = _
    unfold execRdmaRead
    rw [hostRequest_fresh hfresh, hostAccess_granted hopen ha]
  · change execRdmaAtomic q psn rkey va swap x y false s = _
    unfold execRdmaAtomic
    rw [hostRequest_fresh hfresh, hostAccess_granted hopen ha]
    rfl
  · change execRdmaWrite q psn rkey va data false s = _
    unfold execRdmaWrite
    rw [hostRequest_fresh hfresh, hostAccess_denied hopen ha]
  · intro pool p hrecv hopen hbufs hs hfits
    exact exec_rdmaSend_placed hfresh hrecv hopen data ecc hbufs hs hfits
  · intro pool u hrecv hopen hs hstate henabled hfree
    exact exec_rdmaSend_notReady hfresh hrecv hopen data ecc hs hstate henabled hfree

end Sys2Proof.Laws
end

section
/-! PROOFS. Queue pairs keep their requests until they are acknowledged or fail (O36). -/

namespace Sys2Proof.Laws

set_option Elab.async false

open Sys2Proof.Machine

/-! ### Acknowledgements and the timer (R396, R404) -/

theorem exec_ackTimeout {s : State} {q : Nat} {r : HostReq} {rest : List HostReq} (hq : q < 512) (hready : s.qpState q = 1)
    (hreqs : (s.qp q).reqs = r :: rest) (hdue : r.sent + 4096 * 2 ^ bits (s.qp q).entry 312 5 ≤ s.now) :
    exec (.ackTimeout q) s = .next (if bits (s.qp q).entry 306 3 ≤ r.tries then s.qpError q
      else ((s.setQp q { s.qp q with reqs := { r with tries := r.tries + 1 } :: rest }).qpCount q 3).resend q) := by
  change execAckTimeout q s = _
  unfold execAckTimeout
  rw [if_neg (by omega)]
  dsimp only
  split
  · next h => exact absurd (h.symm.trans hreqs) (by simp)
  · next h =>
    obtain ⟨rfl, rfl⟩ := List.cons.inj (h.symm.trans hreqs)
    rw [if_neg (not_or.mpr ⟨not_not_intro hready, Nat.not_lt.mpr hdue⟩)]
    exact (apply_ite Host.Outcome.next ..).symm

/-- The requests of a queue pair after an ACK of the writes up to `psn`. -/
def writesLeft (s : State) (q psn : Nat) : List HostReq := (s.qp q).reqs.filter fun r => !(r.what == 2 && psnUpTo r.psn psn)

section
variable {s : State} {q : Nat} (hq : q < 512) (hready : s.qpState q = 1) (psn : Nat) (data : List Byte)
include hq hready

theorem exec_acknowledgement_ack :
    exec (.acknowledgement q psn 0 data) s = .next (s.setQp q { s.qp q with reqs := writesLeft s q psn }) := by
  change execAcknowledgement q psn 0 data s = _
  unfold execAcknowledgement
  rw [if_neg (by omega), if_neg (by omega)]
  rfl

theorem exec_acknowledgement_readData {h : HostReq} (hfind : (s.qp q).reqs.find? (fun r => r.what != 2 && r.psn == psn) = some h) :
    exec (.acknowledgement q psn 5 data) s =
      .next ((s.setQp q { s.qp q with reqs := (writesLeft s q psn).filter fun r => r != h }).ringRead h data) := by
  change execAcknowledgement q psn 5 data s = _
  unfold execAcknowledgement
  rw [if_neg (by omega), if_neg (by omega)]
  dsimp only
  rw [if_neg (by decide), if_pos rfl, hfind]
  rfl

theorem exec_acknowledgement_nakSeq : exec (.acknowledgement q psn 1 data) s = .next ((s.qpCount q 3).resend q) := by
  change execAcknowledgement q psn 1 data s = _
  unfold execAcknowledgement
  rw [if_neg (by omega), if_neg (by omega)]
  rfl

theorem exec_acknowledgement_nakOther : exec (.acknowledgement q psn 4 data) s = .next (s.qpError q) := by
  change execAcknowledgement q psn 4 data s = _
  unfold execAcknowledgement
  rw [if_neg (by omega), if_neg (by omega)]
  rfl

end

/-! ### Connection (R395, R397) -/

theorem exec_qpConnect {s : State} {q : Nat} (hq : q < 512) (hs : s.scratched = false) (hreset : s.qpState q = 0)
    (hok : s.qpEntryOk q = true) : ∃ t, exec (.qpConnect q) s = .next t ∧ t.qpState q = 1 ∧
      (t.qp q).expect = bits (s.rd Obj.qpTable q) 280 24 ∧ (t.qp q).next = bits (s.rd Obj.qpTable q) 256 24 ∧
      (t.qp q).ops = [] ∧ (t.qp q).reqs = [] ∧ t.rd Obj.qpCmd 0 = 1 := by
  obtain ⟨x, hx⟩ : ∃ x : QpSt, x = { QpSt.init with
    entry := s.rd Obj.qpTable q, expect := bits (s.rd Obj.qpTable q) 280 24, next := bits (s.rd Obj.qpTable q) 256 24,
    rateAt := s.now, made := (s.qp q).made } := ⟨_, rfl⟩
  have hexec : exec (.qpConnect q) s = .next (((s.setQp q x).wrFld Obj.qpTable q 0 2 1).wr Obj.qpCmd 0 1) := by
    change execQpConnect q s = _
    unfold execQpConnect
    rw [if_neg (by omega), if_neg (by simp [hs]), if_neg (by omega), if_neg (by simp [hok]), hx]
  have hqp : (((s.setQp q x).wrFld Obj.qpTable q 0 2 1).wr Obj.qpCmd 0 1).qp q = x := by
    unfold State.qp
    rw [State.wr_qps, State.wrFld_qps]
    exact qp_setQp_same s q x
  refine ⟨_, hexec, ?_, ?_, ?_, ?_, ?_, State.rd_wr_same _ _ _ _ rfl⟩
  · exact (State.fld_wr_obj _ _ _ _ _ _ (by decide)).trans (State.fld_wrFld_same _ _ _ _ _ _ rfl)
  all_goals rw [hqp, hx]
  all_goals rfl

theorem ringsDie_qps (u : State) (q : Nat) : (u.ringsDie q).qps = u.qps :=
  (State.ringsDie_closed (Agree.closed u rfl) (Agree.refl _ u) q).qps rfl

section
variable {s : State} {q : Nat} (hq : q < 512) (hs : s.scratched = false)
include hq hs

theorem exec_qpConnect_badEntry (hreset : s.qpState q = 0) (hbad : s.qpEntryOk q = false) :
    exec (.qpConnect q) s = .next (s.wr Obj.qpCmd 0 3) := by
  change execQpConnect q s = _
  unfold execQpConnect
  rw [if_neg (by omega), if_neg (by simp [hs]), if_neg (by omega), if_pos (by simp [hbad])]

theorem exec_qpConnect_notReset (hstate : s.qpState q ≠ 0) : exec (.qpConnect q) s = .next (s.wr Obj.qpCmd 0 2) := by
  change execQpConnect q s = _
  unfold execQpConnect
  rw [if_neg (by omega), if_neg (by simp [hs]), if_pos hstate]

theorem exec_qpReset : ∃ t, exec (.qpReset q) s = .next t ∧ t.qpState q = 0 ∧
    t.qp q = { QpSt.init with made := (s.qp q).made } ∧ t.rd Obj.qpCmd 0 = 1 := by
  obtain ⟨x, hx⟩ : ∃ x : QpSt, x = { QpSt.init with made := (s.qp q).made } := ⟨_, rfl⟩
  obtain ⟨u, hu⟩ : ∃ u, u = (s.setQp q x).wrFld Obj.qpTable q 0 2 0 := ⟨_, rfl⟩
  have hexec : exec (.qpReset q) s = .next ((u.ringsDie q).wr Obj.qpCmd 0 1) := by
    change execQpReset q s = _
    unfold execQpReset
    rw [if_neg (by omega), if_neg (by simp [hs]), hu, hx]
  have hstate : u.qpState q = 0 := by
    rw [hu]
    exact State.fld_wrFld_same _ _ _ _ _ _ rfl
  have hqp : u.qp q = x := by
    rw [hu, State.qp, State.wrFld_qps]
    exact qp_setQp_same s q x
  refine ⟨_, hexec, ?_, ?_, State.rd_wr_same _ _ _ _ rfl⟩
  · exact (State.fld_wr_obj _ _ _ _ _ _ (by decide)).trans ((ringsDie_qpState u q q).trans hstate)
  · rw [← hx, ← hqp, State.qp, State.wr_qps, ringsDie_qps]
    rfl

end

/-- Settles O36: acknowledgements by their code, the timer, and CONNECT and RESET by the state of the queue pair. -/
theorem queuePairsKeepTheirRequests : Obligations.QueuePairsKeepTheirRequests := by
  intro s q hq
  exact ⟨fun r rest hready hreqs hdue => exec_ackTimeout hq hready hreqs hdue,
    fun psn data hready => exec_acknowledgement_ack hq hready psn data,
    fun psn data h hready hfind => exec_acknowledgement_readData hq hready psn data hfind,
    fun psn data hready => ⟨exec_acknowledgement_nakSeq hq hready psn data, exec_acknowledgement_nakOther hq hready psn data⟩,
    exec_qpConnect hq, exec_qpConnect_badEntry hq, exec_qpConnect_notReset hq, exec_qpReset hq⟩

end Sys2Proof.Laws
end

section
/-! PROOFS. Command rings run their commands (O37). -/

namespace Sys2Proof.Laws

set_option Elab.async false

open Sys2Proof.Machine

/-! ### Starting a command (R407, R408, R413) -/

/-- The front command of a ring, well formed and not held, starts: its work is done and it joins those that run. -/
theorem ringGo_head {s : State} {r n w : Nat} {rest : List (Nat × Nat)} (h : RingHead s r n w rest) {mine : Nat → Bool}
    (hmine : mine (ringOp w) = true) (f : State → Nat → Nat → RingWait × State) :
    s.ringGo r mine f = .next (ringStarted (f s n w).2 r n w rest (f s n w).1) := by
  obtain ⟨hr, hqueue, hfence, hs, hok⟩ := h
  have hfree : (w.testBit 8 && !(s.hostRing r).runs.isEmpty) = false := by
    cases hbit : w.testBit 8
    · rfl
    · rw [hfence hbit]
      rfl
  unfold State.ringGo
  rw [if_neg (by omega)]
  dsimp only
  split
  · next hnil => exact absurd (hnil.symm.trans hqueue) (by simp)
  · next hcons =>
    obtain ⟨hnw, rfl⟩ := List.cons.inj (hcons.symm.trans hqueue)
    obtain ⟨rfl, rfl⟩ := Prod.mk.inj hnw
    rw [if_neg (by simp [hmine, hfree, hs]), if_pos hok]
    rfl

section
variable {s : State} {r n w : Nat} {rest : List (Nat × Nat)} (h : RingHead s r n w rest)
include h

theorem exec_ringNop (hop : ringOp w = 0) : exec (.ringNop r) s = .next (ringStarted s r n w rest (.done 0 0)) := by
  change execRingNop r s = _
  exact ringGo_head h (by rw [hop]; rfl) _

theorem exec_ringLaunch (ecc : Ecc) (hop : ringOp w = 1) :
    let a := s.tryLaunch (bits w 64 7) (bits w 72 43) ecc
    exec (.ringLaunch r ecc) s = .next (ringStarted a.2 r n w rest (if a.1 = 1 then .core (bits w 64 7) else .done 1 a.1)) := by
  change execRingLaunch r ecc s = _
  exact ringGo_head h (by rw [hop]; rfl) _

theorem exec_ringPower (hop : ringOp w = 3) : exec (.ringPower r) s =
    .next (ringStarted ((s.powerRequest (bits w 64 2) (some (ringId r n))).powerNote) r n w rest .power) := by
  change execRingPower r s = _
  exact ringGo_head h (by rw [hop]; rfl) _

section
variable (hop : ringOp w = 2) (hidle : s.ctxState (bits w 64 6) = 0 ∨ (s.ctx (bits w 64 6)).member = false ∨
  s.coreLive (s.ctx (bits w 64 6)).owner = false)
include hop hidle

omit h hop in
theorem ringColl_context_free : ¬(s.ctxState (bits w 64 6) ≠ 0 ∧ (s.ctx (bits w 64 6)).member = true ∧
    s.coreLive (s.ctx (bits w 64 6)).owner = true) := by
  rintro ⟨hstate, hmember, hlive⟩
  rcases hidle with h0 | h0 | h0
  · exact hstate h0
  · exact absurd (h0.symm.trans hmember) (by decide)
  · exact absurd (h0.symm.trans hlive) (by decide)

theorem exec_ringColl_accepted {u : State}
    (hok : s.collAccept (s.ctx (bits w 64 6)).owner (bits w 64 6) (bits w 128 64) 0 0 true (some (ringId r n)) = .ok u) :
    exec (.ringColl r .clean) s = .next (ringStarted u r n w rest .coll) := by
  change execRingColl r .clean s = _
  refine (ringGo_head h (by rw [hop]; rfl) _).trans ?_
  dsimp only
  rw [if_neg (ringColl_context_free hidle), State.eccRead_clean, ite_self]
  dsimp only
  rw [hok]

theorem exec_ringColl_refused {k : Nat}
    (herr : s.collAccept (s.ctx (bits w 64 6)).owner (bits w 64 6) (bits w 128 64) 0 0 true (some (ringId r n)) = .error k) :
    exec (.ringColl r .clean) s = .next (ringStarted s r n w rest (.done 1 k)) := by
  change execRingColl r .clean s = _
  refine (ringGo_head h (by rw [hop]; rfl) _).trans ?_
  dsimp only
  rw [if_neg (ringColl_context_free hidle), State.eccRead_clean, ite_self]
  dsimp only
  rw [herr]

end

theorem exec_ringPoolFree (hop : ringOp w = 4) (hone : bits w 72 4 = 1) :
    let a := s.poolFreeBuf (bits w 64 6) ownerHost (bits w 96 32)
    exec (.ringPoolFree r) s = .next (ringStarted a.state r n w rest (.done 0 (if a.code = 4 then 1 else 0))) := by
  intro a
  change execRingPoolFree r s = _
  refine (ringGo_head h (by rw [hop]; rfl) _).trans ?_
  dsimp only
  rw [hone]
  have hcode : 0 + b2n (a.code == 4) = if a.code = 4 then 1 else 0 := by
    by_cases hc : a.code = 4 <;> simp [hc, b2n]
  rw [← hcode]
  rfl

end

/-! ### Completion (R408 to R410) -/

theorem hostRing_setHostRing_same (s : State) (r : Nat) (x : RingSt) : (s.setHostRing r x).hostRing r = x := get_set_same ..

/-- The 32 bytes of a completion record. -/
def ringRecord (n e op st user result now : Nat) : List Byte :=
  leBytes 32 (n + ((n / e + 1) % 2) * 2 ^ 32 + op * 2 ^ 40 + st * 2 ^ 48 + user * 2 ^ 64 + (result % 2 ^ 64) * 2 ^ 128
    + (now % 2 ^ 64) * 2 ^ 192)

/-- The record of a command that is no longer listed goes to the host, by the descriptor `d` of its ring. -/
def ringReports (v : State) (r n d op user st result : Nat) : State :=
  v.sendReq (v.ringQp r) 2 r (bits d 128 64 + 32 * (n % 2 ^ bits d 12 4)) 32 (ringRecord n (2 ^ bits d 12 4) op st user result v.now)

theorem exec_ringCompletion_eq {s : State} {r n st result : Nat} {k : RingRun} (hr : r < 64)
    (hfind : (s.hostRing r).runs.find? (fun k => k.n == n) = some k) (hout : s.ringOutcome r k = some (st, result))
    (hloud : k.silent = false) :
    let x := s.hostRing r
    let u := s.setHostRing r { x with runs := x.runs.filter fun y => y.n != n }
    exec (.ringCompletion r n) s = .next (ringReports { u with ringDone := u.ringDone.filter fun y => y.1 != ringId r n }
      r n x.desc k.op k.user st result) := by
  intro x u
  change execRingCompletion r n s = _
  unfold execRingCompletion
  rw [if_neg (by omega)]
  dsimp only
  split
  · next h => exact absurd (h.symm.trans hfind) (by simp)
  · next h =>
    obtain rfl := Option.some.inj (h.symm.trans hfind)
    split
    · next h => exact absurd (h.symm.trans hout) (by simp)
    · next h =>
      obtain ⟨rfl, rfl⟩ := Prod.mk.inj (Option.some.inj (h.symm.trans hout))
      rw [if_neg (by simp [hloud])]
      rfl

theorem ringQp_withRingDone (u : State) (x : List (Nat × Nat × Nat)) (r : Nat) :
    ({ u with ringDone := x } : State).ringQp r = u.ringQp r := rfl

theorem now_withRingDone (u : State) (x : List (Nat × Nat × Nat)) : ({ u with ringDone := x } : State).now = u.now := rfl

theorem now_setHostRing (s : State) (r : Nat) (x : RingSt) : (s.setHostRing r x).now = s.now := State.wrFld_now ..

/-! ### Start, stop and poll (R406, R414) -/

theorem exec_ringStart {s : State} {r : Nat} (hr : r < 64) (hmode : s.ringMode r = 0) (hruns : (s.hostRing r).runs = [])
    (hqueue : (s.hostRing r).queue = []) (hdesc : ringDescOk (s.rd Obj.ringDesc r) = true)
    (hready : s.qpState (bits (s.rd Obj.ringDesc r) 0 9) = 1) : ∃ t, exec (.ringStart r) s = .next t ∧ t.ringMode r = 1 ∧
      t.hostRing r = { RingSt.init with desc := s.rd Obj.ringDesc r } ∧ t.rd Obj.ringCmd 0 = 1 := by
  obtain ⟨x, hx⟩ : ∃ x : RingSt, x = { RingSt.init with desc := s.rd Obj.ringDesc r } := ⟨_, rfl⟩
  have hexec : exec (.ringStart r) s = .next (((s.setHostRing r x).wr Obj.ringState r 1).wr Obj.ringCmd 0 1) := by
    change execRingStart r s = _
    unfold execRingStart
    rw [if_neg (by omega)]
    dsimp only
    rw [if_neg (by simp [hmode, hruns, hqueue]), if_neg (by simp [hdesc]), if_neg (not_not_intro hready), hx]
  refine ⟨_, hexec, ?_, ?_, State.rd_wr_same _ _ _ _ rfl⟩
  · refine (State.fld_wr_obj _ _ _ _ _ _ (by decide)).trans ?_
    unfold State.fld
    rw [State.rd_wr_same _ _ _ _ rfl]
    rfl
  · rw [← hx]
    unfold State.hostRing
    rw [State.wr_hostRings, State.wr_hostRings]
    exact hostRing_setHostRing_same s r x

theorem exec_ringStop {s : State} {r : Nat} (hr : r < 64) (hmode : s.ringMode r ≠ 0) : ∃ t, exec (.ringStop r) s = .next t ∧
    t.ringMode r = 0 ∧ (t.hostRing r).reading = false ∧ t.rd Obj.ringCmd 0 = 1 := by
  obtain ⟨u, hu⟩ : ∃ u : State, u = s.setQp (s.ringQp r) { s.qp (s.ringQp r) with
    reqs := (s.qp (s.ringQp r)).reqs.filter fun q => !(q.ring == r && q.what != 2) } := ⟨_, rfl⟩
  obtain ⟨x, hx⟩ : ∃ x : RingSt, x = { u.hostRing r with reading := false } := ⟨_, rfl⟩
  have hexec : exec (.ringStop r) s = .next (((u.setHostRing r x).wrFld Obj.ringState r 0 2 0).wr Obj.ringCmd 0 1) := by
    change execRingStop r s = _
    unfold execRingStop
    rw [if_neg (by omega), if_neg hmode, hx, hu]
  refine ⟨_, hexec, ?_, ?_, State.rd_wr_same _ _ _ _ rfl⟩
  · exact (State.fld_wr_obj _ _ _ _ _ _ (by decide)).trans (State.fld_wrFld_same _ _ _ _ _ _ rfl)
  · unfold State.hostRing
    rw [State.wr_hostRings, State.wrFld_hostRings]
    rw [show KMap.get (u.setHostRing r x).hostRings RingSt.init r = x from hostRing_setHostRing_same u r x, hx]

section
variable {s : State} {r : Nat} (hr : r < 64) (hmode : s.ringMode r = 1) (hreading : (s.hostRing r).reading = false)
include hr hmode hreading

/-- With nothing waiting, and PI never read since START, a poll reads PI. -/
theorem exec_ringPoll_pi (hwait : (s.fld Obj.ringState r 32 32 + 2 ^ 32 - s.fld Obj.ringState r 64 32) % 2 ^ 32 = 0)
    (hpolled : (s.hostRing r).polled = none) :
    let x := s.hostRing r
    exec (.ringPoll r) s = .next ((s.setHostRing r { x with reading := true, polled := some s.now }).sendReq (bits x.desc 0 9) 0 r
      (bits x.desc 192 64) 4 []) := by
  intro x
  change execRingPoll r s = _
  unfold execRingPoll
  rw [if_neg (by omega)]
  dsimp only
  rw [if_neg (by simp [hmode, hreading]), if_pos hwait, hpolled]
  rfl

/-- Commands that wait are read, at most 16 and not past the end of the ring. -/
theorem exec_ringPoll_commands (hwait : (s.fld Obj.ringState r 32 32 + 2 ^ 32 - s.fld Obj.ringState r 64 32) % 2 ^ 32 ≠ 0) :
    let x := s.hostRing r
    let ci := s.fld Obj.ringState r 64 32
    let wait := (s.fld Obj.ringState r 32 32 + 2 ^ 32 - ci) % 2 ^ 32
    let e := 2 ^ bits x.desc 12 4
    exec (.ringPoll r) s = .next ((s.setHostRing r { x with reading := true }).sendReq (bits x.desc 0 9) 1 r
      (bits x.desc 64 64 + 64 * (ci % e)) (64 * min (min 16 wait) (e - ci % e)) []) := by
  intro x ci wait e
  change execRingPoll r s = _
  unfold execRingPoll
  rw [if_neg (by omega)]
  dsimp only
  rw [if_neg (by simp [hmode, hreading]), if_neg hwait]
  rfl

end

/-- Settles O37: each command by the one fact about the front of a ring, and each act on a ring by the lemma named for it. -/
theorem commandRingsRunTheirCommands : Obligations.CommandRingsRunTheirCommands := by
  intro s r
  refine ⟨fun n w rest h => ⟨exec_ringNop h, exec_ringLaunch h, fun u hop => ?_, exec_ringPower h,
    exec_ringPoolFree h⟩, fun k n st result hr hfind hout hloud => ?_, exec_ringStart, exec_ringStop,
    fun hr hmode hreading => ⟨exec_ringPoll_pi hr hmode hreading, exec_ringPoll_commands hr hmode hreading⟩⟩
  · intro c hidle
    exact ⟨exec_ringColl_accepted h hop hidle, fun k => exec_ringColl_refused h hop hidle⟩
  · intro x e u
    refine (exec_ringCompletion_eq hr hfind hout hloud).trans (congrArg Host.Outcome.next ?_)
    have hring : u.hostRing r = { x with runs := x.runs.filter fun y => y.n != n } := hostRing_setHostRing_same s r _
    have hqp : u.ringQp r = bits x.desc 0 9 := by rw [State.ringQp, hring]
    unfold ringReports
    rw [ringQp_withRingDone, now_withRingDone, hqp, now_setHostRing]
    rfl

end Sys2Proof.Laws
end

section
/-! PROOFS. Requests of an open session are performed (O38); sessions are opened, finished and expire (O39). -/

namespace Sys2Proof.Laws

set_option Elab.async false

open Sys2Proof.Machine

/-! ### Sessions and what leaves them -/

theorem session_setSession_same (s : State) (k : Nat) (x : Option Session) : (s.setSession k x).session k = x := get_set_same ..

theorem session_of_sessions {s t : State} (h : t.sessions = s.sessions) (k : Nat) : t.session k = s.session k :=
  congrArg (KMap.get · none k) h

theorem sessions_cdpCount (s : State) (k : Nat) : (s.cdpCount k).sessions = s.sessions := by
  unfold State.cdpCount State.inc
  extract_lets
  split
  · exact State.wrFld_sessions ..
  · exact (State.drawn_sessions ..).trans (State.wrFld_sessions ..)

theorem sessions_cdpSend (s s0 : State) (m : CdpMsg) (key : Option Nat) (bs : List Byte) :
    (s.cdpSend s0 m key bs).sessions = s.sessions := by
  unfold State.cdpSend
  extract_lets all
  exact ite_sat (Q := fun u : State => u.sessions = s.sessions) rfl
    (ite_sat (Q := fun u : State => u.sessions = s.sessions) rfl rfl)

/-! ### A request of an open session (R422, R423) -/

/-- The session as the request leaves it. -/
theorem session_requestTaken (s : State) (m : CdpMsg) (x : Session) :
    (requestTaken s m x).session m.session = some { x with last := s.now, high := m.seq } :=
  (session_of_sessions (sessions_cdpCount ..) _).trans (session_setSession_same ..)

section
variable {s : State} {m : CdpMsg} {x : Session} (h : OpenRequest s m x)
include h

/-- An open session's request is performed, in the state that has taken it. -/
theorem cdpRequest_open (hop : m.op ≠ opSessionFinish) (perform : State → Res) :
    s.cdpRequest m perform = perform (requestTaken s m x) := by
  obtain ⟨harrives, hroom, hmagic, hsession, hfinished, htag, hformed, hseq, hfactory⟩ := h
  have hfilter : (s.session m.session).filter (·.finished) = some x := by
    rw [hsession]
    exact if_pos hfinished
  have hmay : (x.factory && !factoryMay m) = false := by
    cases hx : x.factory
    · rfl
    · simp [hfactory hx]
  unfold State.cdpRequest
  rw [if_neg (by simp [harrives]), if_neg (by simp [hroom]), if_neg (not_not_intro hmagic), hfilter]
  dsimp only
  rw [if_neg hop, if_neg (by simp [htag]), if_neg (by simp [hformed])]
  unfold State.cdpInSession State.cdpBySeq
  dsimp only
  rw [if_pos (by simpa using hseq), hmay]
  rfl

/-- A request other than WRITE is answered with what its operation gives. -/
theorem cdpOther_open {op : Nat} (hop : m.op = op) (hnot : op ≠ opSessionFinish) :
    s.cdpOther op m = .next ((requestTaken s m x).cdpAnswer m (some x.key) ((requestTaken s m x).cdpPerform m)) := by
  unfold State.cdpOther
  rw [if_neg (not_not_intro hop), cdpRequest_open h (hop ▸ hnot), session_requestTaken]
  rfl

theorem exec_cdpRead (hop : m.op = 1) :
    let t := requestTaken s m x
    let r := t.readObject m.code m.index m.offset m.len
    exec (.cdpRead m) s = .next (t.cdpAnswer m (some x.key) ⟨r.1, m.session, r.2, t⟩) := by
  intro t r
  have hperform : t.cdpPerform m = ⟨r.1, m.session, r.2, t⟩ := if_pos hop
  change execCdpRead m s = _
  unfold execCdpRead
  rw [if_pos (by rw [hop]; rfl)]
  exact (cdpOther_open h (hop : m.op = opRead) (by decide)).trans
    (congrArg (fun a => Host.Outcome.next (t.cdpAnswer m (some x.key) a)) hperform)

theorem exec_describe {o : ObjInfo} (hop : m.op = 3) (ho : objInfo m.code = some o)
    (hhere : (requestTaken s m x).objHere m.code = true) :
    let t := requestTaken s m x
    exec (.describe m) s = .next (t.cdpAnswer m (some x.key) ⟨0, m.session, t.describeBytes o, t.drawn⟩) := by
  intro t
  have hperform : t.cdpPerform m = ⟨0, m.session, t.describeBytes o, t.drawn⟩ := by
    unfold State.cdpPerform
    rw [hop, ho]
    exact if_pos hhere
  exact (cdpOther_open h (hop : m.op = opDescribe) (by decide)).trans
    (congrArg (fun a => Host.Outcome.next (t.cdpAnswer m (some x.key) a)) hperform)

theorem exec_cdpNext {c : ObjCode} (hop : m.op = 4) (hc : (requestTaken s m x).nextObject m.code = some c) (hsession : m.session ≠ 0) :
    let t := requestTaken s m x
    exec (.cdpNext m) s = .next (t.cdpAnswer m (some x.key) ⟨0, m.session, beBytes 3 c, t⟩) := by
  intro t
  have hperform : t.cdpPerform m = ⟨0, m.session, beBytes 3 c, t⟩ := by
    unfold State.cdpPerform
    rw [hop, hc]
    exact if_neg (not_and_of_not_left _ hsession)
  exact (cdpOther_open h (hop : m.op = opNext) (by decide)).trans
    (congrArg (fun a => Host.Outcome.next (t.cdpAnswer m (some x.key) a)) hperform)

theorem exec_nvWrite (hop : m.op = 0x10) :
    let t := requestTaken s m x
    let r := t.nvSet m.code m.index m.offset m.payload
    exec (.nvWrite m) s = .next (t.cdpAnswer m (some x.key) ⟨r.1, m.session, [], r.2⟩) := by
  intro t r
  have hperform : t.cdpPerform m = ⟨r.1, m.session, [], r.2⟩ := by
    unfold State.cdpPerform
    rw [hop]
    rfl
  exact (cdpOther_open h (hop : m.op = opNvWrite) (by decide)).trans
    (congrArg (fun a => Host.Outcome.next (t.cdpAnswer m (some x.key) a)) hperform)

theorem exec_nvErase (hop : m.op = 0x11) :
    let t := requestTaken s m x
    let r := t.nvUnset m.code m.index m.offset m.len
    exec (.nvErase m) s = .next (t.cdpAnswer m (some x.key) ⟨r.1, m.session, [], r.2⟩) := by
  intro t r
  have hperform : t.cdpPerform m = ⟨r.1, m.session, [], r.2⟩ := by
    unfold State.cdpPerform
    rw [hop]
    rfl
  exact (cdpOther_open h (hop : m.op = opNvErase) (by decide)).trans
    (congrArg (fun a => Host.Outcome.next (t.cdpAnswer m (some x.key) a)) hperform)

theorem exec_imageWrite (hop : m.op = 0x30) :
    let t := requestTaken s m x
    let r := t.imageWrite m.offset m.payload
    exec (.imageWrite m) s = .next (t.cdpAnswer m (some x.key) ⟨r.1, m.session, [], r.2⟩) := by
  intro t r
  have hperform : t.cdpPerform m = ⟨r.1, m.session, [], r.2⟩ := by
    unfold State.cdpPerform
    rw [hop]
    rfl
  exact (cdpOther_open h (hop : m.op = opImageWrite) (by decide)).trans
    (congrArg (fun a => Host.Outcome.next (t.cdpAnswer m (some x.key) a)) hperform)

theorem exec_sessionClose (hop : m.op = 0x22) :
    let t := requestTaken s m x
    exec (.sessionClose m) s = .next (t.cdpAnswer m (some x.key) ⟨0, m.session, [], t.setSession m.session none⟩) := by
  intro t
  have hperform : t.cdpPerform m = ⟨0, m.session, [], t.setSession m.session none⟩ := by
    unfold State.cdpPerform
    rw [hop]
    rfl
  exact (cdpOther_open h (hop : m.op = opSessionClose) (by decide)).trans
    (congrArg (fun a => Host.Outcome.next (t.cdpAnswer m (some x.key) a)) hperform)

/-! ### WRITE (R419 to R421) -/

section
variable (hop : m.op = 2) (fed : Nat) (reachable : Bool) (ecc : Ecc)
include hop

theorem exec_cdpWrite_open : exec (.cdpWrite m fed reachable ecc) s =
    (requestTaken s m x).cdpPerformWrite m (some x.key) x.owner reachable fed ecc := by
  have hwrite : m.op = opWrite := hop
  change execCdpWrite m fed reachable ecc s = _
  unfold execCdpWrite
  rw [if_neg (not_not_intro hwrite), cdpRequest_open h (by rw [hop]; decide)]
  dsimp only
  rw [session_requestTaken]
  rfl

variable {o : ObjInfo} (ho : objInfo m.code = some o) (hhere : (requestTaken s m x).objHere m.code = true)
include ho hhere

theorem exec_cdpWrite_object (hcmd : o.access ≠ .cmd) :
    let t := requestTaken s m x
    let r := t.writeObject o m.index m.offset m.payload
    exec (.cdpWrite m fed reachable ecc) s = .next (t.cdpAnswer m (some x.key) ⟨r.1, m.session, [], r.2⟩) := by
  intro t r
  rw [exec_cdpWrite_open h hop]
  unfold State.cdpPerformWrite
  dsimp only
  rw [ho]
  dsimp only
  rw [if_neg (by simp [hhere]), if_neg hcmd]

variable (hcmd : o.access = .cmd)
include hcmd

theorem exec_cdpWrite_action {f : State → Res} {u : State}
    (haction : (requestTaken s m x).writeCmd o m.index m.offset m.payload x.owner reachable fed ecc = (0, some f))
    (hf : f (requestTaken s m x) = .next u) :
    exec (.cdpWrite m fed reachable ecc) s = .next ((requestTaken s m x).cdpAnswer m (some x.key) ⟨0, m.session, [], u⟩) := by
  rw [exec_cdpWrite_open h hop]
  unfold State.cdpPerformWrite
  dsimp only
  rw [ho]
  dsimp only
  rw [if_neg (by simp [hhere]), if_pos hcmd, haction]
  dsimp only
  rw [hf]

theorem exec_cdpWrite_noAction {k : Nat}
    (haction : (requestTaken s m x).writeCmd o m.index m.offset m.payload x.owner reachable fed ecc = (k, none)) :
    exec (.cdpWrite m fed reachable ecc) s =
      .next ((requestTaken s m x).cdpAnswer m (some x.key) ⟨k, m.session, [], requestTaken s m x⟩) := by
  rw [exec_cdpWrite_open h hop]
  unfold State.cdpPerformWrite
  dsimp only
  rw [ho]
  dsimp only
  rw [if_neg (by simp [hhere]), if_pos hcmd, haction]

end

end

/-- Settles O38: the request is taken once, and its operation gives the answer. -/
theorem dictionaryRequestsArePerformed : Obligations.DictionaryRequestsArePerformed := by
  intro s m x h t ans
  exact ⟨exec_cdpRead h, fun o fed reachable ecc hop ho hhere hcmd => exec_cdpWrite_object h hop fed reachable ecc ho hhere hcmd,
    fun o fed reachable ecc hop ho hhere hcmd =>
      ⟨fun f u haction hf => exec_cdpWrite_action h hop fed reachable ecc ho hhere hcmd haction hf,
        fun k haction => exec_cdpWrite_noAction h hop fed reachable ecc ho hhere hcmd haction⟩,
    fun o hop ho hhere => exec_describe h hop ho hhere, fun c hop hc hsession => exec_cdpNext h hop hc hsession,
    exec_nvWrite h, exec_nvErase h, exec_imageWrite h, exec_sessionClose h⟩

/-! ### Opening and finishing a session (R510) -/

theorem exec_sessionOpen {s : State} {m : CdpMsg} (harrives : s.cdpArrives m = true) (hroom : m.room = true)
    (hmagic : bits m.hdr 240 16 = 0xCD50) (hzero : m.session = 0) (hnone : s.session 0 = none) (hformed : msgFormed m = true)
    (hop : m.op = 0x20) (htag : m.tag = none) (hseq : ∀ h, (s.source m).high = some h → h < m.seq) :
    let t := (s.setSource { s.source m with high := some m.seq }).cdpCount 0
    let r := t.sessionOpen m
    exec (.sessionOpen m) s = .next (t.cdpAnswer m none ⟨r.1, r.2.1, r.2.2.1, r.2.2.2⟩) := by
  intro t r
  have hfilter : (s.session m.session).filter (·.finished) = none := by
    rw [hzero, hnone]
    rfl
  have hsession : (t.session m.session).map (·.key) = none := by
    rw [hzero, session_of_sessions (sessions_cdpCount ..), show (s.setSource _).session 0 = none from hnone]
    rfl
  have hperform : t.cdpPerform m = ⟨r.1, r.2.1, r.2.2.1, r.2.2.2⟩ := by
    unfold State.cdpPerform
    rw [hop]
    exact if_neg (not_not_intro hzero)
  have hmay : sessionlessMay m = true := by
    unfold sessionlessMay
    rw [hop]
    rfl
  have hopens : m.op = opSessionOpen := hop
  change State.cdpOther s opSessionOpen m = _
  unfold State.cdpOther State.cdpRequest
  rw [if_neg (not_not_intro hopens), if_neg (by simp [harrives]), if_neg (by simp [hroom]),
    if_neg (not_not_intro hmagic), hfilter]
  dsimp only
  rw [if_neg (by simp [hformed]), if_neg (by rw [hop]; decide), if_neg (not_not_intro hzero)]
  unfold State.cdpSessionless State.cdpBySeq
  rw [if_neg (by simp [htag])]
  dsimp only
  rw [if_pos, if_pos hmay]
  · rw [← hperform, ← hsession]
  · split
    · next h heq => exact decide_eq_true (hseq h heq)
    · rfl

/-- A session opened with the owner's key, or in FACTORY with any, waits in the lowest free place. -/
theorem sessionOpen_free {s : State} {m : CdpMsg} {k : Nat} (hk : (List.range 16).find? (fun k => (s.session (k + 1)).isNone) = some k)
    (hlen : m.payload.length = 130) (h0 : m.payload.getD 0 0 = 4#8) (h65 : m.payload.getD 65 0 = 4#8)
    (hkey : s.ownerKey = 0 ∨ leCode ((m.payload.drop 1).take 64) = s.ownerKey) :
    (s.sessionOpen m).1 = 0 ∧ (s.sessionOpen m).2.1 = k + 1 ∧
      ((s.sessionOpen m).2.2.2.session (k + 1)).map (fun x => (x.finished, x.since, x.factory)) =
        some (false, s.now, s.ownerKey == 0) := by
  have hauth : (s.ownerKey == 0 || leCode ((m.payload.drop 1).take 64) == s.ownerKey ||
      s.operatorKeys.contains (leCode ((m.payload.drop 1).take 64))) = true := by
    rcases hkey with h | h
    · simp [h]
    · rw [beq_iff_eq.mpr h, Bool.or_true]
      rfl
  unfold State.sessionOpen
  dsimp only
  rw [hk]
  dsimp only
  rw [if_neg (by rw [hlen, h0, h65]; decide), if_neg (by rw [hauth]; decide)]
  refine ⟨rfl, rfl, ?_⟩
  dsimp only
  rw [session_of_sessions (State.drawn_sessions ..), session_setSession_same]
  rfl

section
variable {s : State} {m : CdpMsg} {x : Session} (harrives : s.cdpArrives m = true) (hroom : m.room = true)
  (hmagic : bits m.hdr 240 16 = 0xCD50) (hsession : s.session m.session = some x) (hopen : x.finished = false)
  (hformed : msgFormed m = true) (hop : m.op = 0x21) (htag : m.tag = none) (hlen : m.payload.length = 32)
include harrives hroom hmagic hsession hopen hformed hop htag hlen

theorem exec_sessionFinish : exec (.sessionFinish m) s =
    if m.payload ≠ leBytes 32 x.s1 then .next (s.setSession m.session none)
    else .next (((s.setSession m.session (some { x with finished := true, last := s.now })).cdpCount 0).cdpSend
      ((s.setSession m.session (some { x with finished := true, last := s.now })).cdpCount 0) m (some x.key)
      (beBytes 32 (cdpReplyHdr m true false cdpOk m.session 0))) := by
  have hfilter : (s.session m.session).filter (·.finished) = none := by
    rw [hsession]
    exact if_neg (by simp [hopen])
  have hfinishes : m.op = opSessionFinish := hop
  change execSessionFinish m s = _
  unfold execSessionFinish State.cdpRequest
  rw [if_neg (not_not_intro hfinishes), if_neg (by simp [harrives]), if_neg (by simp [hroom]),
    if_neg (not_not_intro hmagic), hfilter]
  dsimp only
  rw [if_neg (by simp [hformed]), if_pos hfinishes, hsession]
  dsimp only
  rw [if_neg (by simp [htag, hlen])]

theorem exec_sessionFinish_right (hproof : m.payload = leBytes 32 x.s1) : ∃ t, exec (.sessionFinish m) s = .next t ∧
    t.session m.session = some { x with finished := true, last := s.now } := by
  refine ⟨_, (exec_sessionFinish harrives hroom hmagic hsession hopen hformed hop htag hlen).trans
    (if_neg (not_not_intro hproof)), ?_⟩
  rw [session_of_sessions (sessions_cdpSend ..), session_of_sessions (sessions_cdpCount ..), session_setSession_same]

theorem exec_sessionFinish_wrong (hproof : m.payload ≠ leBytes 32 x.s1) :
    exec (.sessionFinish m) s = .next (s.setSession m.session none) :=
  (exec_sessionFinish harrives hroom hmagic hsession hopen hformed hop htag hlen).trans (if_pos hproof)

end

/-! ### Expiry and the core's own window -/

theorem exec_cdpIdleExpiry {s : State} {k : Nat} {x : Session} (hk : s.session k = some x) (hfinished : x.finished = true)
    (hdue : x.last + s.fld Obj.cdpConfig 0 16 16 * 10 ^ 9 ≤ s.now) :
    exec (.cdpIdleExpiry k) s = .next (s.setSession k none) := by
  change execCdpIdleExpiry k s = _
  unfold execCdpIdleExpiry
  rw [hk]
  exact congrArg Host.Outcome.next (if_pos (by rw [hfinished, decide_eq_true hdue]; rfl))

theorem exec_sessionFinishTimeout {s : State} {k : Nat} {x : Session} (hk : s.session k = some x) (hopen : x.finished = false)
    (hdue : x.since + 100000000 ≤ s.now) : exec (.sessionFinishTimeout k) s = .next (s.setSession k none) := by
  change execSessionFinishTimeout k s = _
  unfold execSessionFinishTimeout
  rw [hk]
  exact congrArg Host.Outcome.next (if_pos (by rw [hopen, decide_eq_true hdue]; rfl))

theorem exec_registerWrite {s : State} {obj : ObjCode} {o : ObjInfo} (ho : objInfo obj = some o) (halive : s.hostAlive = true)
    (hcmd : o.access ≠ .cmd) (hhere : s.objHere obj = true) (index offset : Nat) (data : List Byte) :
    exec (.registerWrite obj index offset data) s =
      .next ((s.writeObject o index offset data).2.send (.status (s.writeObject o index offset data).1)) := by
  change execRegisterWrite obj index offset data s = _
  unfold execRegisterWrite
  rw [ho]
  dsimp only
  rw [if_neg (by simp [halive, hcmd]), if_neg (by simp [hhere])]

/-- Settles O39: the form of a message decides, by the lemmas above, what becomes of its session. -/
theorem sessionsOpenFinishAndExpire : Obligations.SessionsOpenFinishAndExpire := by
  intro s
  refine ⟨fun m => exec_sessionOpen, fun m k => sessionOpen_free,
    fun m x harrives hroom hmagic hsession hopen hformed hop htag hlen =>
      ⟨exec_sessionFinish_right harrives hroom hmagic hsession hopen hformed hop htag hlen,
        exec_sessionFinish_wrong harrives hroom hmagic hsession hopen hformed hop htag hlen⟩,
    fun k x => exec_cdpIdleExpiry, fun k x => exec_sessionFinishTimeout,
    fun obj o index offset data ho halive hcmd hhere => exec_registerWrite ho halive hcmd hhere index offset data⟩

end Sys2Proof.Laws
end

section
/-! PROOFS. Marshal's heartbeats, probes, reports and scores (O41). -/

namespace Sys2Proof.Laws

set_option Elab.async false

open Sys2Proof.Machine

/-! ### Messages -/

/-- A message of a type that has come to a module that takes part passes the first test of its command. -/
theorem message_taken {s : State} {f : Frame} {k : Nat} (h : s.message f k = true) : ¬(!s.message f k) = true := by simp [h]

/-- What a spoilt message has against it (R12, R444). -/
theorem isMsg_of_spoilt {f : Frame} (hspoilt : msgSpoilt f = true) {k : Nat} (hk : 0 < k ∧ k ≤ 0x13)
    (hreport : k = 4 → reportSpoilt f = false) : isMsg f k = false := by
  by_contra hmsg
  rw [Bool.not_eq_false] at hmsg
  simp only [isMsg, Bool.and_eq_true, beq_iff_eq] at hmsg
  obtain ⟨⟨⟨-, -⟩, htype⟩, hreserved⟩ := hmsg
  simp only [msgSpoilt, Bool.or_eq_true, beq_iff_eq, decide_eq_true_eq, bne_iff_ne, Bool.and_eq_true, htype, hreserved] at hspoilt
  obtain ((h | h) | h) | ⟨h, hspoilt⟩ := hspoilt
  · omega
  · omega
  · exact h rfl
  · exact absurd ((hreport h).symm.trans hspoilt) (by decide)

theorem passMessage_spoilt {s : State} {f : Frame} (hon : s.marshalOn = true) (hme : s.forMe f = true) (hclass : f.bclass = 0)
    (hkind : msgKind f = 0xA0) (hspoilt : msgSpoilt f = true) :
    s.passMessage f = s.setMarshal { s.marshal with discarded := s.marshal.discarded + 1 } :=
  if_pos (by simp [hon, hme, hclass, hkind, hspoilt])

theorem passMessage_sound {s : State} {f : Frame} (hsound : msgSpoilt f = false) : s.passMessage f = s := if_neg (by simp [hsound])

theorem message_of_not_isMsg {s : State} {f : Frame} {k : Nat} (h : isMsg f k = false) : s.message f k = false := by
  simp [State.message, h]

/-! ### What is sent when it is due -/

section
variable {s : State} (hon : s.marshalOn = true)
include hon

theorem exec_heartbeatSend (hid : s.devId ≠ 0xFFFF) (hdue : s.marshal.beatSent + 50000 ≤ s.now) :
    let u := s.setMarshal { s.marshal with beatSent := s.now }
    exec .heartbeatSend s = .next (u.tellManagers 0x01 u.devId (leBytes 8 (u.service + u.ident.grade * 2 ^ 8
      + b2n ((s.powerEntry.map (·.waiting)).getD false) * 2 ^ 16 + b2n u.repro * 2 ^ 17))) := by
  intro u
  change execHeartbeatSend s = _
  unfold execHeartbeatSend
  rw [if_neg (by simp [hon, hid]; omega)]
  cases s.powerEntry <;> rfl

theorem exec_reportSend (hid : s.devId ≠ 0xFFFF) (hdue : s.marshal.reportSent + 10000000 ≤ s.now) :
    let es := s.reportEntries
    let late := (s.listed Obj.lateByDest).foldl (fun m d =>
      let cut := s.fld Obj.lateByDest d 64 64
      KMap.set m (0, 0) d (s.fld Obj.lateByDest d 0 64 - cut, cut)) s.marshal.lateTold
    let u := (reportFrames (es.length + 1) es).foldl (fun u bs => u.tellManagers 0x04 0xFFFF bs) s
    let v : State := { u.setMarshal { u.marshal with reportSent := u.now, lateTold := late, ceTold := u.corrected } with
      reports := [], scratchSeen := [] }
    exec .reportSend s = .next (if v.marshal.role = 0 then v else (v.charge v.devId es).seenScratched s.scratchSeen) := by
  intro es late u v
  change execReportSend s = _
  unfold execReportSend
  rw [if_neg (by simp [hon, hid]; omega)]
  exact congrArg Host.Outcome.next (if_congr beq_iff_eq rfl rfl)

theorem exec_helloSend (hid : s.devId = 0xFFFF) (hdue : s.marshal.helloSent + 10000000 ≤ s.now) :
    let bs := leBytes 16 s.ident.serial ++ leBytes 1 s.ident.grade
    exec .helloSend s = .next (((List.range 64).filter fun p => s.portState p == portUp).foldl
      (fun u p => u.tellPort p 0x0D 0xFFFF u.now bs) (s.setMarshal { s.marshal with helloSent := s.now })) := by
  intro bs
  change execHelloSend s = _
  unfold execHelloSend
  rw [if_neg (by simp [hon, hid]; omega)]
  rfl

theorem exec_restQueryRetry {d t : Nat} (hat : (s.watch d).restAt = some t) (hmanager : s.isManager = true)
    (hlive : memLive (s.memState d) = true) (hdue : t + 10000000 ≤ s.now) :
    exec (.restQueryRetry d) s = .next (s.restQuery d) := by
  change execRestQueryRetry d s = _
  unfold execRestQueryRetry
  rw [hat]
  exact congrArg Host.Outcome.next (if_pos (by rw [hon, hmanager, hlive, decide_eq_true hdue]; rfl))

end

/-! ### Suspects (R446) -/

section
variable {s : State} {d : Nat} (htracks : s.tracks d = true)
include htracks

theorem exec_heartbeatMiss (hdue : (s.watch d).beat + 60000 + 50000 * (s.watch d).misses ≤ s.now) :
    let u := s.setWatch d { s.watch d with misses := (s.watch d).misses + 1 }
    exec (.heartbeatMiss d) s = .next (if (s.watch d).misses = 3 ∧ (s.watch d).suspect = false then u.makeSuspect d else u) := by
  intro u
  change execHeartbeatMiss d s = _
  unfold execHeartbeatMiss
  rw [if_neg (by simp [htracks]; omega)]
  exact congrArg Host.Outcome.next (if_congr (by simp) rfl rfl)

variable {t : Nat} (hprobe : (s.watch d).probe = some t) (hsuspect : (s.watch d).suspect = true)
include hprobe hsuspect

theorem exec_probeRelayTimeout (hrelayed : (s.watch d).relayed = false) (hdue : t + 100000 ≤ s.now) :
    let u := s.setWatch d { s.watch d with relayed := true }
    exec (.probeRelayTimeout d) s = .next ((u.neighbours d).foldl (fun s n => s.tell n 0x02 d 0 []) u) := by
  intro u
  change execProbeRelayTimeout d s = _
  unfold execProbeRelayTimeout
  dsimp only
  split
  · next h =>
    obtain rfl := Option.some.inj (h.symm.trans hprobe)
    rw [if_neg (by simp [htracks, hsuspect, hrelayed]; omega)]
  · next h => exact absurd (h.symm.trans hprobe) (by simp)

theorem exec_probeFailTimeout (hdue : t + 200000 ≤ s.now) : exec (.probeFailTimeout d) s = .next (s.decideScratch [d] 1) := by
  change execProbeFailTimeout d s = _
  unfold execProbeFailTimeout
  dsimp only
  rw [hprobe]
  dsimp only
  rw [if_neg (by simp [htracks, hsuspect]; omega)]

end

/-! ### What arrives (R446, R453, R468) -/

/-- What a heartbeat that has been noted in `u` does: the manager serves a module that asks for DEEP REST, or ends its rest. -/
theorem heartbeat_outcome (u : State) (d p : Nat) :
    (if !u.isManager then Host.Outcome.next u
      else if p.testBit 16 && u.memState d != memResting && (u.watch d).restAt.isNone then .next (u.restQuery d)
      else if !p.testBit 16 && u.memState d == memResting then .next (u.setMem d (u.watch d).back)
      else if !p.testBit 16 then .next (u.setWatch d { u.watch d with restAt := none, restWait := [], restBusy := false })
      else .next u : Res) =
    .next (if u.isManager = false then u
      else if p.testBit 16 then (if u.memState d ≠ memResting ∧ (u.watch d).restAt = none then u.restQuery d else u)
      else if u.memState d = memResting then u.setMem d (u.watch d).back
      else u.setWatch d { u.watch d with restAt := none, restWait := [], restBusy := false }) := by
  cases hmanager : u.isManager
  · rfl
  · cases hask : p.testBit 16
    · by_cases hresting : u.memState d = memResting <;> simp [hresting]
    · by_cases hresting : u.memState d ≠ memResting ∧ (u.watch d).restAt = none
      · simp [hresting]
      · rw [if_neg (by decide), if_neg (by simpa using hresting), if_neg (by simp), if_neg (by decide), if_neg (by decide), if_pos rfl,
          if_neg hresting]

theorem exec_heartbeatMsg {s : State} {f : Frame} (hmsg : s.message f 0x01 = true) (hrole : s.marshal.role ≠ 0)
    (hsender : s.senderOf f.src < 0x1000) (hrelayed : s.unrelayed (s.senderOf f.src) = false) :
    let d := s.senderOf f.src
    let p := leCode (sliceBytes f.payload 0 8)
    let u := (s.noteBeat d p).clearSuspect d
    exec (.heartbeatMsg f) s = .next (if u.isManager = false then u
      else if p.testBit 16 then (if u.memState d ≠ memResting ∧ (u.watch d).restAt = none then u.restQuery d else u)
      else if u.memState d = memResting then u.setMem d (u.watch d).back
      else u.setWatch d { u.watch d with restAt := none, restWait := [], restBusy := false }) := by
  intro d p u
  have hfar : decide (0x1000 ≤ s.senderOf f.src) = false := decide_eq_false (Nat.not_le.mpr hsender)
  change execHeartbeatMsg f s = _
  unfold execHeartbeatMsg
  dsimp only
  rw [if_neg (by rw [hfar, hmsg, hrelayed, beq_eq_false_iff_ne.mpr hrole]; decide)]
  exact heartbeat_outcome u d p

theorem exec_probeMsg_subject {s : State} {f : Frame} (hmsg : s.message f 0x02 = true) (hme : msgSubject f = s.devId) :
    exec (.probeMsg f) s = .next ((s.send (.frame (s.msgFrame
      (if s.isManager then s.marshal.standby else s.marshal.manager) false 0x03 s.devId 0 (msgTime f) []))).msgSent) := by
  change execProbeMsg f s = _
  unfold execProbeMsg
  rw [if_neg (message_taken hmsg)]
  dsimp only
  rw [if_pos hme, hme]

theorem exec_probeMsg_relay {s : State} {f : Frame} (hmsg : s.message f 0x02 = true) (hother : msgSubject f ≠ s.devId) :
    exec (.probeMsg f) s = .next (((List.range 64).filter fun p => s.portState p == portUp && s.portPeer p == msgSubject f).foldl
      (fun s p => s.tellPort p 0x02 (msgSubject f) (msgTime f) []) s) := by
  change execProbeMsg f s = _
  unfold execProbeMsg
  rw [if_neg (message_taken hmsg)]
  exact if_neg hother

theorem exec_probeAckMsg {s : State} {f : Frame} (hmsg : s.message f 0x03 = true) (htracks : s.tracks (s.senderOf f.src) = true) :
    let d := s.senderOf f.src
    exec (.probeAckMsg f) s = .next ((s.setWatch d { s.watch d with beat := s.now }).clearSuspect d) := by
  intro d
  change execProbeAckMsg f s = _
  unfold execProbeAckMsg
  dsimp only
  rw [if_neg (by simp [hmsg, htracks])]

theorem exec_reportMsg {s : State} {f : Frame} (hmsg : s.message f 0x04 = true) (hsound : reportSpoilt f = false)
    (hrole : s.marshal.role ≠ 0) (hrelayed : s.unrelayed (s.senderOf f.src) = false) (l : List Nat) :
    exec (.reportMsg f l) s = .next ((s.charge (s.senderOf f.src) (entriesOf f.payload)).seenScratched l) := by
  change execReportMsg f l s = _
  unfold execReportMsg
  rw [if_neg (by simp [hmsg, hsound, hrole, hrelayed])]

/-- A spoilt message is discarded and counted, whichever command its type names. -/
theorem exec_spoilt {s : State} {f : Frame} (hon : s.marshalOn = true) (hme : s.forMe f = true) (hclass : f.bclass = 0)
    (hkind : msgKind f = 0xA0) (hspoilt : msgSpoilt f = true) :
    ∀ c ∈ [Instr.heartbeatMsg f, .probeMsg f, .probeAckMsg f, .reportMsg f []],
      exec c s = .next (s.setMarshal { s.marshal with discarded := s.marshal.discarded + 1 }) := by
  have hpass : (Host.Outcome.next (s.passMessage f) : Res) = .next (s.setMarshal { s.marshal with discarded := s.marshal.discarded + 1 }) :=
    congrArg Host.Outcome.next (passMessage_spoilt hon hme hclass hkind hspoilt)
  have hnot {k : Nat} (hk : 0 < k ∧ k ≤ 0x13) (hreport : k ≠ 4) : s.message f k = false :=
    message_of_not_isMsg (isMsg_of_spoilt hspoilt hk fun h => absurd h hreport)
  intro c hc
  simp only [List.mem_cons, List.not_mem_nil, or_false] at hc
  obtain rfl | rfl | rfl | rfl := hc
  · change execHeartbeatMsg f s = _
    refine (if_pos ?_).trans hpass
    rw [hnot (by decide) (by decide)]
    rfl
  · change execProbeMsg f s = _
    refine (if_pos ?_).trans hpass
    rw [hnot (by decide) (by decide)]
    rfl
  · change execProbeAckMsg f s = _
    refine (if_pos ?_).trans hpass
    rw [hnot (by decide) (by decide)]
    rfl
  · change execReportMsg f [] s = _
    refine (if_pos ?_).trans hpass
    cases hreport : reportSpoilt f
    · rw [message_of_not_isMsg (isMsg_of_spoilt hspoilt (k := 4) (by decide) fun _ => hreport)]
      rfl
    · simp

/-! ### Scores (R454 to R456) -/

theorem exec_scoreWindowEnd {s : State} (hon : s.marshalOn = true) (hrole : s.marshal.role ≠ 0)
    (hdue : s.marshal.windowAt + 10000000 ≤ s.now) :
    let u := s.scoreAll.setMarshal { s.marshal with windowAt := s.now }
    let c := u.rd Obj.scoreConfig 0
    let order := u.expulsionOrder
    let decided := order.foldl (fun l d => if u.mayExpel (u.epochStep != 0) l d then l ++ [d] else l) []
    let v := (order.filter fun d => !decided.contains d).foldl (fun s d => s.marshalLog 7 d 0) u
    let told := v.marshal.expelled ++ decided.map fun d => (v.rd Obj.expelGroup d, v.now)
    exec .scoreWindowEnd s = .next (if u.isManager = false ∨ bits c 48 8 = 0 ∨ bits c 56 8 = 0 then u
      else if decided = [] then v else (v.setMarshal { v.marshal with expelled := told }).decideScratch decided 5) := by
  intro u c order decided v told
  have hexec : exec .scoreWindowEnd s = if !u.isManager || bits c 48 8 == 0 || bits c 56 8 == 0 then .next u
      else if decided.isEmpty then .next v else .next ((v.setMarshal { v.marshal with expelled := told }).decideScratch decided 5) := by
    change execScoreWindowEnd s = _
    unfold execScoreWindowEnd
    rw [if_neg (by simp [hon, hrole]; omega)]
  rw [hexec]
  by_cases hpassive : u.isManager = false ∨ bits c 48 8 = 0 ∨ bits c 56 8 = 0
  · rw [if_pos hpassive, if_pos (by simpa [or_assoc] using hpassive)]
  · rw [if_neg hpassive, if_neg (by simpa [or_assoc] using hpassive)]
    by_cases hnone : decided = []
    · rw [if_pos hnone, if_pos (List.isEmpty_iff.mpr hnone)]
    · rw [if_neg hnone, if_neg (by simpa [List.isEmpty_iff] using hnone)]

/-- Settles O41: each period, each message and each time limit by the lemma named for its command. -/
theorem marshalBeatsProbesAndScores : Obligations.MarshalBeatsProbesAndScores := by
  refine ⟨fun s hon => ⟨fun hid hdue => ?_, exec_reportSend hon, exec_helloSend hon,
      fun d t hprobe htracks hsuspect => exec_probeRelayTimeout htracks hprobe hsuspect,
      fun d t hat hmanager hlive => exec_restQueryRetry hon hat hmanager hlive⟩,
    fun s => ⟨fun f => exec_heartbeatMsg, fun d htracks => exec_heartbeatMiss htracks,
      fun d t hprobe htracks hsuspect => exec_probeFailTimeout htracks hprobe hsuspect, fun f => exec_probeMsg_subject,
      fun f => exec_probeMsg_relay, fun f => exec_probeAckMsg,
      fun f l hmsg hsound hrole hrelayed => exec_reportMsg hmsg hsound hrole hrelayed l, fun f => exec_spoilt, exec_scoreWindowEnd⟩⟩
  intro u
  rw [exec_heartbeatSend hon hid hdue]
  cases s.powerEntry <;> rfl

end Sys2Proof.Laws
end

section
/-! PROOFS. A module acts on the manager's messages (O42). -/

namespace Sys2Proof.Laws

set_option Elab.async false

open Sys2Proof.Machine

/-! ### The epoch of a message (R450) -/

section
variable {s : State} {f : Frame} {k : Nat} (hmsg : s.message f k = true) (hfrom : fromManager f = true)
include hmsg hfrom

theorem onManager_inForce (hepoch : msgEpoch f = s.epoch) (hnot : s.isManager = false) (act : State → State) :
    s.onManager f k act = .next (act s) := by
  unfold State.onManager
  rw [if_neg (by simp [hmsg, hfrom, hepoch]), if_neg (by simp [hnot]), if_neg (by omega)]

theorem onManager_higher (hepoch : s.epoch < msgEpoch f) (act : State → State) :
    s.onManager f k act = .next (if s.isManager then s.scratch causeManager else act (s.adoptEpoch (msgEpoch f))) := by
  unfold State.onManager
  rw [if_neg (by simp [hmsg, hfrom]; omega), if_pos hepoch, if_pos hepoch]
  exact (apply_ite Host.Outcome.next ..).symm

end

theorem fromManager_of_role {f : Frame} (hrole : msgRole f = 1) : fromManager f = true := by simp [fromManager, hrole]

theorem msgType_of_message {s : State} {f : Frame} {k : Nat} (h : s.message f k = true) : msgType f = k := by
  simp only [State.message, isMsg, Bool.and_eq_true, beq_iff_eq] at h
  obtain ⟨⟨-, ⟨-, htype⟩, -⟩, -⟩ := h
  exact htype

theorem fromManager_of_standby {s : State} {f : Frame} (hmsg : s.message f 0x05 = true) (hrole : msgRole f = 2) :
    fromManager f = true := by simp [fromManager, hrole, msgType_of_message hmsg]

theorem onManager_lower {s : State} {f : Frame} (hsound : msgSpoilt f = false) (k : Nat) (hepoch : msgEpoch f < s.epoch)
    (act : State → State) : s.onManager f k act = .next s := by
  unfold State.onManager
  rw [if_pos (by simp [hepoch]), passMessage_sound hsound]

theorem onManager_of_manager {s : State} {f : Frame} {k : Nat} (h : FromManager s f k) (act : State → State) :
    s.onManager f k act = .next (act s) := by
  obtain ⟨hmsg, hrole, hepoch, hnot⟩ := h
  exact onManager_inForce hmsg (fromManager_of_role hrole) hepoch hnot act

/-! ### The steps (R460) -/

/-- A step's message is acted on once: the step is done in the state that shows it, and acknowledged unless it scratches. -/
theorem onStep_new {s : State} {f : Frame} {k step subject : Nat} (h : StepFrom s f k step subject) {act : State → Bool × State}
    {u : State} (hact : act (inStep s step) = (false, u)) :
    s.onStep f k step subject act = .next (if u.scratched then u else stepTaken u step subject) := by
  obtain ⟨hfrom, hstep, hnew⟩ := h
  refine (onManager_of_manager hfrom _).trans (congrArg Host.Outcome.next ?_)
  dsimp only
  rw [if_neg (not_not_intro hstep), if_neg (by rw [hnew]; decide), ← inStep, hact]
  rfl

section
variable {s : State} {f : Frame}

theorem exec_lostMsg (h : StepFrom s f 0x07 1 0) :
    let ids := u16s f.payload
    let u := ((inStep s 1).doLost ids).wrFld Obj.recoveryState 0 128 16 ids.length
    exec (.lostMsg f) s = .next (if u.scratched then u else if (stepTaken u 1 0).scratched then stepTaken u 1 0
      else (stepTaken u 1 0).quietTold) := by
  intro ids u
  change execLostMsg f s = _
  unfold execLostMsg
  rw [onStep_new h (u := u) rfl]
  by_cases hs : u.scratched = true
  · simp only [if_pos hs]
  · simp only [if_neg hs]

theorem exec_marshalFenceMsg (h : StepFrom s f 0x08 2 (msgSubject f)) :
    let u := if msgSubject f = (inStep s 2).devId then (inStep s 2).scratch causeManager else (inStep s 2).fenceDev (msgSubject f)
    exec (.marshalFenceMsg f) s = .next (if u.scratched then u else stepTaken u 2 (msgSubject f)) := by
  intro u
  change execMarshalFenceMsg f s = _
  unfold execMarshalFenceMsg
  exact onStep_new h rfl

theorem exec_rerouteMsg (h : StepFrom s f 0x0B 6 0) :
    let ids := u16s f.payload
    let u := (inStep s 6).doReroute ((List.range (ids.length / 2)).map fun k => (ids.getD (2 * k) 0, ids.getD (2 * k + 1) 0))
    exec (.rerouteMsg f) s = .next (if u.scratched then u else stepTaken u 6 0) := by
  intro ids u
  change execRerouteMsg f s = _
  unfold execRerouteMsg
  exact onStep_new h rfl

theorem exec_relayedMsg (h : StepFrom s f 0x0C 7 0) :
    let u := (inStep s 7).doRelayed (u16s f.payload)
    exec (.relayedMsg f) s = .next (if u.scratched then u else stepTaken u 7 0) := by
  intro u
  change execRelayedMsg f s = _
  unfold execRelayedMsg
  exact onStep_new h rfl

/-- What RELAY does at a spare in the state that shows the step, and whether it refuses. -/
def relayAct (f : Frame) (rest : List Byte) (t : State) : Bool × State :=
  let bs := f.payload ++ rest
  let ds := (List.range 64).map fun e => leCode (sliceBytes bs (2 + 64 * e) 64)
  let clash := ds.any (·.testBit 0) && (t.poolsMeetGuard || t.windowsMeetGuard || t.redirectsMeetGuard || t.coresMeetGuard)
  if t.service = 1 ∧ t.devId = leCode (bs.take 2) then (false, t)
  else if t.service ≠ 3 ∨ (ds.any (·.testBit 0) && !t.hasCompute) ∨ !ds.all t.relayDescOk ∨ clash then (true, t)
  else
    let u := ds.zipIdx.foldl (fun s p => s.relayDesc p.2 p.1) t
    (false, (u.wr Obj.deviceId 0 (leCode (bs.take 2))).wr Obj.serviceState 0 1)

theorem exec_relayMsg_eq (rest : List Byte) : exec (.relayMsg f rest) s = s.onStep f 0x0A 5 0 (relayAct f rest) := rfl

theorem relayAct_taken {t : State} {rest : List Byte} :
    let bs := f.payload ++ rest
    let ds := (List.range 64).map fun e => leCode (sliceBytes bs (2 + 64 * e) 64)
    t.service = 3 → ds.all t.relayDescOk = true → ds.any (·.testBit 0) = false →
    relayAct f rest t = (false, ((ds.zipIdx.foldl (fun s p => s.relayDesc p.2 p.1) t).wr Obj.deviceId 0 (leCode (bs.take 2))).wr
      Obj.serviceState 0 1) := by
  intro bs ds hservice hall hnone
  unfold relayAct
  extract_lets clash u
  have hclash : clash = false := by
    unfold clash
    rw [hnone, Bool.false_and]
  rw [if_neg (by omega), if_neg]
  rw [hnone, hall, hclash, hservice]
  simp

/-- A spare that can hold the rank's descriptors, none of which is of a group, takes the rank. -/
theorem exec_relayMsg_taken {rest : List Byte} (h : StepFrom s f 0x0A 5 0) :
    let bs := f.payload ++ rest
    let ds := (List.range 64).map fun e => leCode (sliceBytes bs (2 + 64 * e) 64)
    (inStep s 5).service = 3 → ds.all (inStep s 5).relayDescOk = true → ds.any (·.testBit 0) = false →
    let u := ds.zipIdx.foldl (fun s p => s.relayDesc p.2 p.1) (inStep s 5)
    let v := (u.wr Obj.deviceId 0 (leCode (bs.take 2))).wr Obj.serviceState 0 1
    exec (.relayMsg f rest) s = .next (if v.scratched then v else stepTaken v 5 0) := by
  intro bs ds hservice hall hnone u v
  rw [exec_relayMsg_eq]
  exact onStep_new h (relayAct_taken hservice hall hnone)

/-- A spare that has taken the rank in an epoch before has done the step (R462). -/
theorem exec_relayMsg_again {rest : List Byte} (h : StepFrom s f 0x0A 5 0) (hservice : (inStep s 5).service = 1)
    (hid : (inStep s 5).devId = leCode ((f.payload ++ rest).take 2)) : exec (.relayMsg f rest) s =
      .next (if (inStep s 5).scratched then inStep s 5 else stepTaken (inStep s 5) 5 0) := by
  rw [exec_relayMsg_eq]
  exact onStep_new h (if_pos ⟨hservice, hid⟩)

end

/-- Settles O42: the epoch and the role decide whether a message is acted on, and a step's message is acted on once. -/
theorem managerMessagesAreObeyed : Obligations.ManagerMessagesAreObeyed := by
  intro s f
  have suspects (act : Res) (h : s.onManager f 0x05 (fun s => s.holdDev (msgSubject f)) = act) : exec (.suspectMsg f) s = act := h
  refine ⟨fun h => suspects _ (onManager_of_manager h _), fun h => ?_, exec_lostMsg, exec_marshalFenceMsg, exec_rerouteMsg,
    exec_relayedMsg, fun _ => exec_relayMsg_taken, fun _ => exec_relayMsg_again,
    fun hmsg hrole hepoch hnot => suspects _ (onManager_inForce hmsg (fromManager_of_standby hmsg hrole) hepoch hnot _),
    fun hmsg hrole hepoch => suspects _ (onManager_higher hmsg (fromManager_of_role hrole) hepoch _),
    fun hsound _ hepoch => suspects _ (onManager_lower hsound 0x05 hepoch _), fun h => ?_, fun h => ?_⟩
  · change execClearedMsg f s = _
    exact onManager_of_manager h _
  · change execManagerChangeMsg f s = _
    exact onManager_of_manager h _
  · change execRestQueryMsg f s = _
    exact onManager_of_manager h _

end Sys2Proof.Laws
end

section
/-! PROOFS. The manager runs its domain (O43); modules join, take over and rebuild (O44). -/

namespace Sys2Proof.Laws

set_option Elab.async false

open Sys2Proof.Machine

/-! ### Messages to the manager (R460 to R462, R468) -/

section
variable {s : State} (hmanager : s.isManager = true)
include hmanager

theorem exec_stepAckMsg {f : Frame} (hmsg : s.message f 0x09 = true) (hepoch : msgEpoch f = s.epoch) (hstep : msgStep f ≠ 5) :
    exec (.stepAckMsg f) s = .next ((s.setMarshal { s.marshal with acks := (msgStep f * 2 ^ 32
      + ackKey (s.senderOf f.src) (if msgStep f = 2 then msgSubject f else 0)) :: s.marshal.acks }).advanceEpoch) := by
  change execStepAckMsg f s = _
  unfold execStepAckMsg
  rw [if_neg (by simp [hmsg, hmanager, hepoch])]
  exact if_neg fun h => hstep h.2.1

/-- With every acknowledgement in, no module is late, and the epoch alone is raised. -/
theorem exec_stepTimeout (hon : s.marshalOn = true) (hrunning : s.epochStep ≠ 0) (hbounded : s.epochStep ≠ 8)
    (hdue : s.marshal.stepAt + 1000 * s.rd Obj.stepTimeoutUs 0 ≤ s.now) (hnone : s.marshal.awaiting = []) :
    exec .stepTimeout s = .next (s.startEpoch [] false) := by
  change execStepTimeout s = _
  unfold execStepTimeout
  rw [if_neg (by simp [hon, hmanager, hrunning, hbounded]; omega), hnone]
  rfl

theorem exec_rebuiltMsg {f : Frame} (hmsg : s.message f 0x13 = true) :
    let p := leCode (f.payload.take 1)
    let u := s.marshalLog (if bits p 6 2 = 1 then 8 else 9) f.src 0
    exec (.rebuiltMsg f) s = .next (u.setMarshal { u.marshal with
      rebuilds := u.marshal.rebuilds.filter (· != (f.src, bits p 0 6)) }).advanceEpoch := by
  intro p u
  change execRebuiltMsg f s = _
  unfold execRebuiltMsg
  rw [if_neg (by simp [hmsg, hmanager])]

theorem exec_restAnswerMsg {f : Frame} (hmsg : s.message f 0x12 = true) (hasked : (s.watch (msgSubject f)).restWait.contains f.src = true) :
    let w := s.watch (msgSubject f)
    let left := w.restWait.filter (· != f.src)
    let busy := w.restBusy || leCode (f.payload.take 1) % 2 == 1
    let u := s.setWatch (msgSubject f) { w with restWait := left, restBusy := busy }
    exec (.restAnswerMsg f) s = .next (if left.isEmpty ∧ !busy then u.restGranted (msgSubject f) else u) := by
  intro w left busy u
  change execRestAnswerMsg f s = _
  unfold execRestAnswerMsg
  dsimp only
  rw [if_neg (by rw [hmsg, hmanager, hasked]; decide)]

/-! ### Admission and commands (R442, R474) -/

theorem exec_marshalAdmit :
    let d := s.rd Obj.admitDesc 0
    let m := s.marshal
    bits d 145 111 = 0 → bits d 128 16 < 0x1000 → s.memState (bits d 128 16) = memFree →
    m.admits.any (fun a => a.2.1 == bits d 128 16 && a.1 != bits d 0 128) = false →
    exec .marshalAdmit s = .next ((s.setMarshal { m with
      admits := (bits d 0 128, bits d 128 16, d.testBit 144) :: m.admits.filter fun a => a.1 != bits d 0 128 }).wr Obj.marshalCmd 0 1) := by
  intro d m hreserved hid hfree hnone
  change execMarshalAdmit s = _
  unfold execMarshalAdmit
  dsimp only
  rw [if_neg (by simp [hmanager]), if_neg (not_or.mpr ⟨not_not_intro hreserved, Nat.not_le.mpr hid⟩), if_neg]
  · rfl
  · rintro (hno | hno)
    · exact hno hfree
    · exact absurd (hnone.symm.trans hno) (by decide)

theorem exec_spareReady {d : Nat} (hspare : s.memState d = memSpare) :
    let u := ((s.setMem d memReady).spareNote).wr Obj.marshalCmd 0 1
    u.marshal.vacant = [] → exec (.spareReady d) s = .next u := by
  intro u hnone
  change execSpareReady d s = _
  unfold execSpareReady
  rw [if_neg (by simp [hmanager]), if_neg (not_not_intro hspare)]
  change (.next (if (u.marshal.vacant.filter fun d => (u.chooseSpare d []).isSome).isEmpty then u
    else u.startEpoch u.marshal.vacant false) : Res) = _
  rw [hnone]
  rfl

theorem exec_marshalScratch {d : Nat} (hlive : memLive (s.memState d) = true) (hother : d ≠ s.devId) :
    exec (.marshalScratch d) s = .next ((s.decideScratch [d] 4).wr Obj.marshalCmd 0 1) := by
  change execMarshalScratch d s = _
  unfold execMarshalScratch
  rw [if_neg (by simp [hmanager]), if_neg (by simp [hlive, hother])]
  rfl

theorem exec_helloMsg {port : Nat} {f : Frame} (hport : port < 64) (hmsg : s.message f 0x0D = true) (hid : s.devId ≠ 0xFFFF)
    (hfar : f.dest ≠ 0xFFFF) : exec (.helloMsg port f) s =
      .next (s.helloAt (leCode (sliceBytes f.payload 0 16)) (leCode (sliceBytes f.payload 16 1)) f.src) := by
  have hnear : (f.dest == 0xFFFF) = false := beq_eq_false_iff_ne.mpr hfar
  change execHelloMsg port f s = _
  unfold execHelloMsg
  rw [if_neg (by omega), if_neg (by simp [hmsg, hid]), hnear]
  exact if_pos hmanager

end

theorem exec_guardSyncMsg {s : State} {f : Frame} (hmsg : s.message f 0x10 = true) (hrole : s.marshal.role ≠ 0) :
    exec (.guardSyncMsg f) s = .next { s with
      guardStore := KMap.set s.guardStore 0 (64 * f.src + leCode (sliceBytes f.payload 64 1) % 64) (leCode (sliceBytes f.payload 0 64)) } := by
  change execGuardSyncMsg f s = _
  unfold execGuardSyncMsg
  rw [if_neg (by simp [hmsg, hrole])]

/-- Settles O43: each message and command of the manager by the lemma named for it. -/
theorem managerRunsItsDomain : Obligations.ManagerRunsItsDomain := fun _ hmanager =>
  ⟨fun _ => exec_stepAckMsg hmanager, exec_stepTimeout hmanager, fun _ => exec_rebuiltMsg hmanager, fun _ => exec_guardSyncMsg,
    fun _ => exec_restAnswerMsg hmanager, exec_marshalAdmit hmanager, fun _ => exec_spareReady hmanager,
    fun _ => exec_marshalScratch hmanager, fun _ _ => exec_helloMsg hmanager⟩

/-! ### ASSIGN and TAKE_MANAGER (R442, R451) -/

theorem exec_assignMsg_own {s : State} {f : Frame} (hmsg : s.message f 0x0E = true) (hid : s.devId = 0xFFFF) (hservice : s.service = 0)
    (hserial : leCode (sliceBytes f.payload 8 16) = s.ident.serial) :
    let p := leCode (sliceBytes f.payload 0 8)
    bits p 0 16 < 0x1000 → ∃ t, exec (.assignMsg f) s = .next t ∧ t.devId = bits p 0 16 ∧
      t.service = if p.testBit 16 then 3 else 1 := by
  intro p hlow
  have hexec : exec (.assignMsg f) s =
      .next ((s.wr Obj.deviceId 0 (bits p 0 16)).wr Obj.serviceState 0 (if p.testBit 16 then 3 else 1)) := by
    change execAssignMsg f s = _
    unfold execAssignMsg
    rw [if_neg (message_taken hmsg)]
    dsimp only
    rw [if_neg (not_not_intro hid), if_neg]
    rintro (hno | hno | hno)
    · exact hno hserial
    · exact absurd hlow (Nat.not_lt.mpr hno)
    · exact hno hservice
  exact ⟨_, hexec, (State.rd_wr_obj _ _ _ _ (by decide)).trans (State.rd_wr_same _ _ _ _ rfl), State.rd_wr_same _ _ _ _ rfl⟩

theorem exec_assignMsg_relay {s : State} {f : Frame} (hmsg : s.message f 0x0E = true) (hid : s.devId ≠ 0xFFFF) :
    exec (.assignMsg f) s = .next (s.assignOut (leCode (sliceBytes f.payload 8 16)) f.payload) := by
  change execAssignMsg f s = _
  unfold execAssignMsg
  rw [if_neg (message_taken hmsg)]
  exact if_pos hid

section
variable {s : State} (hid : s.devId ≠ 0xFFFF) (hs : s.scratched = false)
include hid hs

theorem exec_takeManager (hnot : s.isManager = false) :
    let u := (s.setMarshal { s.marshal with role := 1, manager := s.devId, standby := 0xFFFF }).setMem s.devId memManager
    exec (.takeManager false) s = .next ((u.startEpoch s.marshal.lost true).wr Obj.marshalCmd 0 1) := by
  intro u
  change execTakeManager false s = _
  unfold execTakeManager
  rw [if_neg (by simp [hid, hs]), if_neg (by simp [hnot])]
  rfl

theorem exec_takeManager_managed : exec (.takeManager true) s = .next (s.wr Obj.marshalCmd 0 5) := by
  change execTakeManager true s = _
  unfold execTakeManager
  rw [if_neg (by simp [hid, hs]), if_pos (by rfl)]
  rfl

end

/-! ### The rebuild of a group (R465, R466) -/

section
variable {s : State} {entry : Nat} (hentry : entry < 64) (hs : s.scratched = false) (hstate : s.rd Obj.guardState entry = 3)
  (hmissing : (s.guard entry).missing = true) (htrial : (s.guard entry).trial = none)
  (symbols : List (Nat × List Byte)) (checks : List (Nat × Nat))
include hentry hs hstate hmissing htrial

theorem exec_guardStripeRebuild_last (hnone : s.nextStripe entry = none) :
    exec (.guardStripeRebuild entry symbols checks) s = .next (s.groupRebuilt entry) := by
  change execGuardStripeRebuild entry symbols checks s = _
  unfold execGuardStripeRebuild
  rw [if_neg (by simp [hs, hstate, hmissing, htrial]; omega), hnone]

theorem exec_guardStripeRebuild_next {x : Nat} (hnext : s.nextStripe entry = some x) :
    exec (.guardStripeRebuild entry symbols checks) s =
      .next (if s.survivorsOk entry symbols && !s.shareUsed (s.stripeController entry x)
        then s.tryStripe entry ⟨x, symbols, checks, false⟩ else s) := by
  change execGuardStripeRebuild entry symbols checks s = _
  unfold execGuardStripeRebuild
  rw [if_neg (by simp [hs, hstate, hmissing, htrial]; omega), hnext]

end

/-- A stripe that can be decoded is written, and its check is handed to the scan engine ahead of the queue. -/
theorem tryStripe_decoded {s : State} {entry : Nat} {t : Trial} {data : List (Nat × List Byte)}
    (hdata : (trialSet (s.guardK entry) t.symbols t.second).bind (decodeStripe (s.guardK entry)) = some data) :
    let u := (s.putSymbol entry t.stripe data).tryNote entry t
    s.tryStripe entry t = { u with scanJobs := ⟨.verify entry, 0, false, some 15⟩ :: u.scanJobs } := by
  intro u
  unfold State.tryStripe
  extract_lets start
  have hstart : start t = some { u with scanJobs := ⟨.verify entry, 0, false, some 15⟩ :: u.scanJobs } := by
    unfold start
    rw [hdata]
    rfl
  rw [hstart]

theorem exec_scanJobEnd_verify {s : State} {j : ScanJob} {entry : Nat} (hs : s.scratched = false)
    (hj : s.scanJobs.find? (·.running) = some j) (howner : j.owner = .verify entry) (ecc : Ecc) :
    exec (.scanJobEnd ecc) s = .next (s.verifyEnd entry ecc) := by
  change execScanJobEnd ecc s = _
  unfold execScanJobEnd
  rw [hj]
  dsimp only
  rw [if_neg (by simp [hs]), howner]

/-- Settles O44: joining, taking over and each stage of a rebuild by the lemma named for it. -/
theorem modulesJoinTakeOverAndRebuild : Obligations.ModulesJoinTakeOverAndRebuild := fun _ =>
  ⟨fun _ => exec_assignMsg_own, fun _ => exec_assignMsg_relay, exec_takeManager, exec_takeManager_managed,
    fun _ symbols checks hentry hs hstate hmissing htrial =>
      ⟨exec_guardStripeRebuild_last hentry hs hstate hmissing htrial symbols checks,
        fun _ => exec_guardStripeRebuild_next hentry hs hstate hmissing htrial symbols checks⟩,
    fun _ _ _ => tryStripe_decoded, fun _ _ ecc hs hj howner => exec_scanJobEnd_verify hs hj howner ecc⟩

end Sys2Proof.Laws
end
